-- ==== Sys2Proof/Word.lean ====
section
/-! DEFINITION. The word and byte types of the block (R2: registers are 32 bits wide) and their plainest arithmetic. -/

namespace Sys2Proof

/-- A register word (R2). -/
abbrev Word := BitVec 32

/-- A byte of the host memory space (R490). -/
abbrev Byte := BitVec 8

/-- Increment that stops at a maximum, for the saturating counters of the spec. -/
def satInc (maxv v : Nat) : Nat := if v < maxv then v + 1 else maxv

/-- Addition that stops at a maximum. -/
def satAdd (maxv v k : Nat) : Nat := min maxv (v + k)

/-- Confine an integer to an interval. -/
def clampInt (lo hi v : Int) : Int := max lo (min hi v)

end Sys2Proof
end

