-- ==== Sys2Proof/Machine/Parts.lean ====
section
/-! DEFINITION. The states of the blocks that the partner-state snapshot carries (R517): SAFE, OUT, FORM, LAW, MOD and the comb slots, outside their registers. Plain data. -/

namespace Sys2Proof.Machine

/-- One bus outside its registers (R314 to R324). -/
structure BusSt where
  /-- consecutive cycles matched, above V_MAX, and above the current limit -/
  matchRun : Nat
  overRun : Nat
  limitRun : Nat
  /-- setpoint in force in RAMPDOWN, mA -/
  ramp : Int
  /-- DAB permission is withdrawn -/
  noDab : Bool
  /-- a STOP came during CLOSING (R324) -/
  stopping : Bool
  /-- OUT_BSP_V and OUT_BSP_I as taken at the last step 4 (R314) -/
  spV : Nat
  spI : Nat
  /-- D_b of the last step 4, µW (R318) -/
  demand : Int
  /-- curtailment target K_b, µW (R320) -/
  curt : Int
  /-- PB[b], the power demand handed to MOD, Q2.29 (R248, R313) -/
  pb : Int
  deriving DecidableEq, Repr

/-- One slot's move (R328 to R332). -/
structure MoveSt where
  /-- target and origin of the move in progress -/
  tgt : Nat
  orig : Nat
  /-- the step in which the move is stuck (R330) -/
  under : Nat
  /-- SEL_GO is no longer sent in this step -/
  gone : Bool
  /-- a confirming report has been delivered -/
  seen : Bool
  deriving DecidableEq, Repr

/-- OUT outside its registers. -/
structure OutState where
  buses : List BusSt
  moves : List MoveSt
  /-- slots whose target was written past the cut point, with the target in force until the boundary after next (R24) -/
  late : List (Nat × Nat)
  /-- FORM_CURT.FRAC and the store request in force (R320) -/
  frac : Nat
  sreq : Int
  /-- a step 4 of a running state outside the precharge phase has run (R322, AUTO_ON) -/
  live : Bool
  /-- buses whose OPEN_CURRENT condition is present -/
  openCur : List Nat
  /-- the cycle that ends was one of a running state (R321) -/
  ran : Bool
  deriving DecidableEq, Repr

/-- FORM outside its registers (R215 to R238). -/
structure FormState where
  /-- angle at this cycle's sampling instant, and after the advance, units of 2^-32 of a turn -/
  thetaPrev : Nat
  theta : Nat
  omega : Int
  /-- washout speed, filtered reactive power, filtered reserve power, internal voltage -/
  ww : Int
  qf : Int
  presp : Int
  e : Int
  /-- setpoints after the ramp (R219) -/
  psetR : Int
  qsetR : Int
  vsetR : Int
  wsetR : Int
  /-- swing references and target voltage in use (R217, R218) -/
  prefSw : Int
  wsetSw : Int
  eT : Int
  /-- the references move back to those of R217 after a closure -/
  back : Bool
  /-- the three alpha values of earlier cycles, newest first (R213) -/
  hist : List (Int × Int × Int)
  /-- alpha and beta of VPCC, VFEED and ICONV, and the rotated quantities, of this cycle -/
  vp : Int × Int
  vf : Int × Int
  ic : Int × Int
  vd : Int
  vq : Int
  id : Int
  iq : Int
  /-- feeder angle at the sampling instant and after the advance, speed and filtered magnitudes (R215) -/
  thetaF0 : Nat
  thetaF : Nat
  wF : Int
  magF : Int
  magV : Int
  /-- the estimator and the terminal filter have taken their first pair -/
  seenF : Bool
  seenV : Bool
  /-- feeder and terminals: 0 neither, 1 live, 2 dead -/
  feed : Nat
  term : Nat
  /-- ramp value of energise (R227) -/
  ramp : Int
  /-- consecutive cycles in which the close conditions held -/
  holdRun : Nat
  /-- closing is permitted (R229) -/
  permit : Bool
  /-- held request: its code, or its code plus 8 in the cycle of the write (R224) -/
  req : Option Nat
  /-- a trip was sent and its feedback is awaited (R230) -/
  trip : Bool
  /-- consecutive cycles with a mismatch across a closed breaker -/
  mismatch : Nat
  /-- FE HOLD has been sent in the stopping phase (R232) -/
  held : Bool
  /-- used inputs that are invalid (R214) -/
  invalid : List Nat
  /-- a running state was entered; MOD has not formed sets in it yet (R254) -/
  entered : Bool
  /-- slots that FE HOLD of the stopping phase was sent to (R225, R232) -/
  holds : List Nat
  deriving DecidableEq, Repr

/-- LAW outside its registers (R278 to R297). -/
structure LawState where
  /-- slots that computed in the last step 4, slots with a prior output, and slots whose integrator is preset before their next computation (R282, R315) -/
  computing : List Nat
  hasOut : List Nat
  presets : List Nat
  /-- sampling instant of the cycle that set RIDE, and since when |VPCC| has been within the recovery limits, TAI ns -/
  rideT0 : Nat
  recSince : Option Nat
  /-- counting frequency stages with the sampling instant of their start -/
  stages : List (Nat × Nat)
  /-- an envelope exit has acted and not all causes have returned (R297) -/
  exited : Bool
  /-- entry to precharge, TAI ns -/
  preT0 : Nat
  deriving DecidableEq, Repr

/-- The edges of one set as sent: instants after the apply point, per leg. -/
structure LegSet where
  ea : List Nat
  eb : List Nat
  deriving DecidableEq, Repr

/-- MOD's record of one slot (R191, R259, R264). -/
structure ModSlot where
  /-- leg levels at the last apply point a report has confirmed, and the leg of the last entry: 0 none, 1 LA, 2 LB -/
  la : Bool
  lb : Bool
  entry : Nat
  /-- sets formed since, oldest first, and the set last taken to be applied -/
  pend : List LegSet
  last : LegSet
  /-- DAB_EN of the set last formed -/
  dab : Bool
  /-- consecutive intervals with the high side on throughout -/
  heldA : Nat
  heldB : Nat
  /-- slot state at the last step 5 -/
  was : Nat
  /-- fixed contribution: coasted intervals still to come, then the diodes -/
  fix : Option Nat
  deriving DecidableEq, Repr

/-- A carrier of constant on-time or off-time (R256): x_g in 2^-32 level-ns, the rest of the pulse or gap in ns, and its cell. -/
structure ModCar where
  x : Int
  left : Nat
  cell : Nat
  deriving DecidableEq, Repr

/-- MOD outside its registers; carrier g of string j stands at 16 j + g. -/
structure ModState where
  slots : List ModSlot
  cars : List ModCar
  deriving DecidableEq, Repr

/-- One comb slot outside its registers (R350 to R359). -/
structure CombSlot where
  /-- the slot is FREE and keeps a tombstone -/
  tomb : Bool
  /-- order in which it was freed -/
  freed : Nat
  /-- remainder of E_CURTAILED, 2^-32 units, and whether C_b was above 0 in the last cycle -/
  frac : Nat
  cur : Bool
  /-- INVALID_CYCLES -/
  inval : Nat
  /-- TIME_SYNC_STAT.STATE at START_TAI -/
  sync : Nat
  /-- the closing record and its signature, once built and signed -/
  record : List Byte
  sig : List Byte
  /-- failed signings -/
  tries : Nat
  deriving DecidableEq, Repr

/-- SAFE outside its registers. -/
structure SafeState where
  /-- slots in service at the SGR request and not yet confirmed (R465) -/
  sgrSlots : List Nat
  /-- SAFE watches the breaker after an SGR trip (R465) -/
  sgrBkr : Bool
  /-- per SOD: bus and slot whose current is not yet confirmed (R466) -/
  sodSlots : List (Nat × Nat)
  /-- pairs whose channels have demanded together since DISC set (R461) -/
  bothLow : List Nat
  /-- axes that have moved a Hall sector since a plausibility failure (R471) -/
  moved : List Nat
  /-- skipped counts of the last 10 ms: axis and tick of 150 MHz (R471) -/
  skips : List (Nat × Nat)
  /-- ticks of 150 MHz seen by each encoder -/
  clock : List Nat
  /-- axis, bus, and the axis position when the bus left OFF (R472) -/
  ilkPos : List (Nat × Nat × Int)
  deriving DecidableEq, Repr

end Sys2Proof.Machine
end

