-- ==== Sys2Proof/Syntax.lean ====
section
/-! DEFINITION. The syntax of the block's commands: the operand types and one constructor per row of the operation table. What the block receives from outside (frames, levels, samples, messages) is an operand. -/

namespace Sys2Proof

/-- The blocks of the device, in the order of their numbers (R556). -/
inductive Block where
  | sys | clk | boot | chk | time | hive | cell | mod | form | law | out | metr | cal | adc | fil | cap | axis | gdrv | enc
  | safe | ctc | mem | part | host | eth | seal | comb
  deriving DecidableEq, Repr

/-- The monitored supply rails (R38). -/
inductive Rail where
  | vdd08 | vddpll | vdds10 | vio18 | vio33 | vaon | v5a | vdrv
  deriving DecidableEq, Repr

/-- What the flash presents to LOAD (R71, R78): its size, the erase unit, the clock and width its SFDP table and R47 allow, and the bytes of the two slots. -/
structure FlashImage where
  mib : Nat
  eraseKib : Nat
  sckMhz : Nat
  width : Nat
  slotA : List (BitVec 8)
  slotB : List (BitVec 8)
  deriving DecidableEq, Repr

/-- A received Sync message (R122, R125): port, domain, source clock, sequence, two-step flag, origin time stamp and correction in ns. -/
structure PtpSync where
  port : Bool
  domain : BitVec 8
  src : BitVec 64
  seq : BitVec 16
  twoStep : Bool
  origin : BitVec 64
  corr : Int
  /-- carried by UDP/IPv4, else by Layer 2 (R122) -/
  udp : Bool
  /-- uses only the options that R122 lists -/
  plain : Bool
  deriving DecidableEq, Repr

/-- A received Follow_Up message. -/
structure PtpFollowUp where
  port : Bool
  domain : BitVec 8
  src : BitVec 64
  seq : BitVec 16
  origin : BitVec 64
  corr : Int
  /-- carried by UDP/IPv4, else by Layer 2 (R122) -/
  udp : Bool
  /-- uses only the options that R122 lists -/
  plain : Bool
  deriving DecidableEq, Repr

/-- A received Delay_Req or Pdelay_Req message. -/
structure PtpReq where
  port : Bool
  domain : BitVec 8
  src : BitVec 64
  seq : BitVec 16
  corr : Int
  /-- carried by UDP/IPv4, else by Layer 2 (R122) -/
  udp : Bool
  /-- uses only the options that R122 lists -/
  plain : Bool
  deriving DecidableEq, Repr

/-- A received Delay_Resp message with the master's receive time stamp. -/
structure PtpDelayResp where
  port : Bool
  domain : BitVec 8
  src : BitVec 64
  seq : BitVec 16
  receive : BitVec 64
  corr : Int
  /-- carried by UDP/IPv4, else by Layer 2 (R122) -/
  udp : Bool
  /-- uses only the options that R122 lists -/
  plain : Bool
  /-- names this port as the one that asked -/
  toUs : Bool
  deriving DecidableEq, Repr

/-- A Pdelay_Resp with its Pdelay_Resp_Follow_Up: the peer's receive and transmit time stamps. -/
structure PtpPdelayResp where
  port : Bool
  domain : BitVec 8
  seq : BitVec 16
  receive : BitVec 64
  transmit : BitVec 64
  corr : Int
  /-- carried by UDP/IPv4, else by Layer 2 (R122) -/
  udp : Bool
  /-- uses only the options that R122 lists -/
  plain : Bool
  /-- names this port as the one that asked -/
  toUs : Bool
  deriving DecidableEq, Repr

/-- A received Announce message (R124): the data set the best master clock algorithm compares. -/
structure PtpAnnounce where
  port : Bool
  domain : BitVec 8
  src : BitVec 64
  gm : BitVec 64
  priority1 : BitVec 8
  clockClass : BitVec 8
  accuracy : BitVec 8
  variance : BitVec 16
  priority2 : BitVec 8
  steps : BitVec 16
  ptpScale : Bool
  utcOffset : BitVec 16
  utcValid : Bool
  /-- carried by UDP/IPv4, else by Layer 2 (R122) -/
  udp : Bool
  /-- uses only the options that R122 lists -/
  plain : Bool
  deriving DecidableEq, Repr

/-- The content of the partner-state snapshot (R517), taken at one boundary. The spec gives its parts and their sizes, not their bit layout, so the model carries the content as data (log entry 21). -/
structure Snapshot where
  cyc : Nat                       -- header: cycle number, boundary TAI, snapshot number
  tai : Nat
  number : Nat
  pwr : Nat                       -- power state and SAFE_CAUSE
  cause : Nat
  gen : Nat                       -- BOOT_GEN, CRCs of the active banks of FORM and LAW
  formCrc : Nat
  lawCrc : Nat
  form : Machine.FormState        -- R237
  law : Machine.LawState          -- R299
  mod : Machine.ModState          -- R268
  out : Machine.OutState          -- R334
  rems : List (Nat × Nat)         -- remainders of METR (R360)
  combs : List (Nat × Machine.CombSlot)   -- comb slots carried (R360)
  next : Nat                      -- METR_SEQ.NEXT
  record : Option (Nat × List (BitVec 8)) -- a record released in the cycle: handle and entry
  safe : Machine.SafeState
  energised : Nat                 -- CTC energised and forced masks
  forced : Nat
  rings : Nat                     -- mask of the sender's enabled rings
  regs : List (Nat × BitVec 32)   -- registers carried
  deriving DecidableEq, Repr

/-- What enumeration reads of one slot (R164, R181, R376): FE_ID, FE_VER and FE_CAL, and whether the slot reached PRIMED in time. -/
structure SlotObs where
  slot : Nat
  id : Nat
  ver : Nat
  feCal : List Nat
  primed : Bool
  deriving DecidableEq, Repr

/-- What the checks of Primer find outside the registers (R81). -/
structure PrimerObs where
  badTile : Option Nat          -- step 1: an uncorrectable tile, host memory address / 32
  bridges : List (Int × Int × Int)  -- step 2: SH of each half-bridge in the three steps of R438, 10 mV
  glOn : List Nat               -- step 2: half-bridges whose low gate reads on under an inhibit of the test (R477)
  xchkMean : Int               -- step 3: mean difference of AIN23 between ADC_A and ADC_B, 2^-4 LSB
  refOk : Bool                  -- step 3: both check points within 0x8000 ± 33 LSB
  stuck : List Nat              -- step 4: bitstreams without both levels
  keyed : List (Nat × List Int × List Int)  -- step 5: ring, path delays from end A and from end B in 1/16 ns
  breaks : List (Nat × Nat)    -- step 5: ring and hop of each break that its ends found (R165)
  slots : List SlotObs          -- step 5: the slots enumerated
  partner : Option Snapshot     -- steps 5 and 6: the snapshots of an ACTIVE partner, together (R516)
  duration : Nat                -- duration in 0.1 ms
  deriving DecidableEq, Repr

/-- A field input that a reversed connection can reach (R55), by group and ball number: encoder n, trip input, safety input pair and channel, feedback input. -/
inductive FieldInput where
  | enc (n : Fin 4) (line : Fin 6)
  | trip (i : Fin 8)
  | si (i : Fin 4) (chB : Bool)
  | fb (k : Fin 40)
  deriving DecidableEq, Repr

/-- The commands of the block: one constructor per row of the operation table. -/
inductive Instr where
  /-- R531 WRITE_REG: QSPI frame 0x02 writes N consecutive registers, executing each word in ascending address order under its access code. -/
  | writeReg (seq : BitVec 8) (addr : BitVec 24) (n : BitVec 8) (data : List (BitVec 32)) (crc : BitVec 16) (whole : Bool)
  /-- R532 READ_REG: QSPI frame 0x0B reads N consecutive registers and returns sync byte, STATUS, data and CRC. -/
  | readReg (addr : BitVec 24) (n : BitVec 8)
  /-- R531 WRITE_MEM: QSPI frame 0x12 writes LEN bytes at a host memory address within one bank. -/
  | writeMem (seq : BitVec 8) (addr : BitVec 24) (len : BitVec 16) (data : List (BitVec 8)) (crc : BitVec 16) (whole : Bool) (sameCycle : Bool)
  /-- R532 READ_MEM: QSPI frame 0x1B reads LEN bytes from a host memory address, flagging poisoned tiles. -/
  | readMem (addr : BitVec 24) (len : BitVec 16)
  /-- R535 RESULT: QSPI frame 0x05 returns LAST_SEQ, STATUS and FIRST of the last accepted write. -/
  | result
  /-- R533 HOST_WRITE_COMPLETE: Execution of an accepted write frame completes, recording its outcome and clearing BUSY. -/
  | hostWriteComplete
  /-- R7 REGISTER_WRITE: A write to a register with no row of its own, each field judged under its access code. -/
  | registerWrite (addr : BitVec 24) (v : BitVec 32)
  /-- R3 PAIR_LOW_READ: A read of the low word of a 64-bit pair captures the high word. -/
  | pairLowRead (addr : BitVec 24)
  /-- R3 PAIR_HIGH_READ: A read of the high word returns the captured value and ends the capture, or the live value if none is pending. -/
  | pairHighRead (addr : BitVec 24)
  /-- R3 PAIR_LOW_WRITE: A write of the low word of a 64-bit pair is held pending. -/
  | pairLowWrite (addr : BitVec 24) (v : BitVec 32)
  /-- R3 PAIR_HIGH_WRITE: A write of the high word makes the pair take effect together with any pending low word. -/
  | pairHighWrite (addr : BitVec 24) (v : BitVec 32)
  /-- R114 TIME_NOW_READ: A read of TIME_NOW's low word captures the high word and TIME_NOW_FRAC from the same tick. -/
  | timeNowRead
  /-- R84 BLOCK_ENABLE: A write of 1 to a block's CTRL.EN starts its dependency and configuration check. -/
  | blockEnable (b : Block)
  /-- R84 CONFIG_CHECK_DONE: The configuration check of an enable completes, setting EN or recording the refusal in CHK. -/
  | configCheckDone (b : Block)
  /-- R15 BLOCK_DISABLE: A write of 0 to a block's CTRL.EN disables it unless a dependent block is enabled. -/
  | blockDisable (b : Block)
  /-- R18 CYCLE_RUN_START: After SYS is enabled, the cycle starts at the first boundary strictly after the check completes. -/
  | cycleRunStart
  /-- R25 CYCLE_BOUNDARY: At each cycle boundary the device runs the boundary steps in fixed order within 500 ns. -/
  | cycleBoundary
  /-- R20 SAMPLING_INSTANT: All cells sample at SAMPLE_OFS after the cycle start. -/
  | samplingInstant
  /-- R148 REPORT_MISSING: A serving end finds a report missing or bad and sends a RECALL if the repeat can still arrive in time. -/
  | reportMissing (r : Fin 12) (p : Fin 16) (t : Nat)
  /-- R151 REPORT_WINDOW_END: At the end of the report-repeat window each position counts a delivery or a miss. -/
  | reportWindowEnd
  /-- R279 STEP4_COMPUTE: At step 4 OUT, FORM, LAW and CELL compute from the delivered reports in fixed order. -/
  | step4Compute
  /-- R284 FOLLOW_TIMEOUT: FE_CNT reaching FE_TMO raises FOLLOW, sets FE_TRIP and applies FE_ACT. -/
  | followTimeout (k : Fin 19)
  /-- R248 STEP5_MODULATE: At step 5 MOD forms edge sets for every eligible slot and fills the waggle store. -/
  | step5Modulate
  /-- R145 WAGGLE_TRAIN_START: Each serving end sends its waggle frames back to back from the step 6 window. -/
  | waggleTrainStart
  /-- R149 WAGGLE_RESEND_WINDOW: Serving ends launch waggle resends for received NAKs within the resend window and time condition. -/
  | waggleResendWindow
  /-- R187 APPLY_POINT: Cells apply the edge set governing the interval from A(c). -/
  | applyPoint
  /-- R146 MBX_WINDOW_LAUNCH: A ring end starts queued mailbox frames within the mailbox start windows. -/
  | mbxWindowLaunch (r : Fin 12) (endB : Bool) (t : Nat)
  /-- R140 REPORT_RX: A REPORT frame arrives at a ring end and is stored or discarded as duplicate or stray. -/
  | reportRx (r : Fin 12) (frame : List (BitVec 8))
  /-- R152 MBX_RSP_RX: An MBX_RSP arrives and completes its transaction with a completion entry. -/
  | mbxRspRx (r : Fin 12) (frame : List (BitVec 8))
  /-- R149 NAK_RX: A NAK arrives at a serving end and queues a waggle resend. -/
  | nakRx (r : Fin 12) (endB : Bool) (frame : List (BitVec 8))
  /-- R166 BREAK_RX: A BREAK frame arrives; HIVE declares or heals a break and raises BREAK. -/
  | breakRx (r : Fin 12) (frame : List (BitVec 8))
  /-- R166 END_LOCK_LOSS: A device ring end loses lock and acts as a break of the adjacent hop. -/
  | endLockLoss (r : Fin 12) (endB : Bool)
  /-- R167 FRAGMENT_SERVICE: Fragment service takes effect from the first train at least 1 µs after the break. -/
  | fragmentService (r : Fin 12)
  /-- R162 KEY_ECHO_RX: A KEY echo returns and contributes a path-delay sample. -/
  | keyEchoRx (r : Fin 12) (endB : Bool) (frame : List (BitVec 8)) (trip : Nat)
  /-- R163 KEYING_PASS: The keying pass measures and checks hop delays on each enabled ring. -/
  | keyingPass (r : Fin 12)
  /-- R164 ENUMERATION: HIVE assigns each position, reads identity and hands it to CELL. -/
  | enumeration (r : Fin 12) (p : Fin 16)
  /-- R181 FE_SYNC_LAUNCH: HIVE launches FE SYNC only at an instant from which the frame ends before the next beat. -/
  | feSyncLaunch (slot : Fin 192) (t : Nat)
  /-- R180 ENUM_TIMEOUT: A slot not primed within 4 ms of ENUM goes to BYPASSED. -/
  | enumTimeout (slot : Fin 192)
  /-- R170 REKEY_PASS: After a healed BREAK HIVE re-keys the ring within the mailbox windows. -/
  | rekeyPass (r : Fin 12)
  /-- R170 NORMAL_SERVICE_RETURN: A healed ring returns to normal service at the first cycle start after its conditions hold. -/
  | normalServiceReturn (r : Fin 12)
  /-- R170 RING_RESTORE: A write of HIVE_RCTL.RESTORE requests return of a healed ring to normal service. -/
  | ringRestore (r : Fin 12)
  /-- R161 BLOCK_REPEAT: The BLOCK is repeated every BLOCK_REP µs while the request stands. -/
  | blockRepeat
  /-- R161 BLOCK_ECHO_RX: The other end's BLOCK arrives through the ring. -/
  | blockEchoRx (r : Fin 12) (endB : Bool) (frame : List (BitVec 8))
  /-- R161 BLOCK_ECHO_TIMEOUT: No BLOCK from the other end within 5 µs on an unbroken ring raises BLOCK_ECHO. -/
  | blockEchoTimeout (r : Fin 12) (endB : Bool)
  /-- R152 MBX_RSP_TIMEOUT: A transaction without response after RSP_TMO cycles is retried or completes with TIMEOUT. -/
  | mbxRspTimeout (tag : Fin 64)
  /-- R157 SQ_TAIL_WRITE: Host writes HIVE_MBX_SQ_PTR.TAIL to submit entries, refused if it passes HEAD. -/
  | sqTailWrite (tail : BitVec 9)
  /-- R157 SQ_ENTRY_TAKE: HIVE takes a submission entry once a tag, completion entry and queue place are free. -/
  | sqEntryTake
  /-- R174 CQ_HEAD_WRITE: Host advances HIVE_MBX_CQ_PTR.HEAD, freeing completion entries. -/
  | cqHeadWrite (head : BitVec 9)
  /-- R185 CELL_BYPASS: Host command BYPASS for a slot, judged at the next step 4. -/
  | cellBypass (slot : Fin 192)
  /-- R185 CELL_CLEAR: Host command CLEAR for a BYPASSED or FAULTED slot, judged at the next step 4. -/
  | cellClear (slot : Fin 192)
  /-- R185 CELL_ARM: Host command ARM for a PRIMED or blocked slot, judged at the next step 4. -/
  | cellArm (slot : Fin 192)
  /-- R183 BYP_UNCONF_TIMEOUT: BYP_TIME passing without bypass confirmation raises BYP_UNCONF. -/
  | bypUnconfTimeout (slot : Fin 192)
  /-- R39 AON_POR_RELEASE: The always-on domain leaves power-on reset 2 ms after VAON passes its threshold with a clock running. -/
  | aonPorRelease
  /-- R108 FAULT_HOLD_RESTORE: The always-on domain restores SYS_FAULT_HOLD from MRAM and releases FAULT_N from its forced low. -/
  | faultHoldRestore (copyOk : Bool)
  /-- R39 CORE_RESET_RELEASE: The control die leaves reset 2 ms after the last core rail passes its threshold with RESET_N high. -/
  | coreResetRelease
  /-- R38 RAIL_UV_FALL: A supply rail falls below its UV threshold, holding its domain in reset. -/
  | railUvFall (r : Rail)
  /-- R38 RAIL_UV_RISE: A supply rail rises above its UV threshold. -/
  | railUvRise (r : Rail)
  /-- R40 WARM_RESET: RESET_N low for at least 1 µs resets the control die outside the always-on domain. -/
  | warmReset
  /-- R40 COLD_RESET: VAON falling below its threshold resets the whole device. -/
  | coldReset
  /-- R31 HEARTBEAT_LOSS: Absence of the control die's heartbeat for 1 µs makes the pulse-inhibit path remove gate drive. -/
  | heartbeatLoss
  /-- R476 LOSS_PULSE_END: A LOSS = 2 output de-energises after 100 ms. -/
  | lossPulseEnd (o : Fin 40)
  /-- R57 WAKE_BALL: The WAKE ball rises in DORMANT and the device goes to WAKE. -/
  | wakeBall
  /-- R92 RTC_ALARM: The RTC reaches SYS_AON_ALARM in DORMANT and the device goes to WAKE. -/
  | rtcAlarm
  /-- R61 XTAL_LOSS: No crystal edge for 122 µs declares the crystal lost and the RC backup takes over. -/
  | xtalLoss
  /-- R61 XTAL_RETURN: After 32,768 good crystal periods the always-on domain returns to the crystal. -/
  | xtalReturn
  /-- R59 RESUME: Host command RESUME leaves SAFE for PRIME or READY. -/
  | resume
  /-- R60 RELOAD: Host command RELOAD in SAFE takes back the flash port and begins LOAD. -/
  | reload
  /-- R57 DORMANT: Host command DORMANT enters DORMANT from READY or SAFE. -/
  | dormant
  /-- R224 START: Host command START enters the running state named by START_MODE. -/
  | start
  /-- R91 ENTER_SAFE: Host command ENTER_SAFE invokes SGR. -/
  | enterSafe
  /-- R63 PLL_CTRL_WRITE: A write to CLK_PLL_CTRL is checked and restarts acquisition of the PLL. -/
  | pllCtrlWrite (p : Fin 2) (v : BitVec 32)
  /-- R68 PLL_REACQ: A write of REACQ restarts acquisition of the PLL. -/
  | pllReacq (p : Fin 2)
  /-- R70 PLL_BAND_WRITE: A write to a band table entry is checked and restarts acquisition. -/
  | pllBandWrite (p : Fin 2) (b : Fin 16) (v : BitVec 32)
  /-- R69 LOL_CLEAR: A W1C of CLK_PLL_STAT.LOL, refused while unlocked. -/
  | lolClear (p : Fin 2)
  /-- R64 PLL_LOCK: The phase detector stays in lock for 20 µs and lock is declared in the band. -/
  | pllLock (p : Fin 2)
  /-- R64 PLL_BAND_TIMEOUT: A band not locked 100 µs after selection is abandoned for the next, or NO_BAND is set. -/
  | pllBandTimeout (p : Fin 2)
  /-- R67 LOSS_OF_LOCK: A PLL leaves lock and the device reacts by power state. -/
  | lossOfLock (p : Fin 2)
  /-- R78 LOAD_SEQUENCE: LOAD reads flash, chooses a slot, checks and applies the image, then goes to PRIME. -/
  | loadSequence (flash : Option FlashImage)
  /-- R81 PRIMER_RUN: PRIME runs Primer steps 1–6 with block enables and reaches READY or SAFE. -/
  | primerRun (obs : PrimerObs)
  /-- R83 START_MODE_REQUEST: On entering READY with START_MODE ≠ 0 the device requests the named running state at the next boundary. -/
  | startModeRequest
  /-- R101 FLT_WINDOW_CLOSE: A counting window closes W × 10 µs after the event that opened it and WCNT returns to 0. -/
  | fltWindowClose (b : Block) (src : Fin 16)
  /-- R103 EVT_CLEAR: A W1C of an EVT bit clears the pending notice. -/
  | evtClear (b : Block) (mask : BitVec 16)
  /-- R105 SEV_CLEAR: A W1C of an SEV bit clears a pulse source or a level source whose condition is absent. -/
  | sevClear (b : Block) (mask : BitVec 16)
  /-- R109 FAULT_HOLD_CLEAR: A W1C of SYS_FAULT_HOLD clears held bits of blocks no longer severe. -/
  | faultHoldClear (v : BitVec 32)
  /-- R119 TIME_STEP_WRITE: A write of TIME_STEP's high word steps the counter unless gating or in PRIME. -/
  | timeStepWrite (v : BitVec 32)
  /-- R120 OFS_REQUEST: A write to TIME_OFS_REQ hands a host offset to the phase slew or is refused. -/
  | ofsRequest (v : BitVec 32)
  /-- R120 FREQ_ADJ_WRITE: A write to TIME_FREQ_ADJ takes effect on the next tick when SRC is host. -/
  | freqAdjWrite (v : BitVec 32)
  /-- R116 PHASE_SLEW_DONE: The phase slew removes the last of its pending correction and SLEWING clears. -/
  | phaseSlewDone
  /-- R115 RTC_REALIGN: Once per second while LOCKED or MASTER the RTC is realigned to the counter. -/
  | rtcRealign
  /-- R125 PTP_SYNC_RX: A Sync message gives an offset sample to the servo, which slews, steps or refuses. -/
  | ptpSyncRx (m : PtpSync)
  /-- R122 PTP_FOLLOW_UP_RX: A Follow_Up message completes a two-step Sync sample. -/
  | ptpFollowUpRx (m : PtpFollowUp)
  /-- R122 PTP_DELAY_REQ_RX: As master, a Delay_Req is answered with Delay_Resp. -/
  | ptpDelayReqRx (m : PtpReq)
  /-- R122 PTP_DELAY_RESP_RX: A Delay_Resp updates the mean path delay. -/
  | ptpDelayRespRx (m : PtpDelayResp)
  /-- R122 PTP_PDELAY_REQ_RX: A Pdelay_Req is answered under P2P. -/
  | ptpPdelayReqRx (m : PtpReq)
  /-- R122 PTP_PDELAY_RESP_RX: A Pdelay response updates the mean path delay. -/
  | ptpPdelayRespRx (m : PtpPdelayResp)
  /-- R124 PTP_ANNOUNCE_RX: An Announce message is qualified and the BMCA may select a master. -/
  | ptpAnnounceRx (m : PtpAnnounce)
  /-- R122 PTP_SYNC_SEND: As master the device sends two-step Sync and Follow_Up at its interval. -/
  | ptpSyncSend
  /-- R122 PTP_ANNOUNCE_SEND: As master the device sends Announce at its interval. -/
  | ptpAnnounceSend
  /-- R122 PTP_DELAY_REQ_SEND: As slave the device sends Delay_Req or Pdelay_Req at its interval. -/
  | ptpDelayReqSend
  /-- R121 ANNOUNCE_TIMEOUT: Announce receipt timeout moves the port to the backup MAC or enters HOLDOVER. -/
  | announceTimeout
  /-- R226 MODE_SYNC: FORM_MODE_CMD SYNC requests a synchronised start from READY. -/
  | modeSync
  /-- R226 MODE_FORM: FORM_MODE_CMD FORM requests a SYNC sequence with closing permitted. -/
  | modeForm
  /-- R226 MODE_BLACKSTART: FORM_MODE_CMD BLACKSTART requests energising a dead grid from a STORE bus. -/
  | modeBlackstart
  /-- R226 MODE_RESYNC: FORM_MODE_CMD RESYNC requests resynchronisation from FORM islanded. -/
  | modeResync
  /-- R229 MODE_CLOSE: FORM_MODE_CMD CLOSE permits closing in track or closing. -/
  | modeClose
  /-- R232 MODE_ISLAND: FORM_MODE_CMD ISLAND sends the breaker trip in FORM connected. -/
  | modeIsland
  /-- R232 MODE_STOP: FORM_MODE_CMD STOP runs the stopping phase from any running state. -/
  | modeStop
  /-- R215 FEEDER_LIVE_CHANGE: Feeder or terminal magnitude held across LIVE_V or DEAD_V for LIVE_HOLD changes live status. -/
  | feederLiveChange (feeder : Bool) (live : Bool)
  /-- R229 SYNC_HOLD_REACHED: Close conditions held for SYNC_HOLD cycles with closing permitted start the close pulse. -/
  | syncHoldReached
  /-- R229 CLOSE_PULSE_END: The breaker coil pulse ends after BKR_PULSE. -/
  | closePulseEnd
  /-- R230 BKR_FB_CHANGE: The breaker feedback input changes and FORM takes it as the breaker's state. -/
  | bkrFbChange (closed : Bool)
  /-- R230 BKR_TRANSIT_TIMEOUT: Breaker feedback not following a close or trip within BKR_MS raises BKR_DISAGREE. -/
  | bkrTransitTimeout
  /-- R230 BKR_MISMATCH_DETECT: Closed breaker with phase mismatch above BKR_DV for 3 cycles requests SGR. -/
  | bkrMismatchDetect
  /-- R225 SYNC_TIMEOUT: SYNC_TMO expiry ends SYNC or RESYNC with 0x0824. -/
  | syncTimeout
  /-- R225 BS_TIMEOUT: BS_TMO expiry ends BLACKSTART with 0x0826. -/
  | bsTimeout
  /-- R232 STOP_RAMP_END: Power reaches 0.02 pu or 1/STOP_RAMP passes and FORM sends the trip. -/
  | stopRampEnd
  /-- R280 BANK_SWAP: A write of SWAP checks the inactive bank and sets SWAP_PENDING or raises SWAP_REFUSED. -/
  | bankSwap (law : Bool)
  /-- R283 LAW_MAN_WRITE: A write of LAW_SMAN.MAN moves a slot between manual and automatic at the next step 4. -/
  | lawManWrite (k : Fin 19) (v : BitVec 32)
  /-- R291 PRE_CTC_TIMEOUT: Precharge contactor feedback not following within PRE_CTC_MS fails precharge. -/
  | preCtcTimeout
  /-- R291 PRE_TIMEOUT: PRE_TMO expiry before the done conditions fails precharge. -/
  | preTimeout
  /-- R290 PRECHARGE_DONE: Done conditions hold; the coil opens and FORM enters energise. -/
  | prechargeDone
  /-- R294 RIDE_RECOVER: VPCC within recovery limits for RT_REC clears RIDE. -/
  | rideRecover
  /-- R296 FREQ_STAGE_EXPIRY: A frequency stage condition held for TIME is an envelope exit. -/
  | freqStageExpiry (k : Fin 8)
  /-- R323 BUS_ON: OUT_BCMD ON moves an OFF bus to MATCHING. -/
  | busOn (b : Fin 12)
  /-- R323 BUS_OFF: OUT_BCMD OFF moves a bus to OFF or RAMPDOWN. -/
  | busOff (b : Fin 12)
  /-- R323 BUS_CLEAR: OUT_BCMD CLEAR returns an UNAVAILABLE bus to OFF. -/
  | busClear (b : Fin 12)
  /-- R314 BUS_SETPOINT_WRITE: A write to OUT_BSP_V or OUT_BSP_I is range-checked and taken whole at the next step 4. -/
  | busSetpointWrite (b : Fin 12) (amps : Bool) (v : BitVec 32)
  /-- R322 MATCH_HOLD_REACHED: Bus voltage matched for MATCH_HOLD cycles moves the bus to CLOSING. -/
  | matchHoldReached (b : Fin 12)
  /-- R322 MATCH_TIMEOUT: MATCH_TMO expiry returns the bus to OFF with BUS_FAIL. -/
  | matchTimeout (b : Fin 12)
  /-- R322 BUS_CTC_TIMEOUT: Bus contactor feedback not following within CTC_MS makes the bus UNAVAILABLE. -/
  | busCtcTimeout (b : Fin 12)
  /-- R322 OPEN_TMO_EXPIRY: RAMPDOWN exceeding OPEN_TMO raises OPEN_CURRENT and requests SOD. -/
  | openTmoExpiry (b : Fin 12)
  /-- R326 ALLOC_TARGET_WRITE: A write to OUT_ALLOC_TGT sets the targets of eight slots, judged whole. -/
  | allocTargetWrite (m : Fin 24) (v : BitVec 32)
  /-- R330 ALLOC_STUCK: A move step not passing within SEL_TMO sets STEP 7 and raises ALLOC_STUCK. -/
  | allocStuck (slot : Fin 192)
  /-- R353 SESSION_RESERVE: COMB_CMD RESERVE submits a reservation, judged at the next boundary. -/
  | sessionReserve (bus : BitVec 4) (cid : BitVec 16)
  /-- R353 SESSION_START: COMB_CMD START submits a session start, judged at the next boundary. -/
  | sessionStart (bus : BitVec 4) (cid : BitVec 16)
  /-- R353 SESSION_STOP: COMB_CMD STOP submits a session stop that builds the closing record. -/
  | sessionStop (cid : BitVec 16)
  /-- R353 SESSION_CANCEL: COMB_CMD CANCEL frees a RESERVED slot. -/
  | sessionCancel
  /-- R353 SESSION_ACK: COMB_CMD ACK frees a CLOSED slot whose handle matches. -/
  | sessionAck
  /-- R356 SIGN_QUEUE_ENTER: A built record enters the signing queue as places free. -/
  | signQueueEnter
  /-- R355 RECORD_SIGNED: Signing of a record completes and the signature is verified. -/
  | recordSigned
  /-- R358 COMB_FETCH: A write to COMB_FETCH copies a signed entry into BANK_HOST. -/
  | combFetch (hdl : BitVec 32)
  /-- R359 CHECKPOINT: Every CKPT_MS METR writes a checkpoint of slots, accumulators and totalisers to MRAM. -/
  | checkpoint
  /-- R375 CAL_APPLY: A write of CAL_UCMD.APPLY checks staged user values and sets PENDING. -/
  | calApply
  /-- R379 CAL_ESTIMATE: Once fine outputs covering a cycle arrive the estimator forms equations and updates trim estimates. -/
  | calEstimate
  /-- R395 SAR_ENTRY_START: A converter starts the next sequence entry after its DELAY and start-up. -/
  | sarEntryStart (a : Fin 2)
  /-- R396 SAR_CONVERSION: A SAR conversion completes and FINE and SKIM values are written. -/
  | sarConversion (a : Fin 2) (code : BitVec 16) (t : Nat)
  /-- R397 REF_FAULT: VREF outside 4.0–4.2 V for 10 µs marks the converter's values invalid. -/
  | refFault (a : Fin 2)
  /-- R401 FIL_OUTPUT: A filter output is produced at its decimation instant with stamp and validity. -/
  | filOutput (n : Fin 36) (fine : Bool) (x : BitVec 32) (t : Nat)
  /-- R405 DSM_STUCK: A bitstream without transition for STUCK_CLK periods is marked invalid. -/
  | dsmStuck (n : Fin 36)
  /-- R405 SETTLING_END: The settling time after a condition ends expires and outputs become valid. -/
  | settlingEnd (n : Fin 36) (fine : Bool)
  /-- R408 CAP_TICK: A capture tick falls at a multiple of PER. -/
  | capTick
  /-- R408 CAP_RECORD_ASSEMBLE: A record is assembled once all its values can be formed, stored and evaluated for trigger. -/
  | capRecordAssemble
  /-- R410 CAP_ARM: CAP_CMD ARM starts a capture from IDLE or DONE. -/
  | capArm
  /-- R409 CAP_FORCE: CAP_CMD FORCE fires the trigger at the next record. -/
  | capForce
  /-- R410 CAP_STOP: CAP_CMD STOP ends the capture with END_CAUSE 3. -/
  | capStop
  /-- R412 CAP_PACKET_SEND: A stream DATA packet leaves ETH0 once K records are held or the capture has ended. -/
  | capPacketSend
  /-- R412 CAP_END_PACKET: The END packet is sent once every stored record has been sent. -/
  | capEndPacket
  /-- R413 PAUSE_RX: An IEEE 802.3x pause frame on ETH0 holds transmission. -/
  | pauseRx (quanta : BitVec 16)
  /-- R538 ETH_RX: A received Ethernet frame is accepted as PTP or discarded and counted. -/
  | ethRx (p : Bool) (fcsOk : Bool) (frame : List (BitVec 8))
  /-- R539 MDIO_POLL: Every 10 ms the MAC reads PHY register 1 and updates LINK. -/
  | mdioPoll (p : Bool) (reg1 : BitVec 16)
  /-- R539 MDIO_WRITE: ETH_MDIO OP write starts a clause 22 write transaction. -/
  | mdioWrite (phy : BitVec 5) (reg : BitVec 5) (data : BitVec 16)
  /-- R539 MDIO_READ: ETH_MDIO OP read starts a clause 22 read transaction. -/
  | mdioRead (phy : BitVec 5) (reg : BitVec 5)
  /-- R539 MDIO_DONE: An MDIO transaction completes and BUSY clears. -/
  | mdioDone (data : BitVec 16)
  /-- R427 PWM_PERIOD_START: An axis PWM period starts and a committed duty set or refresh takes effect. -/
  | pwmPeriodStart (n : Fin 4)
  /-- R429 AXIS_COMMIT: A write of AXIS_COMMIT checks the duty set and sets PENDING. -/
  | axisCommit (n : Fin 4)
  /-- R434 BST_UV: Bootstrap undervoltage turns the high side off and forces a refresh next period. -/
  | bstUv (h : Fin 12)
  /-- R437 DDT_SHORT: DDT threshold exceeded after blanking turns the half-bridge off and latches SC. -/
  | ddtShort (h : Fin 12)
  /-- R437 CLEAR_SC: GDRV_HCMD.CLR_SC clears the short-circuit latch while the axis is IDLE. -/
  | clearSc (h : Fin 12)
  /-- R438 OFF_STATE_TEST: The off-state test runs its three steps on each half-bridge of an axis. -/
  | offStateTest (n : Fin 4) (sh : List (Int × Int × Int))
  /-- R441 OFF_STATE_TEST_DONE: The off-state test completes and the axis goes to CHARGE or IDLE. -/
  | offStateTestDone (n : Fin 4)
  /-- R439 TRIP_INPUT: A TRIP input reads trip, sets its latch, removes gate drive and requests SGR. -/
  | tripInput (n : Fin 8)
  /-- R440 TRIP_CLEAR: A write of GDRV_TRIP_CLR clears, holds or refuses each latch's clear. -/
  | tripClear (mask : BitVec 8)
  /-- R440 TRIP_QUIET_EXPIRY: A held trip clear takes effect once the input has been inactive for TRIP_QUIET. -/
  | tripQuietExpiry (n : Fin 8)
  /-- R442 AXIS_RUN: AXIS_CMD RUN starts the test, charge and run sequence of an axis. -/
  | axisRun (n : Fin 4)
  /-- R442 AXIS_FLOAT: AXIS_CMD FLOAT sends the axis to IDLE. -/
  | axisFloat (n : Fin 4)
  /-- R442 AXIS_TEST: AXIS_CMD TEST runs the off-state test and returns to IDLE. -/
  | axisTest (n : Fin 4)
  /-- R441 CHARGE_DONE: BST_CHARGE elapses and the axis enters RUN or fails with CHARGE_FAIL. -/
  | chargeDone (n : Fin 4) (bstOk : BitVec 3)
  /-- R477 INHIBIT_TEST_END: The 10 µs inhibit test of CHARGE ends and the low sides resume. -/
  | inhibitTestEnd (n : Fin 4) (gl : BitVec 3)
  /-- R441 INHIBIT_RELEASE: No inhibit cause remains and an INHIBITED axis enters IDLE. -/
  | inhibitRelease (n : Fin 4)
  /-- R444 VBR_UV: VBRn below VBR_MIN for 10 µs sends its axis to IDLE. -/
  | vbrUv (n : Fin 4) (v : BitVec 16)
  /-- R444 VBR_REV: A reversed VBRn sends its axis to IDLE and raises VBR_REV. -/
  | vbrRev (n : Fin 4) (v : BitVec 16)
  /-- R444 VDRV_UV: VDRV undervoltage acts through the pulse-inhibit path and raises VDRV_UV. -/
  | vdrvUv (v : BitVec 16)
  /-- R445 ENC_COUNT: An encoder sample with one quadrature change counts, updates speed and fires compares. -/
  | encCount (n : Fin 4) (a : Bool) (b : Bool) (dt : Nat)
  /-- R446 ENC_INDEX: The rising edge of I latches or sets POS by IDX_MODE. -/
  | encIndex (n : Fin 4)
  /-- R448 ENC_STILL: STILL_TMO passes without a measured edge and speed becomes zero. -/
  | encStill (n : Fin 4)
  /-- R449 CMP_PULSE_END: A compare output pulse ends after PW ticks. -/
  | cmpPulseEnd (m : Fin 8)
  /-- R450 SSUP_CLEAR: A write of ENC_SSUP_CLR clears a sensor-supply latch unless the fault persists. -/
  | ssupClear (mask : BitVec 4)
  /-- R55 SUPPLY_SHORT: A sensor supply at its current limit for 2 ms turns off and latches. -/
  | supplyShort (n : Fin 4) (present : Bool)
  /-- R55 BACKFEED: A sensor supply back-fed above 5.5 V for 1 ms turns off and latches. -/
  | backfeed (n : Fin 4) (present : Bool)
  /-- R55 INPUT_REVERSE: A field input below −3 V for 1 ms raises REVERSE. -/
  | inputReverse (ball : FieldInput) (present : Bool)
  /-- R55 CTC_SHORT: A coil output at current limit for the detection time turns off and latches SHORT. -/
  | ctcShort (o : Fin 40) (present : Bool)
  /-- R55 CTC_OPEN_LOAD: An off coil output below the open-load voltage raises OPEN. -/
  | ctcOpenLoad (o : Fin 40) (present : Bool)
  /-- R55 CTC_REVERSE: A coil output below −3 V for 1 ms raises REVERSE. -/
  | ctcReverse (o : Fin 40) (present : Bool)
  /-- R473 CTC_ON: CTC_OCMD on energises a host-owned output. -/
  | ctcOn (o : Fin 40)
  /-- R473 CTC_OFF: CTC_OCMD off de-energises a host-owned output. -/
  | ctcOff (o : Fin 40)
  /-- R475 CTC_CLR: CTC_OCMD CLR clears electrical faults of an output under R56. -/
  | ctcClr (o : Fin 40)
  /-- R475 FB_CHANGE: A contactor feedback input changes level. -/
  | fbChange (k : Fin 40) (high : Bool)
  /-- R475 CTC_TRANSIT_TIMEOUT: Feedback not agreeing within the transit limit raises STUCK or WELDED and the owner's reaction. -/
  | ctcTransitTimeout (o : Fin 40)
  /-- R475 CTC_STEADY_DISAGREE: Feedback disagreeing for 8 ms after a completed transit raises STUCK or WELDED. -/
  | ctcSteadyDisagree (o : Fin 40)
  /-- R461 SI_CHANGE: A safety input channel changes and the pair's DEMAND and requests follow. -/
  | siChange (n : Fin 4) (chB : Bool) (high : Bool)
  /-- R461 SI_DISC_TIMEOUT: Channels disagreeing longer than DISC_MS set DISC and raise SI_DISC. -/
  | siDiscTimeout (n : Fin 4)
  /-- R484 SAFE_CMD_SGR: SAFE_CMD SGR requests safe gating removal. -/
  | safeCmdSgr
  /-- R484 SAFE_CMD_SOD: SAFE_CMD SOD requests safe outlet de-energisation of a bus. -/
  | safeCmdSod (b : Fin 12)
  /-- R484 SAFE_CMD_SDS: SAFE_CMD SDS requests a safe decelerating stop of an axis. -/
  | safeCmdSds (a : Fin 4)
  /-- R484 SAFE_CMD_STR: SAFE_CMD STR requests safe torque removal of an axis. -/
  | safeCmdStr (a : Fin 4)
  /-- R470 RESET_SGR: SAFE_CMD RESET_SGR ends SGR, stopping BLOCK repetition and forcing. -/
  | resetSgr
  /-- R470 RESET_SOD: SAFE_CMD RESET_SOD ends SOD of a bus. -/
  | resetSod (b : Fin 12)
  /-- R470 RESET_AXIS: SAFE_CMD RESET_AXIS ends SDS and STR of an axis. -/
  | resetAxis (a : Fin 4)
  /-- R465 SGR_COMPLETE: SGR completes when every slot is confirmed blocked and the device enters SAFE. -/
  | sgrComplete
  /-- R465 SGR_CONF_TIMEOUT: SGR completes after SGR_CONF cycles with SGR_UNCONF raised. -/
  | sgrConfTimeout
  /-- R465 BKR_OPEN_TIMEOUT: Breaker feedback not open within BKR_MS after an SGR trip raises BKR_OPEN_FAIL. -/
  | bkrOpenTimeout
  /-- R466 SOD_RAMP_END: SOD ramp ends on low current or SOD_RAMP_MS and DAB permission is withdrawn. -/
  | sodRampEnd (b : Fin 12)
  /-- R467 SOD_CONF_TIMEOUT: DAB current not confirmed low within SOD_CONF cycles fails SOD. -/
  | sodConfTimeout (b : Fin 12)
  /-- R468 SDS_CHECK: Every 100 µs SAFE checks axis speed against the deceleration limit. -/
  | sdsCheck (a : Fin 4)
  /-- R468 SDS_TIMEOUT: SDS_TMAX passing raises SDS_VIOL and requests STR. -/
  | sdsTimeout (a : Fin 4)
  /-- R471 ENC_PLAUS_FAIL: A failed encoder plausibility check raises ENC_PLAUS and requests STR. -/
  | encPlausFail (a : Fin 4)
  /-- R497 BIST_BORROW: Every PERIOD µs the background test borrows, marches and writes back one 4 KiB group. -/
  | bistBorrow (faulty : List (Fin 128))
  /-- R498 BIST_ABANDON: A borrow not finished 1.28 µs after its start is abandoned and written back. -/
  | bistAbandon
  /-- R503 MRAM_REFRESH: The MRAM controller reads, checks and rewrites each tile once every 7 days. -/
  | mramRefresh (tile : Fin 16384)
  /-- R512 HEARTBEAT_SEND: Each device sends a 16-byte heartbeat on every lane in lock every 1 µs. -/
  | heartbeatSend
  /-- R512 HEARTBEAT_RX: A partner heartbeat arrives and updates role, time offset and requests. -/
  | heartbeatRx (frame : List (BitVec 8)) (t : Nat)
  /-- R512 PARTNER_LOST: No valid heartbeat for 2 µs declares the partner lost. -/
  | partnerLost
  /-- R517 SNAPSHOT_RX: A partner snapshot is received and validated or discarded. -/
  | snapshotRx (snap : Snapshot) (crcOk : Bool) (lost : Bool)
  /-- R518 TAKEOVER: A STANDBY device takes control at T_take and runs the cycle from the snapshot. -/
  | takeover
  /-- R522 PART_SWITCH: PART_CMD SWITCH requests a planned handover at the next boundary. -/
  | partSwitch
  /-- R523 PART_REARM: PART_CMD REARM clears NO_RETURN. -/
  | partRearm
  /-- R523 HOLDOFF_EXPIRY: The home device in STANDBY for HOLDOFF requests hand-back. -/
  | holdoffExpiry
  /-- R514 PAIR_WAIT_EXPIRY: PAIR_WAIT expires in SEEKING and the device becomes ACTIVE. -/
  | pairWaitExpiry
  /-- R537 FLASH_READ: HOST_FL_CMD READ copies flash bytes into BANK_HOST. -/
  | flashRead
  /-- R537 FLASH_PROGRAM: HOST_FL_CMD PROGRAM writes a flash page from BANK_HOST under an operator session. -/
  | flashProgram
  /-- R537 FLASH_ERASE: HOST_FL_CMD ERASE erases a flash erase unit and logs it. -/
  | flashErase
  /-- R537 FLASH_OP_DONE: The flash reports completion or error and BUSY clears. -/
  | flashOpDone (ok : Bool)
  /-- R540 SEAL_SCAN: Every 100 ms the always-on domain scans the switch matrix and confirms seal state changes. -/
  | sealScan (sample : BitVec 16) (fault : Bool)
  /-- R543 SEAL_RENEWAL: The METROLOGY section is read, the digest renewed and registers compared for divergence. -/
  | sealRenewal
  /-- R544 PASS_ATTEMPT: A write of SEAL_PASS's high word submits a passcode attempt. -/
  | passAttempt (v : BitVec 32)
  /-- R544 SESSION_EXPIRY: REMAIN reaching 0 ends the operator session. -/
  | sessionExpiry
  /-- R544 PASS_LOCK: SEAL_PCMD LOCK ends the operator session. -/
  | passLock
  /-- R546 PASS_SET: SEAL_PCMD SET stores a new passcode. -/
  | passSet
  /-- R545 LOCKOUT_END: The 60 s lockout ends and FAILS returns to 0. -/
  | lockoutEnd
  /-- R172 END_LOCK_REGAIN: A device hive ring end regains lock on its receive lane and its A_UP or B_UP returns to 1. -/
  | endLockRegain (r : Fin 12) (endB : Bool)
  /-- R515 PARTNER_LANE_LOCK_CHANGE: A partner-link lane gains or loses lock, changing PART_STAT.LANES, the heartbeat lanes and readiness condition 3. -/
  | partnerLaneLockChange (lane : Fin 4) (locked : Bool)
  /-- R37 TEST_EN_CHANGE: TEST_EN rises, holding the control die in reset with every group in its reset state, or falls and releases it. -/
  | testEnChange (high : Bool)
  /-- R397 REF_FAULT_END: VREF has stayed within 4.0–4.2 V for 10 µs, so the converter's values become valid again and the REF_FAULT condition ends. -/
  | refFaultEnd (a : Fin 2)
  /-- R405 DSM_STUCK_END: After 1,024 clock periods in which the no-transition run stays below STUCK_CLK, the STUCK condition ends and settling begins. -/
  | dsmStuckEnd (n : Fin 36)
  /-- R471 HALL_LINE_CHANGE: A Hall line U, V or W of an encoder changes; HALL updates and the plausibility edge and 000/111 checks act on it. -/
  | hallLineChange (n : Fin 4) (u : Bool) (v : Bool) (w : Bool)
  /-- R471 PLAUS_CHECKS_PASSED: The plausibility checks have passed for 100 ms (with one Hall sector moved when HALL_EN = 1), clearing PLAUS_FAIL and the ENC_PLAUS condition. -/
  | plausChecksPassed (a : Fin 4)
  /-- R230 BKR_TRIP_PULSE_END: The breaker shunt-trip output, energised for BKR_PULSE by a failed close, STOP, ISLAND or SGR_BKR, is de-energised when the pulse ends. -/
  | bkrTripPulseEnd
  /-- R440 TRIP_INPUT_INACTIVE: A TRIP input returns to healthy, updating GDRV_TRIP_STAT.INPUT and starting its TRIP_QUIET interval. -/
  | tripInputInactive (n : Fin 8)
  /-- R413 PAUSE_END: The pause time of an IEEE 802.3x pause frame on ETH0 runs out, PAUSED clears and transmission resumes. -/
  | pauseEnd
  /-- R358 COMB_FETCH_DONE: The copy of a record entry into BANK_HOST completes within 100 µs, setting COMB_FETCH_STAT.DONE or FAIL. -/
  | combFetchDone
  deriving DecidableEq, Repr

end Sys2Proof
end

