-- ==== Sys2Proof/Config.lean ====
section
/-! DEFINITION. What one part or one installation fixes and what the spec leaves open. Every constant here is opaque: nothing in Lean can evaluate it, so a statement about it holds for every value (log entries 3, 4 and 6). -/

namespace Sys2Proof.Config

/-- A value the spec leaves open, drawn by a counter of the state (log entry 3). -/
opaque freeNat : Nat → Nat

/-- The fused word that a fuse-backed register shows (R7, access code OTP; log entry 4). -/
opaque fuse : Nat → BitVec 32

/-- Whether a quotient that is not exact is rounded up. The spec states no rounding for its fixed-point results (log entry 6). -/
opaque roundUp : Int → Int → Bool

/-- The result of a fixed-point operation whose exact value lies outside Q2.29, where the spec states none (log entry 6). -/
opaque outOfRange : Int → Int

/-- The value of a division by zero that the spec does not state (log entry 6). -/
opaque divZero : Int → Int

/-- The numbers r and s that ECDSA on P-256 with the fused private key and the nonce of RFC 6979 gives for a 32-byte digest (R355; log entry 7). -/
opaque ecdsa : List (BitVec 8) → Nat × Nat

/-- Whether the device's own check of a signature passes under its public key, at an attempt of this number: a fault of the hardware is what makes it fail (R355; log entry 7). -/
opaque verify : List (BitVec 8) → List (BitVec 8) → Nat → Bool

end Sys2Proof.Config
end

