-- ==== Sys2Proof/Machine/Crc.lean ====
section
/-! DEFINITION. The CRC-16 of frames and tiles (R136) and the CRC-32 of the configuration image and the checkpoint (R73). -/

namespace Sys2Proof.Machine

/-- `k` bit steps of the CRC-16 of R136: polynomial 0x1021, no reflection. -/
def crc16Bits : Nat → BitVec 16 → BitVec 16
  | 0, c => c
  | k + 1, c => crc16Bits k (if c.getLsbD 15 then (c <<< 1) ^^^ 0x1021#16 else c <<< 1)

/-- One byte of the CRC-16. -/
def crc16Byte (c : BitVec 16) (b : Byte) : BitVec 16 :=
  crc16Bits 8 (c ^^^ ((b.zeroExtend 16) <<< 8))

/-- The CRC-16 of R136: initial value 0xFFFF, no final XOR. -/
def crc16 (bs : List Byte) : BitVec 16 := bs.foldl crc16Byte 0xFFFF#16

/-- `k` bit steps of the reflected CRC-32 of R73. -/
def crc32Bits : Nat → Word → Word
  | 0, c => c
  | k + 1, c => crc32Bits k (if c.getLsbD 0 then (c >>> 1) ^^^ 0xEDB88320#32 else c >>> 1)

/-- One byte of the CRC-32. -/
def crc32Byte (c : Word) (b : Byte) : Word := crc32Bits 8 (c ^^^ b.zeroExtend 32)

/-- The CRC-32 of R73: initial value and final XOR 0xFFFF_FFFF, reflected input and output. -/
def crc32 (bs : List Byte) : Word := (bs.foldl crc32Byte 0xFFFFFFFF#32) ^^^ 0xFFFFFFFF#32

end Sys2Proof.Machine
end

