-- ==== Sys2Proof/Machine/RegForm.lean ====
section
/-! DEFINITION. The shape of the register map: fields by address and bits (R1), access codes (R7), register rows and fault sources (R96). -/

namespace Sys2Proof.Machine

/-- A field of a register: the address in the lowest unit, the steps to the next unit and the next array element, the lowest bit and the width. -/
structure Fld where
  base : Nat
  us : Nat
  st : Nat
  lo : Nat
  w : Nat
  deriving DecidableEq, Repr

/-- The address of the field's register in unit `u`, array element `i` (R1). -/
def Fld.addr (f : Fld) (u i : Nat) : Nat := f.base + f.us * u + f.st * i

/-- The access codes of R7. `rwsw` is the sealed write-only code of CAL_UCMD.APPLY (R388). -/
inductive Acc where
  | rw | ro | wo | w1c | rwl | rws | rwp | otp | rwsw
  deriving DecidableEq, Repr

/-- One field of a register row. -/
structure FieldDef where
  lo : Nat
  w : Nat
  acc : Acc
  deriving DecidableEq, Repr

/-- One row of the register map: `nu` units at step `us`, `n` elements at step `st`. -/
structure RegDef where
  base : Nat
  nu : Nat
  us : Nat
  n : Nat
  st : Nat
  fields : List FieldDef
  reset : Nat
  fuse : Nat
  deriving DecidableEq, Repr

/-- A fault source of a block (R96), with the reason a refused clear records (R105). -/
structure Source where
  blk : Block
  s : Nat
  counted : Bool
  level : Bool
  persist : Nat
  deriving DecidableEq, Repr

end Sys2Proof.Machine
end

