-- ==== Sys2Proof/Machine/RegNames.lean ====
section
/-! DEFINITION. The register fields of the spec's register tables, one constant per field, named REGISTER_FIELD as the spec names them.
Each constant holds the address of the register in the lowest unit, the step from one unit to the next, the step from one array element to the next, and the field's lowest bit and width.
A 64-bit pair (R3) has one constant per word, the high word's name ending in _H. A register that packs one small field per item (HOST_IRQ_MAP, HIVE_RMISS, MOD_ORDER, OUT_ALLOC_*) has the constant of item 0. -/

namespace Sys2Proof.Machine

/-! Fields of R32. -/
def SYS_CYC_CFG_PROFILE : Fld := ⟨0x000100, 256, 0, 0, 1⟩
/-! Fields of R33. -/
def SYS_CYC_TIMING_SAMPLE_OFS : Fld := ⟨0x000104, 256, 0, 0, 16⟩
def SYS_CYC_TIMING_APPLY_LEAD : Fld := ⟨0x000104, 256, 0, 16, 16⟩
/-! Fields of R34. -/
def SYS_CYC_NUM_CYC : Fld := ⟨0x000108, 256, 0, 0, 32⟩
def SYS_CYC_START_TAI : Fld := ⟨0x00010C, 256, 0, 0, 32⟩
def SYS_CYC_START_TAI_H : Fld := ⟨0x000110, 256, 0, 0, 32⟩
def SYS_CYC_STAT_RUNNING : Fld := ⟨0x000114, 256, 0, 0, 1⟩
def SYS_CYC_STAT_PROFILE_ACT : Fld := ⟨0x000114, 256, 0, 1, 1⟩
def SYS_CYC_STAT_DEFERRED : Fld := ⟨0x000114, 256, 0, 2, 1⟩
def SYS_CYC_STAT_DEFER_CNT : Fld := ⟨0x000114, 256, 0, 16, 16⟩
/-! Fields of R68. -/
def CLK_PLL_CTRL_FBDIV : Fld := ⟨0x010100, 256, 0, 0, 8⟩
def CLK_PLL_CTRL_POSTDIV : Fld := ⟨0x010100, 256, 0, 8, 4⟩
def CLK_PLL_CTRL_REACQ : Fld := ⟨0x010100, 256, 0, 12, 1⟩
def CLK_PLL_CTRL_PWR : Fld := ⟨0x010100, 256, 0, 13, 1⟩
/-! Fields of R69. -/
def CLK_PLL_STAT_LOCKED : Fld := ⟨0x010104, 256, 0, 0, 1⟩
def CLK_PLL_STAT_BAND : Fld := ⟨0x010104, 256, 0, 1, 4⟩
def CLK_PLL_STAT_LOL : Fld := ⟨0x010104, 256, 0, 5, 1⟩
def CLK_PLL_STAT_NO_BAND : Fld := ⟨0x010104, 256, 0, 6, 1⟩
def CLK_PLL_STAT_ACQ_CNT : Fld := ⟨0x010104, 256, 0, 8, 8⟩
def CLK_PLL_STAT_BOOT_TRIM : Fld := ⟨0x010104, 256, 0, 16, 8⟩
/-! Fields of R70. -/
def CLK_PLL_BAND_FMIN : Fld := ⟨0x010140, 256, 4, 0, 11⟩
def CLK_PLL_BAND_FMAX : Fld := ⟨0x010140, 256, 4, 11, 11⟩
def CLK_PLL_BAND_TRIM : Fld := ⟨0x010140, 256, 4, 22, 8⟩
def CLK_PLL_BAND_VALID : Fld := ⟨0x010140, 256, 4, 31, 1⟩
/-! Fields of R90. -/
def SYS_PWR_STATE_STATE : Fld := ⟨0x000200, 256, 0, 0, 4⟩
def SYS_PWR_STATE_STANDBY : Fld := ⟨0x000200, 256, 0, 4, 1⟩
def SYS_PWR_STATE_SAFE_CAUSE : Fld := ⟨0x000200, 256, 0, 8, 4⟩
def SYS_PWR_STATE_LAST_WAKE : Fld := ⟨0x000200, 256, 0, 12, 4⟩
/-! Fields of R91. -/
def SYS_PWR_CMD_CMD : Fld := ⟨0x000204, 256, 0, 0, 4⟩
/-! Fields of R92. -/
def SYS_AON_STAT_XTAL_OK : Fld := ⟨0x000208, 256, 0, 0, 1⟩
def SYS_AON_STAT_ON_RC : Fld := ⟨0x000208, 256, 0, 1, 1⟩
def SYS_AON_STAT_XTAL_LOSS_CNT : Fld := ⟨0x000208, 256, 0, 8, 8⟩
def SYS_AON_ALARM_SECONDS : Fld := ⟨0x00020C, 256, 0, 0, 32⟩
def SYS_BOOT_EN_MASK : Fld := ⟨0x000210, 256, 0, 0, 27⟩
/-! Fields of R93. -/
def SYS_PRIMER_STAT_PASS : Fld := ⟨0x000300, 256, 0, 0, 6⟩
def SYS_PRIMER_STAT_FAIL_STEP : Fld := ⟨0x000300, 256, 0, 8, 4⟩
def SYS_PRIMER_STAT_DEGRADED : Fld := ⟨0x000300, 256, 0, 12, 1⟩
def SYS_PRIMER_STAT_DURATION : Fld := ⟨0x000300, 256, 0, 16, 16⟩
/-! Fields of R94. -/
def BOOT_STAT_PHASE : Fld := ⟨0x020100, 256, 0, 0, 4⟩
def BOOT_STAT_SLOT : Fld := ⟨0x020100, 256, 0, 4, 1⟩
def BOOT_STAT_FALLBACK : Fld := ⟨0x020100, 256, 0, 5, 1⟩
def BOOT_STAT_FAIL_SECTION : Fld := ⟨0x020100, 256, 0, 8, 16⟩
def BOOT_GEN_GENERATION : Fld := ⟨0x020104, 256, 0, 0, 32⟩
def BOOT_HDR_CRC_CRC : Fld := ⟨0x020108, 256, 0, 0, 32⟩
def BOOT_FLASH_SCK_MHZ : Fld := ⟨0x02010C, 256, 0, 0, 8⟩
def BOOT_FLASH_WIDTH : Fld := ⟨0x02010C, 256, 0, 8, 2⟩
/-! Fields of R109. -/
def SYS_FAULT_HOLD_HOLD : Fld := ⟨0x000214, 256, 0, 0, 27⟩
def SYS_FAULT_HOLD_RESTORE_ERR : Fld := ⟨0x000214, 256, 0, 31, 1⟩
/-! Fields of R112. -/
def HOST_IRQ_MAP_LO_PIN : Fld := ⟨0x170400, 256, 0, 0, 2⟩
def HOST_IRQ_MAP_HI_PIN : Fld := ⟨0x170404, 256, 0, 0, 2⟩
def HOST_IRQ_PEND_REQ : Fld := ⟨0x170408, 256, 0, 0, 27⟩
def HOST_IRQ_PEND_PIN_ACT : Fld := ⟨0x170408, 256, 0, 28, 4⟩
def HOST_SEV_SUM_SEV : Fld := ⟨0x17040C, 256, 0, 0, 27⟩
/-! Fields of R128. -/
def TIME_NOW_TAI : Fld := ⟨0x040100, 256, 0, 0, 32⟩
def TIME_NOW_TAI_H : Fld := ⟨0x040104, 256, 0, 0, 32⟩
def TIME_NOW_FRAC_FRAC : Fld := ⟨0x040108, 256, 0, 0, 32⟩
def TIME_INCR_FRAC_FRAC : Fld := ⟨0x04010C, 256, 0, 0, 32⟩
def TIME_INCR_INT_INT : Fld := ⟨0x040110, 256, 0, 0, 8⟩
def TIME_FREQ_ADJ_ADJ : Fld := ⟨0x040114, 256, 0, 0, 32⟩
def TIME_SLEW_CFG_JUMP_THR : Fld := ⟨0x040118, 256, 0, 0, 20⟩
def TIME_SLEW_CFG_SLEW_MAX : Fld := ⟨0x040118, 256, 0, 20, 9⟩
def TIME_SLEW_CFG_SRC : Fld := ⟨0x040118, 256, 0, 29, 2⟩
def TIME_OFS_REQ_OFS : Fld := ⟨0x04011C, 256, 0, 0, 32⟩
def TIME_STEP_TAI : Fld := ⟨0x040120, 256, 0, 0, 32⟩
def TIME_STEP_TAI_H : Fld := ⟨0x040124, 256, 0, 0, 32⟩
def TIME_SYNC_STAT_STATE : Fld := ⟨0x040128, 256, 0, 0, 3⟩
def TIME_SYNC_STAT_GATING : Fld := ⟨0x040128, 256, 0, 3, 1⟩
def TIME_SYNC_STAT_SLEWING : Fld := ⟨0x040128, 256, 0, 4, 1⟩
def TIME_SYNC_STAT_PORT_ACT : Fld := ⟨0x040128, 256, 0, 5, 1⟩
def TIME_SYNC_STAT_UTC_VALID : Fld := ⟨0x040128, 256, 0, 6, 1⟩
def TIME_SYNC_STAT_UTC_OFS : Fld := ⟨0x040128, 256, 0, 16, 16⟩
def TIME_OFS_LAST_OFS : Fld := ⟨0x04012C, 256, 0, 0, 32⟩
def TIME_MPD_MPD : Fld := ⟨0x040130, 256, 0, 0, 32⟩
/-! Fields of R130. -/
def TIME_PTP_CFG_PROFILE : Fld := ⟨0x040200, 256, 0, 0, 1⟩
def TIME_PTP_CFG_DELAY : Fld := ⟨0x040200, 256, 0, 1, 1⟩
def TIME_PTP_CFG_TRANSPORT : Fld := ⟨0x040200, 256, 0, 2, 1⟩
def TIME_PTP_CFG_ROLE : Fld := ⟨0x040200, 256, 0, 3, 2⟩
def TIME_PTP_CFG_PORT : Fld := ⟨0x040200, 256, 0, 5, 1⟩
def TIME_PTP_CFG_BACKUP : Fld := ⟨0x040200, 256, 0, 6, 1⟩
def TIME_PTP_CFG_AUTO_STEP : Fld := ⟨0x040200, 256, 0, 7, 1⟩
def TIME_PTP_CFG_DOMAIN : Fld := ⟨0x040200, 256, 0, 8, 8⟩
def TIME_PTP_CFG_STEP_CONFIRM : Fld := ⟨0x040200, 256, 0, 16, 4⟩
def TIME_PTP_CFG_KI_SHIFT : Fld := ⟨0x040200, 256, 0, 20, 4⟩
def TIME_PTP_INT_LOG_SYNC : Fld := ⟨0x040204, 256, 0, 0, 4⟩
def TIME_PTP_INT_LOG_ANN : Fld := ⟨0x040204, 256, 0, 4, 4⟩
def TIME_PTP_INT_LOG_DREQ : Fld := ⟨0x040204, 256, 0, 8, 4⟩
def TIME_PTP_INT_ANN_TIMEOUT : Fld := ⟨0x040204, 256, 0, 12, 4⟩
def TIME_PTP_INT_PRIORITY1 : Fld := ⟨0x040204, 256, 0, 16, 8⟩
def TIME_PTP_INT_PRIORITY2 : Fld := ⟨0x040204, 256, 0, 24, 8⟩
def TIME_PTP_DLY_EGRESS : Fld := ⟨0x040208, 256, 4, 0, 16⟩
def TIME_PTP_DLY_INGRESS : Fld := ⟨0x040208, 256, 4, 16, 16⟩
def TIME_PTP_CLKQ_CLASS : Fld := ⟨0x040210, 256, 0, 0, 8⟩
def TIME_PTP_CLKQ_ACCURACY : Fld := ⟨0x040210, 256, 0, 8, 8⟩
def TIME_PTP_CLKQ_VARIANCE : Fld := ⟨0x040210, 256, 0, 16, 16⟩
def TIME_PTP_GM_ID : Fld := ⟨0x040214, 256, 0, 0, 32⟩
def TIME_PTP_GM_ID_H : Fld := ⟨0x040218, 256, 0, 0, 32⟩
/-! Fields of R172. -/
def HIVE_RCTL_RING_EN : Fld := ⟨0x050000, 256, 0, 0, 1⟩
def HIVE_RCTL_NCELL : Fld := ⟨0x050000, 256, 0, 1, 5⟩
def HIVE_RCTL_AUTO_HEAL : Fld := ⟨0x050000, 256, 0, 6, 1⟩
def HIVE_RCTL_RESTORE : Fld := ⟨0x050000, 256, 0, 7, 1⟩
def HIVE_RCTL_ASYM_A : Fld := ⟨0x050000, 256, 0, 8, 8⟩
def HIVE_RCTL_ASYM_B : Fld := ⟨0x050000, 256, 0, 16, 8⟩
def HIVE_RSTAT_MODE : Fld := ⟨0x050004, 256, 0, 0, 2⟩
def HIVE_RSTAT_MULTI : Fld := ⟨0x050004, 256, 0, 2, 1⟩
def HIVE_RSTAT_BREAK_HOP : Fld := ⟨0x050004, 256, 0, 3, 5⟩
def HIVE_RSTAT_FOUND : Fld := ⟨0x050004, 256, 0, 8, 5⟩
def HIVE_RSTAT_KEYED : Fld := ⟨0x050004, 256, 0, 13, 1⟩
def HIVE_RSTAT_A_UP : Fld := ⟨0x050004, 256, 0, 14, 1⟩
def HIVE_RSTAT_B_UP : Fld := ⟨0x050004, 256, 0, 15, 1⟩
def HIVE_RSTAT_MISS : Fld := ⟨0x050004, 256, 0, 16, 16⟩
def HIVE_RCNT_CRC_ERR : Fld := ⟨0x050008, 256, 0, 0, 16⟩
def HIVE_RCNT_RETRY : Fld := ⟨0x050008, 256, 0, 16, 16⟩
def HIVE_RCNT2_DUP : Fld := ⟨0x05000C, 256, 0, 0, 16⟩
def HIVE_RCNT2_STRAY : Fld := ⟨0x05000C, 256, 0, 16, 16⟩
def HIVE_RMISS_MISS_RUN : Fld := ⟨0x050010, 256, 4, 0, 4⟩
def HIVE_RDLY_DLY_A : Fld := ⟨0x050040, 256, 4, 0, 16⟩
def HIVE_RDLY_DLY_B : Fld := ⟨0x050040, 256, 4, 16, 16⟩
/-! Fields of R173. -/
def HIVE_CFG_CELL_TMO : Fld := ⟨0x051100, 256, 0, 0, 4⟩
def HIVE_CFG_RPT_RETRY : Fld := ⟨0x051100, 256, 0, 4, 2⟩
def HIVE_CFG_WAG_RETRY : Fld := ⟨0x051100, 256, 0, 6, 2⟩
def HIVE_CFG_BLOCK_REP : Fld := ⟨0x051100, 256, 0, 8, 8⟩
def HIVE_KEY_CFG_KEY_AVG : Fld := ⟨0x051104, 256, 0, 0, 8⟩
def HIVE_KEY_CFG_KEY_TOL : Fld := ⟨0x051104, 256, 0, 8, 8⟩
def HIVE_KEY_CFG_HEAL_HOLD : Fld := ⟨0x051104, 256, 0, 16, 8⟩
def HIVE_BLOCK_ACTIVE : Fld := ⟨0x051108, 256, 0, 0, 1⟩
def HIVE_BLOCK_CAUSE : Fld := ⟨0x051108, 256, 0, 8, 8⟩
def HIVE_BLOCK_SEQ : Fld := ⟨0x051108, 256, 0, 16, 16⟩
/-! Fields of R174. -/
def HIVE_MBX_CFG_RSP_TMO : Fld := ⟨0x051200, 256, 0, 0, 4⟩
def HIVE_MBX_CFG_RETRIES : Fld := ⟨0x051200, 256, 0, 4, 2⟩
def HIVE_MBX_CFG_PER_CELL : Fld := ⟨0x051200, 256, 0, 6, 3⟩
def HIVE_MBX_SQ_BASE : Fld := ⟨0x051204, 256, 0, 0, 20⟩
def HIVE_MBX_SQ_QLEN : Fld := ⟨0x051204, 256, 0, 20, 9⟩
def HIVE_MBX_SQ_PTR_HEAD : Fld := ⟨0x051208, 256, 0, 0, 9⟩
def HIVE_MBX_SQ_PTR_TAIL : Fld := ⟨0x051208, 256, 0, 16, 9⟩
def HIVE_MBX_CQ_BASE : Fld := ⟨0x05120C, 256, 0, 0, 20⟩
def HIVE_MBX_CQ_QLEN : Fld := ⟨0x05120C, 256, 0, 20, 9⟩
def HIVE_MBX_CQ_PTR_HEAD : Fld := ⟨0x051210, 256, 0, 0, 9⟩
def HIVE_MBX_CQ_PTR_TAIL : Fld := ⟨0x051210, 256, 0, 16, 9⟩
def HIVE_MBX_STAT_INFLIGHT : Fld := ⟨0x051214, 256, 0, 0, 7⟩
def HIVE_MBX_STAT_DONE : Fld := ⟨0x051214, 256, 0, 16, 16⟩
/-! Fields of R204. -/
def CELL_SCFG_SLOT_EN : Fld := ⟨0x060000, 256, 0, 0, 1⟩
def CELL_SCFG_RING : Fld := ⟨0x060000, 256, 0, 1, 4⟩
def CELL_SCFG_POS : Fld := ⟨0x060000, 256, 0, 5, 4⟩
def CELL_SCFG_STRING : Fld := ⟨0x060000, 256, 0, 9, 2⟩
def CELL_SCMD_CMD : Fld := ⟨0x060004, 256, 0, 0, 2⟩
def CELL_SSTAT_STATE : Fld := ⟨0x060008, 256, 0, 0, 4⟩
def CELL_SSTAT_FE_STATE : Fld := ⟨0x060008, 256, 0, 4, 4⟩
def CELL_SSTAT_COAST_CNT : Fld := ⟨0x060008, 256, 0, 8, 4⟩
def CELL_SSTAT_SEL_FB : Fld := ⟨0x060008, 256, 0, 12, 4⟩
def CELL_SSTAT_SEL_MOVING : Fld := ⟨0x060008, 256, 0, 16, 1⟩
def CELL_SSTAT_BYP_CONF : Fld := ⟨0x060008, 256, 0, 17, 1⟩
def CELL_SSTAT_BLOCKED : Fld := ⟨0x060008, 256, 0, 18, 1⟩
def CELL_SSTAT_EXIT_CAUSE : Fld := ⟨0x060008, 256, 0, 20, 4⟩
def CELL_SFLT_FLT : Fld := ⟨0x06000C, 256, 0, 0, 16⟩
def CELL_SFLT_FLT_SEEN : Fld := ⟨0x06000C, 256, 0, 16, 16⟩
def CELL_SCNT_DROPPED : Fld := ⟨0x060010, 256, 0, 0, 16⟩
def CELL_SCNT_CLAMPED : Fld := ⟨0x060010, 256, 0, 16, 16⟩
def CELL_SCNT2_COASTS : Fld := ⟨0x060014, 256, 0, 0, 16⟩
def CELL_SCNT2_REFRESH : Fld := ⟨0x060014, 256, 0, 16, 16⟩
def CELL_SID_ID : Fld := ⟨0x060018, 256, 0, 0, 32⟩
def CELL_SVER_VER : Fld := ⟨0x06001C, 256, 0, 0, 32⟩
def CELL_VDC_VDC : Fld := ⟨0x060020, 256, 0, 0, 32⟩
def CELL_IAC_IAC : Fld := ⟨0x060024, 256, 0, 0, 32⟩
def CELL_IDAB_IDAB : Fld := ⟨0x060028, 256, 0, 0, 32⟩
def CELL_VOUT_VOUT : Fld := ⟨0x06002C, 256, 0, 0, 32⟩
def CELL_TEMP_TEMP : Fld := ⟨0x060030, 256, 0, 0, 32⟩
def CELL_VGATE_VGATE : Fld := ⟨0x060034, 256, 0, 0, 32⟩
/-! Fields of R206. -/
def CELL_PULSE_DT : Fld := ⟨0x06C100, 256, 0, 0, 10⟩
def CELL_PULSE_MINP : Fld := ⟨0x06C100, 256, 0, 10, 10⟩
def CELL_PULSE_DRVMIN : Fld := ⟨0x06C100, 256, 0, 20, 10⟩
def CELL_COAST_COAST_MAX : Fld := ⟨0x06C104, 256, 0, 0, 2⟩
def CELL_COAST_BYP_TIME : Fld := ⟨0x06C104, 256, 0, 16, 16⟩
def CELL_VGATE_LIM_VGATE_MIN : Fld := ⟨0x06C108, 256, 0, 0, 16⟩
def CELL_VGATE_LIM_VGATE_MAX : Fld := ⟨0x06C108, 256, 0, 16, 16⟩
def CELL_BST_BST_HOLD : Fld := ⟨0x06C10C, 256, 0, 0, 8⟩
def CELL_BST_BST_REFRESH : Fld := ⟨0x06C10C, 256, 0, 8, 16⟩
def CELL_ID_EXP_CONTRACT_MIN : Fld := ⟨0x06C110, 256, 0, 0, 8⟩
def CELL_ID_EXP_NEED_SEMI_BYP : Fld := ⟨0x06C110, 256, 0, 8, 1⟩
def CELL_STR_MIN_ACTIVE : Fld := ⟨0x06C120, 256, 4, 0, 8⟩
def CELL_STR_STR_EN : Fld := ⟨0x06C120, 256, 4, 8, 1⟩
def CELL_STR_NSLOT : Fld := ⟨0x06C120, 256, 4, 16, 8⟩
def CELL_STR_NLOST : Fld := ⟨0x06C120, 256, 4, 24, 8⟩
/-! Fields of R211. -/
def FORM_BASE_S_S : Fld := ⟨0x080100, 256, 0, 0, 32⟩
def FORM_BASE_V_V_NOM : Fld := ⟨0x080104, 256, 0, 0, 16⟩
def FORM_BASE_V_F_NOM : Fld := ⟨0x080104, 256, 0, 16, 16⟩
def FORM_BASE_CELL_CELL_VDC : Fld := ⟨0x080108, 256, 0, 0, 16⟩
def FORM_BASE_CELL_CELL_VOUT : Fld := ⟨0x080108, 256, 0, 16, 16⟩
def FORM_BASE_CELL2_CELL_IDAB : Fld := ⟨0x08010C, 256, 0, 0, 16⟩
def FORM_BASE_VPK_V_PK : Fld := ⟨0x080110, 256, 0, 0, 32⟩
def FORM_BASE_IPK_I_PK : Fld := ⟨0x080114, 256, 0, 0, 32⟩
/-! Fields of R239. -/
def FORM_CFG_TOPO : Fld := ⟨0x080200, 256, 0, 0, 1⟩
def FORM_CFG_AUTO_CLOSE : Fld := ⟨0x080200, 256, 0, 1, 1⟩
def FORM_CFG_AUTO_RESYNC : Fld := ⟨0x080200, 256, 0, 2, 1⟩
def FORM_CFG_FF_EN : Fld := ⟨0x080200, 256, 0, 3, 1⟩
def FORM_LIVE_LIVE_V : Fld := ⟨0x080204, 256, 0, 0, 10⟩
def FORM_LIVE_DEAD_V : Fld := ⟨0x080204, 256, 0, 10, 10⟩
def FORM_LIVE_LIVE_HOLD : Fld := ⟨0x080204, 256, 0, 20, 12⟩
def FORM_SYNC_SYNC_ANG : Fld := ⟨0x080208, 256, 0, 0, 8⟩
def FORM_SYNC_SYNC_DF : Fld := ⟨0x080208, 256, 0, 8, 10⟩
def FORM_SYNC_SYNC_DV : Fld := ⟨0x080208, 256, 0, 18, 7⟩
def FORM_SYNC2_SYNC_HOLD : Fld := ⟨0x08020C, 256, 0, 0, 16⟩
def FORM_SYNC2_SYNC_TMO : Fld := ⟨0x08020C, 256, 0, 16, 10⟩
def FORM_SYNC3_K_SYNC : Fld := ⟨0x080210, 256, 0, 0, 16⟩
def FORM_SYNC3_SYNC_VRATE : Fld := ⟨0x080210, 256, 0, 16, 16⟩
def FORM_BS_BS_RAMP : Fld := ⟨0x080214, 256, 0, 0, 16⟩
def FORM_BS_BS_TMO : Fld := ⟨0x080214, 256, 0, 16, 16⟩
def FORM_STOP_STOP_RAMP : Fld := ⟨0x080218, 256, 0, 0, 16⟩
def FORM_FLIM_F_MIN : Fld := ⟨0x08021C, 256, 0, 0, 16⟩
def FORM_FLIM_F_MAX : Fld := ⟨0x08021C, 256, 0, 16, 16⟩
def FORM_BKR_CLOSE_CTC : Fld := ⟨0x080220, 256, 0, 0, 6⟩
def FORM_BKR_TRIP_CTC : Fld := ⟨0x080220, 256, 0, 6, 6⟩
def FORM_BKR_FB : Fld := ⟨0x080220, 256, 0, 12, 6⟩
def FORM_BKR_BKR_EN : Fld := ⟨0x080220, 256, 0, 18, 1⟩
def FORM_BKR2_BKR_CLOSE_MS : Fld := ⟨0x080224, 256, 0, 0, 12⟩
def FORM_BKR2_BKR_MS : Fld := ⟨0x080224, 256, 0, 12, 12⟩
def FORM_BKR2_BKR_PULSE : Fld := ⟨0x080224, 256, 0, 24, 8⟩
def FORM_BKR3_BKR_DV : Fld := ⟨0x080228, 256, 0, 0, 10⟩
/-! Fields of R240. -/
def FORM_MODE_CMD_CMD : Fld := ⟨0x080300, 256, 0, 0, 4⟩
def FORM_MODE_STAT_MODE : Fld := ⟨0x080304, 256, 0, 0, 4⟩
def FORM_MODE_STAT_PHASE : Fld := ⟨0x080304, 256, 0, 4, 3⟩
def FORM_MODE_STAT_ISLANDED : Fld := ⟨0x080304, 256, 0, 7, 1⟩
def FORM_MODE_STAT_PENDING : Fld := ⟨0x080304, 256, 0, 8, 1⟩
def FORM_MODE_STAT_CLOSE_OK : Fld := ⟨0x080304, 256, 0, 9, 1⟩
def FORM_MODE_STAT_LIMITING : Fld := ⟨0x080304, 256, 0, 10, 1⟩
def FORM_MODE_STAT_RESERVE_LOW : Fld := ⟨0x080304, 256, 0, 11, 1⟩
def FORM_MODE_STAT_CURTAILING : Fld := ⟨0x080304, 256, 0, 12, 1⟩
def FORM_MODE_STAT_BKR_CMD : Fld := ⟨0x080304, 256, 0, 13, 1⟩
def FORM_MODE_STAT_BKR_FB : Fld := ⟨0x080304, 256, 0, 14, 1⟩
def FORM_MODE_STAT_FEED_LIVE : Fld := ⟨0x080304, 256, 0, 15, 1⟩
def FORM_MODE_STAT_START_MODE : Fld := ⟨0x080304, 256, 0, 16, 2⟩
def FORM_SYNC_STAT_DTHETA_P : Fld := ⟨0x080308, 256, 0, 0, 16⟩
def FORM_SYNC_STAT_DF : Fld := ⟨0x080308, 256, 0, 16, 16⟩
def FORM_BANK_ACTIVE : Fld := ⟨0x08030C, 256, 0, 0, 1⟩
def FORM_BANK_SWAP : Fld := ⟨0x08030C, 256, 0, 1, 1⟩
def FORM_BANK_SWAP_PENDING : Fld := ⟨0x08030C, 256, 0, 2, 1⟩
/-! Fields of R241. -/
def FORM_BK_SWING_H : Fld := ⟨0x080400, 256, 0, 0, 16⟩
def FORM_BK_SWING_D : Fld := ⟨0x080400, 256, 0, 16, 16⟩
def FORM_BK_DROOP_MP : Fld := ⟨0x080404, 256, 0, 0, 11⟩
def FORM_BK_DROOP_NQ : Fld := ⟨0x080404, 256, 0, 11, 11⟩
def FORM_BK_FILT_TD : Fld := ⟨0x080408, 256, 0, 0, 16⟩
def FORM_BK_FILT_TQ : Fld := ⟨0x080408, 256, 0, 16, 16⟩
def FORM_BK_RV_RV : Fld := ⟨0x08040C, 256, 0, 0, 32⟩
def FORM_BK_XV_XV : Fld := ⟨0x080410, 256, 0, 0, 32⟩
def FORM_BK_PSET_P_SET : Fld := ⟨0x080414, 256, 0, 0, 32⟩
def FORM_BK_QSET_Q_SET : Fld := ⟨0x080418, 256, 0, 0, 32⟩
def FORM_BK_VSET_V_SET : Fld := ⟨0x08041C, 256, 0, 0, 32⟩
def FORM_BK_FSET_F_SET : Fld := ⟨0x080420, 256, 0, 0, 32⟩
def FORM_BK_RAMP_SET_RAMP : Fld := ⟨0x080424, 256, 0, 0, 16⟩
def FORM_BK_RAMP_FLEX_DB : Fld := ⟨0x080424, 256, 0, 16, 16⟩
def FORM_BK_RES_RES_TF : Fld := ⟨0x080428, 256, 0, 0, 16⟩
def FORM_BK_RES_RES_DC : Fld := ⟨0x080428, 256, 0, 16, 16⟩
/-! Fields of R242. -/
def FORM_THETA_A_THETA_A : Fld := ⟨0x080600, 256, 0, 0, 32⟩
def FORM_DTHETA_DTHETA : Fld := ⟨0x080604, 256, 0, 0, 32⟩
def FORM_OMEGA_OMEGA : Fld := ⟨0x080608, 256, 0, 0, 32⟩
def FORM_FFEED_FFEED : Fld := ⟨0x08060C, 256, 0, 0, 32⟩
def FORM_VD_VD_REF : Fld := ⟨0x080610, 256, 0, 0, 32⟩
def FORM_VQ_VQ_REF : Fld := ⟨0x080614, 256, 0, 0, 32⟩
def FORM_E_E : Fld := ⟨0x080618, 256, 0, 0, 32⟩
def FORM_PE_PE : Fld := ⟨0x08061C, 256, 0, 0, 32⟩
def FORM_QE_QE : Fld := ⟨0x080620, 256, 0, 0, 32⟩
def FORM_PSCHED_PSCHED : Fld := ⟨0x080624, 256, 0, 0, 32⟩
def FORM_PRESP_PRESP : Fld := ⟨0x080628, 256, 0, 0, 32⟩
def FORM_STORE_REQ_S : Fld := ⟨0x08062C, 256, 0, 0, 32⟩
def FORM_REMAIN_R : Fld := ⟨0x080630, 256, 0, 0, 32⟩
def FORM_CURT_FRAC : Fld := ⟨0x080634, 256, 0, 0, 17⟩
def FORM_VMAG_VPCC : Fld := ⟨0x080638, 256, 0, 0, 32⟩
def FORM_VFMAG_VFEED : Fld := ⟨0x08063C, 256, 0, 0, 32⟩
def FORM_PFF_PFF : Fld := ⟨0x080640, 256, 0, 0, 32⟩
def FORM_STORE_DIS_DIS : Fld := ⟨0x080644, 256, 0, 0, 32⟩
def FORM_STORE_CHG_CHG : Fld := ⟨0x080648, 256, 0, 0, 32⟩
def FORM_FLEX_FLEX_AVAIL : Fld := ⟨0x08064C, 256, 0, 0, 32⟩
def FORM_DRV_DRV : Fld := ⟨0x080650, 256, 0, 0, 32⟩
def FORM_DXV_DXV : Fld := ⟨0x080654, 256, 0, 0, 32⟩
/-! Fields of R270. -/
def MOD_SCFG_CARRIER : Fld := ⟨0x070000, 256, 0, 0, 2⟩
def MOD_SCFG_NGRP : Fld := ⟨0x070000, 256, 0, 2, 5⟩
def MOD_SCFG_MAXMOVE : Fld := ⟨0x070000, 256, 0, 8, 6⟩
def MOD_SCFG_BAND : Fld := ⟨0x070000, 256, 0, 16, 10⟩
def MOD_STIME_TON : Fld := ⟨0x070004, 256, 0, 0, 16⟩
def MOD_STIME_TOFF : Fld := ⟨0x070004, 256, 0, 16, 16⟩
def MOD_SSTAT_NELIG : Fld := ⟨0x070008, 256, 0, 0, 8⟩
def MOD_SSTAT_NFIXED : Fld := ⟨0x070008, 256, 0, 8, 8⟩
def MOD_SSTAT_SAT : Fld := ⟨0x070008, 256, 0, 16, 1⟩
def MOD_SSTAT_DIR_VALID : Fld := ⟨0x070008, 256, 0, 17, 1⟩
def MOD_SSTAT_DIR : Fld := ⟨0x070008, 256, 0, 18, 1⟩
def MOD_SRES_RHO : Fld := ⟨0x07000C, 256, 0, 0, 32⟩
def MOD_SCNT_MOVES : Fld := ⟨0x070010, 256, 0, 0, 16⟩
def MOD_SCNT_SAT_CNT : Fld := ⟨0x070010, 256, 0, 16, 16⟩
def MOD_SCNT2_TRUNC : Fld := ⟨0x070014, 256, 0, 0, 16⟩
def MOD_SCNT2_HELD : Fld := ⟨0x070014, 256, 0, 16, 16⟩
def MOD_ORDER_SLOT : Fld := ⟨0x070040, 256, 4, 0, 8⟩
/-! Fields of R271. -/
def MOD_CFG_ZS_EN : Fld := ⟨0x071100, 256, 0, 0, 1⟩
def MOD_CFG_SPREAD : Fld := ⟨0x071100, 256, 0, 1, 1⟩
def MOD_CFG_RES_MAX : Fld := ⟨0x071100, 256, 0, 8, 8⟩
def MOD_DAB_PMAX : Fld := ⟨0x071104, 256, 0, 0, 16⟩
def MOD_DAB_PHI_MAX : Fld := ⟨0x071104, 256, 0, 16, 16⟩
def MOD_DAB2_TRIM : Fld := ⟨0x071108, 256, 0, 0, 16⟩
def MOD_DAB2_TRIM_LIM : Fld := ⟨0x071108, 256, 0, 16, 16⟩
def MOD_STAT_LATE_CNT : Fld := ⟨0x07110C, 256, 0, 0, 16⟩
def MOD_STAT_DAB_SAT_CNT : Fld := ⟨0x07110C, 256, 0, 16, 16⟩
/-! Fields of R301. -/
def LAW_SCFG_KIND : Fld := ⟨0x090000, 256, 0, 0, 2⟩
def LAW_SCFG_FE_EN : Fld := ⟨0x090000, 256, 0, 2, 1⟩
def LAW_SCFG_FE_ACT : Fld := ⟨0x090000, 256, 0, 3, 2⟩
def LAW_SCFG_FE_TMO : Fld := ⟨0x090000, 256, 0, 16, 16⟩
def LAW_SFE_FE_LIM : Fld := ⟨0x090004, 256, 0, 0, 32⟩
def LAW_SYMIN_Y_MIN : Fld := ⟨0x090008, 256, 0, 0, 32⟩
def LAW_SYMAX_Y_MAX : Fld := ⟨0x09000C, 256, 0, 0, 32⟩
def LAW_SMAN_MAN : Fld := ⟨0x090010, 256, 0, 0, 1⟩
def LAW_SMAN_MAN_RATE : Fld := ⟨0x090010, 256, 0, 16, 16⟩
def LAW_SMAN_TGT_MAN_TGT : Fld := ⟨0x090014, 256, 0, 0, 32⟩
def LAW_SSTAT_IN_MAN : Fld := ⟨0x090018, 256, 0, 0, 1⟩
def LAW_SSTAT_WIN : Fld := ⟨0x090018, 256, 0, 1, 1⟩
def LAW_SSTAT_S : Fld := ⟨0x090018, 256, 0, 2, 1⟩
def LAW_SSTAT_FE_TRIP : Fld := ⟨0x090018, 256, 0, 3, 1⟩
def LAW_SSTAT_FE_CNT : Fld := ⟨0x090018, 256, 0, 16, 16⟩
def LAW_SOUT_Y : Fld := ⟨0x09001C, 256, 0, 0, 32⟩
def LAW_BK_KP_KP : Fld := ⟨0x090020, 256, 16, 0, 32⟩
def LAW_BK_KI_KI : Fld := ⟨0x090024, 256, 16, 0, 32⟩
def LAW_BK_LIM_LIM : Fld := ⟨0x090028, 256, 16, 0, 32⟩
def LAW_BK_STEP_STEP : Fld := ⟨0x09002C, 256, 16, 0, 32⟩
def LAW_SERR_E : Fld := ⟨0x090040, 256, 0, 0, 32⟩
def LAW_SU_U : Fld := ⟨0x090044, 256, 0, 0, 32⟩
def LAW_SSP_SP : Fld := ⟨0x090048, 256, 0, 0, 32⟩
def LAW_BK_BAND_BAND : Fld := ⟨0x09004C, 256, 4, 0, 32⟩
/-! Fields of R302. -/
def LAW_PRE_FEED_CTC : Fld := ⟨0x092100, 256, 0, 0, 6⟩
def LAW_PRE_FEED_FB : Fld := ⟨0x092100, 256, 0, 6, 6⟩
def LAW_PRE_FEED_EN : Fld := ⟨0x092100, 256, 0, 12, 1⟩
def LAW_PRE_STORE_CTC : Fld := ⟨0x092100, 256, 0, 13, 6⟩
def LAW_PRE_STORE_FB : Fld := ⟨0x092100, 256, 0, 19, 6⟩
def LAW_PRE_STORE_EN : Fld := ⟨0x092100, 256, 0, 25, 1⟩
def LAW_PRE2_PRE_DONE : Fld := ⟨0x092104, 256, 0, 0, 10⟩
def LAW_PRE2_PRE_MIN : Fld := ⟨0x092104, 256, 0, 10, 10⟩
def LAW_PRE2_PRE_ILIM : Fld := ⟨0x092104, 256, 0, 20, 12⟩
def LAW_PRE3_PRE_TMO : Fld := ⟨0x092108, 256, 0, 0, 16⟩
def LAW_PRE3_PRE_CTC_MS : Fld := ⟨0x092108, 256, 0, 16, 12⟩
def LAW_ZC_ZC : Fld := ⟨0x09210C, 256, 0, 0, 16⟩
def LAW_BK_ILIM_I_LIM : Fld := ⟨0x092140, 256, 16, 0, 16⟩
def LAW_BK_ILIM_I_LIM_FRT : Fld := ⟨0x092140, 256, 16, 16, 16⟩
def LAW_BK_ZW_ZR_W : Fld := ⟨0x092144, 256, 16, 0, 16⟩
def LAW_BK_ZW_ZX_W : Fld := ⟨0x092144, 256, 16, 16, 16⟩
def LAW_BK_DZ_TZ : Fld := ⟨0x092148, 256, 16, 0, 16⟩
def LAW_BK_DZ_DZ_MAX : Fld := ⟨0x092148, 256, 16, 16, 16⟩
def LAW_BK_TRIP_I_TRIP : Fld := ⟨0x09214C, 256, 16, 0, 16⟩
/-! Fields of R303. -/
def LAW_CFG_RT_EN : Fld := ⟨0x092200, 256, 0, 0, 1⟩
def LAW_CFG_RT_ACT : Fld := ⟨0x092200, 256, 0, 1, 2⟩
def LAW_CFG_NPT_UV : Fld := ⟨0x092200, 256, 0, 4, 4⟩
def LAW_CFG_NPT_OV : Fld := ⟨0x092200, 256, 0, 8, 4⟩
def LAW_RT_V_RT_ENTER : Fld := ⟨0x092204, 256, 0, 0, 10⟩
def LAW_RT_V_RT_RECOV : Fld := ⟨0x092204, 256, 0, 10, 10⟩
def LAW_RT_V_RT_REC : Fld := ⟨0x092204, 256, 0, 20, 12⟩
def LAW_RT_V2_OV_ENTER : Fld := ⟨0x092208, 256, 0, 0, 11⟩
def LAW_RT_V2_OV_RECOV : Fld := ⟨0x092208, 256, 0, 11, 11⟩
def LAW_RT_UV_T : Fld := ⟨0x092220, 256, 4, 0, 16⟩
def LAW_RT_UV_V : Fld := ⟨0x092220, 256, 4, 16, 10⟩
def LAW_RT_OV_T : Fld := ⟨0x092240, 256, 4, 0, 16⟩
def LAW_RT_OV_V : Fld := ⟨0x092240, 256, 4, 16, 11⟩
def LAW_RT_F_F : Fld := ⟨0x092260, 256, 4, 0, 16⟩
def LAW_RT_F_TIME : Fld := ⟨0x092260, 256, 4, 16, 14⟩
def LAW_RT_F_DIR : Fld := ⟨0x092260, 256, 4, 30, 1⟩
def LAW_RT_F_EN : Fld := ⟨0x092260, 256, 4, 31, 1⟩
def LAW_RT_STAT_RIDE : Fld := ⟨0x092280, 256, 0, 0, 1⟩
def LAW_RT_STAT_SIDE : Fld := ⟨0x092280, 256, 0, 1, 1⟩
def LAW_RT_STAT_EXIT : Fld := ⟨0x092280, 256, 0, 2, 1⟩
def LAW_RT_STAT_STAGE : Fld := ⟨0x092280, 256, 0, 3, 3⟩
def LAW_RT_STAT_T_RIDE : Fld := ⟨0x092280, 256, 0, 16, 16⟩
/-! Fields of R304. -/
def LAW_BANK_ACTIVE : Fld := ⟨0x092300, 256, 0, 0, 1⟩
def LAW_BANK_SWAP : Fld := ⟨0x092300, 256, 0, 1, 1⟩
def LAW_BANK_SWAP_PENDING : Fld := ⟨0x092300, 256, 0, 2, 1⟩
def LAW_WIN_COMP : Fld := ⟨0x092304, 256, 0, 0, 2⟩
def LAW_WIN_WINNER : Fld := ⟨0x092304, 256, 0, 8, 5⟩
def LAW_WIN_WIN_CHG : Fld := ⟨0x092304, 256, 0, 16, 16⟩
def LAW_EGOV_E : Fld := ⟨0x092308, 256, 0, 0, 32⟩
def LAW_PDC_PDC : Fld := ⟨0x09230C, 256, 0, 0, 32⟩
def LAW_DZ_DZ : Fld := ⟨0x092310, 256, 0, 0, 32⟩
def LAW_IMAG_I : Fld := ⟨0x092314, 256, 0, 0, 32⟩
def LAW_W_W_AVG : Fld := ⟨0x092318, 256, 0, 0, 32⟩
def LAW_W2_W_MIN : Fld := ⟨0x09231C, 256, 0, 0, 32⟩
def LAW_PRE_STAT_STEP : Fld := ⟨0x092320, 256, 0, 0, 3⟩
def LAW_PRE_STAT_ELAPSED : Fld := ⟨0x092320, 256, 0, 16, 16⟩
/-! Fields of R336. -/
def OUT_BCFG_EN : Fld := ⟨0x0A0000, 256, 0, 0, 1⟩
def OUT_BCFG_KIND : Fld := ⟨0x0A0000, 256, 0, 1, 1⟩
def OUT_BCFG_AUTO_ON : Fld := ⟨0x0A0000, 256, 0, 2, 1⟩
def OUT_BCFG_MIN_CELLS : Fld := ⟨0x0A0000, 256, 0, 4, 8⟩
def OUT_BCFG_CTC : Fld := ⟨0x0A0000, 256, 0, 12, 6⟩
def OUT_BCFG_FB : Fld := ⟨0x0A0000, 256, 0, 18, 6⟩
def OUT_BCFG2_V_MAX : Fld := ⟨0x0A0004, 256, 0, 0, 14⟩
def OUT_BCFG2_P_MAX : Fld := ⟨0x0A0004, 256, 0, 14, 16⟩
def OUT_BCMD_CMD : Fld := ⟨0x0A0008, 256, 0, 0, 2⟩
def OUT_BSP_V_V_REQ : Fld := ⟨0x0A000C, 256, 0, 0, 16⟩
def OUT_BSP_V_V_MATCH : Fld := ⟨0x0A000C, 256, 0, 16, 16⟩
def OUT_BSP_I_I_REQ : Fld := ⟨0x0A0010, 256, 0, 0, 16⟩
def OUT_BSP_I_FLEX : Fld := ⟨0x0A0010, 256, 0, 16, 16⟩
def OUT_BSTORE_P_SCHED : Fld := ⟨0x0A0014, 256, 0, 0, 16⟩
def OUT_BSTORE2_P_DIS_MAX : Fld := ⟨0x0A0018, 256, 0, 0, 16⟩
def OUT_BSTORE2_P_CHG_MAX : Fld := ⟨0x0A0018, 256, 0, 16, 16⟩
def OUT_BSTAT_STATE : Fld := ⟨0x0A001C, 256, 0, 0, 3⟩
def OUT_BSTAT_MODE : Fld := ⟨0x0A001C, 256, 0, 3, 1⟩
def OUT_BSTAT_CURT : Fld := ⟨0x0A001C, 256, 0, 4, 1⟩
def OUT_BSTAT_CAP : Fld := ⟨0x0A001C, 256, 0, 5, 1⟩
def OUT_BSTAT_SESSION : Fld := ⟨0x0A001C, 256, 0, 6, 1⟩
def OUT_BSTAT_NCONF : Fld := ⟨0x0A001C, 256, 0, 8, 8⟩
def OUT_BSTAT_NDAB : Fld := ⟨0x0A001C, 256, 0, 16, 8⟩
def OUT_BSTAT_NTRANSIT : Fld := ⟨0x0A001C, 256, 0, 24, 8⟩
def OUT_BV_V : Fld := ⟨0x0A0020, 256, 0, 0, 32⟩
def OUT_BI_I : Fld := ⟨0x0A0024, 256, 0, 0, 32⟩
def OUT_BP_P : Fld := ⟨0x0A0028, 256, 0, 0, 32⟩
def OUT_BCURT_C : Fld := ⟨0x0A002C, 256, 0, 0, 32⟩
def OUT_BCAP_CAP : Fld := ⟨0x0A0030, 256, 0, 0, 32⟩
def OUT_BCNT_MOVES_IN : Fld := ⟨0x0A0034, 256, 0, 0, 16⟩
def OUT_BCNT_MOVES_OUT : Fld := ⟨0x0A0034, 256, 0, 16, 16⟩
/-! Fields of R337. -/
def OUT_CFG_MAX_TRANSIT : Fld := ⟨0x0A1100, 256, 0, 0, 8⟩
def OUT_CFG_SEL_TMO : Fld := ⟨0x0A1100, 256, 0, 8, 8⟩
def OUT_CFG_CAP_MARGIN : Fld := ⟨0x0A1100, 256, 0, 16, 8⟩
def OUT_MATCH_MATCH_TOL : Fld := ⟨0x0A1104, 256, 0, 0, 10⟩
def OUT_MATCH_MATCH_HOLD : Fld := ⟨0x0A1104, 256, 0, 10, 10⟩
def OUT_MATCH_MATCH_TMO : Fld := ⟨0x0A1104, 256, 0, 20, 12⟩
def OUT_CTC_CTC_MS : Fld := ⟨0x0A1108, 256, 0, 0, 12⟩
def OUT_CTC_OPEN_TMO : Fld := ⟨0x0A1108, 256, 0, 12, 12⟩
def OUT_RAMP_I_RAMP : Fld := ⟨0x0A110C, 256, 0, 0, 16⟩
def OUT_RAMP_I_OPEN : Fld := ⟨0x0A110C, 256, 0, 16, 16⟩
def OUT_STAT_TRANSIT : Fld := ⟨0x0A1110, 256, 0, 0, 8⟩
def OUT_STAT_DEFER_CNT : Fld := ⟨0x0A1110, 256, 0, 16, 16⟩
/-! Fields of R338. -/
def OUT_ALLOC_TGT_TGT : Fld := ⟨0x0A1200, 256, 4, 0, 4⟩
def OUT_ALLOC_POS_POS : Fld := ⟨0x0A1300, 256, 4, 0, 4⟩
def OUT_ALLOC_STEP_STEP : Fld := ⟨0x0A1360, 256, 4, 0, 4⟩
/-! Fields of R363. -/
def METR_MCFG_EN : Fld := ⟨0x0B0000, 256, 0, 0, 1⟩
def METR_MCFG_I_RATED : Fld := ⟨0x0B0000, 256, 0, 1, 16⟩
def METR_MSTAT_INVALID : Fld := ⟨0x0B0004, 256, 0, 0, 1⟩
def METR_TOT_IMP_TOT : Fld := ⟨0x0B0008, 256, 0, 0, 32⟩
def METR_TOT_IMP_TOT_H : Fld := ⟨0x0B000C, 256, 0, 0, 32⟩
def METR_TOT_EXP_TOT : Fld := ⟨0x0B0010, 256, 0, 0, 32⟩
def METR_TOT_EXP_TOT_H : Fld := ⟨0x0B0014, 256, 0, 0, 32⟩
def METR_PCYC_P : Fld := ⟨0x0B0018, 256, 0, 0, 32⟩
def METR_INVCYC_N : Fld := ⟨0x0B001C, 256, 0, 0, 32⟩
/-! Fields of R364. -/
def METR_CFG_CKPT_MS : Fld := ⟨0x0B1100, 256, 0, 0, 16⟩
def METR_CFG_INV_SOD : Fld := ⟨0x0B1100, 256, 0, 16, 1⟩
def METR_STAT_LAG : Fld := ⟨0x0B1104, 256, 0, 0, 24⟩
def METR_STAT_SEAL_OPEN : Fld := ⟨0x0B1104, 256, 0, 24, 1⟩
def METR_STAT_RESTORED : Fld := ⟨0x0B1104, 256, 0, 25, 1⟩
def METR_DEVID_ID : Fld := ⟨0x0B1108, 256, 0, 0, 32⟩
def METR_DEVID_ID_H : Fld := ⟨0x0B110C, 256, 0, 0, 32⟩
def METR_SEQ_NEXT : Fld := ⟨0x0B1110, 256, 0, 0, 32⟩
def METR_PUBKEY_Q : Fld := ⟨0x0B1140, 256, 4, 0, 32⟩
/-! Fields of R367. -/
def COMB_CMD_OP : Fld := ⟨0x1A0018, 256, 0, 0, 3⟩
def COMB_CMD_BUS : Fld := ⟨0x1A0018, 256, 0, 8, 4⟩
def COMB_CMD_CID : Fld := ⟨0x1A0018, 256, 0, 16, 16⟩
def COMB_CMD_SID_SID : Fld := ⟨0x1A001C, 256, 0, 0, 32⟩
def COMB_CMD_SID_SID_H : Fld := ⟨0x1A0020, 256, 0, 0, 32⟩
def COMB_CMD_HDL_HDL : Fld := ⟨0x1A0024, 256, 0, 0, 32⟩
def COMB_RSP_BUSY : Fld := ⟨0x1A0028, 256, 0, 0, 1⟩
def COMB_RSP_DONE : Fld := ⟨0x1A0028, 256, 0, 1, 1⟩
def COMB_RSP_STATUS : Fld := ⟨0x1A0028, 256, 0, 8, 8⟩
def COMB_RSP_SLOT : Fld := ⟨0x1A0028, 256, 0, 16, 8⟩
def COMB_RSP_HDL_HDL : Fld := ⟨0x1A002C, 256, 0, 0, 32⟩
def COMB_SIGN_QUEUED : Fld := ⟨0x1A0030, 256, 0, 0, 6⟩
def COMB_SIGN_FREE : Fld := ⟨0x1A0030, 256, 0, 8, 9⟩
def COMB_FETCH_HDL : Fld := ⟨0x1A0034, 256, 0, 0, 32⟩
def COMB_FETCH_BASE_BASE : Fld := ⟨0x1A0038, 256, 0, 0, 20⟩
def COMB_FETCH_STAT_DONE : Fld := ⟨0x1A003C, 256, 0, 0, 1⟩
def COMB_FETCH_STAT_FAIL : Fld := ⟨0x1A003C, 256, 0, 1, 1⟩
/-! Fields of R368. -/
def COMB_SSTAT_STATE : Fld := ⟨0x1A00C0, 256, 0, 0, 3⟩
def COMB_SSTAT_BUS : Fld := ⟨0x1A00C0, 256, 0, 4, 4⟩
def COMB_SSTAT_FLAGS : Fld := ⟨0x1A00C0, 256, 0, 8, 8⟩
def COMB_SSTAT_SEAL_WORD : Fld := ⟨0x1A00C0, 256, 0, 16, 16⟩
def COMB_SSID_SID : Fld := ⟨0x1A00C4, 256, 0, 0, 32⟩
def COMB_SSID_SID_H : Fld := ⟨0x1A00C8, 256, 0, 0, 32⟩
def COMB_SCID_START_CID : Fld := ⟨0x1A00CC, 256, 0, 0, 16⟩
def COMB_SCID_STOP_CID : Fld := ⟨0x1A00CC, 256, 0, 16, 16⟩
def COMB_SSTART_TAI : Fld := ⟨0x1A00D0, 256, 0, 0, 32⟩
def COMB_SSTART_TAI_H : Fld := ⟨0x1A00D4, 256, 0, 0, 32⟩
def COMB_SSTOP_TAI : Fld := ⟨0x1A00D8, 256, 0, 0, 32⟩
def COMB_SSTOP_TAI_H : Fld := ⟨0x1A00DC, 256, 0, 0, 32⟩
def COMB_SEIMP_E : Fld := ⟨0x1A00E0, 256, 0, 0, 32⟩
def COMB_SEIMP_E_H : Fld := ⟨0x1A00E4, 256, 0, 0, 32⟩
def COMB_SEEXP_E : Fld := ⟨0x1A00E8, 256, 0, 0, 32⟩
def COMB_SEEXP_E_H : Fld := ⟨0x1A00EC, 256, 0, 0, 32⟩
def COMB_SECURT_E : Fld := ⟨0x1A00F0, 256, 0, 0, 32⟩
def COMB_SECURT_E_H : Fld := ⟨0x1A00F4, 256, 0, 0, 32⟩
def COMB_SNCURT_N : Fld := ⟨0x1A00F8, 256, 0, 0, 32⟩
def COMB_SHDL_HDL : Fld := ⟨0x1A00FC, 256, 0, 0, 32⟩
/-! Fields of R386. -/
def CAL_UCFG_UNIT : Fld := ⟨0x0C0000, 256, 0, 0, 2⟩
def CAL_UFS_FS : Fld := ⟨0x0C0004, 256, 0, 0, 32⟩
def CAL_UGAIN_GAIN : Fld := ⟨0x0C0008, 256, 0, 0, 32⟩
def CAL_UOFS_OFS : Fld := ⟨0x0C000C, 256, 0, 0, 32⟩
def CAL_UCFG_F_UNIT : Fld := ⟨0x0C0010, 256, 0, 0, 2⟩
def CAL_UFS_F_FS : Fld := ⟨0x0C0014, 256, 0, 0, 32⟩
def CAL_UGAIN_F_GAIN : Fld := ⟨0x0C0018, 256, 0, 0, 32⟩
def CAL_UOFS_F_OFS : Fld := ⟨0x0C001C, 256, 0, 0, 32⟩
/-! Fields of R387. -/
def CAL_F_SAR_GAIN : Fld := ⟨0x0C5100, 256, 8, 0, 32⟩
def CAL_F_SAROFS_OFS : Fld := ⟨0x0C5104, 256, 8, 0, 32⟩
def CAL_F_PRESET_PRESET : Fld := ⟨0x0C5110, 256, 4, 0, 32⟩
def CAL_F_CRC_FUSE_CRC : Fld := ⟨0x0C5120, 256, 0, 0, 32⟩
/-! Fields of R388. -/
def CAL_EST_EN_IAC : Fld := ⟨0x0C5200, 256, 0, 0, 1⟩
def CAL_EST_EN_IDAB : Fld := ⟨0x0C5200, 256, 0, 1, 1⟩
def CAL_EST_EN_VOUT : Fld := ⟨0x0C5200, 256, 0, 2, 1⟩
def CAL_EST_MIN_SETS : Fld := ⟨0x0C5200, 256, 0, 8, 8⟩
def CAL_EST_MU : Fld := ⟨0x0C5200, 256, 0, 16, 16⟩
def CAL_EST2_TRIM_STEP : Fld := ⟨0x0C5204, 256, 0, 0, 16⟩
def CAL_EST2_I_MIN : Fld := ⟨0x0C5204, 256, 0, 16, 16⟩
def CAL_EST3_DI_MAX : Fld := ⟨0x0C5208, 256, 0, 0, 16⟩
def CAL_EST3_MISMATCH : Fld := ⟨0x0C5208, 256, 0, 16, 10⟩
def CAL_XCHK_XCHK_LIM : Fld := ⟨0x0C520C, 256, 0, 0, 8⟩
def CAL_XCHK_XCHK_N : Fld := ⟨0x0C520C, 256, 0, 8, 8⟩
def CAL_XCHK_XCHK_MEAN : Fld := ⟨0x0C520C, 256, 0, 16, 8⟩
def CAL_UCMD_APPLY : Fld := ⟨0x0C5210, 256, 0, 0, 1⟩
def CAL_UCMD_PENDING : Fld := ⟨0x0C5210, 256, 0, 1, 1⟩
/-! Fields of R389. -/
def CAL_XSTAT_DIFF : Fld := ⟨0x0C5300, 256, 0, 0, 16⟩
def CAL_XSTAT_FAIL : Fld := ⟨0x0C5300, 256, 0, 16, 1⟩
def CAL_XCNT_PRIMER_MEAN : Fld := ⟨0x0C5304, 256, 0, 0, 16⟩
def CAL_XCNT_FAIL_CNT : Fld := ⟨0x0C5304, 256, 0, 16, 16⟩
def CAL_ESTAT_ACC : Fld := ⟨0x0C5308, 256, 0, 0, 16⟩
def CAL_ESTAT_REJ : Fld := ⟨0x0C5308, 256, 0, 16, 16⟩
def CAL_BRES_MEAN : Fld := ⟨0x0C5340, 256, 4, 0, 16⟩
def CAL_BRES_MISMATCH : Fld := ⟨0x0C5340, 256, 4, 16, 1⟩
/-! Fields of R390. -/
def CAL_T_IAC_G : Fld := ⟨0x0C6000, 16, 0, 0, 16⟩
def CAL_T_IAC_O : Fld := ⟨0x0C6000, 16, 0, 16, 16⟩
def CAL_T_IDAB_G : Fld := ⟨0x0C6004, 16, 0, 0, 16⟩
def CAL_T_IDAB_O : Fld := ⟨0x0C6004, 16, 0, 16, 16⟩
def CAL_T_VOUT_G : Fld := ⟨0x0C6008, 16, 0, 0, 16⟩
def CAL_T_VOUT_O : Fld := ⟨0x0C6008, 16, 0, 16, 16⟩
def CAL_T_STAT_NSET : Fld := ⟨0x0C600C, 16, 0, 0, 8⟩
def CAL_T_STAT_QUAL : Fld := ⟨0x0C600C, 16, 0, 8, 3⟩
def CAL_T_STAT_AT_BOUND : Fld := ⟨0x0C600C, 16, 0, 11, 3⟩
def CAL_T_STAT_NEQ : Fld := ⟨0x0C600C, 16, 0, 16, 16⟩
/-! Fields of R417. -/
def ADC_CHCFG_BURN_EN : Fld := ⟨0x0D0000, 256, 0, 0, 1⟩
def ADC_CHCFG_BURN_SEL : Fld := ⟨0x0D0000, 256, 0, 1, 1⟩
def ADC_RES_FINE : Fld := ⟨0x0D0004, 256, 0, 0, 16⟩
def ADC_RES_SKIM : Fld := ⟨0x0D0004, 256, 0, 16, 16⟩
def ADC_RSTAT_VALID : Fld := ⟨0x0D0008, 256, 0, 0, 1⟩
def ADC_RSTAT_OPEN : Fld := ⟨0x0D0008, 256, 0, 1, 1⟩
def ADC_RSTAT_CONV : Fld := ⟨0x0D0008, 256, 0, 2, 1⟩
def ADC_RSTAT_NCONV : Fld := ⟨0x0D0008, 256, 0, 8, 9⟩
def ADC_VAL_VALUE : Fld := ⟨0x0D000C, 256, 0, 0, 32⟩
def ADC_TS_TS : Fld := ⟨0x0D0010, 256, 0, 0, 32⟩
/-! Fields of R418. -/
def ADC_SEQ_CFG_N_ENT : Fld := ⟨0x0D2000, 256, 0, 0, 6⟩
def ADC_SEQ_STAT_ENTRY : Fld := ⟨0x0D2004, 256, 0, 0, 5⟩
def ADC_SEQ_STAT_PD : Fld := ⟨0x0D2004, 256, 0, 5, 1⟩
def ADC_SEQ_STAT_LOOPS : Fld := ⟨0x0D2004, 256, 0, 16, 16⟩
def ADC_SEQ_LOOP_LOOP_NS : Fld := ⟨0x0D2008, 256, 0, 0, 32⟩
def ADC_SEQ_CH : Fld := ⟨0x0D2040, 256, 4, 0, 5⟩
def ADC_SEQ_REPEAT : Fld := ⟨0x0D2040, 256, 4, 8, 9⟩
def ADC_SEQ_DELAY : Fld := ⟨0x0D2040, 256, 4, 17, 15⟩
/-! Fields of R420. -/
def FIL_DCFG_EN : Fld := ⟨0x0E0000, 256, 0, 0, 1⟩
def FIL_DCFG_PRESET : Fld := ⟨0x0E0000, 256, 0, 1, 2⟩
def FIL_DCFG_PHASE_DLY : Fld := ⟨0x0E0000, 256, 0, 4, 10⟩
def FIL_DSTAT_VALID : Fld := ⟨0x0E0004, 256, 0, 0, 1⟩
def FIL_DSTAT_STUCK : Fld := ⟨0x0E0004, 256, 0, 1, 1⟩
def FIL_DSTAT_OVR : Fld := ⟨0x0E0004, 256, 0, 2, 1⟩
def FIL_DSTAT_SETTLING : Fld := ⟨0x0E0004, 256, 0, 3, 1⟩
def FIL_FINE_X : Fld := ⟨0x0E0008, 256, 0, 0, 32⟩
def FIL_SKIM_X : Fld := ⟨0x0E000C, 256, 0, 0, 32⟩
def FIL_TS_TS : Fld := ⟨0x0E0010, 256, 0, 0, 32⟩
def FIL_GD_GD : Fld := ⟨0x0E0014, 256, 0, 0, 24⟩
def FIL_CLK_EN : Fld := ⟨0x0E3000, 256, 0, 0, 1⟩
def FIL_CLK_DIV : Fld := ⟨0x0E3000, 256, 0, 1, 7⟩
def FIL_CLK_SAMP_DLY : Fld := ⟨0x0E3000, 256, 0, 8, 5⟩
def FIL_CFG_COMPAT48 : Fld := ⟨0x0E4100, 256, 0, 0, 1⟩
def FIL_CFG_STUCK_CLK : Fld := ⟨0x0E4100, 256, 0, 8, 8⟩
def FIL_CFG_OVR_LIM : Fld := ⟨0x0E4100, 256, 0, 16, 8⟩
def FIL_CFG_OVR_N : Fld := ⟨0x0E4100, 256, 0, 24, 8⟩
/-! Fields of R423. -/
def CAP_SIG_SRC : Fld := ⟨0x0F0100, 256, 4, 0, 6⟩
def CAP_SIG_CLASS : Fld := ⟨0x0F0100, 256, 4, 6, 2⟩
def CAP_CFG_MODE : Fld := ⟨0x0F0200, 256, 0, 0, 1⟩
def CAP_CFG_WIDTH : Fld := ⟨0x0F0200, 256, 0, 1, 1⟩
def CAP_CFG_N_SIG : Fld := ⟨0x0F0200, 256, 0, 8, 7⟩
def CAP_CFG_TRIG : Fld := ⟨0x0F0200, 256, 0, 16, 2⟩
def CAP_CFG_EDGE : Fld := ⟨0x0F0200, 256, 0, 18, 1⟩
def CAP_CFG_TRIG_SIG : Fld := ⟨0x0F0200, 256, 0, 19, 6⟩
def CAP_PER_PER : Fld := ⟨0x0F0204, 256, 0, 0, 32⟩
def CAP_LEVEL_L : Fld := ⟨0x0F0208, 256, 0, 0, 32⟩
def CAP_HYST_HY : Fld := ⟨0x0F020C, 256, 0, 0, 32⟩
def CAP_PRE_PRE : Fld := ⟨0x0F0210, 256, 0, 0, 32⟩
def CAP_POST_POST : Fld := ⟨0x0F0214, 256, 0, 0, 32⟩
def CAP_REGION_BASE : Fld := ⟨0x0F0218, 256, 0, 0, 10⟩
def CAP_REGION_LEN : Fld := ⟨0x0F0218, 256, 0, 10, 11⟩
def CAP_DMAC_DMAC : Fld := ⟨0x0F021C, 256, 0, 0, 32⟩
def CAP_DMAC_DMAC_H : Fld := ⟨0x0F0220, 256, 0, 0, 16⟩
def CAP_DMAC_STREAM_ID : Fld := ⟨0x0F0220, 256, 0, 16, 16⟩
def CAP_CMD_CMD : Fld := ⟨0x0F0224, 256, 0, 0, 2⟩
def CAP_STAT_STATE : Fld := ⟨0x0F0300, 256, 0, 0, 2⟩
def CAP_STAT_END_CAUSE : Fld := ⟨0x0F0300, 256, 0, 2, 3⟩
def CAP_STAT_FILL_MAX : Fld := ⟨0x0F0300, 256, 0, 16, 16⟩
def CAP_TRIG_TAI_TAI : Fld := ⟨0x0F0304, 256, 0, 0, 32⟩
def CAP_TRIG_TAI_TAI_H : Fld := ⟨0x0F0308, 256, 0, 0, 32⟩
def CAP_TRIG_FRAC_FRAC : Fld := ⟨0x0F030C, 256, 0, 0, 32⟩
def CAP_RECORDS_N : Fld := ⟨0x0F0310, 256, 0, 0, 32⟩
def CAP_SEQ_SEQ : Fld := ⟨0x0F0314, 256, 0, 0, 32⟩
/-! Fields of R452. -/
def AXIS_CFG_AX_EN : Fld := ⟨0x100000, 256, 0, 0, 1⟩
def AXIS_CFG_BST_HOLD : Fld := ⟨0x100000, 256, 0, 8, 8⟩
def AXIS_CFG_PRD : Fld := ⟨0x100000, 256, 0, 16, 16⟩
def AXIS_PULSE_DT : Fld := ⟨0x100004, 256, 0, 0, 10⟩
def AXIS_PULSE_MINP : Fld := ⟨0x100004, 256, 0, 10, 10⟩
def AXIS_PULSE_DRVMIN : Fld := ⟨0x100004, 256, 0, 20, 10⟩
def AXIS_BST_BST_REFRESH : Fld := ⟨0x100008, 256, 0, 0, 16⟩
def AXIS_BST_BST_CHARGE : Fld := ⟨0x100008, 256, 0, 16, 16⟩
def AXIS_DUTY_CMP : Fld := ⟨0x100010, 256, 4, 0, 16⟩
def AXIS_DUTY_OVR : Fld := ⟨0x100010, 256, 4, 16, 3⟩
def AXIS_DUTY_DIR_H : Fld := ⟨0x100010, 256, 4, 19, 1⟩
def AXIS_DUTY_DIR_L : Fld := ⟨0x100010, 256, 4, 20, 1⟩
def AXIS_COMMIT_COMMIT : Fld := ⟨0x10001C, 256, 0, 0, 1⟩
def AXIS_COMMIT_PENDING : Fld := ⟨0x10001C, 256, 0, 1, 1⟩
def AXIS_CMD_CMD : Fld := ⟨0x100020, 256, 0, 0, 2⟩
def AXIS_STAT_STATE : Fld := ⟨0x100024, 256, 0, 0, 3⟩
def AXIS_CNT_DROPPED : Fld := ⟨0x100028, 256, 0, 0, 16⟩
def AXIS_CNT_REFRESH : Fld := ⟨0x100028, 256, 0, 16, 16⟩
def AXIS_APPLIED_SET : Fld := ⟨0x100030, 256, 4, 0, 21⟩
/-! Fields of R455. -/
def GDRV_HCFG_SRC : Fld := ⟨0x110000, 256, 0, 0, 4⟩
def GDRV_HCFG_SNK : Fld := ⟨0x110000, 256, 0, 4, 4⟩
def GDRV_HCFG_DDT_THR : Fld := ⟨0x110000, 256, 0, 8, 3⟩
def GDRV_HCFG_DDT_EN : Fld := ⟨0x110000, 256, 0, 11, 1⟩
def GDRV_HCFG_BLANK : Fld := ⟨0x110000, 256, 0, 12, 8⟩
def GDRV_HCFG_SC_SNK : Fld := ⟨0x110000, 256, 0, 20, 4⟩
def GDRV_HCFG_USED : Fld := ⟨0x110000, 256, 0, 24, 1⟩
def GDRV_HSTAT_OSTEST : Fld := ⟨0x110004, 256, 0, 0, 3⟩
def GDRV_HSTAT_SC : Fld := ⟨0x110004, 256, 0, 3, 1⟩
def GDRV_HSTAT_BST_OK : Fld := ⟨0x110004, 256, 0, 4, 1⟩
def GDRV_HSTAT_GH : Fld := ⟨0x110004, 256, 0, 5, 1⟩
def GDRV_HSTAT_GL : Fld := ⟨0x110004, 256, 0, 6, 1⟩
def GDRV_HCNT_BST_UV : Fld := ⟨0x110008, 256, 0, 0, 16⟩
def GDRV_HCNT_SHOOT : Fld := ⟨0x110008, 256, 0, 16, 16⟩
def GDRV_HCMD_CLR_SC : Fld := ⟨0x11000C, 256, 0, 0, 1⟩
def GDRV_TRIP_CFG_TRIP_EN : Fld := ⟨0x111100, 256, 0, 0, 8⟩
def GDRV_TRIP_CFG_TRIP_QUIET : Fld := ⟨0x111100, 256, 0, 8, 16⟩
def GDRV_TRIP_STAT_LATCH : Fld := ⟨0x111104, 256, 0, 0, 8⟩
def GDRV_TRIP_STAT_INPUT : Fld := ⟨0x111104, 256, 0, 8, 8⟩
def GDRV_TRIP_STAT_CLR_PEND : Fld := ⟨0x111104, 256, 0, 16, 8⟩
def GDRV_TRIP_CLR_CLR : Fld := ⟨0x111108, 256, 0, 0, 8⟩
def GDRV_VBR_VBR : Fld := ⟨0x111200, 256, 4, 0, 16⟩
def GDRV_VBR_REV : Fld := ⟨0x111200, 256, 4, 16, 1⟩
def GDRV_VBR_UV : Fld := ⟨0x111200, 256, 4, 17, 1⟩
def GDRV_VBRMIN_VBR_MIN : Fld := ⟨0x111210, 256, 0, 0, 16⟩
def GDRV_VDRV_VDRV : Fld := ⟨0x111214, 256, 0, 0, 16⟩
def GDRV_VDRV_UV : Fld := ⟨0x111214, 256, 0, 16, 1⟩
/-! Fields of R457. -/
def ENC_CFG_EN_CH : Fld := ⟨0x120000, 256, 0, 0, 1⟩
def ENC_CFG_VSET : Fld := ⟨0x120000, 256, 0, 1, 1⟩
def ENC_CFG_IDX_MODE : Fld := ⟨0x120000, 256, 0, 2, 2⟩
def ENC_CFG_SPD_SRC : Fld := ⟨0x120000, 256, 0, 4, 1⟩
def ENC_CFG_INV_DIR : Fld := ⟨0x120000, 256, 0, 5, 1⟩
def ENC_CFG_STILL_TMO : Fld := ⟨0x120000, 256, 0, 16, 16⟩
def ENC_CPR_CPR : Fld := ⟨0x120004, 256, 0, 0, 32⟩
def ENC_POS_POS : Fld := ⟨0x120008, 256, 0, 0, 32⟩
def ENC_REV_REV : Fld := ⟨0x12000C, 256, 0, 0, 32⟩
def ENC_SPD_SPEED : Fld := ⟨0x120010, 256, 0, 0, 32⟩
def ENC_STAT_SPD_VALID : Fld := ⟨0x120014, 256, 0, 0, 1⟩
def ENC_STAT_DIR : Fld := ⟨0x120014, 256, 0, 1, 1⟩
def ENC_STAT_STILL : Fld := ⟨0x120014, 256, 0, 2, 1⟩
def ENC_STAT_HALL : Fld := ⟨0x120014, 256, 0, 3, 3⟩
def ENC_STAT_IDX_SEEN : Fld := ⟨0x120014, 256, 0, 6, 1⟩
def ENC_STAT_SKIP : Fld := ⟨0x120014, 256, 0, 16, 16⟩
def ENC_IDX_IDX_POS : Fld := ⟨0x120018, 256, 0, 0, 32⟩
def ENC_IDXLAT_POS : Fld := ⟨0x12001C, 256, 0, 0, 32⟩
def ENC_IVL_TICKS : Fld := ⟨0x120020, 256, 0, 0, 32⟩
def ENC_CMP_POS : Fld := ⟨0x120040, 256, 8, 0, 32⟩
def ENC_CMPC_PIN : Fld := ⟨0x120044, 256, 8, 0, 3⟩
def ENC_CMPC_DIR : Fld := ⟨0x120044, 256, 8, 3, 2⟩
def ENC_CMPC_PW : Fld := ⟨0x120044, 256, 8, 16, 16⟩
def ENC_SSUP_SSUP_EN : Fld := ⟨0x121100, 256, 0, 0, 4⟩
def ENC_SSUP_SHORT : Fld := ⟨0x121100, 256, 0, 4, 4⟩
def ENC_SSUP_BACKFEED : Fld := ⟨0x121100, 256, 0, 8, 4⟩
def ENC_SSUP_CLR_CLR : Fld := ⟨0x121104, 256, 0, 0, 4⟩
/-! Fields of R481. -/
def SAFE_SICFG_EN : Fld := ⟨0x130000, 256, 0, 0, 1⟩
def SAFE_SICFG_SGR : Fld := ⟨0x130000, 256, 0, 1, 1⟩
def SAFE_SICFG_SOD : Fld := ⟨0x130000, 256, 0, 2, 1⟩
def SAFE_SICFG_SDS : Fld := ⟨0x130000, 256, 0, 3, 1⟩
def SAFE_SICFG_STR : Fld := ⟨0x130000, 256, 0, 4, 1⟩
def SAFE_SICFG_DIRECT : Fld := ⟨0x130000, 256, 0, 5, 1⟩
def SAFE_SICFG_BUS : Fld := ⟨0x130000, 256, 0, 8, 12⟩
def SAFE_SICFG_AXES : Fld := ⟨0x130000, 256, 0, 20, 4⟩
def SAFE_SITIM_DISC_MS : Fld := ⟨0x130004, 256, 0, 0, 16⟩
def SAFE_SISTAT_A : Fld := ⟨0x130008, 256, 0, 0, 1⟩
def SAFE_SISTAT_B : Fld := ⟨0x130008, 256, 0, 1, 1⟩
def SAFE_SISTAT_DEMAND : Fld := ⟨0x130008, 256, 0, 2, 1⟩
def SAFE_SISTAT_DISC : Fld := ⟨0x130008, 256, 0, 3, 1⟩
def SAFE_SISTAT_DEMANDS : Fld := ⟨0x130008, 256, 0, 16, 16⟩
/-! Fields of R482. -/
def SAFE_AXCFG_SGR_AX : Fld := ⟨0x130400, 256, 0, 0, 2⟩
def SAFE_AXCFG_SDS_MODE : Fld := ⟨0x130400, 256, 0, 2, 1⟩
def SAFE_AXCFG_PLAUS_EN : Fld := ⟨0x130400, 256, 0, 3, 1⟩
def SAFE_AXCFG_HALL_EN : Fld := ⟨0x130400, 256, 0, 4, 1⟩
def SAFE_AXCFG_SDS_TMAX : Fld := ⟨0x130400, 256, 0, 16, 16⟩
def SAFE_AXDEC_DEC : Fld := ⟨0x130404, 256, 0, 0, 32⟩
def SAFE_AXTOL_TOL : Fld := ⟨0x130408, 256, 0, 0, 32⟩
def SAFE_AXSTILL_STILL_SPD : Fld := ⟨0x13040C, 256, 0, 0, 32⟩
def SAFE_AXPL_CPS : Fld := ⟨0x130410, 256, 0, 0, 16⟩
def SAFE_AXPL_SKIP_MAX : Fld := ⟨0x130410, 256, 0, 16, 8⟩
def SAFE_AXSTAT_FUNC : Fld := ⟨0x130414, 256, 0, 0, 2⟩
def SAFE_AXSTAT_VIOL : Fld := ⟨0x130414, 256, 0, 2, 1⟩
def SAFE_AXSTAT_PLAUS_FAIL : Fld := ⟨0x130414, 256, 0, 3, 1⟩
def SAFE_AXSTAT_T_SDS : Fld := ⟨0x130414, 256, 0, 16, 16⟩
def SAFE_AXV0_V0 : Fld := ⟨0x130418, 256, 0, 0, 32⟩
/-! Fields of R483. -/
def SAFE_SODCFG_SOD_RAMP_MS : Fld := ⟨0x130800, 256, 0, 0, 16⟩
def SAFE_SODCFG_SOD_IDAB : Fld := ⟨0x130800, 256, 0, 16, 16⟩
def SAFE_SODCFG2_SOD_CONF : Fld := ⟨0x130804, 256, 0, 0, 8⟩
def SAFE_SODCFG2_SOD_ESC : Fld := ⟨0x130804, 256, 0, 8, 1⟩
def SAFE_SODSTAT_STEP : Fld := ⟨0x130810, 256, 4, 0, 3⟩
def SAFE_SODSTAT_CAUSE : Fld := ⟨0x130810, 256, 4, 8, 8⟩
/-! Fields of R484. -/
def SAFE_SGRCFG_SGR_BKR : Fld := ⟨0x131100, 256, 0, 0, 1⟩
def SAFE_SGRCFG_SGR_CONF : Fld := ⟨0x131100, 256, 0, 8, 8⟩
def SAFE_SGRCTC_LO_MASK : Fld := ⟨0x131104, 256, 0, 0, 32⟩
def SAFE_SGRCTC_HI_MASK : Fld := ⟨0x131108, 256, 0, 0, 8⟩
def SAFE_CMD_CMD : Fld := ⟨0x13110C, 256, 0, 0, 4⟩
def SAFE_CMD_TARGET : Fld := ⟨0x13110C, 256, 0, 8, 4⟩
def SAFE_FSTAT_SGR_ACTIVE : Fld := ⟨0x131110, 256, 0, 0, 1⟩
def SAFE_FSTAT_SGR_DONE : Fld := ⟨0x131110, 256, 0, 1, 1⟩
def SAFE_FSTAT_SOD : Fld := ⟨0x131110, 256, 0, 4, 12⟩
def SAFE_FSTAT_SDS : Fld := ⟨0x131110, 256, 0, 16, 4⟩
def SAFE_FSTAT_STR : Fld := ⟨0x131110, 256, 0, 20, 4⟩
def SAFE_ILK_BUS : Fld := ⟨0x131200, 256, 8, 0, 12⟩
def SAFE_ILK_EN : Fld := ⟨0x131200, 256, 8, 12, 1⟩
def SAFE_ILK_ENG_FB : Fld := ⟨0x131200, 256, 8, 13, 6⟩
def SAFE_ILK_ENG_EN : Fld := ⟨0x131200, 256, 8, 19, 1⟩
def SAFE_ILK_V_SAFE : Fld := ⟨0x131200, 256, 8, 20, 12⟩
def SAFE_ILK2_MOVE_TOL : Fld := ⟨0x131204, 256, 8, 0, 32⟩
/-! Fields of R486. -/
def CTC_OCFG_EN : Fld := ⟨0x140000, 256, 0, 0, 1⟩
def CTC_OCFG_OWNER : Fld := ⟨0x140000, 256, 0, 1, 2⟩
def CTC_OCFG_FB : Fld := ⟨0x140000, 256, 0, 3, 6⟩
def CTC_OCFG_FB_EN : Fld := ⟨0x140000, 256, 0, 9, 1⟩
def CTC_OCFG_FB_NC : Fld := ⟨0x140000, 256, 0, 10, 1⟩
def CTC_OCFG_LOSS : Fld := ⟨0x140000, 256, 0, 11, 2⟩
def CTC_OCFG_FOLLOW : Fld := ⟨0x140000, 256, 0, 13, 6⟩
def CTC_OCFG_FOLLOW_EN : Fld := ⟨0x140000, 256, 0, 19, 1⟩
def CTC_OTIM_T_CLOSE : Fld := ⟨0x140004, 256, 0, 0, 12⟩
def CTC_OTIM_T_OPEN : Fld := ⟨0x140004, 256, 0, 12, 12⟩
def CTC_OCMD_CMD : Fld := ⟨0x140008, 256, 0, 0, 2⟩
def CTC_OSTAT_CMD_ON : Fld := ⟨0x14000C, 256, 0, 0, 1⟩
def CTC_OSTAT_ENERGISED : Fld := ⟨0x14000C, 256, 0, 1, 1⟩
def CTC_OSTAT_CLOSED : Fld := ⟨0x14000C, 256, 0, 2, 1⟩
def CTC_OSTAT_FORCED_OFF : Fld := ⟨0x14000C, 256, 0, 3, 1⟩
def CTC_OSTAT_SHORT : Fld := ⟨0x14000C, 256, 0, 4, 1⟩
def CTC_OSTAT_OPEN : Fld := ⟨0x14000C, 256, 0, 5, 1⟩
def CTC_OSTAT_REVERSE : Fld := ⟨0x14000C, 256, 0, 6, 1⟩
def CTC_OSTAT_STUCK : Fld := ⟨0x14000C, 256, 0, 7, 1⟩
def CTC_OSTAT_WELDED : Fld := ⟨0x14000C, 256, 0, 8, 1⟩
def CTC_OSTAT_OPS : Fld := ⟨0x14000C, 256, 0, 16, 16⟩
def CTC_FBIN_LO_FB : Fld := ⟨0x143100, 256, 0, 0, 32⟩
def CTC_FBIN_HI_FB : Fld := ⟨0x143104, 256, 0, 0, 8⟩
/-! Fields of R505. -/
def MEM_BSTAT_SIZE_KIB : Fld := ⟨0x150000, 256, 0, 0, 13⟩
def MEM_BSTAT_SPARE_USED : Fld := ⟨0x150000, 256, 0, 16, 8⟩
def MEM_BPOIS_CNT : Fld := ⟨0x150004, 256, 0, 0, 16⟩
def MEM_BPOIS_LAST_MASTER : Fld := ⟨0x150004, 256, 0, 16, 4⟩
def MEM_BLAST_LAST_TILE : Fld := ⟨0x150008, 256, 0, 0, 17⟩
def MEM_BNEXT_GROUP : Fld := ⟨0x15000C, 256, 0, 0, 10⟩
def MEM_DP_COLL_COLL : Fld := ⟨0x150310, 256, 0, 0, 16⟩
def MEM_DP_COLL_LAST : Fld := ⟨0x150310, 256, 0, 16, 16⟩
/-! Fields of R506. -/
def MEM_BIST_CFG_PERIOD : Fld := ⟨0x151100, 256, 0, 0, 16⟩
def MEM_BIST_CFG_BANK_EN : Fld := ⟨0x151100, 256, 0, 16, 4⟩
def MEM_BIST_STAT_PASSES : Fld := ⟨0x151104, 256, 0, 0, 16⟩
def MEM_BIST_STAT_ABANDON : Fld := ⟨0x151104, 256, 0, 16, 16⟩
def MEM_BIST_FAULT_BANK : Fld := ⟨0x151108, 256, 0, 0, 2⟩
def MEM_BIST_FAULT_FAULT_TILE : Fld := ⟨0x151108, 256, 0, 2, 17⟩
def MEM_NOBORROW_BANK : Fld := ⟨0x151110, 256, 4, 0, 2⟩
def MEM_NOBORROW_FIRST : Fld := ⟨0x151110, 256, 4, 2, 11⟩
def MEM_NOBORROW_COUNT : Fld := ⟨0x151110, 256, 4, 13, 11⟩
def MEM_NOBORROW_VALID : Fld := ⟨0x151110, 256, 4, 31, 1⟩
/-! Fields of R507. -/
def MEM_CONFL_WAIT : Fld := ⟨0x151200, 256, 8, 0, 32⟩
def MEM_CONFL2_MAX : Fld := ⟨0x151204, 256, 8, 0, 16⟩
def MEM_CONFL2_BIST : Fld := ⟨0x151204, 256, 8, 16, 16⟩
/-! Fields of R526. -/
def PART_CFG_AUTO_BACK : Fld := ⟨0x160100, 256, 0, 0, 1⟩
def PART_CFG_HOLDOFF : Fld := ⟨0x160100, 256, 0, 16, 16⟩
def PART_CFG2_PAIR_WAIT : Fld := ⟨0x160104, 256, 0, 0, 16⟩
def PART_CFG2_FLAP_WIN : Fld := ⟨0x160104, 256, 0, 16, 16⟩
def PART_LINK_LINK_DLY : Fld := ⟨0x160108, 256, 0, 0, 16⟩
def PART_LINK_TOFS_MAX : Fld := ⟨0x160108, 256, 0, 16, 16⟩
def PART_MIRROR_LO_MASK : Fld := ⟨0x16010C, 256, 0, 0, 32⟩
def PART_MIRROR_HI_MASK : Fld := ⟨0x160110, 256, 0, 0, 8⟩
/-! Fields of R527. -/
def PART_CMD_CMD : Fld := ⟨0x160200, 256, 0, 0, 2⟩
def PART_STAT_ROLE : Fld := ⟨0x160204, 256, 0, 0, 3⟩
def PART_STAT_PAIR_ID : Fld := ⟨0x160204, 256, 0, 3, 1⟩
def PART_STAT_PARTNER : Fld := ⟨0x160204, 256, 0, 4, 1⟩
def PART_STAT_NO_RETURN : Fld := ⟨0x160204, 256, 0, 5, 1⟩
def PART_STAT_HANDOVER_PEND : Fld := ⟨0x160204, 256, 0, 6, 1⟩
def PART_STAT_LANES : Fld := ⟨0x160204, 256, 0, 8, 4⟩
def PART_STAT_NR_CAUSE : Fld := ⟨0x160204, 256, 0, 12, 4⟩
def PART_STAT_PARTNER_ROLE : Fld := ⟨0x160204, 256, 0, 16, 3⟩
def PART_TOFS_TOFS : Fld := ⟨0x160208, 256, 0, 0, 32⟩
def PART_SNAP_AGE : Fld := ⟨0x16020C, 256, 0, 0, 8⟩
def PART_SNAP_BAD : Fld := ⟨0x16020C, 256, 0, 16, 16⟩
def PART_CNT_SWITCHOVERS : Fld := ⟨0x160210, 256, 0, 0, 16⟩
def PART_CNT_HANDOVERS : Fld := ⟨0x160210, 256, 0, 16, 16⟩
def PART_LAST_CAUSE : Fld := ⟨0x160214, 256, 0, 0, 4⟩
def PART_LAST_MAX_COAST : Fld := ⟨0x160214, 256, 0, 4, 4⟩
def PART_LAST_TAI_TAI : Fld := ⟨0x160218, 256, 0, 0, 32⟩
def PART_LAST_TAI_TAI_H : Fld := ⟨0x16021C, 256, 0, 0, 32⟩
/-! Fields of R551. -/
def HOST_PORT_STAT_LAST_SEQ : Fld := ⟨0x170100, 256, 0, 0, 8⟩
def HOST_PORT_STAT_SEQ_VALID : Fld := ⟨0x170100, 256, 0, 8, 1⟩
def HOST_PORT_STAT_BUSY : Fld := ⟨0x170100, 256, 0, 9, 1⟩
def HOST_PORT_STAT_LAST_STATUS : Fld := ⟨0x170100, 256, 0, 16, 8⟩
def HOST_PORT_STAT_FIRST : Fld := ⟨0x170100, 256, 0, 24, 7⟩
def HOST_PORT_CNT_FRAME_ERR : Fld := ⟨0x170104, 256, 0, 0, 16⟩
def HOST_PORT_CNT_DUP : Fld := ⟨0x170104, 256, 0, 16, 16⟩
def HOST_PORT_CNT2_BUSY_DROP : Fld := ⟨0x170108, 256, 0, 0, 16⟩
def HOST_PORT_CNT2_WLOST : Fld := ⟨0x170108, 256, 0, 16, 16⟩
def HOST_FL_CMD_OP : Fld := ⟨0x170200, 256, 0, 0, 2⟩
def HOST_FL_ADDR_ADDR : Fld := ⟨0x170204, 256, 0, 0, 24⟩
def HOST_FL_BUF_BASE : Fld := ⟨0x170208, 256, 0, 0, 20⟩
def HOST_FL_BUF_LEN : Fld := ⟨0x170208, 256, 0, 20, 9⟩
def HOST_FL_STAT_BUSY : Fld := ⟨0x17020C, 256, 0, 0, 1⟩
def HOST_FL_STAT_DONE : Fld := ⟨0x17020C, 256, 0, 1, 1⟩
def HOST_FL_STAT_FAIL : Fld := ⟨0x17020C, 256, 0, 2, 1⟩
def HOST_FL_STAT_ERASE_KIB : Fld := ⟨0x17020C, 256, 0, 8, 16⟩
/-! Fields of R552. -/
def ETH_MCFG_MAC_EN : Fld := ⟨0x180000, 256, 0, 0, 1⟩
def ETH_MCFG_SPEED : Fld := ⟨0x180000, 256, 0, 1, 1⟩
def ETH_MCFG_TXDLY : Fld := ⟨0x180000, 256, 0, 2, 1⟩
def ETH_MCFG_RXDLY : Fld := ⟨0x180000, 256, 0, 3, 1⟩
def ETH_MCFG_PHY_ADDR : Fld := ⟨0x180000, 256, 0, 4, 5⟩
def ETH_MCFG_POLL_EN : Fld := ⟨0x180000, 256, 0, 9, 1⟩
def ETH_MAC_LO_MAC : Fld := ⟨0x180004, 256, 0, 0, 32⟩
def ETH_MAC_HI_MAC : Fld := ⟨0x180008, 256, 0, 0, 16⟩
def ETH_IP_IP : Fld := ⟨0x18000C, 256, 0, 0, 32⟩
def ETH_MSTAT_LINK : Fld := ⟨0x180010, 256, 0, 0, 1⟩
def ETH_MSTAT_PAUSED : Fld := ⟨0x180010, 256, 0, 1, 1⟩
def ETH_MCNT_RX_DISCARD : Fld := ⟨0x180014, 256, 0, 0, 16⟩
def ETH_MCNT_RX_ERR : Fld := ⟨0x180014, 256, 0, 16, 16⟩
def ETH_MCNT2_PAUSE_US : Fld := ⟨0x180018, 256, 0, 0, 32⟩
def ETH_MDIO_PHY : Fld := ⟨0x181100, 256, 0, 0, 5⟩
def ETH_MDIO_REG : Fld := ⟨0x181100, 256, 0, 5, 5⟩
def ETH_MDIO_OP : Fld := ⟨0x181100, 256, 0, 10, 2⟩
def ETH_MDIO_DATA : Fld := ⟨0x181100, 256, 0, 16, 16⟩
def ETH_MDIO_STAT_BUSY : Fld := ⟨0x181104, 256, 0, 0, 1⟩
def ETH_MDIO_STAT_DATA : Fld := ⟨0x181104, 256, 0, 16, 16⟩
/-! Fields of R553. -/
def SEAL_SW_WORD : Fld := ⟨0x190100, 256, 0, 0, 16⟩
def SEAL_SW_STATE : Fld := ⟨0x190100, 256, 0, 16, 2⟩
def SEAL_SW_RENEW_PEND : Fld := ⟨0x190100, 256, 0, 18, 1⟩
def SEAL_SW_DIVERGED : Fld := ⟨0x190100, 256, 0, 19, 1⟩
def SEAL_MASK_MASK : Fld := ⟨0x190104, 256, 0, 0, 16⟩
def SEAL_CNT_OPENINGS : Fld := ⟨0x190108, 256, 0, 0, 16⟩
def SEAL_CNT_CLOSURES : Fld := ⟨0x190108, 256, 0, 16, 16⟩
def SEAL_DIGEST_DIGEST : Fld := ⟨0x190110, 256, 4, 0, 32⟩
def SEAL_PASS_PASS : Fld := ⟨0x190200, 256, 0, 0, 32⟩
def SEAL_PASS_PASS_H : Fld := ⟨0x190204, 256, 0, 0, 32⟩
def SEAL_PASS_NEW_PASS : Fld := ⟨0x190208, 256, 0, 0, 32⟩
def SEAL_PASS_NEW_PASS_H : Fld := ⟨0x19020C, 256, 0, 0, 32⟩
def SEAL_PCMD_CMD : Fld := ⟨0x190210, 256, 0, 0, 2⟩
def SEAL_PSTAT_SESSION : Fld := ⟨0x190214, 256, 0, 0, 1⟩
def SEAL_PSTAT_PASS_SET : Fld := ⟨0x190214, 256, 0, 1, 1⟩
def SEAL_PSTAT_LOCKOUT : Fld := ⟨0x190214, 256, 0, 2, 1⟩
def SEAL_PSTAT_FAILS : Fld := ⟨0x190214, 256, 0, 8, 4⟩
def SEAL_PSTAT_REMAIN : Fld := ⟨0x190214, 256, 0, 16, 16⟩
def SEAL_PCFG_PASS_TMO : Fld := ⟨0x190218, 256, 0, 0, 12⟩
def SEAL_PCFG_PASS_TRIES : Fld := ⟨0x190218, 256, 0, 12, 4⟩
def SEAL_LOG_NEXT_SEQ : Fld := ⟨0x190300, 256, 0, 0, 32⟩
def SEAL_LOG_ACK_SEQ : Fld := ⟨0x190304, 256, 0, 0, 32⟩
def SEAL_LOG_HASH_HASH : Fld := ⟨0x190310, 256, 4, 0, 32⟩
/-! Fields of R89. -/
def CHK_LAST_REASON : Fld := ⟨0x030100, 256, 0, 0, 16⟩
def CHK_LAST_UNIT : Fld := ⟨0x030100, 256, 0, 16, 8⟩
def CHK_LAST_OFFSET : Fld := ⟨0x030100, 256, 0, 24, 8⟩
def CHK_CNT_CNT : Fld := ⟨0x030104, 256, 0, 0, 16⟩

end Sys2Proof.Machine
end

