-- ==== Sys2Proof/Machine/RegTable.lean ====
section
/-! DEFINITION. The register map: for every block, its registers with their units, array elements, field access codes (R7) and reset words, from the register tables of the spec.
The common registers of R98 stand at the end of each block's list. A mask of fused bits marks fields that show a fuse value from power-on. -/

namespace Sys2Proof.Machine

/-- The registers of SYS. -/
def sysRegs0 : List RegDef := [
  ⟨0x000100, 1, 256, 1, 0, [⟨0, 1, .rwl⟩], 0x0, 0x0⟩, -- SYS_CYC_CFG
  ⟨0x000104, 1, 256, 1, 0, [⟨0, 16, .rwl⟩, ⟨16, 16, .rwl⟩], 0x4E200000, 0x0⟩, -- SYS_CYC_TIMING
  ⟨0x000108, 1, 256, 1, 0, [⟨0, 32, .ro⟩], 0x0, 0x0⟩, -- SYS_CYC_NUM
  ⟨0x00010C, 1, 256, 1, 0, [⟨0, 32, .ro⟩], 0x0, 0x0⟩, -- SYS_CYC_START
  ⟨0x000110, 1, 256, 1, 0, [⟨0, 32, .ro⟩], 0x0, 0x0⟩, -- SYS_CYC_START
  ⟨0x000114, 1, 256, 1, 0, [⟨0, 1, .ro⟩, ⟨1, 1, .ro⟩, ⟨2, 1, .w1c⟩, ⟨16, 16, .ro⟩], 0x0, 0x0⟩, -- SYS_CYC_STAT
  ⟨0x000200, 1, 256, 1, 0, [⟨0, 4, .ro⟩, ⟨4, 1, .ro⟩, ⟨8, 4, .ro⟩, ⟨12, 4, .ro⟩], 0x1, 0x0⟩, -- SYS_PWR_STATE
  ⟨0x000204, 1, 256, 1, 0, [⟨0, 4, .wo⟩], 0x0, 0x0⟩, -- SYS_PWR_CMD
  ⟨0x000208, 1, 256, 1, 0, [⟨0, 1, .ro⟩, ⟨1, 1, .ro⟩, ⟨8, 8, .ro⟩], 0x0, 0x0⟩, -- SYS_AON_STAT
  ⟨0x00020C, 1, 256, 1, 0, [⟨0, 32, .rw⟩], 0x0, 0x0⟩, -- SYS_AON_ALARM
  ⟨0x000210, 1, 256, 1, 0, [⟨0, 27, .rw⟩], 0x0, 0x0⟩, -- SYS_BOOT_EN
  ⟨0x000300, 1, 256, 1, 0, [⟨0, 6, .ro⟩, ⟨8, 4, .ro⟩, ⟨12, 1, .ro⟩, ⟨16, 16, .ro⟩], 0x0, 0x0⟩, -- SYS_PRIMER_STAT
  ⟨0x000214, 1, 256, 1, 0, [⟨0, 27, .w1c⟩, ⟨31, 1, .w1c⟩], 0x0, 0x0⟩, -- SYS_FAULT_HOLD
  ⟨0x000000, 1, 256, 1, 0, [⟨0, 1, .rw⟩], 0x0, 0x0⟩, -- SYS_CTRL
  ⟨0x000004, 1, 256, 1, 0, [⟨0, 16, .w1c⟩, ⟨16, 1, .ro⟩], 0x0, 0x0⟩, -- SYS_STATUS
  ⟨0x000008, 1, 256, 1, 0, [⟨0, 16, .rw⟩, ⟨16, 1, .rw⟩], 0x0, 0x0⟩, -- SYS_IRQ_EN
  ⟨0x00000C, 1, 256, 1, 0, [⟨0, 32, .ro⟩], 0x0, 0x0⟩, -- SYS_CHK
  ⟨0x000010, 1, 256, 1, 0, [⟨0, 16, .w1c⟩], 0x0, 0x0⟩, -- SYS_FLT_SEV
  ⟨0x000014, 1, 256, 1, 0, [⟨0, 4, .ro⟩, ⟨8, 8, .ro⟩, ⟨16, 16, .ro⟩], 0x0, 0x0⟩, -- SYS_EVT_LAST
  ⟨0x000040, 1, 256, 1, 0, [⟨0, 8, .rwl⟩, ⟨8, 8, .ro⟩, ⟨16, 16, .ro⟩], 0x3, 0x0⟩, -- SYS_FLT_N[0]
  ⟨0x000044, 1, 256, 1, 0, [⟨0, 20, .rwl⟩], 0xF4240, 0x0⟩ -- SYS_FLT_WIN[0]
]

/-- All registers of SYS. -/
def sysRegs : List RegDef := sysRegs0

/-- The registers of CLK. -/
def clkRegs0 : List RegDef := [
  ⟨0x010100, 1, 256, 1, 0, [⟨0, 8, .rw⟩, ⟨8, 4, .rw⟩, ⟨12, 1, .wo⟩, ⟨13, 1, .rw⟩], 0x2218, 0x0⟩, -- CLK_PLL_CTRL
  ⟨0x010200, 1, 256, 1, 0, [⟨0, 8, .rw⟩, ⟨8, 4, .rw⟩, ⟨12, 1, .wo⟩, ⟨13, 1, .rw⟩], 0x214, 0x0⟩, -- CLK_PLL_CTRL
  ⟨0x010104, 1, 256, 1, 0, [⟨0, 1, .ro⟩, ⟨1, 4, .ro⟩, ⟨5, 1, .w1c⟩, ⟨6, 1, .w1c⟩, ⟨8, 8, .ro⟩, ⟨16, 8, .otp⟩], 0x0, 0xFF0000⟩, -- CLK_PLL_STAT of PLL_A
  ⟨0x010204, 1, 256, 1, 0, [⟨0, 1, .ro⟩, ⟨1, 4, .ro⟩, ⟨5, 1, .w1c⟩, ⟨6, 1, .w1c⟩, ⟨8, 8, .ro⟩, ⟨16, 8, .otp⟩], 0x0, 0x0⟩, -- CLK_PLL_STAT of PLL_B
  ⟨0x010140, 2, 256, 16, 4, [⟨0, 11, .rw⟩, ⟨11, 11, .rw⟩, ⟨22, 8, .rw⟩, ⟨31, 1, .rw⟩], 0x0, 0x0⟩, -- CLK_PLL_BAND
  ⟨0x010000, 1, 256, 1, 0, [⟨0, 1, .rw⟩], 0x0, 0x0⟩, -- CLK_CTRL
  ⟨0x010004, 1, 256, 1, 0, [⟨0, 16, .w1c⟩, ⟨16, 1, .ro⟩], 0x0, 0x0⟩, -- CLK_STATUS
  ⟨0x010008, 1, 256, 1, 0, [⟨0, 16, .rw⟩, ⟨16, 1, .rw⟩], 0x0, 0x0⟩, -- CLK_IRQ_EN
  ⟨0x01000C, 1, 256, 1, 0, [⟨0, 32, .ro⟩], 0x0, 0x0⟩, -- CLK_CHK
  ⟨0x010010, 1, 256, 1, 0, [⟨0, 16, .w1c⟩], 0x0, 0x0⟩, -- CLK_FLT_SEV
  ⟨0x010014, 1, 256, 1, 0, [⟨0, 4, .ro⟩, ⟨8, 8, .ro⟩, ⟨16, 16, .ro⟩], 0x0, 0x0⟩, -- CLK_EVT_LAST
  ⟨0x010040, 1, 256, 1, 0, [⟨0, 8, .rwl⟩, ⟨8, 8, .ro⟩, ⟨16, 16, .ro⟩], 0x1, 0x0⟩, -- CLK_FLT_N[0]
  ⟨0x010044, 1, 256, 1, 0, [⟨0, 20, .rwl⟩], 0x186A0, 0x0⟩, -- CLK_FLT_WIN[0]
  ⟨0x010048, 1, 256, 1, 0, [⟨0, 8, .rwl⟩, ⟨8, 8, .ro⟩, ⟨16, 16, .ro⟩], 0x1, 0x0⟩, -- CLK_FLT_N[1]
  ⟨0x01004C, 1, 256, 1, 0, [⟨0, 20, .rwl⟩], 0x186A0, 0x0⟩ -- CLK_FLT_WIN[1]
]

/-- All registers of CLK. -/
def clkRegs : List RegDef := clkRegs0

/-- The registers of BOOT. -/
def bootRegs0 : List RegDef := [
  ⟨0x020100, 1, 256, 1, 0, [⟨0, 4, .ro⟩, ⟨4, 1, .ro⟩, ⟨5, 1, .ro⟩, ⟨8, 16, .ro⟩], 0x0, 0x0⟩, -- BOOT_STAT
  ⟨0x020104, 1, 256, 1, 0, [⟨0, 32, .ro⟩], 0x0, 0x0⟩, -- BOOT_GEN
  ⟨0x020108, 1, 256, 1, 0, [⟨0, 32, .ro⟩], 0x0, 0x0⟩, -- BOOT_HDR_CRC
  ⟨0x02010C, 1, 256, 1, 0, [⟨0, 8, .ro⟩, ⟨8, 2, .ro⟩], 0x1A, 0x0⟩, -- BOOT_FLASH
  ⟨0x020000, 1, 256, 1, 0, [⟨0, 1, .rw⟩], 0x0, 0x0⟩, -- BOOT_CTRL
  ⟨0x020004, 1, 256, 1, 0, [⟨0, 16, .w1c⟩, ⟨16, 1, .ro⟩], 0x0, 0x0⟩, -- BOOT_STATUS
  ⟨0x020008, 1, 256, 1, 0, [⟨0, 16, .rw⟩, ⟨16, 1, .rw⟩], 0x0, 0x0⟩, -- BOOT_IRQ_EN
  ⟨0x02000C, 1, 256, 1, 0, [⟨0, 32, .ro⟩], 0x0, 0x0⟩, -- BOOT_CHK
  ⟨0x020010, 1, 256, 1, 0, [⟨0, 16, .w1c⟩], 0x0, 0x0⟩, -- BOOT_FLT_SEV
  ⟨0x020014, 1, 256, 1, 0, [⟨0, 4, .ro⟩, ⟨8, 8, .ro⟩, ⟨16, 16, .ro⟩], 0x0, 0x0⟩ -- BOOT_EVT_LAST
]

/-- All registers of BOOT. -/
def bootRegs : List RegDef := bootRegs0

/-- The registers of CHK. -/
def chkRegs0 : List RegDef := [
  ⟨0x030100, 1, 256, 1, 0, [⟨0, 16, .ro⟩, ⟨16, 8, .ro⟩, ⟨24, 8, .ro⟩], 0x0, 0x0⟩, -- CHK_LAST
  ⟨0x030104, 1, 256, 1, 0, [⟨0, 16, .ro⟩], 0x0, 0x0⟩, -- CHK_CNT
  ⟨0x030000, 1, 256, 1, 0, [⟨0, 1, .rw⟩], 0x0, 0x0⟩, -- CHK_CTRL
  ⟨0x030004, 1, 256, 1, 0, [⟨0, 16, .w1c⟩, ⟨16, 1, .ro⟩], 0x0, 0x0⟩, -- CHK_STATUS
  ⟨0x030008, 1, 256, 1, 0, [⟨0, 16, .rw⟩, ⟨16, 1, .rw⟩], 0x0, 0x0⟩, -- CHK_IRQ_EN
  ⟨0x03000C, 1, 256, 1, 0, [⟨0, 32, .ro⟩], 0x0, 0x0⟩, -- CHK_CHK
  ⟨0x030010, 1, 256, 1, 0, [⟨0, 16, .w1c⟩], 0x0, 0x0⟩, -- CHK_FLT_SEV
  ⟨0x030014, 1, 256, 1, 0, [⟨0, 4, .ro⟩, ⟨8, 8, .ro⟩, ⟨16, 16, .ro⟩], 0x0, 0x0⟩ -- CHK_EVT_LAST
]

/-- All registers of CHK. -/
def chkRegs : List RegDef := chkRegs0

/-- The registers of TIME. -/
def timeRegs0 : List RegDef := [
  ⟨0x040100, 1, 256, 1, 0, [⟨0, 32, .ro⟩], 0x0, 0x0⟩, -- TIME_NOW
  ⟨0x040104, 1, 256, 1, 0, [⟨0, 32, .ro⟩], 0x0, 0x0⟩, -- TIME_NOW
  ⟨0x040108, 1, 256, 1, 0, [⟨0, 32, .ro⟩], 0x0, 0x0⟩, -- TIME_NOW_FRAC
  ⟨0x04010C, 1, 256, 1, 0, [⟨0, 32, .rwl⟩], 0xAAAAAAAB, 0x0⟩, -- TIME_INCR_FRAC
  ⟨0x040110, 1, 256, 1, 0, [⟨0, 8, .rwl⟩], 0x1, 0x0⟩, -- TIME_INCR_INT
  ⟨0x040114, 1, 256, 1, 0, [⟨0, 32, .rw⟩], 0x0, 0x0⟩, -- TIME_FREQ_ADJ
  ⟨0x040118, 1, 256, 1, 0, [⟨0, 20, .rwl⟩, ⟨20, 9, .rwl⟩, ⟨29, 2, .rwl⟩], 0x264003E8, 0x0⟩, -- TIME_SLEW_CFG
  ⟨0x04011C, 1, 256, 1, 0, [⟨0, 32, .wo⟩], 0x0, 0x0⟩, -- TIME_OFS_REQ
  ⟨0x040120, 1, 256, 1, 0, [⟨0, 32, .wo⟩], 0x0, 0x0⟩, -- TIME_STEP
  ⟨0x040124, 1, 256, 1, 0, [⟨0, 32, .wo⟩], 0x0, 0x0⟩, -- TIME_STEP
  ⟨0x040128, 1, 256, 1, 0, [⟨0, 3, .ro⟩, ⟨3, 1, .ro⟩, ⟨4, 1, .ro⟩, ⟨5, 1, .ro⟩, ⟨6, 1, .ro⟩, ⟨16, 16, .ro⟩], 0x0, 0x0⟩, -- TIME_SYNC_STAT
  ⟨0x04012C, 1, 256, 1, 0, [⟨0, 32, .ro⟩], 0x0, 0x0⟩, -- TIME_OFS_LAST
  ⟨0x040130, 1, 256, 1, 0, [⟨0, 32, .ro⟩], 0x0, 0x0⟩, -- TIME_MPD
  ⟨0x040200, 1, 256, 1, 0, [⟨0, 1, .rwl⟩, ⟨1, 1, .rwl⟩, ⟨2, 1, .rwl⟩, ⟨3, 2, .rwl⟩, ⟨5, 1, .rwl⟩, ⟨6, 1, .rwl⟩, ⟨7, 1, .rwl⟩, ⟨8, 8, .rwl⟩, ⟨16, 4, .rwl⟩, ⟨20, 4, .rwl⟩], 0x440088, 0x0⟩, -- TIME_PTP_CFG
  ⟨0x040204, 1, 256, 1, 0, [⟨0, 4, .rwl⟩, ⟨4, 4, .rwl⟩, ⟨8, 4, .rwl⟩, ⟨12, 4, .rwl⟩, ⟨16, 8, .rwl⟩, ⟨24, 8, .rwl⟩], 0x8080300D, 0x0⟩, -- TIME_PTP_INT
  ⟨0x040208, 1, 256, 2, 4, [⟨0, 16, .rwl⟩, ⟨16, 16, .rwl⟩], 0x0, 0x0⟩, -- TIME_PTP_DLY
  ⟨0x040210, 1, 256, 1, 0, [⟨0, 8, .rwl⟩, ⟨8, 8, .rwl⟩, ⟨16, 16, .rwl⟩], 0xFFFFFEF8, 0x0⟩, -- TIME_PTP_CLKQ
  ⟨0x040214, 1, 256, 1, 0, [⟨0, 32, .ro⟩], 0x0, 0x0⟩, -- TIME_PTP_GM
  ⟨0x040218, 1, 256, 1, 0, [⟨0, 32, .ro⟩], 0x0, 0x0⟩, -- TIME_PTP_GM
  ⟨0x040000, 1, 256, 1, 0, [⟨0, 1, .rw⟩], 0x0, 0x0⟩, -- TIME_CTRL
  ⟨0x040004, 1, 256, 1, 0, [⟨0, 16, .w1c⟩, ⟨16, 1, .ro⟩], 0x0, 0x0⟩, -- TIME_STATUS
  ⟨0x040008, 1, 256, 1, 0, [⟨0, 16, .rw⟩, ⟨16, 1, .rw⟩], 0x0, 0x0⟩, -- TIME_IRQ_EN
  ⟨0x04000C, 1, 256, 1, 0, [⟨0, 32, .ro⟩], 0x0, 0x0⟩, -- TIME_CHK
  ⟨0x040010, 1, 256, 1, 0, [⟨0, 16, .w1c⟩], 0x0, 0x0⟩, -- TIME_FLT_SEV
  ⟨0x040014, 1, 256, 1, 0, [⟨0, 4, .ro⟩, ⟨8, 8, .ro⟩, ⟨16, 16, .ro⟩], 0x0, 0x0⟩, -- TIME_EVT_LAST
  ⟨0x040040, 1, 256, 1, 0, [⟨0, 8, .rwl⟩, ⟨8, 8, .ro⟩, ⟨16, 16, .ro⟩], 0x1, 0x0⟩, -- TIME_FLT_N[0]
  ⟨0x040044, 1, 256, 1, 0, [⟨0, 20, .rwl⟩], 0x186A0, 0x0⟩, -- TIME_FLT_WIN[0]
  ⟨0x040058, 1, 256, 1, 0, [⟨0, 8, .rwl⟩, ⟨8, 8, .ro⟩, ⟨16, 16, .ro⟩], 0x10, 0x0⟩, -- TIME_FLT_N[3]
  ⟨0x04005C, 1, 256, 1, 0, [⟨0, 20, .rwl⟩], 0x186A0, 0x0⟩, -- TIME_FLT_WIN[3]
  ⟨0x040060, 1, 256, 1, 0, [⟨0, 8, .rwl⟩, ⟨8, 8, .ro⟩, ⟨16, 16, .ro⟩], 0x4, 0x0⟩, -- TIME_FLT_N[4]
  ⟨0x040064, 1, 256, 1, 0, [⟨0, 20, .rwl⟩], 0x186A0, 0x0⟩ -- TIME_FLT_WIN[4]
]

/-- All registers of TIME. -/
def timeRegs : List RegDef := timeRegs0

/-- The registers of HIVE. -/
def hiveRegs0 : List RegDef := [
  ⟨0x050000, 12, 256, 1, 0, [⟨0, 1, .rwl⟩, ⟨1, 5, .rwl⟩, ⟨6, 1, .rwl⟩, ⟨7, 1, .wo⟩, ⟨8, 8, .rwl⟩, ⟨16, 8, .rwl⟩], 0x40, 0x0⟩, -- HIVE_RCTL
  ⟨0x050004, 12, 256, 1, 0, [⟨0, 2, .ro⟩, ⟨2, 1, .ro⟩, ⟨3, 5, .ro⟩, ⟨8, 5, .ro⟩, ⟨13, 1, .ro⟩, ⟨14, 1, .ro⟩, ⟨15, 1, .ro⟩, ⟨16, 16, .ro⟩], 0x0, 0x0⟩, -- HIVE_RSTAT
  ⟨0x050008, 12, 256, 1, 0, [⟨0, 16, .ro⟩, ⟨16, 16, .ro⟩], 0x0, 0x0⟩, -- HIVE_RCNT
  ⟨0x05000C, 12, 256, 1, 0, [⟨0, 16, .ro⟩, ⟨16, 16, .ro⟩], 0x0, 0x0⟩, -- HIVE_RCNT2
  ⟨0x050010, 12, 256, 2, 4, [⟨0, 32, .ro⟩], 0x0, 0x0⟩, -- HIVE_RMISS
  ⟨0x050040, 12, 256, 16, 4, [⟨0, 16, .ro⟩, ⟨16, 16, .ro⟩], 0x0, 0x0⟩, -- HIVE_RDLY
  ⟨0x051100, 1, 256, 1, 0, [⟨0, 4, .rwl⟩, ⟨4, 2, .rwl⟩, ⟨6, 2, .rwl⟩, ⟨8, 8, .rwl⟩], 0x5A3, 0x0⟩, -- HIVE_CFG
  ⟨0x051104, 1, 256, 1, 0, [⟨0, 8, .rwl⟩, ⟨8, 8, .rwl⟩, ⟨16, 8, .rwl⟩], 0x641040, 0x0⟩, -- HIVE_KEY_CFG
  ⟨0x051108, 1, 256, 1, 0, [⟨0, 1, .ro⟩, ⟨8, 8, .ro⟩, ⟨16, 16, .ro⟩], 0x0, 0x0⟩, -- HIVE_BLOCK
  ⟨0x051200, 1, 256, 1, 0, [⟨0, 4, .rwl⟩, ⟨4, 2, .rwl⟩, ⟨6, 3, .rwl⟩], 0x132, 0x0⟩, -- HIVE_MBX_CFG
  ⟨0x051204, 1, 256, 1, 0, [⟨0, 20, .rwl⟩, ⟨20, 9, .rwl⟩], 0x10000000, 0x0⟩, -- HIVE_MBX_SQ
  ⟨0x051208, 1, 256, 1, 0, [⟨0, 9, .ro⟩, ⟨16, 9, .rw⟩], 0x0, 0x0⟩, -- HIVE_MBX_SQ_PTR
  ⟨0x05120C, 1, 256, 1, 0, [⟨0, 20, .rwl⟩, ⟨20, 9, .rwl⟩], 0x10004000, 0x0⟩, -- HIVE_MBX_CQ
  ⟨0x051210, 1, 256, 1, 0, [⟨0, 9, .rw⟩, ⟨16, 9, .ro⟩], 0x0, 0x0⟩, -- HIVE_MBX_CQ_PTR
  ⟨0x051214, 1, 256, 1, 0, [⟨0, 7, .ro⟩, ⟨16, 16, .ro⟩], 0x0, 0x0⟩, -- HIVE_MBX_STAT
  ⟨0x051000, 1, 256, 1, 0, [⟨0, 1, .rw⟩], 0x0, 0x0⟩, -- HIVE_CTRL
  ⟨0x051004, 1, 256, 1, 0, [⟨0, 16, .w1c⟩, ⟨16, 1, .ro⟩], 0x0, 0x0⟩, -- HIVE_STATUS
  ⟨0x051008, 1, 256, 1, 0, [⟨0, 16, .rw⟩, ⟨16, 1, .rw⟩], 0x0, 0x0⟩, -- HIVE_IRQ_EN
  ⟨0x05100C, 1, 256, 1, 0, [⟨0, 32, .ro⟩], 0x0, 0x0⟩, -- HIVE_CHK
  ⟨0x051010, 1, 256, 1, 0, [⟨0, 16, .w1c⟩], 0x0, 0x0⟩, -- HIVE_FLT_SEV
  ⟨0x051014, 1, 256, 1, 0, [⟨0, 4, .ro⟩, ⟨8, 8, .ro⟩, ⟨16, 16, .ro⟩], 0x0, 0x0⟩, -- HIVE_EVT_LAST
  ⟨0x051040, 1, 256, 1, 0, [⟨0, 8, .rwl⟩, ⟨8, 8, .ro⟩, ⟨16, 16, .ro⟩], 0x40, 0x0⟩, -- HIVE_FLT_N[0]
  ⟨0x051044, 1, 256, 1, 0, [⟨0, 20, .rwl⟩], 0x186A0, 0x0⟩, -- HIVE_FLT_WIN[0]
  ⟨0x051048, 1, 256, 1, 0, [⟨0, 8, .rwl⟩, ⟨8, 8, .ro⟩, ⟨16, 16, .ro⟩], 0x1, 0x0⟩, -- HIVE_FLT_N[1]
  ⟨0x05104C, 1, 256, 1, 0, [⟨0, 20, .rwl⟩], 0x186A0, 0x0⟩, -- HIVE_FLT_WIN[1]
  ⟨0x051050, 1, 256, 1, 0, [⟨0, 8, .rwl⟩, ⟨8, 8, .ro⟩, ⟨16, 16, .ro⟩], 0x1, 0x0⟩, -- HIVE_FLT_N[2]
  ⟨0x051054, 1, 256, 1, 0, [⟨0, 20, .rwl⟩], 0x186A0, 0x0⟩, -- HIVE_FLT_WIN[2]
  ⟨0x051058, 1, 256, 1, 0, [⟨0, 8, .rwl⟩, ⟨8, 8, .ro⟩, ⟨16, 16, .ro⟩], 0x10, 0x0⟩, -- HIVE_FLT_N[3]
  ⟨0x05105C, 1, 256, 1, 0, [⟨0, 20, .rwl⟩], 0x186A0, 0x0⟩, -- HIVE_FLT_WIN[3]
  ⟨0x051060, 1, 256, 1, 0, [⟨0, 8, .rwl⟩, ⟨8, 8, .ro⟩, ⟨16, 16, .ro⟩], 0x8, 0x0⟩, -- HIVE_FLT_N[4]
  ⟨0x051064, 1, 256, 1, 0, [⟨0, 20, .rwl⟩], 0x186A0, 0x0⟩, -- HIVE_FLT_WIN[4]
  ⟨0x051068, 1, 256, 1, 0, [⟨0, 8, .rwl⟩, ⟨8, 8, .ro⟩, ⟨16, 16, .ro⟩], 0x1, 0x0⟩, -- HIVE_FLT_N[5]
  ⟨0x05106C, 1, 256, 1, 0, [⟨0, 20, .rwl⟩], 0x186A0, 0x0⟩ -- HIVE_FLT_WIN[5]
]

/-- All registers of HIVE. -/
def hiveRegs : List RegDef := hiveRegs0

/-- The registers of CELL. -/
def cellRegs0 : List RegDef := [
  ⟨0x060000, 192, 256, 1, 0, [⟨0, 1, .rwl⟩, ⟨1, 4, .rwl⟩, ⟨5, 4, .rwl⟩, ⟨9, 2, .rwl⟩], 0x0, 0x0⟩, -- CELL_SCFG
  ⟨0x060004, 192, 256, 1, 0, [⟨0, 2, .wo⟩], 0x0, 0x0⟩, -- CELL_SCMD
  ⟨0x060008, 192, 256, 1, 0, [⟨0, 4, .ro⟩, ⟨4, 4, .ro⟩, ⟨8, 4, .ro⟩, ⟨12, 4, .ro⟩, ⟨16, 1, .ro⟩, ⟨17, 1, .ro⟩, ⟨18, 1, .ro⟩, ⟨20, 4, .ro⟩], 0x0, 0x0⟩, -- CELL_SSTAT
  ⟨0x06000C, 192, 256, 1, 0, [⟨0, 16, .ro⟩, ⟨16, 16, .w1c⟩], 0x0, 0x0⟩, -- CELL_SFLT
  ⟨0x060010, 192, 256, 1, 0, [⟨0, 16, .ro⟩, ⟨16, 16, .ro⟩], 0x0, 0x0⟩, -- CELL_SCNT
  ⟨0x060014, 192, 256, 1, 0, [⟨0, 16, .ro⟩, ⟨16, 16, .ro⟩], 0x0, 0x0⟩, -- CELL_SCNT2
  ⟨0x060018, 192, 256, 1, 0, [⟨0, 32, .ro⟩], 0x0, 0x0⟩, -- CELL_SID
  ⟨0x06001C, 192, 256, 1, 0, [⟨0, 32, .ro⟩], 0x0, 0x0⟩, -- CELL_SVER
  ⟨0x060020, 192, 256, 1, 0, [⟨0, 32, .ro⟩], 0x0, 0x0⟩, -- CELL_VDC
  ⟨0x060024, 192, 256, 1, 0, [⟨0, 32, .ro⟩], 0x0, 0x0⟩, -- CELL_IAC
  ⟨0x060028, 192, 256, 1, 0, [⟨0, 32, .ro⟩], 0x0, 0x0⟩, -- CELL_IDAB
  ⟨0x06002C, 192, 256, 1, 0, [⟨0, 32, .ro⟩], 0x0, 0x0⟩, -- CELL_VOUT
  ⟨0x060030, 192, 256, 1, 0, [⟨0, 32, .ro⟩], 0x0, 0x0⟩, -- CELL_TEMP
  ⟨0x060034, 192, 256, 1, 0, [⟨0, 32, .ro⟩], 0x0, 0x0⟩, -- CELL_VGATE
  ⟨0x06C100, 1, 256, 1, 0, [⟨0, 10, .rwl⟩, ⟨10, 10, .rwl⟩, ⟨20, 10, .rwl⟩], 0x644B096, 0x0⟩, -- CELL_PULSE
  ⟨0x06C104, 1, 256, 1, 0, [⟨0, 2, .rwl⟩, ⟨16, 16, .rwl⟩], 0x7D00002, 0x0⟩, -- CELL_COAST
  ⟨0x06C108, 1, 256, 1, 0, [⟨0, 16, .rwl⟩, ⟨16, 16, .rwl⟩], 0x4E203A98, 0x0⟩, -- CELL_VGATE_LIM
  ⟨0x06C10C, 1, 256, 1, 0, [⟨0, 8, .rwl⟩, ⟨8, 16, .rwl⟩], 0x1F410, 0x0⟩, -- CELL_BST
  ⟨0x06C110, 1, 256, 1, 0, [⟨0, 8, .rwl⟩, ⟨8, 1, .rwl⟩], 0x1, 0x0⟩, -- CELL_ID_EXP
  ⟨0x06C120, 1, 256, 3, 4, [⟨0, 8, .rwl⟩, ⟨8, 1, .rwl⟩, ⟨16, 8, .ro⟩, ⟨24, 8, .ro⟩], 0x0, 0x0⟩, -- CELL_STR
  ⟨0x06C000, 1, 256, 1, 0, [⟨0, 1, .rw⟩, ⟨16, 1, .rw⟩], 0x10000, 0x0⟩, -- CELL_CTRL
  ⟨0x06C004, 1, 256, 1, 0, [⟨0, 16, .w1c⟩, ⟨16, 1, .ro⟩], 0x0, 0x0⟩, -- CELL_STATUS
  ⟨0x06C008, 1, 256, 1, 0, [⟨0, 16, .rw⟩, ⟨16, 1, .rw⟩], 0x0, 0x0⟩, -- CELL_IRQ_EN
  ⟨0x06C00C, 1, 256, 1, 0, [⟨0, 32, .ro⟩], 0x0, 0x0⟩, -- CELL_CHK
  ⟨0x06C010, 1, 256, 1, 0, [⟨0, 16, .w1c⟩], 0x0, 0x0⟩, -- CELL_FLT_SEV
  ⟨0x06C014, 1, 256, 1, 0, [⟨0, 4, .ro⟩, ⟨8, 8, .ro⟩, ⟨16, 16, .ro⟩], 0x0, 0x0⟩, -- CELL_EVT_LAST
  ⟨0x06C040, 1, 256, 1, 0, [⟨0, 8, .rwl⟩, ⟨8, 8, .ro⟩, ⟨16, 16, .ro⟩], 0x4, 0x0⟩, -- CELL_FLT_N[0]
  ⟨0x06C044, 1, 256, 1, 0, [⟨0, 20, .rwl⟩], 0x186A0, 0x0⟩, -- CELL_FLT_WIN[0]
  ⟨0x06C048, 1, 256, 1, 0, [⟨0, 8, .rwl⟩, ⟨8, 8, .ro⟩, ⟨16, 16, .ro⟩], 0x10, 0x0⟩, -- CELL_FLT_N[1]
  ⟨0x06C04C, 1, 256, 1, 0, [⟨0, 20, .rwl⟩], 0x186A0, 0x0⟩, -- CELL_FLT_WIN[1]
  ⟨0x06C050, 1, 256, 1, 0, [⟨0, 8, .rwl⟩, ⟨8, 8, .ro⟩, ⟨16, 16, .ro⟩], 0x4, 0x0⟩, -- CELL_FLT_N[2]
  ⟨0x06C054, 1, 256, 1, 0, [⟨0, 20, .rwl⟩], 0x186A0, 0x0⟩, -- CELL_FLT_WIN[2]
  ⟨0x06C058, 1, 256, 1, 0, [⟨0, 8, .rwl⟩, ⟨8, 8, .ro⟩, ⟨16, 16, .ro⟩], 0x1, 0x0⟩, -- CELL_FLT_N[3]
  ⟨0x06C05C, 1, 256, 1, 0, [⟨0, 20, .rwl⟩], 0x186A0, 0x0⟩, -- CELL_FLT_WIN[3]
  ⟨0x06C060, 1, 256, 1, 0, [⟨0, 8, .rwl⟩, ⟨8, 8, .ro⟩, ⟨16, 16, .ro⟩], 0x1, 0x0⟩, -- CELL_FLT_N[4]
  ⟨0x06C064, 1, 256, 1, 0, [⟨0, 20, .rwl⟩], 0x186A0, 0x0⟩, -- CELL_FLT_WIN[4]
  ⟨0x06C068, 1, 256, 1, 0, [⟨0, 8, .rwl⟩, ⟨8, 8, .ro⟩, ⟨16, 16, .ro⟩], 0x8, 0x0⟩, -- CELL_FLT_N[5]
  ⟨0x06C06C, 1, 256, 1, 0, [⟨0, 20, .rwl⟩], 0x186A0, 0x0⟩ -- CELL_FLT_WIN[5]
]

/-- All registers of CELL. -/
def cellRegs : List RegDef := cellRegs0

/-- The registers of MOD. -/
def modRegs0 : List RegDef := [
  ⟨0x070000, 3, 256, 1, 0, [⟨0, 2, .rwl⟩, ⟨2, 5, .rwl⟩, ⟨8, 6, .rwl⟩, ⟨16, 10, .rwl⟩], 0x320210, 0x0⟩, -- MOD_SCFG
  ⟨0x070004, 3, 256, 1, 0, [⟨0, 16, .rwl⟩, ⟨16, 16, .rwl⟩], 0x61A861A8, 0x0⟩, -- MOD_STIME
  ⟨0x070008, 3, 256, 1, 0, [⟨0, 8, .ro⟩, ⟨8, 8, .ro⟩, ⟨16, 1, .ro⟩, ⟨17, 1, .ro⟩, ⟨18, 1, .ro⟩], 0x0, 0x0⟩, -- MOD_SSTAT
  ⟨0x07000C, 3, 256, 1, 0, [⟨0, 32, .ro⟩], 0x0, 0x0⟩, -- MOD_SRES
  ⟨0x070010, 3, 256, 1, 0, [⟨0, 16, .ro⟩, ⟨16, 16, .ro⟩], 0x0, 0x0⟩, -- MOD_SCNT
  ⟨0x070014, 3, 256, 1, 0, [⟨0, 16, .ro⟩, ⟨16, 16, .ro⟩], 0x0, 0x0⟩, -- MOD_SCNT2
  ⟨0x070040, 3, 256, 48, 4, [⟨0, 32, .ro⟩], 0xFFFFFFFF, 0x0⟩, -- MOD_ORDER
  ⟨0x071100, 1, 256, 1, 0, [⟨0, 1, .rwl⟩, ⟨1, 1, .rwl⟩, ⟨8, 8, .rwl⟩], 0x1402, 0x0⟩, -- MOD_CFG
  ⟨0x071104, 1, 256, 1, 0, [⟨0, 16, .rwl⟩, ⟨16, 16, .rwl⟩], 0x400009C4, 0x0⟩, -- MOD_DAB
  ⟨0x071108, 1, 256, 1, 0, [⟨0, 16, .rwl⟩, ⟨16, 16, .rwl⟩], 0x32000A, 0x0⟩, -- MOD_DAB2
  ⟨0x07110C, 1, 256, 1, 0, [⟨0, 16, .ro⟩, ⟨16, 16, .ro⟩], 0x0, 0x0⟩, -- MOD_STAT
  ⟨0x071000, 1, 256, 1, 0, [⟨0, 1, .rw⟩], 0x0, 0x0⟩, -- MOD_CTRL
  ⟨0x071004, 1, 256, 1, 0, [⟨0, 16, .w1c⟩, ⟨16, 1, .ro⟩], 0x0, 0x0⟩, -- MOD_STATUS
  ⟨0x071008, 1, 256, 1, 0, [⟨0, 16, .rw⟩, ⟨16, 1, .rw⟩], 0x0, 0x0⟩, -- MOD_IRQ_EN
  ⟨0x07100C, 1, 256, 1, 0, [⟨0, 32, .ro⟩], 0x0, 0x0⟩, -- MOD_CHK
  ⟨0x071010, 1, 256, 1, 0, [⟨0, 16, .w1c⟩], 0x0, 0x0⟩, -- MOD_FLT_SEV
  ⟨0x071014, 1, 256, 1, 0, [⟨0, 4, .ro⟩, ⟨8, 8, .ro⟩, ⟨16, 16, .ro⟩], 0x0, 0x0⟩, -- MOD_EVT_LAST
  ⟨0x071040, 1, 256, 1, 0, [⟨0, 8, .rwl⟩, ⟨8, 8, .ro⟩, ⟨16, 16, .ro⟩], 0xC8, 0x0⟩, -- MOD_FLT_N[0]
  ⟨0x071044, 1, 256, 1, 0, [⟨0, 20, .rwl⟩], 0x186A0, 0x0⟩, -- MOD_FLT_WIN[0]
  ⟨0x071048, 1, 256, 1, 0, [⟨0, 8, .rwl⟩, ⟨8, 8, .ro⟩, ⟨16, 16, .ro⟩], 0x14, 0x0⟩, -- MOD_FLT_N[1]
  ⟨0x07104C, 1, 256, 1, 0, [⟨0, 20, .rwl⟩], 0x186A0, 0x0⟩, -- MOD_FLT_WIN[1]
  ⟨0x071050, 1, 256, 1, 0, [⟨0, 8, .rwl⟩, ⟨8, 8, .ro⟩, ⟨16, 16, .ro⟩], 0x1, 0x0⟩, -- MOD_FLT_N[2]
  ⟨0x071054, 1, 256, 1, 0, [⟨0, 20, .rwl⟩], 0x186A0, 0x0⟩ -- MOD_FLT_WIN[2]
]

/-- All registers of MOD. -/
def modRegs : List RegDef := modRegs0

/-- The registers of FORM. -/
def formRegs0 : List RegDef := [
  ⟨0x080100, 1, 256, 1, 0, [⟨0, 32, .rwl⟩], 0x2DC6C0, 0x0⟩, -- FORM_BASE_S
  ⟨0x080104, 1, 256, 1, 0, [⟨0, 16, .rwl⟩, ⟨16, 16, .rwl⟩], 0xC3502AF8, 0x0⟩, -- FORM_BASE_V
  ⟨0x080108, 1, 256, 1, 0, [⟨0, 16, .rwl⟩, ⟨16, 16, .rwl⟩], 0x271007D0, 0x0⟩, -- FORM_BASE_CELL
  ⟨0x08010C, 1, 256, 1, 0, [⟨0, 16, .rwl⟩], 0x64, 0x0⟩, -- FORM_BASE_CELL2
  ⟨0x080110, 1, 256, 1, 0, [⟨0, 32, .ro⟩], 0x0, 0x0⟩, -- FORM_BASE_VPK
  ⟨0x080114, 1, 256, 1, 0, [⟨0, 32, .ro⟩], 0x0, 0x0⟩, -- FORM_BASE_IPK
  ⟨0x080200, 1, 256, 1, 0, [⟨0, 1, .rwl⟩, ⟨1, 1, .rwl⟩, ⟨2, 1, .rwl⟩, ⟨3, 1, .rwl⟩], 0x8, 0x0⟩, -- FORM_CFG
  ⟨0x080204, 1, 256, 1, 0, [⟨0, 10, .rwl⟩, ⟨10, 10, .rwl⟩, ⟨20, 12, .rwl⟩], 0x1F419320, 0x0⟩, -- FORM_LIVE
  ⟨0x080208, 1, 256, 1, 0, [⟨0, 8, .rwl⟩, ⟨8, 10, .rwl⟩, ⟨18, 7, .rwl⟩], 0x501432, 0x0⟩, -- FORM_SYNC
  ⟨0x08020C, 1, 256, 1, 0, [⟨0, 16, .rwl⟩, ⟨16, 10, .rwl⟩], 0x3C0064, 0x0⟩, -- FORM_SYNC2
  ⟨0x080210, 1, 256, 1, 0, [⟨0, 16, .rwl⟩, ⟨16, 16, .rwl⟩], 0x6403E8, 0x0⟩, -- FORM_SYNC3
  ⟨0x080214, 1, 256, 1, 0, [⟨0, 16, .rwl⟩, ⟨16, 16, .rwl⟩], 0x1F401F4, 0x0⟩, -- FORM_BS
  ⟨0x080218, 1, 256, 1, 0, [⟨0, 16, .rwl⟩], 0xC8, 0x0⟩, -- FORM_STOP
  ⟨0x08021C, 1, 256, 1, 0, [⟨0, 16, .rwl⟩, ⟨16, 16, .rwl⟩], 0xD6D8B798, 0x0⟩, -- FORM_FLIM
  ⟨0x080220, 1, 256, 1, 0, [⟨0, 6, .rwl⟩, ⟨6, 6, .rwl⟩, ⟨12, 6, .rwl⟩, ⟨18, 1, .rwl⟩], 0x40, 0x0⟩, -- FORM_BKR
  ⟨0x080224, 1, 256, 1, 0, [⟨0, 12, .rwl⟩, ⟨12, 12, .rwl⟩, ⟨24, 8, .rwl⟩], 0xA064000, 0x0⟩, -- FORM_BKR2
  ⟨0x080228, 1, 256, 1, 0, [⟨0, 10, .rwl⟩], 0x64, 0x0⟩, -- FORM_BKR3
  ⟨0x080300, 1, 256, 1, 0, [⟨0, 4, .wo⟩], 0x0, 0x0⟩, -- FORM_MODE_CMD
  ⟨0x080304, 1, 256, 1, 0, [⟨0, 4, .ro⟩, ⟨4, 3, .ro⟩, ⟨7, 1, .ro⟩, ⟨8, 1, .ro⟩, ⟨9, 1, .ro⟩, ⟨10, 1, .ro⟩, ⟨11, 1, .ro⟩, ⟨12, 1, .ro⟩, ⟨13, 1, .ro⟩, ⟨14, 1, .ro⟩, ⟨15, 1, .ro⟩, ⟨16, 2, .ro⟩], 0x4, 0x0⟩, -- FORM_MODE_STAT
  ⟨0x080308, 1, 256, 1, 0, [⟨0, 16, .ro⟩, ⟨16, 16, .ro⟩], 0x0, 0x0⟩, -- FORM_SYNC_STAT
  ⟨0x08030C, 1, 256, 1, 0, [⟨0, 1, .rwl⟩, ⟨1, 1, .wo⟩, ⟨2, 1, .ro⟩], 0x0, 0x0⟩, -- FORM_BANK
  ⟨0x080400, 2, 256, 1, 0, [⟨0, 16, .rw⟩, ⟨16, 16, .rw⟩], 0x1F401F4, 0x0⟩, -- FORM_BK_SWING
  ⟨0x080404, 2, 256, 1, 0, [⟨0, 11, .rw⟩, ⟨11, 11, .rw⟩], 0xC80C8, 0x0⟩, -- FORM_BK_DROOP
  ⟨0x080408, 2, 256, 1, 0, [⟨0, 16, .rw⟩, ⟨16, 16, .rw⟩], 0x140028, 0x0⟩, -- FORM_BK_FILT
  ⟨0x08040C, 2, 256, 1, 0, [⟨0, 32, .rw⟩], 0xA3D70A, 0x0⟩, -- FORM_BK_RV
  ⟨0x080410, 2, 256, 1, 0, [⟨0, 32, .rw⟩], 0x3333333, 0x0⟩, -- FORM_BK_XV
  ⟨0x080414, 2, 256, 1, 0, [⟨0, 32, .rw⟩], 0x0, 0x0⟩, -- FORM_BK_PSET
  ⟨0x080418, 2, 256, 1, 0, [⟨0, 32, .rw⟩], 0x0, 0x0⟩, -- FORM_BK_QSET
  ⟨0x08041C, 2, 256, 1, 0, [⟨0, 32, .rw⟩], 0x20000000, 0x0⟩, -- FORM_BK_VSET
  ⟨0x080420, 2, 256, 1, 0, [⟨0, 32, .rw⟩], 0x20000000, 0x0⟩, -- FORM_BK_FSET
  ⟨0x080424, 2, 256, 1, 0, [⟨0, 16, .rw⟩, ⟨16, 16, .rw⟩], 0x64, 0x0⟩, -- FORM_BK_RAMP
  ⟨0x080428, 2, 256, 1, 0, [⟨0, 16, .rw⟩, ⟨16, 16, .rw⟩], 0x320001, 0x0⟩, -- FORM_BK_RES
  ⟨0x080600, 1, 256, 1, 0, [⟨0, 32, .ro⟩], 0x0, 0x0⟩, -- FORM_THETA_A
  ⟨0x080604, 1, 256, 1, 0, [⟨0, 32, .ro⟩], 0x0, 0x0⟩, -- FORM_DTHETA
  ⟨0x080608, 1, 256, 1, 0, [⟨0, 32, .ro⟩], 0x0, 0x0⟩, -- FORM_OMEGA
  ⟨0x08060C, 1, 256, 1, 0, [⟨0, 32, .ro⟩], 0x0, 0x0⟩, -- FORM_FFEED
  ⟨0x080610, 1, 256, 1, 0, [⟨0, 32, .ro⟩], 0x0, 0x0⟩, -- FORM_VD
  ⟨0x080614, 1, 256, 1, 0, [⟨0, 32, .ro⟩], 0x0, 0x0⟩, -- FORM_VQ
  ⟨0x080618, 1, 256, 1, 0, [⟨0, 32, .ro⟩], 0x0, 0x0⟩, -- FORM_E
  ⟨0x08061C, 1, 256, 1, 0, [⟨0, 32, .ro⟩], 0x0, 0x0⟩ -- FORM_PE
]

def formRegs1 : List RegDef := [
  ⟨0x080620, 1, 256, 1, 0, [⟨0, 32, .ro⟩], 0x0, 0x0⟩, -- FORM_QE
  ⟨0x080624, 1, 256, 1, 0, [⟨0, 32, .ro⟩], 0x0, 0x0⟩, -- FORM_PSCHED
  ⟨0x080628, 1, 256, 1, 0, [⟨0, 32, .ro⟩], 0x0, 0x0⟩, -- FORM_PRESP
  ⟨0x08062C, 1, 256, 1, 0, [⟨0, 32, .ro⟩], 0x0, 0x0⟩, -- FORM_STORE_REQ
  ⟨0x080630, 1, 256, 1, 0, [⟨0, 32, .ro⟩], 0x0, 0x0⟩, -- FORM_REMAIN
  ⟨0x080634, 1, 256, 1, 0, [⟨0, 17, .ro⟩], 0x0, 0x0⟩, -- FORM_CURT
  ⟨0x080638, 1, 256, 1, 0, [⟨0, 32, .ro⟩], 0x0, 0x0⟩, -- FORM_VMAG
  ⟨0x08063C, 1, 256, 1, 0, [⟨0, 32, .ro⟩], 0x0, 0x0⟩, -- FORM_VFMAG
  ⟨0x080640, 1, 256, 1, 0, [⟨0, 32, .ro⟩], 0x0, 0x0⟩, -- FORM_PFF
  ⟨0x080644, 1, 256, 1, 0, [⟨0, 32, .ro⟩], 0x0, 0x0⟩, -- FORM_STORE_DIS
  ⟨0x080648, 1, 256, 1, 0, [⟨0, 32, .ro⟩], 0x0, 0x0⟩, -- FORM_STORE_CHG
  ⟨0x08064C, 1, 256, 1, 0, [⟨0, 32, .ro⟩], 0x0, 0x0⟩, -- FORM_FLEX
  ⟨0x080650, 1, 256, 1, 0, [⟨0, 32, .ro⟩], 0x0, 0x0⟩, -- FORM_DRV
  ⟨0x080654, 1, 256, 1, 0, [⟨0, 32, .ro⟩], 0x0, 0x0⟩, -- FORM_DXV
  ⟨0x080000, 1, 256, 1, 0, [⟨0, 1, .rw⟩], 0x0, 0x0⟩, -- FORM_CTRL
  ⟨0x080004, 1, 256, 1, 0, [⟨0, 16, .w1c⟩, ⟨16, 1, .ro⟩], 0x0, 0x0⟩, -- FORM_STATUS
  ⟨0x080008, 1, 256, 1, 0, [⟨0, 16, .rw⟩, ⟨16, 1, .rw⟩], 0x0, 0x0⟩, -- FORM_IRQ_EN
  ⟨0x08000C, 1, 256, 1, 0, [⟨0, 32, .ro⟩], 0x0, 0x0⟩, -- FORM_CHK
  ⟨0x080010, 1, 256, 1, 0, [⟨0, 16, .w1c⟩], 0x0, 0x0⟩, -- FORM_FLT_SEV
  ⟨0x080014, 1, 256, 1, 0, [⟨0, 4, .ro⟩, ⟨8, 8, .ro⟩, ⟨16, 16, .ro⟩], 0x0, 0x0⟩, -- FORM_EVT_LAST
  ⟨0x080040, 1, 256, 1, 0, [⟨0, 8, .rwl⟩, ⟨8, 8, .ro⟩, ⟨16, 16, .ro⟩], 0x1, 0x0⟩, -- FORM_FLT_N[0]
  ⟨0x080044, 1, 256, 1, 0, [⟨0, 20, .rwl⟩], 0x186A0, 0x0⟩, -- FORM_FLT_WIN[0]
  ⟨0x080048, 1, 256, 1, 0, [⟨0, 8, .rwl⟩, ⟨8, 8, .ro⟩, ⟨16, 16, .ro⟩], 0x1, 0x0⟩, -- FORM_FLT_N[1]
  ⟨0x08004C, 1, 256, 1, 0, [⟨0, 20, .rwl⟩], 0x186A0, 0x0⟩, -- FORM_FLT_WIN[1]
  ⟨0x080050, 1, 256, 1, 0, [⟨0, 8, .rwl⟩, ⟨8, 8, .ro⟩, ⟨16, 16, .ro⟩], 0x1, 0x0⟩, -- FORM_FLT_N[2]
  ⟨0x080054, 1, 256, 1, 0, [⟨0, 20, .rwl⟩], 0x186A0, 0x0⟩, -- FORM_FLT_WIN[2]
  ⟨0x080058, 1, 256, 1, 0, [⟨0, 8, .rwl⟩, ⟨8, 8, .ro⟩, ⟨16, 16, .ro⟩], 0x1, 0x0⟩, -- FORM_FLT_N[3]
  ⟨0x08005C, 1, 256, 1, 0, [⟨0, 20, .rwl⟩], 0x186A0, 0x0⟩, -- FORM_FLT_WIN[3]
  ⟨0x080060, 1, 256, 1, 0, [⟨0, 8, .rwl⟩, ⟨8, 8, .ro⟩, ⟨16, 16, .ro⟩], 0x1, 0x0⟩, -- FORM_FLT_N[4]
  ⟨0x080064, 1, 256, 1, 0, [⟨0, 20, .rwl⟩], 0x186A0, 0x0⟩ -- FORM_FLT_WIN[4]
]

/-- All registers of FORM. -/
def formRegs : List RegDef := formRegs0 ++ formRegs1

/-- The registers of LAW. -/
def lawRegs0 : List RegDef := [
  ⟨0x090000, 1, 256, 1, 0, [⟨0, 2, .ro⟩, ⟨2, 1, .rwl⟩, ⟨3, 2, .rwl⟩, ⟨16, 16, .rwl⟩], 0xC80002, 0x0⟩, -- LAW_SCFG
  ⟨0x090100, 18, 256, 1, 0, [⟨0, 2, .rwl⟩, ⟨2, 1, .rwl⟩, ⟨3, 2, .rwl⟩, ⟨16, 16, .rwl⟩], 0xC80001, 0x0⟩, -- LAW_SCFG
  ⟨0x090004, 19, 256, 1, 0, [⟨0, 32, .rwl⟩], 0x199999A, 0x0⟩, -- LAW_SFE
  ⟨0x090008, 19, 256, 1, 0, [⟨0, 32, .rwl⟩], 0xE0000000, 0x0⟩, -- LAW_SYMIN
  ⟨0x09000C, 19, 256, 1, 0, [⟨0, 32, .rwl⟩], 0x20000000, 0x0⟩, -- LAW_SYMAX
  ⟨0x090010, 19, 256, 1, 0, [⟨0, 1, .rw⟩, ⟨16, 16, .rw⟩], 0x640000, 0x0⟩, -- LAW_SMAN
  ⟨0x090014, 19, 256, 1, 0, [⟨0, 32, .rw⟩], 0x0, 0x0⟩, -- LAW_SMAN_TGT
  ⟨0x090018, 19, 256, 1, 0, [⟨0, 1, .ro⟩, ⟨1, 1, .ro⟩, ⟨2, 1, .ro⟩, ⟨3, 1, .ro⟩, ⟨16, 16, .ro⟩], 0x0, 0x0⟩, -- LAW_SSTAT
  ⟨0x09001C, 19, 256, 1, 0, [⟨0, 32, .ro⟩], 0x0, 0x0⟩, -- LAW_SOUT
  ⟨0x090020, 19, 256, 2, 16, [⟨0, 32, .rw⟩], 0x10000, 0x0⟩, -- LAW_BK_KP
  ⟨0x090024, 19, 256, 2, 16, [⟨0, 32, .rw⟩], 0x0, 0x0⟩, -- LAW_BK_KI
  ⟨0x090028, 19, 256, 2, 16, [⟨0, 32, .rw⟩], 0x20000000, 0x0⟩, -- LAW_BK_LIM
  ⟨0x09002C, 19, 256, 2, 16, [⟨0, 32, .rw⟩], 0x0, 0x0⟩, -- LAW_BK_STEP
  ⟨0x090040, 19, 256, 1, 0, [⟨0, 32, .ro⟩], 0x0, 0x0⟩, -- LAW_SERR
  ⟨0x090044, 19, 256, 1, 0, [⟨0, 32, .ro⟩], 0x0, 0x0⟩, -- LAW_SU
  ⟨0x090048, 19, 256, 1, 0, [⟨0, 32, .ro⟩], 0x0, 0x0⟩, -- LAW_SSP
  ⟨0x09004C, 19, 256, 2, 4, [⟨0, 32, .rw⟩], 0x0, 0x0⟩, -- LAW_BK_BAND
  ⟨0x092100, 1, 256, 1, 0, [⟨0, 6, .rwl⟩, ⟨6, 6, .rwl⟩, ⟨12, 1, .rwl⟩, ⟨13, 6, .rwl⟩, ⟨19, 6, .rwl⟩, ⟨25, 1, .rwl⟩], 0x0, 0x0⟩, -- LAW_PRE
  ⟨0x092104, 1, 256, 1, 0, [⟨0, 10, .rwl⟩, ⟨10, 10, .rwl⟩, ⟨20, 12, .rwl⟩], 0x64AF30C, 0x0⟩, -- LAW_PRE2
  ⟨0x092108, 1, 256, 1, 0, [⟨0, 16, .rwl⟩, ⟨16, 12, .rwl⟩], 0x6403E8, 0x0⟩, -- LAW_PRE3
  ⟨0x09210C, 1, 256, 1, 0, [⟨0, 16, .rwl⟩], 0x0, 0x0⟩, -- LAW_ZC
  ⟨0x092140, 1, 256, 2, 16, [⟨0, 16, .rw⟩, ⟨16, 16, .rw⟩], 0x4B0041A, 0x0⟩, -- LAW_BK_ILIM
  ⟨0x092144, 1, 256, 2, 16, [⟨0, 16, .rw⟩, ⟨16, 16, .rw⟩], 0xFB073235, 0x0⟩, -- LAW_BK_ZW
  ⟨0x092148, 1, 256, 2, 16, [⟨0, 16, .rw⟩, ⟨16, 16, .rw⟩], 0x3E80014, 0x0⟩, -- LAW_BK_DZ
  ⟨0x09214C, 1, 256, 2, 16, [⟨0, 16, .rw⟩], 0x640, 0x0⟩, -- LAW_BK_TRIP
  ⟨0x092200, 1, 256, 1, 0, [⟨0, 1, .rwl⟩, ⟨1, 2, .rwl⟩, ⟨4, 4, .rwl⟩, ⟨8, 4, .rwl⟩], 0x132, 0x0⟩, -- LAW_CFG
  ⟨0x092204, 1, 256, 1, 0, [⟨0, 10, .rwl⟩, ⟨10, 10, .rwl⟩, ⟨20, 12, .rwl⟩], 0x14E1352, 0x0⟩, -- LAW_RT_V
  ⟨0x092208, 1, 256, 1, 0, [⟨0, 11, .rwl⟩, ⟨11, 11, .rwl⟩], 0x22647E, 0x0⟩, -- LAW_RT_V2
  ⟨0x092220, 1, 256, 8, 4, [⟨0, 16, .rwl⟩, ⟨16, 10, .rwl⟩], 0x0, 0x0⟩, -- LAW_RT_UV
  ⟨0x092240, 1, 256, 8, 4, [⟨0, 16, .rwl⟩, ⟨16, 11, .rwl⟩], 0x4B00000, 0x0⟩, -- LAW_RT_OV
  ⟨0x092260, 1, 256, 8, 4, [⟨0, 16, .rwl⟩, ⟨16, 14, .rwl⟩, ⟨30, 1, .rwl⟩, ⟨31, 1, .rwl⟩], 0x0, 0x0⟩, -- LAW_RT_F
  ⟨0x092280, 1, 256, 1, 0, [⟨0, 1, .ro⟩, ⟨1, 1, .ro⟩, ⟨2, 1, .w1c⟩, ⟨3, 3, .ro⟩, ⟨16, 16, .ro⟩], 0x0, 0x0⟩, -- LAW_RT_STAT
  ⟨0x092300, 1, 256, 1, 0, [⟨0, 1, .rwl⟩, ⟨1, 1, .wo⟩, ⟨2, 1, .ro⟩], 0x0, 0x0⟩, -- LAW_BANK
  ⟨0x092304, 1, 256, 1, 0, [⟨0, 2, .ro⟩, ⟨8, 5, .ro⟩, ⟨16, 16, .ro⟩], 0x0, 0x0⟩, -- LAW_WIN
  ⟨0x092308, 1, 256, 1, 0, [⟨0, 32, .ro⟩], 0x0, 0x0⟩, -- LAW_EGOV
  ⟨0x09230C, 1, 256, 1, 0, [⟨0, 32, .ro⟩], 0x0, 0x0⟩, -- LAW_PDC
  ⟨0x092310, 1, 256, 1, 0, [⟨0, 32, .ro⟩], 0x0, 0x0⟩, -- LAW_DZ
  ⟨0x092314, 1, 256, 1, 0, [⟨0, 32, .ro⟩], 0x0, 0x0⟩, -- LAW_IMAG
  ⟨0x092318, 1, 256, 1, 0, [⟨0, 32, .ro⟩], 0x0, 0x0⟩, -- LAW_W
  ⟨0x09231C, 1, 256, 1, 0, [⟨0, 32, .ro⟩], 0x0, 0x0⟩ -- LAW_W2
]

def lawRegs1 : List RegDef := [
  ⟨0x092320, 1, 256, 1, 0, [⟨0, 3, .ro⟩, ⟨16, 16, .ro⟩], 0x0, 0x0⟩, -- LAW_PRE_STAT
  ⟨0x092000, 1, 256, 1, 0, [⟨0, 1, .rw⟩], 0x0, 0x0⟩, -- LAW_CTRL
  ⟨0x092004, 1, 256, 1, 0, [⟨0, 16, .w1c⟩, ⟨16, 1, .ro⟩], 0x0, 0x0⟩, -- LAW_STATUS
  ⟨0x092008, 1, 256, 1, 0, [⟨0, 16, .rw⟩, ⟨16, 1, .rw⟩], 0x0, 0x0⟩, -- LAW_IRQ_EN
  ⟨0x09200C, 1, 256, 1, 0, [⟨0, 32, .ro⟩], 0x0, 0x0⟩, -- LAW_CHK
  ⟨0x092010, 1, 256, 1, 0, [⟨0, 16, .w1c⟩], 0x0, 0x0⟩, -- LAW_FLT_SEV
  ⟨0x092014, 1, 256, 1, 0, [⟨0, 4, .ro⟩, ⟨8, 8, .ro⟩, ⟨16, 16, .ro⟩], 0x0, 0x0⟩, -- LAW_EVT_LAST
  ⟨0x092040, 1, 256, 1, 0, [⟨0, 8, .rwl⟩, ⟨8, 8, .ro⟩, ⟨16, 16, .ro⟩], 0x1, 0x0⟩, -- LAW_FLT_N[0]
  ⟨0x092044, 1, 256, 1, 0, [⟨0, 20, .rwl⟩], 0x186A0, 0x0⟩, -- LAW_FLT_WIN[0]
  ⟨0x092048, 1, 256, 1, 0, [⟨0, 8, .rwl⟩, ⟨8, 8, .ro⟩, ⟨16, 16, .ro⟩], 0x1, 0x0⟩, -- LAW_FLT_N[1]
  ⟨0x09204C, 1, 256, 1, 0, [⟨0, 20, .rwl⟩], 0x186A0, 0x0⟩, -- LAW_FLT_WIN[1]
  ⟨0x092050, 1, 256, 1, 0, [⟨0, 8, .rwl⟩, ⟨8, 8, .ro⟩, ⟨16, 16, .ro⟩], 0x1, 0x0⟩, -- LAW_FLT_N[2]
  ⟨0x092054, 1, 256, 1, 0, [⟨0, 20, .rwl⟩], 0x186A0, 0x0⟩, -- LAW_FLT_WIN[2]
  ⟨0x092058, 1, 256, 1, 0, [⟨0, 8, .rwl⟩, ⟨8, 8, .ro⟩, ⟨16, 16, .ro⟩], 0x1, 0x0⟩, -- LAW_FLT_N[3]
  ⟨0x09205C, 1, 256, 1, 0, [⟨0, 20, .rwl⟩], 0x186A0, 0x0⟩, -- LAW_FLT_WIN[3]
  ⟨0x092060, 1, 256, 1, 0, [⟨0, 8, .rwl⟩, ⟨8, 8, .ro⟩, ⟨16, 16, .ro⟩], 0xA, 0x0⟩, -- LAW_FLT_N[4]
  ⟨0x092064, 1, 256, 1, 0, [⟨0, 20, .rwl⟩], 0x186A0, 0x0⟩ -- LAW_FLT_WIN[4]
]

/-- All registers of LAW. -/
def lawRegs : List RegDef := lawRegs0 ++ lawRegs1

/-- The registers of OUT. -/
def outRegs0 : List RegDef := [
  ⟨0x0A0000, 12, 256, 1, 0, [⟨0, 1, .rwl⟩, ⟨1, 1, .rwl⟩, ⟨2, 1, .rwl⟩, ⟨4, 8, .rwl⟩, ⟨12, 6, .rwl⟩, ⟨18, 6, .rwl⟩], 0x40, 0x0⟩, -- OUT_BCFG
  ⟨0x0A0004, 12, 256, 1, 0, [⟨0, 14, .rwl⟩, ⟨14, 16, .rwl⟩], 0x7D30D4, 0x0⟩, -- OUT_BCFG2
  ⟨0x0A0008, 12, 256, 1, 0, [⟨0, 2, .wo⟩], 0x0, 0x0⟩, -- OUT_BCMD
  ⟨0x0A000C, 12, 256, 1, 0, [⟨0, 16, .rw⟩, ⟨16, 16, .rw⟩], 0x0, 0x0⟩, -- OUT_BSP_V
  ⟨0x0A0010, 12, 256, 1, 0, [⟨0, 16, .rw⟩, ⟨16, 16, .rw⟩], 0x0, 0x0⟩, -- OUT_BSP_I
  ⟨0x0A0014, 12, 256, 1, 0, [⟨0, 16, .rw⟩], 0x0, 0x0⟩, -- OUT_BSTORE
  ⟨0x0A0018, 12, 256, 1, 0, [⟨0, 16, .rw⟩, ⟨16, 16, .rw⟩], 0x0, 0x0⟩, -- OUT_BSTORE2
  ⟨0x0A001C, 12, 256, 1, 0, [⟨0, 3, .ro⟩, ⟨3, 1, .ro⟩, ⟨4, 1, .ro⟩, ⟨5, 1, .ro⟩, ⟨6, 1, .ro⟩, ⟨8, 8, .ro⟩, ⟨16, 8, .ro⟩, ⟨24, 8, .ro⟩], 0x0, 0x0⟩, -- OUT_BSTAT
  ⟨0x0A0020, 12, 256, 1, 0, [⟨0, 32, .ro⟩], 0x0, 0x0⟩, -- OUT_BV
  ⟨0x0A0024, 12, 256, 1, 0, [⟨0, 32, .ro⟩], 0x0, 0x0⟩, -- OUT_BI
  ⟨0x0A0028, 12, 256, 1, 0, [⟨0, 32, .ro⟩], 0x0, 0x0⟩, -- OUT_BP
  ⟨0x0A002C, 12, 256, 1, 0, [⟨0, 32, .ro⟩], 0x0, 0x0⟩, -- OUT_BCURT
  ⟨0x0A0030, 12, 256, 1, 0, [⟨0, 32, .ro⟩], 0x0, 0x0⟩, -- OUT_BCAP
  ⟨0x0A0034, 12, 256, 1, 0, [⟨0, 16, .ro⟩, ⟨16, 16, .ro⟩], 0x0, 0x0⟩, -- OUT_BCNT
  ⟨0x0A1100, 1, 256, 1, 0, [⟨0, 8, .rwl⟩, ⟨8, 8, .rwl⟩, ⟨16, 8, .rwl⟩], 0xA0A08, 0x0⟩, -- OUT_CFG
  ⟨0x0A1104, 1, 256, 1, 0, [⟨0, 10, .rwl⟩, ⟨10, 10, .rwl⟩, ⟨20, 12, .rwl⟩], 0x1F419032, 0x0⟩, -- OUT_MATCH
  ⟨0x0A1108, 1, 256, 1, 0, [⟨0, 12, .rwl⟩, ⟨12, 12, .rwl⟩], 0x3E8064, 0x0⟩, -- OUT_CTC
  ⟨0x0A110C, 1, 256, 1, 0, [⟨0, 16, .rwl⟩, ⟨16, 16, .rwl⟩], 0x320064, 0x0⟩, -- OUT_RAMP
  ⟨0x0A1110, 1, 256, 1, 0, [⟨0, 8, .ro⟩, ⟨16, 16, .ro⟩], 0x0, 0x0⟩, -- OUT_STAT
  ⟨0x0A1200, 1, 256, 24, 4, [⟨0, 32, .rw⟩], 0x0, 0x0⟩, -- OUT_ALLOC_TGT
  ⟨0x0A1300, 1, 256, 24, 4, [⟨0, 32, .ro⟩], 0xFFFFFFFF, 0x0⟩, -- OUT_ALLOC_POS
  ⟨0x0A1360, 1, 256, 24, 4, [⟨0, 32, .ro⟩], 0x0, 0x0⟩, -- OUT_ALLOC_STEP
  ⟨0x0A1000, 1, 256, 1, 0, [⟨0, 1, .rw⟩], 0x0, 0x0⟩, -- OUT_CTRL
  ⟨0x0A1004, 1, 256, 1, 0, [⟨0, 16, .w1c⟩, ⟨16, 1, .ro⟩], 0x0, 0x0⟩, -- OUT_STATUS
  ⟨0x0A1008, 1, 256, 1, 0, [⟨0, 16, .rw⟩, ⟨16, 1, .rw⟩], 0x0, 0x0⟩, -- OUT_IRQ_EN
  ⟨0x0A100C, 1, 256, 1, 0, [⟨0, 32, .ro⟩], 0x0, 0x0⟩, -- OUT_CHK
  ⟨0x0A1010, 1, 256, 1, 0, [⟨0, 16, .w1c⟩], 0x0, 0x0⟩, -- OUT_FLT_SEV
  ⟨0x0A1014, 1, 256, 1, 0, [⟨0, 4, .ro⟩, ⟨8, 8, .ro⟩, ⟨16, 16, .ro⟩], 0x0, 0x0⟩, -- OUT_EVT_LAST
  ⟨0x0A1040, 1, 256, 1, 0, [⟨0, 8, .rwl⟩, ⟨8, 8, .ro⟩, ⟨16, 16, .ro⟩], 0x1, 0x0⟩, -- OUT_FLT_N[0]
  ⟨0x0A1044, 1, 256, 1, 0, [⟨0, 20, .rwl⟩], 0x186A0, 0x0⟩, -- OUT_FLT_WIN[0]
  ⟨0x0A1048, 1, 256, 1, 0, [⟨0, 8, .rwl⟩, ⟨8, 8, .ro⟩, ⟨16, 16, .ro⟩], 0x1, 0x0⟩, -- OUT_FLT_N[1]
  ⟨0x0A104C, 1, 256, 1, 0, [⟨0, 20, .rwl⟩], 0x186A0, 0x0⟩, -- OUT_FLT_WIN[1]
  ⟨0x0A1050, 1, 256, 1, 0, [⟨0, 8, .rwl⟩, ⟨8, 8, .ro⟩, ⟨16, 16, .ro⟩], 0x1, 0x0⟩, -- OUT_FLT_N[2]
  ⟨0x0A1054, 1, 256, 1, 0, [⟨0, 20, .rwl⟩], 0x186A0, 0x0⟩, -- OUT_FLT_WIN[2]
  ⟨0x0A1058, 1, 256, 1, 0, [⟨0, 8, .rwl⟩, ⟨8, 8, .ro⟩, ⟨16, 16, .ro⟩], 0x1, 0x0⟩, -- OUT_FLT_N[3]
  ⟨0x0A105C, 1, 256, 1, 0, [⟨0, 20, .rwl⟩], 0x186A0, 0x0⟩, -- OUT_FLT_WIN[3]
  ⟨0x0A1060, 1, 256, 1, 0, [⟨0, 8, .rwl⟩, ⟨8, 8, .ro⟩, ⟨16, 16, .ro⟩], 0x4, 0x0⟩, -- OUT_FLT_N[4]
  ⟨0x0A1064, 1, 256, 1, 0, [⟨0, 20, .rwl⟩], 0x186A0, 0x0⟩ -- OUT_FLT_WIN[4]
]

/-- All registers of OUT. -/
def outRegs : List RegDef := outRegs0

/-- The registers of METR. -/
def metrRegs0 : List RegDef := [
  ⟨0x0B0000, 12, 256, 1, 0, [⟨0, 1, .rws⟩, ⟨1, 16, .rws⟩], 0x0, 0x0⟩, -- METR_MCFG
  ⟨0x0B0004, 12, 256, 1, 0, [⟨0, 1, .ro⟩], 0x0, 0x0⟩, -- METR_MSTAT
  ⟨0x0B0008, 12, 256, 1, 0, [⟨0, 32, .ro⟩], 0x0, 0x0⟩, -- METR_TOT_IMP
  ⟨0x0B000C, 12, 256, 1, 0, [⟨0, 32, .ro⟩], 0x0, 0x0⟩, -- METR_TOT_IMP
  ⟨0x0B0010, 12, 256, 1, 0, [⟨0, 32, .ro⟩], 0x0, 0x0⟩, -- METR_TOT_EXP
  ⟨0x0B0014, 12, 256, 1, 0, [⟨0, 32, .ro⟩], 0x0, 0x0⟩, -- METR_TOT_EXP
  ⟨0x0B0018, 12, 256, 1, 0, [⟨0, 32, .ro⟩], 0x0, 0x0⟩, -- METR_PCYC
  ⟨0x0B001C, 12, 256, 1, 0, [⟨0, 32, .ro⟩], 0x0, 0x0⟩, -- METR_INVCYC
  ⟨0x0B1100, 1, 256, 1, 0, [⟨0, 16, .rws⟩, ⟨16, 1, .rws⟩], 0x103E8, 0x0⟩, -- METR_CFG
  ⟨0x0B1104, 1, 256, 1, 0, [⟨0, 24, .ro⟩, ⟨24, 1, .ro⟩, ⟨25, 1, .w1c⟩], 0x0, 0x0⟩, -- METR_STAT
  ⟨0x0B1108, 1, 256, 1, 0, [⟨0, 32, .otp⟩], 0x0, 0xFFFFFFFF⟩, -- METR_DEVID
  ⟨0x0B110C, 1, 256, 1, 0, [⟨0, 32, .otp⟩], 0x0, 0xFFFFFFFF⟩, -- METR_DEVID
  ⟨0x0B1110, 1, 256, 1, 0, [⟨0, 32, .ro⟩], 0x0, 0x0⟩, -- METR_SEQ
  ⟨0x0B1140, 1, 256, 16, 4, [⟨0, 32, .otp⟩], 0x0, 0xFFFFFFFF⟩, -- METR_PUBKEY
  ⟨0x0B1000, 1, 256, 1, 0, [⟨0, 1, .rw⟩], 0x0, 0x0⟩, -- METR_CTRL
  ⟨0x0B1004, 1, 256, 1, 0, [⟨0, 16, .w1c⟩, ⟨16, 1, .ro⟩], 0x0, 0x0⟩, -- METR_STATUS
  ⟨0x0B1008, 1, 256, 1, 0, [⟨0, 16, .rw⟩, ⟨16, 1, .rw⟩], 0x0, 0x0⟩, -- METR_IRQ_EN
  ⟨0x0B100C, 1, 256, 1, 0, [⟨0, 32, .ro⟩], 0x0, 0x0⟩, -- METR_CHK
  ⟨0x0B1010, 1, 256, 1, 0, [⟨0, 16, .w1c⟩], 0x0, 0x0⟩, -- METR_FLT_SEV
  ⟨0x0B1014, 1, 256, 1, 0, [⟨0, 4, .ro⟩, ⟨8, 8, .ro⟩, ⟨16, 16, .ro⟩], 0x0, 0x0⟩, -- METR_EVT_LAST
  ⟨0x0B1040, 1, 256, 1, 0, [⟨0, 8, .rwl⟩, ⟨8, 8, .ro⟩, ⟨16, 16, .ro⟩], 0x1, 0x0⟩, -- METR_FLT_N[0]
  ⟨0x0B1044, 1, 256, 1, 0, [⟨0, 20, .rwl⟩], 0x186A0, 0x0⟩, -- METR_FLT_WIN[0]
  ⟨0x0B1048, 1, 256, 1, 0, [⟨0, 8, .rwl⟩, ⟨8, 8, .ro⟩, ⟨16, 16, .ro⟩], 0x1, 0x0⟩, -- METR_FLT_N[1]
  ⟨0x0B104C, 1, 256, 1, 0, [⟨0, 20, .rwl⟩], 0x186A0, 0x0⟩ -- METR_FLT_WIN[1]
]

/-- All registers of METR. -/
def metrRegs : List RegDef := metrRegs0

/-- The registers of CAL. -/
def calRegs0 : List RegDef := [
  ⟨0x0C0000, 36, 256, 1, 0, [⟨0, 2, .rws⟩], 0x2, 0x0⟩, -- CAL_UCFG
  ⟨0x0C3000, 24, 256, 1, 0, [⟨0, 2, .rws⟩], 0x2, 0x0⟩, -- CAL_UCFG
  ⟨0x0C0004, 36, 256, 1, 0, [⟨0, 32, .rws⟩], 0x0, 0x0⟩, -- CAL_UFS
  ⟨0x0C3004, 24, 256, 1, 0, [⟨0, 32, .rws⟩], 0x0, 0x0⟩, -- CAL_UFS
  ⟨0x0C0008, 36, 256, 1, 0, [⟨0, 32, .rws⟩], 0x0, 0x0⟩, -- CAL_UGAIN
  ⟨0x0C3008, 24, 256, 1, 0, [⟨0, 32, .rws⟩], 0x0, 0x0⟩, -- CAL_UGAIN
  ⟨0x0C000C, 36, 256, 1, 0, [⟨0, 32, .rws⟩], 0x0, 0x0⟩, -- CAL_UOFS
  ⟨0x0C300C, 24, 256, 1, 0, [⟨0, 32, .rws⟩], 0x0, 0x0⟩, -- CAL_UOFS
  ⟨0x0C0010, 36, 256, 1, 0, [⟨0, 2, .ro⟩], 0x2, 0x0⟩, -- CAL_UCFG_F
  ⟨0x0C3010, 24, 256, 1, 0, [⟨0, 2, .ro⟩], 0x2, 0x0⟩, -- CAL_UCFG_F
  ⟨0x0C0014, 36, 256, 1, 0, [⟨0, 32, .ro⟩], 0x0, 0x0⟩, -- CAL_UFS_F
  ⟨0x0C3014, 24, 256, 1, 0, [⟨0, 32, .ro⟩], 0x0, 0x0⟩, -- CAL_UFS_F
  ⟨0x0C0018, 36, 256, 1, 0, [⟨0, 32, .ro⟩], 0x0, 0x0⟩, -- CAL_UGAIN_F
  ⟨0x0C3018, 24, 256, 1, 0, [⟨0, 32, .ro⟩], 0x0, 0x0⟩, -- CAL_UGAIN_F
  ⟨0x0C001C, 36, 256, 1, 0, [⟨0, 32, .ro⟩], 0x0, 0x0⟩, -- CAL_UOFS_F
  ⟨0x0C301C, 24, 256, 1, 0, [⟨0, 32, .ro⟩], 0x0, 0x0⟩, -- CAL_UOFS_F
  ⟨0x0C5100, 1, 256, 2, 8, [⟨0, 32, .otp⟩], 0x0, 0xFFFFFFFF⟩, -- CAL_F_SAR
  ⟨0x0C5104, 1, 256, 2, 8, [⟨0, 32, .otp⟩], 0x0, 0xFFFFFFFF⟩, -- CAL_F_SAROFS
  ⟨0x0C5110, 1, 256, 4, 4, [⟨0, 32, .otp⟩], 0x0, 0xFFFFFFFF⟩, -- CAL_F_PRESET
  ⟨0x0C5120, 1, 256, 1, 0, [⟨0, 32, .otp⟩], 0x0, 0xFFFFFFFF⟩, -- CAL_F_CRC
  ⟨0x0C5200, 1, 256, 1, 0, [⟨0, 1, .rwl⟩, ⟨1, 1, .rwl⟩, ⟨2, 1, .rwl⟩, ⟨8, 8, .rwl⟩, ⟨16, 16, .rwl⟩], 0x4000807, 0x0⟩, -- CAL_EST
  ⟨0x0C5204, 1, 256, 1, 0, [⟨0, 16, .rwl⟩, ⟨16, 16, .rwl⟩], 0x640032, 0x0⟩, -- CAL_EST2
  ⟨0x0C5208, 1, 256, 1, 0, [⟨0, 16, .rwl⟩, ⟨16, 10, .rwl⟩], 0xA0014, 0x0⟩, -- CAL_EST3
  ⟨0x0C520C, 1, 256, 1, 0, [⟨0, 8, .rwl⟩, ⟨8, 8, .rwl⟩, ⟨16, 8, .rwl⟩], 0x40410, 0x0⟩, -- CAL_XCHK
  ⟨0x0C5210, 1, 256, 1, 0, [⟨0, 1, .rwsw⟩, ⟨1, 1, .ro⟩], 0x0, 0x0⟩, -- CAL_UCMD
  ⟨0x0C5300, 1, 256, 1, 0, [⟨0, 16, .ro⟩, ⟨16, 1, .ro⟩], 0x0, 0x0⟩, -- CAL_XSTAT
  ⟨0x0C5304, 1, 256, 1, 0, [⟨0, 16, .ro⟩, ⟨16, 16, .ro⟩], 0x0, 0x0⟩, -- CAL_XCNT
  ⟨0x0C5308, 1, 256, 1, 0, [⟨0, 16, .ro⟩, ⟨16, 16, .ro⟩], 0x0, 0x0⟩, -- CAL_ESTAT
  ⟨0x0C5340, 1, 256, 12, 4, [⟨0, 16, .ro⟩, ⟨16, 1, .ro⟩], 0x0, 0x0⟩, -- CAL_BRES
  ⟨0x0C6000, 192, 16, 1, 0, [⟨0, 16, .ro⟩, ⟨16, 16, .ro⟩], 0x0, 0x0⟩, -- CAL_T_IAC
  ⟨0x0C6004, 192, 16, 1, 0, [⟨0, 16, .ro⟩, ⟨16, 16, .ro⟩], 0x0, 0x0⟩, -- CAL_T_IDAB
  ⟨0x0C6008, 192, 16, 1, 0, [⟨0, 16, .ro⟩, ⟨16, 16, .ro⟩], 0x0, 0x0⟩, -- CAL_T_VOUT
  ⟨0x0C600C, 192, 16, 1, 0, [⟨0, 8, .ro⟩, ⟨8, 3, .ro⟩, ⟨11, 3, .ro⟩, ⟨16, 16, .ro⟩], 0x0, 0x0⟩, -- CAL_T_STAT
  ⟨0x0C5000, 1, 256, 1, 0, [⟨0, 1, .rw⟩], 0x0, 0x0⟩, -- CAL_CTRL
  ⟨0x0C5004, 1, 256, 1, 0, [⟨0, 16, .w1c⟩, ⟨16, 1, .ro⟩], 0x0, 0x0⟩, -- CAL_STATUS
  ⟨0x0C5008, 1, 256, 1, 0, [⟨0, 16, .rw⟩, ⟨16, 1, .rw⟩], 0x0, 0x0⟩, -- CAL_IRQ_EN
  ⟨0x0C500C, 1, 256, 1, 0, [⟨0, 32, .ro⟩], 0x0, 0x0⟩, -- CAL_CHK
  ⟨0x0C5010, 1, 256, 1, 0, [⟨0, 16, .w1c⟩], 0x0, 0x0⟩, -- CAL_FLT_SEV
  ⟨0x0C5014, 1, 256, 1, 0, [⟨0, 4, .ro⟩, ⟨8, 8, .ro⟩, ⟨16, 16, .ro⟩], 0x0, 0x0⟩, -- CAL_EVT_LAST
  ⟨0x0C5040, 1, 256, 1, 0, [⟨0, 8, .rwl⟩, ⟨8, 8, .ro⟩, ⟨16, 16, .ro⟩], 0x1, 0x0⟩ -- CAL_FLT_N[0]
]

def calRegs1 : List RegDef := [
  ⟨0x0C5044, 1, 256, 1, 0, [⟨0, 20, .rwl⟩], 0x186A0, 0x0⟩, -- CAL_FLT_WIN[0]
  ⟨0x0C5048, 1, 256, 1, 0, [⟨0, 8, .rwl⟩, ⟨8, 8, .ro⟩, ⟨16, 16, .ro⟩], 0x1, 0x0⟩, -- CAL_FLT_N[1]
  ⟨0x0C504C, 1, 256, 1, 0, [⟨0, 20, .rwl⟩], 0x186A0, 0x0⟩, -- CAL_FLT_WIN[1]
  ⟨0x0C5050, 1, 256, 1, 0, [⟨0, 8, .rwl⟩, ⟨8, 8, .ro⟩, ⟨16, 16, .ro⟩], 0x8, 0x0⟩, -- CAL_FLT_N[2]
  ⟨0x0C5054, 1, 256, 1, 0, [⟨0, 20, .rwl⟩], 0x186A0, 0x0⟩ -- CAL_FLT_WIN[2]
]

/-- All registers of CAL. -/
def calRegs : List RegDef := calRegs0 ++ calRegs1

/-- The registers of ADC. -/
def adcRegs0 : List RegDef := [
  ⟨0x0D0000, 24, 256, 1, 0, [⟨0, 1, .rwl⟩, ⟨1, 1, .rwl⟩], 0x0, 0x0⟩, -- ADC_CHCFG
  ⟨0x0D0004, 24, 256, 1, 0, [⟨0, 16, .ro⟩, ⟨16, 16, .ro⟩], 0x0, 0x0⟩, -- ADC_RES
  ⟨0x0D0008, 24, 256, 1, 0, [⟨0, 1, .ro⟩, ⟨1, 1, .ro⟩, ⟨2, 1, .ro⟩, ⟨8, 9, .ro⟩], 0x0, 0x0⟩, -- ADC_RSTAT
  ⟨0x0D000C, 24, 256, 1, 0, [⟨0, 32, .ro⟩], 0x0, 0x0⟩, -- ADC_VAL
  ⟨0x0D0010, 24, 256, 1, 0, [⟨0, 32, .ro⟩], 0x0, 0x0⟩, -- ADC_TS
  ⟨0x0D2000, 2, 256, 1, 0, [⟨0, 6, .rwl⟩], 0x1, 0x0⟩, -- ADC_SEQ_CFG
  ⟨0x0D2004, 2, 256, 1, 0, [⟨0, 5, .ro⟩, ⟨5, 1, .ro⟩, ⟨16, 16, .ro⟩], 0x0, 0x0⟩, -- ADC_SEQ_STAT
  ⟨0x0D2008, 2, 256, 1, 0, [⟨0, 32, .ro⟩], 0x0, 0x0⟩, -- ADC_SEQ_LOOP
  ⟨0x0D2040, 2, 256, 32, 4, [⟨0, 5, .rwl⟩, ⟨8, 9, .rwl⟩, ⟨17, 15, .rwl⟩], 0x117, 0x0⟩, -- ADC_SEQ
  ⟨0x0D3000, 1, 256, 1, 0, [⟨0, 1, .rw⟩], 0x0, 0x0⟩, -- ADC_CTRL
  ⟨0x0D3004, 1, 256, 1, 0, [⟨0, 16, .w1c⟩, ⟨16, 1, .ro⟩, ⟨17, 1, .ro⟩, ⟨18, 1, .ro⟩], 0x0, 0x0⟩, -- ADC_STATUS
  ⟨0x0D3008, 1, 256, 1, 0, [⟨0, 16, .rw⟩, ⟨16, 1, .rw⟩], 0x0, 0x0⟩, -- ADC_IRQ_EN
  ⟨0x0D300C, 1, 256, 1, 0, [⟨0, 32, .ro⟩], 0x0, 0x0⟩, -- ADC_CHK
  ⟨0x0D3010, 1, 256, 1, 0, [⟨0, 16, .w1c⟩], 0x0, 0x0⟩, -- ADC_FLT_SEV
  ⟨0x0D3014, 1, 256, 1, 0, [⟨0, 4, .ro⟩, ⟨8, 8, .ro⟩, ⟨16, 16, .ro⟩], 0x0, 0x0⟩, -- ADC_EVT_LAST
  ⟨0x0D3040, 1, 256, 1, 0, [⟨0, 8, .rwl⟩, ⟨8, 8, .ro⟩, ⟨16, 16, .ro⟩], 0x1, 0x0⟩, -- ADC_FLT_N[0]
  ⟨0x0D3044, 1, 256, 1, 0, [⟨0, 20, .rwl⟩], 0x186A0, 0x0⟩, -- ADC_FLT_WIN[0]
  ⟨0x0D3048, 1, 256, 1, 0, [⟨0, 8, .rwl⟩, ⟨8, 8, .ro⟩, ⟨16, 16, .ro⟩], 0x1, 0x0⟩, -- ADC_FLT_N[1]
  ⟨0x0D304C, 1, 256, 1, 0, [⟨0, 20, .rwl⟩], 0x186A0, 0x0⟩ -- ADC_FLT_WIN[1]
]

/-- All registers of ADC. -/
def adcRegs : List RegDef := adcRegs0

/-- The registers of FIL. -/
def filRegs0 : List RegDef := [
  ⟨0x0E0000, 36, 256, 1, 0, [⟨0, 1, .rwl⟩, ⟨1, 2, .rwl⟩, ⟨4, 10, .rwl⟩], 0x2, 0x0⟩, -- FIL_DCFG
  ⟨0x0E0004, 36, 256, 1, 0, [⟨0, 1, .ro⟩, ⟨1, 1, .ro⟩, ⟨2, 1, .ro⟩, ⟨3, 1, .ro⟩], 0x0, 0x0⟩, -- FIL_DSTAT
  ⟨0x0E0008, 36, 256, 1, 0, [⟨0, 32, .ro⟩], 0x0, 0x0⟩, -- FIL_FINE
  ⟨0x0E000C, 36, 256, 1, 0, [⟨0, 32, .ro⟩], 0x0, 0x0⟩, -- FIL_SKIM
  ⟨0x0E0010, 36, 256, 1, 0, [⟨0, 32, .ro⟩], 0x0, 0x0⟩, -- FIL_TS
  ⟨0x0E0014, 36, 256, 1, 0, [⟨0, 24, .ro⟩], 0x0, 0x0⟩, -- FIL_GD
  ⟨0x0E3000, 6, 256, 1, 0, [⟨0, 1, .rwl⟩, ⟨1, 7, .rwl⟩, ⟨8, 5, .rwl⟩], 0x3C, 0x0⟩, -- FIL_CLK
  ⟨0x0E4100, 1, 256, 1, 0, [⟨0, 1, .rwl⟩, ⟨8, 8, .rwl⟩, ⟨16, 8, .rwl⟩, ⟨24, 8, .rwl⟩], 0x4F34000, 0x0⟩, -- FIL_CFG
  ⟨0x0E4000, 1, 256, 1, 0, [⟨0, 1, .rw⟩], 0x0, 0x0⟩, -- FIL_CTRL
  ⟨0x0E4004, 1, 256, 1, 0, [⟨0, 16, .w1c⟩, ⟨16, 1, .ro⟩], 0x0, 0x0⟩, -- FIL_STATUS
  ⟨0x0E4008, 1, 256, 1, 0, [⟨0, 16, .rw⟩, ⟨16, 1, .rw⟩], 0x0, 0x0⟩, -- FIL_IRQ_EN
  ⟨0x0E400C, 1, 256, 1, 0, [⟨0, 32, .ro⟩], 0x0, 0x0⟩, -- FIL_CHK
  ⟨0x0E4010, 1, 256, 1, 0, [⟨0, 16, .w1c⟩], 0x0, 0x0⟩, -- FIL_FLT_SEV
  ⟨0x0E4014, 1, 256, 1, 0, [⟨0, 4, .ro⟩, ⟨8, 8, .ro⟩, ⟨16, 16, .ro⟩], 0x0, 0x0⟩, -- FIL_EVT_LAST
  ⟨0x0E4040, 1, 256, 1, 0, [⟨0, 8, .rwl⟩, ⟨8, 8, .ro⟩, ⟨16, 16, .ro⟩], 0x1, 0x0⟩, -- FIL_FLT_N[0]
  ⟨0x0E4044, 1, 256, 1, 0, [⟨0, 20, .rwl⟩], 0x186A0, 0x0⟩, -- FIL_FLT_WIN[0]
  ⟨0x0E4048, 1, 256, 1, 0, [⟨0, 8, .rwl⟩, ⟨8, 8, .ro⟩, ⟨16, 16, .ro⟩], 0x4, 0x0⟩, -- FIL_FLT_N[1]
  ⟨0x0E404C, 1, 256, 1, 0, [⟨0, 20, .rwl⟩], 0x186A0, 0x0⟩ -- FIL_FLT_WIN[1]
]

/-- All registers of FIL. -/
def filRegs : List RegDef := filRegs0

/-- The registers of CAP. -/
def capRegs0 : List RegDef := [
  ⟨0x0F0100, 1, 256, 64, 4, [⟨0, 6, .rwl⟩, ⟨6, 2, .rwl⟩], 0x0, 0x0⟩, -- CAP_SIG
  ⟨0x0F0200, 1, 256, 1, 0, [⟨0, 1, .rwl⟩, ⟨1, 1, .rwl⟩, ⟨8, 7, .rwl⟩, ⟨16, 2, .rwl⟩, ⟨18, 1, .rwl⟩, ⟨19, 6, .rwl⟩], 0x102, 0x0⟩, -- CAP_CFG
  ⟨0x0F0204, 1, 256, 1, 0, [⟨0, 32, .rwl⟩], 0x2710, 0x0⟩, -- CAP_PER
  ⟨0x0F0208, 1, 256, 1, 0, [⟨0, 32, .rwl⟩], 0x0, 0x0⟩, -- CAP_LEVEL
  ⟨0x0F020C, 1, 256, 1, 0, [⟨0, 32, .rwl⟩], 0x0, 0x0⟩, -- CAP_HYST
  ⟨0x0F0210, 1, 256, 1, 0, [⟨0, 32, .rwl⟩], 0x0, 0x0⟩, -- CAP_PRE
  ⟨0x0F0214, 1, 256, 1, 0, [⟨0, 32, .rwl⟩], 0x1, 0x0⟩, -- CAP_POST
  ⟨0x0F0218, 1, 256, 1, 0, [⟨0, 10, .rwl⟩, ⟨10, 11, .rwl⟩], 0x100000, 0x0⟩, -- CAP_REGION
  ⟨0x0F021C, 1, 256, 1, 0, [⟨0, 32, .rwl⟩], 0x0, 0x0⟩, -- CAP_DMAC
  ⟨0x0F0220, 1, 256, 1, 0, [⟨0, 16, .rwl⟩, ⟨16, 16, .rwl⟩], 0x0, 0x0⟩, -- CAP_DMAC
  ⟨0x0F0224, 1, 256, 1, 0, [⟨0, 2, .wo⟩], 0x0, 0x0⟩, -- CAP_CMD
  ⟨0x0F0300, 1, 256, 1, 0, [⟨0, 2, .ro⟩, ⟨2, 3, .ro⟩, ⟨16, 16, .ro⟩], 0x0, 0x0⟩, -- CAP_STAT
  ⟨0x0F0304, 1, 256, 1, 0, [⟨0, 32, .ro⟩], 0x0, 0x0⟩, -- CAP_TRIG_TAI
  ⟨0x0F0308, 1, 256, 1, 0, [⟨0, 32, .ro⟩], 0x0, 0x0⟩, -- CAP_TRIG_TAI
  ⟨0x0F030C, 1, 256, 1, 0, [⟨0, 32, .ro⟩], 0x0, 0x0⟩, -- CAP_TRIG_FRAC
  ⟨0x0F0310, 1, 256, 1, 0, [⟨0, 32, .ro⟩], 0x0, 0x0⟩, -- CAP_RECORDS
  ⟨0x0F0314, 1, 256, 1, 0, [⟨0, 32, .ro⟩], 0x0, 0x0⟩, -- CAP_SEQ
  ⟨0x0F0000, 1, 256, 1, 0, [⟨0, 1, .rw⟩], 0x0, 0x0⟩, -- CAP_CTRL
  ⟨0x0F0004, 1, 256, 1, 0, [⟨0, 16, .w1c⟩, ⟨16, 1, .ro⟩], 0x0, 0x0⟩, -- CAP_STATUS
  ⟨0x0F0008, 1, 256, 1, 0, [⟨0, 16, .rw⟩, ⟨16, 1, .rw⟩], 0x0, 0x0⟩, -- CAP_IRQ_EN
  ⟨0x0F000C, 1, 256, 1, 0, [⟨0, 32, .ro⟩], 0x0, 0x0⟩, -- CAP_CHK
  ⟨0x0F0010, 1, 256, 1, 0, [⟨0, 16, .w1c⟩], 0x0, 0x0⟩, -- CAP_FLT_SEV
  ⟨0x0F0014, 1, 256, 1, 0, [⟨0, 4, .ro⟩, ⟨8, 8, .ro⟩, ⟨16, 16, .ro⟩], 0x0, 0x0⟩, -- CAP_EVT_LAST
  ⟨0x0F0040, 1, 256, 1, 0, [⟨0, 8, .rwl⟩, ⟨8, 8, .ro⟩, ⟨16, 16, .ro⟩], 0x1, 0x0⟩, -- CAP_FLT_N[0]
  ⟨0x0F0044, 1, 256, 1, 0, [⟨0, 20, .rwl⟩], 0x186A0, 0x0⟩ -- CAP_FLT_WIN[0]
]

/-- All registers of CAP. -/
def capRegs : List RegDef := capRegs0

/-- The registers of AXIS. -/
def axisRegs0 : List RegDef := [
  ⟨0x100000, 4, 256, 1, 0, [⟨0, 1, .rwl⟩, ⟨8, 8, .rwl⟩, ⟨16, 16, .rwl⟩], 0xEA61000, 0x0⟩, -- AXIS_CFG
  ⟨0x100004, 4, 256, 1, 0, [⟨0, 10, .rwl⟩, ⟨10, 10, .rwl⟩, ⟨20, 10, .rwl⟩], 0x1E12C2D, 0x0⟩, -- AXIS_PULSE
  ⟨0x100008, 4, 256, 1, 0, [⟨0, 16, .rwl⟩, ⟨16, 16, .rwl⟩], 0x640096, 0x0⟩, -- AXIS_BST
  ⟨0x100010, 4, 256, 3, 4, [⟨0, 16, .rw⟩, ⟨16, 3, .rw⟩, ⟨19, 1, .rw⟩, ⟨20, 1, .rw⟩], 0x0, 0x0⟩, -- AXIS_DUTY
  ⟨0x10001C, 4, 256, 1, 0, [⟨0, 1, .wo⟩, ⟨1, 1, .ro⟩], 0x0, 0x0⟩, -- AXIS_COMMIT
  ⟨0x100020, 4, 256, 1, 0, [⟨0, 2, .wo⟩], 0x0, 0x0⟩, -- AXIS_CMD
  ⟨0x100024, 4, 256, 1, 0, [⟨0, 3, .ro⟩], 0x0, 0x0⟩, -- AXIS_STAT
  ⟨0x100028, 4, 256, 1, 0, [⟨0, 16, .ro⟩, ⟨16, 16, .ro⟩], 0x0, 0x0⟩, -- AXIS_CNT
  ⟨0x100030, 4, 256, 3, 4, [⟨0, 21, .ro⟩], 0x0, 0x0⟩, -- AXIS_APPLIED
  ⟨0x101000, 1, 256, 1, 0, [⟨0, 1, .rw⟩], 0x0, 0x0⟩, -- AXIS_CTRL
  ⟨0x101004, 1, 256, 1, 0, [⟨0, 16, .w1c⟩, ⟨16, 1, .ro⟩], 0x0, 0x0⟩, -- AXIS_STATUS
  ⟨0x101008, 1, 256, 1, 0, [⟨0, 16, .rw⟩, ⟨16, 1, .rw⟩], 0x0, 0x0⟩, -- AXIS_IRQ_EN
  ⟨0x10100C, 1, 256, 1, 0, [⟨0, 32, .ro⟩], 0x0, 0x0⟩, -- AXIS_CHK
  ⟨0x101010, 1, 256, 1, 0, [⟨0, 16, .w1c⟩], 0x0, 0x0⟩, -- AXIS_FLT_SEV
  ⟨0x101014, 1, 256, 1, 0, [⟨0, 4, .ro⟩, ⟨8, 8, .ro⟩, ⟨16, 16, .ro⟩], 0x0, 0x0⟩, -- AXIS_EVT_LAST
  ⟨0x101040, 1, 256, 1, 0, [⟨0, 8, .rwl⟩, ⟨8, 8, .ro⟩, ⟨16, 16, .ro⟩], 0x1, 0x0⟩, -- AXIS_FLT_N[0]
  ⟨0x101044, 1, 256, 1, 0, [⟨0, 20, .rwl⟩], 0x186A0, 0x0⟩, -- AXIS_FLT_WIN[0]
  ⟨0x101048, 1, 256, 1, 0, [⟨0, 8, .rwl⟩, ⟨8, 8, .ro⟩, ⟨16, 16, .ro⟩], 0x1, 0x0⟩, -- AXIS_FLT_N[1]
  ⟨0x10104C, 1, 256, 1, 0, [⟨0, 20, .rwl⟩], 0x186A0, 0x0⟩ -- AXIS_FLT_WIN[1]
]

/-- All registers of AXIS. -/
def axisRegs : List RegDef := axisRegs0

/-- The registers of GDRV. -/
def gdrvRegs0 : List RegDef := [
  ⟨0x110000, 12, 256, 1, 0, [⟨0, 4, .rwl⟩, ⟨4, 4, .rwl⟩, ⟨8, 3, .rwl⟩, ⟨11, 1, .rwl⟩, ⟨12, 8, .rwl⟩, ⟨20, 4, .rwl⟩, ⟨24, 1, .rwl⟩], 0x114977, 0x0⟩, -- GDRV_HCFG
  ⟨0x110004, 12, 256, 1, 0, [⟨0, 3, .ro⟩, ⟨3, 1, .ro⟩, ⟨4, 1, .ro⟩, ⟨5, 1, .ro⟩, ⟨6, 1, .ro⟩], 0x0, 0x0⟩, -- GDRV_HSTAT
  ⟨0x110008, 12, 256, 1, 0, [⟨0, 16, .ro⟩, ⟨16, 16, .ro⟩], 0x0, 0x0⟩, -- GDRV_HCNT
  ⟨0x11000C, 12, 256, 1, 0, [⟨0, 1, .wo⟩], 0x0, 0x0⟩, -- GDRV_HCMD
  ⟨0x111100, 1, 256, 1, 0, [⟨0, 8, .rwl⟩, ⟨8, 16, .rwl⟩], 0x64FF, 0x0⟩, -- GDRV_TRIP_CFG
  ⟨0x111104, 1, 256, 1, 0, [⟨0, 8, .ro⟩, ⟨8, 8, .ro⟩, ⟨16, 8, .ro⟩], 0x0, 0x0⟩, -- GDRV_TRIP_STAT
  ⟨0x111108, 1, 256, 1, 0, [⟨0, 8, .wo⟩], 0x0, 0x0⟩, -- GDRV_TRIP_CLR
  ⟨0x111200, 1, 256, 4, 4, [⟨0, 16, .ro⟩, ⟨16, 1, .ro⟩, ⟨17, 1, .ro⟩], 0x0, 0x0⟩, -- GDRV_VBR
  ⟨0x111210, 1, 256, 1, 0, [⟨0, 16, .rwl⟩], 0x320, 0x0⟩, -- GDRV_VBRMIN
  ⟨0x111214, 1, 256, 1, 0, [⟨0, 16, .ro⟩, ⟨16, 1, .ro⟩], 0x0, 0x0⟩, -- GDRV_VDRV
  ⟨0x111000, 1, 256, 1, 0, [⟨0, 1, .rw⟩], 0x0, 0x0⟩, -- GDRV_CTRL
  ⟨0x111004, 1, 256, 1, 0, [⟨0, 16, .w1c⟩, ⟨16, 1, .ro⟩], 0x0, 0x0⟩, -- GDRV_STATUS
  ⟨0x111008, 1, 256, 1, 0, [⟨0, 16, .rw⟩, ⟨16, 1, .rw⟩], 0x0, 0x0⟩, -- GDRV_IRQ_EN
  ⟨0x11100C, 1, 256, 1, 0, [⟨0, 32, .ro⟩], 0x0, 0x0⟩, -- GDRV_CHK
  ⟨0x111010, 1, 256, 1, 0, [⟨0, 16, .w1c⟩], 0x0, 0x0⟩, -- GDRV_FLT_SEV
  ⟨0x111014, 1, 256, 1, 0, [⟨0, 4, .ro⟩, ⟨8, 8, .ro⟩, ⟨16, 16, .ro⟩], 0x0, 0x0⟩, -- GDRV_EVT_LAST
  ⟨0x111040, 1, 256, 1, 0, [⟨0, 8, .rwl⟩, ⟨8, 8, .ro⟩, ⟨16, 16, .ro⟩], 0x1, 0x0⟩, -- GDRV_FLT_N[0]
  ⟨0x111044, 1, 256, 1, 0, [⟨0, 20, .rwl⟩], 0x186A0, 0x0⟩, -- GDRV_FLT_WIN[0]
  ⟨0x111048, 1, 256, 1, 0, [⟨0, 8, .rwl⟩, ⟨8, 8, .ro⟩, ⟨16, 16, .ro⟩], 0x1, 0x0⟩, -- GDRV_FLT_N[1]
  ⟨0x11104C, 1, 256, 1, 0, [⟨0, 20, .rwl⟩], 0x186A0, 0x0⟩, -- GDRV_FLT_WIN[1]
  ⟨0x111050, 1, 256, 1, 0, [⟨0, 8, .rwl⟩, ⟨8, 8, .ro⟩, ⟨16, 16, .ro⟩], 0x8, 0x0⟩, -- GDRV_FLT_N[2]
  ⟨0x111054, 1, 256, 1, 0, [⟨0, 20, .rwl⟩], 0x186A0, 0x0⟩, -- GDRV_FLT_WIN[2]
  ⟨0x111058, 1, 256, 1, 0, [⟨0, 8, .rwl⟩, ⟨8, 8, .ro⟩, ⟨16, 16, .ro⟩], 0x1, 0x0⟩, -- GDRV_FLT_N[3]
  ⟨0x11105C, 1, 256, 1, 0, [⟨0, 20, .rwl⟩], 0x186A0, 0x0⟩, -- GDRV_FLT_WIN[3]
  ⟨0x111060, 1, 256, 1, 0, [⟨0, 8, .rwl⟩, ⟨8, 8, .ro⟩, ⟨16, 16, .ro⟩], 0x1, 0x0⟩, -- GDRV_FLT_N[4]
  ⟨0x111064, 1, 256, 1, 0, [⟨0, 20, .rwl⟩], 0x186A0, 0x0⟩ -- GDRV_FLT_WIN[4]
]

/-- All registers of GDRV. -/
def gdrvRegs : List RegDef := gdrvRegs0

/-- The registers of ENC. -/
def encRegs0 : List RegDef := [
  ⟨0x120000, 4, 256, 1, 0, [⟨0, 1, .rwl⟩, ⟨1, 1, .rwl⟩, ⟨2, 2, .rwl⟩, ⟨4, 1, .rwl⟩, ⟨5, 1, .rwl⟩, ⟨16, 16, .rwl⟩], 0x640000, 0x0⟩, -- ENC_CFG
  ⟨0x120004, 4, 256, 1, 0, [⟨0, 32, .rwl⟩], 0x1000, 0x0⟩, -- ENC_CPR
  ⟨0x120008, 4, 256, 1, 0, [⟨0, 32, .ro⟩], 0x0, 0x0⟩, -- ENC_POS
  ⟨0x12000C, 4, 256, 1, 0, [⟨0, 32, .ro⟩], 0x0, 0x0⟩, -- ENC_REV
  ⟨0x120010, 4, 256, 1, 0, [⟨0, 32, .ro⟩], 0x0, 0x0⟩, -- ENC_SPD
  ⟨0x120014, 4, 256, 1, 0, [⟨0, 1, .ro⟩, ⟨1, 1, .ro⟩, ⟨2, 1, .ro⟩, ⟨3, 3, .ro⟩, ⟨6, 1, .ro⟩, ⟨16, 16, .ro⟩], 0x4, 0x0⟩, -- ENC_STAT
  ⟨0x120018, 4, 256, 1, 0, [⟨0, 32, .rwl⟩], 0x0, 0x0⟩, -- ENC_IDX
  ⟨0x12001C, 4, 256, 1, 0, [⟨0, 32, .ro⟩], 0x0, 0x0⟩, -- ENC_IDXLAT
  ⟨0x120020, 4, 256, 1, 0, [⟨0, 32, .ro⟩], 0x0, 0x0⟩, -- ENC_IVL
  ⟨0x120040, 4, 256, 8, 8, [⟨0, 32, .rwl⟩], 0x0, 0x0⟩, -- ENC_CMP
  ⟨0x120044, 4, 256, 8, 8, [⟨0, 3, .rwl⟩, ⟨3, 2, .rwl⟩, ⟨16, 16, .rwl⟩], 0x960000, 0x0⟩, -- ENC_CMPC
  ⟨0x121100, 1, 256, 1, 0, [⟨0, 4, .rw⟩, ⟨4, 4, .ro⟩, ⟨8, 4, .ro⟩], 0x0, 0x0⟩, -- ENC_SSUP
  ⟨0x121104, 1, 256, 1, 0, [⟨0, 4, .wo⟩], 0x0, 0x0⟩, -- ENC_SSUP_CLR
  ⟨0x121000, 1, 256, 1, 0, [⟨0, 1, .rw⟩], 0x0, 0x0⟩, -- ENC_CTRL
  ⟨0x121004, 1, 256, 1, 0, [⟨0, 16, .w1c⟩, ⟨16, 1, .ro⟩], 0x0, 0x0⟩, -- ENC_STATUS
  ⟨0x121008, 1, 256, 1, 0, [⟨0, 16, .rw⟩, ⟨16, 1, .rw⟩], 0x0, 0x0⟩, -- ENC_IRQ_EN
  ⟨0x12100C, 1, 256, 1, 0, [⟨0, 32, .ro⟩], 0x0, 0x0⟩, -- ENC_CHK
  ⟨0x121010, 1, 256, 1, 0, [⟨0, 16, .w1c⟩], 0x0, 0x0⟩, -- ENC_FLT_SEV
  ⟨0x121014, 1, 256, 1, 0, [⟨0, 4, .ro⟩, ⟨8, 8, .ro⟩, ⟨16, 16, .ro⟩], 0x0, 0x0⟩, -- ENC_EVT_LAST
  ⟨0x121040, 1, 256, 1, 0, [⟨0, 8, .rwl⟩, ⟨8, 8, .ro⟩, ⟨16, 16, .ro⟩], 0x1, 0x0⟩, -- ENC_FLT_N[0]
  ⟨0x121044, 1, 256, 1, 0, [⟨0, 20, .rwl⟩], 0x186A0, 0x0⟩, -- ENC_FLT_WIN[0]
  ⟨0x121048, 1, 256, 1, 0, [⟨0, 8, .rwl⟩, ⟨8, 8, .ro⟩, ⟨16, 16, .ro⟩], 0x1, 0x0⟩, -- ENC_FLT_N[1]
  ⟨0x12104C, 1, 256, 1, 0, [⟨0, 20, .rwl⟩], 0x186A0, 0x0⟩, -- ENC_FLT_WIN[1]
  ⟨0x121050, 1, 256, 1, 0, [⟨0, 8, .rwl⟩, ⟨8, 8, .ro⟩, ⟨16, 16, .ro⟩], 0x1, 0x0⟩, -- ENC_FLT_N[2]
  ⟨0x121054, 1, 256, 1, 0, [⟨0, 20, .rwl⟩], 0x186A0, 0x0⟩ -- ENC_FLT_WIN[2]
]

/-- All registers of ENC. -/
def encRegs : List RegDef := encRegs0

/-- The registers of SAFE. -/
def safeRegs0 : List RegDef := [
  ⟨0x130000, 4, 256, 1, 0, [⟨0, 1, .rwl⟩, ⟨1, 1, .rwl⟩, ⟨2, 1, .rwl⟩, ⟨3, 1, .rwl⟩, ⟨4, 1, .rwl⟩, ⟨5, 1, .rwl⟩, ⟨8, 12, .rwl⟩, ⟨20, 4, .rwl⟩], 0x0, 0x0⟩, -- SAFE_SICFG
  ⟨0x130004, 4, 256, 1, 0, [⟨0, 16, .rwl⟩], 0x32, 0x0⟩, -- SAFE_SITIM
  ⟨0x130008, 4, 256, 1, 0, [⟨0, 1, .ro⟩, ⟨1, 1, .ro⟩, ⟨2, 1, .ro⟩, ⟨3, 1, .ro⟩, ⟨16, 16, .ro⟩], 0x0, 0x0⟩, -- SAFE_SISTAT
  ⟨0x130400, 4, 256, 1, 0, [⟨0, 2, .rwl⟩, ⟨2, 1, .rwl⟩, ⟨3, 1, .rwl⟩, ⟨4, 1, .rwl⟩, ⟨16, 16, .rwl⟩], 0x7D0000E, 0x0⟩, -- SAFE_AXCFG
  ⟨0x130404, 4, 256, 1, 0, [⟨0, 32, .rwl⟩], 0x140, 0x0⟩, -- SAFE_AXDEC
  ⟨0x130408, 4, 256, 1, 0, [⟨0, 32, .rwl⟩], 0x3E80, 0x0⟩, -- SAFE_AXTOL
  ⟨0x13040C, 4, 256, 1, 0, [⟨0, 32, .rwl⟩], 0x320, 0x0⟩, -- SAFE_AXSTILL
  ⟨0x130410, 4, 256, 1, 0, [⟨0, 16, .rwl⟩, ⟨16, 8, .rwl⟩], 0x40000, 0x0⟩, -- SAFE_AXPL
  ⟨0x130414, 4, 256, 1, 0, [⟨0, 2, .ro⟩, ⟨2, 1, .ro⟩, ⟨3, 1, .ro⟩, ⟨16, 16, .ro⟩], 0x0, 0x0⟩, -- SAFE_AXSTAT
  ⟨0x130418, 4, 256, 1, 0, [⟨0, 32, .ro⟩], 0x0, 0x0⟩, -- SAFE_AXV0
  ⟨0x130800, 1, 256, 1, 0, [⟨0, 16, .rwl⟩, ⟨16, 16, .rwl⟩], 0x320064, 0x0⟩, -- SAFE_SODCFG
  ⟨0x130804, 1, 256, 1, 0, [⟨0, 8, .rwl⟩, ⟨8, 1, .rwl⟩], 0x10A, 0x0⟩, -- SAFE_SODCFG2
  ⟨0x130810, 1, 256, 12, 4, [⟨0, 3, .ro⟩, ⟨8, 8, .ro⟩], 0x0, 0x0⟩, -- SAFE_SODSTAT
  ⟨0x131100, 1, 256, 1, 0, [⟨0, 1, .rwl⟩, ⟨8, 8, .rwl⟩], 0x1400, 0x0⟩, -- SAFE_SGRCFG
  ⟨0x131104, 1, 256, 1, 0, [⟨0, 32, .rwl⟩], 0x0, 0x0⟩, -- SAFE_SGRCTC_LO
  ⟨0x131108, 1, 256, 1, 0, [⟨0, 8, .rwl⟩], 0x0, 0x0⟩, -- SAFE_SGRCTC_HI
  ⟨0x13110C, 1, 256, 1, 0, [⟨0, 4, .wo⟩, ⟨8, 4, .wo⟩], 0x0, 0x0⟩, -- SAFE_CMD
  ⟨0x131110, 1, 256, 1, 0, [⟨0, 1, .ro⟩, ⟨1, 1, .ro⟩, ⟨4, 12, .ro⟩, ⟨16, 4, .ro⟩, ⟨20, 4, .ro⟩], 0x0, 0x0⟩, -- SAFE_FSTAT
  ⟨0x131200, 1, 256, 4, 8, [⟨0, 12, .rwl⟩, ⟨12, 1, .rwl⟩, ⟨13, 6, .rwl⟩, ⟨19, 1, .rwl⟩, ⟨20, 12, .rwl⟩], 0x3C00000, 0x0⟩, -- SAFE_ILK
  ⟨0x131204, 1, 256, 4, 8, [⟨0, 32, .rwl⟩], 0x10, 0x0⟩, -- SAFE_ILK2
  ⟨0x131000, 1, 256, 1, 0, [⟨0, 1, .rw⟩], 0x0, 0x0⟩, -- SAFE_CTRL
  ⟨0x131004, 1, 256, 1, 0, [⟨0, 16, .w1c⟩, ⟨16, 1, .ro⟩], 0x0, 0x0⟩, -- SAFE_STATUS
  ⟨0x131008, 1, 256, 1, 0, [⟨0, 16, .rw⟩, ⟨16, 1, .rw⟩], 0x0, 0x0⟩, -- SAFE_IRQ_EN
  ⟨0x13100C, 1, 256, 1, 0, [⟨0, 32, .ro⟩], 0x0, 0x0⟩, -- SAFE_CHK
  ⟨0x131010, 1, 256, 1, 0, [⟨0, 16, .w1c⟩], 0x0, 0x0⟩, -- SAFE_FLT_SEV
  ⟨0x131014, 1, 256, 1, 0, [⟨0, 4, .ro⟩, ⟨8, 8, .ro⟩, ⟨16, 16, .ro⟩], 0x0, 0x0⟩, -- SAFE_EVT_LAST
  ⟨0x131040, 1, 256, 1, 0, [⟨0, 8, .rwl⟩, ⟨8, 8, .ro⟩, ⟨16, 16, .ro⟩], 0x1, 0x0⟩, -- SAFE_FLT_N[0]
  ⟨0x131044, 1, 256, 1, 0, [⟨0, 20, .rwl⟩], 0x186A0, 0x0⟩, -- SAFE_FLT_WIN[0]
  ⟨0x131048, 1, 256, 1, 0, [⟨0, 8, .rwl⟩, ⟨8, 8, .ro⟩, ⟨16, 16, .ro⟩], 0x1, 0x0⟩, -- SAFE_FLT_N[1]
  ⟨0x13104C, 1, 256, 1, 0, [⟨0, 20, .rwl⟩], 0x186A0, 0x0⟩, -- SAFE_FLT_WIN[1]
  ⟨0x131050, 1, 256, 1, 0, [⟨0, 8, .rwl⟩, ⟨8, 8, .ro⟩, ⟨16, 16, .ro⟩], 0x1, 0x0⟩, -- SAFE_FLT_N[2]
  ⟨0x131054, 1, 256, 1, 0, [⟨0, 20, .rwl⟩], 0x186A0, 0x0⟩, -- SAFE_FLT_WIN[2]
  ⟨0x131058, 1, 256, 1, 0, [⟨0, 8, .rwl⟩, ⟨8, 8, .ro⟩, ⟨16, 16, .ro⟩], 0x1, 0x0⟩, -- SAFE_FLT_N[3]
  ⟨0x13105C, 1, 256, 1, 0, [⟨0, 20, .rwl⟩], 0x186A0, 0x0⟩, -- SAFE_FLT_WIN[3]
  ⟨0x131060, 1, 256, 1, 0, [⟨0, 8, .rwl⟩, ⟨8, 8, .ro⟩, ⟨16, 16, .ro⟩], 0x1, 0x0⟩, -- SAFE_FLT_N[4]
  ⟨0x131064, 1, 256, 1, 0, [⟨0, 20, .rwl⟩], 0x186A0, 0x0⟩, -- SAFE_FLT_WIN[4]
  ⟨0x131068, 1, 256, 1, 0, [⟨0, 8, .rwl⟩, ⟨8, 8, .ro⟩, ⟨16, 16, .ro⟩], 0x1, 0x0⟩, -- SAFE_FLT_N[5]
  ⟨0x13106C, 1, 256, 1, 0, [⟨0, 20, .rwl⟩], 0x186A0, 0x0⟩, -- SAFE_FLT_WIN[5]
  ⟨0x131070, 1, 256, 1, 0, [⟨0, 8, .rwl⟩, ⟨8, 8, .ro⟩, ⟨16, 16, .ro⟩], 0x1, 0x0⟩, -- SAFE_FLT_N[6]
  ⟨0x131074, 1, 256, 1, 0, [⟨0, 20, .rwl⟩], 0x186A0, 0x0⟩ -- SAFE_FLT_WIN[6]
]

def safeRegs1 : List RegDef := [
  ⟨0x131078, 1, 256, 1, 0, [⟨0, 8, .rwl⟩, ⟨8, 8, .ro⟩, ⟨16, 16, .ro⟩], 0x1, 0x0⟩, -- SAFE_FLT_N[7]
  ⟨0x13107C, 1, 256, 1, 0, [⟨0, 20, .rwl⟩], 0x186A0, 0x0⟩ -- SAFE_FLT_WIN[7]
]

/-- All registers of SAFE. -/
def safeRegs : List RegDef := safeRegs0 ++ safeRegs1

/-- The registers of CTC. -/
def ctcRegs0 : List RegDef := [
  ⟨0x140000, 40, 256, 1, 0, [⟨0, 1, .rwl⟩, ⟨1, 2, .rwl⟩, ⟨3, 6, .rwl⟩, ⟨9, 1, .rwl⟩, ⟨10, 1, .rwl⟩, ⟨11, 2, .rwl⟩, ⟨13, 6, .rwl⟩, ⟨19, 1, .rwl⟩], 0x0, 0x0⟩, -- CTC_OCFG
  ⟨0x140004, 40, 256, 1, 0, [⟨0, 12, .rwl⟩, ⟨12, 12, .rwl⟩], 0x64064, 0x0⟩, -- CTC_OTIM
  ⟨0x140008, 40, 256, 1, 0, [⟨0, 2, .wo⟩], 0x0, 0x0⟩, -- CTC_OCMD
  ⟨0x14000C, 40, 256, 1, 0, [⟨0, 1, .ro⟩, ⟨1, 1, .ro⟩, ⟨2, 1, .ro⟩, ⟨3, 1, .ro⟩, ⟨4, 1, .ro⟩, ⟨5, 1, .ro⟩, ⟨6, 1, .ro⟩, ⟨7, 1, .ro⟩, ⟨8, 1, .ro⟩, ⟨16, 16, .ro⟩], 0x0, 0x0⟩, -- CTC_OSTAT
  ⟨0x143100, 1, 256, 1, 0, [⟨0, 32, .ro⟩], 0x0, 0x0⟩, -- CTC_FBIN_LO
  ⟨0x143104, 1, 256, 1, 0, [⟨0, 8, .ro⟩], 0x0, 0x0⟩, -- CTC_FBIN_HI
  ⟨0x143000, 1, 256, 1, 0, [⟨0, 1, .rw⟩], 0x0, 0x0⟩, -- CTC_CTRL
  ⟨0x143004, 1, 256, 1, 0, [⟨0, 16, .w1c⟩, ⟨16, 1, .ro⟩], 0x0, 0x0⟩, -- CTC_STATUS
  ⟨0x143008, 1, 256, 1, 0, [⟨0, 16, .rw⟩, ⟨16, 1, .rw⟩], 0x0, 0x0⟩, -- CTC_IRQ_EN
  ⟨0x14300C, 1, 256, 1, 0, [⟨0, 32, .ro⟩], 0x0, 0x0⟩, -- CTC_CHK
  ⟨0x143010, 1, 256, 1, 0, [⟨0, 16, .w1c⟩], 0x0, 0x0⟩, -- CTC_FLT_SEV
  ⟨0x143014, 1, 256, 1, 0, [⟨0, 4, .ro⟩, ⟨8, 8, .ro⟩, ⟨16, 16, .ro⟩], 0x0, 0x0⟩, -- CTC_EVT_LAST
  ⟨0x143040, 1, 256, 1, 0, [⟨0, 8, .rwl⟩, ⟨8, 8, .ro⟩, ⟨16, 16, .ro⟩], 0x1, 0x0⟩, -- CTC_FLT_N[0]
  ⟨0x143044, 1, 256, 1, 0, [⟨0, 20, .rwl⟩], 0x186A0, 0x0⟩, -- CTC_FLT_WIN[0]
  ⟨0x143048, 1, 256, 1, 0, [⟨0, 8, .rwl⟩, ⟨8, 8, .ro⟩, ⟨16, 16, .ro⟩], 0x1, 0x0⟩, -- CTC_FLT_N[1]
  ⟨0x14304C, 1, 256, 1, 0, [⟨0, 20, .rwl⟩], 0x186A0, 0x0⟩, -- CTC_FLT_WIN[1]
  ⟨0x143050, 1, 256, 1, 0, [⟨0, 8, .rwl⟩, ⟨8, 8, .ro⟩, ⟨16, 16, .ro⟩], 0x1, 0x0⟩, -- CTC_FLT_N[2]
  ⟨0x143054, 1, 256, 1, 0, [⟨0, 20, .rwl⟩], 0x186A0, 0x0⟩, -- CTC_FLT_WIN[2]
  ⟨0x143058, 1, 256, 1, 0, [⟨0, 8, .rwl⟩, ⟨8, 8, .ro⟩, ⟨16, 16, .ro⟩], 0x1, 0x0⟩, -- CTC_FLT_N[3]
  ⟨0x14305C, 1, 256, 1, 0, [⟨0, 20, .rwl⟩], 0x186A0, 0x0⟩, -- CTC_FLT_WIN[3]
  ⟨0x143060, 1, 256, 1, 0, [⟨0, 8, .rwl⟩, ⟨8, 8, .ro⟩, ⟨16, 16, .ro⟩], 0x1, 0x0⟩, -- CTC_FLT_N[4]
  ⟨0x143064, 1, 256, 1, 0, [⟨0, 20, .rwl⟩], 0x186A0, 0x0⟩ -- CTC_FLT_WIN[4]
]

/-- All registers of CTC. -/
def ctcRegs : List RegDef := ctcRegs0

/-- The registers of MEM. -/
def memRegs0 : List RegDef := [
  ⟨0x150000, 1, 256, 1, 0, [⟨0, 13, .ro⟩, ⟨16, 8, .otp⟩], 0x1000, 0xFF0000⟩, -- MEM_BSTAT
  ⟨0x150100, 1, 256, 1, 0, [⟨0, 13, .ro⟩, ⟨16, 8, .otp⟩], 0x400, 0xFF0000⟩, -- MEM_BSTAT
  ⟨0x150200, 1, 256, 1, 0, [⟨0, 13, .ro⟩, ⟨16, 8, .otp⟩], 0x300, 0xFF0000⟩, -- MEM_BSTAT
  ⟨0x150300, 1, 256, 1, 0, [⟨0, 13, .ro⟩, ⟨16, 8, .otp⟩], 0x100, 0xFF0000⟩, -- MEM_BSTAT
  ⟨0x150400, 1, 256, 1, 0, [⟨0, 13, .ro⟩, ⟨16, 8, .otp⟩], 0x200, 0xFF0000⟩, -- MEM_BSTAT
  ⟨0x150004, 5, 256, 1, 0, [⟨0, 16, .ro⟩, ⟨16, 4, .ro⟩], 0x0, 0x0⟩, -- MEM_BPOIS
  ⟨0x150008, 5, 256, 1, 0, [⟨0, 17, .ro⟩], 0x0, 0x0⟩, -- MEM_BLAST
  ⟨0x15000C, 5, 256, 1, 0, [⟨0, 10, .ro⟩], 0x0, 0x0⟩, -- MEM_BNEXT
  ⟨0x150310, 1, 256, 1, 0, [⟨0, 16, .ro⟩, ⟨16, 16, .ro⟩], 0x0, 0x0⟩, -- MEM_DP_COLL
  ⟨0x151100, 1, 256, 1, 0, [⟨0, 16, .rwl⟩, ⟨16, 4, .rwl⟩], 0xF0064, 0x0⟩, -- MEM_BIST_CFG
  ⟨0x151104, 1, 256, 1, 0, [⟨0, 16, .ro⟩, ⟨16, 16, .ro⟩], 0x0, 0x0⟩, -- MEM_BIST_STAT
  ⟨0x151108, 1, 256, 1, 0, [⟨0, 2, .ro⟩, ⟨2, 17, .ro⟩], 0x0, 0x0⟩, -- MEM_BIST_FAULT
  ⟨0x151110, 1, 256, 8, 4, [⟨0, 2, .rwl⟩, ⟨2, 11, .rwl⟩, ⟨13, 11, .rwl⟩, ⟨31, 1, .rwl⟩], 0x0, 0x0⟩, -- MEM_NOBORROW
  ⟨0x151200, 1, 256, 10, 8, [⟨0, 32, .ro⟩], 0x0, 0x0⟩, -- MEM_CONFL
  ⟨0x151204, 1, 256, 10, 8, [⟨0, 16, .ro⟩, ⟨16, 16, .ro⟩], 0x0, 0x0⟩, -- MEM_CONFL2
  ⟨0x151000, 1, 256, 1, 0, [⟨0, 1, .rw⟩], 0x0, 0x0⟩, -- MEM_CTRL
  ⟨0x151004, 1, 256, 1, 0, [⟨0, 16, .w1c⟩, ⟨16, 1, .ro⟩], 0x0, 0x0⟩, -- MEM_STATUS
  ⟨0x151008, 1, 256, 1, 0, [⟨0, 16, .rw⟩, ⟨16, 1, .rw⟩], 0x0, 0x0⟩, -- MEM_IRQ_EN
  ⟨0x15100C, 1, 256, 1, 0, [⟨0, 32, .ro⟩], 0x0, 0x0⟩, -- MEM_CHK
  ⟨0x151010, 1, 256, 1, 0, [⟨0, 16, .w1c⟩], 0x0, 0x0⟩, -- MEM_FLT_SEV
  ⟨0x151014, 1, 256, 1, 0, [⟨0, 4, .ro⟩, ⟨8, 8, .ro⟩, ⟨16, 16, .ro⟩], 0x0, 0x0⟩, -- MEM_EVT_LAST
  ⟨0x151040, 1, 256, 1, 0, [⟨0, 8, .rwl⟩, ⟨8, 8, .ro⟩, ⟨16, 16, .ro⟩], 0x1, 0x0⟩, -- MEM_FLT_N[0]
  ⟨0x151044, 1, 256, 1, 0, [⟨0, 20, .rwl⟩], 0x186A0, 0x0⟩, -- MEM_FLT_WIN[0]
  ⟨0x151048, 1, 256, 1, 0, [⟨0, 8, .rwl⟩, ⟨8, 8, .ro⟩, ⟨16, 16, .ro⟩], 0x1, 0x0⟩, -- MEM_FLT_N[1]
  ⟨0x15104C, 1, 256, 1, 0, [⟨0, 20, .rwl⟩], 0x186A0, 0x0⟩, -- MEM_FLT_WIN[1]
  ⟨0x151050, 1, 256, 1, 0, [⟨0, 8, .rwl⟩, ⟨8, 8, .ro⟩, ⟨16, 16, .ro⟩], 0x1, 0x0⟩, -- MEM_FLT_N[2]
  ⟨0x151054, 1, 256, 1, 0, [⟨0, 20, .rwl⟩], 0x186A0, 0x0⟩ -- MEM_FLT_WIN[2]
]

/-- All registers of MEM. -/
def memRegs : List RegDef := memRegs0

/-- The registers of PART. -/
def partRegs0 : List RegDef := [
  ⟨0x160100, 1, 256, 1, 0, [⟨0, 1, .rwl⟩, ⟨16, 16, .rwl⟩], 0x1F40001, 0x0⟩, -- PART_CFG
  ⟨0x160104, 1, 256, 1, 0, [⟨0, 16, .rwl⟩, ⟨16, 16, .rwl⟩], 0x3C07D0, 0x0⟩, -- PART_CFG2
  ⟨0x160108, 1, 256, 1, 0, [⟨0, 16, .rwl⟩, ⟨16, 16, .rwl⟩], 0x3E80000, 0x0⟩, -- PART_LINK
  ⟨0x16010C, 1, 256, 1, 0, [⟨0, 32, .rwl⟩], 0x0, 0x0⟩, -- PART_MIRROR_LO
  ⟨0x160110, 1, 256, 1, 0, [⟨0, 8, .rwl⟩], 0x0, 0x0⟩, -- PART_MIRROR_HI
  ⟨0x160200, 1, 256, 1, 0, [⟨0, 2, .wo⟩], 0x0, 0x0⟩, -- PART_CMD
  ⟨0x160204, 1, 256, 1, 0, [⟨0, 3, .ro⟩, ⟨3, 1, .ro⟩, ⟨4, 1, .ro⟩, ⟨5, 1, .ro⟩, ⟨6, 1, .ro⟩, ⟨8, 4, .ro⟩, ⟨12, 4, .ro⟩, ⟨16, 3, .ro⟩], 0x0, 0x0⟩, -- PART_STAT
  ⟨0x160208, 1, 256, 1, 0, [⟨0, 32, .ro⟩], 0x0, 0x0⟩, -- PART_TOFS
  ⟨0x16020C, 1, 256, 1, 0, [⟨0, 8, .ro⟩, ⟨16, 16, .ro⟩], 0xFF, 0x0⟩, -- PART_SNAP
  ⟨0x160210, 1, 256, 1, 0, [⟨0, 16, .ro⟩, ⟨16, 16, .ro⟩], 0x0, 0x0⟩, -- PART_CNT
  ⟨0x160214, 1, 256, 1, 0, [⟨0, 4, .ro⟩, ⟨4, 4, .ro⟩], 0x0, 0x0⟩, -- PART_LAST
  ⟨0x160218, 1, 256, 1, 0, [⟨0, 32, .ro⟩], 0x0, 0x0⟩, -- PART_LAST_TAI
  ⟨0x16021C, 1, 256, 1, 0, [⟨0, 32, .ro⟩], 0x0, 0x0⟩, -- PART_LAST_TAI
  ⟨0x160000, 1, 256, 1, 0, [⟨0, 1, .rw⟩], 0x0, 0x0⟩, -- PART_CTRL
  ⟨0x160004, 1, 256, 1, 0, [⟨0, 16, .w1c⟩, ⟨16, 1, .ro⟩], 0x0, 0x0⟩, -- PART_STATUS
  ⟨0x160008, 1, 256, 1, 0, [⟨0, 16, .rw⟩, ⟨16, 1, .rw⟩], 0x0, 0x0⟩, -- PART_IRQ_EN
  ⟨0x16000C, 1, 256, 1, 0, [⟨0, 32, .ro⟩], 0x0, 0x0⟩, -- PART_CHK
  ⟨0x160010, 1, 256, 1, 0, [⟨0, 16, .w1c⟩], 0x0, 0x0⟩, -- PART_FLT_SEV
  ⟨0x160014, 1, 256, 1, 0, [⟨0, 4, .ro⟩, ⟨8, 8, .ro⟩, ⟨16, 16, .ro⟩], 0x0, 0x0⟩, -- PART_EVT_LAST
  ⟨0x160040, 1, 256, 1, 0, [⟨0, 8, .rwl⟩, ⟨8, 8, .ro⟩, ⟨16, 16, .ro⟩], 0x1, 0x0⟩, -- PART_FLT_N[0]
  ⟨0x160044, 1, 256, 1, 0, [⟨0, 20, .rwl⟩], 0x186A0, 0x0⟩, -- PART_FLT_WIN[0]
  ⟨0x160048, 1, 256, 1, 0, [⟨0, 8, .rwl⟩, ⟨8, 8, .ro⟩, ⟨16, 16, .ro⟩], 0x1, 0x0⟩, -- PART_FLT_N[1]
  ⟨0x16004C, 1, 256, 1, 0, [⟨0, 20, .rwl⟩], 0x186A0, 0x0⟩, -- PART_FLT_WIN[1]
  ⟨0x160050, 1, 256, 1, 0, [⟨0, 8, .rwl⟩, ⟨8, 8, .ro⟩, ⟨16, 16, .ro⟩], 0x1, 0x0⟩, -- PART_FLT_N[2]
  ⟨0x160054, 1, 256, 1, 0, [⟨0, 20, .rwl⟩], 0x186A0, 0x0⟩, -- PART_FLT_WIN[2]
  ⟨0x160058, 1, 256, 1, 0, [⟨0, 8, .rwl⟩, ⟨8, 8, .ro⟩, ⟨16, 16, .ro⟩], 0x10, 0x0⟩, -- PART_FLT_N[3]
  ⟨0x16005C, 1, 256, 1, 0, [⟨0, 20, .rwl⟩], 0x186A0, 0x0⟩ -- PART_FLT_WIN[3]
]

/-- All registers of PART. -/
def partRegs : List RegDef := partRegs0

/-- The registers of HOST. -/
def hostRegs0 : List RegDef := [
  ⟨0x170400, 1, 256, 1, 0, [⟨0, 32, .rw⟩], 0x0, 0x0⟩, -- HOST_IRQ_MAP_LO
  ⟨0x170404, 1, 256, 1, 0, [⟨0, 22, .rw⟩], 0x0, 0x0⟩, -- HOST_IRQ_MAP_HI
  ⟨0x170408, 1, 256, 1, 0, [⟨0, 27, .ro⟩, ⟨28, 4, .ro⟩], 0x0, 0x0⟩, -- HOST_IRQ_PEND
  ⟨0x17040C, 1, 256, 1, 0, [⟨0, 27, .ro⟩], 0x0, 0x0⟩, -- HOST_SEV_SUM
  ⟨0x170100, 1, 256, 1, 0, [⟨0, 8, .ro⟩, ⟨8, 1, .ro⟩, ⟨9, 1, .ro⟩, ⟨16, 8, .ro⟩, ⟨24, 7, .ro⟩], 0x0, 0x0⟩, -- HOST_PORT_STAT
  ⟨0x170104, 1, 256, 1, 0, [⟨0, 16, .ro⟩, ⟨16, 16, .ro⟩], 0x0, 0x0⟩, -- HOST_PORT_CNT
  ⟨0x170108, 1, 256, 1, 0, [⟨0, 16, .ro⟩, ⟨16, 16, .ro⟩], 0x0, 0x0⟩, -- HOST_PORT_CNT2
  ⟨0x170200, 1, 256, 1, 0, [⟨0, 2, .wo⟩], 0x0, 0x0⟩, -- HOST_FL_CMD
  ⟨0x170204, 1, 256, 1, 0, [⟨0, 24, .rw⟩], 0x0, 0x0⟩, -- HOST_FL_ADDR
  ⟨0x170208, 1, 256, 1, 0, [⟨0, 20, .rw⟩, ⟨20, 9, .rw⟩], 0x1000C000, 0x0⟩, -- HOST_FL_BUF
  ⟨0x17020C, 1, 256, 1, 0, [⟨0, 1, .ro⟩, ⟨1, 1, .w1c⟩, ⟨2, 1, .w1c⟩, ⟨8, 16, .ro⟩], 0x0, 0x0⟩, -- HOST_FL_STAT
  ⟨0x170000, 1, 256, 1, 0, [⟨0, 1, .rw⟩], 0x0, 0x0⟩, -- HOST_CTRL
  ⟨0x170004, 1, 256, 1, 0, [⟨0, 16, .w1c⟩, ⟨16, 1, .ro⟩], 0x0, 0x0⟩, -- HOST_STATUS
  ⟨0x170008, 1, 256, 1, 0, [⟨0, 16, .rw⟩, ⟨16, 1, .rw⟩], 0x0, 0x0⟩, -- HOST_IRQ_EN
  ⟨0x17000C, 1, 256, 1, 0, [⟨0, 32, .ro⟩], 0x0, 0x0⟩, -- HOST_CHK
  ⟨0x170010, 1, 256, 1, 0, [⟨0, 16, .w1c⟩], 0x0, 0x0⟩, -- HOST_FLT_SEV
  ⟨0x170014, 1, 256, 1, 0, [⟨0, 4, .ro⟩, ⟨8, 8, .ro⟩, ⟨16, 16, .ro⟩], 0x0, 0x0⟩, -- HOST_EVT_LAST
  ⟨0x170040, 1, 256, 1, 0, [⟨0, 8, .rwl⟩, ⟨8, 8, .ro⟩, ⟨16, 16, .ro⟩], 0x40, 0x0⟩, -- HOST_FLT_N[0]
  ⟨0x170044, 1, 256, 1, 0, [⟨0, 20, .rwl⟩], 0x186A0, 0x0⟩ -- HOST_FLT_WIN[0]
]

/-- All registers of HOST. -/
def hostRegs : List RegDef := hostRegs0

/-- The registers of ETH. -/
def ethRegs0 : List RegDef := [
  ⟨0x180000, 1, 256, 1, 0, [⟨0, 1, .rwl⟩, ⟨1, 1, .rwl⟩, ⟨2, 1, .rwl⟩, ⟨3, 1, .rwl⟩, ⟨4, 5, .rwl⟩, ⟨9, 1, .rwl⟩], 0x202, 0x0⟩, -- ETH_MCFG
  ⟨0x180100, 1, 256, 1, 0, [⟨0, 1, .rwl⟩, ⟨1, 1, .rwl⟩, ⟨2, 1, .rwl⟩, ⟨3, 1, .rwl⟩, ⟨4, 5, .rwl⟩, ⟨9, 1, .rwl⟩], 0x212, 0x0⟩, -- ETH_MCFG
  ⟨0x180004, 2, 256, 1, 0, [⟨0, 32, .rwl⟩], 0x0, 0xFFFFFFFF⟩, -- ETH_MAC_LO
  ⟨0x180008, 2, 256, 1, 0, [⟨0, 16, .rwl⟩], 0x0, 0xFFFF⟩, -- ETH_MAC_HI
  ⟨0x18000C, 2, 256, 1, 0, [⟨0, 32, .rwl⟩], 0x0, 0x0⟩, -- ETH_IP
  ⟨0x180010, 2, 256, 1, 0, [⟨0, 1, .ro⟩, ⟨1, 1, .ro⟩], 0x0, 0x0⟩, -- ETH_MSTAT
  ⟨0x180014, 2, 256, 1, 0, [⟨0, 16, .ro⟩, ⟨16, 16, .ro⟩], 0x0, 0x0⟩, -- ETH_MCNT
  ⟨0x180018, 2, 256, 1, 0, [⟨0, 32, .ro⟩], 0x0, 0x0⟩, -- ETH_MCNT2
  ⟨0x181100, 1, 256, 1, 0, [⟨0, 5, .rw⟩, ⟨5, 5, .rw⟩, ⟨10, 2, .wo⟩, ⟨16, 16, .rw⟩], 0x0, 0x0⟩, -- ETH_MDIO
  ⟨0x181104, 1, 256, 1, 0, [⟨0, 1, .ro⟩, ⟨16, 16, .ro⟩], 0x0, 0x0⟩, -- ETH_MDIO_STAT
  ⟨0x181000, 1, 256, 1, 0, [⟨0, 1, .rw⟩], 0x0, 0x0⟩, -- ETH_CTRL
  ⟨0x181004, 1, 256, 1, 0, [⟨0, 16, .w1c⟩, ⟨16, 1, .ro⟩], 0x0, 0x0⟩, -- ETH_STATUS
  ⟨0x181008, 1, 256, 1, 0, [⟨0, 16, .rw⟩, ⟨16, 1, .rw⟩], 0x0, 0x0⟩, -- ETH_IRQ_EN
  ⟨0x18100C, 1, 256, 1, 0, [⟨0, 32, .ro⟩], 0x0, 0x0⟩, -- ETH_CHK
  ⟨0x181010, 1, 256, 1, 0, [⟨0, 16, .w1c⟩], 0x0, 0x0⟩, -- ETH_FLT_SEV
  ⟨0x181014, 1, 256, 1, 0, [⟨0, 4, .ro⟩, ⟨8, 8, .ro⟩, ⟨16, 16, .ro⟩], 0x0, 0x0⟩, -- ETH_EVT_LAST
  ⟨0x181040, 1, 256, 1, 0, [⟨0, 8, .rwl⟩, ⟨8, 8, .ro⟩, ⟨16, 16, .ro⟩], 0x40, 0x0⟩, -- ETH_FLT_N[0]
  ⟨0x181044, 1, 256, 1, 0, [⟨0, 20, .rwl⟩], 0x186A0, 0x0⟩ -- ETH_FLT_WIN[0]
]

/-- All registers of ETH. -/
def ethRegs : List RegDef := ethRegs0

/-- The registers of SEAL. -/
def sealRegs0 : List RegDef := [
  ⟨0x190100, 1, 256, 1, 0, [⟨0, 16, .ro⟩, ⟨16, 2, .ro⟩, ⟨18, 1, .ro⟩, ⟨19, 1, .ro⟩], 0xFFFF, 0x0⟩, -- SEAL_SW
  ⟨0x190104, 1, 256, 1, 0, [⟨0, 16, .rws⟩], 0xFFFF, 0x0⟩, -- SEAL_MASK
  ⟨0x190108, 1, 256, 1, 0, [⟨0, 16, .ro⟩, ⟨16, 16, .ro⟩], 0x0, 0x0⟩, -- SEAL_CNT
  ⟨0x190110, 1, 256, 8, 4, [⟨0, 32, .ro⟩], 0x0, 0x0⟩, -- SEAL_DIGEST
  ⟨0x190200, 1, 256, 1, 0, [⟨0, 32, .wo⟩], 0x0, 0x0⟩, -- SEAL_PASS
  ⟨0x190204, 1, 256, 1, 0, [⟨0, 32, .wo⟩], 0x0, 0x0⟩, -- SEAL_PASS
  ⟨0x190208, 1, 256, 1, 0, [⟨0, 32, .wo⟩], 0x0, 0x0⟩, -- SEAL_PASS_NEW
  ⟨0x19020C, 1, 256, 1, 0, [⟨0, 32, .wo⟩], 0x0, 0x0⟩, -- SEAL_PASS_NEW
  ⟨0x190210, 1, 256, 1, 0, [⟨0, 2, .wo⟩], 0x0, 0x0⟩, -- SEAL_PCMD
  ⟨0x190214, 1, 256, 1, 0, [⟨0, 1, .ro⟩, ⟨1, 1, .ro⟩, ⟨2, 1, .ro⟩, ⟨8, 4, .ro⟩, ⟨16, 16, .ro⟩], 0x0, 0x0⟩, -- SEAL_PSTAT
  ⟨0x190218, 1, 256, 1, 0, [⟨0, 12, .rwp⟩, ⟨12, 4, .rwp⟩], 0x512C, 0x0⟩, -- SEAL_PCFG
  ⟨0x190300, 1, 256, 1, 0, [⟨0, 32, .ro⟩], 0x0, 0x0⟩, -- SEAL_LOG_NEXT
  ⟨0x190304, 1, 256, 1, 0, [⟨0, 32, .rw⟩], 0x0, 0x0⟩, -- SEAL_LOG_ACK
  ⟨0x190310, 1, 256, 4, 4, [⟨0, 32, .ro⟩], 0x0, 0x0⟩, -- SEAL_LOG_HASH
  ⟨0x190000, 1, 256, 1, 0, [⟨0, 1, .rw⟩], 0x0, 0x0⟩, -- SEAL_CTRL
  ⟨0x190004, 1, 256, 1, 0, [⟨0, 16, .w1c⟩, ⟨16, 1, .ro⟩], 0x0, 0x0⟩, -- SEAL_STATUS
  ⟨0x190008, 1, 256, 1, 0, [⟨0, 16, .rw⟩, ⟨16, 1, .rw⟩], 0x0, 0x0⟩, -- SEAL_IRQ_EN
  ⟨0x19000C, 1, 256, 1, 0, [⟨0, 32, .ro⟩], 0x0, 0x0⟩, -- SEAL_CHK
  ⟨0x190010, 1, 256, 1, 0, [⟨0, 16, .w1c⟩], 0x0, 0x0⟩, -- SEAL_FLT_SEV
  ⟨0x190014, 1, 256, 1, 0, [⟨0, 4, .ro⟩, ⟨8, 8, .ro⟩, ⟨16, 16, .ro⟩], 0x0, 0x0⟩, -- SEAL_EVT_LAST
  ⟨0x190040, 1, 256, 1, 0, [⟨0, 8, .rwl⟩, ⟨8, 8, .ro⟩, ⟨16, 16, .ro⟩], 0x1, 0x0⟩, -- SEAL_FLT_N[0]
  ⟨0x190044, 1, 256, 1, 0, [⟨0, 20, .rwl⟩], 0x186A0, 0x0⟩, -- SEAL_FLT_WIN[0]
  ⟨0x190048, 1, 256, 1, 0, [⟨0, 8, .rwl⟩, ⟨8, 8, .ro⟩, ⟨16, 16, .ro⟩], 0x1, 0x0⟩, -- SEAL_FLT_N[1]
  ⟨0x19004C, 1, 256, 1, 0, [⟨0, 20, .rwl⟩], 0x186A0, 0x0⟩, -- SEAL_FLT_WIN[1]
  ⟨0x190050, 1, 256, 1, 0, [⟨0, 8, .rwl⟩, ⟨8, 8, .ro⟩, ⟨16, 16, .ro⟩], 0x3, 0x0⟩, -- SEAL_FLT_N[2]
  ⟨0x190054, 1, 256, 1, 0, [⟨0, 20, .rwl⟩], 0xF4240, 0x0⟩, -- SEAL_FLT_WIN[2]
  ⟨0x190058, 1, 256, 1, 0, [⟨0, 8, .rwl⟩, ⟨8, 8, .ro⟩, ⟨16, 16, .ro⟩], 0x1, 0x0⟩, -- SEAL_FLT_N[3]
  ⟨0x19005C, 1, 256, 1, 0, [⟨0, 20, .rwl⟩], 0x186A0, 0x0⟩, -- SEAL_FLT_WIN[3]
  ⟨0x190060, 1, 256, 1, 0, [⟨0, 8, .rwl⟩, ⟨8, 8, .ro⟩, ⟨16, 16, .ro⟩], 0x1, 0x0⟩, -- SEAL_FLT_N[4]
  ⟨0x190064, 1, 256, 1, 0, [⟨0, 20, .rwl⟩], 0x186A0, 0x0⟩ -- SEAL_FLT_WIN[4]
]

/-- All registers of SEAL. -/
def sealRegs : List RegDef := sealRegs0

/-- The registers of COMB. -/
def combRegs0 : List RegDef := [
  ⟨0x1A0018, 1, 256, 1, 0, [⟨0, 3, .wo⟩, ⟨8, 4, .wo⟩, ⟨16, 16, .wo⟩], 0x0, 0x0⟩, -- COMB_CMD
  ⟨0x1A001C, 1, 256, 1, 0, [⟨0, 32, .rw⟩], 0x0, 0x0⟩, -- COMB_CMD_SID
  ⟨0x1A0020, 1, 256, 1, 0, [⟨0, 32, .rw⟩], 0x0, 0x0⟩, -- COMB_CMD_SID
  ⟨0x1A0024, 1, 256, 1, 0, [⟨0, 32, .rw⟩], 0x0, 0x0⟩, -- COMB_CMD_HDL
  ⟨0x1A0028, 1, 256, 1, 0, [⟨0, 1, .ro⟩, ⟨1, 1, .ro⟩, ⟨8, 8, .ro⟩, ⟨16, 8, .ro⟩], 0x0, 0x0⟩, -- COMB_RSP
  ⟨0x1A002C, 1, 256, 1, 0, [⟨0, 32, .ro⟩], 0x0, 0x0⟩, -- COMB_RSP_HDL
  ⟨0x1A0030, 1, 256, 1, 0, [⟨0, 6, .ro⟩, ⟨8, 9, .ro⟩], 0x10000, 0x0⟩, -- COMB_SIGN
  ⟨0x1A0034, 1, 256, 1, 0, [⟨0, 32, .wo⟩], 0x0, 0x0⟩, -- COMB_FETCH
  ⟨0x1A0038, 1, 256, 1, 0, [⟨0, 20, .rwl⟩], 0x8000, 0x0⟩, -- COMB_FETCH_BASE
  ⟨0x1A003C, 1, 256, 1, 0, [⟨0, 1, .ro⟩, ⟨1, 1, .ro⟩], 0x0, 0x0⟩, -- COMB_FETCH_STAT
  ⟨0x1A00C0, 256, 256, 1, 0, [⟨0, 3, .ro⟩, ⟨4, 4, .ro⟩, ⟨8, 8, .ro⟩, ⟨16, 16, .ro⟩], 0x0, 0x0⟩, -- COMB_SSTAT
  ⟨0x1A00C4, 256, 256, 1, 0, [⟨0, 32, .ro⟩], 0x0, 0x0⟩, -- COMB_SSID
  ⟨0x1A00C8, 256, 256, 1, 0, [⟨0, 32, .ro⟩], 0x0, 0x0⟩, -- COMB_SSID
  ⟨0x1A00CC, 256, 256, 1, 0, [⟨0, 16, .ro⟩, ⟨16, 16, .ro⟩], 0x0, 0x0⟩, -- COMB_SCID
  ⟨0x1A00D0, 256, 256, 1, 0, [⟨0, 32, .ro⟩], 0x0, 0x0⟩, -- COMB_SSTART
  ⟨0x1A00D4, 256, 256, 1, 0, [⟨0, 32, .ro⟩], 0x0, 0x0⟩, -- COMB_SSTART
  ⟨0x1A00D8, 256, 256, 1, 0, [⟨0, 32, .ro⟩], 0x0, 0x0⟩, -- COMB_SSTOP
  ⟨0x1A00DC, 256, 256, 1, 0, [⟨0, 32, .ro⟩], 0x0, 0x0⟩, -- COMB_SSTOP
  ⟨0x1A00E0, 256, 256, 1, 0, [⟨0, 32, .ro⟩], 0x0, 0x0⟩, -- COMB_SEIMP
  ⟨0x1A00E4, 256, 256, 1, 0, [⟨0, 32, .ro⟩], 0x0, 0x0⟩, -- COMB_SEIMP
  ⟨0x1A00E8, 256, 256, 1, 0, [⟨0, 32, .ro⟩], 0x0, 0x0⟩, -- COMB_SEEXP
  ⟨0x1A00EC, 256, 256, 1, 0, [⟨0, 32, .ro⟩], 0x0, 0x0⟩, -- COMB_SEEXP
  ⟨0x1A00F0, 256, 256, 1, 0, [⟨0, 32, .ro⟩], 0x0, 0x0⟩, -- COMB_SECURT
  ⟨0x1A00F4, 256, 256, 1, 0, [⟨0, 32, .ro⟩], 0x0, 0x0⟩, -- COMB_SECURT
  ⟨0x1A00F8, 256, 256, 1, 0, [⟨0, 32, .ro⟩], 0x0, 0x0⟩, -- COMB_SNCURT
  ⟨0x1A00FC, 256, 256, 1, 0, [⟨0, 32, .ro⟩], 0x0, 0x0⟩, -- COMB_SHDL
  ⟨0x1A0000, 1, 256, 1, 0, [⟨0, 1, .rw⟩], 0x0, 0x0⟩, -- COMB_CTRL
  ⟨0x1A0004, 1, 256, 1, 0, [⟨0, 16, .w1c⟩, ⟨16, 1, .ro⟩], 0x0, 0x0⟩, -- COMB_STATUS
  ⟨0x1A0008, 1, 256, 1, 0, [⟨0, 16, .rw⟩, ⟨16, 1, .rw⟩], 0x0, 0x0⟩, -- COMB_IRQ_EN
  ⟨0x1A000C, 1, 256, 1, 0, [⟨0, 32, .ro⟩], 0x0, 0x0⟩, -- COMB_CHK
  ⟨0x1A0010, 1, 256, 1, 0, [⟨0, 16, .w1c⟩], 0x0, 0x0⟩, -- COMB_FLT_SEV
  ⟨0x1A0014, 1, 256, 1, 0, [⟨0, 4, .ro⟩, ⟨8, 8, .ro⟩, ⟨16, 16, .ro⟩], 0x0, 0x0⟩, -- COMB_EVT_LAST
  ⟨0x1A0040, 1, 256, 1, 0, [⟨0, 8, .rwl⟩, ⟨8, 8, .ro⟩, ⟨16, 16, .ro⟩], 0x1, 0x0⟩, -- COMB_FLT_N[0]
  ⟨0x1A0044, 1, 256, 1, 0, [⟨0, 20, .rwl⟩], 0x186A0, 0x0⟩, -- COMB_FLT_WIN[0]
  ⟨0x1A0048, 1, 256, 1, 0, [⟨0, 8, .rwl⟩, ⟨8, 8, .ro⟩, ⟨16, 16, .ro⟩], 0x1, 0x0⟩, -- COMB_FLT_N[1]
  ⟨0x1A004C, 1, 256, 1, 0, [⟨0, 20, .rwl⟩], 0x186A0, 0x0⟩ -- COMB_FLT_WIN[1]
]

/-- All registers of COMB. -/
def combRegs : List RegDef := combRegs0

/-- The registers of the block with this number (R1, R556). -/
def regsOf (n : Nat) : List RegDef :=
  match n with
  | 0 => sysRegs
  | 1 => clkRegs
  | 2 => bootRegs
  | 3 => chkRegs
  | 4 => timeRegs
  | 5 => hiveRegs
  | 6 => cellRegs
  | 7 => modRegs
  | 8 => formRegs
  | 9 => lawRegs
  | 10 => outRegs
  | 11 => metrRegs
  | 12 => calRegs
  | 13 => adcRegs
  | 14 => filRegs
  | 15 => capRegs
  | 16 => axisRegs
  | 17 => gdrvRegs
  | 18 => encRegs
  | 19 => safeRegs
  | 20 => ctcRegs
  | 21 => memRegs
  | 22 => partRegs
  | 23 => hostRegs
  | 24 => ethRegs
  | 25 => sealRegs
  | 26 => combRegs
  | _ => []

end Sys2Proof.Machine
end

