-- ==== Sys2Proof/Machine/Sources.lean ====
section
/-! DEFINITION. The fault sources of every block (R96): number, counted or not, level or pulse, and the persistence reason that a refused clear records (R105). -/

namespace Sys2Proof.Machine

/-- R95: SYS source 0, XTAL_LOSS. -/
def SRC_SYS_XTAL_LOSS : Source := ⟨.sys, 0, true, false, 0x000A⟩
/-- R95: CLK source 0, LOSS_OF_LOCK. -/
def SRC_CLK_LOSS_OF_LOCK : Source := ⟨.clk, 0, true, false, 0x010A⟩
/-- R95: CLK source 1, NO_BAND. -/
def SRC_CLK_NO_BAND : Source := ⟨.clk, 1, true, false, 0x010A⟩
/-- R132: TIME source 0, JUMP_REFUSED. -/
def SRC_TIME_JUMP_REFUSED : Source := ⟨.time, 0, true, true, 0x0420⟩
/-- R132: TIME source 1, MASTER_LOST. -/
def SRC_TIME_MASTER_LOST : Source := ⟨.time, 1, false, true, 0x040A⟩
/-- R132: TIME source 2, MASTER_CHANGE. -/
def SRC_TIME_MASTER_CHANGE : Source := ⟨.time, 2, false, false, 0x040A⟩
/-- R132: TIME source 3, OUTLIER. -/
def SRC_TIME_OUTLIER : Source := ⟨.time, 3, true, false, 0x040A⟩
/-- R132: TIME source 4, SLEW_CLAMP. -/
def SRC_TIME_SLEW_CLAMP : Source := ⟨.time, 4, true, false, 0x040A⟩
/-- R132: TIME source 5, STEPPED. -/
def SRC_TIME_STEPPED : Source := ⟨.time, 5, false, false, 0x040A⟩
/-- R132: TIME source 6, TIMESCALE. -/
def SRC_TIME_TIMESCALE : Source := ⟨.time, 6, false, false, 0x040A⟩
/-- R176: HIVE source 0, CRC_ERR. -/
def SRC_HIVE_CRC_ERR : Source := ⟨.hive, 0, true, false, 0x050A⟩
/-- R176: HIVE source 1, CELL_TIMEOUT. -/
def SRC_HIVE_CELL_TIMEOUT : Source := ⟨.hive, 1, true, false, 0x050A⟩
/-- R176: HIVE source 2, BREAK. -/
def SRC_HIVE_BREAK : Source := ⟨.hive, 2, true, true, 0x0521⟩
/-- R176: HIVE source 3, MBX_TIMEOUT. -/
def SRC_HIVE_MBX_TIMEOUT : Source := ⟨.hive, 3, true, false, 0x050A⟩
/-- R176: HIVE source 4, BEAT_SKEW. -/
def SRC_HIVE_BEAT_SKEW : Source := ⟨.hive, 4, true, false, 0x050A⟩
/-- R176: HIVE source 5, BLOCK_ECHO. -/
def SRC_HIVE_BLOCK_ECHO : Source := ⟨.hive, 5, true, false, 0x050A⟩
/-- R176: HIVE source 6, STRAY. -/
def SRC_HIVE_STRAY : Source := ⟨.hive, 6, false, false, 0x050A⟩
/-- R176: HIVE source 7, RING_LENGTH. -/
def SRC_HIVE_RING_LENGTH : Source := ⟨.hive, 7, false, false, 0x050A⟩
/-- R176: HIVE source 8, KEY_FAIL. -/
def SRC_HIVE_KEY_FAIL : Source := ⟨.hive, 8, false, false, 0x050A⟩
/-- R176: HIVE source 9, SQ_REFUSED. -/
def SRC_HIVE_SQ_REFUSED : Source := ⟨.hive, 9, false, false, 0x050A⟩
/-- R208: CELL source 0, FE_FAULT. -/
def SRC_CELL_FE_FAULT : Source := ⟨.cell, 0, true, false, 0x060A⟩
/-- R208: CELL source 1, COAST. -/
def SRC_CELL_COAST : Source := ⟨.cell, 1, true, false, 0x060A⟩
/-- R208: CELL source 2, LOST. -/
def SRC_CELL_LOST : Source := ⟨.cell, 2, true, false, 0x060A⟩
/-- R208: CELL source 3, STRING_LOST. -/
def SRC_CELL_STRING_LOST : Source := ⟨.cell, 3, true, true, 0x0620⟩
/-- R208: CELL source 4, BYP_UNCONF. -/
def SRC_CELL_BYP_UNCONF : Source := ⟨.cell, 4, true, true, 0x0623⟩
/-- R208: CELL source 5, BST_UV. -/
def SRC_CELL_BST_UV : Source := ⟨.cell, 5, true, false, 0x060A⟩
/-- R208: CELL source 6, VGATE. -/
def SRC_CELL_VGATE : Source := ⟨.cell, 6, false, false, 0x060A⟩
/-- R208: CELL source 7, IDENTITY. -/
def SRC_CELL_IDENTITY : Source := ⟨.cell, 7, false, false, 0x060A⟩
/-- R208: CELL source 8, INIT_MISMATCH. -/
def SRC_CELL_INIT_MISMATCH : Source := ⟨.cell, 8, false, false, 0x060A⟩
/-- R246: FORM source 0, MODE_FAIL. -/
def SRC_FORM_MODE_FAIL : Source := ⟨.form, 0, true, false, 0x080A⟩
/-- R246: FORM source 1, BKR_DISAGREE. -/
def SRC_FORM_BKR_DISAGREE : Source := ⟨.form, 1, true, true, 0x0825⟩
/-- R246: FORM source 2, MEAS_INVALID. -/
def SRC_FORM_MEAS_INVALID : Source := ⟨.form, 2, true, true, 0x0828⟩
/-- R246: FORM source 3, RESERVE_LOW. -/
def SRC_FORM_RESERVE_LOW : Source := ⟨.form, 3, true, true, 0x0827⟩
/-- R246: FORM source 4, FREQ_CLAMP. -/
def SRC_FORM_FREQ_CLAMP : Source := ⟨.form, 4, true, false, 0x080A⟩
/-- R246: FORM source 5, ISLANDED. -/
def SRC_FORM_ISLANDED : Source := ⟨.form, 5, false, false, 0x080A⟩
/-- R246: FORM source 6, CURTAIL. -/
def SRC_FORM_CURTAIL : Source := ⟨.form, 6, false, false, 0x080A⟩
/-- R246: FORM source 7, SWAP_REFUSED. -/
def SRC_FORM_SWAP_REFUSED : Source := ⟨.form, 7, false, false, 0x080A⟩
/-- R274: MOD source 0, SATURATION. -/
def SRC_MOD_SATURATION : Source := ⟨.mod, 0, true, false, 0x070A⟩
/-- R274: MOD source 1, RES_CLAMP. -/
def SRC_MOD_RES_CLAMP : Source := ⟨.mod, 1, true, false, 0x070A⟩
/-- R274: MOD source 2, LATE. -/
def SRC_MOD_LATE : Source := ⟨.mod, 2, true, false, 0x070A⟩
/-- R274: MOD source 3, DAB_SAT. -/
def SRC_MOD_DAB_SAT : Source := ⟨.mod, 3, false, false, 0x070A⟩
/-- R274: MOD source 4, TRUNCATED. -/
def SRC_MOD_TRUNCATED : Source := ⟨.mod, 4, false, false, 0x070A⟩
/-- R274: MOD source 5, SEL_HELD. -/
def SRC_MOD_SEL_HELD : Source := ⟨.mod, 5, false, false, 0x070A⟩
/-- R308: LAW source 0, FOLLOW. -/
def SRC_LAW_FOLLOW : Source := ⟨.law, 0, true, false, 0x090A⟩
/-- R308: LAW source 1, OVERCURRENT. -/
def SRC_LAW_OVERCURRENT : Source := ⟨.law, 1, true, false, 0x090A⟩
/-- R308: LAW source 2, RT_EXIT. -/
def SRC_LAW_RT_EXIT : Source := ⟨.law, 2, true, false, 0x090A⟩
/-- R308: LAW source 3, PRECHARGE_FAIL. -/
def SRC_LAW_PRECHARGE_FAIL : Source := ⟨.law, 3, true, false, 0x090A⟩
/-- R308: LAW source 4, DZ_MAX. -/
def SRC_LAW_DZ_MAX : Source := ⟨.law, 4, true, false, 0x090A⟩
/-- R308: LAW source 5, RIDE. -/
def SRC_LAW_RIDE : Source := ⟨.law, 5, false, false, 0x090A⟩
/-- R308: LAW source 6, LIMIT_WIN. -/
def SRC_LAW_LIMIT_WIN : Source := ⟨.law, 6, false, false, 0x090A⟩
/-- R308: LAW source 7, SWAP_REFUSED. -/
def SRC_LAW_SWAP_REFUSED : Source := ⟨.law, 7, false, false, 0x090A⟩
/-- R341: OUT source 0, BUS_FAIL. -/
def SRC_OUT_BUS_FAIL : Source := ⟨.out, 0, true, false, 0x0A0A⟩
/-- R341: OUT source 1, ALLOC_STUCK. -/
def SRC_OUT_ALLOC_STUCK : Source := ⟨.out, 1, true, true, 0x0A25⟩
/-- R341: OUT source 2, BUS_OVERVOLT. -/
def SRC_OUT_BUS_OVERVOLT : Source := ⟨.out, 2, true, true, 0x0A26⟩
/-- R341: OUT source 3, OPEN_CURRENT. -/
def SRC_OUT_OPEN_CURRENT : Source := ⟨.out, 3, true, true, 0x0A27⟩
/-- R341: OUT source 4, CELLS_LOW. -/
def SRC_OUT_CELLS_LOW : Source := ⟨.out, 4, true, false, 0x0A0A⟩
/-- R341: OUT source 5, ALLOC_ABORT. -/
def SRC_OUT_ALLOC_ABORT : Source := ⟨.out, 5, false, false, 0x0A0A⟩
/-- R341: OUT source 6, DEFER. -/
def SRC_OUT_DEFER : Source := ⟨.out, 6, false, false, 0x0A0A⟩
/-- R341: OUT source 7, CAP_LIMIT. -/
def SRC_OUT_CAP_LIMIT : Source := ⟨.out, 7, false, false, 0x0A0A⟩
/-- R366: METR source 0, METER_INVALID. -/
def SRC_METR_METER_INVALID : Source := ⟨.metr, 0, true, true, 0x0B21⟩
/-- R366: METR source 1, CKPT_FAIL. -/
def SRC_METR_CKPT_FAIL : Source := ⟨.metr, 1, true, false, 0x0B0A⟩
/-- R366: METR source 2, RESTORED. -/
def SRC_METR_RESTORED : Source := ⟨.metr, 2, false, false, 0x0B0A⟩
/-- R370: COMB source 0, SIGN_FAIL. -/
def SRC_COMB_SIGN_FAIL : Source := ⟨.comb, 0, true, true, 0x1A29⟩
/-- R370: COMB source 1, LOG_FAIL. -/
def SRC_COMB_LOG_FAIL : Source := ⟨.comb, 1, true, false, 0x1A0A⟩
/-- R370: COMB source 2, SIGN_BACKLOG. -/
def SRC_COMB_SIGN_BACKLOG : Source := ⟨.comb, 2, false, true, 0x1A0A⟩
/-- R370: COMB source 3, COMB_FULL. -/
def SRC_COMB_COMB_FULL : Source := ⟨.comb, 3, false, false, 0x1A0A⟩
/-- R370: COMB source 4, SIGNED. -/
def SRC_COMB_SIGNED : Source := ⟨.comb, 4, false, false, 0x1A0A⟩
/-- R370: COMB source 5, CMD_DONE. -/
def SRC_COMB_CMD_DONE : Source := ⟨.comb, 5, false, false, 0x1A0A⟩
/-- R392: CAL source 0, SAR_XCHK. -/
def SRC_CAL_SAR_XCHK : Source := ⟨.cal, 0, true, true, 0x0C20⟩
/-- R392: CAL source 1, SUM_MISMATCH. -/
def SRC_CAL_SUM_MISMATCH : Source := ⟨.cal, 1, true, true, 0x0C23⟩
/-- R392: CAL source 2, TRIM_LIMIT. -/
def SRC_CAL_TRIM_LIMIT : Source := ⟨.cal, 2, true, false, 0x0C0A⟩
/-- R392: CAL source 3, FE_CAL. -/
def SRC_CAL_FE_CAL : Source := ⟨.cal, 3, false, false, 0x0C0A⟩
/-- R392: CAL source 4, APPLIED. -/
def SRC_CAL_APPLIED : Source := ⟨.cal, 4, false, false, 0x0C0A⟩
/-- R419: ADC source 0, OPEN_WIRE. -/
def SRC_ADC_OPEN_WIRE : Source := ⟨.adc, 0, true, true, 0x0D0A⟩
/-- R419: ADC source 1, REF_FAULT. -/
def SRC_ADC_REF_FAULT : Source := ⟨.adc, 1, true, true, 0x0D20⟩
/-- R422: FIL source 0, STUCK. -/
def SRC_FIL_STUCK : Source := ⟨.fil, 0, true, true, 0x0E20⟩
/-- R422: FIL source 1, OVERRANGE. -/
def SRC_FIL_OVERRANGE : Source := ⟨.fil, 1, true, true, 0x0E21⟩
/-- R425: CAP source 0, OVERFLOW. -/
def SRC_CAP_OVERFLOW : Source := ⟨.cap, 0, true, false, 0x0F0A⟩
/-- R425: CAP source 1, TRIGGERED. -/
def SRC_CAP_TRIGGERED : Source := ⟨.cap, 1, false, false, 0x0F0A⟩
/-- R425: CAP source 2, DONE. -/
def SRC_CAP_DONE : Source := ⟨.cap, 2, false, false, 0x0F0A⟩
/-- R454: AXIS source 0, TEST_FAIL. -/
def SRC_AXIS_TEST_FAIL : Source := ⟨.axis, 0, true, false, 0x100A⟩
/-- R454: AXIS source 1, CHARGE_FAIL. -/
def SRC_AXIS_CHARGE_FAIL : Source := ⟨.axis, 1, true, false, 0x100A⟩
/-- R454: AXIS source 2, INHIBITED. -/
def SRC_AXIS_INHIBITED : Source := ⟨.axis, 2, false, false, 0x100A⟩
/-- R454: AXIS source 3, COMMIT_REFUSED. -/
def SRC_AXIS_COMMIT_REFUSED : Source := ⟨.axis, 3, false, false, 0x100A⟩
/-- R456: GDRV source 0, SHORT. -/
def SRC_GDRV_SHORT : Source := ⟨.gdrv, 0, true, true, 0x1121⟩
/-- R456: GDRV source 1, SHOOT_ATTEMPT. -/
def SRC_GDRV_SHOOT_ATTEMPT : Source := ⟨.gdrv, 1, true, false, 0x110A⟩
/-- R456: GDRV source 2, BST_UV. -/
def SRC_GDRV_BST_UV : Source := ⟨.gdrv, 2, true, false, 0x110A⟩
/-- R456: GDRV source 3, VBR_REV. -/
def SRC_GDRV_VBR_REV : Source := ⟨.gdrv, 3, true, true, 0x1122⟩
/-- R456: GDRV source 4, VDRV_UV. -/
def SRC_GDRV_VDRV_UV : Source := ⟨.gdrv, 4, true, true, 0x1123⟩
/-- R456: GDRV source 5, VBR_UV. -/
def SRC_GDRV_VBR_UV : Source := ⟨.gdrv, 5, false, false, 0x110A⟩
/-- R456: GDRV source 6, OSTEST_FAIL. -/
def SRC_GDRV_OSTEST_FAIL : Source := ⟨.gdrv, 6, false, false, 0x110A⟩
/-- R458: ENC source 0, REVERSE. -/
def SRC_ENC_REVERSE : Source := ⟨.enc, 0, true, true, 0x1221⟩
/-- R458: ENC source 1, SUPPLY_SHORT. -/
def SRC_ENC_SUPPLY_SHORT : Source := ⟨.enc, 1, true, true, 0x1220⟩
/-- R458: ENC source 2, BACKFEED. -/
def SRC_ENC_BACKFEED : Source := ⟨.enc, 2, true, true, 0x1220⟩
/-- R488: SAFE source 0, TRIP. -/
def SRC_SAFE_TRIP : Source := ⟨.safe, 0, true, true, 0x1326⟩
/-- R488: SAFE source 1, SI_DISC. -/
def SRC_SAFE_SI_DISC : Source := ⟨.safe, 1, true, true, 0x1321⟩
/-- R488: SAFE source 2, REVERSE. -/
def SRC_SAFE_REVERSE : Source := ⟨.safe, 2, true, true, 0x1325⟩
/-- R488: SAFE source 3, SOD_FAIL. -/
def SRC_SAFE_SOD_FAIL : Source := ⟨.safe, 3, true, false, 0x130A⟩
/-- R488: SAFE source 4, SDS_VIOL. -/
def SRC_SAFE_SDS_VIOL : Source := ⟨.safe, 4, true, false, 0x130A⟩
/-- R488: SAFE source 5, ENC_PLAUS. -/
def SRC_SAFE_ENC_PLAUS : Source := ⟨.safe, 5, true, true, 0x1323⟩
/-- R488: SAFE source 6, SGR_UNCONF. -/
def SRC_SAFE_SGR_UNCONF : Source := ⟨.safe, 6, true, false, 0x130A⟩
/-- R488: SAFE source 7, BKR_OPEN_FAIL. -/
def SRC_SAFE_BKR_OPEN_FAIL : Source := ⟨.safe, 7, true, false, 0x130A⟩
/-- R488: SAFE source 8, SI_DEMAND. -/
def SRC_SAFE_SI_DEMAND : Source := ⟨.safe, 8, false, false, 0x130A⟩
/-- R488: SAFE source 9, SGR. -/
def SRC_SAFE_SGR : Source := ⟨.safe, 9, false, false, 0x130A⟩
/-- R488: SAFE source 10, INTERLOCK. -/
def SRC_SAFE_INTERLOCK : Source := ⟨.safe, 10, false, false, 0x130A⟩
/-- R489: CTC source 0, SHORT. -/
def SRC_CTC_SHORT : Source := ⟨.ctc, 0, true, true, 0x1420⟩
/-- R489: CTC source 1, OPEN. -/
def SRC_CTC_OPEN : Source := ⟨.ctc, 1, true, true, 0x1421⟩
/-- R489: CTC source 2, REVERSE. -/
def SRC_CTC_REVERSE : Source := ⟨.ctc, 2, true, true, 0x1422⟩
/-- R489: CTC source 3, STUCK. -/
def SRC_CTC_STUCK : Source := ⟨.ctc, 3, true, true, 0x1423⟩
/-- R489: CTC source 4, WELDED. -/
def SRC_CTC_WELDED : Source := ⟨.ctc, 4, true, true, 0x1423⟩
/-- R509: MEM source 0, POISON. -/
def SRC_MEM_POISON : Source := ⟨.mem, 0, true, false, 0x150A⟩
/-- R509: MEM source 1, TILE_FAULT. -/
def SRC_MEM_TILE_FAULT : Source := ⟨.mem, 1, true, false, 0x150A⟩
/-- R509: MEM source 2, MRAM_FAIL. -/
def SRC_MEM_MRAM_FAIL : Source := ⟨.mem, 2, true, false, 0x150A⟩
/-- R509: MEM source 3, DP_COLLISION. -/
def SRC_MEM_DP_COLLISION : Source := ⟨.mem, 3, false, false, 0x150A⟩
/-- R509: MEM source 4, BIST_ABANDON. -/
def SRC_MEM_BIST_ABANDON : Source := ⟨.mem, 4, false, false, 0x150A⟩
/-- R509: MEM source 5, RO_WRITE. -/
def SRC_MEM_RO_WRITE : Source := ⟨.mem, 5, false, false, 0x150A⟩
/-- R529: PART source 0, PARTNER_LOST. -/
def SRC_PART_PARTNER_LOST : Source := ⟨.part, 0, true, true, 0x1621⟩
/-- R529: PART source 1, SWITCHOVER. -/
def SRC_PART_SWITCHOVER : Source := ⟨.part, 1, true, false, 0x160A⟩
/-- R529: PART source 2, DUAL_ACTIVE. -/
def SRC_PART_DUAL_ACTIVE : Source := ⟨.part, 2, true, false, 0x160A⟩
/-- R529: PART source 3, SNAP_BAD. -/
def SRC_PART_SNAP_BAD : Source := ⟨.part, 3, true, false, 0x160A⟩
/-- R529: PART source 4, NOT_READY. -/
def SRC_PART_NOT_READY : Source := ⟨.part, 4, false, true, 0x160A⟩
/-- R529: PART source 5, HANDOVER. -/
def SRC_PART_HANDOVER : Source := ⟨.part, 5, false, false, 0x160A⟩
/-- R529: PART source 6, FLAP. -/
def SRC_PART_FLAP : Source := ⟨.part, 6, false, false, 0x160A⟩
/-- R555: HOST source 0, FRAME_ERR. -/
def SRC_HOST_FRAME_ERR : Source := ⟨.host, 0, true, false, 0x170A⟩
/-- R555: HOST source 1, BUSY_DROP. -/
def SRC_HOST_BUSY_DROP : Source := ⟨.host, 1, false, false, 0x170A⟩
/-- R555: HOST source 2, FLASH_FAIL. -/
def SRC_HOST_FLASH_FAIL : Source := ⟨.host, 2, false, false, 0x170A⟩
/-- R555: ETH source 0, RX_ERR. -/
def SRC_ETH_RX_ERR : Source := ⟨.eth, 0, true, false, 0x180A⟩
/-- R555: ETH source 1, LINK_DOWN. -/
def SRC_ETH_LINK_DOWN : Source := ⟨.eth, 1, false, true, 0x180A⟩
/-- R555: SEAL source 0, SEAL_FAULT. -/
def SRC_SEAL_SEAL_FAULT : Source := ⟨.seal, 0, true, true, 0x1920⟩
/-- R555: SEAL source 1, DIVERGED. -/
def SRC_SEAL_DIVERGED : Source := ⟨.seal, 1, true, true, 0x1921⟩
/-- R555: SEAL source 2, WRONG_PASS. -/
def SRC_SEAL_WRONG_PASS : Source := ⟨.seal, 2, true, false, 0x190A⟩
/-- R555: SEAL source 3, LOG_FAIL. -/
def SRC_SEAL_LOG_FAIL : Source := ⟨.seal, 3, true, false, 0x190A⟩
/-- R555: SEAL source 4, LOG_OVERRUN. -/
def SRC_SEAL_LOG_OVERRUN : Source := ⟨.seal, 4, true, false, 0x190A⟩
/-- R555: SEAL source 5, OPENED. -/
def SRC_SEAL_OPENED : Source := ⟨.seal, 5, false, false, 0x190A⟩
/-- R555: SEAL source 6, CLOSED. -/
def SRC_SEAL_CLOSED : Source := ⟨.seal, 6, false, false, 0x190A⟩
/-- R555: SEAL source 7, LOCKOUT. -/
def SRC_SEAL_LOCKOUT : Source := ⟨.seal, 7, false, false, 0x190A⟩

/-- Every source of every block. -/
def allSources : List Source := [
  SRC_SYS_XTAL_LOSS, SRC_CLK_LOSS_OF_LOCK, SRC_CLK_NO_BAND, SRC_TIME_JUMP_REFUSED,
  SRC_TIME_MASTER_LOST, SRC_TIME_MASTER_CHANGE, SRC_TIME_OUTLIER, SRC_TIME_SLEW_CLAMP,
  SRC_TIME_STEPPED, SRC_TIME_TIMESCALE, SRC_HIVE_CRC_ERR, SRC_HIVE_CELL_TIMEOUT,
  SRC_HIVE_BREAK, SRC_HIVE_MBX_TIMEOUT, SRC_HIVE_BEAT_SKEW, SRC_HIVE_BLOCK_ECHO,
  SRC_HIVE_STRAY, SRC_HIVE_RING_LENGTH, SRC_HIVE_KEY_FAIL, SRC_HIVE_SQ_REFUSED,
  SRC_CELL_FE_FAULT, SRC_CELL_COAST, SRC_CELL_LOST, SRC_CELL_STRING_LOST,
  SRC_CELL_BYP_UNCONF, SRC_CELL_BST_UV, SRC_CELL_VGATE, SRC_CELL_IDENTITY,
  SRC_CELL_INIT_MISMATCH, SRC_FORM_MODE_FAIL, SRC_FORM_BKR_DISAGREE, SRC_FORM_MEAS_INVALID,
  SRC_FORM_RESERVE_LOW, SRC_FORM_FREQ_CLAMP, SRC_FORM_ISLANDED, SRC_FORM_CURTAIL,
  SRC_FORM_SWAP_REFUSED, SRC_MOD_SATURATION, SRC_MOD_RES_CLAMP, SRC_MOD_LATE,
  SRC_MOD_DAB_SAT, SRC_MOD_TRUNCATED, SRC_MOD_SEL_HELD, SRC_LAW_FOLLOW,
  SRC_LAW_OVERCURRENT, SRC_LAW_RT_EXIT, SRC_LAW_PRECHARGE_FAIL, SRC_LAW_DZ_MAX,
  SRC_LAW_RIDE, SRC_LAW_LIMIT_WIN, SRC_LAW_SWAP_REFUSED, SRC_OUT_BUS_FAIL,
  SRC_OUT_ALLOC_STUCK, SRC_OUT_BUS_OVERVOLT, SRC_OUT_OPEN_CURRENT, SRC_OUT_CELLS_LOW,
  SRC_OUT_ALLOC_ABORT, SRC_OUT_DEFER, SRC_OUT_CAP_LIMIT, SRC_METR_METER_INVALID,
  SRC_METR_CKPT_FAIL, SRC_METR_RESTORED, SRC_COMB_SIGN_FAIL, SRC_COMB_LOG_FAIL,
  SRC_COMB_SIGN_BACKLOG, SRC_COMB_COMB_FULL, SRC_COMB_SIGNED, SRC_COMB_CMD_DONE,
  SRC_CAL_SAR_XCHK, SRC_CAL_SUM_MISMATCH, SRC_CAL_TRIM_LIMIT, SRC_CAL_FE_CAL,
  SRC_CAL_APPLIED, SRC_ADC_OPEN_WIRE, SRC_ADC_REF_FAULT, SRC_FIL_STUCK,
  SRC_FIL_OVERRANGE, SRC_CAP_OVERFLOW, SRC_CAP_TRIGGERED, SRC_CAP_DONE,
  SRC_AXIS_TEST_FAIL, SRC_AXIS_CHARGE_FAIL, SRC_AXIS_INHIBITED, SRC_AXIS_COMMIT_REFUSED,
  SRC_GDRV_SHORT, SRC_GDRV_SHOOT_ATTEMPT, SRC_GDRV_BST_UV, SRC_GDRV_VBR_REV,
  SRC_GDRV_VDRV_UV, SRC_GDRV_VBR_UV, SRC_GDRV_OSTEST_FAIL, SRC_ENC_REVERSE,
  SRC_ENC_SUPPLY_SHORT, SRC_ENC_BACKFEED, SRC_SAFE_TRIP, SRC_SAFE_SI_DISC,
  SRC_SAFE_REVERSE, SRC_SAFE_SOD_FAIL, SRC_SAFE_SDS_VIOL, SRC_SAFE_ENC_PLAUS,
  SRC_SAFE_SGR_UNCONF, SRC_SAFE_BKR_OPEN_FAIL, SRC_SAFE_SI_DEMAND, SRC_SAFE_SGR,
  SRC_SAFE_INTERLOCK, SRC_CTC_SHORT, SRC_CTC_OPEN, SRC_CTC_REVERSE,
  SRC_CTC_STUCK, SRC_CTC_WELDED, SRC_MEM_POISON, SRC_MEM_TILE_FAULT,
  SRC_MEM_MRAM_FAIL, SRC_MEM_DP_COLLISION, SRC_MEM_BIST_ABANDON, SRC_MEM_RO_WRITE,
  SRC_PART_PARTNER_LOST, SRC_PART_SWITCHOVER, SRC_PART_DUAL_ACTIVE, SRC_PART_SNAP_BAD,
  SRC_PART_NOT_READY, SRC_PART_HANDOVER, SRC_PART_FLAP, SRC_HOST_FRAME_ERR,
  SRC_HOST_BUSY_DROP, SRC_HOST_FLASH_FAIL, SRC_ETH_RX_ERR, SRC_ETH_LINK_DOWN,
  SRC_SEAL_SEAL_FAULT, SRC_SEAL_DIVERGED, SRC_SEAL_WRONG_PASS, SRC_SEAL_LOG_FAIL,
  SRC_SEAL_LOG_OVERRUN, SRC_SEAL_OPENED, SRC_SEAL_CLOSED, SRC_SEAL_LOCKOUT
]

end Sys2Proof.Machine
end

