-- ==== Sys2Proof/Machine/Sparse.lean ====
section
/-! DEFINITION. Sparse maps by address in one canonical form: addresses strictly rising, and no entry equal to what an unlisted address reads as. The registers and the host memory space are held in this form. -/

namespace Sys2Proof.Machine

/-- The entry at an address, if one is listed. -/
def sparseFind {α : Type} (a : Nat) : List (Nat × α) → Option α
  | [] => none
  | (b, x) :: t => if a = b then some x else if a < b then none else sparseFind a t

/-- Store `v` at address `a`, where an unlisted address reads as `d`. -/
def sparsePut {α : Type} [DecidableEq α] (a : Nat) (v d : α) : List (Nat × α) → List (Nat × α)
  | [] => if v = d then [] else [(a, v)]
  | (b, x) :: t =>
    if a < b then (if v = d then (b, x) :: t else (a, v) :: (b, x) :: t)
    else if a = b then (if v = d then t else (a, v) :: t)
    else (b, x) :: sparsePut a v d t

/-- The canonical form: every address lies above `lo`'s predecessor in the list, addresses rise, and no entry equals its default. -/
def sparseWf {α : Type} [DecidableEq α] (dflt : Nat → α) : List (Nat × α) → Bool
  | [] => true
  | [(a, v)] => decide (v ≠ dflt a)
  | (a, v) :: (b, x) :: t => decide (v ≠ dflt a) && decide (a < b) && sparseWf dflt ((b, x) :: t)

end Sys2Proof.Machine
end

