-- ==== Sys2Proof/Machine/State.lean ====
section
/-! DEFINITION. The state of the block: plain data. Registers are held by address; what the spec keeps outside the registers has a field of its own. -/

namespace Sys2Proof.Machine

/-- The captures and held low words of the 64-bit pairs (R3, R114). -/
structure PairState where
  /-- high words captured by a read of the low word, by the high word's address -/
  captured : List (Nat × Word)
  /-- low words last written, by the low word's address -/
  lowWritten : List (Nat × Word)
  deriving DecidableEq, Repr

/-- The host port (R530 to R536): the write frame in execution and the last response. -/
structure PortState where
  /-- words of the frame still to be executed: index, address, data -/
  todo : List (Nat × Nat × Word)
  /-- the block whose configuration check the frame waits for, with the word's index -/
  waiting : Option (Block × Nat)
  /-- outcomes gathered so far, as STATUS values, oldest first, with the index of each word -/
  outcomes : List (Nat × Nat)
  /-- STATUS of the last response -/
  respStatus : Nat
  /-- data bytes of the last response -/
  respData : List Byte
  deriving DecidableEq, Repr

/-- Pins and balls whose level the block reads (R35 to R41, R57). -/
structure PinState where
  testEn : Bool
  /-- the PAIR_ID ball -/
  pairId : Bool
  /-- rails above their thresholds -/
  rails : List Rail
  /-- levels that field inputs took while V5A was low, by ball: they are read when V5A is back (R38) -/
  held : List (FieldInput × Bool)
  deriving DecidableEq, Repr

/-- The always-on domain and the power-state machine outside the registers (R57 to R61, R107, R108). -/
structure PowerState where
  /-- the always-on domain has left power-on reset -/
  aonUp : Bool
  /-- the control die has left reset -/
  coreUp : Bool
  /-- DORMANT holds (SYS_PWR_STATE cannot be read then) -/
  dormant : Bool
  /-- FAULT_N is forced low until the held state is restored (R39) -/
  faultForced : Bool
  /-- the MRAM copy of SYS_FAULT_HOLD (R108) -/
  holdCopy : Nat
  /-- the control die's heartbeat on the die-to-die link is present (R31) -/
  heartbeat : Bool
  /-- RTC in units of 2^-32 ns of TAI; its 32.768 kHz count is what reads of it show (R115) -/
  rtc : Nat
  /-- ENTER_SAFE invoked the SGR in progress (R57, R465) -/
  enterSafe : Bool
  /-- an SGR has completed before READY; the device enters SAFE when it reaches READY (R57, R465) -/
  safeDue : Bool
  /-- LOAD waits for PLL_A: what follows its lock (1 the image is in force, 2 the other slot is loaded), the slot, and whether the other slot has been used (R66, R79) -/
  loadWait : Option (Nat × Nat × Bool)
  /-- the flash port is released (R60) -/
  flashReleased : Bool
  /-- MRAM tiles whose writes fail their read-back (R501); no command changes them -/
  mramBad : List Nat
  deriving DecidableEq, Repr

/-- PLL acquisition (R64 to R67): per PLL, acquiring or not, on the boot band or not, and the entry being tried. -/
structure PllState where
  acquiring : Bool
  bootBand : Bool
  trying : Option Nat
  deriving DecidableEq, Repr

/-- A PTP message sent: its type, its port (ETH1), sequence number, two time stamps, and the content of an Announce (R122). -/
structure PtpSent where
  kind : Nat
  port : Bool
  seq : Nat
  t1 : Nat
  t2 : Nat
  body : List Nat
  deriving DecidableEq, Repr

/-- The TIME counter and servo (R113 to R125). -/
structure TimeState where
  /-- TAI in units of 2^-32 ns -/
  tai : Nat
  /-- pending phase correction in units of 2^-32 ns (R116) -/
  pending : Int
  /-- the last tick was clamped (R116) -/
  clamped : Bool
  /-- sign and length of the run of samples above JUMP_THR (R117) -/
  jumpNeg : Bool
  jumpRun : Nat
  /-- consecutive samples inside and outside LOCK (R121) -/
  inRun : Nat
  outRun : Nat
  /-- a two-step Sync waiting for its Follow_Up: source, sequence, receive time, correction -/
  sync : Option (Nat × Nat × Int × Int)
  /-- the last complete Sync sample's t2 − t1, for the path delay (R122); none after a step (R119) -/
  lastT21 : Option Int
  /-- a Delay_Req or Pdelay_Req in flight: sequence and transmit time -/
  req : Option (Nat × Int)
  reqSeq : Nat
  /-- the selected master, best announced data set -/
  master : Option PtpAnnounce
  /-- the last announcement heard on the other MAC under BACKUP, with the time of its receipt, TAI ns (R123) -/
  backup : Option (PtpAnnounce × Nat)
  /-- the last offset measured in REFUSED, for frequency tracking (R117) -/
  lastOfs : Option Int
  /-- counts steps, so that a sample that straddles one is known (R119) -/
  steps : Nat
  /-- a host step has taken effect on this tick (R119) -/
  hostStep : Bool
  /-- the PTP messages that the last command sent -/
  sent : List PtpSent
  /-- sequence numbers of own Sync and Announce -/
  syncSeq : Nat
  annSeq : Nat
  deriving DecidableEq, Repr

/-- The memory's test and port-A bookkeeping (R493, R497). -/
structure MemState where
  /-- bytes of the last word that port A of BANK_DP wrote, for a collision in the same core cycle (R493) -/
  portA : List (Nat × Byte)
  /-- the bank the background test is in (R497) -/
  bistBank : Nat
  deriving DecidableEq, Repr

/-- One axis outside its registers (R427 to R434, R441, R468). -/
structure AxisSt where
  /-- consecutive periods with the high side on throughout, phases U, V, W (R433) -/
  hold : List Nat
  /-- phases whose next period begins with a forced refresh (R434) -/
  force : List Nat
  /-- CMP codes in effect in the last period, after the override -/
  last : List Nat
  /-- the test was started by TEST, not by RUN (R442) -/
  testOnly : Bool
  /-- the inhibit test of CHARGE runs (R477) -/
  inhTest : Bool
  /-- 100 µs checks made since SDS began (R468) -/
  sdsTicks : Nat
  deriving DecidableEq, Repr

/-- One encoder outside its registers (R445 to R449, R471). -/
structure EncSt where
  a : Bool
  b : Bool
  /-- ticks of 150 MHz since the last measured edge -/
  ticks : Nat
  /-- measured edges seen since enable, standstill or reversal: 0, 1, or 2 for more -/
  edges : Nat
  /-- counts since the last Hall edge, and whether one has been seen -/
  hallCounts : Int
  hallSeen : Bool
  deriving DecidableEq, Repr

/-- The drives (R426). -/
structure DriveState where
  axes : List AxisSt
  encs : List EncSt
  /-- trip inputs inactive for TRIP_QUIET (R440) -/
  quiet : List Nat
  /-- compare pins driven high (R449) -/
  cmpHigh : List Nat
  /-- sensor supplies whose short or back-feed condition is present (R55) -/
  ssupShort : List Nat
  ssupBack : List Nat
  /-- encoder lines (6 n + line: A, B, I, U, V, W), trip and safety inputs below −3 V (R55) -/
  encRev : List Nat
  siRev : List Nat
  /-- axes that failed their test in Primer step 2: they cannot be enabled (R81) -/
  barred : List Nat
  deriving DecidableEq, Repr

/-- The coil outputs and feedback outside their registers (R53, R55, R473 to R476). -/
structure CtcState where
  /-- outputs whose transit check runs (R475) -/
  transit : List Nat
  /-- outputs forced off by SGR, and by the SOD of a bus, as (output, bus) -/
  sgrForced : List Nat
  sodForced : List (Nat × Nat)
  /-- outputs whose short, open-load and reverse conditions are present -/
  short : List Nat
  openLoad : List Nat
  reverse : List Nat
  /-- feedback inputs below −3 V -/
  fbRev : List Nat
  /-- outputs in the 100 ms pulse of LOSS = 2 (R476) -/
  lossPulse : List Nat
  deriving DecidableEq, Repr

/-- One mailbox transaction (R141, R152, R155): issued, or waiting for a tag. -/
structure MbxTx where
  tag : Nat
  gen : Nat
  ring : Nat
  pos : Nat
  op : Nat
  addr : Nat
  len : Nat
  data : List Byte
  user : List Byte
  /-- who submitted it: 0 the host, 1 CELL, 2 CAL -/
  owner : Nat
  /-- request frames sent -/
  tries : Nat
  /-- waits in a ring end's transmit queue -/
  queued : Bool
  /-- cycle in which the last request frame left, and the instant, TAI ns -/
  lastCyc : Nat
  sentAt : Nat
  /-- not launched before this instant, TAI ns -/
  notBefore : Nat
  deriving DecidableEq, Repr

/-- One ring outside its registers (R148 to R170). -/
structure RingSt where
  /-- hops declared broken, oldest first -/
  breaks : List Nat
  /-- broken hops whose fragment service has taken effect -/
  served : List Nat
  /-- broken hops reported healed -/
  healed : List Nat
  /-- TAI ns of the last break declared -/
  lastBreak : Nat
  /-- re-keying: 0 none asked, 1 asked, 2 agreed, 3 disagreed -/
  rekey : Nat
  /-- HIVE_RCTL.RESTORE was accepted -/
  restore : Bool
  /-- NAKs of this cycle in order of arrival: position, END -/
  naks : List (Nat × Bool)
  /-- NAKs that came in stretched service: counted, not answered (R168); no register shows the count -/
  nakCnt : Nat
  /-- resends made this cycle by end A and end B, and the instant from which the end is free for the next, ns after the sampling instant (R149, R150) -/
  resA : Nat × Nat
  resB : Nat × Nat
  /-- recalls made this cycle by end A and end B -/
  recallA : Nat
  recallB : Nat
  /-- ends that wait for the other end's BLOCK -/
  echo : List Bool
  /-- each KEY echo of the pass, per end: its target, and its round trip less TURN in 1/16 ns (R162) -/
  keyA : List (Nat × Int)
  keyB : List (Nat × Int)
  /-- ends whose pass is over: their KEY has arrived at the far end (R162) -/
  keyEnd : List Bool
  /-- positions with a delivery in this cycle -/
  delivered : List Nat
  /-- positions whose report came after step 4 in stretched service, for the next step 4 (R168) -/
  late : List Nat
  /-- positions whose report the step 4 of this cycle took -/
  taken : List Nat
  /-- the cycle of the last valid report of each position that sent one (R153) -/
  last : List (Nat × Nat)
  /-- deliveries and misses of this cycle have been counted (R151) -/
  judged : Bool
  deriving DecidableEq, Repr

/-- A ring without traffic. -/
def RingSt.idle : RingSt where
  breaks := []
  served := []
  healed := []
  lastBreak := 0
  rekey := 0
  restore := false
  naks := []
  nakCnt := 0
  resA := (0, 0)
  resB := (0, 0)
  recallA := 0
  recallB := 0
  echo := []
  keyA := []
  keyB := []
  keyEnd := []
  delivered := []
  late := []
  taken := []
  last := []
  judged := false

/-- HIVE outside its registers. -/
structure HiveState where
  rings : List RingSt
  tx : List MbxTx
  /-- internal requests that wait for a tag -/
  waiting : List MbxTx
  /-- GEN of each tag -/
  gens : List Nat
  /-- submission entries taken ahead of HEAD, by pointer value -/
  taken : List Nat
  /-- slots whose waggle frame of this cycle stands in the store -/
  frames : List Nat
  /-- frames put on the lines by the last command that sent any: ring, end B, bytes -/
  sent : List (Nat × Bool × List Byte)
  /-- MBX_REQ frames sent in this cycle (R156) -/
  started : Nat
  /-- the report-repeat window of this cycle is over -/
  windowOver : Bool
  /-- the resend window of this cycle has opened (R149) -/
  resends : Bool
  /-- the miss runs of each ring as they stood when this cycle opened, which a step of time returns to (R560) -/
  missRuns : List (Word × Word)
  deriving DecidableEq, Repr

/-- One cell front end, under its contract (R187 to R203). -/
structure FeSt where
  /-- STATE, coded as in the report (R140) -/
  st : Nat
  coast : Nat
  blocked : Bool
  dabBlocked : Bool
  /-- the bypass is closed -/
  byp : Bool
  /-- levels of the legs' high sides -/
  la : Bool
  lb : Bool
  /-- the set last applied -/
  last : List Byte
  /-- DAB gating was enabled in the preceding interval -/
  prevDab : Bool
  sel : Nat
  /-- fault flags -/
  flt : Nat
  /-- the waggle frame received for the cycle, and when its last byte arrived, 1/16 ns after the sampling instant (R195) -/
  frame : Option (List Byte × Nat)
  /-- for the next apply point: 0 nothing, 1 HOLD, 2 BYPASS -/
  pend : Nat
  /-- a SYNC sent to it: beats still to come since its last byte, the cycle it names, and whether its response has shown that it was executed (R181, R193) -/
  sync : Option (Nat × Nat × Bool)
  /-- its own count of cycles, once a SYNC has set it (R193) -/
  cyc : Option Nat
  /-- its last apply point, TAI ns -/
  applied : Nat
  /-- no miss counts before a report of this cycle or later (R560) -/
  wait : Option Nat
  /-- FE_TIMING, FE_TIMING2 and FE_PULSE -/
  timing : Nat
  timing2 : Nat
  pulse : Nat
  deriving DecidableEq, Repr

/-- A front end that has received no ASSIGN: in ENUM, its bypass closed (R164, R197). -/
def FeSt.idle : FeSt where
  st := 1
  coast := 0
  blocked := false
  dabBlocked := false
  byp := true
  la := false
  lb := false
  last := []
  prevDab := false
  sel := 0
  flt := 0
  frame := none
  pend := 0
  sync := none
  cyc := none
  applied := 0
  wait := none
  timing := 0
  timing2 := 0
  pulse := 0

/-- CELL outside its registers. -/
structure CellState where
  /-- held host commands: slot and code (R185) -/
  cmds : List (Nat × Nat)
  /-- consecutive delivered reports with VGATE within limits, per slot (R180) -/
  vgate : List Nat
  /-- slots under host BYPASS until a report shows BYPASSED (R185, R249) -/
  byp : List Nat
  /-- slots whose closing set is to be formed at the next step 5 (R185, R266) -/
  closing : List Nat
  /-- slots that were commanded FE BYPASS (R183) -/
  asked : List Nat
  /-- slots that left service without a confirmed bypass, with the time, TAI ns (R183) -/
  left : List (Nat × Nat)
  /-- slots whose BYP_UNCONF condition is present (R183) -/
  unconf : List Nat
  /-- slots whose FE ARM has been sent and not answered by READY -/
  armed : List Nat
  /-- slots to which FE CLEAR was sent (R180, R185) -/
  cleared : List Nat
  /-- slots in ENUM whose FE SYNC has been answered (R180) -/
  synced : List Nat
  /-- FE_CAL words of each slot, FS and OFS of the six channels (R376) -/
  feCal : List (List Nat)
  deriving DecidableEq, Repr

/-- CELL with nothing in progress. -/
def CellState.idle : CellState where
  cmds := []
  vgate := List.replicate 192 0
  byp := []
  closing := []
  asked := []
  left := []
  unconf := []
  armed := []
  cleared := []
  synced := []
  feCal := List.replicate 192 []

/-- One output of the measurement path: stamp in TAI ns, layer-1 value in 2^-31 of full scale, valid (R126, R405). -/
structure Sample where
  stamp : Int
  x : Int
  ok : Bool
  deriving DecidableEq, Repr

/-- One bitstream channel outside its registers (R404, R405). -/
structure DsmSt where
  /-- outputs kept for interpolation, oldest first -/
  fine : List Sample
  skim : List Sample
  /-- consecutive skim outputs at or above OVR_LIM -/
  above : Nat
  /-- within the settling time of the fine and of the skim output -/
  settleFine : Bool
  settleSkim : Bool
  deriving DecidableEq, Repr

/-- One SAR converter outside its registers (R395, R396). -/
structure SarSt where
  /-- conversions made of the entry in progress, the sum of their layer-1 values in 2^-39 LSB, whether one was invalid, and the first start -/
  conv : Nat
  sum : Int
  bad : Bool
  t0 : Nat
  deriving DecidableEq, Repr

/-- One AIN channel outside its registers (R396, R397). -/
structure AinSt where
  fine : List Sample
  /-- consecutive conversions at or above, and below, 98 % of full scale -/
  high : Nat
  low : Nat
  deriving DecidableEq, Repr

/-- ADC, FIL and the cross-check outside their registers. -/
structure MeasState where
  dsm : List DsmSt
  sar : List SarSt
  ain : List AinSt
  /-- each converter's AIN23 result since the last comparison, in 2^-39 LSB (R382) -/
  x23 : List (Option Int)
  /-- consecutive comparisons outside and inside XCHK_LIM -/
  xbad : Nat
  xgood : Nat
  deriving DecidableEq, Repr

/-- One pair of the legal path (R343): its instant, its energy in 2^-32 units of 0.1 mWh (positive import), and validity. -/
structure MeterPair where
  stamp : Int
  e : Int
  ok : Bool
  deriving DecidableEq, Repr

/-- METR for one bus outside its registers (R343 to R346). -/
structure MeterSt where
  /-- stamp of the last voltage value paired -/
  mark : Int
  /-- pairs not yet accounted, oldest first -/
  pairs : List MeterPair
  /-- remainders of import and export, 2^-32 units -/
  remI : Nat
  remE : Nat
  /-- the increments of the last window, whole units, and whether it was invalid -/
  incI : Nat
  incE : Nat
  bad : Bool
  deriving DecidableEq, Repr

/-- A checkpoint as MRAM holds it (R359, R502). -/
structure Ckpt where
  /-- TAI in ns and TIME_SYNC_STAT.STATE of its boundary -/
  tai : Nat
  sync : Nat
  /-- the registers of the slot table and of the totalisers that differ from their reset values -/
  words : List (Nat × Word)
  slots : List CombSlot
  /-- remainders of each bus -/
  rem : List (Nat × Nat)
  next : Nat
  prev : List Byte
  deriving DecidableEq, Repr

/-- A session command as submitted (R352): its words, and whether it missed the cut point of the next boundary (R24). -/
structure CombCmd where
  op : Nat
  bus : Nat
  cid : Nat
  sid : Nat
  hdl : Nat
  late : Bool
  deriving DecidableEq, Repr

/-- COMB outside its registers. -/
structure CombState where
  slots : List CombSlot
  /-- the command to judge -/
  cmd : Option CombCmd
  /-- slots freed since the enable -/
  count : Nat
  /-- the signing queue, slots in REC_SEQ order (R356) -/
  queue : List Nat
  /-- first 8 bytes of the hash of the last record -/
  prev : List Byte
  /-- steps of TIME seen at the last boundary -/
  steps : Nat
  /-- the first enable since the reset has been made -/
  restored : Bool
  /-- interrupted slots whose record waits for the first boundary, each with the totalisers of its bus at its stop -/
  gaps : List (Nat × Nat × Nat)
  /-- the checkpoint restored from, for those records -/
  gapTai : Nat
  gapSync : Nat
  /-- the handle being fetched -/
  fetch : Option Nat
  /-- a slot has changed state since the last boundary -/
  changed : Bool
  ckpt : Option Ckpt
  deriving DecidableEq, Repr

/-- The members of a bus's equations in one cycle (R378): the bus is in SERVING without a slot in move step 1 to 5; slot, layer-1 IDAB and VOUT, and report usable. -/
structure CalBus where
  b : Nat
  ok : Bool
  members : List (Nat × Int × Int × Bool)
  deriving DecidableEq, Repr

/-- What the estimator holds of one cycle until the references have arrived (R378, R380): sampling instant, and slot, string, layer-1 IAC and report usable of each member of the IAC equations. -/
structure CalSnap where
  stamp : Nat
  iac : List (Nat × Nat × Int × Bool)
  bus : List CalBus
  deriving DecidableEq, Repr

/-- The estimates (G, O) of one slot, channels IAC, IDAB, VOUT, in 2^-40 ppm (R379), those that the next boundary acts on (R24, R380), the lowest and highest accepted references of IAC and VOUT, and the members of the last counted IDAB subset. -/
structure CalSlot where
  est : List (Int × Int)
  tgt : List (Int × Int)
  spanI : Option (Int × Int)
  spanV : Option (Int × Int)
  last : List Nat
  deriving DecidableEq, Repr

/-- CAL outside its registers (R375 to R381). -/
structure CalState where
  slots : List CalSlot
  snaps : List CalSnap
  /-- residuals of the last 4,096 accepted IDAB equations of each bus, newest first, 2^-40 -/
  res : List (List Int)
  /-- I_b of the cycle before, 2^-62 mA -/
  lastI : List (Option Int)
  /-- an estimate, and the user values, missed the cut point of the next boundary -/
  late : Bool
  userLate : Bool
  deriving DecidableEq, Repr

/-- CAP outside its registers (R408 to R414). -/
structure CapState where
  /-- tick of record 0, and ticks taken since ARM -/
  first : Nat
  ticks : Nat
  /-- ticks whose records are not assembled: tick, and whether a FORCE or a severe source has fired by then -/
  pend : List (Nat × Bool)
  /-- a FORCE, or with TRIG = 2 a rise of HOST_SEV_SUM, waits for its tick -/
  force : Bool
  /-- records stored since ARM, and records sent -/
  stored : Nat
  sent : Nat
  /-- the level trigger is armed; the value of the last record -/
  armed : Bool
  prev : Int
  /-- the trigger's record, the pre-trigger records held, and what TIME handed over at the trigger -/
  trig : Option Nat
  pre : Nat
  sync : Nat
  ofs : Nat
  /-- END_CAUSE of an end that waits for the ticks already taken; 0 none -/
  ending : Nat
  /-- next packet number; START and END packets still to leave; the last frame sent, without its FCS -/
  seq : Nat
  startDue : Bool
  endDue : Bool
  packet : List Byte
  deriving DecidableEq, Repr

/-- ETH outside its registers (R413, R539). -/
structure EthState where
  /-- start and end of the pause in force, TAI ns, and the time held so far, ns -/
  pause : Option (Nat × Nat)
  held : Nat
  /-- the MDIO transaction in progress or last made: OP, PHY, REG, DATA -/
  mdio : Nat × Nat × Nat × Nat
  deriving DecidableEq, Repr

/-- PART outside its registers (R510 to R525). -/
structure PartState where
  /-- number of the next heartbeat, and the last one sent -/
  seq : Nat
  beat : List Byte
  /-- number of the next snapshot, the comb slots' states at the last one, a record released since, and the last one sent -/
  snapNo : Nat
  combs : List Nat
  record : Option (Nat × List Byte)
  sent : Option Snapshot
  /-- the bytes of the outgoing snapshot in BANK_DP (R517) -/
  image : List Byte
  /-- the last valid snapshot received -/
  snap : Option Snapshot
  /-- the partner's energised mask -/
  energised : Nat
  /-- a takeover is due: its cause (R527), and the TAI in ns of the event -/
  take : Option (Nat × Nat)
  /-- a handover is due at the next boundary: its cause, and whether it missed the cut point -/
  swap : Option (Nat × Bool)
  /-- this device asks for a hand-back (R523) -/
  want : Bool
  /-- TAI in ns of the last hand-back -/
  back : Option Nat
  /-- the role came by handover and the snapshot of its boundary is awaited (R522) -/
  adopt : Bool
  /-- cycle of the last takeover or handover (R519) -/
  took : Option Nat
  deriving DecidableEq, Repr

/-- SEAL outside its registers (R540 to R546). -/
structure SealState where
  /-- the last scan: whether it was a fault scan, and its sample -/
  last : Option (Bool × Nat)
  /-- first 16 bytes of the hash of DEVICE_ID and the passcode; empty while none is set -/
  hash : List Byte
  /-- a renewal of the digest is due (R543) -/
  due : Bool
  deriving DecidableEq, Repr


/-- The cycle (R16 to R29, R560). -/
structure CycleState where
  /-- the cycle's remaining steps do not run: a step of network time ended it (R560) -/
  suspended : Bool
  /-- the cells have sampled in this cycle (R20) -/
  sampled : Bool
  /-- step 4 and step 5 of the cycle have run (R21) -/
  computed : Bool
  modulated : Bool
  /-- blocks with a configuration check in progress (R84) -/
  checking : List Block
  /-- a START_MODE request waits for the next boundary (R83) -/
  startReq : Bool
  /-- a step of network time has left the front ends behind: CELL sends FE SYNC from the next boundary (R560) -/
  resync : Bool
  /-- a pending bank swap of FORM and of LAW missed the cut point of the next boundary (R24) -/
  formLate : Bool
  lawLate : Bool
  /-- slots whose set of this cycle is not complete when the step 5 window ends, which nothing but timing decides: a free value, drawn as the cycle opens (R248; DESIGN CHOICE, log entry 75) -/
  slow : List Nat
  deriving DecidableEq, Repr

/-- The whole state of the block. -/
structure State where
  /-- registers that differ from their reset value, by address -/
  regs : List (Nat × Word)
  /-- bytes of the host memory space that differ from an unwritten byte, by address (R490) -/
  mem : List (Nat × Byte)
  /-- poisoned tiles of the host memory space, by byte address / 32 (R494) -/
  poison : List Nat
  pairs : PairState
  port : PortState
  pins : PinState
  pwr : PowerState
  pllA : PllState
  pllB : PllState
  time : TimeState
  memst : MemState
  drive : DriveState
  ctc : CtcState
  hive : HiveState
  cell : CellState
  out : OutState
  safe : SafeState
  sealed : SealState
  part : PartState
  eth : EthState
  cap : CapState
  cal : CalState
  comb : CombState
  meter : List MeterSt
  mod : ModState
  law : LawState
  form : FormState
  meas : MeasState
  /-- the front end of each slot -/
  fes : List FeSt
  /-- the configuration flash on the board, as last presented (R71, R537) -/
  flash : Option FlashImage
  cyc : CycleState
  /-- the model's own counter of free values drawn (log entry 3) -/
  fresh : Nat
  /-- commands waiting, first in, first out -/
  pending : List Instr
  deriving DecidableEq, Repr

/-- The reasons a step stops with a fault. No command of this block does: every effect the spec gives is modelled. -/
inductive Fault where
  /-- raised by nothing; safe -/
  | none
  deriving DecidableEq, Repr

/-- The reasons a command is refused by the model. -/
inductive Refusal where
  /-- raised by the dispatch for a command without a meaning in the model, by its mnemonic; safe -/
  | notModelled (mnemonic : String)
  deriving DecidableEq, Repr

/-- The state right after power-on reset: every register at its reset value, memory with nothing listed, the always-on domain not yet out of its reset. -/
def State.reset : State where
  regs := []
  mem := []
  poison := []
  pairs := ⟨[], []⟩
  port := ⟨[], none, [], 0, []⟩
  pins := ⟨false, false, [], []⟩
  pwr := ⟨false, false, false, false, 0, false, 0, false, false, none, false, []⟩
  pllA := ⟨false, false, none⟩
  pllB := ⟨false, false, none⟩
  time := ⟨0, 0, false, false, 0, 0, 0, none, none, none, 0, none, none, none, 0, false, [], 0, 0⟩
  memst := ⟨[], 0⟩
  drive := ⟨List.replicate 4 ⟨[0, 0, 0], [], [0, 0, 0], false, false, 0⟩, List.replicate 4 ⟨false, false, 0, 0, 0, false⟩, [], [], [], [], [], [], []⟩
  ctc := ⟨[], [], [], [], [], [], [], []⟩
  hive := ⟨List.replicate 12 RingSt.idle, [], [], List.replicate 64 0, [], [], [], 0, false, false, []⟩
  fes := List.replicate 192 FeSt.idle
  out := ⟨List.replicate 12 ⟨0, 0, 0, 0, false, false, 0, 0, 0, 0, 0⟩, List.replicate 192 ⟨0, 0, 0, false, false⟩, [], 0, 0, false, [], false⟩
  safe := ⟨[], false, [], [], [], [], [0, 0, 0, 0], []⟩
  cell := CellState.idle
  meas := ⟨List.replicate 36 ⟨[], [], 0, false, false⟩, List.replicate 2 ⟨0, 0, false, 0⟩, List.replicate 24 ⟨[], 0, 0⟩, [none, none], 0, 0⟩
  form := ⟨0, 0, 0, 0, 0, 0, 0, 0, 0, 0, 0, 0, 0, 0, false, [], (0, 0), (0, 0), (0, 0), 0, 0, 0, 0, 0, 0, 0, 0, 0, false, false, 0, 0, 0, 0, false, none, false, 0, false, [], false, []⟩
  law := ⟨[], [], [], 0, none, [], false, 0⟩
  mod := ⟨List.replicate 192 ⟨false, false, 0, [], ⟨[], []⟩, false, 0, 0, 0, none⟩, List.replicate 48 ⟨0, 0, 0⟩⟩
  meter := List.replicate 12 ⟨0, [], 0, 0, 0, 0, false⟩
  comb := ⟨List.replicate 256 ⟨false, 0, 0, false, 0, 0, [], [], 0⟩, none, 0, [], List.replicate 8 0#8, 0, false, [], 0, 0, none, false, none⟩
  cal := ⟨List.replicate 192 ⟨[(0, 0), (0, 0), (0, 0)], [(0, 0), (0, 0), (0, 0)], none, none, []⟩, [], List.replicate 12 [], List.replicate 12 none, false, false⟩
  cap := ⟨0, 0, [], false, 0, 0, false, 0, none, 0, 0, 0, 0, 0, false, false, []⟩
  eth := ⟨none, 0, (0, 0, 0, 0)⟩
  part := ⟨0, [], 0, [], none, none, [], none, 0, none, none, false, none, false, none⟩
  sealed := ⟨none, [], false⟩
  flash := none
  cyc := ⟨false, false, false, false, [], false, false, false, false, []⟩
  fresh := 0
  pending := []

end Sys2Proof.Machine
end

