-- ==== Sys2Proof/Machine/Ops.lean ====
section
/-! DEFINITION. The named operations over the state that every family shares: registers and their fields, refusals (R88), fault events (R101), free values, and the outputs computed from registers. -/

namespace Sys2Proof

/-! Blocks by number. -/

/-- The block's number (R556). -/
def Block.no : Block → Nat
  | .sys => 0x00 | .clk => 0x01 | .boot => 0x02 | .chk => 0x03 | .time => 0x04 | .hive => 0x05 | .cell => 0x06 | .mod => 0x07
  | .form => 0x08 | .law => 0x09 | .out => 0x0A | .metr => 0x0B | .cal => 0x0C | .adc => 0x0D | .fil => 0x0E | .cap => 0x0F
  | .axis => 0x10 | .gdrv => 0x11 | .enc => 0x12 | .safe => 0x13 | .ctc => 0x14 | .mem => 0x15 | .part => 0x16 | .host => 0x17
  | .eth => 0x18 | .seal => 0x19 | .comb => 0x1A

/-- The unit that holds the block's common registers (R556, R557). -/
def Block.ctrlUnit : Block → Nat
  | .hive => 0x10 | .cell => 0xC0 | .mod => 0x10 | .law => 0x20 | .out => 0x10 | .metr => 0x10 | .cal => 0x50 | .adc => 0x30
  | .fil => 0x40 | .axis => 0x10 | .gdrv => 0x10 | .enc => 0x10 | .safe => 0x10 | .ctc => 0x30 | .mem => 0x10 | .eth => 0x10
  | .sys => 0 | .clk => 0 | .boot => 0 | .chk => 0 | .time => 0 | .form => 0 | .cap => 0 | .part => 0 | .host => 0 | .seal => 0
  | .comb => 0

end Sys2Proof

namespace Sys2Proof.Machine

/-- Every block, by rising number. -/
def allBlocks : List Block :=
  [.sys, .clk, .boot, .chk, .time, .hive, .cell, .mod, .form, .law, .out, .metr, .cal, .adc, .fil, .cap, .axis, .gdrv, .enc,
   .safe, .ctc, .mem, .part, .host, .eth, .seal, .comb]

/-- The address of offset `off` of the block's control unit (R1, R98). -/
def ctrlAddr (b : Block) (off : Nat) : Nat := b.no * 0x10000 + b.ctrlUnit * 0x100 + off

/-! The common registers (R98). -/

def CTRL_EN (b : Block) : Fld := ⟨ctrlAddr b 0x00, 0, 0, 0, 1⟩
def STATUS_EVT (b : Block) : Fld := ⟨ctrlAddr b 0x04, 0, 0, 0, 16⟩
def IRQ_EN_EVT_IE (b : Block) : Fld := ⟨ctrlAddr b 0x08, 0, 0, 0, 16⟩
def IRQ_EN_SEV_IE (b : Block) : Fld := ⟨ctrlAddr b 0x08, 0, 0, 16, 1⟩
def CHK_REASON (b : Block) : Fld := ⟨ctrlAddr b 0x0C, 0, 0, 0, 16⟩
def CHK_UNIT (b : Block) : Fld := ⟨ctrlAddr b 0x0C, 0, 0, 16, 8⟩
def CHK_OFFSET (b : Block) : Fld := ⟨ctrlAddr b 0x0C, 0, 0, 24, 8⟩
def FLT_SEV (b : Block) : Fld := ⟨ctrlAddr b 0x10, 0, 0, 0, 16⟩
def EVT_LAST_SOURCE (b : Block) : Fld := ⟨ctrlAddr b 0x14, 0, 0, 0, 4⟩
def EVT_LAST_UNIT (b : Block) : Fld := ⟨ctrlAddr b 0x14, 0, 0, 8, 8⟩
def EVT_LAST_CYC (b : Block) : Fld := ⟨ctrlAddr b 0x14, 0, 0, 16, 16⟩
def FLT_N_N (b : Block) : Fld := ⟨ctrlAddr b 0x40, 0, 8, 0, 8⟩
def FLT_N_WCNT (b : Block) : Fld := ⟨ctrlAddr b 0x40, 0, 8, 8, 8⟩
def FLT_N_TOTAL (b : Block) : Fld := ⟨ctrlAddr b 0x40, 0, 8, 16, 16⟩
/-- The N that an open window counts to: R99 lets a change of N act only from the next window on. It stands in no register; the model keeps it beside them, above the 24-bit addresses. -/
def FLT_WINDOW_N (b : Block) : Fld := ⟨0x1000000 + ctrlAddr b 0x40, 0, 8, 0, 8⟩
def FLT_WIN_W (b : Block) : Fld := ⟨ctrlAddr b 0x44, 0, 8, 0, 20⟩

/-! The register map. -/

/-- Whether address `a` is one of the registers of the row. -/
def RegDef.covers (d : RegDef) (a : Nat) : Bool :=
  decide (d.base ≤ a) &&
    (let o := a - d.base
     let r := o % d.us
     decide (o / d.us < d.nu) &&
       (if d.st = 0 then decide (r = 0) else decide (r % d.st = 0) && decide (r / d.st < d.n)))

/-- The row that holds address `a`, if one does (R5). -/
def regDefAt (a : Nat) : Option RegDef := (regsOf (a / 0x10000)).find? (·.covers a)

/-- The reset word of address `a`; zero where no register lies. Fused bits come from the fuses. -/
def resetWord (a : Nat) : Word :=
  match regDefAt a with
  | none => 0#32
  | some d =>
    if d.fuse = 0 then BitVec.ofNat 32 d.reset
    else BitVec.ofNat 32 d.reset ||| (Config.fuse a &&& BitVec.ofNat 32 d.fuse)

/-! Registers and fields. -/

/-- The word held at a register address. -/
def State.word (s : State) (a : Nat) : Word := (sparseFind a s.regs).getD (resetWord a)

/-- Store a word at a register address. -/
def State.putWord (s : State) (a : Nat) (v : Word) : State := { s with regs := sparsePut a v (resetWord a) s.regs }

/-- The bits of a field in a word. -/
def fieldOf (v : Word) (lo w : Nat) : Nat := (v.toNat >>> lo) % 2 ^ w

/-- A word with the bits of a field replaced. -/
def withField (v : Word) (lo w x : Nat) : Word :=
  (v &&& ~~~(BitVec.ofNat 32 ((2 ^ w - 1) <<< lo))) ||| BitVec.ofNat 32 ((x % 2 ^ w) <<< lo)

/-- Read a field in unit `u`, array element `i`. -/
def State.get (s : State) (f : Fld) (u : Nat := 0) (i : Nat := 0) : Nat := fieldOf (s.word (f.addr u i)) f.lo f.w

/-- Read a field as a two's-complement number. -/
def State.geti (s : State) (f : Fld) (u : Nat := 0) (i : Nat := 0) : Int := signed f.w (s.get f u i)

/-- Read a one-bit field. -/
def State.flag (s : State) (f : Fld) (u : Nat := 0) (i : Nat := 0) : Bool := s.get f u i != 0

/-- Write a field in unit `u`, array element `i`. -/
def State.set (s : State) (f : Fld) (v : Nat) (u : Nat := 0) (i : Nat := 0) : State :=
  s.putWord (f.addr u i) (withField (s.word (f.addr u i)) f.lo f.w v)

/-- Write a field with a two's-complement number. -/
def State.seti (s : State) (f : Fld) (v : Int) (u : Nat := 0) (i : Nat := 0) : State := s.set f (unsigned f.w v) u i

/-- Write a one-bit field. -/
def State.setb (s : State) (f : Fld) (v : Bool) (u : Nat := 0) (i : Nat := 0) : State := s.set f (b2n v) u i

/-- Increment a counter field that saturates at its maximum. -/
def State.inc (s : State) (f : Fld) (u : Nat := 0) (i : Nat := 0) : State :=
  s.set f (satInc (2 ^ f.w - 1) (s.get f u i)) u i

/-- Add to a counter field that saturates at its maximum. -/
def State.addSat (s : State) (f : Fld) (k : Nat) (u : Nat := 0) (i : Nat := 0) : State :=
  s.set f (satAdd (2 ^ f.w - 1) (s.get f u i) k) u i

/-- Read a 64-bit pair, its constant naming the low word. -/
def State.get64 (s : State) (f : Fld) (u : Nat := 0) (i : Nat := 0) : Nat :=
  (s.word (f.addr u i)).toNat + 2 ^ 32 * (s.word (f.addr u i + 4)).toNat

/-- Write a 64-bit pair. -/
def State.set64 (s : State) (f : Fld) (v : Nat) (u : Nat := 0) (i : Nat := 0) : State :=
  (s.putWord (f.addr u i) (BitVec.ofNat 32 v)).putWord (f.addr u i + 4) (BitVec.ofNat 32 (v / 2 ^ 32))

/-- Read item `k` of a register that packs items of `f.w` bits (`step` bits apart). -/
def State.getPk (s : State) (f : Fld) (per step : Nat) (k : Nat) (u : Nat := 0) : Nat :=
  fieldOf (s.word (f.addr u (k / per))) (step * (k % per)) f.w

/-- Write item `k` of a packed register. -/
def State.setPk (s : State) (f : Fld) (per step : Nat) (k : Nat) (v : Nat) (u : Nat := 0) : State :=
  s.putWord (f.addr u (k / per)) (withField (s.word (f.addr u (k / per))) (step * (k % per)) f.w v)

/-- What happens in the control die: nothing while it is held in reset (R37 to R41) or gated off in DORMANT (R57); `t` is the effect on the running die. -/
def State.live (s t : State) : State := if s.pwr.coreUp then t else s

/-- Whether a block is enabled. -/
def State.en (s : State) (b : Block) : Bool := s.flag (CTRL_EN b)

/-! Free values (log entry 3). -/

/-- Draw a free value below `n`. -/
def State.draw (s : State) (n : Nat) : Nat × State := (Config.freeNat s.fresh % n, { s with fresh := s.fresh + 1 })

/-! Refusals (R88, R89). -/

/-- Record a refusal in a block's CHK, in CHK_LAST and in CHK_CNT. -/
def State.refuse (s : State) (b : Block) (reason unit offset : Nat) : State :=
  let v := BitVec.ofNat 32 (reason % 0x10000 + (unit % 0x100) * 0x10000 + (offset % 0x100) * 0x1000000)
  ((s.putWord (ctrlAddr b 0x0C) v).putWord 0x030100 v).inc CHK_CNT_CNT

/-- The common reasons of R87. -/
def ZERO_LEN : Nat := 0x01
def RANGE : Nat := 0x02
def DISAGREE : Nat := 0x03
def LOCKED : Nat := 0x04
def SEAL_CLOSED : Nat := 0x05
def NO_PASSCODE : Nat := 0x06
def NO_CLOCK : Nat := 0x07
def RESOURCE : Nat := 0x08
def PROFILE : Nat := 0x09
def STATE : Nat := 0x0A
def POISONED : Nat := 0x0B
def TIMEOUT : Nat := 0x0C
def DIAG : Nat := 0x0D

/-- Record a common reason, the refusing block's number in its upper byte (R8). -/
def State.refuseC (s : State) (b : Block) (code unit offset : Nat) : State := s.refuse b (b.no * 0x100 + code) unit offset

/-- Record a refusal with the register named by its address. -/
def State.refuseAt (s : State) (b : Block) (reason addr : Nat) : State :=
  s.refuse b reason (addr / 0x100 % 0x100) (addr % 0x100)

/-! Configuration checks. -/

/-- The first value a list of candidates gives. -/
def firstSome {α β : Type} (f : α → Option β) : List α → Option β
  | [] => none
  | a :: t => match f a with | some b => some b | none => firstSome f t

/-- A check: a reason at a unit and offset when the condition holds. -/
def bad (c : Bool) (reason unit off : Nat) : Option (Nat × Nat × Nat) := if c then some (reason, unit, off) else none

/-- The first of a list of checks that refuses. -/
def checks (l : List (Option (Nat × Nat × Nat))) : Option (Nat × Nat × Nat) := firstSome id l

/-! Fault events (R97 to R108). -/

/-- Whether any SEV bit of the block is set (STATUS.SEVERE). -/
def State.severe (s : State) (b : Block) : Bool := s.get (FLT_SEV b) != 0

/-- Whether the cycle runs. -/
def State.running (s : State) : Bool := s.flag SYS_CYC_STAT_RUNNING

/-- The always-on domain's copy of the hold word follows every change (R108). -/
def State.saveHold (s : State) : State := { s with pwr := { s.pwr with holdCopy := (s.word 0x000214).toNat } }

/-- Set a block's hold bit (R108). -/
def State.holdBit (s : State) (b : Block) (v : Bool) : State :=
  (s.set ⟨0x000214, 0, 0, b.no, 1⟩ (b2n v)).saveHold

/-- A bit of HOST_SEV_SUM has risen: a capture armed with TRIG = 2 fires at its next record (R409). -/
def State.severeTrigger (s : State) : State :=
  if s.get CAP_CFG_TRIG = 2 ∧ s.get CAP_STAT_STATE = 1 then { s with cap := { s.cap with force := true } } else s

/-- Make source `n` of block `b` severe: its window closes, and the hold bit sets when SEVERE rises. -/
def State.makeSevere (s : State) (b : Block) (n : Nat) : State :=
  let rises := !s.severe b
  let s := s.set ⟨ctrlAddr b 0x10, 0, 0, n, 1⟩ 1
  let s := s.set (FLT_N_WCNT b) 0 0 n
  if rises then (s.holdBit b true).severeTrigger else s

/-- One event of a source at an instance unit: R97, R98 and the counting rule of R101. -/
def State.raise (s : State) (src : Source) (unit : Nat) : State :=
  let b := src.blk
  let s := s.set ⟨ctrlAddr b 0x04, 0, 0, src.s, 1⟩ 1
  let cyc := if s.running then s.get SYS_CYC_NUM_CYC % 0x10000 else 0
  let s := s.putWord (ctrlAddr b 0x14) (BitVec.ofNat 32 (src.s + unit % 0x100 * 0x100 + cyc * 0x10000))
  if !src.counted then s
  else
    let s := s.inc (FLT_N_TOTAL b) 0 src.s
    if s.flag ⟨ctrlAddr b 0x10, 0, 0, src.s, 1⟩ then s
    else
      let open' := s.get (FLT_N_WCNT b) 0 src.s
      let s := if open' = 0 then s.set (FLT_WINDOW_N b) (s.get (FLT_N_N b) 0 src.s) 0 src.s else s
      if open' + 1 ≥ s.get (FLT_WINDOW_N b) 0 src.s then s.makeSevere b src.s
      else s.set (FLT_N_WCNT b) (min 0xFF (open' + 1)) 0 src.s

/-- Several events of one source in one instant: each counts, and EVT_LAST shows the lowest unit (R102). -/
def State.raiseAll (s : State) (src : Source) (units : List Nat) : State :=
  let low := units.foldl min 0xFF
  let s := units.foldl (fun s u => s.raise src u) s
  if units.isEmpty then s else s.set (EVT_LAST_UNIT src.blk) low

/-- An event of a block-wide source: EVT_LAST.UNIT shows the control unit (R98). -/
def State.raiseC (s : State) (src : Source) : State := s.raise src src.blk.ctrlUnit

/-- Raise an event only when a condition holds. -/
def State.raiseIf (s : State) (c : Bool) (src : Source) (unit : Nat) : State := if c then s.raise src unit else s

/-- Whether any SEV bit or HOLD bit is set, which refuses START (R110). -/
def State.anySevere (s : State) : Bool := allBlocks.any (fun b => s.severe b) || s.get SYS_FAULT_HOLD_HOLD != 0

/-! Power state. -/

/-- The codes of SYS_PWR_STATE.STATE (R90). -/
def WAKE : Nat := 1
def LOAD : Nat := 2
def PRIME : Nat := 3
def READY : Nat := 4
def FORM : Nat := 5
def SYNC : Nat := 6
def BLACKSTART : Nat := 7
def RESYNC : Nat := 8
def SAFE : Nat := 9

/-- The power state. -/
def State.pstate (s : State) : Nat := s.get SYS_PWR_STATE_STATE

/-- Whether the device is in a running state: FORM, SYNC, BLACKSTART or RESYNC (R57). -/
def State.inRun (s : State) : Bool := decide (FORM ≤ s.pstate) && decide (s.pstate ≤ RESYNC)

/-- Whether the profile in force is Tight. -/
def State.tight (s : State) : Bool := s.flag SYS_CYC_STAT_PROFILE_ACT

/-- The codes of PART_STAT.ROLE (R514). -/
def SEEKING : Nat := 0
def ACTIVE : Nat := 1
def STANDBY : Nat := 2
def NOT_READY : Nat := 3

/-- The device's role in a pair. -/
def State.role (s : State) : Nat := s.get PART_STAT_ROLE

/-- The device belongs to a pair and does not control the cells: its hive transmitters are silent (R511). -/
def State.silent (s : State) : Bool := s.en .part && s.role != ACTIVE

/-- The device stands beside an active partner (R516, R521). -/
def State.follows (s : State) : Bool := s.en .part && (s.role == STANDBY || s.role == NOT_READY)

/-- Within 3 cycles of a takeover or a handover no COAST event is raised (R519). -/
def State.tookOver (s : State) : Bool :=
  match s.part.took with
  | some c => decide ((s.get SYS_CYC_NUM_CYC + 2 ^ 32 - c) % 2 ^ 32 ≤ 3)
  | none => false

/-- The cycle period in ns (R16). -/
def State.period (s : State) : Nat := if s.tight then 25000 else 50000

/-! Network time. -/

/-- TAI in ns. -/
def State.now (s : State) : Nat := s.time.tai / 2 ^ 32

/-- The next cycle boundary strictly after now (R16, R18). -/
def State.nextBoundary (s : State) : Nat := (s.now / s.period + 1) * s.period

/-- Let the counter reach an instant of the cycle's schedule, the RTC running beside it; time never runs back (log entry 9). -/
def State.advanceTo (s : State) (t : Nat) : State :=
  if s.now < t then
    { s with time := { s.time with tai := t * 2 ^ 32, hostStep := false }, pwr := { s.pwr with rtc := s.pwr.rtc + (t * 2 ^ 32 - s.time.tai) } }
  else s

/-- Whether a boundary-timed request made now misses the cut point of the next boundary (R24); the first boundary of a cycle that is still to start has one too (R18). -/
def State.pastCut (s : State) : Bool := (s.running || s.en .sys) && decide (s.nextBoundary ≤ s.now + 1000)

/-- A boundary-timed request: the deferral of R24 is counted when the cut point has passed. -/
def State.deferral (s : State) : State :=
  if s.pastCut then (s.set SYS_CYC_STAT_DEFERRED 1).inc SYS_CYC_STAT_DEFER_CNT else s

end Sys2Proof.Machine
end

