-- ==== Sys2Proof/Machine/Mem.lean ====
section
/-! DEFINITION. The memory family: banks and tiles (R490 to R495), the dual-port bank (R493), the background test (R497 to R500), MRAM (R501 to R503) and the change log (R547 to R549). -/

namespace Sys2Proof.Machine

/-- A bank of R490: its first host memory address and its size. -/
structure Bank where
  base : Nat
  size : Nat
  deriving DecidableEq, Repr

/-- The banks by unit number: BANK_CAP, BANK_CTL, BANK_HOST, BANK_DP, MRAM. -/
def banks : List Bank :=
  [⟨0x000000, 0x400000⟩, ⟨0x400000, 0x100000⟩, ⟨0x500000, 0x0C0000⟩, ⟨0x5C0000, 0x040000⟩, ⟨0x600000, 0x080000⟩]

def BANK_CAP : Nat := 0x000000
def BANK_CTL : Nat := 0x400000
def BANK_HOST : Nat := 0x500000
def BANK_DP : Nat := 0x5C0000
def MRAM : Nat := 0x600000

/-- The bank that holds a host memory address. -/
def bankAt (a : Nat) : Option Nat := banks.findIdx? (fun b => decide (b.base ≤ a) && decide (a < b.base + b.size))

/-- The bank that holds the whole range of `n` bytes from `a`. -/
def bankOfRange (a n : Nat) : Option Nat :=
  match bankAt a with
  | some b => if bankAt (a + n - 1) = some b then some b else none
  | none => none

/-! Bytes. -/

/-- What a byte that nothing has written reads as (log entry 2). -/
def unwritten : Byte := 0#8

/-- Read one byte of the host memory space. -/
def State.byte (s : State) (a : Nat) : Byte := (sparseFind a s.mem).getD unwritten

/-- Write one byte of the host memory space. -/
def State.putByte (s : State) (a : Nat) (v : Byte) : State := { s with mem := sparsePut a v unwritten s.mem }

/-- Read `n` bytes from address `a`. -/
def State.bytes (s : State) (a : Nat) : Nat → List Byte
  | 0 => []
  | n + 1 => s.byte a :: s.bytes (a + 1) n

/-- Write bytes from address `a` upward. -/
def State.putBytes (s : State) (a : Nat) : List Byte → State
  | [] => s
  | b :: t => (s.putByte a b).putBytes (a + 1) t

/-! Tiles of 32 bytes (R494). A tile's CRC is right unless the tile is listed as poisoned. -/

/-- The tiles that a range touches. -/
def tilesOf (a n : Nat) : List Nat :=
  if n = 0 then [] else (List.range ((a + n - 1) / 32 - a / 32 + 1)).map (· + a / 32)

/-- The tiles that a range covers whole. -/
def wholeTiles (a n : Nat) : List Nat := (tilesOf a n).filter (fun t => decide (a ≤ 32 * t) && decide (32 * t + 32 ≤ a + n))

/-- Whether a range touches a poisoned tile. -/
def State.poisoned (s : State) (a n : Nat) : Bool := (tilesOf a n).any (s.poison.contains ·)

/-- The tiles of a range of the host memory space that are poisoned. -/
def State.badTiles (s : State) (a n : Nat) : List Nat := s.poison.filter (fun t => decide (a ≤ 32 * t) && decide (32 * t < a + n))

/-- Store bytes: a whole-tile write stores a good CRC, a partial write keeps a tile's poison (R494). -/
def State.store (s : State) (a : Nat) (bs : List Byte) : State :=
  let s := s.putBytes a bs
  { s with poison := s.poison.filter (fun t => !(wholeTiles a bs.length).contains t) }

/-- Mark a tile poisoned. -/
def State.poisonTile (s : State) (t : Nat) : State := if s.poison.contains t then s else { s with poison := s.poison ++ [t] }

/-- A checked read by master `m` (R495): each poisoned tile touched is counted, recorded and raised, one of MRAM as MRAM_FAIL too (R501). Answers the bytes and whether they are poisoned. -/
def State.load (s : State) (m a n : Nat) : List Byte × Bool × State :=
  let bad := (tilesOf a n).filter (s.poison.contains ·)
  let s' := bad.foldl (fun s t =>
    match bankAt (32 * t) with
    | none => s
    | some b =>
      let s := (s.inc MEM_BPOIS_CNT b).set MEM_BPOIS_LAST_MASTER m b
      let s := s.set MEM_BLAST_LAST_TILE (t - (banks.getD b ⟨0, 0⟩).base / 32) b
      (s.raise SRC_MEM_POISON b).raiseIf (b == 4) SRC_MEM_MRAM_FAIL b) s
  (s.bytes a n, !bad.isEmpty, s')

/-! MRAM (R501): every write is read back. -/

/-- Write MRAM; a tile that fails its read-back raises MRAM_FAIL. Answers whether the read-back agreed. -/
def State.mramWrite (s : State) (a : Nat) (bs : List Byte) : Bool × State :=
  let bad := (tilesOf a bs.length).any (s.pwr.mramBad.contains ·)
  let s := s.store a bs
  if bad then (false, s.raise SRC_MEM_MRAM_FAIL 4) else (true, s)

/-- Whether a tile lies in MRAM. -/
def inMram (t : Nat) : Bool := decide (MRAM ≤ 32 * t)

/-- The poisoned tiles of the MRAM logs: the metrology log and the change log (R81, R501). -/
def State.badLogTiles (s : State) : List Nat := s.badTiles MRAM 0x60000 ++ s.badTiles (MRAM + 0x68000) 0x10000

/-- The MRAM controller reads a tile whose CRC fails (R495, R501). -/
def State.mramReadFails (s : State) (t : Nat) : State := (s.load 9 (32 * t) 32).2.2

/-! The change log (R547, R548). -/

/-- The bytes of the registers SEAL_LOG_HASH, the hash of the newest entry. -/
def State.logHash (s : State) : List Byte := (List.range 4).flatMap (fun k => leBytes 4 (s.get SEAL_LOG_HASH_HASH 0 k))

/-- The TAI in ns that a log entry carries, and whether it is the RTC's. -/
def State.logTime (s : State) : Nat × Bool := if s.en .time then (s.now, false) else (s.pwr.rtc / 2 ^ 32, true)

/-- Append an entry to the change log. Answers whether it was written and read back; a failed entry raises LOG_FAIL and leaves the log's registers (log entry 14). -/
def State.logAppend (s : State) (kind source addr old new : Nat) (detail : List Byte) : Bool × State :=
  let seq := s.get SEAL_LOG_NEXT_SEQ
  let t := s.logTime
  let body := leBytes 4 seq ++ [BitVec.ofNat 8 kind, BitVec.ofNat 8 (source + 4 * b2n t.2)] ++ leBytes 2 (s.get SEAL_SW_WORD)
    ++ leBytes 8 t.1 ++ leBytes 4 addr ++ leBytes 4 old ++ leBytes 4 new ++ leBytes 4 (s.get BOOT_GEN_GENERATION) ++ slice detail 0 16
  let prev := if seq = 0 then List.replicate 16 0#8 else s.logHash
  let h := (sha256 (prev ++ body)).take 16
  let w := s.mramWrite (MRAM + 0x68000 + 64 * (seq % 1024)) (body ++ h)
  if w.1 then
    let s := w.2.raiseIf (decide (1024 ≤ seq) && decide (w.2.get SEAL_LOG_ACK_SEQ < seq - 1024)) SRC_SEAL_LOG_OVERRUN 0x03
    let s := s.set SEAL_LOG_NEXT_SEQ (seq + 1)
    (true, (List.range 4).foldl (fun s k => s.set SEAL_LOG_HASH_HASH (leAt h (4 * k) 4) 0 k) s)
  else (false, w.2.raise SRC_SEAL_LOG_FAIL 0x03)

/-- An action that takes effect only after its entry (R547): `act` runs when the entry is written, else 0x1924 is recorded. -/
def State.logged (s : State) (kind source addr old new : Nat) (detail : List Byte) (act : State → State) : Bool × State :=
  let w := s.logAppend kind source addr old new detail
  if w.1 then (true, act w.2) else (false, w.2.refuse .seal 0x1924 0x03 0x00)

/-! BANK_DP, port A (R492, R493). -/

/-- A port-A write of one word of BANK_DP. -/
def State.portAWrite (s : State) (off v : Nat) : State :=
  let bs := leBytes 4 v
  let s := s.store (BANK_DP + off) bs
  { s with memst := { s.memst with portA := bs.zipIdx.map (fun p => (BANK_DP + off + p.2, p.1)) } }

/-- Whether a port-B write of bytes from `a` collides with port A's write of the same core cycle: it meets the same word with different data in a byte both write (R493). -/
def State.collides (s : State) (a : Nat) (bs : List Byte) : Bool :=
  bs.zipIdx.any (fun p => s.memst.portA.any (fun q => decide (q.1 = a + p.2) && decide (q.2 ≠ p.1)))

/-- Count a collision (R493). -/
def State.collision (s : State) (a : Nat) : State :=
  ((s.inc MEM_DP_COLL_COLL).set MEM_DP_COLL_LAST ((a - BANK_DP) / 4)).raise SRC_MEM_DP_COLLISION 3

/-- A port-B write to BANK_DP, word by word; a word that collides is discarded. Answers whether a word was lost. -/
def State.portBWrite (s : State) (sameCycle : Bool) (a : Nat) : List Byte → Bool × State
  | b0 :: b1 :: b2 :: b3 :: t =>
    let w := [b0, b1, b2, b3]
    if sameCycle && s.collides a w then
      let r := (s.collision a).portBWrite sameCycle (a + 4) t
      (true, r.2)
    else (s.store a w).portBWrite sameCycle (a + 4) t
  | rest => (false, s.store a rest)

/-! The configuration check of MEM (R508). -/

/-- Groups of 4 KiB in a bank. -/
def groupsOf (b : Nat) : Nat := (banks.getD b ⟨0, 0⟩).size / 4096

/-- The first offending field of MEM's settings: reason, unit and offset. -/
def checkMem (s : State) : Option (Nat × Nat × Nat) :=
  let ks := (List.range 8).filter (fun k => s.flag MEM_NOBORROW_VALID 0 k)
  if s.get MEM_BIST_CFG_PERIOD = 0 then some (ZERO_LEN, 0x11, 0x00)
  else match ks.find? (fun k => s.get MEM_NOBORROW_COUNT 0 k = 0) with
  | some k => some (ZERO_LEN, 0x11, 0x10 + 4 * k)
  | none =>
    match ks.find? (fun k => decide (groupsOf (s.get MEM_NOBORROW_BANK 0 k) < s.get MEM_NOBORROW_FIRST 0 k + s.get MEM_NOBORROW_COUNT 0 k)) with
    | some k => some (RANGE, 0x11, 0x10 + 4 * k)
    | none =>
      if 512 < (ks.map (fun k => s.get MEM_NOBORROW_COUNT 0 k)).sum then some (RESOURCE, 0x11, 0x10) else none

/-- What the enable of MEM does, its counters having been reset: nothing more. -/
def enterMem (s : State) : State := s

/-! The background test (R497 to R500). -/

/-- Whether a group lies in a valid NOBORROW entry (R500). -/
def State.noBorrow (s : State) (b g : Nat) : Bool :=
  (List.range 8).any (fun k => s.flag MEM_NOBORROW_VALID 0 k && decide (s.get MEM_NOBORROW_BANK 0 k = b) &&
    decide (s.get MEM_NOBORROW_FIRST 0 k ≤ g) && decide (g < s.get MEM_NOBORROW_FIRST 0 k + s.get MEM_NOBORROW_COUNT 0 k))

/-- The groups that one pass of the test borrows, in its order: enabled banks, rising groups, NOBORROW groups left out. -/
def State.bistPlan (s : State) : List (Nat × Nat) :=
  (List.range 4).flatMap (fun b =>
    if bitOf (s.get MEM_BIST_CFG_BANK_EN) b then ((List.range (groupsOf b)).map (fun g => (b, g))).filter (fun p => !s.noBorrow p.1 p.2) else [])

/-- The group to borrow now: the first of the pass at or after the present place, with the place after it and whether the pass wraps. -/
def State.bistNext (s : State) : Option ((Nat × Nat) × Bool) :=
  let here := s.memst.bistBank * 1024 + s.get MEM_BNEXT_GROUP s.memst.bistBank
  let plan := s.bistPlan
  match plan.find? (fun p => decide (here ≤ p.1 * 1024 + p.2)) with
  | some p => some (p, false)
  | none => plan.head?.map (fun p => (p, true))

/-- Move the test past a group; the end of the pass is counted and starts again (R497). -/
def State.bistAdvance (s : State) (b g : Nat) : State :=
  let rest := s.bistPlan.filter (fun p => decide (b * 1024 + g < p.1 * 1024 + p.2))
  match rest.head? with
  | some p =>
    let s := s.set MEM_BNEXT_GROUP (if p.1 = b then p.2 else 0) b
    let s := s.set MEM_BNEXT_GROUP p.2 p.1
    { s with memst := { s.memst with bistBank := p.1 } }
  | none =>
    let s := (s.inc MEM_BIST_STAT_PASSES).set MEM_BNEXT_GROUP 0 b
    match s.bistPlan.head? with
    | some p => { s.set MEM_BNEXT_GROUP p.2 p.1 with memst := { s.memst with bistBank := p.1 } }
    | none => s

/-- Whether the background test may run (R497). -/
def State.bistRuns (s : State) : Bool := s.en .mem && decide (s.pstate ≠ PRIME) && !s.pwr.dormant

/-- One borrow (R497, R499): the march finds the listed tiles of the group faulty; the write-back leaves every other byte as it is. -/
def opBistBorrow (faulty : List (Fin 128)) (s : State) : State :=
  if s.bistRuns then
    match s.bistNext with
    | none => s
    | some (p, _) =>
      let first := (banks.getD p.1 ⟨0, 0⟩).base / 32 + p.2 * 128
      let s := faulty.foldl (fun s f => s.poisonTile (first + f.val)) s
      let s := match (faulty.map (·.val)).min? with
        | none => s
        | some f => ((s.set MEM_BIST_FAULT_BANK p.1).set MEM_BIST_FAULT_FAULT_TILE (p.2 * 128 + f)).raise SRC_MEM_TILE_FAULT p.1
      s.bistAdvance p.1 p.2
  else s

/-- R497 BIST_BORROW. -/
def execBistBorrow (faulty : List (Fin 128)) (s : State) : Host.Outcome State Fault Refusal := .next (s.live (opBistBorrow faulty s))

/-- A borrow abandoned at 1.28 µs (R498): the shadow is written back, and the group waits for the next pass. -/
def opBistAbandon (s : State) : State :=
  if s.bistRuns then
    match s.bistNext with
    | none => s
    | some (p, _) => ((s.inc MEM_BIST_STAT_ABANDON).raise SRC_MEM_BIST_ABANDON p.1).bistAdvance p.1 p.2
  else s

/-- R498 BIST_ABANDON. -/
def execBistAbandon (s : State) : Host.Outcome State Fault Refusal := .next (s.live (opBistAbandon s))

/-- One refreshed MRAM tile (R503): a tile that fails its CRC is not rewritten and raises MRAM_FAIL. Refresh runs in every power state; the control die, held in reset or gated off, records nothing. -/
def opMramRefresh (tile : Fin 16384) (s : State) : State :=
  if s.pwr.aonUp && s.poison.contains (MRAM / 32 + tile.val) then s.live (s.mramReadFails (MRAM / 32 + tile.val)) else s

/-- R503 MRAM_REFRESH. -/
def execMramRefresh (tile : Fin 16384) (s : State) : Host.Outcome State Fault Refusal := .next (opMramRefresh tile s)

end Sys2Proof.Machine
end

