-- ==== Sys2Proof/Machine/Num.lean ====
section
/-! DEFINITION. Fixed-point arithmetic on exact integers: quotients whose rounding the spec leaves open, the Q2.29 format (R9), angles (R13), square roots and sines. -/

namespace Sys2Proof.Machine

/-- A quotient rounded as the part rounds: exact when it divides, else the floor or the floor plus one (log entry 6). A zero divisor gives an open value. -/
def rdiv (n d : Int) : Int :=
  if d = 0 then Config.divZero n
  else
    let q := n.fdiv d
    if n = q * d then q else if Config.roundUp n d then q + 1 else q

/-- One in Q2.29 (R9). -/
def one : Int := 2 ^ 29

/-- Hold a value in Q2.29; outside the format the spec states no result (log entry 6). -/
def q29 (v : Int) : Int :=
  if -(2 ^ 31) ≤ v ∧ v < 2 ^ 31 then v else (BitVec.ofInt 32 (Config.outOfRange v)).toInt

/-- Product of two Q2.29 values. -/
def qmul (a b : Int) : Int := rdiv (a * b) one

/-- Quotient of two Q2.29 values. -/
def qdiv (a b : Int) : Int := rdiv (a * one) b

/-- The largest natural number whose square is at most `n`, by `k` bit steps. -/
def isqrtGo : Nat → Nat → Nat → Nat
  | 0, _, r => r
  | k + 1, n, r => let t := r + 2 ^ k; isqrtGo k n (if t * t ≤ n then t else r)

/-- Integer square root, exact floor for numbers below 2^128. -/
def isqrt (n : Nat) : Nat := isqrtGo 64 n 0

/-- Square root rounded as the part rounds. -/
def rsqrt (n : Int) : Int :=
  let r : Int := isqrt n.toNat
  if r * r = n then r else if Config.roundUp n 2 then r + 1 else r

/-- The square root of a quotient, rounded to the nearest whole number (a half up). -/
def sqrtNear (n d : Nat) : Int := ((isqrt (4 * n / d) + 1) / 2 : Nat)

/-- Magnitude of a vector, in Q2.29 (R9). -/
def hyp (a b : Int) : Int := q29 (rsqrt (a * a + b * b))

/-- π in units of 2^-60. -/
def piQ60 : Int := 3622009729038561421

/-- The Taylor terms of sine: `k` more terms from term `t` of index `n`, for `x2` the square of the argument, in units of 2^-60. -/
def sinTerms : Nat → Int → Int → Int → Int
  | 0, _, _, _ => 0
  | k + 1, n, x2, t => t + sinTerms k (n + 2) x2 (-(t * x2 / 2 ^ 60) / ((n + 1) * (n + 2)))

/-- Sine of an angle in radians within a quarter turn, argument and result in units of 2^-60. -/
def sinSmall (x : Int) : Int := sinTerms 14 1 (x * x / 2 ^ 60) x

/-- Sine of an angle in units of 2^-32 of a turn (R13), result in Q2.29 rounded as the part rounds. -/
def sinT (a : Nat) : Int :=
  let a := a % 2 ^ 32
  let q := a / 2 ^ 30
  let r := a % 2 ^ 30
  let x (k : Nat) : Int := (k : Int) * 2 * piQ60 / 2 ^ 32
  let v := match q with
    | 0 => sinSmall (x r)
    | 1 => sinSmall (x (2 ^ 30 - r))
    | 2 => -sinSmall (x r)
    | _ => -sinSmall (x (2 ^ 30 - r))
  if r = 0 then (match q with | 0 => 0 | 1 => one | 2 => 0 | _ => -one) else rdiv v (2 ^ 31)

/-- Cosine of an angle in units of 2^-32 of a turn. -/
def cosT (a : Nat) : Int := sinT (a + 2 ^ 30)

/-- Round half away from zero, for the quantities the spec tells to round. -/
def roundDiv (n d : Int) : Int :=
  if d = 0 then Config.divZero n
  else if 0 ≤ n * d then (2 * n.natAbs + d.natAbs) / (2 * d.natAbs) else -((2 * n.natAbs + d.natAbs) / (2 * d.natAbs) : Int)

/-- The arctangent search: the angle in units of 2^-32 of a turn of the vector (x, y) in the first octant, by `k` bits. -/
def atanGo : Nat → Int → Int → Nat → Nat
  | 0, _, _, a => a
  | k + 1, x, y, a =>
    let t := a + 2 ^ k
    atanGo k x y (if sinT t * x ≤ cosT t * y then t else a)

/-- The angle of the vector (x, y), 0 to 2^32 − 1, within one unit; the zero vector's angle is open. -/
def angleOf (x y : Int) : Nat :=
  if x = 0 ∧ y = 0 then (Config.divZero 0).toNat % 2 ^ 32
  else
    let ax : Int := x.natAbs
    let ay : Int := y.natAbs
    let a := atanGo 30 ax ay 0
    let a := if 0 ≤ x then (if 0 ≤ y then a else 2 ^ 32 - a) else (if 0 ≤ y then 2 ^ 31 - a else 2 ^ 31 + a)
    a % 2 ^ 32

end Sys2Proof.Machine
end

