-- ==== Sys2Proof/Machine/Pins.lean ====
section
/-! DEFINITION. The ball groups and their reset state (R35): when a group has left it, and what the groups that the device drives show. -/

namespace Sys2Proof.Machine

/-- The ball groups whose reset state ends with the enable of an owning block (R35). Field inputs are always read; supplies and returns carry no level. -/
inductive BallGroup where
  | hiveLink | partnerLink | ethernet | hostPort | hostIrq | sealMatrix | deltaSigma | sarAnalog | sensorSupply | positionCompare | halfBridge | coil
  deriving DecidableEq, Repr

/-- The reference supply of a group (R35). -/
def BallGroup.reference : BallGroup → Rail
  | .hiveLink | .partnerLink => .vdds10
  | .ethernet => .vio18
  | .hostPort | .hostIrq | .deltaSigma | .positionCompare => .vio33
  | .sealMatrix => .vaon
  | .sarAnalog | .sensorSupply | .coil => .v5a
  | .halfBridge => .vdrv

/-- The block that owns a group (R35). -/
def BallGroup.owner : BallGroup → Block
  | .hiveLink => .hive
  | .partnerLink => .part
  | .ethernet => .eth
  | .hostPort | .hostIrq => .host
  | .sealMatrix => .seal
  | .deltaSigma => .fil
  | .sarAnalog => .adc
  | .sensorSupply | .positionCompare => .enc
  | .halfBridge => .gdrv
  | .coil => .ctc

/-- Every group. -/
def BallGroup.all : List BallGroup :=
  [.hiveLink, .partnerLink, .ethernet, .hostPort, .hostIrq, .sealMatrix, .deltaSigma, .sarAnalog, .sensorSupply, .positionCompare, .halfBridge, .coil]

/-- Whether a group has left its reset state (R35): its reference supply is within range, its owner is enabled, and the device is neither in DORMANT nor held by TEST_EN. -/
def State.groupUp (s : State) (g : BallGroup) : Bool :=
  s.pins.rails.contains g.reference && s.pwr.coreUp && !s.pwr.dormant && !s.pins.testEn && s.en g.owner

/-- What a group shows in its reset state (R35). -/
inductive ResetLevel where
  /-- transmitters at common mode without swing -/
  | noSwing
  /-- outputs low, inputs and MDIO at high impedance -/
  | lowOut
  /-- inputs and outputs at high impedance, a select pulled up -/
  | floating
  /-- driven to its inactive high level -/
  | high
  /-- driven low -/
  | low
  /-- the multiplexer open, burnout sources off -/
  | muxOpen
  /-- off, discharged or held off -/
  | off
  deriving DecidableEq, Repr

/-- The reset state of a group (R35). -/
def BallGroup.resetLevel : BallGroup → ResetLevel
  | .hiveLink | .partnerLink => .noSwing
  | .ethernet => .lowOut
  | .hostPort => .floating
  | .hostIrq => .high
  | .sealMatrix | .deltaSigma | .positionCompare => .low
  | .sarAnalog => .muxOpen
  | .sensorSupply | .halfBridge | .coil => .off

/-- What a group shows: its reset state, or nothing of it once its owner drives it (R35). -/
def State.groupShows (s : State) (g : BallGroup) : Option ResetLevel := if s.groupUp g then none else some g.resetLevel

/-- Whether DSMCLKk runs: it is driven low otherwise (R35, R400). -/
def State.dsmClock (s : State) (k : Nat) : Bool := s.groupUp .deltaSigma && s.flag FIL_CLK_EN k

/-- Whether the burnout source of AINn is on (R35, R397). -/
def State.burnout (s : State) (n : Nat) : Bool := s.groupUp .sarAnalog && s.flag ADC_CHCFG_BURN_EN n

/-- The level of CMPm: low until ENC is enabled (R35, R449). -/
def State.cmpLevel (s : State) (m : Nat) : Bool := s.groupUp .positionCompare && s.drive.cmpHigh.contains m

/-- Whether the transmitter of a ring end swings (R35, R136). -/
def State.hiveSwings (s : State) (r : Nat) : Bool := s.groupUp .hiveLink && s.flag HIVE_RCTL_RING_EN r

end Sys2Proof.Machine
end

