-- ==== Sys2Proof/Machine/Drive.lean ====
section
/-! DEFINITION. The drive families: PWM (R427 to R433), gate drive and its protection (R434 to R439), the axis states (R441 to R444) and the encoders (R445 to R450). -/

namespace Sys2Proof.Machine

/-! Axis and encoder records. -/

def State.axisSt (s : State) (n : Nat) : AxisSt := s.drive.axes.getD n ⟨[0, 0, 0], [], [0, 0, 0], false, false, 0⟩
def State.setAxisSt (s : State) (n : Nat) (a : AxisSt) : State := { s with drive := { s.drive with axes := s.drive.axes.set n a } }
def State.encSt (s : State) (n : Nat) : EncSt := s.drive.encs.getD n ⟨false, false, 0, 0, 0, false⟩
def State.setEncSt (s : State) (n : Nat) (e : EncSt) : State := { s with drive := { s.drive with encs := s.drive.encs.set n e } }

/-- The codes of AXIS_STAT.STATE (R441). -/
def AX_IDLE : Nat := 0
def AX_TEST : Nat := 1
def AX_CHARGE : Nat := 2
def AX_RUN : Nat := 3
def AX_INHIBITED : Nat := 4

/-- Whether an axis is enabled (R441). One that failed its test in Primer step 2 cannot be (R81). -/
def State.axisEn (s : State) (n : Nat) : Bool := s.en .axis && s.flag AXIS_CFG_AX_EN n && !s.drive.barred.contains n

/-! The analog die (R38). -/

/-- Whether the analog die and the field front ends run: V5A is above its threshold (R38). -/
def State.fieldUp (s : State) : Bool := s.pins.rails.contains .v5a

/-- What happens in the control die on a field signal, while both dies run (R37, R38). -/
def State.fieldLive (s t : State) : State := if s.fieldUp then s.live t else s

/-- A level that an input takes while its front end is held in reset is read when V5A is back (R38; DESIGN CHOICE, log entry 86). -/
def State.noteLevel (s : State) (x : FieldInput) (high : Bool) : State :=
  { s with pins := { s.pins with held := s.pins.held.filter (fun (p : FieldInput × Bool) => p.1 != x) ++ [(x, high)] } }

/-- Drive the gate read-back bits of half-bridge `h`. -/
def State.gates (s : State) (h : Nat) (gh gl : Bool) : State := (s.setb GDRV_HSTAT_GH gh h).setb GDRV_HSTAT_GL gl h

/-- Hold every phase of an axis off. -/
def State.phasesOff (s : State) (n : Nat) : State := (List.range 3).foldl (fun s p => s.gates (3 * n + p) false false) s

/-- Put an axis into a state whose outputs are all phases off. -/
def State.axisTo (s : State) (n st : Nat) : State := (s.set AXIS_STAT_STATE st n).phasesOff n

/-- Whether an STR is active on an axis (R469). -/
def State.strActive (s : State) (n : Nat) : Bool := bitOf (s.get SAFE_FSTAT_STR) n
def State.sdsActive (s : State) (n : Nat) : Bool := bitOf (s.get SAFE_FSTAT_SDS) n

/-- Whether a DIRECT safety input demands (R462). -/
def State.directDemand (s : State) : Bool :=
  (List.range 4).any (fun i => s.flag SAFE_SICFG_EN i && s.flag SAFE_SICFG_DIRECT i && (!s.flag SAFE_SISTAT_A i || !s.flag SAFE_SISTAT_B i))

/-- Whether a pulse-inhibit cause common to every half-bridge is present (R31, R38, R462), or the control die asks for inhibit since PLL_B lost lock (R67). -/
def State.inhibitAll (s : State) : Bool :=
  s.get GDRV_TRIP_STAT_LATCH != 0 || s.directDemand || !s.pwr.heartbeat || s.flag GDRV_VDRV_UV ||
    (s.flag CLK_PLL_STAT_LOL 1 && !s.flag CLK_PLL_STAT_LOCKED 1) || !s.pins.rails.contains .vdrv || !s.pins.rails.contains .v5a

/-- Whether the pulse-inhibit path acts on an axis (R31, R469). -/
def State.inhibited (s : State) (n : Nat) : Bool := s.inhibitAll || s.strActive n

/-- The pulse-inhibit path acts: an axis in TEST, CHARGE or RUN enters INHIBITED; an SDS under it ends and STR is recorded (R441, R480). -/
def State.inhibitAxis (s : State) (n : Nat) : State :=
  let st := s.get AXIS_STAT_STATE n
  if s.inhibited n then
    let s := if s.sdsActive n then
        ((s.set SAFE_FSTAT_SDS (s.get SAFE_FSTAT_SDS &&& (15 - 1 <<< n))).set SAFE_FSTAT_STR (s.get SAFE_FSTAT_STR ||| 1 <<< n)).set SAFE_AXSTAT_FUNC 2 n
      else s
    if st = AX_TEST ∨ st = AX_CHARGE ∨ st = AX_RUN then (s.axisTo n AX_INHIBITED).raise SRC_AXIS_INHIBITED n else s.phasesOff n
  else s

/-- Let the pulse-inhibit path act on every axis, from the highest down so that EVT_LAST shows the lowest (R102). -/
def State.applyInhibit (s : State) : State := (List.range 4).reverse.foldl (fun s n => s.inhibitAxis n) s

/-! PWM. -/

/-- The CMP code in effect for a phase word: Invert exchanges the codes and complements the duty (R432). -/
def effCmp (prd w : Nat) : Nat :=
  let cmp := w % 65536
  if bitsOf w 16 3 = 2 then (if cmp = 0 then 0xFFFF else if cmp = 0xFFFF then 0 else prd - cmp) else cmp

/-- Half of the low-side command in a period (R428). -/
def lowHalf (prd cmp : Nat) : Nat := if cmp = 0xFFFF then 0 else prd - cmp

/-- The outcome of one phase's period: commands omitted, high side on throughout, gates at the period start, and a shoot-through override. -/
structure PhaseOut where
  dropped : Nat
  high : Bool
  gh : Bool
  gl : Bool
  shoot : Bool
  deriving DecidableEq, Repr

/-- The commands of one phase in a period, from the word in force and the code of the last period (R428 to R432, R435). -/
def phasePeriod (prd minp w last : Nat) : PhaseOut :=
  let ovr := bitsOf w 16 3
  if ovr = 3 then ⟨0, false, false, false, false⟩
  else if ovr = 4 then
    let h := bitOf w 19
    let l := bitOf w 20
    if h && l then ⟨0, false, false, false, true⟩ else ⟨0, h, h, l, false⟩
  else
    let c := effCmp prd w
    let lowLen := lowHalf prd last + lowHalf prd c
    let lowOmit : Bool := decide (0 < lowLen) && decide (lowLen < minp)
    let highOmit : Bool := decide (c ≠ 0) && decide (c ≠ 0xFFFF) && decide (2 * c < minp)
    let highAll : Bool := decide (c = 0xFFFF) || lowOmit
    let lowAll : Bool := decide (c = 0) || highOmit
    let d := b2n lowOmit + b2n highOmit
    if ovr = 1 then ⟨d, lowAll, !highAll, highAll, false⟩ else ⟨d, highAll, highAll, !highAll, false⟩

/-- One phase at the period start: the refresh of R433 when it is due, else its own command. -/
def State.phaseStart (s : State) (n p : Nat) : State :=
  let a := s.axisSt n
  let h := 3 * n + p
  let w := s.get AXIS_APPLIED_SET n p
  let prd := s.get AXIS_CFG_PRD n
  let o := phasePeriod prd (s.get AXIS_PULSE_MINP n) w (a.last.getD p 0)
  let due := a.force.contains p || decide (s.get AXIS_CFG_BST_HOLD n ≤ a.hold.getD p 0)
  let s := s.addSat AXIS_CNT_DROPPED o.dropped n
  let s := if o.shoot then (s.inc GDRV_HCNT_SHOOT h).raise SRC_GDRV_SHOOT_ATTEMPT h else s
  let s := if due then (s.inc AXIS_CNT_REFRESH n).gates h false true else s.gates h o.gh o.gl
  let cnt := if due then 0 else if o.high then a.hold.getD p 0 + 1 else 0
  s.setAxisSt n { a with hold := a.hold.set p cnt, force := a.force.filter (· != p), last := a.last.set p (effCmp prd w) }

/-- A PWM period start (R427, R429, R433, R468): the committed set or the braking set takes effect whole. The period start is one at least 100 ns after the last commit (log entry 9). No gate turns on while an inhibit cause is present (R31, R39). -/
def opPwmPeriodStart (n : Nat) (s : State) : State :=
  let st := s.get AXIS_STAT_STATE n
  if s.inhibited n then s.inhibitAxis n
  else if s.axisEn n && (st == AX_CHARGE || st == AX_RUN) then
    let brake := s.sdsActive n && s.flag SAFE_AXCFG_SDS_MODE n && st == AX_RUN
    let s := if brake then (List.range 3).foldl (fun s p => s.set AXIS_APPLIED_SET 0 n p) s
      else if s.flag AXIS_COMMIT_PENDING n then
        (List.range 3).foldl (fun s p => s.set AXIS_APPLIED_SET ((s.word (AXIS_DUTY_CMP.addr n p)).toNat % 2 ^ 21) n p) (s.set AXIS_COMMIT_PENDING 0 n)
      else s
    if st = AX_RUN then (List.range 3).foldl (fun s p => s.phaseStart n p) s else s
  else s

/-- R427 PWM_PERIOD_START. -/
def execPwmPeriodStart (n : Fin 4) (s : State) : Host.Outcome State Fault Refusal := .next (s.live (opPwmPeriodStart n.val s))

/-- A commit of an axis's duty set (R429, R468). Answers whether it was accepted. -/
def opAxisCommit (n : Nat) (s : State) : Bool × State :=
  let prd := s.get AXIS_CFG_PRD n
  let bad := (List.range 3).any (fun p =>
    (decide (prd ≤ s.get AXIS_DUTY_CMP n p) && decide (s.get AXIS_DUTY_CMP n p ≠ 0xFFFF)) || decide (5 ≤ s.get AXIS_DUTY_OVR n p))
  if s.sdsActive n && s.flag SAFE_AXCFG_SDS_MODE n then (false, (s.refuseC .axis STATE n 0x1C).raise SRC_AXIS_COMMIT_REFUSED n)
  else if bad then (false, (s.refuseC .axis RANGE n 0x1C).raise SRC_AXIS_COMMIT_REFUSED n)
  else (true, s.set AXIS_COMMIT_PENDING 1 n)

/-- R429 AXIS_COMMIT. -/
def execAxisCommit (n : Fin 4) (s : State) : Host.Outcome State Fault Refusal := .next (s.live (opAxisCommit n.val s).2)

/-- Bootstrap undervoltage of a high side that is on (R434). -/
def opBstUv (h : Nat) (s : State) : State :=
  if s.get AXIS_STAT_STATE (h / 3) = AX_RUN then
    let s := ((s.inc GDRV_HCNT_BST_UV h).raise SRC_GDRV_BST_UV h).gates h false false
    let s := s.set GDRV_HSTAT_BST_OK 0 h
    let a := s.axisSt (h / 3)
    s.setAxisSt (h / 3) { a with force := if a.force.contains (h % 3) then a.force else a.force ++ [h % 3] }
  else s

/-- R434 BST_UV. -/
def execBstUv (h : Fin 12) (s : State) : Host.Outcome State Fault Refusal := .next (s.live (opBstUv h.val s))

/-- A short circuit detected by DDT (R437): the latch sets, and the axis floats and enters IDLE. -/
def opDdtShort (h : Nat) (s : State) : State :=
  if s.en .gdrv && s.flag GDRV_HCFG_DDT_EN h then
    let s := ((s.set GDRV_HSTAT_SC 1 h).raise SRC_GDRV_SHORT h).gates h false false
    if s.get AXIS_STAT_STATE (h / 3) = AX_INHIBITED then s else s.axisTo (h / 3) AX_IDLE
  else s

/-- R437 DDT_SHORT. -/
def execDdtShort (h : Fin 12) (s : State) : Host.Outcome State Fault Refusal := .next (s.live (opDdtShort h.val s))

/-- Clear of a short-circuit latch (R437), while the owning axis is in IDLE. -/
def opClearSc (h : Nat) (s : State) : Bool × State :=
  if s.get AXIS_STAT_STATE (h / 3) = AX_IDLE then (true, s.set GDRV_HSTAT_SC 0 h) else (false, s.refuseC .gdrv STATE h 0x0C)

/-- R437 CLEAR_SC. -/
def execClearSc (h : Fin 12) (s : State) : Host.Outcome State Fault Refusal := .next (s.live (opClearSc h.val s).2)

/-! The off-state test (R438). -/

/-- VBRn in 10 mV, signed. -/
def State.vbr (s : State) (n : Nat) : Int := s.geti GDRV_VBR_VBR 0 n

/-- Whether VBRn is at or above VBR_MIN. -/
def State.vbrOk (s : State) (n : Nat) : Bool := decide ((s.get GDRV_VBRMIN_VBR_MIN : Int) ≤ s.vbr n)

/-- The result of the three steps from the voltages read at SH, in 10 mV. -/
def osResult (vbr : Int) (sh : Int × Int × Int) : Nat :=
  if sh.1 < vbr - 200 then 3 else if 200 < sh.2.1 then 2 else if 200 < sh.2.2 then 4 else 1

/-- The off-state test runs on each half-bridge of the axis (R438). -/
def opOffStateTest (n : Nat) (sh : List (Int × Int × Int)) (s : State) : State :=
  if s.vbrOk n && (s.get AXIS_STAT_STATE n == AX_TEST || s.pstate == PRIME) then
    (List.range 3).reverse.foldl (fun s p =>
      match sh[p]? with
      | none => s
      | some v =>
        let r := osResult (s.vbr n) v
        (s.set GDRV_HSTAT_OSTEST r (3 * n + p)).raiseIf (r != 1) SRC_GDRV_OSTEST_FAIL (3 * n + p)) s
  else s

/-- R438 OFF_STATE_TEST. -/
def execOffStateTest (n : Fin 4) (sh : List (Int × Int × Int)) (s : State) : Host.Outcome State Fault Refusal := .next (s.live (opOffStateTest n.val sh s))

/-- Entry to CHARGE: the counter starts, and the inhibit test of R477 runs first. An inhibit cause that is present acts at once (R31, R441). -/
def State.enterCharge (s : State) (n : Nat) : State :=
  ((s.axisTo n AX_CHARGE).setAxisSt n { s.axisSt n with hold := [0, 0, 0], force := [], inhTest := true }).inhibitAxis n

/-- Entry to TEST; an inhibit cause that is present acts at once (R31, R441, R451). -/
def State.enterTest (s : State) (n : Nat) (only : Bool) : State :=
  ((s.axisTo n AX_TEST).setAxisSt n { s.axisSt n with testOnly := only }).inhibitAxis n

/-- The test completes (R441): CHARGE when every half-bridge reads 1, else IDLE; a TEST command returns to IDLE. -/
def opOffStateTestDone (n : Nat) (s : State) : State :=
  if s.get AXIS_STAT_STATE n = AX_TEST then
    let pass := (List.range 3).all (fun p => s.get GDRV_HSTAT_OSTEST (3 * n + p) == 1)
    if !pass then ((s.axisTo n AX_IDLE).raise SRC_AXIS_TEST_FAIL n).refuse .axis 0x1020 n 0x20
    else if (s.axisSt n).testOnly then s.axisTo n AX_IDLE
    else s.enterCharge n
  else s

/-- R441 OFF_STATE_TEST_DONE. -/
def execOffStateTestDone (n : Fin 4) (s : State) : Host.Outcome State Fault Refusal := .next (s.live (opOffStateTestDone n.val s))

/-! Axis commands (R442). -/

/-- FLOAT sends the axis to IDLE; without effect in IDLE and INHIBITED. -/
def opAxisFloat (n : Nat) (s : State) : State :=
  let st := s.get AXIS_STAT_STATE n
  if st = AX_TEST ∨ st = AX_CHARGE ∨ st = AX_RUN then s.axisTo n AX_IDLE else s

/-- R442 AXIS_FLOAT. -/
def execAxisFloat (n : Fin 4) (s : State) : Host.Outcome State Fault Refusal := .next (s.live (opAxisFloat n.val s))

/-- TEST runs the off-state test and returns to IDLE. -/
def opAxisTest (n : Nat) (s : State) : Bool × State :=
  if !s.axisEn n || s.get AXIS_STAT_STATE n != AX_IDLE then (false, s.refuseC .axis STATE n 0x20)
  else if !s.vbrOk n then (false, s.refuse .axis 0x1021 n 0x20)
  else (true, s.enterTest n true)

/-- R442 AXIS_TEST. -/
def execAxisTest (n : Fin 4) (s : State) : Host.Outcome State Fault Refusal := .next (s.live (opAxisTest n.val s).2)

/-- The inhibit test of CHARGE ends (R477): a gate that reads on fails the charge, else the low sides resume. -/
def opInhibitTestEnd (n : Nat) (gl : Nat) (s : State) : State :=
  if s.get AXIS_STAT_STATE n = AX_CHARGE ∧ (s.axisSt n).inhTest then
    let s := s.setAxisSt n { s.axisSt n with inhTest := false }
    if gl ≠ 0 then ((s.axisTo n AX_IDLE).raise SRC_AXIS_CHARGE_FAIL n).refuse .axis 0x1024 n 0x20
    else ((List.range 3).foldl (fun s p => s.gates (3 * n + p) false true) s).inhibitAxis n
  else s

/-- R477 INHIBIT_TEST_END. -/
def execInhibitTestEnd (n : Fin 4) (gl : BitVec 3) (s : State) : Host.Outcome State Fault Refusal := .next (s.live (opInhibitTestEnd n.val gl.toNat s))

/-- BST_CHARGE has elapsed (R441, R443): RUN with every bootstrap above its threshold, else CHARGE_FAIL. -/
def opChargeDone (n ok : Nat) (s : State) : State :=
  if s.get AXIS_STAT_STATE n = AX_CHARGE ∧ (s.axisSt n).inhTest = false then
    let s := (List.range 3).foldl (fun s p => s.setb GDRV_HSTAT_BST_OK (bitOf ok p) (3 * n + p)) s
    if ok = 7 then
      let s := s.set AXIS_STAT_STATE AX_RUN n
      let s := if s.flag AXIS_COMMIT_PENDING n then
          (List.range 3).foldl (fun s p => s.set AXIS_APPLIED_SET ((s.word (AXIS_DUTY_CMP.addr n p)).toNat % 2 ^ 21) n p) (s.set AXIS_COMMIT_PENDING 0 n)
        else s
      let a := s.axisSt n
      (s.setAxisSt n { a with hold := [0, 0, 0], force := [], last := (List.range 3).map (fun p => effCmp (s.get AXIS_CFG_PRD n) (s.get AXIS_APPLIED_SET n p)) }).inhibitAxis n
    else ((s.axisTo n AX_IDLE).raise SRC_AXIS_CHARGE_FAIL n).refuse .axis 0x1024 n 0x20
  else s

/-- R441 CHARGE_DONE. -/
def execChargeDone (n : Fin 4) (bstOk : BitVec 3) (s : State) : Host.Outcome State Fault Refusal := .next (s.live (opChargeDone n.val bstOk.toNat s))

/-- No inhibit cause remains: an INHIBITED axis enters IDLE (R441). -/
def opInhibitRelease (n : Nat) (s : State) : State :=
  if s.get AXIS_STAT_STATE n = AX_INHIBITED ∧ s.inhibited n = false then s.axisTo n AX_IDLE else s

/-- R441 INHIBIT_RELEASE. -/
def execInhibitRelease (n : Fin 4) (s : State) : Host.Outcome State Fault Refusal := .next (s.live (opInhibitRelease n.val s))

/-! Supplies (R444). -/

/-- An axis leaves TEST, CHARGE or RUN for IDLE. -/
def State.axisDrop (s : State) (n : Nat) : State :=
  let st := s.get AXIS_STAT_STATE n
  if st = AX_TEST ∨ st = AX_CHARGE ∨ st = AX_RUN then s.axisTo n AX_IDLE else s

/-- A level of VBRn held for 10 µs (R444): below VBR_MIN the axis goes to IDLE and VBR_UV is raised; at or above it the condition ends. The monitors stand on the analog die and are held in reset with it (R38); they go on while the control die is in reset. -/
def opVbrUv (n v : Nat) (s : State) : State :=
  if !s.fieldUp then s
  else
    let s := s.set GDRV_VBR_VBR v 0 n
    if s.vbrOk n then s.set GDRV_VBR_UV 0 0 n
    else
      let s := s.set GDRV_VBR_UV 1 0 n
      s.live ((s.axisDrop n).raise SRC_GDRV_VBR_UV 0x12)

/-- R444 VBR_UV. -/
def execVbrUv (n : Fin 4) (v : BitVec 16) (s : State) : Host.Outcome State Fault Refusal := .next (opVbrUv n.val v.toNat s)

/-- A level of VBRn held for 10 µs, judged for reversal (R55, R444): below −1 V the axis goes to IDLE and VBR_REV is raised. -/
def opVbrRev (n v : Nat) (s : State) : State :=
  if !s.fieldUp then s
  else
    let s := s.set GDRV_VBR_VBR v 0 n
    if s.vbr n < -100 then
      let s := s.set GDRV_VBR_REV 1 0 n
      s.live ((s.axisDrop n).raise SRC_GDRV_VBR_REV 0x12)
    else s.set GDRV_VBR_REV 0 0 n

/-- R444 VBR_REV. -/
def execVbrRev (n : Fin 4) (v : BitVec 16) (s : State) : Host.Outcome State Fault Refusal := .next (opVbrRev n.val v.toNat s)

/-- VDRV falls below its threshold (R38, R55, R444): the condition, its event, and the pulse-inhibit path. -/
def State.vdrvLow (s : State) : State :=
  let s := s.set GDRV_VDRV_UV 1
  s.live ((s.raise SRC_GDRV_VDRV_UV 0x12).applyInhibit)

/-- A level of VDRV (R38, R444): below 9.5 V undervoltage acts through the pulse-inhibit path; it ends above 10.0 V. -/
def opVdrvUv (v : Nat) (s : State) : State :=
  if !s.fieldUp then s
  else
    let s := s.set GDRV_VDRV_VDRV v
    let x := s.geti GDRV_VDRV_VDRV
    if x < 950 then s.vdrvLow else if 1000 < x then s.set GDRV_VDRV_UV 0 else s

/-- R444 VDRV_UV. -/
def execVdrvUv (v : BitVec 16) (s : State) : Host.Outcome State Fault Refusal := .next (opVdrvUv v.toNat s)

/-! Encoders (R445 to R449). -/

/-- Position of (A, B) in the order 00, 10, 11, 01 (R445). -/
def quadIndex (a b : Bool) : Nat := match a, b with | false, false => 0 | true, false => 1 | true, true => 2 | false, true => 3

/-- C divided by an interval in ticks of 150 MHz, in 2^-4 count/s (R447). -/
def speedOf (c ticks : Nat) : Int := rdiv ((c * 150000000 * 16 : Nat) : Int) (ticks : Int)

/-- Fire the compare entries of an encoder that the new position and direction admit (R449). -/
def State.fireCompares (s : State) (n : Nat) (down : Bool) : State :=
  let pos := s.get ENC_POS_POS n
  let pins := ((List.range 8).filter (fun k =>
    decide (s.get ENC_CMP_POS n k = pos) && bitOf (s.get ENC_CMPC_DIR n k) (b2n down))).map (fun k => s.get ENC_CMPC_PIN n k)
  { s with drive := { s.drive with cmpHigh := pins.foldl (fun l p => if l.contains p then l else l ++ [p]) s.drive.cmpHigh } }

/-- One count of an encoder, up or down (R446). -/
def State.countPos (s : State) (n : Nat) (down : Bool) : State :=
  let cpr := s.get ENC_CPR_CPR n
  let pos := s.get ENC_POS_POS n
  let s := if down then
      (if pos = 0 then (s.set ENC_POS_POS (cpr - 1) n).seti ENC_REV_REV (s.geti ENC_REV_REV n - 1) n else s.set ENC_POS_POS (pos - 1) n)
    else
      (if pos + 1 ≥ cpr then (s.set ENC_POS_POS 0 n).seti ENC_REV_REV (s.geti ENC_REV_REV n + 1) n else s.set ENC_POS_POS (pos + 1) n)
  s.fireCompares n down

/-- A measured edge in a direction (R447, R448). -/
def State.measureEdge (s : State) (n : Nat) (down : Bool) (ticks : Nat) : State :=
  let e := s.encSt n
  let c := if s.flag ENC_CFG_SPD_SRC n then 4 else 1
  let s := s.set ENC_STAT_STILL 0 n
  if e.edges ≠ 0 ∧ s.flag ENC_STAT_DIR n ≠ down then
    let s := ((s.seti ENC_SPD_SPEED 0 n).setb ENC_STAT_DIR down n).set ENC_STAT_SPD_VALID 0 n
    s.setEncSt n { e with ticks := 0, edges := 1 }
  else
    let s := s.setb ENC_STAT_DIR down n
    if e.edges = 0 then s.setEncSt n { e with ticks := 0, edges := 1 }
    else
      let v := speedOf c ticks
      let s := (s.set ENC_IVL_TICKS ticks n).seti ENC_SPD_SPEED (if down then -v else v) n
      (s.set ENC_STAT_SPD_VALID 1 n).setEncSt n { e with ticks := 0, edges := 2 }

/-- The cap on the reported speed while the elapsed time exceeds the last interval (R448). -/
def State.capSpeed (s : State) (n ticks : Nat) : State :=
  if s.flag ENC_STAT_SPD_VALID n && decide (s.get ENC_IVL_TICKS n < ticks) then
    let c := if s.flag ENC_CFG_SPD_SRC n then 4 else 1
    let v := speedOf c ticks
    let old := s.geti ENC_SPD_SPEED n
    s.seti ENC_SPD_SPEED (if old < 0 then max old (-v) else min old v) n
  else s

/-- An encoder sample of A and B, `dt` ticks after the last one (R445 to R449). -/
def opEncCount (n : Nat) (a b : Bool) (dt : Nat) (s : State) : State :=
  if s.en .enc && s.flag ENC_CFG_EN_CH n then
    let e := s.encSt n
    let t := e.ticks + dt
    let i := quadIndex e.a e.b
    let j := quadIndex a b
    let s := s.setEncSt n { e with a := a, b := b, ticks := t }
    if i = j then s.capSpeed n t
    else if (i + 2) % 4 = j then (s.inc ENC_STAT_SKIP n).capSpeed n t
    else
      let down : Bool := decide ((i + 1) % 4 ≠ j) != s.flag ENC_CFG_INV_DIR n
      let s := s.countPos n down
      let e' := s.encSt n
      let s := s.setEncSt n { e' with hallCounts := e'.hallCounts + (if down then -1 else 1) }
      if s.flag ENC_CFG_SPD_SRC n && !(a && !e.a) then s.capSpeed n t else s.measureEdge n down t
  else s

/-- The rising edge of I (R446). A line below −3 V reads low and shows none (R55). -/
def opEncIndex (n : Nat) (s : State) : State :=
  let m := s.get ENC_CFG_IDX_MODE n
  if s.en .enc && s.flag ENC_CFG_EN_CH n && !s.drive.encRev.contains (6 * n + 2) then
    let first := !s.flag ENC_STAT_IDX_SEEN n
    let s := s.set ENC_STAT_IDX_SEEN 1 n
    if m = 0 then s
    else
      let s := s.set ENC_IDXLAT_POS (s.get ENC_POS_POS n) n
      if m = 3 ∨ (m = 2 ∧ first) then s.set ENC_POS_POS (s.get ENC_IDX_IDX_POS n) n else s
  else s

/-- R446 ENC_INDEX. -/
def execEncIndex (n : Fin 4) (s : State) : Host.Outcome State Fault Refusal := .next (s.fieldLive (opEncIndex n.val s))

/-- STILL_TMO passes without a measured edge (R448). -/
def opEncStill (n : Nat) (s : State) : State :=
  if s.en .enc && s.flag ENC_CFG_EN_CH n then
    ((((s.set ENC_SPD_SPEED 0 n).set ENC_STAT_SPD_VALID 0 n).set ENC_STAT_STILL 1 n)).setEncSt n { s.encSt n with edges := 0, ticks := 0 }
  else s

/-- R448 ENC_STILL. -/
def execEncStill (n : Fin 4) (s : State) : Host.Outcome State Fault Refusal := .next (s.live (opEncStill n.val s))

/-- A compare pulse ends after PW ticks (R449). -/
def opCmpPulseEnd (m : Nat) (s : State) : State := { s with drive := { s.drive with cmpHigh := s.drive.cmpHigh.filter (· != m) } }

/-- R449 CMP_PULSE_END. -/
def execCmpPulseEnd (m : Fin 8) (s : State) : Host.Outcome State Fault Refusal := .next (s.live (opCmpPulseEnd m.val s))

/-! Sensor supplies (R54, R55, R450). -/

/-- Clear sensor-supply latches by a mask (R450); a latch whose condition is present is kept and 0x1220 recorded. -/
def opSsupClear (mask : Nat) (s : State) : Bool × State :=
  (List.range 4).foldl (fun r n =>
    if !bitOf mask n then r
    else if r.2.drive.ssupShort.contains n || r.2.drive.ssupBack.contains n then (false, r.2.refuse .enc 0x1220 0x11 0x04)
    else (r.1, (r.2.set ⟨ENC_SSUP_SHORT.base, 0, 0, 4 + n, 1⟩ 0).set ⟨ENC_SSUP_SHORT.base, 0, 0, 8 + n, 1⟩ 0)) (true, s)

/-- R450 SSUP_CLEAR. -/
def execSsupClear (mask : BitVec 4) (s : State) : Host.Outcome State Fault Refusal := .next (s.live (opSsupClear mask.toNat s).2)

/-- Add a number to or remove it from a list of present conditions. -/
def setPresent (l : List Nat) (n : Nat) (present : Bool) : List Nat :=
  if present then (if l.contains n then l else l ++ [n]) else l.filter (· != n)

/-- A sensor supply at its current limit for 2 ms turns off and latches (R55); the operand tells when the condition is gone. -/
def opSupplyShort (n : Nat) (present : Bool) (s : State) : State :=
  let s := { s with drive := { s.drive with ssupShort := setPresent s.drive.ssupShort n present } }
  if present then s.fieldLive ((s.set ⟨ENC_SSUP_SHORT.base, 0, 0, 4 + n, 1⟩ 1).raise SRC_ENC_SUPPLY_SHORT 0x11) else s

/-- R55 SUPPLY_SHORT. -/
def execSupplyShort (n : Fin 4) (present : Bool) (s : State) : Host.Outcome State Fault Refusal := .next (opSupplyShort n.val present s)

/-- A sensor supply back-fed above 5.5 V for 1 ms turns off and latches (R55). -/
def opBackfeed (n : Nat) (present : Bool) (s : State) : State :=
  let s := { s with drive := { s.drive with ssupBack := setPresent s.drive.ssupBack n present } }
  if present then s.fieldLive ((s.set ⟨ENC_SSUP_SHORT.base, 0, 0, 8 + n, 1⟩ 1).raise SRC_ENC_BACKFEED 0x11) else s

/-- R55 BACKFEED. -/
def execBackfeed (n : Fin 4) (present : Bool) (s : State) : Host.Outcome State Fault Refusal := .next (opBackfeed n.val present s)

/-- Whether sensor supply n delivers (R35, R450): not before its block is enabled, nor without V5A. -/
def State.ssupOn (s : State) (n : Nat) : Bool :=
  s.groupUp .sensorSupply && bitOf (s.get ENC_SSUP_SSUP_EN) n && !bitOf (s.get ENC_SSUP_SHORT) n && !bitOf (s.get ENC_SSUP_BACKFEED) n

/-! Configuration checks and enables (R453, R456, R458). -/

/-- The first offending field of AXIS's settings (R453). -/
def checkAxis (s : State) : Option (Nat × Nat × Nat) :=
  firstSome (fun n =>
    let en := s.flag AXIS_CFG_AX_EN n
    let prd := s.get AXIS_CFG_PRD n
    let minp := s.get AXIS_PULSE_MINP n
    checks [
      bad (en && (prd == 0 || s.get AXIS_CFG_BST_HOLD n == 0)) ZERO_LEN n 0x00,
      bad (en && (s.get AXIS_PULSE_DT n == 0 || minp == 0 || s.get AXIS_PULSE_DRVMIN n == 0)) ZERO_LEN n 0x04,
      bad (en && (s.get AXIS_BST_BST_REFRESH n == 0 || s.get AXIS_BST_BST_CHARGE n == 0)) ZERO_LEN n 0x08,
      bad (decide (prd < 150)) RANGE n 0x00,
      bad (decide (minp < s.get AXIS_PULSE_DT n + s.get AXIS_PULSE_DRVMIN n)) DISAGREE n 0x04,
      bad (decide (s.get AXIS_BST_BST_REFRESH n < minp)) DISAGREE n 0x08,
      bad (decide (prd < 2 * minp)) DISAGREE n 0x00,
      bad (en && (List.range 3).any (fun p => !s.flag GDRV_HCFG_USED (3 * n + p))) DISAGREE n 0x00]) (List.range 4)

/-- What the enable of AXIS does: counters reset, every enabled axis in IDLE (R441). -/
def enterAxis (s : State) : State :=
  (List.range 4).foldl (fun s n => ((s.set AXIS_CNT_DROPPED 0 n).set AXIS_CNT_REFRESH 0 n).axisTo n AX_IDLE) s

/-- What the disable of AXIS does: every phase held off (R441). -/
def leaveAxis (s : State) : State := (List.range 4).foldl (fun s n => s.axisTo n AX_IDLE) s

/-- The first offending field of GDRV's settings (R456). -/
def checkGdrv (s : State) : Option (Nat × Nat × Nat) :=
  checks [
    firstSome (fun h => checks [
      bad (s.get GDRV_HCFG_BLANK h == 0) ZERO_LEN h 0x00,
      bad (decide (s.get GDRV_HCFG_BLANK h < 2)) RANGE h 0x00,
      bad (s.flag GDRV_HCFG_USED h && decide (s.get GDRV_HCFG_BLANK h * 10 * 3 < s.get AXIS_PULSE_DT (h / 3) * 20)) DISAGREE h 0x00]) (List.range 12),
    bad (decide (s.get GDRV_VBRMIN_VBR_MIN < 800) || decide (8000 < s.get GDRV_VBRMIN_VBR_MIN)) RANGE 0x12 0x10]

/-- What the enable of GDRV does: counters reset. -/
def enterGdrv (s : State) : State := (List.range 12).foldl (fun s h => (s.set GDRV_HCNT_BST_UV 0 h).set GDRV_HCNT_SHOOT 0 h) s

/-- The first offending field of ENC's settings (R458). -/
def checkEnc (s : State) : Option (Nat × Nat × Nat) :=
  firstSome (fun n =>
    let cpr := s.get ENC_CPR_CPR n
    checks ([
      bad (s.get ENC_CFG_STILL_TMO n == 0) ZERO_LEN n 0x00,
      bad (decide (20000 < s.get ENC_CFG_STILL_TMO n)) RANGE n 0x00,
      bad (cpr == 0) ZERO_LEN n 0x04,
      bad (decide (2 ^ 31 < cpr)) RANGE n 0x04,
      bad (decide (2 ≤ s.get ENC_CFG_IDX_MODE n) && decide (cpr ≤ s.get ENC_IDX_IDX_POS n)) DISAGREE n 0x18] ++
      (List.range 8).flatMap (fun k =>
        let on := s.get ENC_CMPC_DIR n k != 0
        [bad (on && decide (cpr ≤ s.get ENC_CMP_POS n k)) DISAGREE n (0x40 + 8 * k),
         bad (on && s.get ENC_CMPC_PW n k == 0) ZERO_LEN n (0x44 + 8 * k)]))) (List.range 4)

/-- What the enable of ENC does: counters reset; speed invalid until two measured edges (R448). -/
def enterEnc (s : State) : State :=
  (List.range 4).foldl (fun s n =>
    (((s.set ENC_STAT_SKIP 0 n).set ENC_SPD_SPEED 0 n).set ENC_STAT_SPD_VALID 0 n).set ENC_STAT_IDX_SEEN 0 n |>.setEncSt n
      { s.encSt n with ticks := 0, edges := 0, hallCounts := 0, hallSeen := false }) s

end Sys2Proof.Machine
end

