-- ==== Sys2Proof/Machine/Hive.lean ====
section
/-! DEFINITION. The hive link: frames (R135 to R143), service ends and breaks (R22, R166 to R170), reports and retries (R145 to R153), the mailbox (R152 to R160), BLOCK frames (R161), keying and enumeration (R162 to R165). -/

namespace Sys2Proof.Machine

/-! Records. -/

def State.ringSt (s : State) (r : Nat) : RingSt := s.hive.rings.getD r RingSt.idle
def State.setRingSt (s : State) (r : Nat) (x : RingSt) : State := { s with hive := { s.hive with rings := s.hive.rings.set r x } }
def State.fe (s : State) (i : Nat) : FeSt := s.fes.getD i FeSt.idle
def State.setFe (s : State) (i : Nat) (f : FeSt) : State := { s with fes := s.fes.set i f }

/-! Slots (R177). -/

/-- The 192 slot numbers. -/
def slots : List Nat := List.range 192

/-- Enabled slots. -/
def State.enSlots (s : State) : List Nat := slots.filter (fun i => s.flag CELL_SCFG_SLOT_EN i)

/-- The enabled slot at a position of a ring. -/
def State.slotAt (s : State) (r p : Nat) : Option Nat :=
  slots.find? (fun i => s.flag CELL_SCFG_SLOT_EN i && decide (s.get CELL_SCFG_RING i = r) && decide (s.get CELL_SCFG_POS i = p))

/-- Cells on a ring. -/
def State.ncell (s : State) (r : Nat) : Nat := s.get HIVE_RCTL_NCELL r

/-- Rings in use. -/
def State.enRings (s : State) : List Nat := (List.range 12).filter (fun r => s.flag HIVE_RCTL_RING_EN r)

/-- Whether the ring ends send frames: HIVE enabled, both PLLs in lock, and the device not silent in a pair (R67, R511). -/
def State.hiveDrives (s : State) : Bool :=
  s.en .hive && s.flag CLK_PLL_STAT_LOCKED 0 && s.flag CLK_PLL_STAT_LOCKED 1 && !s.silent

/-! Service ends (R22, R166, R167). -/

/-- The end that reaches position `p` when the listed hops are broken: end B as `true`, none between two breaks (R166, R169). -/
def reachEnd (hops : List Nat) (p : Nat) : Option Bool :=
  if hops.all (fun h => decide (p < h)) then some false
  else if hops.all (fun h => decide (h ≤ p)) then some true else none

/-- The end that serves position `p` cyclically (R22). -/
def State.serveEnd (s : State) (r p : Nat) : Option Bool :=
  let h := (s.ringSt r).served
  if h.isEmpty then some (s.tight && decide ((s.ncell r + 1) / 2 ≤ p)) else reachEnd h p

/-- Whether the breaks leave a position without a path (R169). -/
def State.cutOff (s : State) (r p : Nat) : Bool :=
  let h := (s.ringSt r).breaks
  !h.isEmpty && reachEnd h p == none

/-- The end that carries the mailbox traffic of position `p`: fragment service takes effect with FRAGMENT_SERVICE (R22, R167); none where no path is left. -/
def State.mbxEnd (s : State) (r p : Nat) : Option Bool :=
  let h := (s.ringSt r).served
  if s.cutOff r p then none
  else if h.isEmpty then some (if s.tight then decide ((s.ncell r + 1) / 2 ≤ p) else true) else reachEnd h p

/-- Keyed path delay of a position from an end, in 1/16 ns (R163). -/
def State.pathDelay (s : State) (r p : Nat) (endB : Bool) : Nat :=
  if endB then s.get HIVE_RDLY_DLY_B r p else s.get HIVE_RDLY_DLY_A r p

/-- The positions an end serves, in ascending hop distance from it (R145). -/
def State.served (s : State) (r : Nat) (endB : Bool) : List Nat :=
  let ps := (List.range (s.ncell r)).filter (fun p => s.serveEnd r p == some endB)
  if endB then ps.reverse else ps

/-! Times of the cycle (R21, R146), in ns after the sampling instant. -/

/-- The sampling instant of the cycle in progress, TAI ns (R20). -/
def State.samp (s : State) : Nat := s.get64 SYS_CYC_START_TAI + s.get SYS_CYC_TIMING_SAMPLE_OFS

/-- The apply point after the sampling instant (R187). -/
def State.applyAt (s : State) : Nat := s.period - s.get SYS_CYC_TIMING_APPLY_LEAD - s.get SYS_CYC_TIMING_SAMPLE_OFS

def State.tReports (s : State) : Nat := if s.tight then 4600 else 14500
def State.tStep5 (s : State) : Nat := if s.tight then 7600 else 19000
def State.tTrain (s : State) : Nat := if s.tight then 8600 else 21000
def State.tResend (s : State) : Nat := if s.tight then 10400 else 28100
def State.tResendEnd (s : State) : Nat := if s.tight then 11200 else 29500

/-- Whether a mailbox frame may start at an instant (R146); a stretched ring does not use the first window (R168). -/
def State.mbxMayStart (s : State) (r t : Nat) : Bool :=
  let w1 : Nat × Nat := if s.tight then (4600, 6100) else (14500, 18500)
  let w2 : Nat × Nat := if s.tight then (11200, 23000) else (29500, 48000)
  (decide (w1.1 ≤ t) && decide (t ≤ w1.2) && decide (s.get HIVE_RSTAT_MODE r ≠ 3)) || (decide (w2.1 ≤ t) && decide (t ≤ w2.2))

/-! Frames (R135 to R142). -/

/-- Close a frame with its CRC (R136). -/
def withCrc (bs : List Byte) : List Byte := bs ++ leBytes 2 (crc16 bs).toNat

/-- Whether bytes are a whole valid frame of a delimiter and a length (R137). -/
def validFrame (delim len : Nat) (bs : List Byte) : Bool :=
  decide (bs.length = len) && decide ((bs.getD 0 0#8).toNat = delim) && decide (leAt bs (len - 2) 2 = (crc16 (bs.take (len - 2))).toNat)

/-- Header byte 1 (R138). -/
def header (pos : Nat) (endB rpt all : Bool) : Byte :=
  BitVec.ofNat 8 (pos % 16 + 16 * b2n endB + 32 * b2n rpt + 64 * b2n all)

/-- A byte as a number. -/
def byteAt (bs : List Byte) (i : Nat) : Nat := (bs.getD i 0#8).toNat

/-- POS of a frame. -/
def framePos (bs : List Byte) : Nat := byteAt bs 1 % 16
def frameEnd (bs : List Byte) : Bool := bitOf (byteAt bs 1) 4

/-- A RECALL frame. -/
def recallFrame (pos : Nat) (endB : Bool) (cyc : Nat) : List Byte :=
  withCrc (([0x7C#8, header pos endB false false] : List Byte) ++ leBytes 4 cyc)

/-- A BLOCK frame: AC and DAB are 1 in every BLOCK the device sends (R142). -/
def blockFrame (endB : Bool) (cause seq : Nat) : List Byte :=
  withCrc (([0xDC#8, header 0 endB false true, BitVec.ofNat 8 cause, 3#8] : List Byte) ++ leBytes 2 seq)

/-- An MBX_REQ frame (R141). -/
def mbxFrame (t : MbxTx) (endB : Bool) : List Byte :=
  withCrc (([0xF7#8, header t.pos endB (decide (0 < t.tries)) false, BitVec.ofNat 8 (t.tag + 64 * t.gen), BitVec.ofNat 8 t.op] : List Byte)
    ++ leBytes 4 t.addr ++ [BitVec.ofNat 8 t.len, 0#8] ++ slice t.data 0 32)

/-- An ASSIGN frame (R142). -/
def assignFrame (s : State) (r p : Nat) (endB : Bool) : List Byte :=
  let n := s.ncell r
  withCrc (([0xFE#8, header p endB false false, BitVec.ofNat 8 (if endB then n - 1 - p else p), BitVec.ofNat 8 n, BitVec.ofNat 8 p, 0#8] : List Byte)
    ++ leBytes 4 (s.get HIVE_RDLY_DLY_A r p) ++ leBytes 4 (s.get HIVE_RDLY_DLY_B r p) ++ leBytes 4 0)

/-- A KEY frame for target `t` of an end: TTL = t, ECHO = 0; POS names the position, counted from end A (R133, R138, R142, R162). -/
def keyFrame (s : State) (r t : Nat) (endB : Bool) : List Byte :=
  withCrc ([0xFD#8, header (if endB then s.ncell r + 15 - t else t) endB false false, BitVec.ofNat 8 t, 0#8, 0#8, 0#8] : List Byte)

/-- The beat, K28.1, on the line of an end (R134, R144). -/
def beatMark : List Byte := [0x3C#8]

/-- Note frames put on the lines. -/
def State.sends (s : State) (fs : List (Nat × Bool × List Byte)) : State :=
  if s.hiveDrives then { s with hive := { s.hive with sent := fs } } else s

/-- Note frames put on the lines after those already noted. -/
def State.sendsMore (s : State) (fs : List (Nat × Bool × List Byte)) : State := s.sends (s.hive.sent ++ fs)

/-- A discarded frame is counted and raised (R137). -/
def State.crcErr (s : State) (r : Nat) : State := (s.inc HIVE_RCNT_CRC_ERR r).raise SRC_HIVE_CRC_ERR r

/-- A stray frame is counted and raised (R153, R160). -/
def State.stray (s : State) (r : Nat) : State := (s.inc HIVE_RCNT2_STRAY r).raise SRC_HIVE_STRAY r

/-- Whether ring `r` takes part: HIVE enabled and the ring in use. -/
def State.ringOn (s : State) (r : Nat) : Bool := s.en .hive && s.flag HIVE_RCTL_RING_EN r

/-! The mailbox (R152 to R160). -/

/-- The next value of a queue pointer: index in [7:0], wrap in [8] (R174). -/
def ptrNext (qlen p : Nat) : Nat :=
  let i := p % 256 + 1
  if qlen ≤ i then (if p < 256 then 256 else 0) else p / 256 * 256 + i

/-- Entries from one pointer up to another. -/
def ptrDist (qlen a b : Nat) : Nat := if a / 256 = b / 256 then b % 256 - a % 256 else qlen - a % 256 + b % 256

/-- Whether pointer `b` can stand ahead of `a` in a queue without passing it. -/
def ptrAhead (a b : Nat) : Bool := if a / 256 = b / 256 then decide (a % 256 ≤ b % 256) else decide (b % 256 ≤ a % 256)

/-- Pointer values from `a`, `n` of them. -/
def ptrsFrom (qlen : Nat) : Nat → Nat → List Nat
  | 0, _ => []
  | n + 1, a => a :: ptrsFrom qlen n (ptrNext qlen a)

/-- The place of a queue entry in BANK_HOST. -/
def entryAt (base p : Nat) : Nat := BANK_HOST + base + 64 * (p % 256)

/-- Host transactions issued and not complete: their completion entries are reserved (R157). -/
def State.hostTx (s : State) : List MbxTx := s.hive.tx.filter (fun t => t.owner == 0)

/-- Free completion entries. -/
def State.cqFree (s : State) : Nat :=
  s.get HIVE_MBX_CQ_QLEN - ptrDist (s.get HIVE_MBX_CQ_QLEN) (s.get HIVE_MBX_CQ_PTR_HEAD) (s.get HIVE_MBX_CQ_PTR_TAIL) - s.hostTx.length

/-- The lowest free tag of the host's range 0 to 55 or the device's own range 56 to 63 (R155). -/
def State.freeTag (s : State) (host : Bool) : Option Nat :=
  (if host then List.range 56 else (List.range 8).map (· + 56)).find? (fun t => s.hive.tx.all (fun x => x.tag != t))

/-- Frames waiting at a ring end. -/
def State.queuedAt (s : State) (r : Nat) (endB : Bool) : Nat :=
  (s.hive.tx.filter (fun t => t.queued && t.ring == r && s.mbxEnd r t.pos == some endB)).length

/-- Whether a position has room under PER_CELL (R155). -/
def State.perCellOk (s : State) (r p : Nat) : Bool :=
  decide ((s.hive.tx.filter (fun t => t.ring == r && t.pos == p)).length < s.get HIVE_MBX_CFG_PER_CELL)

/-- Keep INFLIGHT equal to the transactions issued. -/
def State.countTx (s : State) : State := s.set HIVE_MBX_STAT_INFLIGHT s.hive.tx.length

/-- Issue a transaction under a tag; the tag's GEN advances (R155); in a pair its upper bit is PAIR_ID (R520). -/
def State.issue (s : State) (tag : Nat) (t : MbxTx) : State :=
  let g := (s.hive.gens.getD tag 0 + 1) % 4
  let g := if s.en .part then 2 * s.get PART_STAT_PAIR_ID + g % 2 else g
  { s with hive := { s.hive with gens := s.hive.gens.set tag g, tx := s.hive.tx ++ [{ t with tag := tag, gen := g, tries := 0, queued := true }] } }.countTx

/-- Whether the transmit queue of the end that carries a position's mailbox traffic has a place (R157, R160). -/
def State.endPlace (s : State) (r p : Nat) : Bool :=
  match s.mbxEnd r p with | some e => decide (s.queuedAt r e < 8) | none => false

/-- The first internal request that can be issued: requests to one position in order (R155, R160). -/
def State.ripe (s : State) : List MbxTx → List (Nat × Nat) → Option MbxTx
  | [], _ => none
  | t :: ts, held =>
    if !held.contains (t.ring, t.pos) && s.perCellOk t.ring t.pos && s.endPlace t.ring t.pos then some t
    else s.ripe ts ((t.ring, t.pos) :: held)

/-- Issue internal requests that wait while tags and places are free (R155). -/
def State.pumpGo : Nat → State → State
  | 0, s => s
  | n + 1, s =>
    match s.freeTag false, s.ripe s.hive.waiting [] with
    | some tag, some t => ({ s with hive := { s.hive with waiting := s.hive.waiting.erase t } }.issue tag t).pumpGo n
    | _, _ => s

/-- Internal requests to positions without a path complete as unreachable, unsent (R169); the others are issued as far as they can be. -/
def State.pump (s : State) : State :=
  let lost := s.hive.waiting.filter (fun t => s.cutOff t.ring t.pos)
  State.pumpGo 8 (({ s with hive := { s.hive with waiting := s.hive.waiting.filter (fun t => !s.cutOff t.ring t.pos) } } : State).addSat HIVE_MBX_STAT_DONE lost.length)

/-- Queue an internal request of CELL (1) or CAL (2). -/
def State.request (s : State) (owner r p op addr : Nat) (data : List Byte) (len notBefore : Nat) : State :=
  let t : MbxTx := ⟨0, 0, r, p, op, addr, len, data, [], owner, 0, false, 0, 0, notBefore⟩
  ({ s with hive := { s.hive with waiting := s.hive.waiting ++ [t] } } : State).pump

/-- Write a completion entry (R157, R158). -/
def State.writeCompletion (s : State) (t : MbxTx) (status : Nat) (data : List Byte) : State :=
  let p := s.get HIVE_MBX_CQ_PTR_TAIL
  let e : List Byte := [BitVec.ofNat 8 t.ring, BitVec.ofNat 8 t.pos, BitVec.ofNat 8 status, BitVec.ofNat 8 t.len] ++ leBytes 4 t.addr
    ++ slice data 0 32 ++ slice t.user 0 4 ++ [BitVec.ofNat 8 t.tries, BitVec.ofNat 8 (t.tag + 64 * t.gen)] ++ leBytes 2 (s.get SYS_CYC_NUM_CYC)
  (s.store (entryAt (s.get HIVE_MBX_CQ_BASE) p) (slice e 0 64)).set HIVE_MBX_CQ_PTR_TAIL (ptrNext (s.get HIVE_MBX_CQ_QLEN) p)

/-- A transaction completes: its tag is free again, and a host's completion entry is written. -/
def State.complete (s : State) (t : MbxTx) (status : Nat) (data : List Byte) : State :=
  let s := { s with hive := { s.hive with tx := s.hive.tx.filter (fun x => x.tag != t.tag) } }
  let s := if t.owner = 0 then s.writeCompletion t status data else s
  ((s.inc HIVE_MBX_STAT_DONE).countTx).pump

/-- The statuses of R159. -/
def MBX_TIMEOUT : Nat := 0x80
def MBX_UNREACHABLE : Nat := 0x81
def MBX_INVALID : Nat := 0x82

/-- Every transaction to a position without a path completes as unreachable (R169). -/
def State.dropUnreachable (s : State) (r : Nat) : State :=
  ((s.hive.tx.filter (fun t => t.ring == r && s.cutOff r t.pos)).foldl (fun s t => s.complete t MBX_UNREACHABLE []) s).pump

/-- A submission entry as a transaction (R158). -/
def sqEntry (e : List Byte) : MbxTx :=
  ⟨0, 0, byteAt e 0, byteAt e 1, byteAt e 2, leAt e 4 4, byteAt e 3, slice e 8 (min 32 (byteAt e 3)), slice e 40 4, 0, 0, false, 0, 0, 0⟩

/-- Whether a transaction has no path to go, or a host's is for a slot in BYPASSED or ABSENT (R159, R169). -/
def State.unreachable (s : State) (t : MbxTx) : Bool :=
  let st := (s.slotAt t.ring t.pos).map (fun i => s.get CELL_SSTAT_STATE i)
  s.cutOff t.ring t.pos || (t.owner == 0 && (st == some 6 || st == some 0))

/-- The status an entry completes with before anything is sent, if it does (R159). -/
def State.sqJudge (s : State) (t : MbxTx) : Option Nat :=
  if !(decide (t.ring < 12) && s.flag HIVE_RCTL_RING_EN t.ring) || decide (s.ncell t.ring ≤ t.pos) || decide (t.len = 0) || decide (32 < t.len)
      || !([1, 2, 3].contains t.op) then some MBX_INVALID
  else if s.unreachable t then some MBX_UNREACHABLE else none

/-- The first submission entry that may be taken, with its pointer: entries that lack only their ring end's place are passed over, and entries for one position stay in order (R157). -/
def State.sqPick (s : State) : List Nat → List (Nat × Nat) → Option (Nat × MbxTx)
  | [], _ => none
  | p :: ps, held =>
    if s.hive.taken.contains p then s.sqPick ps held
    else
      let t := sqEntry (s.bytes (entryAt (s.get HIVE_MBX_SQ_BASE) p) 64)
      if held.contains (t.ring, t.pos) then s.sqPick ps held
      else if (s.sqJudge t).isSome || s.poisoned (entryAt (s.get HIVE_MBX_SQ_BASE) p) 64 then some (p, t)
      else if !s.perCellOk t.ring t.pos then none
      else if s.endPlace t.ring t.pos then some (p, t)
      else s.sqPick ps ((t.ring, t.pos) :: held)

/-- Move HEAD past the entries taken. -/
def State.sqAdvance : Nat → State → State
  | 0, s => s
  | n + 1, s =>
    let h := s.get HIVE_MBX_SQ_PTR_HEAD
    if s.hive.taken.contains h then
      ({ s with hive := { s.hive with taken := s.hive.taken.filter (· != h) } }.set HIVE_MBX_SQ_PTR_HEAD (ptrNext (s.get HIVE_MBX_SQ_QLEN) h)).sqAdvance n
    else s

/-- HIVE takes one submission entry when a tag, a completion entry and a queue place are free (R157). A poisoned entry completes as INVALID (R495). -/
def opSqEntryTake (s : State) : State :=
  let q := s.get HIVE_MBX_SQ_QLEN
  let h := s.get HIVE_MBX_SQ_PTR_HEAD
  let ps := ptrsFrom q (ptrDist q h (s.get HIVE_MBX_SQ_PTR_TAIL)) h
  if s.en .hive && decide (0 < s.cqFree) then
    match s.freeTag true, s.sqPick ps [] with
    | some tag, some (p, t) =>
      let l := s.load 2 (entryAt (s.get HIVE_MBX_SQ_BASE) p) 64
      let s := { l.2.2 with hive := { l.2.2.hive with taken := l.2.2.hive.taken ++ [p] } }
      let verdict := if l.2.1 then some MBX_INVALID else s.sqJudge t
      let s := s.issue tag t
      let s := match verdict with
        | some st => s.complete { t with tag := tag, gen := s.hive.gens.getD tag 0 } st []
        | none => s
      s.sqAdvance 256
    | _, _ => s
  else s

/-- R157 SQ_ENTRY_TAKE. -/
def execSqEntryTake (s : State) : Host.Outcome State Fault Refusal := .next (s.live (opSqEntryTake s))

/-- A write of the submission queue's TAIL (R157, R160, R175). -/
def opSqTailWrite (v : Nat) (s : State) : Bool × State :=
  if s.get HIVE_MBX_SQ_QLEN ≤ v % 256 then (false, (s.refuseC .hive RANGE 0x12 0x08).raiseC SRC_HIVE_SQ_REFUSED)
  else if !ptrAhead (s.get HIVE_MBX_SQ_PTR_HEAD) v then (false, (s.refuse .hive 0x0524 0x12 0x08).raiseC SRC_HIVE_SQ_REFUSED)
  else (true, s.set HIVE_MBX_SQ_PTR_TAIL v)

/-- R157 SQ_TAIL_WRITE. -/
def execSqTailWrite (tail : BitVec 9) (s : State) : Host.Outcome State Fault Refusal := .next (s.live (opSqTailWrite tail.toNat s).2)

/-- A write of the completion queue's HEAD (R174, R175). -/
def opCqHeadWrite (v : Nat) (s : State) : Bool × State :=
  if s.get HIVE_MBX_CQ_QLEN ≤ v % 256 then (false, s.refuseC .hive RANGE 0x12 0x10) else (true, s.set HIVE_MBX_CQ_PTR_HEAD v)

/-- R174 CQ_HEAD_WRITE. -/
def execCqHeadWrite (head : BitVec 9) (s : State) : Host.Outcome State Fault Refusal := .next (s.live (opCqHeadWrite head.toNat s).2)

/-- Send one queued request frame (R141, R152). -/
def State.launch (s : State) (t : MbxTx) (data : List Byte) (endB : Bool) : State :=
  let t1 := { t with data := data }
  let t2 := { t1 with tries := t.tries + 1, queued := false, lastCyc := s.get SYS_CYC_NUM_CYC, sentAt := s.now }
  { s with hive := { s.hive with tx := s.hive.tx.map (fun x => if x.tag == t.tag then t2 else x), started := s.hive.started + 1,
                                 sent := s.hive.sent ++ [(t.ring, endB, mbxFrame t1 endB)] } }

/-- Whether a transaction is CELL's SYNC, launched by FE_SYNC_LAUNCH (R181). -/
def isSync (t : MbxTx) : Bool := t.owner == 1 && t.op == 3 && t.addr == 1

/-- The queued requests of a ring end in the order in which it sends them: retries first, then in the order of submission (R155, R156). -/
def State.lineUp (s : State) (r : Nat) (endB : Bool) : List MbxTx :=
  let mine := s.hive.tx.filter (fun x => x.queued && x.ring == r && s.mbxEnd r x.pos == some endB)
  mine.filter (fun x => decide (0 < x.tries)) ++ mine.filter (fun x => decide (x.tries = 0))

/-- Whether the Tight profile's 4 request frames a cycle leave room for one more: retries that wait at any end go before first sends (R156). -/
def State.roomFor (s : State) (x : MbxTx) : Bool :=
  let retries := (s.hive.tx.filter (fun y => y.queued && decide (0 < y.tries) && !s.unreachable y)).length
  !s.tight || decide (s.hive.started + (if x.tries = 0 then retries else 0) < 4)

/-- Launch frames of a ring end one after another while they may start (R146, R147, R156); a queued request that has become unreachable completes unsent (R159). -/
def State.launchGo : Nat → Nat → Bool → Nat → List (Nat × Nat) → State → State
  | 0, _, _, _, _, s => s
  | n + 1, r, endB, t, held, s =>
    match (s.lineUp r endB).find? (fun x => !held.contains (x.ring, x.pos)) with
    | none => s
    | some x =>
      if s.unreachable x then State.launchGo n r endB t held (s.complete x MBX_UNREACHABLE [])
      else if !s.mbxMayStart r t || !s.roomFor x then s
      else if isSync x || decide (s.samp + t < x.notBefore) then State.launchGo n r endB t ((x.ring, x.pos) :: held) s
      else State.launchGo n r endB (t + 880) held ((s.advanceTo (s.samp + t)).launch x x.data endB)

/-- A ring end starts its queued mailbox frames, `t` ns after the sampling instant (R146). -/
def opMbxWindowLaunch (r : Nat) (endB : Bool) (t : Nat) (s : State) : State :=
  if s.hiveDrives && s.ringOn r then
    State.launchGo 128 r endB t [] (({ s with hive := { s.hive with sent := [] } } : State).advanceTo (s.samp + t))
  else s

/-- R146 MBX_WINDOW_LAUNCH. -/
def execMbxWindowLaunch (r : Fin 12) (endB : Bool) (t : Nat) (s : State) : Host.Outcome State Fault Refusal :=
  .next (s.live (opMbxWindowLaunch r.val endB t s))

/-- HIVE launches a slot's SYNC `t` ns after the sampling instant if the frame ends before the next beat, with one frame's queuing in a front end and every hop of its path; DATA names the launching cycle plus 4, and the front end counts its beats from the request's last byte (R181). No request queued earlier for the position is overtaken (R155). -/
def opFeSyncLaunch (slot t : Nat) (s : State) : State :=
  let r := s.get CELL_SCFG_RING slot
  let p := s.get CELL_SCFG_POS slot
  match s.mbxEnd r p with
  | some endB =>
    match (s.lineUp r endB).find? (fun x => x.pos == p) with
    | some x =>
      let at' := s.get SYS_CYC_TIMING_SAMPLE_OFS + t
      if isSync x && s.hiveDrives && s.ringOn r && s.mbxMayStart r t && s.roomFor x
          && decide (16 * (at' + 2 * 880) + s.pathDelay r p endB < 16 * s.period) then
        let s := ({ s with hive := { s.hive with sent := [] } } : State).advanceTo (s.samp + t)
        let c := (s.get SYS_CYC_NUM_CYC + 4) % 2 ^ 32
        let e := s.fe slot
        (s.setFe slot { e with sync := some (4, c, false), wait := if e.wait.isSome then some c else none }).launch x (leBytes 4 c) endB
      else s
    | none => s
  | none => s

/-- R181 FE_SYNC_LAUNCH. -/
def execFeSyncLaunch (slot : Fin 192) (t : Nat) (s : State) : Host.Outcome State Fault Refusal := .next (s.live (opFeSyncLaunch slot.val t s))

/-- A transaction without a response at the end of its response time: retried, or complete with TIMEOUT (R152). Cycle numbers compare within half their range (R17). -/
def opMbxRspTimeout (tag : Nat) (s : State) : State :=
  match s.hive.tx.find? (fun x => x.tag == tag && !x.queued && decide (0 < x.tries)) with
  | some t =>
    let d := (s.get SYS_CYC_NUM_CYC + 2 ^ 32 - t.lastCyc) % 2 ^ 32
    if s.en .hive && decide (s.get HIVE_MBX_CFG_RSP_TMO ≤ d) && decide (d < 2 ^ 31) then
      if s.unreachable t then s.complete t MBX_UNREACHABLE []
      else if t.tries ≤ s.get HIVE_MBX_CFG_RETRIES then
        { s with hive := { s.hive with tx := s.hive.tx.map (fun x => if x.tag == tag then { x with queued := true } else x) } }
      else (s.complete t MBX_TIMEOUT []).raise SRC_HIVE_MBX_TIMEOUT t.ring
    else s
  | none => s

/-- R152 MBX_RSP_TIMEOUT. -/
def execMbxRspTimeout (tag : Fin 64) (s : State) : Host.Outcome State Fault Refusal := .next (s.live (opMbxRspTimeout tag.val s))

/-! Reports (R140, R151, R153). -/

/-- The place of a slot's report in the report store (R160, R491). -/
def reportAddr (slot : Nat) : Nat := BANK_CTL + 36 * slot

/-- The place of a slot's waggle frame in the waggle store. -/
def waggleAddr (slot : Nat) : Nat := BANK_CTL + 0x4000 + 20 * slot

/-- The report last delivered for a slot. -/
def State.report (s : State) (slot : Nat) : List Byte := s.bytes (reportAddr slot) 36

def repCyc (f : List Byte) : Nat := leAt f 2 4
/-- Measurement `k` of a report: VDC, IAC, IDAB, VOUT, TEMP, VGATE, 18 bits signed. -/
def repMeas (f : List Byte) (k : Nat) : Int := signed 18 (leAt f (6 + 3 * k) 3)
def repState (f : List Byte) : Nat := byteAt f 24 % 16
def repCoast (f : List Byte) : Nat := byteAt f 24 / 16
def repSel (f : List Byte) : Nat := byteAt f 25 % 16
def repMoving (f : List Byte) : Bool := bitOf (byteAt f 25) 4
def repFlt (f : List Byte) : Nat := leAt f 26 2
def repSkew (f : List Byte) : Bool := bitOf (byteAt f 28) 7

/-- The front end's state as its report shows it; the report carries its own count of cycles (R193, R194). -/
def State.feSync (s : State) (slot : Nat) (f : List Byte) : State :=
  let e := s.fe slot
  let st := if 1 ≤ repState f ∧ repState f ≤ 7 then repState f else e.st
  let wait := match e.wait with | some c => if (repCyc f + 2 ^ 32 - c) % 2 ^ 32 < 2 ^ 31 then none else some c | none => none
  s.setFe slot { e with st := st, coast := repCoast f, blocked := bitOf (repFlt f) 12, byp := bitOf (repFlt f) 15, flt := repFlt f,
                        sel := repSel f, cyc := some (repCyc f), wait := wait }

/-- A ring's note that a position has sent a valid report of a cycle. -/
def RingSt.note (x : RingSt) (p c : Nat) : RingSt := { x with last := (p, c) :: x.last.filter (fun (q : Nat × Nat) => q.1 != p) }

/-- A valid report that is not a duplicate is stored and counts as a delivery; one that comes after its ring has been judged is a delivery all the same in stretched service (R151, R160, R168). -/
def State.deliver (s : State) (r p slot : Nat) (f : List Byte) : State :=
  let x := s.ringSt r
  let y := { x with delivered := x.delivered ++ [p], late := if s.cyc.computed then x.late ++ [p] else x.late }
  let s := ((s.store (reportAddr slot) f).setRingSt r (y.note p (repCyc f))).feSync slot f
  if x.judged then (s.setPk HIVE_RMISS_MISS_RUN 8 4 p 0 r).set HIVE_RSTAT_MISS (s.get HIVE_RSTAT_MISS r &&& (0xFFFF - 1 <<< p)) r else s

/-- A REPORT arrives at a ring end (R137, R140, R153, R160, R168). A second valid one of a position and cycle is a duplicate, whenever it comes; a late one is a stray. -/
def opReportRx (r : Nat) (f : List Byte) (s : State) : State :=
  if s.ringOn r then
    if !validFrame 0x5C 36 f then s.crcErr r
    else
      let p := framePos f
      let x := s.ringSt r
      match (if p < s.ncell r then s.slotAt r p else none) with
      | none => s.stray r
      | some slot =>
        let inTime := !s.hive.windowOver || s.get HIVE_RSTAT_MODE r == 3
        if x.last.contains (p, repCyc f) then s.inc HIVE_RCNT2_DUP r
        else if repCyc f ≠ s.get SYS_CYC_NUM_CYC ∨ inTime = false then (s.setRingSt r (x.note p (repCyc f))).stray r
        else (s.deliver r p slot f).raiseIf (repSkew f) SRC_HIVE_BEAT_SKEW r
  else s

/-- R140 REPORT_RX. -/
def execReportRx (r : Fin 12) (frame : List (BitVec 8)) (s : State) : Host.Outcome State Fault Refusal := .next (s.live (opReportRx r.val frame s))

/-- A serving end finds a report missing `t` ns after the sampling instant: it recalls it if the repeat can still arrive in time and the cycle's recalls are not used up (R148, R150). -/
def opReportMissing (r p t : Nat) (s : State) : State :=
  let x := s.ringSt r
  match s.serveEnd r p with
  | some endB =>
    let made := if endB then x.recallB else x.recallA
    if s.hiveDrives && s.ringOn r && decide (p < s.ncell r) && !x.delivered.contains p && s.get HIVE_RSTAT_MODE r != 3
        && decide (made < s.get HIVE_CFG_RPT_RETRY) && decide (16 * (t + 160 + 100 + 1440) + 2 * s.pathDelay r p endB ≤ 16 * s.tReports) then
      let s := s.advanceTo (s.samp + t)
      let s := s.setRingSt r (if endB then { x with recallB := made + 1 } else { x with recallA := made + 1 })
      (s.inc HIVE_RCNT_RETRY r).sends [(r, endB, recallFrame p endB (s.get SYS_CYC_NUM_CYC))]
    else s
  | none => s

/-- R148 REPORT_MISSING. -/
def execReportMissing (r : Fin 12) (p : Fin 16) (t : Nat) (s : State) : Host.Outcome State Fault Refusal := .next (s.live (opReportMissing r.val p.val t s))

/-- Whether misses count for a slot: CELL does not hold it in BYPASSED or ABSENT (R151), and no SYNC of a step of time is awaited (R560). -/
def State.countsMisses (s : State) (slot : Nat) : Bool :=
  let st := s.get CELL_SSTAT_STATE slot
  st != 6 && st != 0 && (s.fe slot).wait.isNone

/-- One position at the end of its report window: a delivery or a miss (R151). Answers the slot when the run reaches CELL_TMO. -/
def State.windowPos (s : State) (r p : Nat) : List Nat × State :=
  match s.slotAt r p with
  | none => ([], s)
  | some slot =>
    let got := (s.ringSt r).delivered.contains p
    let l := if got then s.load 2 (reportAddr slot) 36 else ([], false, s)
    let s := l.2.2
    if got && !l.2.1 then ([], s.setPk HIVE_RMISS_MISS_RUN 8 4 p 0 r)
    else if s.countsMisses slot then
      let run := min 15 (s.getPk HIVE_RMISS_MISS_RUN 8 4 p r + 1)
      let old := s.getPk HIVE_RMISS_MISS_RUN 8 4 p r
      let s := (s.setPk HIVE_RMISS_MISS_RUN 8 4 p run r).set HIVE_RSTAT_MISS (s.get HIVE_RSTAT_MISS r ||| 1 <<< p) r
      let s := s.setRingSt r { s.ringSt r with delivered := (s.ringSt r).delivered.filter (· != p) }
      if run = s.get HIVE_CFG_CELL_TMO ∧ old ≠ run then ([slot], s.raise SRC_HIVE_CELL_TIMEOUT r) else ([], s)
    else ([], s)

/-- The end of the report window of a ring: the slots handed to CELL. A ring is judged once in a cycle. -/
def State.windowRing (s : State) (r : Nat) : List Nat × State :=
  if (s.ringSt r).judged then ([], s)
  else
    let s := s.setRingSt r { s.ringSt r with judged := true }
    (List.range (s.ncell r)).foldl (fun a p => let b := a.2.windowPos r p; (a.1 ++ b.1, b.2)) ([], s.set HIVE_RSTAT_MISS 0 r)

/-! BLOCK frames (R161). -/

/-- A BLOCK reaches a slot's front end: ACTIVE, COAST and READY go to READY with both bridges blocked; any state sets BLOCKED (R184, R200). -/
def State.feBlock (s : State) (slot : Nat) : State :=
  let e := s.fe slot
  let st := if e.st = 4 ∨ e.st = 5 then 3 else e.st
  s.setFe slot { e with st := st, blocked := true, dabBlocked := true, flt := e.flt ||| 0x1000 }

/-- Put the current BLOCK on both ends of every enabled ring (R161); each end awaits the other's. -/
def State.blockOut (s : State) : State :=
  if s.hiveDrives then
    let cause := s.get HIVE_BLOCK_CAUSE
    let seq := s.get HIVE_BLOCK_SEQ
    let s := s.sends (s.enRings.flatMap (fun r => [(r, false, blockFrame false cause seq), (r, true, blockFrame true cause seq)]))
    let s := s.enRings.foldl (fun s r =>
      let x := s.ringSt r
      s.setRingSt r { x with echo := if x.breaks.isEmpty then [false, true] else [] }) s
    s.enSlots.foldl (fun s i =>
      let r := s.get CELL_SCFG_RING i
      if s.flag HIVE_RCTL_RING_EN r && !s.cutOff r (s.get CELL_SCFG_POS i) then s.feBlock i else s) s
  else s

/-- The SEQ after another: in a pair its bit 15 is PAIR_ID (R520). -/
def State.seqAfter (s : State) (q : Nat) : Nat :=
  if s.en .part then (q + 1) % 0x8000 + 0x8000 * s.get PART_STAT_PAIR_ID else q + 1

/-- A request to block: a new SEQ, repeated while it stands (R161). -/
def State.block (s : State) (cause : Nat) : State :=
  let s := ((s.set HIVE_BLOCK_ACTIVE 1).set HIVE_BLOCK_CAUSE cause).set HIVE_BLOCK_SEQ (s.seqAfter (s.get HIVE_BLOCK_SEQ))
  s.blockOut

/-- The request to block ends. -/
def State.unblock (s : State) : State := s.set HIVE_BLOCK_ACTIVE 0

/-- The BLOCK is repeated every BLOCK_REP µs while the request stands (R161). -/
def opBlockRepeat (s : State) : State := if s.flag HIVE_BLOCK_ACTIVE then s.blockOut else s

/-- R161 BLOCK_REPEAT. -/
def execBlockRepeat (s : State) : Host.Outcome State Fault Refusal := .next (s.live (opBlockRepeat s))

/-- The other end's BLOCK arrives through the ring at an end (R161). -/
def opBlockEchoRx (r : Nat) (endB : Bool) (f : List Byte) (s : State) : State :=
  if s.ringOn r then
    if !validFrame 0xDC 8 f then s.crcErr r
    else if leAt f 4 2 = s.get HIVE_BLOCK_SEQ ∧ frameEnd f ≠ endB then
      s.setRingSt r { s.ringSt r with echo := (s.ringSt r).echo.filter (· != endB) }
    else s
  else s

/-- R161 BLOCK_ECHO_RX. -/
def execBlockEchoRx (r : Fin 12) (endB : Bool) (frame : List (BitVec 8)) (s : State) : Host.Outcome State Fault Refusal :=
  .next (s.live (opBlockEchoRx r.val endB frame s))

/-- 5 µs without the other end's BLOCK on a ring that is not broken (R161). -/
def opBlockEchoTimeout (r : Nat) (endB : Bool) (s : State) : State :=
  let x := s.ringSt r
  if s.ringOn r && x.echo.contains endB then
    (s.setRingSt r { x with echo := x.echo.filter (· != endB) }).raiseIf x.breaks.isEmpty SRC_HIVE_BLOCK_ECHO r
  else s

/-- R161 BLOCK_ECHO_TIMEOUT. -/
def execBlockEchoTimeout (r : Fin 12) (endB : Bool) (s : State) : Host.Outcome State Fault Refusal := .next (s.live (opBlockEchoTimeout r.val endB s))

/-! Waggle trains (R145, R149). -/

/-- The waggle frame of a slot as sent: END and RPT go into the header, the CRC closes it (R138, R139). -/
def waggleFrame (body : List Byte) (p : Nat) (endB rpt : Bool) : List Byte :=
  withCrc (([0x1C#8, header p endB rpt false] : List Byte) ++ slice body 2 16)

/-- Send one slot's waggle frame, launched `t` ns after the sampling instant; its last byte reaches the front end one frame and the path delay later. A poisoned store entry is not sent (R495): answers whether a frame left. -/
def State.sendWaggle (s : State) (slot : Nat) (endB rpt : Bool) (t : Nat) : Bool × State :=
  let l := s.load 2 (waggleAddr slot) 20
  let s := l.2.2
  if l.2.1 then (false, s)
  else
    let r := s.get CELL_SCFG_RING slot
    let p := s.get CELL_SCFG_POS slot
    let f := waggleFrame l.1 p endB rpt
    let s := { s with hive := { s.hive with sent := s.hive.sent ++ [(r, endB, f)] } }
    let e := s.fe slot
    (true, s.setFe slot { e with frame := match e.frame with | some g => some g | none => some (f, 16 * (t + 400) + s.pathDelay r p endB) })

/-- The train of one ring end: frames back to back from an instant. -/
def State.train (s : State) (r : Nat) (endB : Bool) : List Nat → Nat → State
  | [], _ => s
  | p :: ps, t =>
    match s.slotAt r p with
    | some slot =>
      if s.hive.frames.contains slot then
        let w := s.sendWaggle slot endB false t
        w.2.train r endB ps (if w.1 then t + 400 else t)
      else s.train r endB ps t
    | none => s.train r endB ps t

/-- Each serving end sends its waggle frames back to back from the step 6 window, in ascending order of hop distance, descending in stretched service (R145, R168). -/
def opWaggleTrainStart (s : State) : State :=
  if s.hiveDrives && s.running && !s.cyc.suspended then
    let s := ({ s with hive := { s.hive with sent := [] } } : State).advanceTo (s.samp + s.tTrain)
    s.enRings.foldl (fun s r =>
      [false, true].foldl (fun s endB =>
        let ps := s.served r endB
        s.train r endB (if s.get HIVE_RSTAT_MODE r = 3 then ps.reverse else ps) s.tTrain) s) s
  else s

/-- R145 WAGGLE_TRAIN_START. -/
def execWaggleTrainStart (s : State) : Host.Outcome State Fault Refusal := .next (s.live (opWaggleTrainStart s))

/-- One resend of an end, launched when its line is free and not before the resend window or the present instant, if its cycle's resends are not used up and it can still arrive before the apply point (R149, R150). A frame that the store cannot give counts as none. -/
def State.resendOne (s : State) (r : Nat) (endB : Bool) (p : Nat) : State :=
  let x := s.ringSt r
  let made := if endB then x.resB else x.resA
  let t := max (max s.tResend made.2) (s.now - s.samp)
  match s.slotAt r p with
  | some slot =>
    if s.hive.frames.contains slot && decide (made.1 < s.get HIVE_CFG_WAG_RETRY) && decide (16 * (t + 400 + 100) + s.pathDelay r p endB ≤ 16 * s.applyAt)
        && decide (t ≤ s.tResendEnd) && s.get HIVE_RSTAT_MODE r != 3 then
      let w := s.sendWaggle slot endB true t
      if w.1 then
        let y := w.2.ringSt r
        (w.2.setRingSt r (if endB then { y with resB := (made.1 + 1, t + 400) } else { y with resA := (made.1 + 1, t + 400) })).inc HIVE_RCNT_RETRY r
      else w.2
    else s
  | none => s

/-- A NAK arrives at a serving end and queues a resend, which follows at once within the resend window (R149); its front end holds no frame. A ring in stretched service counts it and does not answer (R168). -/
def opNakRx (r : Nat) (endB : Bool) (f : List Byte) (s : State) : State :=
  if s.ringOn r then
    if !validFrame 0x9C 4 f then s.crcErr r
    else
      let p := framePos f
      match (if p < s.ncell r then s.slotAt r p else none) with
      | none => s.stray r
      | some slot =>
        let s := s.setFe slot { s.fe slot with frame := none }
        let x := s.ringSt r
        if s.get HIVE_RSTAT_MODE r = 3 then s.setRingSt r { x with nakCnt := x.nakCnt + 1 }
        else if s.hive.resends && s.hiveDrives && s.running && !s.cyc.suspended then
          ({ s with hive := { s.hive with sent := [] } } : State).resendOne r endB p
        else s.setRingSt r { x with naks := x.naks ++ [(p, endB)] }
  else s

/-- R149 NAK_RX. -/
def execNakRx (r : Fin 12) (endB : Bool) (frame : List (BitVec 8)) (s : State) : Host.Outcome State Fault Refusal :=
  .next (s.live (opNakRx r.val endB frame s))

/-- The resend window of step 7 opens: the NAKs that have come are answered in order of arrival (R149). -/
def opWaggleResendWindow (s : State) : State :=
  if s.hiveDrives && s.running && !s.cyc.suspended then
    let s := ({ s with hive := { s.hive with sent := [], resends := true } } : State).advanceTo (s.samp + s.tResend)
    s.enRings.foldl (fun s r =>
      let naks := (s.ringSt r).naks
      naks.foldl (fun s (q : Nat × Bool) => s.resendOne r q.2 q.1) (s.setRingSt r { s.ringSt r with naks := [] })) s
  else s

/-- R149 WAGGLE_RESEND_WINDOW. -/
def execWaggleResendWindow (s : State) : Host.Outcome State Fault Refusal := .next (s.live (opWaggleResendWindow s))

/-! Breaks (R166 to R170). -/

/-- Whether the breaks put a ring into stretched service: Tight, and a fragment of more than 4 positions (R168). -/
def State.stretched (s : State) (r : Nat) (hops : List Nat) : Bool :=
  let n := s.ncell r
  s.tight && !hops.isEmpty && [false, true].any (fun e => decide (4 < ((List.range n).filter (fun p => reachEnd hops p == some e)).length))

/-- HIVE declares a break of a hop (R166, R168, R169). A break of which the other side has told is not declared again; a hop that breaks after it was reported healed is (R170). -/
def State.declareBreak (s : State) (r hop : Nat) : State :=
  let x := s.ringSt r
  if x.breaks.contains hop && !x.healed.contains hop then s
  else if x.breaks.contains hop then
    (s.setRingSt r { x with healed := x.healed.filter (· != hop), lastBreak := s.now, rekey := 0, restore := false, echo := [] }).raise SRC_HIVE_BREAK r
  else
    let hops := x.breaks ++ [hop]
    let s := s.setRingSt r { x with breaks := hops, healed := x.healed.filter (· != hop), lastBreak := s.now, rekey := 0, restore := false, echo := [] }
    let s := if x.breaks.isEmpty then s.set HIVE_RSTAT_BREAK_HOP hop r else s
    let s := if x.breaks.isEmpty then s else s.set HIVE_RSTAT_MULTI 1 r
    let s := s.set HIVE_RSTAT_MODE (if s.stretched r hops then 3 else 2) r
    (s.raise SRC_HIVE_BREAK r).dropUnreachable r

/-- A hop is reported healed: HIVE re-keys once every break is (R170). -/
def State.healHop (s : State) (r hop : Nat) : State :=
  let x := s.ringSt r
  if x.breaks.contains hop then
    s.setRingSt r { x with healed := if x.healed.contains hop then x.healed else x.healed ++ [hop], rekey := 1 }
  else s

/-- A BREAK arrives at a device end (R142, R166, R170): the hop is at the sender's A side or B side. -/
def opBreakRx (r : Nat) (f : List Byte) (s : State) : State :=
  if s.ringOn r then
    if !validFrame 0xFC 8 f then s.crcErr r
    else
      let b := byteAt f 2
      let hop := b % 16 + b2n (bitOf b 4)
      if bitOf b 5 then s.healHop r hop else s.declareBreak r hop
  else s

/-- R166 BREAK_RX. -/
def execBreakRx (r : Fin 12) (frame : List (BitVec 8)) (s : State) : Host.Outcome State Fault Refusal := .next (s.live (opBreakRx r.val frame s))

/-- The hop adjacent to a device end. -/
def State.endHop (s : State) (r : Nat) (endB : Bool) : Nat := if endB then s.ncell r else 0

/-- A device end loses lock and acts as a break of the adjacent hop (R166, R172). -/
def opEndLockLoss (r : Nat) (endB : Bool) (s : State) : State :=
  if s.ringOn r then
    let s := if endB then s.set HIVE_RSTAT_B_UP 0 r else s.set HIVE_RSTAT_A_UP 0 r
    s.declareBreak r (s.endHop r endB)
  else s

/-- R166 END_LOCK_LOSS. -/
def execEndLockLoss (r : Fin 12) (endB : Bool) (s : State) : Host.Outcome State Fault Refusal := .next (s.live (opEndLockLoss r.val endB s))

/-- A device end regains lock: A_UP or B_UP returns to 1, and the adjacent hop is healed (R170, R172). -/
def opEndLockRegain (r : Nat) (endB : Bool) (s : State) : State :=
  if s.ringOn r then
    let s := if endB then s.set HIVE_RSTAT_B_UP 1 r else s.set HIVE_RSTAT_A_UP 1 r
    s.healHop r (s.endHop r endB)
  else s

/-- R172 END_LOCK_REGAIN. -/
def execEndLockRegain (r : Fin 12) (endB : Bool) (s : State) : Host.Outcome State Fault Refusal := .next (s.live (opEndLockRegain r.val endB s))

/-- Fragment service takes effect (R167). -/
def opFragmentService (r : Nat) (s : State) : State := s.setRingSt r { s.ringSt r with served := (s.ringSt r).breaks }

/-- R167 FRAGMENT_SERVICE. -/
def execFragmentService (r : Fin 12) (s : State) : Host.Outcome State Fault Refusal := .next (s.live (opFragmentService r.val s))

/-- Hop delays from path delays, in 1/16 ns: hop 0 is the first path delay (R163). -/
def hopDelays (ds : List Int) : List Int := (ds.zip (0 :: ds)).map (fun p => p.1 - p.2)

/-- The path delay to each target in turn, averaged over KEY_AVG samples: round trip less TURN, halved, less the device's fixed latencies of 56 ns and the end's asymmetry (R45, R162). The first target without its samples ends the pass. -/
def keyAverages (avg : Nat) (asym : Int) (l : List (Nat × Int)) : Nat → Nat → List Int
  | 0, _ => []
  | n + 1, t =>
    let v := (l.filter (fun (q : Nat × Int) => q.1 == t)).map (fun (q : Nat × Int) => q.2)
    if v.length < avg ∨ avg = 0 then [] else (rdiv (v.take avg).sum (2 * avg) - 56 * 16 - asym) :: keyAverages avg asym l n (t + 1)

/-- The KEY frames of a pass from one end that passes `found` front ends: KEY_AVG for each target, and one that reaches the far end (R162). -/
def State.keySends (s : State) (r : Nat) (endB : Bool) (found : Nat) : List (Nat × Bool × List Byte) :=
  (List.range found).flatMap (fun t => List.replicate (s.get HIVE_KEY_CFG_KEY_AVG) (r, endB, keyFrame s r t endB)) ++ [(r, endB, keyFrame s r found endB)]

/-- The target of a KEY frame that an end sent, by its POS (R133, R138). -/
def State.keyTarget (s : State) (r : Nat) (endB : Bool) (f : List Byte) : Nat :=
  if endB then (s.ncell r + 15 - framePos f) % 16 else framePos f

/-- A KEY frame arrives at an end. An echo, `trip` units of 1/16 ns after its KEY left, gives a sample of its target; a KEY with ECHO = 0 has come through the ring, and the pass from the other end is over (R162). -/
def opKeyEchoRx (r : Nat) (endB : Bool) (f : List Byte) (trip : Nat) (s : State) : State :=
  if s.ringOn r then
    if !validFrame 0xFD 8 f then s.crcErr r
    else
      let x := s.ringSt r
      if !bitOf (byteAt f 3) 0 then s.setRingSt r { x with keyEnd := if x.keyEnd.contains (!endB) then x.keyEnd else x.keyEnd ++ [!endB] }
      else if x.keyEnd.contains endB then s.stray r
      else
        let v : Nat × Int := (s.keyTarget r endB f, (trip : Int) - leAt f 4 2)
        s.setRingSt r (if endB then { x with keyB := x.keyB ++ [v] } else { x with keyA := x.keyA ++ [v] })
  else s

/-- R162 KEY_ECHO_RX. -/
def execKeyEchoRx (r : Fin 12) (endB : Bool) (frame : List (BitVec 8)) (trip : Nat) (s : State) : Host.Outcome State Fault Refusal :=
  .next (s.live (opKeyEchoRx r.val endB frame trip s))

/-- What a keying pass measured: path delays from end A by position, and from end B by distance. -/
def State.keyed (s : State) (r : Nat) : List Int × List Int :=
  let x := s.ringSt r
  let avg := s.get HIVE_KEY_CFG_KEY_AVG
  (keyAverages avg (s.geti HIVE_RCTL_ASYM_A r) x.keyA 16 0, keyAverages avg (s.geti HIVE_RCTL_ASYM_B r) x.keyB 16 0)

/-- Hops 1 to n − 1 as seen from end B agree with those seen from end A (R163). -/
def hopsAgree (tol : Int) (a b : List Int) : Bool :=
  let ha := (hopDelays a).drop 1
  let hb := ((hopDelays b).drop 1).reverse
  (ha.zip hb).all (fun p => decide ((p.1 - p.2).natAbs ≤ tol.natAbs))

/-- Whether a ring is whole when it is keyed: not broken, or every break healed and no running state, so that keying it again ends broken service (R170). -/
def State.ringWhole (s : State) (r : Nat) : Bool :=
  let x := s.ringSt r
  x.breaks.isEmpty || (!s.inRun && x.breaks.all (fun h => x.healed.contains h))

/-- The ring as a pass leaves it. -/
def RingSt.rekeyed (x : RingSt) (whole : Bool) : RingSt :=
  let y := { x with keyA := [], keyB := [], keyEnd := [] }
  if whole then { y with breaks := [], served := [], healed := [], rekey := 0, restore := false } else { y with served := x.breaks }

/-- The results of a keying pass: hop delays checked, FOUND and HIVE_RDLY set (R163, R165). `m` holds the path delays from end A and from end B in 1/16 ns. An end to which an echo came is in lock; a pass without any echo measures no delay. -/
def State.takeKeys (s : State) (r : Nat) (m : List Int × List Int) : State :=
  let n := s.ncell r
  let sent := s.keySends r false m.1.length ++ s.keySends r true m.2.length
  let whole := s.ringWhole r
  let found := if whole then m.1.length else m.1.length + m.2.length
  let x := (s.ringSt r).rekeyed whole
  let s := ((s.sendsMore sent).set HIVE_RSTAT_FOUND found r).raiseIf (found != n) SRC_HIVE_RING_LENGTH r
  let slow := (hopDelays m.1 ++ hopDelays m.2).any (fun h => decide (640 < h))
  let s := if m.1.isEmpty then s else s.set HIVE_RSTAT_A_UP 1 r
  let s := if m.2.isEmpty then s else s.set HIVE_RSTAT_B_UP 1 r
  let fails := fun (s : State) (why : Nat) =>
    (((s.set HIVE_RSTAT_KEYED 0 r).setRingSt r { s.ringSt r with keyA := [], keyB := [], keyEnd := [] }).refuse .hive why r 0x40).raise SRC_HIVE_KEY_FAIL r
  if slow then fails s 0x0520
  else if whole && !hopsAgree (s.get HIVE_KEY_CFG_KEY_TOL) m.1 m.2 then fails s 0x0522
  else
    let s := (List.range n).foldl (fun s p =>
      let s := match m.1[p]? with | some d => s.set HIVE_RDLY_DLY_A d.toNat r p | none => s
      match m.2[n - 1 - p]? with | some d => s.set HIVE_RDLY_DLY_B d.toNat r p | none => s) s
    let s := (s.setb HIVE_RSTAT_KEYED (found != 0) r).setRingSt r x
    if x.breaks.isEmpty then (s.set HIVE_RSTAT_MODE 1 r).set HIVE_RSTAT_MULTI 0 r
    else s.set HIVE_RSTAT_MODE (if s.stretched r x.breaks then 3 else 2) r

/-- The keying pass of a ring: its KEY frames, and what their echoes measured (R162, R163). Primer and a pass in READY run it. -/
def opKeyingPass (r : Nat) (s : State) : State :=
  if s.ringOn r then ({ s with hive := { s.hive with sent := [] } } : State).takeKeys r (s.keyed r) else s

/-- R163 KEYING_PASS. -/
def execKeyingPass (r : Fin 12) (s : State) : Host.Outcome State Fault Refusal := .next (s.live (opKeyingPass r.val s))

/-- The re-keying pass of a healed ring ends: every hop must agree with HIVE_RDLY within KEY_TOL (R170). -/
def opRekeyPass (r : Nat) (s : State) : State :=
  let x := s.ringSt r
  if s.ringOn r && x.rekey == 1 && x.breaks.all (fun h => x.healed.contains h) then
    let m := s.keyed r
    let n := s.ncell r
    let tol := s.get HIVE_KEY_CFG_KEY_TOL
    let near := fun (a b : List Int) => ((hopDelays a).zip (hopDelays b)).all (fun q => decide ((q.1 - q.2).natAbs ≤ tol))
    let oldA := (List.range n).map (fun p => (s.get HIVE_RDLY_DLY_A r p : Int))
    let oldB := (List.range n).map (fun p => (s.get HIVE_RDLY_DLY_B r (n - 1 - p) : Int))
    let ok := decide (m.1.length = n) && decide (m.2.length = n) && near m.1 oldA && near m.2 oldB
    let s := s.sends (s.keySends r false m.1.length ++ s.keySends r true m.2.length)
    let s := s.setRingSt r { x with keyA := [], keyB := [], keyEnd := [], rekey := if ok then 2 else 3 }
    if ok then s else (s.refuse .hive 0x0522 r 0x40).raise SRC_HIVE_KEY_FAIL r
  else s

/-- R170 REKEY_PASS. -/
def execRekeyPass (r : Fin 12) (s : State) : Host.Outcome State Fault Refusal := .next (s.live (opRekeyPass r.val s))

/-- Whether a broken ring meets the conditions that RESTORE and AUTO_HEAL need (R170). -/
def State.healable (s : State) (r : Nat) : Bool :=
  let x := s.ringSt r
  decide (2 ≤ s.get HIVE_RSTAT_MODE r) && x.rekey == 2 && x.breaks.all (fun h => x.healed.contains h)
    && decide (x.lastBreak + s.get HIVE_KEY_CFG_HEAL_HOLD * 1000000 ≤ s.now)

/-- RESTORE asks for the return of a healed ring; refused while its conditions are unmet (R170). -/
def opRingRestore (r : Nat) (s : State) : Bool × State :=
  if s.healable r then (true, s.setRingSt r { s.ringSt r with restore := true }) else (false, s.refuse .hive 0x0525 r 0x00)

/-- R170 RING_RESTORE. -/
def execRingRestore (r : Fin 12) (s : State) : Host.Outcome State Fault Refusal := .next (s.live (opRingRestore r.val s).2)

/-- A healed ring returns to normal service at a cycle start (R170). -/
def opNormalServiceReturn (r : Nat) (s : State) : State :=
  let x := s.ringSt r
  if s.healable r && (s.flag HIVE_RCTL_AUTO_HEAL r || x.restore) then
    ((s.set HIVE_RSTAT_MODE 1 r).set HIVE_RSTAT_MULTI 0 r).setRingSt r { x with breaks := [], served := [], healed := [], rekey := 0, restore := false }
  else s

/-- R170 NORMAL_SERVICE_RETURN. -/
def execNormalServiceReturn (r : Fin 12) (s : State) : Host.Outcome State Fault Refusal := .next (s.live (opNormalServiceReturn r.val s))

/-! Enumeration (R164). -/

/-- A held cycle without a slot: its equations are discarded (R385). -/
def CalSnap.without (c : CalSnap) (i : Nat) : CalSnap :=
  let off := fun (m : Nat × Int × Int × Bool) => if m.1 = i then (m.1, m.2.1, m.2.2.1, false) else m
  { c with iac := c.iac.map (fun (m : Nat × Nat × Int × Bool) => if m.1 = i then (m.1, m.2.1, m.2.2.1, false) else m),
           bus := c.bus.map (fun (q : CalBus) => { q with members := q.members.map off }) }

/-- A slot that enters ENUM has every trim and every estimator count 0, and an update of it that is pending is discarded (R377, R385). -/
def State.calForget (s : State) (i : Nat) : State :=
  let s := (List.range 4).foldl (fun s k => s.putWord (CAL_T_IAC_G.addr i 0 + 4 * k) 0#32) s
  { s with cal := { s.cal with snaps := s.cal.snaps.map (fun (c : CalSnap) => c.without i), slots := s.cal.slots.set i ⟨[(0, 0), (0, 0), (0, 0)], [(0, 0), (0, 0), (0, 0)], none, none, []⟩ } }

/-- The ASSIGN of a position, from end A, or on a broken ring from the end of its fragment (R164, R165). -/
def State.assign (s : State) (r p : Nat) : Nat × Bool × List Byte :=
  let e := match reachEnd (s.ringSt r).breaks p with | some b => b | none => false
  (r, e, assignFrame s r p e)

/-- A position has been enumerated, or no slot or no path leads to it: the next in ascending order may be (R164). -/
def State.handedOver (s : State) (r q : Nat) : Bool :=
  match s.slotAt r q with
  | some j => s.get CELL_SSTAT_STATE j != 0 || s.cutOff r q
  | none => true

/-- A position is handed over to CELL: its slot enters ENUM, its selector's position unknown (R164, R180, R327). -/
def State.handOver (s : State) (slot : Nat) : State :=
  let s := ((s.set CELL_SSTAT_STATE 1 slot).setPk OUT_ALLOC_POS_POS 8 4 slot 0xF).calForget slot
  let s := s.setFe slot { s.fe slot with st := 1, byp := true, frame := none, pend := 0, sync := none, cyc := none }
  { s with cell := { s.cell with synced := s.cell.synced.filter (· != slot) } }

/-- HIVE assigns a position, asks for the front end's identity by mailbox and hands the position to CELL (R164, R180). Positions of a ring are enumerated in ascending order. -/
def opEnumeration (r p : Nat) (s : State) : State :=
  if s.ringOn r && s.flag HIVE_RSTAT_KEYED r && decide (p < s.ncell r) && s.en .cell then
    match s.slotAt r p with
    | some slot =>
      if s.get CELL_SSTAT_STATE slot = 0 && !s.cutOff r p && (List.range p).all (fun q => s.handedOver r q) then
        let s := (s.sends [s.assign r p]).handOver slot
        s.request 1 r p 1 0x00000000 [] 8 0
      else s
    | none => s
  else s

/-- R164 ENUMERATION. -/
def execEnumeration (r : Fin 12) (p : Fin 16) (s : State) : Host.Outcome State Fault Refusal := .next (s.live (opEnumeration r.val p.val s))

/-! The configuration check (R175), enable and disable. -/

/-- The first offending field of HIVE's settings (R175, R87). -/
def checkHive (s : State) : Option (Nat × Nat × Nat) :=
  let rs := s.enRings
  let sqB := s.get HIVE_MBX_SQ_BASE
  let cqB := s.get HIVE_MBX_CQ_BASE
  let sqL := s.get HIVE_MBX_SQ_QLEN
  let cqL := s.get HIVE_MBX_CQ_QLEN
  let size := 0xC0000
  let rr := s.get HIVE_CFG_RPT_RETRY
  let wr := s.get HIVE_CFG_WAG_RETRY
  checks [
    firstSome (fun r => bad (s.ncell r == 0) ZERO_LEN r 0x00) rs,
    bad (s.get HIVE_CFG_CELL_TMO == 0 || s.get HIVE_CFG_BLOCK_REP == 0) ZERO_LEN 0x11 0x00,
    bad (s.get HIVE_KEY_CFG_KEY_AVG == 0) ZERO_LEN 0x11 0x04,
    bad (s.get HIVE_MBX_CFG_RSP_TMO == 0) ZERO_LEN 0x12 0x00,
    bad (sqL == 0) ZERO_LEN 0x12 0x04,
    bad (cqL == 0) ZERO_LEN 0x12 0x0C,
    firstSome (fun r => bad (decide (16 < s.ncell r)) RANGE r 0x00) (List.range 12),
    bad (s.get HIVE_CFG_CELL_TMO == 1) RANGE 0x11 0x00,
    bad (decide (128 < s.get HIVE_KEY_CFG_KEY_AVG) || s.get HIVE_KEY_CFG_KEY_TOL == 0) RANGE 0x11 0x04,
    bad (s.get HIVE_MBX_CFG_PER_CELL == 0 || decide (4 < s.get HIVE_MBX_CFG_PER_CELL)) RANGE 0x12 0x00,
    bad (decide (sqB % 64 ≠ 0) || decide (256 < sqL) || decide (size < sqB + 64 * sqL)) RANGE 0x12 0x04,
    bad (decide (cqB % 64 ≠ 0) || decide (256 < cqL) || decide (size < cqB + 64 * cqL)) RANGE 0x12 0x0C,
    bad (decide (sqB < cqB + 64 * cqL) && decide (cqB < sqB + 64 * sqL)) DISAGREE 0x12 0x04,
    firstSome (fun r => bad (s.tight && decide (8 < s.ncell r)) PROFILE r 0x00) (List.range 12),
    bad (if s.tight then decide (1 < rr) || decide (1 < wr) else rr == 3 || wr == 3) PROFILE 0x11 0x00]

/-- What the enable of HIVE does, its counters having been reset: no ring is keyed or in service yet, and no position has missed. -/
def enterHive (s : State) : State :=
  (List.range 12).foldl (fun s r =>
    let s := (s.set HIVE_RSTAT_KEYED 0 r).set HIVE_RSTAT_MULTI 0 r
    ((s.putWord (HIVE_RMISS_MISS_RUN.addr r 0) 0#32).putWord (HIVE_RMISS_MISS_RUN.addr r 1) 0#32).setRingSt r RingSt.idle) s

/-- What the disable of HIVE does: every transaction in flight completes with UNREACHABLE; the rings are off (R152, R172). -/
def leaveHive (s : State) : State :=
  let s := { s with hive := { s.hive with waiting := [] } }
  let s := s.hive.tx.foldl (fun s t => s.complete t MBX_UNREACHABLE []) s
  let s := (List.range 12).foldl (fun s r => ((s.set HIVE_RSTAT_MODE 0 r).set HIVE_RSTAT_MULTI 0 r).setRingSt r RingSt.idle) s
  { s with hive := { s.hive with frames := [] } }

end Sys2Proof.Machine
end

