-- ==== Sys2Proof/Machine/Ctc.lean ====
section
/-! DEFINITION. The coil outputs and their feedback: what an output does from its command, its forcing and its faults (R473 to R476), and the breaker coils (R230). -/

namespace Sys2Proof.Machine

/-- The 40 outputs. -/
def coils : List Nat := List.range 40

/-- Whether feedback input `k` reads high. -/
def State.fbHigh (s : State) (k : Nat) : Bool :=
  if k < 32 then bitOf (s.get CTC_FBIN_LO_FB) k else bitOf (s.get CTC_FBIN_HI_FB) (k - 32)

/-- Set the level that feedback input `k` reads. -/
def State.setFb (s : State) (k : Nat) (high : Bool) : State :=
  if k < 32 then s.set ⟨CTC_FBIN_LO_FB.base, 0, 0, k, 1⟩ (b2n high) else s.set ⟨CTC_FBIN_HI_FB.base, 0, 0, k - 32, 1⟩ (b2n high)

/-- Whether input `k`, the feedback that the owner of output `o` names, reads closed after the output's FB_NC (R475). -/
def State.pathClosed (s : State) (o k : Nat) : Bool := s.fbHigh k != s.flag CTC_OCFG_FB_NC o

/-- The feedback of an output after FB_NC. -/
def State.fbClosed (s : State) (o : Nat) : Bool := s.fbHigh (s.get CTC_OCFG_FB o) != s.flag CTC_OCFG_FB_NC o

/-- Whether the feedback agrees with the output (R475). -/
def State.fbAgrees (s : State) (o : Nat) : Bool := s.fbClosed o == s.flag CTC_OSTAT_ENERGISED o

/-- Whether an output is forced off (R473). -/
def State.forcedOff (s : State) (o : Nat) : Bool := s.ctc.sgrForced.contains o || s.ctc.sodForced.any (fun p => p.1 == o)

/-- Whether an output is mirrored from the partner (R521, R526). -/
def State.mirrored (s : State) (o : Nat) : Bool := s.en .part && bitOf (s.get PART_MIRROR_LO_MASK + 2 ^ 32 * s.get PART_MIRROR_HI_MASK) o

/-- The command an output obeys: its leader's state or its owner's command; beside an active partner, the partner's energised mask for a mirrored output, and its present state for a follower (R474, R521). -/
def State.coilObeys (s : State) (o : Nat) : Bool :=
  if s.flag CTC_OCFG_FOLLOW_EN o then s.flag CTC_OSTAT_ENERGISED (if s.follows then o else s.get CTC_OCFG_FOLLOW o)
  else if s.follows && s.mirrored o then bitOf s.part.energised o
  else s.flag CTC_OSTAT_CMD_ON o

/-- Whether an output may be on at all: it has its supply, and no electrical fault holds it off (R38, R55, R56). -/
def State.coilAble (s : State) (o : Nat) : Bool :=
  s.fieldUp && !s.flag CTC_OSTAT_SHORT o && !s.flag CTC_OSTAT_OPEN o && !s.flag CTC_OSTAT_REVERSE o

/-- What an output does: the command it obeys, unless it is forced, faulted or without supply (R55, R473, R474). -/
def State.coilWants (s : State) (o : Nat) : Bool :=
  s.en .ctc && s.flag CTC_OCFG_EN o && s.coilAble o && s.coilObeys o && !s.forcedOff o

/-- Clear STUCK and WELDED once the feedback agrees: they persist while the disagreement lasts (R475). -/
def State.settleFb (s : State) (o : Nat) : State :=
  if s.fbAgrees o then
    let s := (s.set CTC_OSTAT_STUCK 0 o).set CTC_OSTAT_WELDED 0 o
    { s with ctc := { s.ctc with transit := s.ctc.transit.filter (· != o) } }
  else s

/-- Bring one output to what it should do; a change with feedback starts its transit check. Without the heartbeat the outputs follow their LOSS field instead (R476); a fault or the loss of the supply turns one off all the same (R55, R56). -/
def State.applyCoil1 (s : State) (o : Nat) : State :=
  let s := s.setb CTC_OSTAT_FORCED_OFF (s.forcedOff o) o
  let on := s.coilWants o
  if !s.pwr.heartbeat then (if s.coilAble o then s else s.set CTC_OSTAT_ENERGISED 0 o)
  else if on == s.flag CTC_OSTAT_ENERGISED o then s
  else
    let s := s.setb CTC_OSTAT_ENERGISED on o
    let s := if on then s.inc CTC_OSTAT_OPS o else s
    if s.flag CTC_OCFG_FB_EN o && !(s.follows && s.mirrored o) then
      ({ s with ctc := { s.ctc with transit := setPresent s.ctc.transit o true } } : State).settleFb o
    else s

/-- Bring an output and the outputs that follow it to what they should do (R474). -/
def State.applyCoil (s : State) (o : Nat) : State :=
  ((coils.filter (fun f => s.flag CTC_OCFG_FOLLOW_EN f && s.get CTC_OCFG_FOLLOW f == o)).foldl (fun s f => s.applyCoil1 f) (s.applyCoil1 o))

/-- Leaders first, then followers. -/
def State.applyCoils (s : State) : State :=
  let order := coils.filter (fun o => !s.flag CTC_OCFG_FOLLOW_EN o) ++ coils.filter (fun o => s.flag CTC_OCFG_FOLLOW_EN o)
  order.foldl (fun s o => s.applyCoil1 o) s

/-- The owner's command of an output. -/
def State.coilCmd (s : State) (o : Nat) (on : Bool) : State := (s.setb CTC_OSTAT_CMD_ON on o).applyCoil o

/-- Whether an output is energised. -/
def State.coilOn (s : State) (o : Nat) : Bool := s.flag CTC_OSTAT_ENERGISED o

/-- Force outputs off for SGR. -/
def State.forceSgr (s : State) : State :=
  let m := s.get SAFE_SGRCTC_LO_MASK + 2 ^ 32 * s.get SAFE_SGRCTC_HI_MASK
  ({ s with ctc := { s.ctc with sgrForced := coils.filter (fun o => bitOf m o) } } : State).applyCoils

/-- Release the forcing of SGR. -/
def State.releaseSgr (s : State) : State := ({ s with ctc := { s.ctc with sgrForced := [] } } : State).applyCoils

/-- Force the coil of a bus and its followers off, for SOD (R466). -/
def State.forceSod (s : State) (b : Nat) : State :=
  let o := s.get OUT_BCFG_CTC b
  let os := o :: coils.filter (fun f => s.flag CTC_OCFG_FOLLOW_EN f && s.get CTC_OCFG_FOLLOW f == o)
  ({ s with ctc := { s.ctc with sodForced := s.ctc.sodForced ++ os.map (fun x => (x, b)) } } : State).applyCoils

/-- Release the forcing of a bus's SOD. -/
def State.releaseSod (s : State) (b : Nat) : State :=
  ({ s with ctc := { s.ctc with sodForced := s.ctc.sodForced.filter (fun p => p.2 != b) } } : State).applyCoils

/-- A contactor discrepancy: STUCK while energised, WELDED while not (R475). -/
def State.discrepancy (s : State) (o : Nat) : State :=
  let s := { s with ctc := { s.ctc with transit := s.ctc.transit.filter (· != o) } }
  if s.coilOn o then (s.set CTC_OSTAT_STUCK 1 o).raise SRC_CTC_STUCK o else (s.set CTC_OSTAT_WELDED 1 o).raise SRC_CTC_WELDED o

/-! Electrical faults (R55, R56). -/

/-- Set an electrical fault bit of an output, raise its source, and turn the output off. -/
def State.coilFault (s : State) (f : Fld) (src : Source) (o : Nat) : State :=
  let s := s.set f 1 o
  (s.live (s.raise src o)).applyCoil o

/-- A short circuit of an output that is on; the operand tells when the condition is gone. The output's own detection works without the control die, which then records no event; with V5A low there is none (R38, R475). -/
def opCtcShort (o : Nat) (present : Bool) (s : State) : State :=
  let s := { s with ctc := { s.ctc with short := setPresent s.ctc.short o present } }
  if present && s.fieldUp && s.coilOn o then s.coilFault CTC_OSTAT_SHORT SRC_CTC_SHORT o else s

/-- An open load of an output that is off, whether or not the output is in use (R475). -/
def opCtcOpenLoad (o : Nat) (present : Bool) (s : State) : State :=
  let s := { s with ctc := { s.ctc with openLoad := setPresent s.ctc.openLoad o present } }
  if present && s.fieldUp && !s.coilOn o then s.coilFault CTC_OSTAT_OPEN SRC_CTC_OPEN o else s

/-- A reversed coil supply. -/
def opCtcReverse (o : Nat) (present : Bool) (s : State) : State :=
  let s := { s with ctc := { s.ctc with reverse := setPresent s.ctc.reverse o present } }
  if present && s.fieldUp then s.coilFault CTC_OSTAT_REVERSE SRC_CTC_REVERSE o else s

/-- R55 CTC_REVERSE. -/
def execCtcReverse (o : Fin 40) (present : Bool) (s : State) : Host.Outcome State Fault Refusal := .next (opCtcReverse o.val present s)

/-- CLR clears the electrical faults whose condition is gone; one still present is kept and its reason recorded (R56, R475). -/
def opCtcClr (o : Nat) (s : State) : Bool × State :=
  let one := fun (f : Fld) (here : Bool) (reason : Nat) (r : Bool × State) =>
    if here && r.2.flag f o then (false, r.2.refuse .ctc reason o 0x08) else (r.1, r.2.set f 0 o)
  let r := one CTC_OSTAT_SHORT (s.ctc.short.contains o) 0x1420 (true, s)
  let r := one CTC_OSTAT_OPEN (s.ctc.openLoad.contains o) 0x1421 r
  let r := one CTC_OSTAT_REVERSE (s.ctc.reverse.contains o) 0x1422 r
  (r.1, r.2.applyCoil o)

/-- R475 CTC_CLR. -/
def execCtcClr (o : Fin 40) (s : State) : Host.Outcome State Fault Refusal := .next (s.live (opCtcClr o.val s).2)

/-- A host command to an output: refused when the host does not own it (R473), or when the output is not in use. -/
def opCtcHost (o : Nat) (on : Bool) (s : State) : Bool × State :=
  if !s.en .ctc || !s.flag CTC_OCFG_EN o then (false, s.refuseC .ctc STATE o 0x08)
  else if s.get CTC_OCFG_OWNER o ≠ 0 then (false, s.refuse .ctc 0x1424 o 0x08)
  else (true, s.coilCmd o on)

/-- R473 CTC_ON. -/
def execCtcOn (o : Fin 40) (s : State) : Host.Outcome State Fault Refusal := .next (s.live (opCtcHost o.val true s).2)

/-- R473 CTC_OFF. -/
def execCtcOff (o : Fin 40) (s : State) : Host.Outcome State Fault Refusal := .next (s.live (opCtcHost o.val false s).2)

/-! Loss of the heartbeat (R31, R476). -/

/-- The analog die sets each output by its LOSS field (R476); LOSS = 2 counts as 0 while a partner stood by (R521). An output that a fault holds off stays off (R56). -/
def State.coilLoss (s : State) : State :=
  coils.foldl (fun s o =>
    if s.en .ctc && s.flag CTC_OCFG_EN o then
      let l := s.get CTC_OCFG_LOSS o
      let l := if l == 2 && s.en .part && s.role == ACTIVE && s.get PART_STAT_PARTNER_ROLE == STANDBY then 0 else l
      if l = 0 then s.set CTC_OSTAT_ENERGISED 0 o
      else if l = 2 then
        ({ s with ctc := { s.ctc with lossPulse := setPresent s.ctc.lossPulse o true } } : State).set CTC_OSTAT_ENERGISED (b2n (s.coilAble o)) o
      else s
    else s) s

/-- The heartbeat is absent for 1 µs (R31, R476): gate drive is removed and the coils follow LOSS. -/
def State.heartbeatLoss (s : State) : State :=
  if s.pwr.heartbeat then ({ s with pwr := { s.pwr with heartbeat := false } } : State).applyInhibit.coilLoss else s

/-- The heartbeat is back: the coils follow their commands again. -/
def State.heartbeatBack (s : State) : State :=
  ({ s with pwr := { s.pwr with heartbeat := true }, ctc := { s.ctc with lossPulse := [] } } : State).applyCoils

/-- A LOSS = 2 output de-energises after 100 ms (R476). -/
def opLossPulseEnd (o : Nat) (s : State) : State :=
  if s.ctc.lossPulse.contains o then
    let s := { s with ctc := { s.ctc with lossPulse := s.ctc.lossPulse.filter (· != o) } }
    if s.pwr.heartbeat then s else s.set CTC_OSTAT_ENERGISED 0 o
  else s

/-- R476 LOSS_PULSE_END. -/
def execLossPulseEnd (o : Fin 40) (s : State) : Host.Outcome State Fault Refusal := .next (opLossPulseEnd o.val s)

/-- R31 HEARTBEAT_LOSS. -/
def execHeartbeatLoss (s : State) : Host.Outcome State Fault Refusal := .next s.heartbeatLoss

/-! The breaker (R230). -/

/-- Whether the breaker's feedback reads closed. -/
def State.bkrClosed (s : State) : Bool := s.fbHigh (s.get FORM_BKR_FB)

/-- Energise the shunt trip for BKR_PULSE. -/
def State.bkrTrip (s : State) : State :=
  if s.flag FORM_BKR_BKR_EN then
    ((s.set FORM_MODE_STAT_BKR_CMD 0).coilCmd (s.get FORM_BKR_CLOSE_CTC) false).coilCmd (s.get FORM_BKR_TRIP_CTC) true
  else s

/-- The shunt trip's pulse ends (R230). -/
def opBkrTripPulseEnd (s : State) : State := if s.flag FORM_BKR_BKR_EN then s.coilCmd (s.get FORM_BKR_TRIP_CTC) false else s

/-- R230 BKR_TRIP_PULSE_END. -/
def execBkrTripPulseEnd (s : State) : Host.Outcome State Fault Refusal := .next (s.live (opBkrTripPulseEnd s))

/-- The closing coil's pulse ends (R229). -/
def opClosePulseEnd (s : State) : State := if s.flag FORM_BKR_BKR_EN then s.coilCmd (s.get FORM_BKR_CLOSE_CTC) false else s

/-- R229 CLOSE_PULSE_END. -/
def execClosePulseEnd (s : State) : Host.Outcome State Fault Refusal := .next (s.live (opClosePulseEnd s))

/-! The configuration check of CTC (R487). -/

/-- The outputs that OUT, FORM and LAW have assigned, with the owner each needs and its feedback where one is named. -/
def State.assigned (s : State) : List (Nat × Nat × Option Nat) :=
  ((List.range 12).filter (fun b => s.flag OUT_BCFG_EN b)).map (fun b => (s.get OUT_BCFG_CTC b, 1, some (s.get OUT_BCFG_FB b)))
  ++ (if s.flag FORM_BKR_BKR_EN then [(s.get FORM_BKR_CLOSE_CTC, 2, none), (s.get FORM_BKR_TRIP_CTC, 2, none)] else [])
  ++ (if s.flag LAW_PRE_FEED_EN then [(s.get LAW_PRE_FEED_CTC, 3, some (s.get LAW_PRE_FEED_FB))] else [])
  ++ (if s.flag LAW_PRE_STORE_EN then [(s.get LAW_PRE_STORE_CTC, 3, some (s.get LAW_PRE_STORE_FB))] else [])

/-- The first offending field of CTC's settings (R487). -/
def checkCtc (s : State) : Option (Nat × Nat × Nat) :=
  let en := coils.filter (fun o => s.flag CTC_OCFG_EN o)
  checks [
    firstSome (fun o => bad (s.get CTC_OCFG_OWNER o == 0 && s.flag CTC_OCFG_FB_EN o && (s.get CTC_OTIM_T_CLOSE o == 0 || s.get CTC_OTIM_T_OPEN o == 0)) ZERO_LEN o 0x04) en,
    firstSome (fun o => bad (decide (39 < s.get CTC_OCFG_FB o) || decide (39 < s.get CTC_OCFG_FOLLOW o) || s.get CTC_OCFG_LOSS o == 3) RANGE o 0x00) coils,
    firstSome (fun o => bad (s.flag CTC_OCFG_FB_EN o && en.any (fun q => decide (q < o) && s.flag CTC_OCFG_FB_EN q && s.get CTC_OCFG_FB q == s.get CTC_OCFG_FB o)) DISAGREE o 0x00) en,
    firstSome (fun p => bad (s.get CTC_OCFG_OWNER p.1 != p.2.1 || (match p.2.2 with | some f => s.get CTC_OCFG_FB p.1 != f | none => false)) DISAGREE p.1 0x00) s.assigned,
    firstSome (fun o => bad ((s.get CTC_OCFG_OWNER o == 1 || s.get CTC_OCFG_OWNER o == 3) && !s.flag CTC_OCFG_FB_EN o) DISAGREE o 0x00) en,
    firstSome (fun o =>
      let l := s.get CTC_OCFG_FOLLOW o
      bad (s.flag CTC_OCFG_FOLLOW_EN o && (l == o || s.flag CTC_OCFG_FOLLOW_EN l || !s.flag CTC_OCFG_EN l)) DISAGREE o 0x00) en]

/-- What the enable of CTC does: its counters reset, and every output shows its feedback. -/
def enterCtc (s : State) : State :=
  coils.foldl (fun s o => ((s.set CTC_OSTAT_OPS 0 o).setb CTC_OSTAT_CLOSED (s.fbClosed o) o).set CTC_OSTAT_CMD_ON 0 o) s

/-- What the disable of CTC does: no output is driven. -/
def leaveCtc (s : State) : State :=
  let s := coils.foldl (fun s o => s.set CTC_OSTAT_CMD_ON 0 o) s
  { s.applyCoils with ctc := { s.applyCoils.ctc with transit := [] } }

end Sys2Proof.Machine
end

