-- ==== Sys2Proof/Machine/Safe.lean ====
section
/-! DEFINITION. The safety functions SGR, SOD, SDS and STR (R460, R464 to R469, R559), the safety and trip inputs (R461 to R463), encoder plausibility (R471), the interlocks (R472), and the bus states they act on (R313, R322, R325). -/

namespace Sys2Proof.Machine

/-! Buses (R322). -/

def buses : List Nat := List.range 12
def State.busSt (s : State) (b : Nat) : BusSt := s.out.buses.getD b ⟨0, 0, 0, 0, false, false, 0, 0, 0, 0, 0⟩
def State.setBusSt (s : State) (b : Nat) (x : BusSt) : State := { s with out := { s.out with buses := s.out.buses.set b x } }

def B_OFF : Nat := 0
def B_MATCHING : Nat := 1
def B_CLOSING : Nat := 2
def B_SERVING : Nat := 3
def B_RAMPDOWN : Nat := 4
def B_OPENING : Nat := 5
def B_UNAVAILABLE : Nat := 6

/-- The state of a bus. -/
def State.bst (s : State) (b : Nat) : Nat := s.get OUT_BSTAT_STATE b

/-- Whether a bus is in use. -/
def State.busEn (s : State) (b : Nat) : Bool := s.en .out && s.flag OUT_BCFG_EN b

/-- Whether a bus is in service (R322). -/
def State.busServes (s : State) (b : Nat) : Bool := s.busEn b && decide (1 ≤ s.bst b) && decide (s.bst b ≤ 4)

/-- Whether a bus permits DAB (R313, R322). -/
def State.busPermits (s : State) (b : Nat) : Bool := s.busServes b && !(s.busSt b).noDab

/-- Whether the contactor feedback of a bus, OUT_BCFG.FB, reads closed after the FB_NC of its output (R322, R475). -/
def State.busClosed (s : State) (b : Nat) : Bool := s.pathClosed (s.get OUT_BCFG_CTC b) (s.get OUT_BCFG_FB b)

/-- |I_b| in mA. -/
def State.busAmps (s : State) (b : Nat) : Nat := (s.geti OUT_BI_I b).natAbs

/-- |V_b| in mV. -/
def State.busVolts (s : State) (b : Nat) : Nat := (s.geti OUT_BV_V b).natAbs

/-- Whether |I_b| is at or below I_OPEN. -/
def State.busQuiet (s : State) (b : Nat) : Bool := decide (s.busAmps b ≤ s.get OUT_RAMP_I_OPEN * 100)

/-- The position of an axis including its revolutions. -/
def State.axisPos (s : State) (a : Nat) : Int := s.geti ENC_REV_REV a * s.get ENC_CPR_CPR a + s.get ENC_POS_POS a

/-- Put a bus into a state; leaving OFF, the axes joined to it by an interlock note their positions (R472). -/
def State.busTo (s : State) (b st : Nat) : State :=
  let was := s.bst b
  let s := (s.set OUT_BSTAT_STATE st b).setBusSt b { s.busSt b with matchRun := 0, limitRun := 0, stopping := false }
  let keep := s.safe.ilkPos.filter (fun p => p.2.1 != b)
  if was = B_OFF ∧ st ≠ B_OFF then
    { s with safe := { s.safe with ilkPos := keep ++ ((List.range 4).filter (fun a => bitOf (s.get SAFE_ILK_BUS 0 a) b)).map (fun a => (a, b, s.axisPos a)) } }
  else if st = B_OFF then { s with safe := { s.safe with ilkPos := keep } }
  else s

/-- Command the coil of a bus. -/
def State.busCoil (s : State) (b : Nat) (on : Bool) : State := s.coilCmd (s.get OUT_BCFG_CTC b) on

/-- OPENING: coil off, no DAB permission; a feedback that reads open already ends it (R322). -/
def State.busOpen (s : State) (b : Nat) : State :=
  let s := (s.busCoil b false).busTo b B_OPENING
  if s.busClosed b then s else s.busTo b B_OFF

/-- UNAVAILABLE: coil off, no DAB permission. -/
def State.busFail (s : State) (b : Nat) : State := (s.busCoil b false).busTo b B_UNAVAILABLE

/-- RAMPDOWN: current mode, the setpoint moving toward 0 from the present current (R322). -/
def State.busRampDown (s : State) (b : Nat) : State :=
  let s := if s.flag OUT_BSTAT_MODE b then s else { s with law := { s.law with presets := setPresent s.law.presets (7 + b) true } }
  let s := (s.busTo b B_RAMPDOWN).set OUT_BSTAT_MODE 1 b
  s.setBusSt b { s.busSt b with ramp := s.geti OUT_BI_I b }

/-! Slots (R178, R249, R313). -/

/-- The state of a slot as the device holds it. -/
def State.slotState (s : State) (i : Nat) : Nat := s.get CELL_SSTAT_STATE i

/-- In service: READY, ACTIVE or COAST (R178). -/
def State.inService (s : State) (i : Nat) : Bool :=
  s.flag CELL_SCFG_SLOT_EN i && decide (3 ≤ s.slotState i) && decide (s.slotState i ≤ 5)

/-- The precharge phase of FORM (R227). -/
def State.precharging (s : State) : Bool := decide (s.get FORM_MODE_STAT_PHASE = 1)

/-- Whether the step 4 of this cycle took a report of a slot (R168). -/
def State.took (s : State) (i : Nat) : Bool := (s.ringSt (s.get CELL_SCFG_RING i)).taken.contains (s.get CELL_SCFG_POS i)

/-- Whether MOD forms sets for a slot (R249). A slot that FE HOLD has returned to READY in the stopping phase receives no further sets, since the phase could not end otherwise (R57, R225, R232; DEDUCED, log entry 20). -/
def State.eligible (s : State) (i : Nat) : Bool :=
  s.flag CELL_SCFG_SLOT_EN i && !s.cell.byp.contains i &&
    (if s.slotState i = 3 then !s.flag CELL_SSTAT_BLOCKED i && s.inRun && !s.precharging && !s.form.holds.contains i else s.slotState i == 4 || s.slotState i == 5)

/-- The confirmed position of a slot, and its move step (R327, R328). -/
def State.allocPos (s : State) (i : Nat) : Nat := s.getPk OUT_ALLOC_POS_POS 8 4 i
def State.allocStep (s : State) (i : Nat) : Nat := s.getPk OUT_ALLOC_STEP_STEP 8 4 i

/-- Whether a slot holds DAB permission on a bus (R313). -/
def State.holds (s : State) (i b : Nat) : Bool :=
  s.allocPos i == b + 1 && (s.allocStep i == 0 || s.allocStep i == 5 || s.allocStep i == 6) && s.eligible i && s.busPermits b

/-- The slots that hold permission on a bus. -/
def State.holders (s : State) (b : Nat) : List Nat := slots.filter (fun i => s.holds i b)

/-! STR and SDS (R468, R469). -/

/-- STR: the axis's half-bridges are inhibited; an SDS of the axis ends. -/
def State.strStart (s : State) (a : Nat) : State :=
  if s.strActive a then s
  else
    let s := s.set SAFE_FSTAT_STR (s.get SAFE_FSTAT_STR ||| 1 <<< a)
    let s := s.set SAFE_FSTAT_SDS (s.get SAFE_FSTAT_SDS &&& (15 - 1 <<< a))
    (s.set SAFE_AXSTAT_FUNC 2 a).inhibitAxis a

/-- SDS: passes at once to STR when the axis is not in RUN or stands still; else V0 is latched and monitoring starts. -/
def State.sdsStart (s : State) (a : Nat) : State :=
  if s.strActive a || s.sdsActive a then s
  else if s.get AXIS_STAT_STATE a ≠ AX_RUN ∨ s.flag ENC_STAT_STILL a = true then s.strStart a
  else
    let s := (s.set SAFE_FSTAT_SDS (s.get SAFE_FSTAT_SDS ||| 1 <<< a)).set SAFE_AXSTAT_FUNC 1 a
    let s := (s.set SAFE_AXSTAT_VIOL 0 a).set SAFE_AXSTAT_T_SDS 0 a
    let s := s.set SAFE_AXV0_V0 (if s.flag ENC_STAT_SPD_VALID a then (s.geti ENC_SPD_SPEED a).natAbs else 0) a
    s.setAxisSt a { s.axisSt a with sdsTicks := 0 }

/-- Requests for STR and SDS from other than SGR act only while SAFE is enabled (R559). -/
def State.strReq (s : State) (a : Nat) : State := if s.en .safe then s.strStart a else s
def State.sdsReq (s : State) (a : Nat) : State := if s.en .safe then s.sdsStart a else s

/-- The check every 100 µs during SDS (R468). -/
def opSdsCheck (a : Nat) (s : State) : State :=
  if s.sdsActive a then
    let t := (s.axisSt a).sdsTicks + 1
    let s := s.setAxisSt a { s.axisSt a with sdsTicks := t }
    let s := s.set SAFE_AXSTAT_T_SDS (min 0xFFFF (t / 10)) a
    let v := (s.geti ENC_SPD_SPEED a).natAbs
    let limit10 := (10 * s.get SAFE_AXV0_V0 a - s.get SAFE_AXDEC_DEC a * t) + 10 * s.get SAFE_AXTOL_TOL a
    if limit10 < 10 * v then ((s.set SAFE_AXSTAT_VIOL 1 a).raise SRC_SAFE_SDS_VIOL (4 + a)).strStart a
    else if v ≤ s.get SAFE_AXSTILL_STILL_SPD a ∨ s.flag ENC_STAT_STILL a = true then s.strStart a
    else s
  else s

/-- R468 SDS_CHECK. -/
def execSdsCheck (a : Fin 4) (s : State) : Host.Outcome State Fault Refusal := .next (s.live (opSdsCheck a.val s))

/-- SDS_TMAX passes (R468). -/
def opSdsTimeout (a : Nat) (s : State) : State :=
  if s.sdsActive a then ((s.set SAFE_AXSTAT_VIOL 1 a).raise SRC_SAFE_SDS_VIOL (4 + a)).strStart a else s

/-- R468 SDS_TIMEOUT. -/
def execSdsTimeout (a : Fin 4) (s : State) : Host.Outcome State Fault Refusal := .next (s.live (opSdsTimeout a.val s))

/-! SGR (R464, R465). -/

/-- Whether an SGR is active. -/
def State.sgrActive (s : State) : Bool := s.flag SAFE_FSTAT_SGR_ACTIVE

/-- A close pulse in progress is withdrawn (R238). -/
def State.withdrawClose (s : State) : State :=
  if s.get FORM_MODE_STAT_PHASE = 4 then (s.coilCmd (s.get FORM_BKR_CLOSE_CTC) false).set FORM_MODE_STAT_BKR_CMD 0 else s

/-- An SGR request with a BLOCK cause (R142, R464): cells blocked, coils forced, a close pulse withdrawn (R238), the breaker tripped, axes stopped by SGR_AX. It runs whatever SAFE_CTRL.EN holds (R559). -/
def State.sgr (s : State) (cause : Nat) : State :=
  if s.sgrActive then s
  else
    let s := ((s.withdrawClose.set SAFE_FSTAT_SGR_ACTIVE 1).set SAFE_FSTAT_SGR_DONE 0).raiseC SRC_SAFE_SGR
    let s := { s with safe := { s.safe with sgrSlots := slots.filter (fun i => s.inService i) } }
    let s := (s.block cause).forceSgr
    let bkr := s.flag SAFE_SGRCFG_SGR_BKR && s.flag FORM_BKR_BKR_EN
    let s := if bkr then { s.bkrTrip with safe := { s.bkrTrip.safe with sgrBkr := true } } else s
    (List.range 4).reverse.foldl (fun s a =>
      let m := s.get SAFE_AXCFG_SGR_AX a
      if !s.axisEn a then s else if m = 1 then s.sdsStart a else if m = 2 then s.strStart a else s) s

/-- The BLOCK causes (R142). -/
def C_TRIP : Nat := 1
def C_INPUT : Nat := 2
def C_SGR : Nat := 3
def C_HOST : Nat := 4
def C_PARTNER : Nat := 5

/-- Whether a slot counts as blocked for SGR: its delivered report shows it, or it has left service (R465). -/
def State.sgrConfirmed (s : State) (i : Nat) : Bool :=
  let f := s.report i
  (s.took i && (bitOf (repFlt f) 12 || repState f == 6 || repState f == 7)) || !s.inService i

/-- Drop the confirmed slots from the list SGR waits for; step 4 does this (R465). -/
def State.sgrPoll (s : State) : State :=
  if s.sgrActive then { s with safe := { s.safe with sgrSlots := s.safe.sgrSlots.filter (fun i => !s.sgrConfirmed i) } } else s

/-! SOD (R466, R467). -/

/-- Whether SOD is active on a bus. -/
def State.sodActive (s : State) (b : Nat) : Bool := bitOf (s.get SAFE_FSTAT_SOD) b

def State.sodStep (s : State) (b st : Nat) : State := s.set SAFE_SODSTAT_STEP st 0 b

/-- A SOD fails: SOD_FAIL, and SGR with SOD_ESC = 1; otherwise the bus stays without permission and with its coil forced off (R467). -/
def State.sodFail (s : State) (b : Nat) : State :=
  let s := (s.sodStep b 5).raise SRC_SAFE_SOD_FAIL 0x08
  let s := (s.setBusSt b { s.busSt b with noDab := true }).forceSod b
  if s.flag SAFE_SODCFG2_SOD_ESC then s.sgr C_SGR else s

/-- Step 3: the coil and its follower are forced off and the bus opens (R466); a bus that is UNAVAILABLE stays so, since only CLEAR leaves that state (R323, R470). -/
def State.sodOpen (s : State) (b : Nat) : State :=
  let s := (s.sodStep b 3).forceSod b
  if !s.busEn b then s.sodStep b 4
  else if s.bst b = B_UNAVAILABLE then (if s.busClosed b then s else s.sodStep b 4)
  else
    let s := s.busOpen b
    if s.bst b = B_OFF then s.sodStep b 4 else s

/-- Step 2: permission on the bus is withdrawn; the slots that held it are watched. -/
def State.sodGate (s : State) (b : Nat) : State :=
  let held := s.holders b
  let s := s.setBusSt b { s.busSt b with noDab := true }
  let s := { s with safe := { s.safe with sodSlots := s.safe.sodSlots.filter (fun (p : Nat × Nat) => p.1 != b) ++ held.map (fun i => (b, i)) } }
  if held.isEmpty then s.sodOpen b else s.sodStep b 2

/-- The causes of SAFE_SODSTAT (R483). -/
def SOD_INPUT : Nat := 1
def SOD_HOST : Nat := 2
def SOD_LAW : Nat := 3
def SOD_OVERVOLT : Nat := 4
def SOD_CURRENT : Nat := 5
def SOD_METER : Nat := 6
def SOD_CONTACTOR : Nat := 7
def SOD_INTERLOCK : Nat := 8

/-- A SOD request (R466, R480, R559). -/
def State.sod (s : State) (b cause : Nat) : State :=
  if !s.en .safe || s.sodActive b then s
  else
    let s := (s.set SAFE_FSTAT_SOD (s.get SAFE_FSTAT_SOD ||| 1 <<< b)).set SAFE_SODSTAT_CAUSE cause 0 b
    let st := s.bst b
    if s.sgrActive || !s.busEn b || st == B_OFF || st == B_MATCHING || st == B_CLOSING then
      (s.setBusSt b { s.busSt b with noDab := true }).sodOpen b
    else if cause = SOD_OVERVOLT ∨ cause = SOD_METER ∨ cause = SOD_CONTACTOR ∨ (s.holders b).isEmpty = true then s.sodGate b
    else (if st = B_RAMPDOWN then s else s.busRampDown b).sodStep b 1

/-- The ramp of a SOD ends: low current, or SOD_RAMP_MS elapsed (R466). -/
def opSodRampEnd (b : Nat) (s : State) : State :=
  if s.sodActive b ∧ s.get SAFE_SODSTAT_STEP 0 b = 1 then s.sodGate b else s

/-- R466 SOD_RAMP_END. -/
def execSodRampEnd (b : Fin 12) (s : State) : Host.Outcome State Fault Refusal := .next (s.live (opSodRampEnd b.val s))

/-- SOD_CONF cycles have passed without every IDAB confirmed low (R466, R467). -/
def opSodConfTimeout (b : Nat) (s : State) : State :=
  if s.sodActive b ∧ s.get SAFE_SODSTAT_STEP 0 b = 2 then s.sodFail b else s

/-- R467 SOD_CONF_TIMEOUT. -/
def execSodConfTimeout (b : Fin 12) (s : State) : Host.Outcome State Fault Refusal := .next (s.live (opSodConfTimeout b.val s))

/-- Whether the delivered report of a slot shows |IDAB| at or below SOD_IDAB (R466). CELL_IDAB is per unit of the base CELL_IDAB. -/
def State.idabLow (s : State) (i : Nat) : Bool :=
  s.took i && decide ((s.geti CELL_IDAB_IDAB i).natAbs * s.get FORM_BASE_CELL2_CELL_IDAB ≤ s.get SAFE_SODCFG_SOD_IDAB * 2 ^ 29)

/-- Whether the SOD of a bus stands at a step. -/
def State.sodAt (s : State) (b st : Nat) : Bool := s.sodActive b && s.get SAFE_SODSTAT_STEP 0 b == st

/-- Step 4 confirms the gating of the SODs in step 2 from the reports it has taken (R466). -/
def State.sodConfirm (s : State) : State :=
  buses.reverse.foldl (fun s b =>
    if s.sodAt b 2 then
      let s := { s with safe := { s.safe with sodSlots := s.safe.sodSlots.filter (fun (p : Nat × Nat) => p.1 != b || !s.idabLow p.2) } }
      if s.safe.sodSlots.any (fun p => p.1 == b) then s else s.sodOpen b
    else s) s

/-- Step 4 ends the ramps whose current has come down to I_OPEN, by the currents it has measured (R466). -/
def State.sodRamps (s : State) : State := buses.reverse.foldl (fun s b => if s.sodAt b 1 && s.busQuiet b then s.sodGate b else s) s

/-! Safety inputs (R461, R462). -/

/-- Whether a pair counts as demanding (R461). -/
def State.siDemands (s : State) (i : Nat) : Bool := s.flag SAFE_SICFG_EN i && (s.flag SAFE_SISTAT_DEMAND i || s.flag SAFE_SISTAT_DISC i)

/-- Request each function a pair maps (R460), each for its units from the highest down (R102). -/
def State.siRequests (s : State) (i : Nat) : State :=
  let s := if s.flag SAFE_SICFG_SGR i then s.sgr C_INPUT else s
  let s := if s.flag SAFE_SICFG_STR i then (List.range 4).reverse.foldl (fun s a => if bitOf (s.get SAFE_SICFG_AXES i) a then s.strReq a else s) s else s
  let s := if s.flag SAFE_SICFG_SDS i then (List.range 4).reverse.foldl (fun s a => if bitOf (s.get SAFE_SICFG_AXES i) a then s.sdsReq a else s) s else s
  if s.flag SAFE_SICFG_SOD i then buses.reverse.foldl (fun s b => if bitOf (s.get SAFE_SICFG_BUS i) b then s.sod b SOD_INPUT else s) s else s

/-- Evaluate a pair after a change of its channels (R461). While SAFE is disabled the pair requests nothing (R559), but its demand is detected (R97). -/
def State.siEval (s : State) (i : Nat) : State :=
  let a := s.flag SAFE_SISTAT_A i
  let b := s.flag SAFE_SISTAT_B i
  if s.flag SAFE_SICFG_EN i then
    let s := if !a && !b && s.flag SAFE_SISTAT_DISC i then { s with safe := { s.safe with bothLow := setPresent s.safe.bothLow i true } } else s
    let s := if a && b && s.safe.bothLow.contains i then
        ({ s with safe := { s.safe with bothLow := s.safe.bothLow.filter (· != i) } } : State).set SAFE_SISTAT_DISC 0 i
      else s
    if a && b then s.set SAFE_SISTAT_DEMAND 0 i
    else if s.flag SAFE_SISTAT_DEMAND i then s
    else
      let s := ((s.set SAFE_SISTAT_DEMAND 1 i).inc SAFE_SISTAT_DEMANDS i).raise SRC_SAFE_SI_DEMAND i
      if s.en .safe then s.siRequests i else s
  else s

/-- A safety input channel changes level (R461, R462). A channel below −3 V reads low (R55). -/
def opSiChange (i : Nat) (chB high : Bool) (s : State) : State :=
  let level := high && !s.drive.siRev.contains (2 * i + b2n chB)
  let s := if chB then s.setb SAFE_SISTAT_B level i else s.setb SAFE_SISTAT_A level i
  s.live ((s.applyInhibit).siEval i)

/-- R461 SI_CHANGE. The channel's level stands on the analog die; SAFE judges it while the control die runs (R37, R38). -/
def execSiChange (i : Fin 4) (chB high : Bool) (s : State) : Host.Outcome State Fault Refusal :=
  .next (if s.fieldUp then opSiChange i.val chB high s else s.noteLevel (.si i chB) high)

/-- The channels of a pair have disagreed for longer than DISC_MS (R461). -/
def opSiDiscTimeout (i : Nat) (s : State) : State :=
  if s.flag SAFE_SICFG_EN i && s.flag SAFE_SISTAT_A i != s.flag SAFE_SISTAT_B i && !s.flag SAFE_SISTAT_DISC i then
    let s := { s with safe := { s.safe with bothLow := s.safe.bothLow.filter (· != i) } }
    (s.set SAFE_SISTAT_DISC 1 i).raise SRC_SAFE_SI_DISC i
  else s

/-- R461 SI_DISC_TIMEOUT. -/
def execSiDiscTimeout (i : Fin 4) (s : State) : Host.Outcome State Fault Refusal := .next (s.live (opSiDiscTimeout i.val s))

/-! Trip latches (R439, R440, R463). -/

/-- Set or clear bit `i` of a mask field. -/
def State.setBit (s : State) (f : Fld) (i : Nat) (v : Bool) (u : Nat := 0) : State := s.set ⟨f.base, f.us, 0, f.lo + i, 1⟩ (b2n v) u

/-- A TRIP input reads trip: with TRIP_EN its latch sets, gate drive ends, and SGR is requested with cause trip. -/
def opTripInput (i : Nat) (s : State) : State :=
  let s := (s.setBit GDRV_TRIP_STAT_INPUT i true).setBit GDRV_TRIP_STAT_CLR_PEND i false
  let s := { s with drive := { s.drive with quiet := s.drive.quiet.filter (· != i) } }
  if bitOf (s.get GDRV_TRIP_CFG_TRIP_EN) i then
    if bitOf (s.get GDRV_TRIP_STAT_LATCH) i then s
    else
      let s := s.setBit GDRV_TRIP_STAT_LATCH i true
      s.live (((s.applyInhibit).raiseC SRC_SAFE_TRIP).sgr C_TRIP)
  else s

/-- R439 TRIP_INPUT. The latch stands on the analog die; the event and the SGR need the control die (R37, R38). -/
def execTripInput (i : Fin 8) (s : State) : Host.Outcome State Fault Refusal :=
  .next (if s.fieldUp then opTripInput i.val s else s.noteLevel (.trip i) false)

/-- A TRIP input returns to healthy and starts its quiet interval (R440); with TRIP_QUIET = 0 a held clear takes effect at once. -/
def opTripInputInactive (i : Nat) (s : State) : State :=
  if s.drive.siRev.contains (8 + i) then s
  else
    let s := s.setBit GDRV_TRIP_STAT_INPUT i false
    if s.get GDRV_TRIP_CFG_TRIP_QUIET = 0 then { s with drive := { s.drive with quiet := setPresent s.drive.quiet i true } } else s

/-- R440 TRIP_INPUT_INACTIVE. -/
def execTripInputInactive (i : Fin 8) (s : State) : Host.Outcome State Fault Refusal :=
  .next (if s.fieldUp then opTripInputInactive i.val s else s.noteLevel (.trip i) true)

/-- The input has been inactive for TRIP_QUIET: a held clear takes effect (R440). -/
def opTripQuietExpiry (i : Nat) (s : State) : State :=
  if bitOf (s.get GDRV_TRIP_STAT_INPUT) i then s
  else
    let s := { s with drive := { s.drive with quiet := setPresent s.drive.quiet i true } }
    if bitOf (s.get GDRV_TRIP_STAT_CLR_PEND) i then (s.setBit GDRV_TRIP_STAT_LATCH i false).setBit GDRV_TRIP_STAT_CLR_PEND i false else s

/-- R440 TRIP_QUIET_EXPIRY. -/
def execTripQuietExpiry (i : Fin 8) (s : State) : Host.Outcome State Fault Refusal := .next (if s.fieldUp then opTripQuietExpiry i.val s else s)

/-- A write of GDRV_TRIP_CLR is judged for each latch (R440). -/
def opTripClear (mask : Nat) (s : State) : Bool × State :=
  (List.range 8).foldl (fun r i =>
    if !bitOf mask i then r
    else if bitOf (r.2.get GDRV_TRIP_STAT_INPUT) i then (false, r.2.refuse .gdrv 0x1120 0x11 0x08)
    else if r.2.drive.quiet.contains i || r.2.get GDRV_TRIP_CFG_TRIP_QUIET == 0 then (r.1, (r.2.setBit GDRV_TRIP_STAT_LATCH i false).setBit GDRV_TRIP_STAT_CLR_PEND i false)
    else if bitOf (r.2.get GDRV_TRIP_STAT_LATCH) i then (r.1, r.2.setBit GDRV_TRIP_STAT_CLR_PEND i true)
    else r) (true, s)

/-- R440 TRIP_CLEAR. -/
def execTripClear (mask : BitVec 8) (s : State) : Host.Outcome State Fault Refusal := .next (s.live (opTripClear mask.toNat s).2)

/-! Interlocks (R472). -/

/-- The buses joined to an axis by its interlock. -/
def State.ilkBuses (s : State) (a : Nat) : List Nat := buses.filter (fun b => bitOf (s.get SAFE_ILK_BUS 0 a) b)

/-- Whether an interlock is enforced (R472, R559). -/
def State.ilkOn (s : State) (a : Nat) : Bool := s.en .safe && s.flag SAFE_ILK_EN 0 a

/-- |V_b| above V_SAFE. -/
def State.aboveSafe (s : State) (a b : Nat) : Bool := decide (s.get SAFE_ILK_V_SAFE 0 a * 1000 < s.busVolts b)

/-- Whether RUN of an axis is refused by its interlock. -/
def State.ilkRefusesRun (s : State) (a : Nat) : Bool :=
  s.ilkOn a && (s.ilkBuses a).any (fun b => (s.busEn b && s.bst b != B_OFF) || s.aboveSafe a b)

/-- Whether ON of a bus is refused by an interlock. -/
def State.ilkRefusesOn (s : State) (b : Nat) : Bool :=
  (List.range 4).any (fun a => s.ilkOn a && bitOf (s.get SAFE_ILK_BUS 0 a) b &&
    ((s.axisEn a && s.get AXIS_STAT_STATE a != AX_IDLE) || (s.flag SAFE_ILK_ENG_EN 0 a && !s.fbHigh (s.get SAFE_ILK_ENG_FB 0 a))))

/-- SOD of every bus of an interlock's mask, with INTERLOCK. -/
def State.ilkSod (s : State) (a : Nat) : State :=
  if (s.ilkBuses a).all (fun b => s.sodActive b) then s
  else (s.ilkBuses a).reverse.foldl (fun s b => s.sod b SOD_INTERLOCK) (s.raiseC SRC_SAFE_INTERLOCK)

/-- Whether the axis has moved too far since a joined bus left OFF. -/
def State.ilkMoved (s : State) (a : Nat) : Bool :=
  s.safe.ilkPos.any (fun p => p.1 == a && (s.busEn p.2.1 && s.bst p.2.1 != B_OFF) && decide (s.get SAFE_ILK2_MOVE_TOL 0 a < (s.axisPos a - p.2.2).natAbs))

/-- The enforced rule of motion: an axis that moved while a joined bus is not OFF. -/
def State.ilkMotion (s : State) (a : Nat) : State := if s.ilkOn a && s.ilkMoved a then s.ilkSod a else s

/-- The enforced rule of voltage, at each step 4: SDS of an axis in RUN. -/
def State.ilkVoltage (s : State) : State :=
  (List.range 4).reverse.foldl (fun s a =>
    if s.ilkOn a && s.get AXIS_STAT_STATE a == AX_RUN && (s.ilkBuses a).any (fun b => s.aboveSafe a b) && !s.sdsActive a then
      (s.raiseC SRC_SAFE_INTERLOCK).sdsReq a
    else s) s

/-- The enforced rule of engagement: ENG_FB opens while a joined bus is not OFF. -/
def State.ilkEngage (s : State) (k : Nat) : State :=
  (List.range 4).reverse.foldl (fun s a =>
    if s.ilkOn a && s.flag SAFE_ILK_ENG_EN 0 a && s.get SAFE_ILK_ENG_FB 0 a == k && !s.fbHigh k && (s.ilkBuses a).any (fun b => s.busEn b && s.bst b != B_OFF) then
      s.ilkSod a
    else s) s

/-! RUN of an axis (R442). -/

/-- RUN starts the test, charge and run sequence. -/
def opAxisRun (n : Nat) (s : State) : Bool × State :=
  let no := fun (r : Nat) => (false, s.refuse .axis r n 0x20)
  if !s.axisEn n || s.get AXIS_STAT_STATE n != AX_IDLE || !(s.pstate == READY || s.inRun) then no 0x100A
  else if (List.range 3).any (fun p => s.flag GDRV_HSTAT_SC (3 * n + p)) then no 0x1023
  else if s.get GDRV_TRIP_STAT_LATCH != 0 || s.sdsActive n || s.strActive n || s.ilkRefusesRun n then no 0x1022
  else if !s.vbrOk n then no 0x1021
  else (true, s.enterTest n false)

/-- R442 AXIS_RUN. -/
def execAxisRun (n : Fin 4) (s : State) : Host.Outcome State Fault Refusal := .next (s.live (opAxisRun n.val s).2)

/-! Encoder plausibility (R471). -/

/-- Whether the plausibility checks of an axis run (R471, R559). -/
def State.plausOn (s : State) (a : Nat) : Bool := s.en .safe && s.flag SAFE_AXCFG_PLAUS_EN a

/-- A failed check: PLAUS_FAIL, ENC_PLAUS, and STR of the axis. -/
def opEncPlausFail (a : Nat) (s : State) : State :=
  if s.plausOn a then
    let s := { s with safe := { s.safe with moved := s.safe.moved.filter (· != a) } }
    ((s.set SAFE_AXSTAT_PLAUS_FAIL 1 a).raiseIf (!s.flag SAFE_AXSTAT_PLAUS_FAIL a) SRC_SAFE_ENC_PLAUS (4 + a)).strReq a
  else s

/-- R471 ENC_PLAUS_FAIL. -/
def execEncPlausFail (a : Fin 4) (s : State) : Host.Outcome State Fault Refusal := .next (s.live (opEncPlausFail a.val s))

/-- The checks have passed for 100 ms; with HALL_EN the axis must have moved a Hall sector (R471). -/
def opPlausChecksPassed (a : Nat) (s : State) : State :=
  if s.plausOn a && (!s.flag SAFE_AXCFG_HALL_EN a || s.safe.moved.contains a) then s.set SAFE_AXSTAT_PLAUS_FAIL 0 a else s

/-- R471 PLAUS_CHECKS_PASSED. -/
def execPlausChecksPassed (a : Fin 4) (s : State) : Host.Outcome State Fault Refusal := .next (s.live (opPlausChecksPassed a.val s))

/-- A Hall line changes, a line below −3 V reading low (R55, R445, R471): the counts since the last edge must lie within CPS × (1 ± 0.25). -/
def opHallLineChange (n : Nat) (u v w : Bool) (s : State) : State :=
  if s.en .enc && s.flag ENC_CFG_EN_CH n then
    let reads := fun (k : Nat) (x : Bool) => b2n (x && !s.drive.encRev.contains (6 * n + k))
    let s := s.set ENC_STAT_HALL (reads 3 u + 2 * reads 4 v + 4 * reads 5 w) n
    let e := s.encSt n
    let cps := s.get SAFE_AXPL_CPS n
    let wrong := e.hallSeen && (decide (4 * e.hallCounts.natAbs < 3 * cps) || decide (5 * cps < 4 * e.hallCounts.natAbs))
    let s := s.setEncSt n { e with hallCounts := 0, hallSeen := true }
    let s := { s with safe := { s.safe with moved := setPresent s.safe.moved n true } }
    if s.flag SAFE_AXCFG_HALL_EN n && wrong then opEncPlausFail n s else s
  else s

/-- R471 HALL_LINE_CHANGE. -/
def execHallLineChange (n : Fin 4) (u v w : Bool) (s : State) : Host.Outcome State Fault Refusal := .next (s.fieldLive (opHallLineChange n.val u v w s))

/-- An encoder sample with the checks that follow a count: skipped counts within 10 ms (R471) and the interlock of motion (R472). -/
def opEncSample (n : Nat) (a b : Bool) (dt : Nat) (s : State) : State :=
  let skip0 := s.get ENC_STAT_SKIP n
  let s := opEncCount n (a && !s.drive.encRev.contains (6 * n)) (b && !s.drive.encRev.contains (6 * n + 1)) dt s
  let t := s.safe.clock.getD n 0 + dt
  let old := s.safe.skips.filter (fun p => p.1 != n || decide (t < p.2 + 1500000))
  let skips := if s.get ENC_STAT_SKIP n = skip0 then old else old ++ [(n, t)]
  let s := { s with safe := { s.safe with clock := s.safe.clock.set n t, skips := skips } }
  let s := if decide (s.get SAFE_AXPL_SKIP_MAX n < (skips.filter (fun p => p.1 == n)).length) then opEncPlausFail n s else s
  s.ilkMotion n

/-- R445 ENC_COUNT. -/
def execEncCount (n : Fin 4) (a b : Bool) (dt : Nat) (s : State) : Host.Outcome State Fault Refusal := .next (s.fieldLive (opEncSample n.val a b dt s))

/-! Host requests (R484). -/

/-- R484 SAFE_CMD_SGR. -/
def execSafeCmdSgr (s : State) : Host.Outcome State Fault Refusal := .next (s.live (s.sgr C_HOST))

/-- R484 SAFE_CMD_SOD. -/
def execSafeCmdSod (b : Fin 12) (s : State) : Host.Outcome State Fault Refusal := .next (s.live (s.sod b.val SOD_HOST))

/-- R484 SAFE_CMD_SDS. -/
def execSafeCmdSds (a : Fin 4) (s : State) : Host.Outcome State Fault Refusal := .next (s.live (s.sdsReq a.val))

/-- R484 SAFE_CMD_STR. -/
def execSafeCmdStr (a : Fin 4) (s : State) : Host.Outcome State Fault Refusal := .next (s.live (s.strReq a.val))

/-! Entry to SAFE (R57, R233, R300, R325). -/

/-- The coils of precharge are commanded off (R290 step 4, R300). -/
def State.preCoilsOff (s : State) : State :=
  let s := if s.flag LAW_PRE_FEED_EN then s.coilCmd (s.get LAW_PRE_FEED_CTC) false else s
  if s.flag LAW_PRE_STORE_EN then s.coilCmd (s.get LAW_PRE_STORE_CTC) false else s

/-- Precharge ends before it is done: its contactor opens as in R290 step 4, and its feedback is awaited (R291, R300). -/
def State.prechargeEnds (s : State) : State :=
  let closed := if s.pstate = SYNC then s.flag LAW_PRE_FEED_EN && s.pathClosed (s.get LAW_PRE_FEED_CTC) (s.get LAW_PRE_FEED_FB)
    else s.flag LAW_PRE_STORE_EN && s.pathClosed (s.get LAW_PRE_STORE_CTC) (s.get LAW_PRE_STORE_FB)
  s.preCoilsOff.set LAW_PRE_STAT_STEP (if closed then 4 else 0)

/-- RIDE ends (R294). -/
def State.rideClear (s : State) : State :=
  let s := (s.set LAW_RT_STAT_RIDE 0).set LAW_RT_STAT_T_RIDE 0
  { s with law := { s.law with recSince := none } }

/-- No competition is in force: no slot has won one (R288, R301). -/
def State.clearWins (s : State) : State := (List.range 7).foldl (fun s k => s.set LAW_SSTAT_WIN 0 k) s

/-- The device enters SAFE: FORM, LAW and OUT stop, every DAB permission is withdrawn, no coil is commanded but the precharge coils, which open, and the drives go to IDLE (R441). -/
def State.enterSafe (s : State) (cause : Nat) : State :=
  let s := (s.withdrawClose.set SYS_PWR_STATE_STATE SAFE).set SYS_PWR_STATE_SAFE_CAUSE cause
  let s := ((s.set FORM_MODE_STAT_PHASE 0).set FORM_MODE_STAT_CLOSE_OK 0).set FORM_MODE_STAT_LIMITING 0
  let s := (s.set FORM_MODE_STAT_MODE SAFE).set FORM_MODE_STAT_ISLANDED 0
  let s := (((s.set FORM_DRV_DRV 0).set FORM_DXV_DXV 0).set LAW_DZ_DZ 0).set LAW_PRE_STAT_STEP 0
  let s := ((s.set LAW_WIN_COMP 0).set LAW_WIN_WINNER 0).clearWins.rideClear
  let s := s.preCoilsOff
  let s := buses.reverse.foldl (fun s b =>
    if s.busEn b then
      let s := s.setBusSt b { s.busSt b with noDab := true }
      s.busTo b (if s.busClosed b then B_UNAVAILABLE else B_OFF)
    else s) s
  let s := (List.range 4).reverse.foldl (fun s n => s.axisDrop n) s
  { s with hive := { s.hive with frames := [] }, form := { s.form with holds := [] } }

/-- SGR completes: SGR_DONE, and the device enters SAFE (R465); before READY, which R57 gives no such way out, when it reaches READY (log entry 23). -/
def State.sgrFinish (s : State) : State :=
  let s := s.set SAFE_FSTAT_SGR_DONE 1
  let host := s.pwr.enterSafe
  let s := { s with safe := { s.safe with sgrSlots := [] }, pwr := { s.pwr with enterSafe := false } }
  if s.pstate = SAFE then s
  else if s.pstate < READY then { s with pwr := { s.pwr with safeDue := true } }
  else s.enterSafe (if host then 5 else 3)

/-- Every slot is confirmed blocked (R465). -/
def opSgrComplete (s : State) : State :=
  let s := s.sgrPoll
  if s.sgrActive && !s.flag SAFE_FSTAT_SGR_DONE && s.safe.sgrSlots.isEmpty then s.sgrFinish else s

/-- R465 SGR_COMPLETE. -/
def execSgrComplete (s : State) : Host.Outcome State Fault Refusal := .next (s.live (opSgrComplete s))

/-- SGR_CONF cycles have passed (R465). -/
def opSgrConfTimeout (s : State) : State :=
  if s.sgrActive && !s.flag SAFE_FSTAT_SGR_DONE then
    (match s.safe.sgrSlots.min? with | some i => s.raise SRC_SAFE_SGR_UNCONF i | none => s).sgrFinish
  else s

/-- R465 SGR_CONF_TIMEOUT. -/
def execSgrConfTimeout (s : State) : Host.Outcome State Fault Refusal := .next (s.live (opSgrConfTimeout s))

/-- The breaker's feedback does not read open within BKR_MS of an SGR trip (R465). -/
def opBkrOpenTimeout (s : State) : State :=
  if s.safe.sgrBkr then
    let c := s.bkrClosed
    ({ s with safe := { s.safe with sgrBkr := false } } : State).raiseIf c SRC_SAFE_BKR_OPEN_FAIL 0x10
  else s

/-- R465 BKR_OPEN_TIMEOUT. -/
def execBkrOpenTimeout (s : State) : Host.Outcome State Fault Refusal := .next (s.live (opBkrOpenTimeout s))

/-! The configuration check of SAFE (R485). -/

/-- The first offending field of SAFE's settings. -/
def checkSafe (s : State) : Option (Nat × Nat × Nat) :=
  let ps := (List.range 4).filter (fun i => s.flag SAFE_SICFG_EN i)
  let axs := List.range 4
  let disc := fun i => s.get SAFE_SITIM_DISC_MS i
  checks [
    firstSome (fun i => bad (disc i == 0) ZERO_LEN i 0x04) ps,
    firstSome (fun a => checks [
      bad (s.get SAFE_AXCFG_SDS_TMAX a == 0) ZERO_LEN (4 + a) 0x00,
      bad (s.get SAFE_AXDEC_DEC a == 0) ZERO_LEN (4 + a) 0x04,
      bad (s.flag SAFE_AXCFG_HALL_EN a && s.get SAFE_AXPL_CPS a == 0) ZERO_LEN (4 + a) 0x10]) axs,
    bad (s.get SAFE_SODCFG2_SOD_CONF == 0) ZERO_LEN 0x08 0x04,
    bad (s.get SAFE_SGRCFG_SGR_CONF == 0) ZERO_LEN 0x11 0x00,
    firstSome (fun i => bad (decide (1000 < disc i)) RANGE i 0x04) (List.range 4),
    firstSome (fun a => checks [
      bad (s.get SAFE_AXCFG_SGR_AX a == 3) RANGE (4 + a) 0x00,
      bad (s.get SAFE_AXPL_SKIP_MAX a == 0) RANGE (4 + a) 0x10]) axs,
    bad (s.get SAFE_SODCFG_SOD_RAMP_MS == 0 || s.get SAFE_SODCFG_SOD_IDAB == 0) RANGE 0x08 0x00,
    firstSome (fun a => bad (decide (39 < s.get SAFE_ILK_ENG_FB 0 a) || s.get SAFE_ILK_V_SAFE 0 a == 0) RANGE 0x12 (8 * a)) axs,
    firstSome (fun i =>
      let none' := !s.flag SAFE_SICFG_SGR i && !s.flag SAFE_SICFG_SOD i && !s.flag SAFE_SICFG_SDS i && !s.flag SAFE_SICFG_STR i
      let noBus := s.flag SAFE_SICFG_SOD i && (s.get SAFE_SICFG_BUS i == 0 || buses.any (fun b => bitOf (s.get SAFE_SICFG_BUS i) b && !s.flag OUT_BCFG_EN b))
      let noAx := (s.flag SAFE_SICFG_SDS i || s.flag SAFE_SICFG_STR i) && (s.get SAFE_SICFG_AXES i == 0 || axs.any (fun a => bitOf (s.get SAFE_SICFG_AXES i) a && !s.flag AXIS_CFG_AX_EN a))
      let dir := s.flag SAFE_SICFG_DIRECT i && !s.flag SAFE_SICFG_SGR i && !s.flag SAFE_SICFG_STR i
      bad (none' || noBus || noAx || dir) DISAGREE i 0x00) ps,
    firstSome (fun o => bad (bitOf (s.get SAFE_SGRCTC_LO_MASK + 2 ^ 32 * s.get SAFE_SGRCTC_HI_MASK) o && s.flag CTC_OCFG_EN o && s.get CTC_OCFG_OWNER o == 2)
      DISAGREE 0x11 (if o < 32 then 0x04 else 0x08)) coils,
    firstSome (fun a => bad (s.flag SAFE_ILK_EN 0 a && s.flag SAFE_ILK_ENG_EN 0 a &&
      coils.any (fun o => s.flag CTC_OCFG_EN o && s.flag CTC_OCFG_FB_EN o && s.get CTC_OCFG_FB o == s.get SAFE_ILK_ENG_FB 0 a)) DISAGREE 0x12 (8 * a)) axs,
    bad (decide ((if s.tight then 78 else 38) < s.get SAFE_SGRCFG_SGR_CONF)) PROFILE 0x11 0x00]

/-- What the enable of SAFE does: every pair is evaluated, and one that demands requests its functions from now on (R461, R559). -/
def enterSafeBlk (s : State) : State :=
  (List.range 4).reverse.foldl (fun s i =>
    let s := s.siEval i
    if s.siDemands i then s.siRequests i else s) s

end Sys2Proof.Machine
end

