-- ==== Sys2Proof/Machine/Cell.lean ====
section
/-! DEFINITION. The cells: slot states from delivered reports (R178 to R186), host commands (R185), the identity sequence and the front-end commands (R181, R202, R203, R376), timeouts (R182), and the front end at the apply point (R187, R195). -/

namespace Sys2Proof.Machine

/-! Bases (R210). -/

/-- V_PK in mV, rounded to the nearest: R211 gives 8,981,462 for SKEP-168 (DEDUCED, log entry 85). -/
def State.vpk (s : State) : Int :=
  let v := s.get FORM_BASE_V_V_NOM
  sqrtNear (2 * v * v * 1000000) (if s.flag FORM_CFG_TOPO then 1 else 3)

/-- I_PK in mA, rounded to the nearest: R211 gives 222,681 for SKEP-168 (DEDUCED, log entry 85). -/
def State.ipk (s : State) : Int :=
  let k : Int := if s.flag FORM_CFG_TOPO then 1 else 3
  roundDiv (2 * s.get FORM_BASE_S_S * 1000000) (k * s.vpk)

/-- The base of report channel `k` in mV or mA; none for TEMP and VGATE, which stay in 1/128 °C and mV (R204, R210). -/
def State.chBase (s : State) (k : Nat) : Option Int :=
  match k with
  | 0 => some (s.get FORM_BASE_CELL_CELL_VDC * 100 : Nat)
  | 1 => some s.ipk
  | 2 => some (s.get FORM_BASE_CELL2_CELL_IDAB * 100 : Nat)
  | 3 => some (s.get FORM_BASE_CELL_CELL_VOUT * 100 : Nat)
  | _ => none

/-- A report value under the front end's own calibration (R376), on its base (R204). -/
def State.chValue (s : State) (i k : Nat) (raw : Int) : Int :=
  let w := s.cell.feCal.getD i []
  let fs : Int := w.getD (2 * k) 0
  let ofs : Int := signed 32 (w.getD (2 * k + 1) 0)
  match s.chBase k with
  | some b => q29 (rdiv ((raw - ofs) * fs * one) (2 ^ 17 * b))
  | none => rdiv ((raw - ofs) * fs) (2 ^ 17)

/-- The live trim of a channel applied: v1 × (1 + G × 10^−6) + O × 10^−6 (R377). -/
def trimmed (v1 g o : Int) : Int := q29 (rdiv (v1 * (1000000 + g) + o * one) 1000000)

/-- The values that FORM, LAW, MOD and OUT use (R377). VDC carries no trim. -/
def State.useVdc (s : State) (i : Nat) : Int := s.geti CELL_VDC_VDC i
def State.useIac (s : State) (i : Nat) : Int := trimmed (s.geti CELL_IAC_IAC i) (s.geti CAL_T_IAC_G i) (s.geti CAL_T_IAC_O i)
def State.useIdab (s : State) (i : Nat) : Int := trimmed (s.geti CELL_IDAB_IDAB i) (s.geti CAL_T_IDAB_G i) (s.geti CAL_T_IDAB_O i)
def State.useVout (s : State) (i : Nat) : Int := trimmed (s.geti CELL_VOUT_VOUT i) (s.geti CAL_T_VOUT_G i) (s.geti CAL_T_VOUT_O i)

/-! Strings (R178, R179). -/

def strings : List Nat := [0, 1, 2]

/-- Enabled slots of a string. -/
def State.strSlots (s : State) (j : Nat) : List Nat := s.enSlots.filter (fun i => s.get CELL_SCFG_STRING i == j)

/-- Slots of a string in service. -/
def State.nService (s : State) (j : Nat) : Nat := ((s.strSlots j).filter (fun i => s.inService i)).length

/-- Keep NSLOT and NLOST. -/
def State.countStrings (s : State) : State :=
  strings.foldl (fun s j =>
    let n := (s.strSlots j).length
    (s.set CELL_STR_NSLOT n 0 j).set CELL_STR_NLOST (n - s.nService j) 0 j) s

/-- Whether an enabled string has fewer slots in service than MIN_ACTIVE (R179). -/
def State.stringShort (s : State) : Bool := strings.any (fun j => s.flag CELL_STR_STR_EN 0 j && decide (s.nService j < s.get CELL_STR_MIN_ACTIVE 0 j))

/-- After a slot has left service: the counts, and STRING_LOST with SGR when its string has just fallen below MIN_ACTIVE in a running state (R179); the precharge coil then opens (R300). -/
def State.checkString (s : State) (i : Nat) : State :=
  let s := s.countStrings
  let j := s.get CELL_SCFG_STRING i
  if s.inRun && s.flag CELL_STR_STR_EN 0 j && decide (s.nService j + 1 = s.get CELL_STR_MIN_ACTIVE 0 j) then
    let s := (s.raiseC SRC_CELL_STRING_LOST).sgr C_SGR
    if s.precharging then s.prechargeEnds else s
  else s

/-! Slot states (R180 to R183). -/

/-- A slot enters a state. -/
def State.slotTo (s : State) (i st : Nat) : State := (s.set CELL_SSTAT_STATE st i).countStrings

/-- A slot enters BYPASSED or FAULTED with a cause. One that was in service abandons its move (R331), waits for its bypass from this instant (R183), and may take its string below its limit; a slot already out of service keeps the instant at which it left and the confirmation of its bypass. -/
def State.slotLeaves (s : State) (i st cause : Nat) : State :=
  let was := s.inService i
  let out := decide (6 ≤ s.slotState i)
  let s := (s.set CELL_SSTAT_STATE st i).set CELL_SSTAT_EXIT_CAUSE cause i
  let s := if out then s else s.set CELL_SSTAT_BYP_CONF 0 i
  let left := if was then s.cell.left.filter (fun (p : Nat × Nat) => p.1 != i) ++ [(i, s.now)] else s.cell.left
  let s := { s with cell := { s.cell with armed := s.cell.armed.filter (· != i), cleared := s.cell.cleared.filter (· != i), synced := s.cell.synced.filter (· != i), left := left } }
  if was then
    let stp := s.allocStep i
    let s := if (1 ≤ stp ∧ stp ≤ 5) ∨ stp = 7 then (s.setPk OUT_ALLOC_STEP_STEP 8 4 i 0).raise SRC_OUT_ALLOC_ABORT 0x13 else s
    s.checkString i
  else s.countStrings

/-- A front-end command, the code in ADDR (R202). -/
def State.feCommand (s : State) (i code notBefore : Nat) : State :=
  s.request 1 (s.get CELL_SCFG_RING i) (s.get CELL_SCFG_POS i) 3 code (leBytes 4 0) 4 notBefore

/-- FE ARM. -/
def State.feArm (s : State) (i : Nat) : State :=
  { s.feCommand i 2 0 with cell := { (s.feCommand i 2 0).cell with armed := setPresent (s.feCommand i 2 0).cell.armed i true } }

/-- The START sends FE ARM to every slot that is READY with BLOCKED = 1 (R184). -/
def State.armBlocked (s : State) : State :=
  s.enSlots.foldl (fun s i => if s.slotState i == 3 && s.flag CELL_SSTAT_BLOCKED i then s.feArm i else s) s

/-- Whether VGATE of a slot lies within limits. -/
def State.vgateOk (s : State) (i : Nat) : Bool :=
  let v := s.geti CELL_VGATE_VGATE i
  decide ((s.get CELL_VGATE_LIM_VGATE_MIN : Int) ≤ v) && decide (v ≤ s.get CELL_VGATE_LIM_VGATE_MAX)

/-- HIVE hands over a slot as timed out (R182). -/
def State.slotTimeout (s : State) (i : Nat) : State :=
  let st := s.slotState i
  if st = 4 ∨ st = 5 then (s.raise SRC_CELL_LOST i).slotLeaves i 6 3
  else if st = 2 ∨ st = 3 then
    let s := if st = 3 then s.raise SRC_CELL_LOST i else s
    let s := (s.slotLeaves i 6 3).feCommand i 4 0
    { s with cell := { s.cell with asked := setPresent s.cell.asked i true } }
  else s

/-- Deliveries and misses of some rings, then CELL's reaction to every slot handed over. Units are taken from the highest down, so that EVT_LAST shows the lowest of those that raise one source at once (R102, R151, R182). -/
def State.judgeRings (s : State) (rs : List Nat) : State :=
  let w := rs.reverse.foldl (fun a r => let b := a.2.windowRing r; (a.1 ++ b.1, b.2)) (([], s) : List Nat × State)
  (slots.reverse.filter (fun i => w.1.contains i)).foldl (fun s i => s.slotTimeout i) w.2

/-- The end of the report-repeat window: deliveries and misses, and CELL's reaction to timeouts (R151, R182). A ring in stretched service is judged at the end of the cycle (R168). -/
def opReportWindowEnd (s : State) : State :=
  if s.en .hive && s.running && !s.cyc.suspended && s.cyc.sampled && !s.hive.windowOver then
    let s := s.advanceTo (s.samp + s.tReports)
    let s := { s with hive := { s.hive with windowOver := true } }
    s.judgeRings (s.enRings.filter (fun r => s.get HIVE_RSTAT_MODE r != 3))
  else s

/-- R151 REPORT_WINDOW_END. -/
def execReportWindowEnd (s : State) : Host.Outcome State Fault Refusal := .next (s.live (opReportWindowEnd s))

/-- The measurements and status of a delivered report, into the slot's registers (R204). -/
def State.takeReport (s : State) (i : Nat) (f : List Byte) : State :=
  let s := ((s.set CELL_SSTAT_FE_STATE (repState f) i).set CELL_SSTAT_COAST_CNT (repCoast f) i).set CELL_SSTAT_SEL_FB (repSel f) i
  let s := (s.setb CELL_SSTAT_SEL_MOVING (repMoving f) i).setb CELL_SSTAT_BLOCKED (bitOf (repFlt f) 12) i
  let s := (s.set CELL_SFLT_FLT (repFlt f) i).set CELL_SFLT_FLT_SEEN (s.get CELL_SFLT_FLT_SEEN i ||| repFlt f) i
  let s := (s.seti CELL_VDC_VDC (s.chValue i 0 (repMeas f 0)) i).seti CELL_IAC_IAC (s.chValue i 1 (repMeas f 1)) i
  let s := (s.seti CELL_IDAB_IDAB (s.chValue i 2 (repMeas f 2)) i).seti CELL_VOUT_VOUT (s.chValue i 3 (repMeas f 3)) i
  let s := (s.seti CELL_TEMP_TEMP (s.chValue i 4 (repMeas f 4)) i).seti CELL_VGATE_VGATE (s.chValue i 5 (repMeas f 5)) i
  let s := if s.tookOver then s.set PART_LAST_MAX_COAST (max (s.get PART_LAST_MAX_COAST) (repCoast f)) else s
  let n := if s.vgateOk i then min 4 (s.cell.vgate.getD i 0 + 1) else 0
  let s := { s with cell := { s.cell with vgate := s.cell.vgate.set i n } }
  let s := (s.raiseIf (bitOf (repFlt f) 6) SRC_CELL_BST_UV i).raiseIf (bitOf (repFlt f) 11) SRC_CELL_INIT_MISMATCH i
  s.raiseIf ((s.slotState i == 3 || s.slotState i == 4) && !s.vgateOk i) SRC_CELL_VGATE i

/-- Entry into COAST. -/
def State.slotCoasts (s : State) (i : Nat) : State :=
  let s := (s.set CELL_SSTAT_STATE 5 i).inc CELL_SCNT2_COASTS i
  if s.tookOver then s else s.raise SRC_CELL_COAST i

/-- A slot in ENUM may follow its report: identity accepted, configuration written and FE SYNC answered (R180). -/
def State.enumDone (s : State) (i : Nat) : Bool := s.slotState i == 1 && s.cell.synced.contains i

/-- The state change that a delivered report causes, the causes in the order of R186 (R180, R183). A delivered report carries the expected CYC, since another's is a stray. -/
def State.followReport (s : State) (i : Nat) (f : List Byte) : State :=
  let st := s.slotState i
  let r := repState f
  let out := { s with cell := { s.cell with byp := s.cell.byp.filter (· != i), closing := s.cell.closing.filter (· != i) } }
  if r = 7 then
    let s := out
    if 2 ≤ st ∧ st ≠ 7 ∨ s.enumDone i = true then
      ((s.raise SRC_CELL_FE_FAULT i).raiseIf (s.inService i) SRC_CELL_LOST i).slotLeaves i 7 5
    else s
  else if r = 6 then
    let s := out
    if s.inService i then
      if s.cell.asked.contains i then s.slotLeaves i 6 6 else (s.raise SRC_CELL_LOST i).slotLeaves i 6 4
    else s
  else if r = 5 then (if st = 3 ∨ st = 4 then s.slotCoasts i else s)
  else if r = 4 then (if st = 3 ∨ st = 5 then s.slotTo i 4 else s)
  else if r = 3 then
    if st = 2 ∨ st = 4 ∨ st = 5 then ({ s with cell := { s.cell with armed := s.cell.armed.filter (· != i) } } : State).slotTo i 3
    else if st = 3 then { s with cell := { s.cell with armed := s.cell.armed.filter (· != i) } } else s
  else if r = 2 then
    if s.enumDone i = true ∨ ((st = 6 ∨ st = 7) ∧ s.cell.cleared.contains i = true) then
      let s := { s with cell := { s.cell with cleared := s.cell.cleared.filter (· != i), synced := s.cell.synced.filter (· != i),
                                              left := s.cell.left.filter (fun (p : Nat × Nat) => p.1 != i),
                                              asked := s.cell.asked.filter (· != i), unconf := s.cell.unconf.filter (· != i), vgate := s.cell.vgate.set i 0 } }
      s.slotTo i 2
    else s
  else s

/-- The bypass of a slot out of service is confirmed by the first report with FLT.BYP_CLOSED = 1 (R183). -/
def State.confirmBypass (s : State) (i : Nat) (f : List Byte) : State :=
  if (s.slotState i = 6 ∨ s.slotState i = 7) ∧ bitOf (repFlt f) 15 = true ∧ s.flag CELL_SSTAT_BYP_CONF i = false then
    let s := s.set CELL_SSTAT_BYP_CONF 1 i
    { s with cell := { s.cell with left := s.cell.left.filter (fun (p : Nat × Nat) => p.1 != i), unconf := s.cell.unconf.filter (· != i) } }
  else s

/-- FE ARM of a PRIMED slot whose VGATE has been within limits in 4 consecutive reports, with AUTO_ARM = 1 (R180). -/
def State.autoArm (s : State) (i : Nat) : State :=
  if s.slotState i = 2 ∧ s.flag ⟨CTRL_EN .cell |>.base, 0, 0, 16, 1⟩ = true ∧ 4 ≤ s.cell.vgate.getD i 0 ∧ s.cell.armed.contains i = false then s.feArm i else s

/-- Judge a held host command after the state changes of step 4 (R185). -/
def State.judgeCell (s : State) (i code : Nat) : State :=
  let st := s.slotState i
  if code = 1 then
    if st ≠ 3 ∧ st ≠ 4 then s.refuseC .cell STATE i 0x04
    else
      let j := s.get CELL_SCFG_STRING i
      if s.inRun ∧ s.get CELL_STR_NSLOT 0 j < s.get CELL_STR_NLOST 0 j + 1 + s.get CELL_STR_MIN_ACTIVE 0 j then s.refuse .cell 0x0620 i 0x04
      else
        let gates := s.eligible i && s.inRun && !s.precharging
        let s := s.slotLeaves i 6 6
        let s := { s with cell := { s.cell with asked := setPresent s.cell.asked i true } }
        if gates then { s with cell := { s.cell with byp := setPresent s.cell.byp i true, closing := setPresent s.cell.closing i true } }
        else s.feCommand i 4 0
  else if code = 2 then
    if (st = 6 ∨ st = 7) ∧ (s.pstate = READY ∨ s.pstate = SAFE) then
      let s := s.feCommand i 5 0
      { s with cell := { s.cell with cleared := setPresent s.cell.cleared i true } }
    else s.refuseC .cell STATE i 0x04
  else
    if st = 2 ∨ (st = 3 ∧ s.flag CELL_SSTAT_BLOCKED i = true) then (if s.vgateOk i then s.feArm i else s.refuseC .cell RANGE i 0x04)
    else s.refuseC .cell STATE i 0x04

/-- Whether a slot has a delivered report of this cycle. -/
def State.delivered (s : State) (i : Nat) : Bool :=
  (s.ringSt (s.get CELL_SCFG_RING i)).delivered.contains (s.get CELL_SCFG_POS i)

/-- Whether a slot has a report that step 4 takes: one of this cycle, or one that came after the last step 4 in stretched service (R168). -/
def State.reported (s : State) (i : Nat) : Bool :=
  s.delivered i || (s.ringSt (s.get CELL_SCFG_RING i)).late.contains (s.get CELL_SCFG_POS i)

/-- CELL's part of step 4: reports, state changes, automatic arming and host commands (R180, R183, R185, R186). Commands written in this cycle wait for the next (codes from 10). Slots are taken from the highest down, so that EVT_LAST shows the lowest of those that raise one source at once (R102). -/
def State.cellStep4 (s : State) : State :=
  if s.en .cell then
    let s := s.enSlots.reverse.foldl (fun s i =>
      if s.reported i && s.slotState i != 0 then
        let f := s.report i
        ((((s.takeReport i f).followReport i f).confirmBypass i f).autoArm i)
      else s) s
    let s := s.enRings.foldl (fun s r => s.setRingSt r { s.ringSt r with late := [], taken := (s.ringSt r).delivered ++ (s.ringSt r).late }) s
    let ripe := s.cell.cmds.filter (fun c => decide (c.2 < 10))
    let s := { s with cell := { s.cell with cmds := s.cell.cmds.filter (fun c => decide (10 ≤ c.2)) } }
    ripe.foldl (fun s c => s.judgeCell c.1 c.2) s
  else s

/-- Hold a host command for a slot; a second write before the judgement replaces the first (R185). -/
def opCellCmd (i code : Nat) (s : State) : Bool × State :=
  if s.follows then (false, s.refuseC .cell STATE i 0x04)
  else (true, { s with cell := { s.cell with cmds := s.cell.cmds.filter (fun c => c.1 != i) ++ [(i, code + 10)] } })

/-- R185 CELL_BYPASS. -/
def execCellBypass (slot : Fin 192) (s : State) : Host.Outcome State Fault Refusal := .next (s.live (opCellCmd slot.val 1 s).2)

/-- R185 CELL_CLEAR. -/
def execCellClear (slot : Fin 192) (s : State) : Host.Outcome State Fault Refusal := .next (s.live (opCellCmd slot.val 2 s).2)

/-- R185 CELL_ARM. -/
def execCellArm (slot : Fin 192) (s : State) : Host.Outcome State Fault Refusal := .next (s.live (opCellCmd slot.val 3 s).2)

/-- Whether a slot's reports keep arriving: fewer than CELL_TMO cycles have passed since the last valid one (R183; DESIGN CHOICE, log entry 83). -/
def State.reportsArrive (s : State) (i : Nat) : Bool :=
  (s.ringSt (s.get CELL_SCFG_RING i)).last.any (fun (q : Nat × Nat) =>
    q.1 == s.get CELL_SCFG_POS i && decide ((s.get SYS_CYC_NUM_CYC + 2 ^ 32 - q.2) % 2 ^ 32 < s.get HIVE_CFG_CELL_TMO))

/-- BYP_TIME has passed since a slot left service, its reports arrive, and the bypass is not confirmed (R183). -/
def opBypUnconfTimeout (i : Nat) (s : State) : State :=
  let got := s.reportsArrive i
  if s.en .cell && s.cell.left.any (fun p => p.1 == i) && !s.flag CELL_SSTAT_BYP_CONF i && got && !s.cell.unconf.contains i then
    ({ s with cell := { s.cell with unconf := s.cell.unconf ++ [i] } } : State).raise SRC_CELL_BYP_UNCONF i
  else s

/-- R183 BYP_UNCONF_TIMEOUT. -/
def execBypUnconfTimeout (slot : Fin 192) (s : State) : Host.Outcome State Fault Refusal := .next (s.live (opBypUnconfTimeout slot.val s))

/-- A slot not primed within 4 ms of ENUM goes to BYPASSED (R180). -/
def opEnumTimeout (i : Nat) (s : State) : State := if s.slotState i = 1 then s.slotLeaves i 6 1 else s

/-- R180 ENUM_TIMEOUT. -/
def execEnumTimeout (slot : Fin 192) (s : State) : Host.Outcome State Fault Refusal := .next (s.live (opEnumTimeout slot.val s))

/-! Responses to CELL and CAL (R181, R202, R203, R376). -/

/-- Send FE SYNC to a slot; HIVE fixes the cycle at the launch (R181). -/
def State.feSyncCmd (s : State) (i : Nat) : State := s.feCommand i 1 0

/-- The identity is refused: IDENTITY, 0x0621, and the slot goes to BYPASSED (R181). -/
def State.refuseIdentity (s : State) (i : Nat) : State :=
  ((s.raise SRC_CELL_IDENTITY i).refuse .cell 0x0621 i 0x18).slotLeaves i 6 2

/-- Whether FE_VER is refused (R181). -/
def State.verBad (s : State) (ver : Nat) : Bool :=
  decide (bitsOf ver 0 8 < s.get CELL_ID_EXP_CONTRACT_MIN) || (s.flag CELL_ID_EXP_NEED_SEMI_BYP && !bitOf ver 17)

/-- Whether the words of FE_CAL are unusable (R376). -/
def feCalBad (w : List Nat) : Bool := (List.range 6).any (fun k => w.getD (2 * k) 0 == 0 || decide (2 ^ 17 ≤ (signed 32 (w.getD (2 * k + 1) 0)).natAbs))

/-- An unusable FE_CAL: the reason, the event, and the identity refused (R376). -/
def State.refuseFeCal (s : State) (i : Nat) : State :=
  ((s.refuse .cal 0x0C22 (0x60 + i / 16) (0x10 * (i % 16) + 0x0C)).raiseC SRC_CAL_FE_CAL).refuseIdentity i

/-- The word FE_PULSE as CELL writes it (R201). -/
def State.pulseWord (s : State) : Nat := s.get CELL_PULSE_DT + 1024 * s.get CELL_PULSE_MINP + 2 ^ 20 * s.get CELL_COAST_COAST_MAX

/-- The words FE_TIMING and FE_TIMING2 as CELL writes them (R201). -/
def State.timingWord (s : State) : Nat := s.period + 2 ^ 16 * s.get SYS_CYC_TIMING_SAMPLE_OFS
def State.timing2Word (s : State) : Nat := s.get SYS_CYC_TIMING_APPLY_LEAD

/-- A slot's identity words: accepted, CAL reads FE_CAL next (R181, R376). -/
def State.takeIdentity (s : State) (i : Nat) (d : List Byte) : State :=
  let ver := leAt d 4 4
  let s := (s.set CELL_SID_ID (leAt d 0 4) i).set CELL_SVER_VER ver i
  if s.verBad ver then s.refuseIdentity i
  else
    let s := { s with cell := { s.cell with feCal := s.cell.feCal.set i [] } }
    s.request 2 (s.get CELL_SCFG_RING i) (s.get CELL_SCFG_POS i) 1 0x200 [] 32 0

/-- FE_CAL words arrive in two reads; the whole block is then judged, and CELL writes the front end's timing (R181, R201, R376). -/
def State.takeFeCal (s : State) (i addr : Nat) (d : List Byte) : State :=
  let r := s.get CELL_SCFG_RING i
  let p := s.get CELL_SCFG_POS i
  let have' := s.cell.feCal.getD i []
  let words := fun (n : Nat) => (List.range n).map (fun k => leAt d (4 * k) 4)
  if addr = 0x200 then
    ({ s with cell := { s.cell with feCal := s.cell.feCal.set i (words 8) } } : State).request 2 r p 1 0x220 [] 16 0
  else
    let w := have'.take 8 ++ words 4
    let s := { s with cell := { s.cell with feCal := s.cell.feCal.set i w } }
    if feCalBad w then s.refuseFeCal i
    else s.request 1 r p 2 0x100 (leBytes 4 s.timingWord ++ leBytes 4 s.timing2Word) 8 0

/-- The fault bits of FLT that stay until FE CLEAR (R198). -/
def fltFaults : Nat := 0x25B7

/-- The beat at which a front end adopts the cycle of a SYNC: its count takes that number, and one in ENUM enters PRIMED, or FAULTED with a fault bit set (R193, R198, R202). -/
def FeSt.adopt (e : FeSt) (c : Nat) : FeSt :=
  { e with sync := none, cyc := some c, st := if e.st = 1 then (if e.flt &&& fltFaults = 0 then 2 else 7) else e.st }

/-- A beat at one front end: it counts a cycle, and the fourth since a SYNC's last byte sets the count once the response has shown that the SYNC was executed (R193, R202). -/
def FeSt.beat (e : FeSt) : FeSt :=
  let e := { e with cyc := e.cyc.map (fun c => (c + 1) % 2 ^ 32) }
  match e.sync with
  | some (n, c, did) => if n ≤ 1 ∧ did = true then e.adopt c else { e with sync := some (n - 1, if n = 0 then (c + 1) % 2 ^ 32 else c, did) }
  | none => e

/-- What a command does in the front end that executed it (R202). HOLD and BYPASS act at its next apply point after the request came, `at'` TAI ns. -/
def State.feDid (s : State) (i : Nat) (t : MbxTx) (at' : Nat) : State :=
  let e := s.fe i
  let c := t.addr
  let passed := decide (at' ≤ e.applied)
  if c = 1 then
    match e.sync with
    | some (n, k, _) => s.setFe i (if n = 0 then { e with sync := some (1, k, true) }.adopt k else { e with sync := some (n, k, true) })
    | none => s.setFe i { e with sync := some (4, leAt t.data 0 4, true) }
  else if c = 2 then
    (if e.st = 2 ∨ e.st = 3 then s.setFe i { e with st := 3, blocked := false, dabBlocked := false, byp := false, flt := e.flt &&& 0x6FFF }
     else s.setFe i { e with blocked := false, dabBlocked := false, flt := e.flt &&& 0xEFFF })
  else if c = 3 then s.setFe i (if passed then { e with st := if e.st = 4 ∨ e.st = 5 then 3 else e.st } else { e with pend := 1 })
  else if c = 4 then s.setFe i (if passed then { e with st := if 2 ≤ e.st ∧ e.st ≤ 5 then 6 else e.st, byp := true } else { e with pend := 2 })
  else if c = 5 then s.setFe i { e with st := 2, byp := true, flt := e.flt &&& (0xFFFF - fltFaults) }
  else s

/-- The words that a write reached in the front end that executed it (R201). -/
def State.feWrote (s : State) (i : Nat) (t : MbxTx) : State :=
  let e := s.fe i
  let w0 := leAt t.data 0 4
  let w1 := leAt t.data 4 4
  let two := decide (t.len = 8)
  if t.addr = 0x100 then s.setFe i { e with timing := w0, timing2 := if two then w1 else e.timing2 }
  else if t.addr = 0x104 then s.setFe i { e with timing2 := w0, pulse := if two then w1 else e.pulse }
  else if t.addr = 0x108 then s.setFe i { e with pulse := w0 }
  else s

/-- What a request answered OK did in its front end, whoever sent it (R201, R202). -/
def State.feExecuted (s : State) (i : Nat) (t : MbxTx) : State :=
  let d := match s.mbxEnd t.ring t.pos with | some e => s.pathDelay t.ring t.pos e | none => 0
  if t.op = 2 then s.feWrote i t
  else if t.op = 3 then s.feDid i t (t.sentAt + 880 + (d + 15) / 16)
  else s

/-- A response to an internal request of a slot (R181, R202, R203). A READ that is refused leaves the slot to ENUM_TIMEOUT (R180). -/
def State.slotRsp (s : State) (i : Nat) (t : MbxTx) (ok : Bool) (d : List Byte) : State :=
  let enum := s.slotState i == 1
  if t.op = 1 then
    if !enum || !ok then s else if t.addr = 0 then s.takeIdentity i d else s.takeFeCal i t.addr d
  else if t.op = 2 then
    if !ok then (let s := s.refuse .cell 0x0624 i 0x08; if enum then s.slotLeaves i 6 1 else s)
    else if !enum then s
    else if t.addr = 0x100 then s.request 1 t.ring t.pos 2 0x108 (leBytes 4 s.pulseWord) 4 0
    else s.feSyncCmd i
  else if ok then
    if t.addr = 1 ∧ enum = true then { s with cell := { s.cell with synced := setPresent s.cell.synced i true } } else s
  else
    let s := { s with cell := { s.cell with armed := if t.addr = 2 then s.cell.armed.filter (· != i) else s.cell.armed,
                                            cleared := if t.addr = 5 then s.cell.cleared.filter (· != i) else s.cell.cleared } }
    if t.addr = 5 ∧ byteAt d 0 = 5 then s.refuse .cell 0x0622 i 0x04 else s

/-- An MBX_RSP arrives at an end of its transaction's ring: the transaction completes, or it is a stray (R137, R152, R153, R159). -/
def opMbxRspRx (r : Nat) (f : List Byte) (s : State) : State :=
  if s.ringOn r then
    if !validFrame 0xFB 44 f then s.crcErr r
    else
      let b := byteAt f 2
      match s.hive.tx.find? (fun t => t.tag == b % 64 && t.gen == b / 64 && t.ring == r && decide (0 < t.tries)) with
      | none => s.stray r
      | some t =>
        let ok : Bool := decide (byteAt f 9 = 0)
        let d := slice f 10 32
        let s := s.complete t (if ok then 0 else 1) d
        match s.slotAt t.ring t.pos with
        | some i =>
          let s := if ok then s.feExecuted i t else s
          if t.owner = 0 then s else s.slotRsp i t ok d
        | none => s
  else s

/-- R152 MBX_RSP_RX. -/
def execMbxRspRx (r : Fin 12) (frame : List (BitVec 8)) (s : State) : Host.Outcome State Fault Refusal := .next (s.live (opMbxRspRx r.val frame s))

/-! The front end at the apply point (R187, R195, R199, R202). -/

/-- The level of a leg after its edges. -/
def legAfter (init : Bool) (n : Nat) : Bool := if n % 2 = 1 then !init else init

def frLaInit (f : List Byte) : Bool := bitOf (byteAt f 12) 0
def frLbInit (f : List Byte) : Bool := bitOf (byteAt f 12) 1
def frLaN (f : List Byte) : Nat := bitsOf (byteAt f 12) 2 2
def frLbN (f : List Byte) : Nat := bitsOf (byteAt f 12) 4 2
def frDab (f : List Byte) : Bool := bitOf (byteAt f 12) 6
def frGo (f : List Byte) : Bool := bitOf (byteAt f 13) 4

/-- Whether the used edges of a leg lie within the guard in ascending order. -/
def edgesOk (guard per n t0 t1 : Nat) : Bool :=
  decide (n ≤ 2) && (decide (n < 1) || (decide (guard ≤ t0) && decide (t0 ≤ per - guard))) &&
    (decide (n < 2) || (decide (t0 ≤ t1) && decide (t1 ≤ per - guard)))

/-- Whether a received frame governs the coming interval, the INIT condition aside: valid, for the cycle of the front end's own count, in time, its edges within the guard (R195). With APPLY_LEAD = 0 the apply point and the boundary are one instant; the front end's apply point precedes the beat that advances its count, so APPLY_POINT comes before CYCLE_BOUNDARY (R28; DESIGN CHOICE, log entry 82). -/
def State.frameFits (s : State) (e : FeSt) (f : List Byte) (came : Nat) : Bool :=
  let guard := (bitsOf e.pulse 10 10 + 1) / 2
  let per := e.timing % 65536
  validFrame 0x1C 20 f && decide (e.cyc = some (leAt f 14 4)) && decide (came + 16 * 100 ≤ 16 * s.applyAt) &&
    edgesOk guard per (frLaN f) (leAt f 2 2) (leAt f 4 2) && edgesOk guard per (frLbN f) (leAt f 6 2) (leAt f 8 2)

/-- Whether a front end waives the INIT condition: its bootstrap high sides reported an undervoltage, so that a leg floats until the next apply point (R195, R199; DEDUCED, log entry 35). -/
def State.initWaived (s : State) (i : Nat) : Bool := bitOf (s.fe i).flt 6 && bitOf (s.get CELL_SVER_VER i) 16

/-- One front end at its apply point. -/
def State.feApply (s : State) (i : Nat) : State :=
  let e := { s.fe i with applied := s.now }
  let done := fun (x : FeSt) => s.setFe i { x with frame := none, pend := 0 }
  if e.pend = 2 ∧ (2 ≤ e.st ∧ e.st ≤ 5) then done { e with st := 6, byp := true }
  else if e.pend = 1 ∧ (e.st = 4 ∨ e.st = 5) then done { e with st := 3 }
  else if e.st = 4 ∨ e.st = 5 ∨ (e.st = 3 ∧ e.blocked = false) then
    let fits := match e.frame with | some (f, came) => if s.frameFits e f came then some f else none | none => none
    let gov := match fits with | some f => if s.initWaived i || (frLaInit f == e.la && frLbInit f == e.lb) then some f else none | none => none
    let e := if fits.isSome && gov.isNone then { e with flt := e.flt ||| 0x800 } else e
    match gov with
    | some f =>
      let move := frGo f && !frDab f && !e.prevDab
      done { e with st := 4, coast := 0, last := f, la := legAfter (frLaInit f) (frLaN f), lb := legAfter (frLbInit f) (frLbN f), prevDab := frDab f,
                    sel := if move then byteAt f 13 % 16 else e.sel, flt := if frGo f && !move then e.flt ||| 0x200 else e.flt }
    | none =>
      if e.st = 3 then done e
      else if e.coast < bitsOf e.pulse 20 2 then
        done { e with st := 5, coast := e.coast + 1, la := legAfter e.la (frLaN e.last), lb := legAfter e.lb (frLbN e.last) }
      else done { e with st := 6, byp := true }
  else done e

/-- Every cell reaches the apply point A(c) and applies the set that governs the interval from it (R20, R187, R195). A standing-by device does not drive the cells. -/
def opApplyPoint (s : State) : State :=
  if s.running && !s.cyc.suspended && !s.flag SYS_PWR_STATE_STANDBY then
    let s := s.advanceTo (s.samp + s.applyAt)
    s.enSlots.foldl (fun s i => s.feApply i) s
  else s

/-- R187 APPLY_POINT. -/
def execApplyPoint (s : State) : Host.Outcome State Fault Refusal := .next (s.live (opApplyPoint s))

/-! The configuration check of CELL (R207), enable and disable. -/

/-- The first offending field of CELL's settings. -/
def checkCell (s : State) : Option (Nat × Nat × Nat) :=
  let en := s.enSlots
  let minp := s.get CELL_PULSE_MINP
  checks [
    bad (s.get CELL_PULSE_DT == 0 || minp == 0 || s.get CELL_PULSE_DRVMIN == 0) ZERO_LEN 0xC1 0x00,
    bad (s.get CELL_COAST_COAST_MAX == 0 || s.get CELL_COAST_BYP_TIME == 0) ZERO_LEN 0xC1 0x04,
    bad (s.get CELL_BST_BST_HOLD == 0 || s.get CELL_BST_BST_REFRESH == 0) ZERO_LEN 0xC1 0x0C,
    firstSome (fun j => bad (s.flag CELL_STR_STR_EN 0 j && s.get CELL_STR_MIN_ACTIVE 0 j == 0) ZERO_LEN 0xC1 (0x20 + 4 * j)) strings,
    firstSome (fun i => bad (s.get CELL_SCFG_STRING i == 3 || decide (11 < s.get CELL_SCFG_RING i)) RANGE i 0x00) slots,
    firstSome (fun i =>
      let r := s.get CELL_SCFG_RING i
      let p := s.get CELL_SCFG_POS i
      bad (!s.flag HIVE_RCTL_RING_EN r || decide (s.ncell r ≤ p) || !s.flag CELL_STR_STR_EN 0 (s.get CELL_SCFG_STRING i) ||
        en.any (fun q => q != i && s.get CELL_SCFG_RING q == r && s.get CELL_SCFG_POS q == p)) DISAGREE i 0x00) en,
    firstSome (fun r => if (en.filter (fun i => s.get CELL_SCFG_RING i == r)).length = s.ncell r then none
      else some (DISAGREE, ((en.filter (fun i => s.get CELL_SCFG_RING i == r)).head?).getD 0xC0, 0x00)) s.enRings,
    firstSome (fun j => bad (decide ((s.strSlots j).length < s.get CELL_STR_MIN_ACTIVE 0 j)) DISAGREE 0xC1 (0x20 + 4 * j)) strings,
    bad (decide (minp < s.get CELL_PULSE_DT + s.get CELL_PULSE_DRVMIN)) DISAGREE 0xC1 0x00,
    bad (decide (s.get CELL_BST_BST_REFRESH < minp)) DISAGREE 0xC1 0x0C,
    bad (decide (s.get CELL_VGATE_LIM_VGATE_MAX < s.get CELL_VGATE_LIM_VGATE_MIN)) DISAGREE 0xC1 0x08,
    bad (s.tight && decide (96 < en.length)) PROFILE 0xC0 0x00]

/-- What the enable of CELL does, its counters having been reset: every enabled slot is ABSENT (R180). -/
def enterCell (s : State) : State :=
  let s := slots.foldl (fun s i =>
    (s.putWord (CELL_SSTAT_STATE.addr i 0) 0#32).setPk OUT_ALLOC_POS_POS 8 4 i 0xF) s
  ({ s with cell := CellState.idle } : State).countStrings

end Sys2Proof.Machine
end

