-- ==== Sys2Proof/Machine/Meas.lean ====
section
/-! DEFINITION. The measurement path: outputs with their stamps and their interpolation (R404), the calibration layers (R372 to R374), the SAR converters (R394 to R397), the cross-check (R382), and the validity of the bitstream channels (R405). -/

namespace Sys2Proof.Machine

/-! Samples. -/

def State.dsmSt (s : State) (n : Nat) : DsmSt := s.meas.dsm.getD n ⟨[], [], 0, false, false⟩
def State.setDsmSt (s : State) (n : Nat) (x : DsmSt) : State := { s with meas := { s.meas with dsm := s.meas.dsm.set n x } }
def State.sarSt (s : State) (a : Nat) : SarSt := s.meas.sar.getD a ⟨0, 0, false, 0⟩
def State.setSarSt (s : State) (a : Nat) (x : SarSt) : State := { s with meas := { s.meas with sar := s.meas.sar.set a x } }
def State.ainSt (s : State) (n : Nat) : AinSt := s.meas.ain.getD n ⟨[], 0, 0⟩
def State.setAinSt (s : State) (n : Nat) (x : AinSt) : State := { s with meas := { s.meas with ain := s.meas.ain.set n x } }

/-- Add an output to a channel's outputs; those of the last 20 ms are kept, and always the one before. -/
def pushSample (h : List Sample) (x : Sample) : List Sample :=
  let keep := h.filter (fun y => decide (x.stamp - 20000000 ≤ y.stamp))
  (if keep.isEmpty then h.getLast?.toList else keep) ++ [x]

/-- The linear interpolation, by stamp, between two outputs; it is valid when both are (R404). -/
def interp (a b : Sample) (t : Int) : Int × Bool :=
  (if a.stamp = b.stamp then b.x else a.x + rdiv ((b.x - a.x) * (t - a.stamp)) (b.stamp - a.stamp), a.ok && b.ok)

/-- The value at an instant from the two consecutive outputs whose stamps bracket it. -/
def valueAt : List Sample → Int → Option (Int × Bool)
  | a :: b :: t, x => if a.stamp ≤ x ∧ x ≤ b.stamp then some (interp a b x) else valueAt (b :: t) x
  | _, _ => none

/-- The value at an instant; where the outputs presented do not bracket it, the latest output (log entry 16). -/
def valueNear (h : List Sample) (t : Int) : Int × Bool :=
  match valueAt h t with
  | some v => v
  | none => match h.getLast? with
    | some y => (y.x, y.ok)
    | none => (0, false)

/-! Calibration layers. -/

/-- Layer 1 of a bitstream output: the fused gain of its preset (R373). The skim path takes the correction of SKIM. -/
def State.layer1 (s : State) (preset : Nat) (x : Int) : Int :=
  q29 (rdiv (x * (2 ^ 31 + s.geti CAL_F_PRESET_PRESET 0 preset)) (2 ^ 31))

/-- Layer 1 of a SAR code, in 2^-39 LSB (R373). -/
def State.sarLayer1 (s : State) (a code : Nat) : Int :=
  ((code : Int) * 256 - s.geti CAL_F_SAROFS_OFS 0 a) * (2 ^ 31 + s.geti CAL_F_SAR_GAIN 0 a)

/-- The unit of calibration channel `c`: DSM n is n, AIN n is 0x30 + n (R371). -/
def ainCal (n : Nat) : Nat := 0x30 + n

/-- Layer 2 in the channel's user unit, in 2^-62 mV or mA, or 2^-62 for a dimensionless channel, from `x` in 2^-31 (R374). -/
def State.userQ (s : State) (c : Nat) (x : Int) : Int :=
  let y := x * (2 ^ 31 + s.geti CAL_UGAIN_F_GAIN c) + s.geti CAL_UOFS_F_OFS c * 2 ^ 31
  if s.get CAL_UCFG_F_UNIT c = 2 then y else (s.get CAL_UFS_F_FS c : Int) * y

/-- A physical value of `userQ` per unit of a base in mV or mA. -/
def perUnit (q base : Int) : Int := q29 (rdiv (q * one) (2 ^ 62 * base))

/-- The skim value of a bitstream channel at the cycle's sampling instant, in 2^-62 mV or mA, with its validity (R404). -/
def State.skimQ (s : State) (n : Nat) : Int × Bool :=
  let v := valueNear (s.dsmSt n).skim s.samp
  (s.userQ n v.1, v.2 && s.en .fil && s.flag FIL_DCFG_EN n)

/-! FIL (R400 to R405). -/

/-- Decimation of the presets (R403). -/
def presetM (p : Nat) : Nat := 16 * 2 ^ p

/-- Clock divider of a channel (R49, R400). -/
def State.dsmDiv (s : State) (n : Nat) : Nat := s.get FIL_CLK_DIV (n / 6)

/-- Group delay of the fine output in sixths of a ns (R403). -/
def State.groupDelay6 (s : State) (n : Nat) : Nat := (59 * presetM (s.get FIL_DCFG_PRESET n) - 3) * s.dsmDiv n * 5

/-- Group delay of the skim output, ns (R403). -/
def State.skimDelay (s : State) (n : Nat) : Int := rdiv ((45 * s.dsmDiv n * 5 : Nat) : Int) 6

/-- Output period of the fine output in thirds of a ns (R403). -/
def State.outPeriod3 (s : State) (n : Nat) : Nat := 2 * presetM (s.get FIL_DCFG_PRESET n) * s.dsmDiv n * 5

/-- Whether a bitstream channel is served. -/
def State.dsmOn (s : State) (n : Nat) : Bool := s.en .fil && s.flag FIL_DCFG_EN n

/-- Whether a channel's input or modulator is at fault now. -/
def State.dsmBad (s : State) (n : Nat) : Bool := s.flag FIL_DSTAT_STUCK n || s.flag FIL_DSTAT_OVR n

/-- Show whether the fine output is valid, and whether it settles. -/
def State.showValid (s : State) (n : Nat) : State :=
  let st := (s.dsmSt n).settleFine
  (s.setb FIL_DSTAT_SETTLING (s.dsmOn n && st) n).setb FIL_DSTAT_VALID (s.dsmOn n && !s.dsmBad n && !st) n

/-- A STUCK or OVERRANGE condition has ended: both outputs settle (R405). -/
def State.startSettling (s : State) (n : Nat) : State :=
  (s.setDsmSt n { s.dsmSt n with settleFine := true, settleSkim := true }).showValid n

/-- The judgement of OVERRANGE on a skim output (R405). -/
def State.judgeOver (s : State) (n : Nat) (x : Int) : State :=
  if s.get FIL_CFG_OVR_LIM * 2 ^ 23 ≤ x.natAbs then
    let k := min 255 ((s.dsmSt n).above + 1)
    let s := s.setDsmSt n { s.dsmSt n with above := k }
    if s.get FIL_CFG_OVR_N ≤ k ∧ s.flag FIL_DSTAT_OVR n = false then ((s.set FIL_DSTAT_OVR 1 n).raise SRC_FIL_OVERRANGE n).showValid n else s
  else
    let s := s.setDsmSt n { s.dsmSt n with above := 0 }
    if s.flag FIL_DSTAT_OVR n then (s.set FIL_DSTAT_OVR 0 n).startSettling n else s

/-- A filter output at its decimation instant `t`: layer 1, stamp, validity, registers and the bracket store (R401, R403, R405). -/
def State.takeOutput (s : State) (n : Nat) (fine : Bool) (raw t : Nat) : State :=
  let x := s.layer1 (if fine then s.get FIL_DCFG_PRESET n else 2) (signed 32 raw)
  if fine then
    let d := s.dsmSt n
    let y : Sample := ⟨(t : Int) - s.get FIL_GD_GD n, x, !s.dsmBad n && !d.settleFine⟩
    ((((s.setDsmSt n { d with fine := pushSample d.fine y }).seti FIL_FINE_X x n).seti FIL_TS_TS y.stamp n)).showValid n
  else
    let s := s.judgeOver n x
    let d := s.dsmSt n
    let y : Sample := ⟨(t : Int) - s.skimDelay n, x, !s.dsmBad n && !d.settleSkim⟩
    (s.setDsmSt n { d with skim := pushSample d.skim y }).seti FIL_SKIM_X x n

/-- The data input of a clocked channel in use shows no transition for STUCK_CLK clocks (R405), whatever FIL_CTRL.EN holds (R97). -/
def opDsmStuck (n : Nat) (s : State) : State :=
  if s.flag FIL_DCFG_EN n && s.flag FIL_CLK_EN (n / 6) && !s.flag FIL_DSTAT_STUCK n then ((s.set FIL_DSTAT_STUCK 1 n).raise SRC_FIL_STUCK n).showValid n else s

/-- The STUCK condition ends; the outputs settle (R405). -/
def opDsmStuckEnd (n : Nat) (s : State) : State := if s.flag FIL_DSTAT_STUCK n then (s.set FIL_DSTAT_STUCK 0 n).startSettling n else s

/-- The settling time of an output has run on clean data (R405). -/
def opSettlingEnd (n : Nat) (fine : Bool) (s : State) : State :=
  if s.dsmBad n then s
  else
    let d := s.dsmSt n
    (s.setDsmSt n (if fine then { d with settleFine := false } else { d with settleSkim := false })).showValid n

/-- The first offending field of FIL's settings (R421). -/
def checkFil (s : State) : Option (Nat × Nat × Nat) :=
  let all := List.range 6
  let clks := all.filter (fun k => s.flag FIL_CLK_EN k)
  let chs := (List.range 36).filter (fun n => s.flag FIL_DCFG_EN n)
  checks [
    firstSome (fun k => bad (s.get FIL_CLK_DIV k == 0) ZERO_LEN (0x30 + k) 0x00) clks,
    bad (s.get FIL_CFG_STUCK_CLK == 0 || s.get FIL_CFG_OVR_LIM == 0 || s.get FIL_CFG_OVR_N == 0) ZERO_LEN 0x41 0x00,
    firstSome (fun k =>
      let d := s.get FIL_CLK_DIV k
      bad (decide (d < 24) || decide (120 < d) || decide (d * 5 < 6 * s.get FIL_CLK_SAMP_DLY k)) RANGE (0x30 + k) 0x00) all,
    firstSome (fun n => bad (decide (1000 < s.get FIL_DCFG_PHASE_DLY n)) RANGE n 0x00) (List.range 36),
    firstSome (fun n => bad ((chs.contains n && !s.flag FIL_CLK_EN (n / 6)) || (s.get FIL_DCFG_PHASE_DLY n != 0 && !s.flag FIL_CFG_COMPAT48)) DISAGREE n 0x00) (List.range 36),
    bad (s.tight && s.flag FIL_CFG_COMPAT48) PROFILE 0x41 0x00,
    firstSome (fun k => bad (s.tight && decide (71 < s.get FIL_CLK_DIV k)) PROFILE (0x30 + k) 0x00) clks]

/-- What the enable of FIL does: group delays, and every channel settles (R405). -/
def enterFil (s : State) : State :=
  (List.range 36).foldl (fun s n =>
    let s := if s.flag FIL_DCFG_EN n then s.set FIL_GD_GD (rdiv (s.groupDelay6 n : Int) 6).toNat n else s.set FIL_GD_GD 0 n
    ((s.set FIL_DSTAT_OVR 0 n).setDsmSt n ⟨[], [], 0, true, true⟩).showValid n) s

/-- What the disable of FIL does: no output is valid, and no skim output is judged; a STUCK input stays shown (R97). -/
def leaveFil (s : State) : State := (List.range 36).foldl (fun s n => ((s.set FIL_DSTAT_OVR 0 n).set FIL_DSTAT_VALID 0 n).set FIL_DSTAT_SETTLING 0 n) s

/-! ADC (R394 to R397). -/

def ADC_STATUS_REF : Fld := ⟨0x0D3004, 0, 1, 17, 1⟩

/-- Whether the reference fault of a converter lasts. -/
def State.refFault (s : State) (a : Nat) : Bool := s.flag ⟨ADC_STATUS_REF.base, 0, 0, 17 + a, 1⟩
def State.setRefFault (s : State) (a : Nat) (v : Bool) : State := s.setb ⟨ADC_STATUS_REF.base, 0, 0, 17 + a, 1⟩ v

/-- Whether the converters work: V5A holds their domain in reset while it is low (R38). -/
def State.adcOn (s : State) : Bool := s.en .adc && s.fieldUp

/-- An entry of a converter's table starts (R395). -/
def opSarEntryStart (a : Nat) (s : State) : State :=
  if s.adcOn then ((s.set ADC_SEQ_STAT_PD 0 (a)).setSarSt a ⟨0, 0, false, 0⟩) else s

/-- R395 SAR_ENTRY_START. -/
def execSarEntryStart (a : Fin 2) (s : State) : Host.Outcome State Fault Refusal := .next (s.live (opSarEntryStart a.val s))

/-- A layer-1 value as a 16-bit code; values outside the code's range are open (log entry 6). -/
def sarCode (v : Int) : Nat :=
  let c := rdiv v (2 ^ 39)
  if 0 ≤ c ∧ c < 2 ^ 16 then c.toNat else (Config.outOfRange c).toNat % 2 ^ 16

/-- Mark the values of channels invalid (R397). -/
def State.adcInvalid (s : State) (ns : List Nat) : State := ns.foldl (fun s n => s.set ADC_RSTAT_VALID 0 n) s

/-- A comparison of both converters' AIN23 results (R382); a failure makes every value of both invalid. -/
def State.crossCheck (s : State) (d : Int) : State :=
  let dl := rdiv d (2 ^ 39)
  let s := s.seti CAL_XSTAT_DIFF dl
  let n := s.get CAL_XCHK_XCHK_N
  if s.get CAL_XCHK_XCHK_LIM * 2 ^ 39 < d.natAbs then
    let k := min 255 (s.meas.xbad + 1)
    let s := { s with meas := { s.meas with xbad := k, xgood := 0 } }
    if n ≤ k ∧ s.flag CAL_XSTAT_FAIL = false then (((s.set CAL_XSTAT_FAIL 1).inc CAL_XCNT_FAIL_CNT).raiseC SRC_CAL_SAR_XCHK).adcInvalid (List.range 24) else s
  else
    let k := min 255 (s.meas.xgood + 1)
    let s := { s with meas := { s.meas with xgood := k, xbad := 0 } }
    if n ≤ k then s.set CAL_XSTAT_FAIL 0 else s

/-- The open-wire judgement of a conversion (R397). -/
def State.judgeOpen (s : State) (n code : Nat) : State :=
  let c := s.ainSt n
  if 0xFAE2 ≤ code then
    let k := min 16 (c.high + 1)
    let s := s.setAinSt n { c with high := k, low := 0 }
    if k = 16 ∧ s.flag ADC_CHCFG_BURN_EN n = true ∧ s.flag ADC_RSTAT_OPEN n = false then ((s.set ADC_RSTAT_OPEN 1 n).raise SRC_ADC_OPEN_WIRE n).adcInvalid [n] else s
  else
    let k := min 16 (c.low + 1)
    let s := s.setAinSt n { c with low := k, high := 0 }
    if k = 16 then s.set ADC_RSTAT_OPEN 0 n else s

/-- The FINE value of a finished entry (R396). -/
def State.finishEntry (s : State) (a n : Nat) : State :=
  let q := s.sarSt a
  let ok := !q.bad
  let mean := rdiv q.sum q.conv
  let stamp : Int := q.t0 + (q.conv - 1) * 250
  let x := rdiv mean (2 ^ 24)
  let s := ((s.set ADC_RES_FINE (sarCode mean) n).setb ADC_RSTAT_VALID ok n).setb ADC_RSTAT_CONV (a == 1) n
  let s := (s.set ADC_RSTAT_NCONV q.conv n).seti ADC_TS_TS stamp n
  let c := ainCal n
  let val := if s.get CAL_UCFG_F_UNIT c = 2 then rdiv (s.userQ c x) (2 ^ 38) else rdiv (s.userQ c x) (2 ^ 54)
  let s := s.seti ADC_VAL_VALUE (q29 val) n
  let s := s.setAinSt n { s.ainSt n with fine := pushSample (s.ainSt n).fine ⟨stamp, x, ok⟩ }
  let e := s.get ADC_SEQ_STAT_ENTRY a + 1
  let s := if s.get ADC_SEQ_CFG_N_ENT a ≤ e then (s.set ADC_SEQ_STAT_ENTRY 0 a).inc ADC_SEQ_STAT_LOOPS a else s.set ADC_SEQ_STAT_ENTRY e a
  (s.setb ADC_SEQ_STAT_PD (s.get ADC_SEQ_DELAY a (s.get ADC_SEQ_STAT_ENTRY a) != 0) a).setSarSt a ⟨0, 0, false, 0⟩

/-- A conversion of the entry in progress completes (R394 to R397). -/
def opSarConversion (a code t : Nat) (s : State) : State :=
  if s.adcOn then
    let e := s.get ADC_SEQ_STAT_ENTRY a
    let n := s.get ADC_SEQ_CH a e
    let v := s.sarLayer1 a code
    let s := s.set ADC_RES_SKIM (sarCode v) n
    let s := s.judgeOpen n (sarCode v)
    let s := if n = 23 then
        let s := { s with meas := { s.meas with x23 := s.meas.x23.set a (some v) } }
        match s.meas.x23.getD 0 none, s.meas.x23.getD 1 none with
        | some xa, some xb => ({ s with meas := { s.meas with x23 := [none, none] } } : State).crossCheck (xa - xb)
        | _, _ => s
      else s
    let bad := s.refFault a || s.flag CAL_XSTAT_FAIL || (s.flag ADC_RSTAT_OPEN n && s.flag ADC_CHCFG_BURN_EN n)
    let q := s.sarSt a
    let s := s.setSarSt a ⟨q.conv + 1, q.sum + v, q.bad || bad, if q.conv = 0 then t else q.t0⟩
    if s.get ADC_SEQ_REPEAT a e ≤ q.conv + 1 then s.finishEntry a n else s
  else s

/-- R396 SAR_CONVERSION. -/
def execSarConversion (a : Fin 2) (code : BitVec 16) (t : Nat) (s : State) : Host.Outcome State Fault Refusal :=
  .next (s.live (opSarConversion a.val code.toNat t s))

/-- The reference of a converter has been out of range for 10 µs (R397): the values that it made are invalid. Detected whatever ADC_CTRL.EN holds (R97). -/
def opRefFault (a : Nat) (s : State) : State :=
  if s.fieldUp && !s.refFault a then
    ((s.setRefFault a true).raise SRC_ADC_REF_FAULT (0x20 + a)).adcInvalid ((List.range 24).filter (fun n => s.get ADC_RSTAT_CONV n == a))
  else s

/-- R397 REF_FAULT. -/
def execRefFault (a : Fin 2) (s : State) : Host.Outcome State Fault Refusal := .next (s.live (opRefFault a.val s))

/-- The reference has been within range for 10 µs (R397). -/
def opRefFaultEnd (a : Nat) (s : State) : State := s.setRefFault a false

/-- R397 REF_FAULT_END. -/
def execRefFaultEnd (a : Fin 2) (s : State) : Host.Outcome State Fault Refusal := .next (s.live (opRefFaultEnd a.val s))

/-- The entries that a converter's table uses. -/
def State.sarEntries (s : State) (a : Nat) : List Nat := List.range (min 32 (s.get ADC_SEQ_CFG_N_ENT a))

/-- The first offending field of ADC's settings (R419). -/
def checkAdc (s : State) : Option (Nat × Nat × Nat) :=
  firstSome (fun a => checks [
    bad (s.get ADC_SEQ_CFG_N_ENT a == 0) ZERO_LEN (0x20 + a) 0x00,
    firstSome (fun e => bad (s.get ADC_SEQ_REPEAT a e == 0) ZERO_LEN (0x20 + a) (0x40 + 4 * e)) (s.sarEntries a),
    bad (decide (32 < s.get ADC_SEQ_CFG_N_ENT a)) RANGE (0x20 + a) 0x00,
    firstSome (fun e => bad (decide (23 < s.get ADC_SEQ_CH a e) || decide (256 < s.get ADC_SEQ_REPEAT a e)) RANGE (0x20 + a) (0x40 + 4 * e)) (s.sarEntries a),
    bad ((s.sarEntries a).all (fun e => s.get ADC_SEQ_CH a e != 23)) DISAGREE (0x20 + a) 0x00]) [0, 1]

/-- What the enable of ADC does: the tables start at entry 0, and the loop times are shown (R395). -/
def enterAdc (s : State) : State :=
  [0, 1].foldl (fun s a =>
    let loop := ((s.sarEntries a).map (fun e =>
      let d := s.get ADC_SEQ_DELAY a e
      s.get ADC_SEQ_REPEAT a e * 500 + d * 10 + (if d = 0 then 0 else 1200))).sum
    ((s.putWord (ADC_SEQ_STAT_ENTRY.addr a 0) 0#32).set ADC_SEQ_LOOP_LOOP_NS loop a).setSarSt a ⟨0, 0, false, 0⟩) s

/-- What the disable of ADC does: the converters stop and no value is valid. -/
def leaveAdc (s : State) : State := (List.range 24).foldl (fun s n => s.set ADC_RSTAT_VALID 0 n) s

end Sys2Proof.Machine
end

