-- ==== Sys2Proof/Machine/Form.lean ====
section
/-! DEFINITION. FORM: grid measurement (R212 to R215), the virtual synchronous machine (R216 to R221), the demand (R222), the running states (R224 to R232), the breaker (R230) and the reserve (R234 to R236). -/

namespace Sys2Proof.Machine

/-! Arithmetic shared by FORM, LAW and OUT. -/

/-- One step of a first-order filter with gain `num / den`. -/
def lag (x target num den : Int) : Int := q29 (x + rdiv ((target - x) * num) den)

/-- Move toward a target by at most `d`. -/
def approach (x target d : Int) : Int := if x ≤ target then min target (x + d) else max target (x - d)

/-- The change per cycle of a ramp in 0.001 pu/s. -/
def State.rampStep (s : State) (rate : Nat) : Int := rdiv ((rate : Int) * s.period * one) (10 ^ 12)

/-- The square root of 3 in units of 2^-60. -/
def sqrt3Q60 : Int := 1996918623117814387

/-- An angle of 32 bits from any number of units. -/
def angle (v : Int) : Nat := (v % 2 ^ 32).toNat

/-- Degrees of freedom of the topology: the number of strings (R222). -/
def State.phases (s : State) : Nat := if s.flag FORM_CFG_TOPO then 1 else 3

/-! Measurement (R212 to R214). -/

/-- The bitstream channels of VPCC, VFEED and ICONV. -/
def VPCC : Nat := 24
def VFEED : Nat := 27
def ICONV : Nat := 30

/-- The used inputs of a quantity (R212). -/
def State.formInputs (s : State) (n0 : Nat) : List Nat := (List.range s.phases).map (fun p => n0 + p)

/-- A phase value per unit of its base. -/
def State.phaseValue (s : State) (n0 p : Nat) : Int := perUnit (s.skimQ (n0 + p)).1 (if n0 = ICONV then s.ipk else s.vpk)

/-- Whether every used input of a quantity is valid. -/
def State.inputOk (s : State) (n0 : Nat) : Bool := (s.formInputs n0).all (fun n => (s.skimQ n).2)

/-- Cycles in a quarter of a nominal period (R213). -/
def State.quarter (s : State) : Nat := (roundDiv (10 ^ 12) (4 * (s.get FORM_BASE_V_F_NOM : Int) * s.period)).toNat

/-- Alpha and beta of a quantity (R213). -/
def State.alphaBeta (s : State) (n0 : Nat) (old : Int × Int × Int → Int) : Int × Int :=
  let a := s.phaseValue n0 0
  if s.flag FORM_CFG_TOPO then (a, match s.form.hist[s.quarter - 1]? with | some h => old h | none => 0)
  else
    let b := s.phaseValue n0 1
    let c := s.phaseValue n0 2
    (q29 (rdiv (2 * a - b - c) 3), q29 (rdiv ((b - c) * 2 ^ 60) sqrt3Q60))

/-- Rotation of an alpha and beta pair into the frame at an angle. -/
def rotate (ab : Int × Int) (th : Nat) : Int × Int :=
  (q29 (qmul ab.1 (cosT th) + qmul ab.2 (sinT th)), q29 (qmul ab.2 (cosT th) - qmul ab.1 (sinT th)))

/-- FORM takes the grid quantities of the sampling instant, and raises MEAS_INVALID for an input that has become invalid (R212 to R214). -/
def State.formMeasure (s : State) : State :=
  let vp := s.alphaBeta VPCC (fun h => h.1)
  let vf := s.alphaBeta VFEED (fun h => h.2.1)
  let ic := s.alphaBeta ICONV (fun h => h.2.2)
  let inv := (s.formInputs VPCC ++ s.formInputs VFEED ++ s.formInputs ICONV).filter (fun n => !(s.skimQ n).2)
  let new := inv.any (fun n => !s.form.invalid.contains n)
  let s := { s with form := { s.form with hist := ((vp.1, vf.1, ic.1) :: s.form.hist).take s.quarter, vp := vp, vf := vf, ic := ic, invalid := inv } }
  s.raiseIf new SRC_FORM_MEAS_INVALID 0x00

/-- The filtered magnitude with time constant 7.96 ms (R215). -/
def State.magFilter (s : State) (m x : Int) : Int := lag m x s.period 7960000

/-- The feeder estimator and the filter of |VPCC| (R215). While an input is invalid its estimate is held. -/
def State.feederEstimate (s : State) : State :=
  let f := s.form
  let s := if !s.inputOk VPCC then s
    else
      let m := hyp f.vp.1 f.vp.2
      { s with form := { s.form with magV := if f.seenV then s.magFilter f.magV m else m, seenV := true } }
  let s := if !s.inputOk VFEED then s
    else if !f.seenF then
      let a := angleOf f.vf.1 f.vf.2
      let th := angle ((a : Int) + rdiv (one * (s.get FORM_BASE_V_F_NOM : Int) * s.period * 8) (10 ^ 12))
      { s with form := { s.form with wF := one, thetaF := th, thetaF0 := a, magF := hyp f.vf.1 f.vf.2, seenF := true } }
    else
      let fn : Int := s.get FORM_BASE_V_F_NOM
      let p : Int := s.period
      let r := rotate f.vf f.thetaF
      let mag := s.magFilter f.magF (hyp r.1 r.2)
      let e := qdiv r.2 (max mag (rdiv one 20))
      let w := clampInt (rdiv (4 * one) 5) (rdiv (6 * one) 5) (f.wF + rdiv (e * 15791 * p * 2 ^ 60) (2 * piQ60 * fn * 1000000))
      let th := angle ((f.thetaF : Int) + rdiv (w * fn * p * 8) (10 ^ 12) + rdiv (e * 1777 * p * 4 * 2 ^ 60) (piQ60 * 10 ^ 10))
      { s with form := { s.form with wF := w, thetaF0 := f.thetaF, thetaF := th, magF := mag } }
  ((s.seti FORM_FFEED_FFEED s.form.wF).seti FORM_VMAG_VPCC s.form.magV).seti FORM_VFMAG_VFEED s.form.magF

/-! Banks (R219, R223). -/

/-- The active bank. -/
def State.fbank (s : State) : Nat := s.get FORM_BANK_ACTIVE

/-- The setpoints in use move toward those of the active bank at SET_RAMP (R219); Q moves toward 0 while a connected hub stops (R232). -/
def State.setpointRamp (s : State) : State :=
  let u := s.fbank
  let d := s.rampStep (s.get FORM_BK_RAMP_SET_RAMP u)
  let f := s.form
  let stopping : Bool := decide (s.get FORM_MODE_STAT_PHASE = 7) && s.inRun && s.bkrClosed
  let q := if stopping then approach f.qsetR 0 (s.rampStep (s.get FORM_STOP_STOP_RAMP)) else approach f.qsetR (s.geti FORM_BK_QSET_Q_SET u) d
  { s with form := { f with psetR := approach f.psetR (s.geti FORM_BK_PSET_P_SET u) d, qsetR := q,
                            vsetR := approach f.vsetR (s.geti FORM_BK_VSET_V_SET u) d, wsetR := approach f.wsetR (s.geti FORM_BK_FSET_F_SET u) d } }

/-! Running states and phases (R225, R227). -/

def State.phase (s : State) : Nat := s.get FORM_MODE_STAT_PHASE

/-- The connected, the islanded and the synchronising part of the running states. -/
def State.connected (s : State) : Bool := decide (s.pstate = FORM) && decide (s.phase = 5)
def State.islanded (s : State) : Bool := decide (s.pstate = FORM) && decide (s.phase = 6)
def State.synchronising (s : State) : Bool := (decide (s.pstate = SYNC) || decide (s.pstate = RESYNC)) && (decide (s.phase = 3) || decide (s.phase = 4))

/-- Put the power state and the mode, with a phase. -/
def State.modeTo (s : State) (st ph : Nat) : State :=
  ((s.set SYS_PWR_STATE_STATE st).set FORM_MODE_STAT_MODE st).set FORM_MODE_STAT_PHASE ph

/-- The running state ends and the device is READY. -/
def State.toReady (s : State) : State :=
  let s := (s.modeTo READY 0).set FORM_MODE_STAT_ISLANDED 0
  { s with form := { s.form with held := false, back := false, permit := false, holdRun := 0, holds := [] } }

/-- Whether a slot gates. -/
def State.cellGates (s : State) (i : Nat) : Bool := s.slotState i == 4 || s.slotState i == 5

/-- FE HOLD to every ACTIVE and COAST slot that it has not been sent to (R225, R232). -/
def State.sendHolds (s : State) : State :=
  let goes := s.enSlots.filter (fun i => s.cellGates i && !s.form.holds.contains i)
  let s := goes.foldl (fun s i => s.feCommand i 3 0) s
  { s with form := { s.form with held := true, holds := s.form.holds ++ goes } }

/-- A running state ends by failure (R225): MODE_FAIL at once, RESYNC back to islanded, SYNC and BLACKSTART to READY, through the stopping phase where slots gate. -/
def State.modeFail (s : State) (reason : Nat) : State :=
  let ph := s.phase
  let s := ((s.withdrawClose).refuse .form reason 0x03 0x04).raiseC SRC_FORM_MODE_FAIL
  let s := { s with form := { s.form with permit := false, holdRun := 0 } }
  if s.pstate = RESYNC then (s.modeTo FORM 6).set FORM_MODE_STAT_ISLANDED 1
  else if ph = 1 then (s.preCoilsOff.set LAW_PRE_STAT_STEP 0).toReady
  else (s.set FORM_MODE_STAT_PHASE 7).sendHolds

/-- Entry into precharge from READY: an accepted START in every respect (R224, R227). FORM's variables start as log entry 17 says. -/
def State.startRun (s : State) (st : Nat) (permit : Bool) : State :=
  let s := s.armBlocked
  let w := s.form.wsetR
  let s := { s with form := { s.form with omega := w, ww := w, qf := 0, presp := 0, e := 0, eT := 0, ramp := 0, back := false, permit := permit,
                                          holdRun := 0, held := false, trip := false, entered := true, holds := [] } }
  ((s.modeTo st 1).set LAW_PRE_STAT_STEP 1).set LAW_PRE_STAT_ELAPSED 0

/-- Entry into track (R218). -/
def State.enterTrack (s : State) (st : Nat) : State :=
  let s := s.modeTo st 3
  { s with form := { s.form with holdRun := 0, back := false, prefSw := s.geti FORM_PE_PE, wsetSw := s.form.wF, eT := s.form.e } }

/-- The measurements in the frame of the angle at the sampling instant; pe and qe (R216). -/
def State.formFrame (s : State) : State :=
  let f := s.form
  let v := rotate f.vp f.theta
  let i := rotate f.ic f.theta
  let s := { s with form := { f with vd := v.1, vq := v.2, id := i.1, iq := i.2, thetaPrev := f.theta } }
  (s.seti FORM_PE_PE (q29 (qmul v.1 i.1 + qmul v.2 i.2))).seti FORM_QE_QE (q29 (qmul v.2 i.1 - qmul v.1 i.2))

/-- Entry into energise, within step 4: the ramp starts at 0; in SYNC the angle at the sampling instant and the speed start at the feeder's, and the frame with them (R216, R227). -/
def State.enterEnergise (s : State) : State :=
  let s := s.set FORM_MODE_STAT_PHASE 2
  let s := { s with form := { s.form with ramp := 0, e := 0 } }
  if s.pstate = SYNC then ({ s with form := { s.form with theta := s.form.thetaF0, omega := s.form.wF } } : State).formFrame else s

/-- The breaker confirms closed in closing: FORM connected (R218, R225). -/
def State.connect (s : State) : State :=
  let s := (s.modeTo FORM 5).set FORM_MODE_STAT_ISLANDED 0
  { s with form := { s.form with back := true, permit := false, holdRun := 0 } }

/-- FORM sends the trip (R230). -/
def State.sendTrip (s : State) : State := { s.bkrTrip with form := { s.bkrTrip.form with trip := true } }

/-- STOP acts on every bus at the same step 4 (R324). -/
def State.stopBuses (s : State) : State :=
  buses.foldl (fun s b =>
    if !s.busEn b then s
    else if s.bst b = B_SERVING then s.busRampDown b
    else if s.bst b = B_MATCHING then s.busTo b B_OFF
    else if s.bst b = B_CLOSING then s.setBusSt b { s.busSt b with stopping := true }
    else s) s

/-- An accepted STOP (R232, R291, R324). -/
def State.stopRun (s : State) : State :=
  if s.phase = 7 then s
  else
    let pre := s.phase == 1
    let s := if pre then s.prechargeEnds else s.withdrawClose
    let s := if s.connected then s.rideClear else s
    let s := { s with form := if s.connected then { s.form with permit := false } else { s.form with permit := false, eT := s.form.e, back := false } }
    let s := (s.set FORM_MODE_STAT_PHASE 7).stopBuses
    if pre then s.sendHolds else s

/-! Requests (R224, R226, R240). -/

/-- The codes of FORM_MODE_CMD. -/
def M_SYNC : Nat := 1
def M_FORM : Nat := 2
def M_BLACKSTART : Nat := 3
def M_RESYNC : Nat := 4
def M_CLOSE : Nat := 5
def M_ISLAND : Nat := 6
def M_STOP : Nat := 7

/-- A write of FORM_MODE_CMD (R224, R240). The request is held until the step 4 of the first cycle whose start follows the write. -/
def opModeCmd (code : Nat) (s : State) : Bool × State :=
  if !s.en .form || s.follows then (false, s.refuseC .form STATE 0x03 0x00)
  else if code = 0 ∨ 7 < code then (false, s.refuseC .form RANGE 0x03 0x00)
  else (true, ({ s with form := { s.form with req := some (code + 8) } } : State).set FORM_MODE_STAT_PENDING 1)

/-- R226 MODE_SYNC. -/
def execModeSync (s : State) : Host.Outcome State Fault Refusal := .next (s.live (opModeCmd M_SYNC s).2)
/-- R226 MODE_FORM. -/
def execModeForm (s : State) : Host.Outcome State Fault Refusal := .next (s.live (opModeCmd M_FORM s).2)
/-- R226 MODE_BLACKSTART. -/
def execModeBlackstart (s : State) : Host.Outcome State Fault Refusal := .next (s.live (opModeCmd M_BLACKSTART s).2)
/-- R226 MODE_RESYNC. -/
def execModeResync (s : State) : Host.Outcome State Fault Refusal := .next (s.live (opModeCmd M_RESYNC s).2)
/-- R229 MODE_CLOSE. -/
def execModeClose (s : State) : Host.Outcome State Fault Refusal := .next (s.live (opModeCmd M_CLOSE s).2)
/-- R232 MODE_ISLAND. -/
def execModeIsland (s : State) : Host.Outcome State Fault Refusal := .next (s.live (opModeCmd M_ISLAND s).2)
/-- R232 MODE_STOP. -/
def execModeStop (s : State) : Host.Outcome State Fault Refusal := .next (s.live (opModeCmd M_STOP s).2)

/-- At the start of a cycle a request written in the cycle before may be judged (R224). -/
def State.ripenRequest (s : State) : State :=
  { s with form := { s.form with req := s.form.req.map (fun c => if 8 ≤ c then c - 8 else c) } }

/-- Whether a STORE bus is available (R319). -/
def State.storeAvailable (s : State) : Bool :=
  buses.any (fun b => s.busEn b && s.flag OUT_BCFG_KIND b && s.bst b != B_UNAVAILABLE &&
    decide (s.get OUT_BCFG_MIN_CELLS b ≤ (s.enSlots.filter (fun i => s.allocPos i == b + 1)).length) &&
    s.get OUT_BSTORE2_P_DIS_MAX b != 0 && s.get OUT_BSP_V_V_MATCH b != 0)

/-- The reason that refuses a request, in the order of R226; none when it is accepted. -/
def State.modeRefusal (s : State) (code : Nat) : Option Nat :=
  let state := some (Block.no .form * 0x100 + STATE)
  let when' := fun (c : Bool) (r : Option Nat) (k : Option Nat) => if c then r else k
  if code = M_CLOSE then when' (!s.synchronising) state none
  else if code = M_ISLAND then when' (!s.connected) state none
  else if code = M_STOP then when' (!s.inRun) state none
  else if code = M_RESYNC then
    when' (!s.islanded) state <| when' (!s.flag FORM_BKR_BKR_EN) (some 0x0820) <|
    when' (!s.inputOk VFEED) (some 0x0828) <| when' (s.form.feed != 1) (some 0x0821) none
  else
    let bs := code == M_BLACKSTART
    when' (s.pstate != READY || s.flag SYS_PWR_STATE_STANDBY) state <| when' s.anySevere state <| when' s.stringShort (some 0x0620) <|
    when' ((!bs && !s.flag FORM_BKR_BKR_EN) || (s.flag FORM_BKR_BKR_EN && s.bkrClosed)) (some 0x0820) <|
    when' (!s.inputOk VFEED || !s.inputOk VPCC) (some 0x0828) <|
    when' (if bs then s.form.feed != 2 else s.form.feed != 1) (some (if bs then 0x082A else 0x0821)) <|
    when' (s.form.term != 2) (some 0x0822) <| when' (bs && !s.storeAvailable) (some 0x0823) none

/-- Judge a request at step 4 (R224, R226). -/
def State.judgeMode (s : State) (code : Nat) : State :=
  match s.modeRefusal code with
  | some r => s.refuse .form r 0x03 0x00
  | none =>
    if code = M_CLOSE then { s with form := { s.form with permit := true } }
    else if code = M_ISLAND then s.sendTrip
    else if code = M_STOP then s.stopRun
    else if code = M_RESYNC then
      let s := s.enterTrack RESYNC
      { s with form := { s.form with permit := s.flag FORM_CFG_AUTO_RESYNC } }
    else if code = M_BLACKSTART then s.startRun BLACKSTART false
    else s.startRun SYNC (decide (code = M_FORM) || s.flag FORM_CFG_AUTO_CLOSE)

/-- FORM's held request is judged when its cycle has come (R224). -/
def State.modeJudge (s : State) : State :=
  match s.form.req with
  | some c =>
    if c < 8 then ({ s with form := { s.form with req := none } } : State).set FORM_MODE_STAT_PENDING 0 |>.judgeMode c else s
  | none => s

/-! The feeder and terminals (R215, R225). -/

/-- |VFEED| or |VPCC| has stayed across its threshold for LIVE_HOLD. -/
def opFeederLive (feeder live : Bool) (s : State) : State :=
  let m := if feeder then s.form.magF else s.form.magV
  let holds := if live then decide ((s.get FORM_LIVE_LIVE_V : Int) * one ≤ m * 1000) else decide (m * 1000 < (s.get FORM_LIVE_DEAD_V : Int) * one)
  if s.en .form && holds then
    let v := if live then 1 else 2
    if !feeder then { s with form := { s.form with term := v } }
    else
      let rises := live && s.form.feed != 1
      let s := ({ s with form := { s.form with feed := v } } : State).setb FORM_MODE_STAT_FEED_LIVE live
      if live then
        if rises && s.islanded && s.flag FORM_CFG_AUTO_RESYNC && s.flag FORM_BKR_BKR_EN && s.inputOk VFEED then
          ({ s.enterTrack RESYNC with form := { (s.enterTrack RESYNC).form with permit := true } } : State)
        else s
      else if ((s.pstate = SYNC) ∧ s.phase ≤ 3) ∨ (s.pstate = RESYNC ∧ s.phase = 3) then s.modeFail 0x0821
      else s
  else s

/-- R215 FEEDER_LIVE_CHANGE. -/
def execFeederLiveChange (feeder live : Bool) (s : State) : Host.Outcome State Fault Refusal := .next (s.live (opFeederLive feeder live s))

/-! The breaker (R229, R230). -/

/-- Closing is permitted and the conditions have held for SYNC_HOLD cycles: the close pulse (R229). -/
def opSyncHoldReached (s : State) : State :=
  if s.synchronising ∧ s.phase = 3 ∧ s.form.permit = true ∧ s.get FORM_SYNC2_SYNC_HOLD ≤ s.form.holdRun ∧ s.flag FORM_BKR_BKR_EN = true then
    ((s.set FORM_MODE_STAT_PHASE 4).set FORM_MODE_STAT_BKR_CMD 1).coilCmd (s.get FORM_BKR_CLOSE_CTC) true
  else s

/-- R229 SYNC_HOLD_REACHED. -/
def execSyncHoldReached (s : State) : Host.Outcome State Fault Refusal := .next (s.live (opSyncHoldReached s))

/-- BKR_DISAGREE with SGR (R230). -/
def State.bkrDisagree (s : State) : State := (s.raiseC SRC_FORM_BKR_DISAGREE).sgr C_SGR

/-- The breaker's feedback has changed to the level it now reads (R230, R238). -/
def State.bkrMoved (s : State) : State :=
  if s.en .form && s.flag FORM_BKR_BKR_EN then
    let closed := s.bkrClosed
    let s := s.setb FORM_MODE_STAT_BKR_FB closed
    let s := if s.pstate = FORM then s.setb FORM_MODE_STAT_ISLANDED (!closed) else s
    if closed then
      if (s.pstate = SYNC ∨ s.pstate = RESYNC) ∧ s.phase = 4 ∧ s.sgrActive = false then s.connect else s.bkrDisagree
    else
      let tripped := s.form.trip
      let cmd := s.flag FORM_MODE_STAT_BKR_CMD
      let s := { s with form := { s.form with trip := false, mismatch := 0 } }
      if (s.pstate = SYNC ∨ s.pstate = RESYNC) ∧ s.phase = 4 then
        ((s.raiseC SRC_FORM_BKR_DISAGREE).modeFail 0x0825)
      else if s.inRun ∧ s.phase = 7 then (if s.form.held then s else s.sendHolds)
      else if s.connected then
        let s := (s.set FORM_MODE_STAT_PHASE 6).rideClear
        if !tripped && cmd then s.raiseC SRC_FORM_ISLANDED else s
      else s
  else s

/-- The transit limit BKR_MS passes (R230). -/
def opBkrTransitTimeout (s : State) : State :=
  if s.en .form && s.flag FORM_BKR_BKR_EN then
    if (s.pstate = SYNC ∨ s.pstate = RESYNC) ∧ s.phase = 4 ∧ s.bkrClosed = false then
      ((s.bkrTrip).raiseC SRC_FORM_BKR_DISAGREE).modeFail 0x0825
    else if s.form.trip ∧ s.bkrClosed = true then
      ({ s with form := { s.form with trip := false } } : State).bkrDisagree
    else s
  else s

/-- R230 BKR_TRANSIT_TIMEOUT. -/
def execBkrTransitTimeout (s : State) : Host.Outcome State Fault Refusal := .next (s.live (opBkrTransitTimeout s))

/-- Count the cycles in which a closed breaker has unequal voltages on its two sides, per phase (R230). A cycle with an invalid input judges nothing and ends the run (R214). -/
def State.countMismatch (s : State) : State :=
  let differs := (List.range s.phases).any (fun p =>
    decide ((s.get FORM_BKR3_BKR_DV : Int) * one < (s.phaseValue VPCC p - s.phaseValue VFEED p).natAbs * 1000))
  let n := if s.flag FORM_BKR_BKR_EN && s.bkrClosed && s.inputOk VPCC && s.inputOk VFEED && differs then min 3 (s.form.mismatch + 1) else 0
  { s with form := { s.form with mismatch := n } }

/-- Three consecutive cycles of mismatch (R230). -/
def opBkrMismatch (s : State) : State := if s.en .form ∧ 3 ≤ s.form.mismatch then s.bkrDisagree else s

/-- R230 BKR_MISMATCH_DETECT. -/
def execBkrMismatchDetect (s : State) : Host.Outcome State Fault Refusal := .next (s.live (opBkrMismatch s))

/-- SYNC_TMO expires (R225). -/
def opSyncTimeout (s : State) : State :=
  if (s.pstate = SYNC ∨ s.pstate = RESYNC) ∧ s.phase ≠ 7 then s.modeFail 0x0824 else s

/-- R225 SYNC_TIMEOUT. -/
def execSyncTimeout (s : State) : Host.Outcome State Fault Refusal := .next (s.live (opSyncTimeout s))

/-- BS_TMO expires (R225). -/
def opBsTimeout (s : State) : State := if s.pstate = BLACKSTART ∧ s.phase ≠ 7 then s.modeFail 0x0826 else s

/-- R225 BS_TIMEOUT. -/
def execBsTimeout (s : State) : Host.Outcome State Fault Refusal := .next (s.live (opBsTimeout s))

/-- A connected hub that stops has ramped down, or 1/STOP_RAMP has passed: the trip (R232). -/
def opStopRampEnd (s : State) : State :=
  if s.inRun ∧ s.phase = 7 ∧ s.flag FORM_BKR_BKR_EN = true ∧ s.bkrClosed = true ∧ s.form.trip = false then s.sendTrip else s

/-- R232 STOP_RAMP_END. -/
def execStopRampEnd (s : State) : Host.Outcome State Fault Refusal := .next (s.live (opStopRampEnd s))

/-! Step 4 (R216 to R222, R228, R234, R279). -/

/-- Order 1: rotate the measurements by the angle at the sampling instant; pe, qe and the filtered reactive power (R216). -/
def State.formRotate (s : State) : State :=
  let s := s.formFrame
  { s with form := { s.form with qf := lag s.form.qf (s.geti FORM_QE_QE) s.period ((s.get FORM_BK_FILT_TQ s.fbank : Int) * 1000000) } }

/-- The target voltage of R217. -/
def State.droopE (s : State) : Int :=
  q29 (s.form.vsetR - rdiv ((s.get FORM_BK_DROOP_NQ s.fbank : Int) * (s.form.qf - s.form.qsetR)) 10000)

/-- The references in use: those of R217, of R218 while synchronising and after a closure, and of R232 while stopping. -/
def State.formRefs (s : State) (psched pe : Int) : State :=
  let f := s.form
  let u := s.fbank
  if s.synchronising then
    { s with form := { f with wsetSw := f.wF, prefSw := lag f.prefSw pe s.period ((s.get FORM_BK_RES_RES_TF u : Int) * 1000000),
                              eT := approach f.eT f.magF (s.rampStep (s.get FORM_SYNC3_SYNC_VRATE)) } }
  else if s.phase = 7 ∧ s.flag FORM_BKR_BKR_EN = true ∧ s.bkrClosed = true then
    let d := s.rampStep (s.get FORM_BK_RAMP_SET_RAMP u)
    let w := if f.back then approach f.wsetSw f.wsetR d else f.wsetR
    let e := if f.back then approach f.eT s.droopE d else s.droopE
    { s with form := { f with wsetSw := w, prefSw := approach f.prefSw 0 (s.rampStep (s.get FORM_STOP_STOP_RAMP)), eT := e, back := !(w == f.wsetR && e == s.droopE) } }
  else if s.phase = 7 then
    { s with form := { f with wsetSw := f.wsetR, prefSw := psched, eT := approach f.eT 0 (s.rampStep (s.get FORM_STOP_STOP_RAMP)) } }
  else if f.back then
    let d := s.rampStep (s.get FORM_BK_RAMP_SET_RAMP u)
    let p := approach f.prefSw psched d
    let w := approach f.wsetSw f.wsetR d
    let e := approach f.eT s.droopE d
    { s with form := { f with prefSw := p, wsetSw := w, eT := e, back := !(p == psched && w == f.wsetR && e == s.droopE) } }
  else { s with form := { f with prefSw := psched, wsetSw := f.wsetR, eT := s.droopE } }

/-- Order 3: psched, the swing equation, the angle and the target voltage (R216 to R220). -/
def State.formSwing (s : State) : State :=
  let u := s.fbank
  let p : Int := s.period
  let fn : Int := s.get FORM_BASE_V_F_NOM
  let pe := s.geti FORM_PE_PE
  let psched := q29 (s.form.psetR + (if s.flag FORM_CFG_FF_EN then s.geti FORM_PFF_PFF else 0) + s.geti LAW_PDC_PDC)
  let s := (s.formRefs psched pe).seti FORM_PSCHED_PSCHED psched
  let f := s.form
  let psync := if s.synchronising then rdiv ((s.get FORM_SYNC3_K_SYNC : Int) * sinT (angle ((f.thetaF0 : Int) - f.thetaPrev))) 1000 else 0
  let pm := q29 (f.prefSw + rdiv ((f.wsetSw - f.omega) * 10000) (s.get FORM_BK_DROOP_MP u) + psync)
  let pdamp := rdiv ((s.get FORM_BK_SWING_D u : Int) * (f.omega - f.ww)) 10
  let ww := lag f.ww f.omega p ((s.get FORM_BK_FILT_TD u : Int) * 1000000)
  let w := q29 (f.omega + rdiv ((pm - pe - pdamp) * p) (20000000 * (s.get FORM_BK_SWING_H u : Int)))
  let lo := rdiv ((s.get FORM_FLIM_F_MIN : Int) * one) fn
  let hi := rdiv ((s.get FORM_FLIM_F_MAX : Int) * one) fn
  let wc := clampInt lo hi w
  let th := angle ((f.theta : Int) + rdiv (wc * fn * p * 8) (10 ^ 12))
  let s := { s with form := { f with ww := ww, omega := wc, theta := th, e := f.eT } }
  (s.seti FORM_OMEGA_OMEGA wc).raiseIf (wc != w) SRC_FORM_FREQ_CLAMP 0x00

/-- The ramp value of energise moves toward its target (R227). -/
def State.energiseTarget (s : State) : Int := if s.pstate = SYNC then s.form.magF else s.geti FORM_BK_VSET_V_SET s.fbank
def State.energiseRamp (s : State) : State :=
  { s with form := { s.form with ramp := approach s.form.ramp s.energiseTarget (s.rampStep (s.get FORM_BS_BS_RAMP)) } }

/-- Order 6: vd_ref, vq_ref, theta_a and the step of the angle, rounded to the nearest as R222's value at 50 Hz is (R216, R221, R222; DEDUCED, log entry 85). -/
def State.formDemand (s : State) : State :=
  let f := s.form
  let u := s.fbank
  let fn : Int := s.get FORM_BASE_V_F_NOM
  let drv := s.geti FORM_DRV_DRV
  let dxv := s.geti FORM_DXV_DXV
  let r := s.geti FORM_BK_RV_RV u + drv
  let x := s.geti FORM_BK_XV_XV u + dxv
  let vd := q29 (f.e - qmul r f.id + qmul x f.iq)
  let vq := q29 (-(qmul r f.iq) - qmul x f.id)
  let lat : Int := (s.period : Int) - s.get SYS_CYC_TIMING_APPLY_LEAD - s.get SYS_CYC_TIMING_SAMPLE_OFS
  let tha := angle ((f.thetaPrev : Int) + rdiv (f.omega * fn * lat * 8) (10 ^ 12))
  let s := (s.seti FORM_VD_VD_REF vd).seti FORM_VQ_VQ_REF vq
  let s := ((s.set FORM_THETA_A_THETA_A tha).seti FORM_DTHETA_DTHETA (roundDiv (f.omega * fn * 2 ^ 19) (10 ^ 12))).seti FORM_E_E f.e
  s.setb FORM_MODE_STAT_LIMITING (drv != 0 || dxv != 0)

/-- The booking of reserves (R234, R236). -/
def State.formBook (s : State) : State :=
  let u := s.fbank
  let f := s.form
  let pr := lag f.presp (s.geti FORM_PE_PE - s.geti FORM_PSCHED_PSCHED) s.period ((s.get FORM_BK_RES_RES_TF u : Int) * 1000000)
  let st := clampInt (-(s.geti FORM_STORE_CHG_CHG)) (s.geti FORM_STORE_DIS_DIS) pr
  let db := rdiv ((s.get FORM_BK_RAMP_FLEX_DB u : Int) * one) (s.get FORM_BASE_V_F_NOM)
  let was := s.flag FORM_MODE_STAT_CURTAILING
  let starts : Bool := !was && decide (f.omega < f.wsetSw - db) && decide (0 < pr - st)
  let flex := s.geti FORM_FLEX_FLEX_AVAIL
  let c := if was || starts then clampInt 0 flex (pr - st) else 0
  let r := q29 (pr - st - c)
  let s := s.raiseIf starts SRC_FORM_CURTAIL 0x00
  let s := { s with form := { f with presp := pr } }
  let s := ((s.seti FORM_PRESP_PRESP pr).seti FORM_STORE_REQ_S st).seti FORM_REMAIN_R r
  let s := s.set FORM_CURT_FRAC (if flex = 0 then 0 else (rdiv (c * 65536) flex).toNat)
  let s := s.setb FORM_MODE_STAT_CURTAILING (c != 0)
  let low : Bool := decide ((s.get FORM_BK_RES_RES_DC u : Int) * one < r.natAbs * 1000)
  let rises := low && !s.flag FORM_MODE_STAT_RESERVE_LOW
  (s.setb FORM_MODE_STAT_RESERVE_LOW low).raiseIf rises SRC_FORM_RESERVE_LOW 0x00

/-- The close conditions of a cycle in track (R228). -/
def State.closeTest (s : State) : State :=
  if s.phase = 3 then
    let f := s.form
    let fn : Int := s.get FORM_BASE_V_F_NOM
    let dw := f.wF - f.omega
    let a := signed 32 (angle ((f.thetaF0 : Int) - f.thetaPrev + rdiv (dw * fn * s.get FORM_BKR2_BKR_CLOSE_MS * 8) 1000000))
    let ok := decide ((a.natAbs : Int) * 3600 ≤ (s.get FORM_SYNC_SYNC_ANG : Int) * 2 ^ 32) &&
      decide (((dw * fn).natAbs : Int) ≤ (s.get FORM_SYNC_SYNC_DF : Int) * one) &&
      decide (((f.magF - f.magV).natAbs : Int) * 1000 ≤ (s.get FORM_SYNC_SYNC_DV : Int) * one)
    let s := (s.seti FORM_SYNC_STAT_DTHETA_P (rdiv a 65536)).seti FORM_SYNC_STAT_DF (rdiv (dw * fn) one)
    let n := if ok then satInc 65535 f.holdRun else 0
    ({ s with form := { s.form with holdRun := n } } : State).setb FORM_MODE_STAT_CLOSE_OK ok
  else s.set FORM_MODE_STAT_CLOSE_OK 0

/-- The reactions to invalid inputs (R214). -/
def State.measReact (s : State) : State :=
  let s := if s.inRun && (!s.inputOk VPCC || !s.inputOk ICONV) then s.sgr C_SGR else s
  if (s.pstate = SYNC ∨ s.pstate = RESYNC) ∧ s.phase ≠ 7 ∧ s.inputOk VFEED = false then s.modeFail 0x0828 else s

/-- The stopping phase: FE HOLD when the voltage has reached 0 on an open breaker, and READY once no slot gates and the contactor of a precharge that STOP ended is open (R225, R232, R291). A slot that has begun to gate since gets its FE HOLD too. -/
def State.stopPoll (s : State) : State :=
  if s.inRun ∧ s.phase = 7 then
    if s.form.held then
      (if s.enSlots.any (fun i => s.cellGates i) then s.sendHolds else if s.get LAW_PRE_STAT_STEP = 4 then s else s.toReady)
    else if (s.flag FORM_BKR_BKR_EN && s.bkrClosed) = false ∧ s.form.eT = 0 then s.sendHolds
    else s
  else s

/-! The configuration check (R244, R245). -/

/-- The check of a bank (R245). -/
def checkFormBank (u : Nat) (s : State) : Option (Nat × Nat × Nat) :=
  let q := 4 + u
  let h := s.get FORM_BK_SWING_H u
  let mp := s.get FORM_BK_DROOP_MP u
  let td := s.get FORM_BK_FILT_TD u
  let tq := s.get FORM_BK_FILT_TQ u
  let rv := s.geti FORM_BK_RV_RV u
  let xv := s.geti FORM_BK_XV_XV u
  let out := fun (lo hi v : Int) => decide (v < lo) || decide (hi < v)
  checks [
    bad (decide (h < 20) || decide (2000 < h) || decide (2000 < s.get FORM_BK_SWING_D u)) RANGE q 0x00,
    bad (decide (mp < 50) || decide (1200 < mp) || decide (1000 < s.get FORM_BK_DROOP_NQ u)) RANGE q 0x04,
    bad (td == 0 || decide (10000 < td) || tq == 0 || decide (10000 < tq)) RANGE q 0x08,
    bad (out 0 (one / 2) rv) RANGE q 0x0C,
    bad (out 0 (one / 2) xv) RANGE q 0x10,
    bad (out (-one) one (s.geti FORM_BK_PSET_P_SET u)) RANGE q 0x14,
    bad (out (-one) one (s.geti FORM_BK_QSET_Q_SET u)) RANGE q 0x18,
    bad (out (8 * one) (12 * one) (10 * s.geti FORM_BK_VSET_V_SET u)) RANGE q 0x1C,
    bad (out (95 * one) (105 * one) (100 * s.geti FORM_BK_FSET_F_SET u)) RANGE q 0x20,
    bad (s.get FORM_BK_RAMP_SET_RAMP u == 0 || decide (1000 < s.get FORM_BK_RAMP_FLEX_DB u)) RANGE q 0x24,
    bad (s.get FORM_BK_RES_RES_TF u == 0 || decide (1000 < s.get FORM_BK_RES_RES_TF u) || decide (1000 < s.get FORM_BK_RES_RES_DC u)) RANGE q 0x28,
    bad (decide (xv < rv)) DISAGREE q 0x0C]

/-- Coils and feedbacks assigned elsewhere: OUT's buses, LAW's precharge paths, and CTC's outputs that FORM does not own; the check of FORM's own coils may name the breaker's feedback (R244, R475). -/
def State.othersCoils (s : State) : List Nat :=
  (buses.filter (fun b => s.flag OUT_BCFG_EN b)).map (fun b => s.get OUT_BCFG_CTC b) ++
    (if s.flag LAW_PRE_FEED_EN then [s.get LAW_PRE_FEED_CTC] else []) ++ (if s.flag LAW_PRE_STORE_EN then [s.get LAW_PRE_STORE_CTC] else []) ++
    coils.filter (fun o => s.flag CTC_OCFG_EN o && s.get CTC_OCFG_OWNER o != 2)
def State.othersFbs (s : State) : List Nat :=
  (buses.filter (fun b => s.flag OUT_BCFG_EN b)).map (fun b => s.get OUT_BCFG_FB b) ++
    (if s.flag LAW_PRE_FEED_EN then [s.get LAW_PRE_FEED_FB] else []) ++ (if s.flag LAW_PRE_STORE_EN then [s.get LAW_PRE_STORE_FB] else []) ++
    (coils.filter (fun o => s.flag CTC_OCFG_EN o && s.flag CTC_OCFG_FB_EN o && s.get CTC_OCFG_OWNER o != 2)).map (fun o => s.get CTC_OCFG_FB o)

/-- The first offending field of FORM's settings (R244). -/
def checkForm (s : State) : Option (Nat × Nat × Nat) :=
  let bkr := s.flag FORM_BKR_BKR_EN
  let fn := s.get FORM_BASE_V_F_NOM
  let topo := s.flag FORM_CFG_TOPO
  let v := s.formInputs VPCC ++ s.formInputs VFEED
  let between := fun (lo hi x : Nat) => !(decide (lo ≤ x) && decide (x ≤ hi))
  checks [
    bad (s.get FORM_LIVE_LIVE_HOLD == 0) ZERO_LEN 0x02 0x04,
    bad (s.get FORM_SYNC2_SYNC_HOLD == 0 || s.get FORM_SYNC2_SYNC_TMO == 0) ZERO_LEN 0x02 0x0C,
    bad (s.get FORM_BS_BS_TMO == 0) ZERO_LEN 0x02 0x14,
    bad (s.get FORM_BKR2_BKR_MS == 0 || s.get FORM_BKR2_BKR_PULSE == 0) ZERO_LEN 0x02 0x24,
    bad (between 1000 100000000 (s.get FORM_BASE_S_S)) RANGE 0x01 0x00,
    bad (between 100 40000 (s.get FORM_BASE_V_V_NOM) || between 45000 65000 fn) RANGE 0x01 0x04,
    bad (between 500 1000 (s.get FORM_LIVE_LIVE_V) || decide (500 < s.get FORM_LIVE_DEAD_V) || decide (s.get FORM_LIVE_LIVE_HOLD < 100)) RANGE 0x02 0x04,
    bad (between 1 200 (s.get FORM_SYNC_SYNC_ANG) || between 1 1000 (s.get FORM_SYNC_SYNC_DF) || between 1 100 (s.get FORM_SYNC_SYNC_DV)) RANGE 0x02 0x08,
    bad (decide (600 < s.get FORM_SYNC2_SYNC_TMO)) RANGE 0x02 0x0C,
    bad (s.get FORM_SYNC3_K_SYNC == 0 || s.get FORM_SYNC3_SYNC_VRATE == 0) RANGE 0x02 0x10,
    bad (s.get FORM_BS_BS_RAMP == 0 || decide (6000 < s.get FORM_BS_BS_TMO)) RANGE 0x02 0x14,
    bad (s.get FORM_STOP_STOP_RAMP == 0) RANGE 0x02 0x18,
    bad (bkr && (decide (39 < s.get FORM_BKR_CLOSE_CTC) || decide (39 < s.get FORM_BKR_TRIP_CTC) || decide (39 < s.get FORM_BKR_FB))) RANGE 0x02 0x20,
    bad (between 1 1000 (s.get FORM_BKR3_BKR_DV)) RANGE 0x02 0x28,
    bad (decide (s.get FORM_LIVE_LIVE_V ≤ s.get FORM_LIVE_DEAD_V)) DISAGREE 0x02 0x04,
    bad (decide (fn ≤ s.get FORM_FLIM_F_MIN) || decide (s.get FORM_FLIM_F_MAX ≤ fn)) DISAGREE 0x02 0x1C,
    bad (decide (s.get FORM_BKR2_BKR_MS ≤ s.get FORM_BKR2_BKR_CLOSE_MS)) DISAGREE 0x02 0x24,
    bad (bkr && (s.get FORM_BKR_CLOSE_CTC == s.get FORM_BKR_TRIP_CTC || s.othersCoils.contains (s.get FORM_BKR_CLOSE_CTC) ||
      s.othersCoils.contains (s.get FORM_BKR_TRIP_CTC) || s.othersFbs.contains (s.get FORM_BKR_FB))) DISAGREE 0x02 0x20,
    bad (if topo then s.flag CELL_STR_STR_EN 0 1 || s.flag CELL_STR_STR_EN 0 2 else strings.any (fun j => !s.flag CELL_STR_STR_EN 0 j)) DISAGREE 0x02 0x00,
    bad ((v ++ s.formInputs ICONV).any (fun n => !s.flag FIL_DCFG_EN n) || v.any (fun n => s.get CAL_UCFG_F_UNIT n != 0) ||
      (s.formInputs ICONV).any (fun n => s.get CAL_UCFG_F_UNIT n != 1)) DISAGREE 0x02 0x00,
    checkFormBank s.fbank s]

/-- What the enable of FORM does: the setpoints of the active bank, and the estimator at its start (R215); the write of EN has computed the derived bases (R211). -/
def enterForm (s : State) : State :=
  let u := s.fbank
  let s := { s with form := { s.form with
    psetR := s.geti FORM_BK_PSET_P_SET u, qsetR := s.geti FORM_BK_QSET_Q_SET u, vsetR := s.geti FORM_BK_VSET_V_SET u, wsetR := s.geti FORM_BK_FSET_F_SET u,
    hist := [], seenF := false, seenV := false, wF := one, feed := 0, term := 0, invalid := [] } }
  ((s.set FORM_MODE_STAT_MODE s.pstate).set FORM_MODE_STAT_FEED_LIVE 0).setb FORM_MODE_STAT_BKR_FB (s.flag FORM_BKR_BKR_EN && s.bkrClosed)

/-- What the disable of FORM does: a pending swap and a held request are cancelled (R280). -/
def leaveForm (s : State) : State :=
  ({ s with form := { s.form with req := none } } : State).set FORM_BANK_SWAP_PENDING 0 |>.set FORM_MODE_STAT_PENDING 0

end Sys2Proof.Machine
end

