-- ==== Sys2Proof/Machine/Law.lean ====
section
/-! DEFINITION. LAW: the law slots (R276 to R278), manual operation (R283), following errors (R284), the competitions (R286 to R289), precharge (R290), current limiting (R292, R293) and the ride-through envelope (R294 to R298). -/

namespace Sys2Proof.Machine

/-! Slots. -/

/-- The active bank. -/
def State.lbank (s : State) : Nat := s.get LAW_BANK_ACTIVE

def State.kp (s : State) (k : Nat) : Int := s.get LAW_BK_KP_KP k s.lbank
def State.ki (s : State) (k : Nat) : Int := s.get LAW_BK_KI_KI k s.lbank
def State.lim (s : State) (k : Nat) : Int := s.geti LAW_BK_LIM_LIM k s.lbank
def State.stepK (s : State) (k : Nat) : Int := s.geti LAW_BK_STEP_STEP k s.lbank
def State.bandK (s : State) (k : Nat) : Int := s.geti LAW_BK_BAND_BAND k s.lbank
def State.yMin (s : State) (k : Nat) : Int := s.geti LAW_SYMIN_Y_MIN k
def State.yMax (s : State) (k : Nat) : Int := s.geti LAW_SYMAX_Y_MAX k

/-- The proportional part of a slot for an error: KP × e, or the band's step with its sign. -/
def State.propPart (s : State) (k : Nat) (e : Int) (up : Bool) : Int :=
  if s.get LAW_SCFG_KIND k = 0 then (if up then s.stepK k else -(s.stepK k)) else rdiv (s.kp k * e) (2 ^ 16)

/-- Store the integrator of a slot, held so that its output stays within Y_MIN to Y_MAX (R277). -/
def State.setU (s : State) (k : Nat) (u prop : Int) : State := s.seti LAW_SU_U (q29 (clampInt (s.yMin k - prop) (s.yMax k - prop) u)) k

/-- Preset the integrator of a slot to an output, for an error (R278, R282, R283). -/
def State.presetU (s : State) (k : Nat) (y e : Int) (up : Bool) : State := s.setU k (y - s.propPart k e up) (s.propPart k e up)

/-- The output from which a slot goes on: its last one, or Y_MIN where it has none (R278; for manual operation DESIGN CHOICE, log entry 87). -/
def State.firstOut (s : State) (k : Nat) : Int := if s.law.hasOut.contains k then s.geti LAW_SOUT_Y k else s.yMin k

/-- The output of a slot in manual, one cycle on toward its target (R283). -/
def State.manualMove (s : State) (k : Nat) : Int :=
  approach (s.geti LAW_SOUT_Y k) (s.geti LAW_SMAN_TGT_MAN_TGT k) (s.rampStep (s.get LAW_SMAN_MAN_RATE k))

/-- Step 4 judges MAN for a slot that does not compute in it: it enters or leaves manual, and in manual its output moves (R283). -/
def State.manualIdle (s : State) (k : Nat) : State :=
  let man := s.flag LAW_SMAN_MAN k
  let was := s.flag LAW_SSTAT_IN_MAN k
  let s := s.setb LAW_SSTAT_IN_MAN man k
  if !man then s
  else
    let y := if was then s.manualMove k else s.firstOut k
    ({ s with law := { s.law with hasOut := setPresent s.law.hasOut k true } } : State).seti LAW_SOUT_Y y k

/-- A slot computes: band or PI law, with its start, its preset, or its manual output (R277, R278, R282, R283). While RIDE is set the integrator of slot 5 is held (R298). -/
def State.slotCompute (s : State) (k : Nat) (e : Int) : State :=
  let s := s.seti LAW_SERR_E e k
  let starts := !s.law.computing.contains k
  let sign : Bool := decide (0 ≤ e)
  let man := s.flag LAW_SMAN_MAN k
  let was := s.flag LAW_SSTAT_IN_MAN k
  let band : Bool := s.get LAW_SCFG_KIND k == 0
  let s := s.setb LAW_SSTAT_IN_MAN man k
  let first := s.firstOut k
  let s := if starts || (band && (man || was)) then s.setb LAW_SSTAT_S sign k else s
  let s := { s with law := { s.law with hasOut := setPresent s.law.hasOut k true, presets := s.law.presets.filter (· != k) } }
  if man then
    let y := if was then s.manualMove k else first
    (s.seti LAW_SOUT_Y y k).presetU k y e sign
  else if starts || was then
    (s.seti LAW_SOUT_Y (clampInt (s.yMin k) (s.yMax k) first) k).presetU k first e sign
  else if k = 5 ∧ s.flag LAW_RT_STAT_RIDE = true then s
  else
    let b := s.bandK k
    let old := s.flag LAW_SSTAT_S k
    let up := if !band then old else if b < e then true else if e < -b then false else old
    let s := if band then s.setb LAW_SSTAT_S up k else s
    let p := s.propPart k e up
    let u := s.geti LAW_SU_U k + rdiv (s.ki k * e * s.period) (2 ^ 16 * 10 ^ 9)
    let y := clampInt (s.yMin k) (s.yMax k) (p + u)
    (s.seti LAW_SOUT_Y y k).setU k u p

/-- The presets due before a slot's next computation, with the error of that computation (R282, R315). -/
def State.slotRun (s : State) (k : Nat) (e : Int) : State :=
  let s := if s.law.presets.contains k && s.law.computing.contains k then s.presetU k (s.geti LAW_SOUT_Y k) e (s.flag LAW_SSTAT_S k) else s
  s.slotCompute k e

/-- Hold a slot at an output that another has won (R287, R313). -/
def State.holdAt (s : State) (k : Nat) (out : Int) : State :=
  if k = 5 ∧ s.flag LAW_RT_STAT_RIDE = true then s
  else s.seti LAW_SU_U (clampInt (s.yMin k) (s.yMax k) (out - s.propPart k (s.geti LAW_SERR_E k) (s.flag LAW_SSTAT_S k))) k

/-- The slots that start to compute after this step are those that did not compute in it. -/
def State.slotsRan (s : State) (ks : List Nat) : State := { s with law := { s.law with computing := ks } }

/-! Measured quantities (R276). -/

/-- |i|. -/
def State.iMag (s : State) : Int := hyp s.form.id s.form.iq

/-- Enabled slots in service. -/
def State.serving (s : State) : List Nat := s.enSlots.filter (fun i => s.inService i)

/-- The square of a slot's VDC per unit, in Q2.29 (R9). -/
def State.w1 (s : State) (i : Nat) : Int := q29 (qmul (s.useVdc i) (s.useVdc i))

/-- The mean of a list of values; none for an empty list. -/
def mean (l : List Int) : Option Int := if l.isEmpty then none else some (rdiv l.sum l.length)

/-- W_avg and W_min (R276). -/
def State.linkEnergy (s : State) : State :=
  let avg := (mean (s.serving.map (fun i => s.w1 i))).getD 0
  let means := strings.filterMap (fun j => mean ((s.serving.filter (fun i => s.get CELL_SCFG_STRING i == j)).map (fun i => s.w1 i)))
  let mn := means.min?.getD 0
  ((s.seti LAW_W_W_AVG avg).seti LAW_W2_W_MIN mn).seti LAW_IMAG_I s.iMag

/-- The hottest reported TEMP per unit of 200 °C. -/
def State.thermal (s : State) : Int := q29 <| rdiv (((s.serving.map (fun i => s.geti CELL_TEMP_TEMP i)).max?.getD 0) * one) 25600

/-- Power per unit of S. -/
def State.powerPu (s : State) (w : Int) : Int := q29 (rdiv (w * one) (s.get FORM_BASE_S_S : Int))

/-- The store-bus discharge power: the power that the STORE buses deliver to the hub. -/
def State.storePower (s : State) : Int :=
  s.powerPu (-((buses.filter (fun b => s.busEn b && s.flag OUT_BCFG_KIND b)).map (fun b => s.geti OUT_BP_P b)).sum)

/-- The error of slots 1 to 6, in Q2.29 (R9, R276). -/
def State.slotError (s : State) (k : Nat) : Int :=
  q29 <| match k with
  | 1 => s.lim 1 - s.iMag
  | 2 => s.lim 2 - s.thermal
  | 3 => q29 (qmul (s.lim 3) (s.geti FORM_STORE_DIS_DIS)) - s.storePower
  | 4 => s.geti LAW_W2_W_MIN - s.lim 4
  | 5 => s.geti LAW_W_W_AVG - s.lim 5
  | _ => s.geti LAW_W2_W_MIN - s.lim 6

/-! Competitions (R286 to R289). -/

/-- The winner among members and their candidates: the lowest; on a tie last cycle's winner, else the lowest slot. -/
def winnerOf (last : Nat) (ys : List (Nat × Int)) : Nat × Int :=
  match (ys.map (fun p => p.2)).min? with
  | none => (0, 0)
  | some y =>
    let tied := ys.filter (fun p => p.2 == y)
    if tied.any (fun p => p.1 == last) then (last, y) else tied.head?.getD (0, y)

/-- Report a competition's winner; a slot that is no member of it has won none (R288, R301). -/
def State.reportWin (s : State) (comp win : Nat) : State :=
  let same : Bool := decide (s.get LAW_WIN_COMP = comp)
  let last := s.get LAW_WIN_WINNER
  let changed := same && last != win
  let s := (List.range 7).foldl (fun s m => s.setb LAW_SSTAT_WIN (m == win) m) s
  let s := (s.set LAW_WIN_COMP comp).set LAW_WIN_WINNER win
  let s := if changed then s.inc LAW_WIN_WIN_CHG else s
  s.raiseIf (changed && (last == 0 || last == 5)) SRC_LAW_LIMIT_WIN 0x20

/-- No competition is in force in this cycle (R286, R288): LAW_WIN shows none, and winner 0 (DESIGN CHOICE, log entry 87). -/
def State.reportNone (s : State) : State := ((s.set LAW_WIN_COMP 0).set LAW_WIN_WINNER 0).clearWins

/-- Last cycle's winner of a competition. -/
def State.lastWin (s : State) (comp : Nat) : Nat := if s.get LAW_WIN_COMP = comp then s.get LAW_WIN_WINNER else 99

/-- The power competition gives pdc (order 2). -/
def State.powerCompete (s : State) : State :=
  let s := s.slotRun 5 (s.slotError 5)
  let s := s.slotRun 6 (s.slotError 6)
  let w := winnerOf (s.lastWin 2) [(5, s.geti LAW_SOUT_Y 5), (6, s.geti LAW_SOUT_Y 6)]
  let s := s.holdAt (if w.1 = 5 then 6 else 5) w.2
  (s.seti LAW_PDC_PDC w.2).reportWin 2 w.1

/-- The energise competition gives E; the phase ends when slot 0 wins with the ramp at its target (order 4, R289). -/
def State.energiseCompete (s : State) : State :=
  let s := s.energiseRamp
  let s := [1, 2, 3, 4].foldl (fun s k => s.slotRun k (s.slotError k)) s
  let s := s.seti LAW_SOUT_Y s.form.ramp 0
  let w := winnerOf (s.lastWin 1) ([0, 1, 2, 3, 4].map (fun k => (k, s.geti LAW_SOUT_Y k)))
  let s := ([1, 2, 3, 4].filter (· != w.1)).foldl (fun s k => s.holdAt k w.2) s
  let s := { s with form := { s.form with ramp := w.2, e := w.2 } }
  (s.seti LAW_EGOV_E w.2).reportWin 1 w.1

/-- The end of energise: SYNC goes on to track, BLACKSTART to FORM islanded (R227). -/
def State.energiseEnd (s : State) : State :=
  if s.get LAW_WIN_WINNER = 0 ∧ s.form.ramp = s.energiseTarget then
    if s.pstate = SYNC then s.enterTrack SYNC
    else (s.modeTo FORM 6).set FORM_MODE_STAT_ISLANDED 1
  else s

/-! Current limiting (R292, R293). -/

/-- A value in 0.001 pu. -/
def milli (v : Nat) : Int := rdiv ((v : Int) * one) 1000

/-- DRV and DXV from the E in force (order 5). -/
def State.currentLimit (s : State) : State :=
  let u := s.lbank
  let f := s.form
  let dv := hyp (f.e - f.vd) f.vq
  let z0 := hyp (s.geti FORM_BK_RV_RV s.fbank) (s.geti FORM_BK_XV_XV s.fbank) + milli (s.get LAW_ZC_ZC)
  let il : Int := if s.flag LAW_RT_STAT_RIDE then s.get LAW_BK_ILIM_I_LIM_FRT 0 u else s.get LAW_BK_ILIM_I_LIM 0 u
  let req := max 0 (rdiv (dv * 1000) il - z0)
  let dz0 := s.geti LAW_DZ_DZ
  let top := milli (s.get LAW_BK_DZ_DZ_MAX 0 u)
  let dz := min top (max req (dz0 - rdiv (dz0 * s.period) ((s.get LAW_BK_DZ_TZ 0 u : Int) * 1000000)))
  let dz := if dz < 512 then 0 else dz
  let s := s.seti LAW_DZ_DZ dz
  let s := s.seti FORM_DRV_DRV (rdiv (dz * s.get LAW_BK_ZW_ZR_W 0 u) (2 ^ 16))
  let s := s.seti FORM_DXV_DXV (rdiv (dz * s.get LAW_BK_ZW_ZX_W 0 u) (2 ^ 16))
  s.raiseIf (dz == top) SRC_LAW_DZ_MAX 0x20

/-- A LAW reason in LAW_CHK that neither a rule nor R561's table places: the control unit, offset 0x00 (R561). -/
def State.lawNote (s : State) (reason : Nat) : State := s.refuse .law reason 0x20 0x00

/-- |i| above I_TRIP: SGR at once (R293). -/
def State.overcurrentNow (s : State) : Bool := decide ((s.get LAW_BK_TRIP_I_TRIP 0 s.lbank : Int) * one < s.iMag * 1000)
def State.overcurrent (s : State) : State :=
  if s.overcurrentNow then ((s.raise SRC_LAW_OVERCURRENT 0x20).lawNote 0x0925).sgr C_SGR else s

/-! Precharge (R290, R291). -/

/-- The path of the running state: fitted, its coil and its feedback. -/
def State.prePath (s : State) : Bool × Nat × Nat :=
  if s.pstate = SYNC then (s.flag LAW_PRE_FEED_EN, s.get LAW_PRE_FEED_CTC, s.get LAW_PRE_FEED_FB)
  else (s.flag LAW_PRE_STORE_EN, s.get LAW_PRE_STORE_CTC, s.get LAW_PRE_STORE_FB)

/-- Whether the path's feedback reads closed, after the FB_NC of its output. -/
def State.preClosed (s : State) : Bool := s.pathClosed s.prePath.2.1 s.prePath.2.2

/-- The done conditions of step 3. -/
def State.preDone (s : State) : Bool :=
  let means := (strings.filter (fun j => s.flag CELL_STR_STR_EN 0 j)).map (fun j =>
    (mean ((s.serving.filter (fun i => s.get CELL_SCFG_STRING i == j)).map (fun i => s.useVdc i))).getD 0)
  means.all (fun m => decide ((s.get LAW_PRE2_PRE_DONE : Int) * one ≤ m * 1000)) &&
    s.serving.all (fun i => decide ((s.get LAW_PRE2_PRE_MIN : Int) * one ≤ s.useVdc i * 1000))

/-- Precharge fails: the coil opens at once, and FORM ends the state (R291, R561). -/
def State.preFail (s : State) (reason : Nat) : State :=
  let s := ((s.preCoilsOff).raise SRC_LAW_PRECHARGE_FAIL 0x20).refuse .law reason 0x23 0x20
  (s.modeFail 0x0829).set LAW_PRE_STAT_STEP 6

/-- Whether precharge runs, in one of the steps given. -/
def State.preIn (s : State) (l : List Nat) : Bool := s.inRun && s.precharging && l.contains (s.get LAW_PRE_STAT_STEP)

/-- LAW's part of a step 4 in precharge; while an SGR is active the sequence goes no further (R300). -/
def State.preStep (s : State) : State :=
  let p := s.prePath
  let st := s.get LAW_PRE_STAT_STEP
  let s := s.seti LAW_PDC_PDC 0
  let s := if st = 1 then { s with law := { s.law with preT0 := s.samp } } else s
  let s := s.set LAW_PRE_STAT_ELAPSED (min 0xFFFF ((s.samp - s.law.preT0) / 10000000))
  if s.sgrActive then s
  else if st = 1 then
    if !p.1 then (if s.preDone then s.set LAW_PRE_STAT_STEP 5 else s.preFail 0x0920)
    else if s.preClosed then s.preFail 0x0923
    else (s.set LAW_PRE_STAT_STEP 2).coilCmd p.2.1 true
  else if st = 3 ∧ (s.get LAW_PRE2_PRE_ILIM : Int) * one < s.iMag * 1000 then s.preFail 0x0922
  else if st = 5 then (s.set LAW_PRE_STAT_STEP 0).enterEnergise
  else s

/-- The path's contactor is opening because precharge was ended by a STOP or by an SGR (R291, R300). -/
def State.preEnding (s : State) : Bool :=
  s.inRun && s.get LAW_PRE_STAT_STEP == 4 && (s.phase == 7 || (s.precharging && s.sgrActive))

/-- The feedback of a precharge contactor has changed (R290). -/
def State.preFbMoved (s : State) (k : Nat) : State :=
  if s.preEnding && s.prePath.2.2 == k && !s.preClosed then s.set LAW_PRE_STAT_STEP 0
  else if s.preIn [2] && s.prePath.2.2 == k && s.preClosed then s.set LAW_PRE_STAT_STEP 3
  else if s.preIn [4] && s.prePath.2.2 == k && !s.preClosed then s.set LAW_PRE_STAT_STEP 5
  else s

/-- The done conditions hold: the coil opens, and once its feedback reads open LAW reports done (R290). -/
def opPrechargeDone (s : State) : State :=
  if s.preIn [3] && s.preDone && !s.sgrActive then
    let s := (s.set LAW_PRE_STAT_STEP 4).coilCmd s.prePath.2.1 false
    if s.preClosed then s else s.set LAW_PRE_STAT_STEP 5
  else s

/-- R290 PRECHARGE_DONE. -/
def execPrechargeDone (s : State) : Host.Outcome State Fault Refusal := .next (s.live (opPrechargeDone s))

/-- PRE_TMO expires; done in the same cycle governs (R291, R300). -/
def opPreTimeout (s : State) : State :=
  if s.preIn [1, 2, 3] && !s.sgrActive then (if s.preIn [3] && s.preDone then opPrechargeDone s else s.preFail 0x0921) else s

/-- R291 PRE_TIMEOUT. -/
def execPreTimeout (s : State) : Host.Outcome State Fault Refusal := .next (s.live (opPreTimeout s))

/-- PRE_CTC_MS expires (R291). Where the contactor opens for a STOP or for STRING_LOST, it ends the wait and is no failure of precharge (R291, R300; CTC shows WELDED; DESIGN CHOICE, log entry 87). -/
def opPreCtcTimeout (s : State) : State :=
  if s.preEnding then s.set LAW_PRE_STAT_STEP 0
  else if (s.preIn [2] && !s.preClosed) || (s.preIn [4] && s.preClosed) then s.preFail 0x0923 else s

/-- R291 PRE_CTC_TIMEOUT. -/
def execPreCtcTimeout (s : State) : Host.Outcome State Fault Refusal := .next (s.live (opPreCtcTimeout s))

/-! The envelope (R294 to R297). -/

/-- The curve of a side at `t` ns after RIDE set, in 0.001 pu × 10^6 (R295). -/
def curveAt (pts : List (Nat × Nat)) (t : Nat) : Int :=
  match pts with
  | [] => 0
  | (t0, v0) :: rest =>
    if t < t0 * 1000000 then (v0 : Int) * 1000000
    else match rest with
      | [] => (v0 : Int) * 1000000
      | (t1, v1) :: _ =>
        if t < t1 * 1000000 then (v0 : Int) * 1000000 + rdiv (((v1 : Int) - v0) * ((t : Int) - t0 * 1000000) * 1000000) (((t1 : Int) - t0) * 1000000)
        else curveAt rest t

/-- The points of a side. -/
def State.curve (s : State) (above : Bool) : List (Nat × Nat) :=
  if above then (List.range (s.get LAW_CFG_NPT_OV)).map (fun k => (s.get LAW_RT_OV_T 0 k, s.get LAW_RT_OV_V 0 k))
  else (List.range (s.get LAW_CFG_NPT_UV)).map (fun k => (s.get LAW_RT_UV_T 0 k, s.get LAW_RT_UV_V 0 k))

/-- An envelope exit (R297). -/
def State.rtExit (s : State) (act : Bool) : State :=
  if s.law.exited then s
  else
    let s := { s with law := { s.law with exited := true } }
    let s := ((s.raise SRC_LAW_RT_EXIT 0x20).set LAW_RT_STAT_EXIT 1).lawNote 0x0926
    if !act then s
    else if s.get LAW_CFG_RT_ACT = 1 then s.sendTrip
    else if s.get LAW_CFG_RT_ACT = 2 then s.sgr C_SGR
    else s

/-- |VPCC| of the sampling instant, unfiltered: the worked example sets RIDE in the first step 4 that sees a dip (R294, R295; DEDUCED, log entry 88). -/
def State.vMag (s : State) : Int := hyp s.form.vp.1 s.form.vp.2

/-- |VPCC| compared with a threshold in 0.001 pu. -/
def State.vBelow (s : State) (m : Nat) : Bool := decide (s.vMag * 1000 < (m : Int) * one)
def State.vAbove (s : State) (m : Nat) : Bool := decide ((m : Int) * one < s.vMag * 1000)

/-- The end of an exit's hold-off: RIDE and every stage count have returned to 0. -/
def State.rtSettle (s : State) : State :=
  if s.flag LAW_RT_STAT_RIDE = false ∧ s.law.stages = [] then { s with law := { s.law with exited := false } } else s

/-- The stages that count in this cycle (R296). -/
def State.countStages (s : State) : State :=
  let f := s.form.wF * (s.get FORM_BASE_V_F_NOM : Int)
  let st := (List.range 8).filterMap (fun k =>
    let lim := (s.get LAW_RT_F_F 0 k : Int) * one
    if s.flag LAW_RT_F_EN 0 k && (if s.flag LAW_RT_F_DIR 0 k then decide (lim < f) else decide (f < lim)) then
      some (k, ((s.law.stages.find? (fun p => p.1 == k)).map (fun p => p.2)).getD s.samp)
    else none)
  { s with law := { s.law with stages := st } }

/-- The envelope of a cycle (order 7). -/
def State.envelope (s : State) : State :=
  if !s.flag LAW_CFG_RT_EN || !s.connected then
    ({ s.rideClear with law := { s.rideClear.law with stages := [] } } : State).rtSettle
  else
    let uv := s.vBelow (s.get LAW_RT_V_RT_ENTER)
    let ov := s.vAbove (s.get LAW_RT_V2_OV_ENTER)
    let s := if s.flag LAW_RT_STAT_RIDE then (if uv then s.set LAW_RT_STAT_SIDE 0 else if ov then s.set LAW_RT_STAT_SIDE 1 else s)
      else if uv || ov then
        (({ s with law := { s.law with rideT0 := s.samp, recSince := none } } : State).set LAW_RT_STAT_RIDE 1).setb LAW_RT_STAT_SIDE ov |>.raise SRC_LAW_RIDE 0x20
      else s
    let s := if s.flag LAW_RT_STAT_RIDE then
        let t := s.samp - s.law.rideT0
        let above := s.flag LAW_RT_STAT_SIDE
        let within := !s.vBelow (s.get LAW_RT_V_RT_RECOV) && !s.vAbove (s.get LAW_RT_V2_OV_RECOV)
        let s := { s with law := { s.law with recSince := if within then some (s.law.recSince.getD s.samp) else none } }
        let s := s.set LAW_RT_STAT_T_RIDE (min 0xFFFF (t / 1000000))
        let c := curveAt (s.curve above) t * one
        let v := s.vMag * 1000000000
        let fails : Bool := if above then decide (c < v) else decide (v < c)
        if fails then s.rtExit (!s.overcurrentNow) else s
      else s
    s.countStages.rtSettle

/-- |VPCC| has stayed within the recovery limits for RT_REC (R294). -/
def opRideRecover (s : State) : State :=
  match s.law.recSince with
  | some t => if s.flag LAW_RT_STAT_RIDE = true ∧ s.get LAW_RT_V_RT_REC * 1000000 ≤ s.samp - t then s.rideClear.rtSettle else s
  | none => s

/-- R294 RIDE_RECOVER. -/
def execRideRecover (s : State) : Host.Outcome State Fault Refusal := .next (s.live (opRideRecover s))

/-- The condition of a frequency stage has held for TIME (R296). -/
def opFreqStage (k : Nat) (s : State) : State :=
  match s.law.stages.find? (fun p => p.1 == k) with
  | some p =>
    if s.connected ∧ s.get LAW_RT_F_TIME 0 k * 10000000 ≤ s.samp - p.2 then (s.set LAW_RT_STAT_STAGE k).rtExit (!s.overcurrentNow) else s
  | none => s

/-- R296 FREQ_STAGE_EXPIRY. -/
def execFreqStageExpiry (k : Fin 8) (s : State) : Host.Outcome State Fault Refusal := .next (s.live (opFreqStage k.val s))

/-! Following error (R284, R285). -/

/-- Whether a slot is a regulator. -/
def regulator (k : Nat) : Bool := decide (k = 5) || decide (7 ≤ k)

/-- Count a slot's following error. -/
def State.followSlot (s : State) (k : Nat) : State :=
  let e := s.geti LAW_SERR_E k
  let lim := s.geti LAW_SFE_FE_LIM k
  let governs := !regulator k || decide (7 ≤ k) || s.flag LAW_SSTAT_WIN k || s.flag LAW_SSTAT_IN_MAN k
  let out : Bool := if regulator k then decide (lim < e.natAbs) else decide (e < -lim)
  if s.flag LAW_SCFG_FE_EN k && governs then
    if out then s.inc LAW_SSTAT_FE_CNT k else (s.set LAW_SSTAT_FE_CNT 0 k).set LAW_SSTAT_FE_TRIP 0 k
  else s

/-- FE_CNT has reached FE_TMO (R284). -/
def opFollowTimeout (k : Nat) (s : State) : State :=
  if s.flag LAW_SCFG_FE_EN k = true ∧ s.get LAW_SCFG_FE_TMO k ≤ s.get LAW_SSTAT_FE_CNT k ∧ s.flag LAW_SSTAT_FE_TRIP k = false then
    let s := ((s.raise SRC_LAW_FOLLOW k).set LAW_SSTAT_FE_TRIP 1 k).lawNote 0x0924
    let act := s.get LAW_SCFG_FE_ACT k
    if act = 1 then
      let y := s.geti LAW_SOUT_Y k
      ((s.set LAW_SMAN_MAN 1 k).set LAW_SSTAT_IN_MAN 1 k).seti LAW_SMAN_TGT_MAN_TGT y k
    else if act = 2 then (if k < 7 then s.sgr C_SGR else s.sod (k - 7) SOD_LAW)
    else s
  else s

/-- R284 FOLLOW_TIMEOUT. -/
def execFollowTimeout (k : Fin 19) (s : State) : Host.Outcome State Fault Refusal := .next (s.live (opFollowTimeout k.val s))

/-! Manual operation (R283). -/

/-- Whether a slot permits manual operation. -/
def manualOk (k : Nat) : Bool := decide (k = 5) || decide (7 ≤ k)

/-- A write of LAW_SMAN: a MAN of 1 is refused on slots 0 to 4 and 6, where MAN_RATE is taken all the same (R7); MAN = 0 clears FE_TRIP (R283, R284). -/
def opLawMan (k v : Nat) (s : State) : Bool × State :=
  let man := bitOf v 0
  let s := s.set LAW_SMAN_MAN_RATE (v / 2 ^ 16) k
  if man && !manualOk k then (false, s.refuseC .law STATE k 0x10)
  else
    let s := s.setb LAW_SMAN_MAN man k
    (true, if man then s else s.set LAW_SSTAT_FE_TRIP 0 k)

/-- R283 LAW_MAN_WRITE. -/
def execLawManWrite (k : Fin 19) (v : BitVec 32) (s : State) : Host.Outcome State Fault Refusal := .next (s.live (opLawMan k.val v.toNat s).2)

/-! The configuration check (R306, R307). -/

/-- The check of a bank (R307). -/
def checkLawBank (u : Nat) (s : State) : Option (Nat × Nat × Nat) :=
  let off := 0x40 + 0x10 * u
  let il := s.get LAW_BK_ILIM_I_LIM 0 u
  let fr := s.get LAW_BK_ILIM_I_LIM_FRT 0 u
  let tr := s.get LAW_BK_TRIP_I_TRIP 0 u
  let tz := s.get LAW_BK_DZ_TZ 0 u
  let dm := s.get LAW_BK_DZ_DZ_MAX 0 u
  let between := fun (lo hi x : Nat) => !(decide (lo ≤ x) && decide (x ≤ hi))
  let pu1 := fun (v : Int) => decide (v < 0) || decide (one < v)
  checks [
    firstSome (fun k => checks [
      bad (pu1 (s.geti LAW_BK_STEP_STEP k u)) RANGE k (0x2C + 0x10 * u),
      bad (pu1 (s.geti LAW_BK_BAND_BAND k u)) RANGE k (0x4C + 4 * u)]) (List.range 19),
    bad (between 100 3000 il || between 100 3000 fr) RANGE 0x21 off,
    bad (between 1 10000 tz || between 1 4000 dm) RANGE 0x21 (off + 8),
    bad (between 100 4000 tr) RANGE 0x21 (off + 12),
    bad (decide (tr ≤ il) || decide (tr ≤ fr)) DISAGREE 0x21 off,
    bad (s.get LAW_BK_ZW_ZR_W 0 u == 0 && s.get LAW_BK_ZW_ZX_W 0 u == 0) DISAGREE 0x21 (off + 4),
    firstSome (fun k => bad (s.get LAW_SCFG_KIND k == 0 && decide (s.yMax k - s.yMin k < s.geti LAW_BK_STEP_STEP k u)) DISAGREE k (0x2C + 0x10 * u)) ((List.range 18).map (· + 1))]

/-- Whether point times rise strictly and values move one way only (R306). -/
def curveBad (above : Bool) : List (Nat × Nat) → Bool
  | a :: b :: t => decide (b.1 ≤ a.1) || (if above then decide (a.2 < b.2) else decide (b.2 < a.2)) || curveBad above (b :: t)
  | _ => false

/-- Coils and feedbacks that a precharge path may not share: FORM's breaker, OUT's buses, and outputs or inputs of other owners in CTC. -/
def State.preOthers (s : State) (o fb : Nat) : Bool :=
  let bkr := s.flag FORM_BKR_BKR_EN
  let bs := buses.filter (fun b => s.flag OUT_BCFG_EN b)
  (bkr && (o == s.get FORM_BKR_CLOSE_CTC || o == s.get FORM_BKR_TRIP_CTC || fb == s.get FORM_BKR_FB)) ||
    bs.any (fun b => s.get OUT_BCFG_CTC b == o || s.get OUT_BCFG_FB b == fb) ||
    (s.flag CTC_OCFG_EN o && s.get CTC_OCFG_OWNER o != 3) ||
    coils.any (fun q => q != o && s.flag CTC_OCFG_EN q && s.flag CTC_OCFG_FB_EN q && s.get CTC_OCFG_FB q == fb)

/-- The first offending field of LAW's settings (R306). -/
def checkLaw (s : State) : Option (Nat × Nat × Nat) :=
  let rt := s.flag LAW_CFG_RT_EN
  let uv := s.get LAW_CFG_NPT_UV
  let ov := s.get LAW_CFG_NPT_OV
  let fe := s.flag LAW_PRE_FEED_EN
  let st := s.flag LAW_PRE_STORE_EN
  let between := fun (lo hi x : Nat) => !(decide (lo ≤ x) && decide (x ≤ hi))
  checks [
    firstSome (fun k => bad (s.flag LAW_SCFG_FE_EN k && s.get LAW_SCFG_FE_TMO k == 0) ZERO_LEN k 0x00) (List.range 19),
    bad (s.get LAW_PRE3_PRE_TMO == 0 || s.get LAW_PRE3_PRE_CTC_MS == 0) ZERO_LEN 0x21 0x08,
    bad (rt && (uv == 0 || ov == 0)) ZERO_LEN 0x22 0x00,
    firstSome (fun k => checks [
      bad (s.get LAW_SCFG_FE_ACT k == 3 || (k != 0 && decide (2 ≤ s.get LAW_SCFG_KIND k))) RANGE k 0x00,
      bad (decide (s.geti LAW_SFE_FE_LIM k < 0)) RANGE k 0x04,
      bad (s.get LAW_SMAN_MAN_RATE k == 0) RANGE k 0x10]) (List.range 19),
    bad ((fe && (decide (39 < s.get LAW_PRE_FEED_CTC) || decide (39 < s.get LAW_PRE_FEED_FB))) ||
      (st && (decide (39 < s.get LAW_PRE_STORE_CTC) || decide (39 < s.get LAW_PRE_STORE_FB)))) RANGE 0x21 0x00,
    bad (between 100 1000 (s.get LAW_PRE2_PRE_DONE) || between 100 1000 (s.get LAW_PRE2_PRE_MIN) || s.get LAW_PRE2_PRE_ILIM == 0) RANGE 0x21 0x04,
    bad (decide (1000 < s.get LAW_ZC_ZC)) RANGE 0x21 0x0C,
    bad (s.get LAW_CFG_RT_ACT == 3 || decide (8 < uv) || decide (8 < ov)) RANGE 0x22 0x00,
    bad (decide (s.get LAW_RT_V2_OV_ENTER < 1000) || decide (s.get LAW_RT_V2_OV_RECOV < 1000)) RANGE 0x22 0x08,
    firstSome (fun k => bad (decide (s.yMax k ≤ s.yMin k)) DISAGREE k 0x08) (List.range 19),
    firstSome (fun k => bad (s.get LAW_SCFG_FE_ACT k == 1 && !manualOk k) DISAGREE k 0x00) (List.range 19),
    bad (decide (s.get LAW_RT_V_RT_RECOV ≤ s.get LAW_RT_V_RT_ENTER) || decide (1000 < s.get LAW_RT_V_RT_RECOV)) DISAGREE 0x22 0x04,
    bad (decide (s.get LAW_RT_V2_OV_ENTER ≤ s.get LAW_RT_V2_OV_RECOV)) DISAGREE 0x22 0x08,
    bad (curveBad false (s.curve false)) DISAGREE 0x22 0x20,
    bad (curveBad true (s.curve true)) DISAGREE 0x22 0x40,
    bad (decide (s.get LAW_PRE2_PRE_DONE < s.get LAW_PRE2_PRE_MIN)) DISAGREE 0x21 0x04,
    bad ((fe && s.preOthers (s.get LAW_PRE_FEED_CTC) (s.get LAW_PRE_FEED_FB)) || (st && s.preOthers (s.get LAW_PRE_STORE_CTC) (s.get LAW_PRE_STORE_FB)) ||
      (fe && st && s.get LAW_PRE_FEED_CTC == s.get LAW_PRE_STORE_CTC)) DISAGREE 0x21 0x00,
    checkLawBank s.lbank s]

/-- What the enable of LAW does: its counters reset, and no slot has a prior output. -/
def enterLaw (s : State) : State :=
  let s := (List.range 19).foldl (fun s k => s.putWord (LAW_SSTAT_S.addr k 0) 0#32) s
  (({ s with law := ⟨[], [], [], 0, none, [], false, 0⟩ } : State).set LAW_WIN_WIN_CHG 0).reportNone

/-- What the disable of LAW does: a pending swap is cancelled (R280). -/
def leaveLaw (s : State) : State := s.set LAW_BANK_SWAP_PENDING 0

/-! Bank swaps (R223, R280 to R282). -/

/-- A write of SWAP to FORM_BANK or LAW_BANK. -/
def opBankSwap (law : Bool) (s : State) : Bool × State :=
  let b : Block := if law then .law else .form
  let act := if law then LAW_BANK_ACTIVE else FORM_BANK_ACTIVE
  let pend := if law then LAW_BANK_SWAP_PENDING else FORM_BANK_SWAP_PENDING
  let unit := if law then 0x23 else 0x03
  let off := if law then 0x00 else 0x0C
  if !s.en b || s.flag pend then (false, s.refuseC b STATE unit off)
  else
    match (if law then checkLawBank (1 - s.get act) s else checkFormBank (1 - s.get act) s) with
    | some r => (false, (s.refuseC b r.1 r.2.1 r.2.2).raiseC (if law then SRC_LAW_SWAP_REFUSED else SRC_FORM_SWAP_REFUSED))
    | none =>
      let late := s.pastCut
      let s := { s with cyc := { s.cyc with formLate := if law then s.cyc.formLate else late, lawLate := if law then late else s.cyc.lawLate } }
      (true, (s.set pend 1).deferral)

/-- R280 BANK_SWAP. -/
def execBankSwap (law : Bool) (s : State) : Host.Outcome State Fault Refusal := .next (s.live (opBankSwap law s).2)

/-- Pending swaps take effect at a boundary (R25 step 4, R282); one whose request missed the cut point waits for the next (R24). -/
def State.swapBank (s : State) (law : Bool) : State :=
  let act := if law then LAW_BANK_ACTIVE else FORM_BANK_ACTIVE
  let pend := if law then LAW_BANK_SWAP_PENDING else FORM_BANK_SWAP_PENDING
  if s.flag pend && (if law then s.cyc.lawLate else s.cyc.formLate) then
    { s with cyc := { s.cyc with formLate := s.cyc.formLate && law, lawLate := s.cyc.lawLate && !law } }
  else if s.flag pend then
    let s := (s.set act (1 - s.get act)).set pend 0
    if law then { s with law := { s.law with presets := s.law.computing } } else s
  else s

end Sys2Proof.Machine
end

