-- ==== Sys2Proof/Machine/Out.lean ====
section
/-! DEFINITION. OUT: bus measurements and FORM's inputs (R312, R318), outlet regulation and its limits (R311 to R317), flex bands (R320, R321), bus commands and states (R322 to R325), and the allocation matrix (R326 to R333). -/

namespace Sys2Proof.Machine

/-! Units (R312). -/

/-- V_OB in mV. -/
def State.vob (s : State) : Int := (s.get FORM_BASE_CELL_CELL_VOUT * 100 : Nat)

/-- I_OB in mA. -/
def State.iob (s : State) : Int := rdiv ((s.get FORM_BASE_S_S : Int) * 1000000) s.vob

/-- A voltage in mV and a current in mA per unit of the bus bases. -/
def State.vPu (s : State) (mv : Int) : Int := q29 (rdiv (mv * one) s.vob)
def State.iPu (s : State) (ma : Int) : Int := q29 (rdiv (ma * s.vob * one) ((s.get FORM_BASE_S_S : Int) * 1000000))

/-- V_b in mV and I_b in mA of the last step 4. -/
def State.busV (s : State) (b : Nat) : Int := s.geti OUT_BV_V b
def State.busI (s : State) (b : Nat) : Int := s.geti OUT_BI_I b

/-! The setpoints taken at step 4 (R314), in mV, mA and W. -/

def State.vReq (s : State) (b : Nat) : Int := (bitsOf (s.busSt b).spV 0 16 * 100 : Nat)
def State.vMatch (s : State) (b : Nat) : Int := (bitsOf (s.busSt b).spV 16 16 * 100 : Nat)
def State.iReq (s : State) (b : Nat) : Int := (bitsOf (s.busSt b).spI 0 16 * 100 : Nat)
def State.flexW (s : State) (b : Nat) : Int := (bitsOf (s.busSt b).spI 16 16 * 1000 : Nat)

/-- Whether a bus is a STORE bus (R311). -/
def State.isStore (s : State) (b : Nat) : Bool := s.flag OUT_BCFG_KIND b

/-! Commands of a bus (R314, R323). -/

/-- Slots with a confirmed position naming a bus. -/
def State.nConf (s : State) (b : Nat) : Nat := (s.enSlots.filter (fun i => s.allocPos i == b + 1)).length

/-- n_b (R313). -/
def State.nDab (s : State) (b : Nat) : Nat := (s.holders b).length

/-- The device is in a running state outside the precharge phase. -/
def State.serves (s : State) : Bool := s.inRun && !s.precharging

/-- A refusal of a bus command. -/
def State.busNo (s : State) (b r : Nat) : Bool × State := (false, s.refuse .out r b 0x08)

/-- The reason that refuses ON, if one does (R323, R472). -/
def State.onRefusal (s : State) (b : Nat) : Option Nat :=
  let state := some (Block.no .out * 0x100 + STATE)
  if !s.busEn b then state
  else if s.bst b = B_UNAVAILABLE then some 0x0A20
  else if s.bst b ≠ B_OFF ∨ s.serves = false ∨ s.busClosed b = true then state
  else if s.nConf b < s.get OUT_BCFG_MIN_CELLS b then some 0x0A21
  else if s.get OUT_BSP_V_V_MATCH b = 0 ∨ (s.isStore b = false ∧ s.get OUT_BSP_V_V_REQ b = 0) then some (Block.no .out * 0x100 + RANGE)
  else if s.ilkRefusesOn b then some 0x1324
  else none

/-- The bus starts to match; it permits DAB unless a SOD of it is still active. -/
def State.busOn (s : State) (b : Nat) : State :=
  let s := (s.busTo b B_MATCHING).set OUT_BSTAT_MODE 0 b
  s.setBusSt b { s.busSt b with noDab := s.sodActive b }

/-- ON. -/
def opBusOn (b : Nat) (s : State) : Bool × State :=
  if s.follows then s.busNo b (Block.no .out * 0x100 + STATE)
  else match s.onRefusal b with
  | some r => s.busNo b r
  | none => (true, s.busOn b)

/-- R323 BUS_ON. -/
def execBusOn (b : Fin 12) (s : State) : Host.Outcome State Fault Refusal := .next (s.live (opBusOn b.val s).2)

/-- OFF. -/
def opBusOff (b : Nat) (s : State) : Bool × State :=
  if s.follows || !s.busEn b || s.bst b == B_CLOSING || s.bst b == B_UNAVAILABLE then s.busNo b (Block.no .out * 0x100 + STATE)
  else if s.bst b = B_MATCHING then (true, s.busTo b B_OFF)
  else if s.bst b = B_SERVING then (true, s.busRampDown b)
  else (true, s)

/-- R323 BUS_OFF. -/
def execBusOff (b : Fin 12) (s : State) : Host.Outcome State Fault Refusal := .next (s.live (opBusOff b.val s).2)

/-- CLEAR. -/
def opBusClear (b : Nat) (s : State) : Bool × State :=
  let o := s.get OUT_BCFG_CTC b
  if s.follows || !s.busEn b || s.bst b != B_UNAVAILABLE || !(s.pstate == READY || s.pstate == SAFE) then s.busNo b (Block.no .out * 0x100 + STATE)
  else if s.busClosed b then s.busNo b 0x0A24
  else if s.flag CTC_OSTAT_SHORT o || s.flag CTC_OSTAT_OPEN o || s.flag CTC_OSTAT_REVERSE o then s.busNo b (Block.no .out * 0x100 + STATE)
  else (true, s.busTo b B_OFF)

/-- R323 BUS_CLEAR. -/
def execBusClear (b : Fin 12) (s : State) : Host.Outcome State Fault Refusal := .next (s.live (opBusClear b.val s).2)

/-- A write of OUT_BSP_V or OUT_BSP_I (R314). -/
def opBusSetpoint (b : Nat) (amps : Bool) (v : Nat) (s : State) : Bool × State :=
  if s.follows then (false, s.refuseC .out STATE b (if amps then 0x10 else 0x0C))
  else if amps then (true, s.putWord (OUT_BSP_I_I_REQ.addr b 0) (BitVec.ofNat 32 v))
  else
    let out := fun (x : Nat) => x != 0 && (decide (x < 1500) || decide (s.get OUT_BCFG2_V_MAX b < x))
    if out (bitsOf v 0 16) || out (bitsOf v 16 16) then (false, s.refuseC .out RANGE b 0x0C)
    else (true, s.putWord (OUT_BSP_V_V_REQ.addr b 0) (BitVec.ofNat 32 v))

/-- R314 BUS_SETPOINT_WRITE. -/
def execBusSetpointWrite (b : Fin 12) (amps : Bool) (v : BitVec 32) (s : State) : Host.Outcome State Fault Refusal :=
  .next (s.live (opBusSetpoint b.val amps v.toNat s).2)

/-! Bus transitions (R322). -/

/-- SERVING begins in current mode; the change of mode keeps the slot's output (R315). A STOP that came during CLOSING follows (R324). -/
def State.busServe (s : State) (b : Nat) : State :=
  let stop := (s.busSt b).stopping
  let s := (s.busTo b B_SERVING).set OUT_BSTAT_MODE 1 b
  let s := { s with law := { s.law with presets := setPresent s.law.presets (7 + b) true } }
  if stop then s.busRampDown b else s

/-- The bus has matched for MATCH_HOLD cycles: the coil is commanded on. -/
def opMatchHold (b : Nat) (s : State) : State :=
  if s.busEn b ∧ s.bst b = B_MATCHING ∧ s.get OUT_MATCH_MATCH_HOLD ≤ (s.busSt b).matchRun then
    let s := (s.busTo b B_CLOSING).busCoil b true
    if s.busClosed b then s.busServe b else s
  else s

/-- R322 MATCH_HOLD_REACHED. -/
def execMatchHoldReached (b : Fin 12) (s : State) : Host.Outcome State Fault Refusal := .next (s.live (opMatchHold b.val s))

/-- BUS_FAIL with a reason (R322, R341, R561). -/
def State.busFailed (s : State) (b r : Nat) : State := (s.raise SRC_OUT_BUS_FAIL b).refuse .out r b 0x1C

/-- MATCH_TMO expires. -/
def opMatchTimeout (b : Nat) (s : State) : State :=
  if s.busEn b ∧ s.bst b = B_MATCHING then (s.busTo b B_OFF).busFailed b 0x0A22 else s

/-- R322 MATCH_TIMEOUT. -/
def execMatchTimeout (b : Fin 12) (s : State) : Host.Outcome State Fault Refusal := .next (s.live (opMatchTimeout b.val s))

/-- The feedback of a bus has not followed within CTC_MS: the bus becomes UNAVAILABLE; in step 3 of a SOD that is a failure (R322, R466). -/
def opBusCtcTimeout (b : Nat) (s : State) : State :=
  if s.busEn b ∧ s.bst b = B_CLOSING ∧ s.busClosed b = false then (s.busFail b).busFailed b 0x0A23
  else if s.busEn b ∧ s.bst b = B_OPENING ∧ s.busClosed b = true then
    let s := (s.busFail b).busFailed b 0x0A24
    if s.sodAt b 3 then s.sodFail b else s
  else if s.busEn b ∧ s.bst b = B_UNAVAILABLE ∧ s.busClosed b = true ∧ s.sodAt b 3 = true then s.sodFail b
  else s

/-- R322 BUS_CTC_TIMEOUT. -/
def execBusCtcTimeout (b : Fin 12) (s : State) : Host.Outcome State Fault Refusal := .next (s.live (opBusCtcTimeout b.val s))

/-- RAMPDOWN has lasted OPEN_TMO. -/
def opOpenTmo (b : Nat) (s : State) : State :=
  if s.busEn b ∧ s.bst b = B_RAMPDOWN then
    let s := { s with out := { s.out with openCur := setPresent s.out.openCur b true } }
    (s.raise SRC_OUT_OPEN_CURRENT b).sod b SOD_CURRENT
  else s

/-- R322 OPEN_TMO_EXPIRY. -/
def execOpenTmoExpiry (b : Fin 12) (s : State) : Host.Outcome State Fault Refusal := .next (s.live (opOpenTmo b.val s))

/-! Moves (R326 to R333). -/

def State.moveSt (s : State) (i : Nat) : MoveSt := s.out.moves.getD i ⟨0, 0, 0, false, false⟩
def State.setMoveSt (s : State) (i : Nat) (m : MoveSt) : State := { s with out := { s.out with moves := s.out.moves.set i m } }
def State.setPos (s : State) (i p : Nat) : State := s.setPk OUT_ALLOC_POS_POS 8 4 i p
def State.setStep (s : State) (i st : Nat) : State := s.setPk OUT_ALLOC_STEP_STEP 8 4 i st

/-- The target in force: one written past the cut point waits for the boundary after next (R24, R326). -/
def State.target (s : State) (i : Nat) : Nat :=
  match s.out.late.find? (fun p => p.1 == i) with
  | some p => p.2
  | none => s.getPk OUT_ALLOC_TGT_TGT 8 4 i

/-- The step whose outputs a slot's sets carry: a stuck move keeps its step's outputs (R330). -/
def State.moveStep (s : State) (i : Nat) : Nat := if s.allocStep i = 7 then (s.moveSt i).under else s.allocStep i

/-- SEL_POS and SEL_GO of a slot's set (R328). -/
def State.selPos (s : State) (i : Nat) : Nat :=
  match s.moveStep i with
  | 2 => 0
  | 3 => 0
  | 4 => (s.moveSt i).tgt
  | _ => s.allocPos i
def State.selGo (s : State) (i : Nat) : Bool := (s.moveStep i == 2 || s.moveStep i == 4) && !(s.moveSt i).gone

/-- Slots in a move: STEP 1 to 5. -/
def State.transit (s : State) : Nat := (s.enSlots.filter (fun i => decide (1 ≤ s.allocStep i) && decide (s.allocStep i ≤ 5))).length

/-- The counts of moves, positions and permissions as the registers show them (R336, R337). -/
def State.outShow (s : State) : State :=
  let mv := s.enSlots.filter (fun i => (decide (1 ≤ s.allocStep i) && decide (s.allocStep i ≤ 5)) || s.allocStep i == 7)
  (buses.foldl (fun s b =>
    let n := (mv.filter (fun i => (s.moveSt i).tgt == b + 1 || (s.moveSt i).orig == b + 1)).length
    ((s.set OUT_BSTAT_NCONF (s.nConf b) b).set OUT_BSTAT_NDAB (s.nDab b) b).set OUT_BSTAT_NTRANSIT n b) s).set OUT_STAT_TRANSIT s.transit

/-- A write of OUT_ALLOC_TGT[m] is judged whole (R326). -/
def opAllocTarget (m v : Nat) (s : State) : Bool × State :=
  let ks := List.range 8
  let off := 4 * m
  let bad1 := ks.any (fun k => decide (12 < bitsOf v (4 * k) 4))
  let field := fun (k : Nat) =>
    let t := bitsOf v (4 * k) 4
    if t = s.getPk OUT_ALLOC_TGT_TGT 8 4 (8 * m + k) ∨ t = 0 then none
    else if s.flag OUT_BCFG_EN (t - 1) = false ∨ s.bst (t - 1) = B_UNAVAILABLE then some 0x0A20
    else if s.flag CELL_SCFG_SLOT_EN (8 * m + k) = false then some (Block.no .out * 0x100 + RANGE)
    else none
  if s.follows then (false, s.refuseC .out STATE 0x12 off)
  else if bad1 then (false, s.refuseC .out RANGE 0x12 off)
  else match firstSome field ks with
    | some r => (false, s.refuse .out r 0x12 off)
    | none =>
      let held := if s.pastCut then
          (ks.map (fun k => 8 * m + k)).filterMap (fun i =>
            if s.out.late.any (fun p => p.1 == i) || s.getPk OUT_ALLOC_TGT_TGT 8 4 i == bitsOf v (4 * (i - 8 * m)) 4 then none
            else some (i, s.getPk OUT_ALLOC_TGT_TGT 8 4 i))
        else []
      let s := { s with out := { s.out with late := s.out.late ++ held } }
      (true, (s.putWord (OUT_ALLOC_TGT_TGT.addr 0 m) (BitVec.ofNat 32 v)).deferral)

/-- R326 ALLOC_TARGET_WRITE. -/
def execAllocTargetWrite (m : Fin 24) (v : BitVec 32) (s : State) : Host.Outcome State Fault Refusal := .next (s.live (opAllocTarget m.val v.toNat s).2)

/-- A move in OPEN or CLOSE has not passed within SEL_TMO (R330). -/
def opAllocStuck (i : Nat) (s : State) : State :=
  if s.en .out ∧ (s.allocStep i = 2 ∨ s.allocStep i = 4) ∧ (s.moveSt i).seen = false then
    ((s.setMoveSt i { s.moveSt i with under := s.allocStep i }).setStep i 7).raise SRC_OUT_ALLOC_STUCK 0x13
  else s

/-- R330 ALLOC_STUCK. -/
def execAllocStuck (slot : Fin 192) (s : State) : Host.Outcome State Fault Refusal := .next (s.live (opAllocStuck slot.val s))

/-- Positions and confirmations from the delivered reports of a cycle (R327, R328). -/
def State.takePositions (s : State) : State :=
  s.enSlots.foldl (fun s i =>
    if !s.took i then s
    else
      let mov := s.flag CELL_SSTAT_SEL_MOVING i
      let fb := s.get CELL_SSTAT_SEL_FB i
      let st := s.moveStep i
      let s := if !mov then s.setPos i fb else if st = 0 ∨ st = 6 then s.setPos i 0xF else s
      let want := if st = 2 then 0 else (s.moveSt i).tgt
      if st = 2 ∨ st = 4 then
        s.setMoveSt i { s.moveSt i with gone := (s.moveSt i).gone || mov || fb == want, seen := (s.moveSt i).seen || (!mov && fb == want) }
      else s) s

/-- Whether a move of a slot may start (R329). -/
def State.mayMove (s : State) (i : Nat) : Bool :=
  let p := s.allocPos i
  let b := p - 1
  let keeps := if decide (1 ≤ p) && decide (p ≤ 12) && s.holds i b then
      let n := s.nDab b - 1
      let cap : Int := (n * s.get MOD_DAB_PMAX * 10 : Nat) * s.busV b
      decide (s.get OUT_BCFG_MIN_CELLS b ≤ n) &&
        decide (((s.busV b * s.busI b).natAbs : Int) * (100 + s.get OUT_CFG_CAP_MARGIN) * s.vob ≤ cap * 100 * 1000000)
    else true
  s.serves && (s.slotState i == 4 || (s.slotState i == 3 && !s.flag CELL_SSTAT_BLOCKED i)) &&
    decide (s.transit < s.get OUT_CFG_MAX_TRANSIT) && keeps

/-- Enter a step of a move. -/
def State.enterStep (s : State) (i st : Nat) : State := (s.setMoveSt i { s.moveSt i with gone := false, seen := false }).setStep i st

/-- Enter CLOSE toward the target in force. -/
def State.enterClose (s : State) (i : Nat) : State :=
  let s := s.setMoveSt i { s.moveSt i with tgt := s.target i }
  s.enterStep i 4

/-- The start of a move (R328, R329). -/
def State.startMove (s : State) (i : Nat) : State :=
  let p := s.allocPos i
  let s := s.setMoveSt i ⟨s.target i, p, 0, false, false⟩
  let s := if 1 ≤ p ∧ p ≤ 12 then s.inc OUT_BCNT_MOVES_OUT (p - 1) else s
  if p = 0 then s.enterClose i else s.enterStep i 1

/-- Whether the boundary defers a move of a slot: the move is due and may not start (R329). -/
def State.defers (s : State) (i : Nat) : Bool :=
  (s.allocStep i == 0 || s.allocStep i == 6) && s.target i != s.allocPos i && !s.mayMove i

/-- The bus unit of a deferred move: its target, or the bus it would leave for the parked position; unit 0x13 where neither is a bus. -/
def State.deferUnit (s : State) (i : Nat) : Nat :=
  let p := if s.target i = 0 then s.allocPos i else s.target i
  if 1 ≤ p ∧ p ≤ 12 then p - 1 else 0x13

/-- One slot at a boundary: at most one step (R328 to R332). -/
def State.moveBoundary (s : State) (i : Nat) : State :=
  let st := s.allocStep i
  let m := s.moveSt i
  let t := s.target i
  let confirm := ((s.setPos i 0).enterStep i 3)
  let unblock := ((s.setPos i m.tgt).enterStep i 5)
  if st = 0 ∨ st = 6 then
    if t = s.allocPos i then s.setStep i 0
    else if s.mayMove i then s.startMove i
    else (s.setStep i 6).inc OUT_STAT_DEFER_CNT
  else if !s.eligible i then s
  else if st = 1 then
    if t = m.orig then (s.setMoveSt i { m with tgt := m.orig }).enterStep i 5 else (s.setMoveSt i { m with tgt := t }).enterStep i 2
  else if st = 2 then (if m.seen then confirm else s)
  else if st = 3 then (if t = 0 then s.setStep i 0 else s.enterClose i)
  else if st = 4 then (if m.seen then unblock else s)
  else if st = 5 then
    let s := s.setStep i 0
    if m.tgt ≠ m.orig ∧ 1 ≤ m.tgt then s.inc OUT_BCNT_MOVES_IN (m.tgt - 1) else s
  else if st = 7 ∧ m.seen = true then (if m.under = 2 then confirm else unblock)
  else s

/-! Flex bands (R320, R321). -/

/-- C_b in force, µW: K_b in current mode of a SERVING outlet bus with a session, else 0. -/
def State.curtailed (s : State) (b : Nat) : Int := if s.bst b = B_SERVING ∧ s.flag OUT_BSTAT_MODE b = true then (s.busSt b).curt else 0

/-- Show C_b and CURT. -/
def State.showCurt (s : State) (b : Nat) : State :=
  let c := rdiv (s.curtailed b) 1000000
  (s.seti OUT_BCURT_C c b).setb OUT_BSTAT_CURT (decide (0 < s.curtailed b)) b

/-- The moves of every slot at a boundary, in ascending order; the deferred ones raise DEFER together (R102, R329). -/
def State.moveAll (s : State) : State :=
  let r := s.enSlots.foldl (fun (a : State × List Nat) i =>
    (a.1.moveBoundary i, if a.1.defers i then a.2 ++ [a.1.deferUnit i] else a.2)) (s, ([] : List Nat))
  r.1.raiseAll SRC_OUT_DEFER r.2

/-- OUT's part of step 3 at a boundary: moves, then FRAC and the store request in force. At the boundary that ends the cycle of the entry to SAFE they are still FORM's (R25, R320, R321, R335). -/
def State.outBoundary (s : State) : State :=
  if s.en .out then
    let s := s.moveAll
    let live := s.inRun || s.out.ran
    let s := { s with out := { s.out with late := [], frac := if live then s.get FORM_CURT_FRAC else 0, sreq := if live then s.geti FORM_STORE_REQ_S else 0, ran := s.inRun } }
    (buses.foldl (fun s b =>
      let on := s.busEn b && !s.isStore b && s.bst b == B_SERVING && s.flag OUT_BSTAT_SESSION b
      let k := if on then rdiv ((s.out.frac : Int) * min (s.flexW b * 1000000) (s.busSt b).demand) 65536 else 0
      (s.setBusSt b { s.busSt b with curt := k }).showCurt b) s).outShow
  else s

/-! Step 4: measurements and FORM's inputs (R312, R316, R318). -/

/-- P_sch,b in W (R317). -/
def State.pSch (s : State) (b : Nat) : Int :=
  1000 * clampInt (-(s.get OUT_BSTORE2_P_CHG_MAX b)) (s.get OUT_BSTORE2_P_DIS_MAX b) (s.geti OUT_BSTORE_P_SCHED b)

/-- Headroom of a STORE bus in discharge and in charge, W. -/
def State.headDis (s : State) (b : Nat) : Int := max 0 (1000 * s.get OUT_BSTORE2_P_DIS_MAX b - s.pSch b)
def State.headChg (s : State) (b : Nat) : Int := max 0 (1000 * s.get OUT_BSTORE2_P_CHG_MAX b + s.pSch b)

/-- The cap of a voltage that two consecutive instants exceed: permission withdrawn at once and SOD of the bus (R316). -/
def State.overvoltage (s : State) (b : Nat) : State :=
  let x := s.busSt b
  let n := if (s.get OUT_BCFG2_V_MAX b : Int) * 100 < s.busV b then min 3 (x.overRun + 1) else 0
  let s := s.setBusSt b { x with overRun := n }
  if n = 2 then
    let s := (s.raise SRC_OUT_BUS_OVERVOLT b).sod b SOD_OVERVOLT
    s.setBusSt b { s.busSt b with noDab := true }
  else s

/-- OUT's measurements of the sampling instant, its setpoints taken whole, and D_b. -/
def State.busMeasure (s : State) (b : Nat) : State :=
  let v := rdiv (s.skimQ (2 * b)).1 (2 ^ 62)
  let i := rdiv (s.skimQ (2 * b + 1)).1 (2 ^ 62)
  let s := ((s.seti OUT_BV_V v b).seti OUT_BI_I i b).seti OUT_BP_P (rdiv (v * i) 1000000) b
  let s := s.setBusSt b { s.busSt b with spV := (s.word (OUT_BSP_V_V_REQ.addr b 0)).toNat, spI := (s.word (OUT_BSP_I_I_REQ.addr b 0)).toNat }
  let d := if s.bst b = B_SERVING ∧ s.isStore b = false then min (v * s.iReq b) (v * i + s.curtailed b) else 0
  s.setBusSt b { s.busSt b with demand := d }

/-- What OUT does at the start of step 4 (R318). -/
def State.outMeasure (s : State) : State :=
  if s.en .out then
    let s := s.takePositions
    let s := (buses.filter (fun b => s.busEn b)).reverse.foldl (fun s b => (s.busMeasure b).overvoltage b) s
    let s := { s with out := { s.out with openCur := s.out.openCur.filter (fun b => !s.busQuiet b) } }
    let on := buses.filter (fun b => s.busEn b && s.bst b == B_SERVING)
    let st := on.filter (fun b => s.isStore b)
    let ou := on.filter (fun b => !s.isStore b)
    let pff := (st.map (fun b => s.pSch b)).sum - rdiv (ou.map (fun b => (s.busSt b).demand)).sum 1000000
    let flex := rdiv ((ou.filter (fun b => s.flag OUT_BSTAT_SESSION b)).map (fun b => min (s.flexW b * 1000000) (s.busSt b).demand)).sum 1000000
    let s := s.seti FORM_PFF_PFF (s.powerPu pff)
    let s := s.seti FORM_STORE_DIS_DIS (s.powerPu (st.map (fun b => s.headDis b)).sum)
    let s := s.seti FORM_STORE_CHG_CHG (s.powerPu (st.map (fun b => s.headChg b)).sum)
    s.seti FORM_FLEX_FLEX_AVAIL (s.powerPu flex)
  else s

/-! Step 4: outlet regulation (R313 to R317). -/

/-- cap_b in W, and cap_b / V_b in mA. -/
def State.capW (s : State) (b : Nat) : Int := rdiv ((s.nDab b * s.get MOD_DAB_PMAX * 10 : Nat) * s.busV b) s.vob
def State.capI (s : State) (b : Nat) : Int := rdiv ((s.nDab b * s.get MOD_DAB_PMAX * 10 * 1000000 : Nat) : Int) s.vob

/-- I_C in mA (R320). -/
def State.iCurt (s : State) (b : Nat) : Int :=
  if (s.busSt b).curt = 0 then s.iReq b else max 0 (s.iReq b - rdiv (s.busSt b).curt (s.busV b))

/-- I_set in mA (R315). -/
def State.iSet (s : State) (b : Nat) : Int := min (s.iCurt b) (s.capI b)

/-- A change of mode keeps the slot's output (R315). -/
def State.busMode (s : State) (b m : Nat) : State :=
  let s := { s with law := { s.law with presets := setPresent s.law.presets (7 + b) true } }
  (s.set OUT_BSTAT_MODE m b).setBusSt b { s.busSt b with limitRun := 0 }

/-- The mode of a SERVING outlet bus (R315). Without V_REQ it is the current mode (R314). -/
def State.busModes (s : State) (b : Nat) : State :=
  if s.flag OUT_BSTAT_MODE b then
    if s.vReq b ≠ 0 ∧ s.vReq b ≤ s.busV b then s.busMode b 0 else s
  else if s.vReq b = 0 then s.busMode b 1
  else
    let n := if s.iSet b < s.busI b then (s.busSt b).limitRun + 1 else 0
    if 2 ≤ n then s.busMode b 1 else s.setBusSt b { s.busSt b with limitRun := n }

/-- The discharge power commanded of a STORE bus, W (R317). -/
def State.pCmd (s : State) (b : Nat) : Int :=
  let req := rdiv (s.out.sreq * s.get FORM_BASE_S_S) one
  let head := fun (x : Nat) => if 0 < req then s.headDis x else if req < 0 then s.headChg x else 0
  let total := ((buses.filter (fun x => s.busEn x && s.isStore x && s.bst x == B_SERVING)).map head).sum
  s.pSch b + (if total = 0 then 0 else rdiv (req * head b) total)

/-- The setpoint and the error of the outlet slot of a bus in service. -/
def State.busSetpoint (s : State) (b : Nat) : Int :=
  let st := s.bst b
  if st = B_MATCHING ∨ st = B_CLOSING then s.vPu (s.vMatch b)
  else if st = B_RAMPDOWN then s.iPu (s.busSt b).ramp
  else if s.isStore b then s.iPu (rdiv (-(s.pCmd b) * 1000000) (s.busV b))
  else if s.flag OUT_BSTAT_MODE b then s.iPu (s.iSet b) else s.vPu (s.vReq b)

/-- The clamps of PB[b] (R311, R313). CAP also shows that cap_b / V_b is the current limit in force, as in the worked handover. -/
def State.busClamp (s : State) (b : Nat) : State :=
  let k := 7 + b
  let y := s.geti LAW_SOUT_Y k
  let top := s.powerPu (min (max 0 (s.capW b)) (1000 * s.get OUT_BCFG2_P_MAX b))
  let p := clampInt (if s.isStore b then -top else 0) top y
  let limits := s.bst b == B_SERVING && !s.isStore b && s.flag OUT_BSTAT_MODE b && decide (s.capI b < s.iCurt b)
  let cap := p != y || limits
  let rises := cap && !s.flag OUT_BSTAT_CAP b
  let s := if p = y then s else s.holdAt k p
  ((s.setBusSt b { s.busSt b with pb := p }).setb OUT_BSTAT_CAP cap b).raiseIf rises SRC_OUT_CAP_LIMIT b

/-- Order 7 for one bus: its mode, its slot and its clamps. A bus out of service demands nothing. -/
def State.busRegulate (s : State) (b : Nat) : State :=
  let s := s.seti OUT_BCAP_CAP (s.capW b) b
  if s.busServes b then
    let s := if s.bst b = B_SERVING ∧ s.isStore b = false then s.busModes b else s
    let x := s.busSt b
    let d := rdiv ((s.get OUT_RAMP_I_RAMP : Int) * s.period) 1000
    let s := if s.bst b = B_RAMPDOWN then s.setBusSt b { x with ramp := approach x.ramp 0 d } else s
    let sp := s.busSetpoint b
    let volts := s.bst b == B_MATCHING || s.bst b == B_CLOSING || (s.bst b == B_SERVING && !s.isStore b && !s.flag OUT_BSTAT_MODE b)
    let meas := if volts then s.vPu (s.busV b) else s.iPu (s.busI b)
    (((s.seti LAW_SSP_SP sp (7 + b)).slotRun (7 + b) (q29 (sp - meas))).busClamp b).showCurt b
  else ((s.setBusSt b { s.busSt b with pb := 0 }).set OUT_BSTAT_CAP 0 b).showCurt b

/-- The outlet slots that compute in this cycle. -/
def State.outSlots (s : State) : List Nat := (buses.filter (fun b => s.busServes b)).map (· + 7)

/-- Order 7 for every bus (R279). -/
def State.outRegulate (s : State) : State := if s.en .out then (buses.filter (fun b => s.busEn b)).reverse.foldl (fun s b => s.busRegulate b) s else s

/-! Step 4: bus states (R322). -/

/-- The transitions of one bus that its measurements and its permitted cells cause. A RAMPDOWN that belongs to a SOD in its first two steps ends with them (R466). -/
def State.busWatch (s : State) (b : Nat) : State :=
  let st := s.bst b
  if st = B_MATCHING then
    let near : Bool := decide ((s.busV b - s.vMatch b).natAbs ≤ s.get OUT_MATCH_MATCH_TOL * 100)
    s.setBusSt b { s.busSt b with matchRun := if near then min 1023 ((s.busSt b).matchRun + 1) else 0 }
  else if st = B_SERVING then
    if s.nDab b < s.get OUT_BCFG_MIN_CELLS b then (s.busRampDown b).raise SRC_OUT_CELLS_LOW b else s
  else if st = B_RAMPDOWN ∧ s.sodAt b 1 = false ∧ s.sodAt b 2 = false then (if s.busQuiet b || s.nDab b == 0 then s.busOpen b else s)
  else s

/-- AUTO_ON at the first step 4 of running outside precharge: a bus that is OFF goes to MATCHING; the conditions of R323 are those of the ON command (R322). -/
def State.autoOn (s : State) : State :=
  if s.serves then
    if s.out.live then s
    else
      let s := { s with out := { s.out with live := true } }
      (buses.filter (fun b => s.busEn b && s.flag OUT_BCFG_AUTO_ON b && s.bst b == B_OFF)).reverse.foldl (fun s b => s.busOn b) s
  else { s with out := { s.out with live := false } }

/-- The bus states of a step 4. -/
def State.outWatch (s : State) : State :=
  if s.en .out then (((buses.filter (fun b => s.busEn b)).reverse.foldl (fun s b => s.busWatch b) s).autoOn).outShow else s

/-! The configuration check (R340). -/

/-- The first offending field of OUT's settings. -/
def checkOut (s : State) : Option (Nat × Nat × Nat) :=
  let en := buses.filter (fun b => s.flag OUT_BCFG_EN b)
  let between := fun (lo hi x : Nat) => !(decide (lo ≤ x) && decide (x ≤ hi))
  let bkr := s.flag FORM_BKR_BKR_EN
  let pre := (if s.flag LAW_PRE_FEED_EN then [(s.get LAW_PRE_FEED_CTC, s.get LAW_PRE_FEED_FB)] else []) ++
    (if s.flag LAW_PRE_STORE_EN then [(s.get LAW_PRE_STORE_CTC, s.get LAW_PRE_STORE_FB)] else [])
  let tooMany := (en.filter (fun b => s.isStore b))[4]?
  checks [
    firstSome (fun b => checks [
      bad (s.get OUT_BCFG_MIN_CELLS b == 0) ZERO_LEN b 0x00,
      bad (s.get OUT_BCFG2_V_MAX b == 0 || s.get OUT_BCFG2_P_MAX b == 0) ZERO_LEN b 0x04]) en,
    bad (s.get OUT_CFG_MAX_TRANSIT == 0 || s.get OUT_CFG_SEL_TMO == 0) ZERO_LEN 0x11 0x00,
    bad (s.get OUT_MATCH_MATCH_HOLD == 0 || s.get OUT_MATCH_MATCH_TMO == 0) ZERO_LEN 0x11 0x04,
    bad (s.get OUT_CTC_CTC_MS == 0 || s.get OUT_CTC_OPEN_TMO == 0) ZERO_LEN 0x11 0x08,
    bad (s.get OUT_RAMP_I_RAMP == 0 || s.get OUT_RAMP_I_OPEN == 0) ZERO_LEN 0x11 0x0C,
    firstSome (fun b => checks [
      bad (decide (192 < s.get OUT_BCFG_MIN_CELLS b) || decide (39 < s.get OUT_BCFG_CTC b) || decide (39 < s.get OUT_BCFG_FB b)) RANGE b 0x00,
      bad (s.get OUT_BCFG2_V_MAX b != 0 && between 1500 12500 (s.get OUT_BCFG2_V_MAX b)) RANGE b 0x04]) buses,
    bad (decide (192 < s.get OUT_CFG_MAX_TRANSIT) || decide (100 < s.get OUT_CFG_CAP_MARGIN)) RANGE 0x11 0x00,
    bad (between 1 1000 (s.get OUT_MATCH_MATCH_TOL)) RANGE 0x11 0x04,
    firstSome (fun b => checks [
      bad (tooMany == some b) DISAGREE b 0x00,
      bad (en.any (fun q => decide (q < b) && (s.get OUT_BCFG_CTC q == s.get OUT_BCFG_CTC b || s.get OUT_BCFG_FB q == s.get OUT_BCFG_FB b))) DISAGREE b 0x00,
      bad (bkr && (s.get OUT_BCFG_CTC b == s.get FORM_BKR_CLOSE_CTC || s.get OUT_BCFG_CTC b == s.get FORM_BKR_TRIP_CTC || s.get OUT_BCFG_FB b == s.get FORM_BKR_FB)) DISAGREE b 0x00,
      bad (pre.any (fun p => p.1 == s.get OUT_BCFG_CTC b || p.2 == s.get OUT_BCFG_FB b)) DISAGREE b 0x00,
      bad (decide (s.enSlots.length < s.get OUT_BCFG_MIN_CELLS b)) DISAGREE b 0x00,
      bad (s.get CAL_UCFG_F_UNIT (2 * b) != 0 || s.get CAL_UCFG_F_UNIT (2 * b + 1) != 1) DISAGREE b 0x00,
      bad (decide (s.get OUT_BCFG2_V_MAX b < s.get OUT_BSP_V_V_REQ b) || decide (s.get OUT_BCFG2_V_MAX b < s.get OUT_BSP_V_V_MATCH b)) DISAGREE b 0x0C]) en]

/-- What the enable of OUT does: every bus is OFF, its counters reset, no move is in progress and no position is known (R322, R327, R336). -/
def enterOut (s : State) : State :=
  let s := buses.foldl (fun s b =>
    let s := (s.set OUT_BSTAT_STATE B_OFF b).set OUT_BSTAT_MODE 0 b
    let s := ((s.set OUT_BSTAT_CURT 0 b).set OUT_BSTAT_CAP 0 b).putWord (OUT_BCNT_MOVES_IN.addr b 0) 0#32
    (s.set OUT_BCURT_C 0 b).setBusSt b ⟨0, 0, 0, 0, false, false, 0, 0, 0, 0, 0⟩) s
  let s := (List.range 24).foldl (fun s m => (s.putWord (OUT_ALLOC_POS_POS.addr 0 m) 0xFFFFFFFF#32).putWord (OUT_ALLOC_STEP_STEP.addr 0 m) 0#32) s
  ({ s with out := { s.out with moves := List.replicate 192 ⟨0, 0, 0, false, false⟩, late := [], frac := 0, sreq := 0, live := false, openCur := [], ran := false } } : State).set OUT_STAT_DEFER_CNT 0 |>.outShow

/-- What the disable of OUT does: no bus is in service and no bus coil is commanded. -/
def leaveOut (s : State) : State :=
  (buses.filter (fun b => s.flag OUT_BCFG_EN b)).foldl (fun s b => (s.busCoil b false).busTo b B_OFF) s

end Sys2Proof.Machine
end

