-- ==== Sys2Proof/Machine/Mod.lean ====
section
/-! DEFINITION. MOD: the sets of step 5 (R248 to R269) and the edge checks that every set passes (R187 to R192). -/

namespace Sys2Proof.Machine

/-! Records (R259). -/

def State.modSlot (s : State) (i : Nat) : ModSlot := s.mod.slots.getD i ⟨false, false, 0, [], ⟨[], []⟩, false, 0, 0, 0, none⟩
def State.setModSlot (s : State) (i : Nat) (m : ModSlot) : State := { s with mod := { s.mod with slots := s.mod.slots.set i m } }
def State.modCar (s : State) (j g : Nat) : ModCar := s.mod.cars.getD (16 * j + g) ⟨0, 0, 0⟩
def State.setModCar (s : State) (j g : Nat) (c : ModCar) : State := { s with mod := { s.mod with cars := s.mod.cars.set (16 * j + g) c } }

/-- Leg levels, and the leg of the last entry into ±1. -/
structure Legs where
  la : Bool
  lb : Bool
  entry : Nat
  deriving DecidableEq, Repr

/-- The output level LA − LB (R258). -/
def Legs.u (l : Legs) : Int := (b2n l.la : Int) - b2n l.lb

/-- Toggle a leg; a toggle that leaves zero is an entry on that leg. -/
def Legs.toggle (l : Legs) (legA : Bool) : Legs :=
  let e := if l.u = 0 then (if legA then 1 else 2) else l.entry
  if legA then ⟨!l.la, l.lb, e⟩ else ⟨l.la, !l.lb, e⟩

/-- Apply the edges of a set in time order, `n` of them at most. -/
def runEdges : Nat → List Nat → List Nat → Legs → Legs
  | 0, _, _, l => l
  | n + 1, a :: as, b :: bs, l => if a ≤ b then runEdges n as (b :: bs) (l.toggle true) else runEdges n (a :: as) bs (l.toggle false)
  | n + 1, _ :: as, [], l => runEdges n as [] (l.toggle true)
  | n + 1, [], _ :: bs, l => runEdges n [] bs (l.toggle false)
  | _ + 1, [], [], l => l

/-- Levels after a set, or after its repetition as toggles (R195). -/
def Legs.run (l : Legs) (x : LegSet) : Legs := runEdges 4 x.ea x.eb l

/-- Time that a leg is high in an interval of `per` ns. -/
def highTime (init : Bool) (per : Nat) : List Nat → Int
  | [] => if init then per else 0
  | [a] => if init then a else (per : Int) - a
  | a :: b :: _ => if init then (per : Int) - b + a else (b : Int) - a

/-- The integral of u over an interval, in ns. -/
def Legs.area (l : Legs) (per : Nat) (x : LegSet) : Int := highTime l.la per x.ea - highTime l.lb per x.eb

/-- Whether a leg is high at `t2` half nanoseconds. -/
def highAt (init : Bool) (es : List Nat) (t2 : Nat) : Bool := init != ((es.filter (fun e => decide (2 * e < t2))).length % 2 == 1)

/-- Levels at the start of the interval being formed: the confirmed levels and every set formed since. -/
def ModSlot.levels (m : ModSlot) : Legs := m.pend.foldl Legs.run ⟨m.la, m.lb, m.entry⟩

/-- The set last formed, taken to be applied. -/
def ModSlot.lastSet (m : ModSlot) : LegSet := m.pend.getLast?.getD m.last

/-- Settle a slot's record from its delivered report: of the sets formed since the last report, the last `coast` were replaced by repetitions of the set before (R195, R259). Answers the record and the volt-second correction in ns (R260). -/
def ModSlot.settle (m : ModSlot) (coast per : Nat) : ModSlot × Int :=
  let k := min coast m.pend.length
  let good := m.pend.take (m.pend.length - k)
  let lost := m.pend.drop (m.pend.length - k)
  let l0 := good.foldl Legs.run ⟨m.la, m.lb, m.entry⟩
  let last := good.getLast?.getD m.last
  let r := lost.foldl (fun (a : Legs × Legs × Int) f => (a.1.run last, a.2.1.run f, a.2.2 + a.2.1.area per f - a.1.area per last)) (l0, l0, (0 : Int))
  ({ m with la := r.1.la, lb := r.1.lb, entry := r.1.entry, pend := [], last := last }, r.2.2)

/-! Orders (R253, R254). -/

/-- The insertion order of a string. -/
def State.order (s : State) (j : Nat) : List Nat :=
  ((List.range 192).map (fun r => s.getPk MOD_ORDER_SLOT 4 8 r j)).takeWhile (fun x => decide (x < 192))

/-- Write an order: four slots in a word, 0xFF where no slot stands. -/
def State.setOrder (s : State) (j : Nat) (o : List Nat) : State :=
  (List.range 48).foldl (fun s m =>
    let at' := fun (k : Nat) => o.getD (4 * m + k) 0xFF
    s.putWord (MOD_ORDER_SLOT.addr j m) (BitVec.ofNat 32 (at' 0 + 256 * at' 1 + 65536 * at' 2 + 16777216 * at' 3))) s

/-- Remove a slot: the slot at the highest rank takes its rank. -/
def dropRank (o : List Nat) (i : Nat) : List Nat :=
  match o.getLast? with
  | none => o
  | some z => (o.dropLast).map (fun x => if x = i then z else x)

/-- The order after departures, in descending rank, and arrivals, in ascending slot order (R254, R267). -/
def newOrder (old elig : List Nat) : List Nat :=
  let gone := (old.filter (fun i => !elig.contains i)).reverse
  let kept := gone.foldl dropRank old
  kept ++ elig.filter (fun i => !kept.contains i)

/-- Exchange two slots. -/
def swapSlots (o : List Nat) (a b : Nat) : List Nat := o.map (fun x => if x = a then b else if x = b then a else x)

/-- Rank of a slot. -/
def rankOf (o : List Nat) (i : Nat) : Nat := (o.findIdx? (· == i)).getD o.length

/-- Insert into a list kept by descending key, later equals after. -/
def insDesc (k : Nat) (a : Nat) : List (Nat × Nat) → List (Nat × Nat)
  | [] => [(k, a)]
  | h :: t => if h.1 < k then (k, a) :: h :: t else h :: insDesc k a t

/-- The exchanges of the band law (R261): candidates in turn, the order, the slots moved and the moves left. -/
def exchangeGo (err : Nat → Int) (inBand : Nat → Bool) (discharge : Bool) : List Nat → List Nat → List Nat → Nat → List Nat
  | [], o, _, _ => o
  | _, o, _, 0 => o
  | a :: cs, o, moved, n + 1 =>
    if moved.contains a then exchangeGo err inBand discharge cs o moved (n + 1)
    else
      let up := decide (0 < err a) == discharge
      let free := o.filter (fun i => inBand i && !moved.contains i)
      match (if up then free.head? else free.getLast?) with
      | none => exchangeGo err inBand discharge cs o moved (n + 1)
      | some b =>
        if (if up then decide (rankOf o b < rankOf o a) else decide (rankOf o a < rankOf o b)) then
          exchangeGo err inBand discharge cs (swapSlots o a b) (a :: b :: moved) n
        else exchangeGo err inBand discharge cs o moved (n + 1)

/-! Voltages, in mV × 2^29. -/

/-- VDC of a slot. -/
def State.vdcMv (s : State) (i : Nat) : Int := s.useVdc i * (s.get FORM_BASE_CELL_CELL_VDC * 100 : Nat)

/-- v_j at `t2` half nanoseconds after the apply point, in 2^-29 of V_PK (R222). -/
def State.vAt (s : State) (j t2 : Nat) : Int :=
  let th := angle ((s.get FORM_THETA_A_THETA_A : Int) + rdiv (s.geti FORM_DTHETA_DTHETA * t2) (2 ^ 17) - rdiv ((j : Int) * 2 ^ 32) 3)
  qmul (s.geti FORM_VD_VD_REF) (cosT th) - qmul (s.geti FORM_VQ_VQ_REF) (sinT th)

/-- v_j + z of every string at one instant (R251). -/
def State.demands (s : State) (t2 : Nat) : List Int :=
  let vs := (List.range s.phases).map (fun j => s.vAt j t2)
  if s.flag MOD_CFG_ZS_EN ∧ s.flag FORM_CFG_TOPO = false then
    let z := -(rdiv (vs.foldl max (vs.headD 0) + vs.foldl min (vs.headD 0)) 2)
    vs.map (· + z)
  else vs

/-- The instants at which MOD evaluates the demand, in half nanoseconds: between each pair of ns, and the end. A level that differs across r − ½ and r + ½ has an edge at r ns. -/
def points (per : Nat) : List Nat := (List.range per).map (fun r => 2 * r + 1) ++ [2 * per]

/-! Cells under construction. -/

/-- The set of one cell while its interval is solved. -/
structure CellB where
  slot : Nat
  now : Legs
  ea : List Nat
  eb : List Nat
  /-- last entry of this interval with the entry leg before it -/
  inAt : Option (Nat × Nat)
  /-- last exit of this interval and the polarity left -/
  outAt : Option (Nat × Int)
  trunc : Nat
  drop : Nat
  deriving DecidableEq, Repr

/-- Toggle a leg at `t`; none when it would be the leg's third edge (R257). -/
def CellB.edge (c : CellB) (legA : Bool) (t : Nat) : Option CellB :=
  if legA then (if 2 ≤ c.ea.length then none else some { c with ea := c.ea ++ [t], now := c.now.toggle true })
  else if 2 ≤ c.eb.length then none else some { c with eb := c.eb ++ [t], now := c.now.toggle false }

/-- The leg that makes an entry of a polarity from the present zero state (R258). -/
def CellB.entryLeg (c : CellB) (up : Bool) : Bool := up != c.now.la

/-- The leg that makes the exit. -/
def CellB.exitLeg (c : CellB) : Bool :=
  if c.now.entry = 1 then false else if c.now.entry = 2 then true else decide (0 < c.now.u)

/-- Enter ±1 at `t`. -/
def CellB.enter (c : CellB) (t : Nat) (up : Bool) : CellB :=
  match c.edge (c.entryLeg up) t with
  | some x => { x with inAt := some (t, c.now.entry) }
  | none => { c with trunc := c.trunc + 1 }

/-- Exit to zero at `t`. An entry and its exit less than MINP apart are both omitted (R257). -/
def CellB.exit (c : CellB) (minp t : Nat) : CellB :=
  match c.inAt with
  | some (te, was) =>
    if t < te + minp then
      let legA := c.now.entry == 1
      let back := c.now.toggle legA
      { c with ea := if legA then c.ea.dropLast else c.ea, eb := if legA then c.eb else c.eb.dropLast,
               now := { back with entry := was }, inAt := none, drop := c.drop + 1 }
    else match c.edge c.exitLeg t with
      | some x => { x with inAt := none, outAt := some (t, c.now.u) }
      | none => { c with trunc := c.trunc + 1 }
  | none =>
    match c.edge c.exitLeg t with
    | some x => { x with outAt := some (t, c.now.u) }
    | none => { c with trunc := c.trunc + 1 }

/-- Enter from zero no sooner than MINP after an exit from the other polarity (R258). -/
def CellB.goTo (c : CellB) (minp per t : Nat) (u : Int) : CellB :=
  let te := match c.outAt with | some (t0, v) => if v ≠ u then max t (t0 + minp) else t | none => t
  if te < per then c.enter te (decide (0 < u)) else c

/-- Bring a cell to a level at `t`. -/
def CellB.want (c : CellB) (minp per t : Nat) (u : Int) : CellB :=
  let v := c.now.u
  if u = v then c
  else if v = 0 then c.goTo minp per t u
  else
    let x := c.exit minp t
    if u = 0 ∨ x.now.u ≠ 0 then x else x.goTo minp per t u

/-! Groups (R253 to R256). Level counts are in 2^-32 levels. -/

/-- tri of R255 at `t2` half nanoseconds, as a fraction of `6 per G`. -/
def triAt (per G g shift t2 : Nat) : Nat :=
  let d := 6 * per * G
  let r := (3 * G * t2 + 2 * per * (3 * g + shift)) % d
  2 * min r (d - r)

/-- What a group wants of its cells: a polarity, the count fully inserted, a cell in a pulse and a cell in a gap. -/
structure Want where
  sg : Int
  m : Nat
  pulse : Option Nat
  gap : Option Nat
  deriving DecidableEq, Repr

/-- A group while its interval is solved. -/
structure GroupB where
  cells : List CellB
  car : ModCar
  want : Option Want
  deferred : Bool

/-- Bring the cells of a group to what it wants at `t`. -/
def GroupB.apply (b : GroupB) (minp per t : Nat) (w : Want) : GroupB :=
  if b.want = some w then b
  else
    let cs := (b.cells.zip (List.range b.cells.length)).map (fun (p : CellB × Nat) =>
      let inside := (decide (p.2 < w.m) && w.gap != some p.1.slot) || w.pulse == some p.1.slot
      p.1.want minp per t (if inside then w.sg else 0))
    { b with cells := cs, want := some w }

/-- One instant of a group: `a` is its demand a_g, `sg` the sign, `c` of `d` the carrier's value, `t` the ns of the edge. A governed cell that meets the carrier in this half nanosecond keeps its level to the next, so that its exit is rounded up as its entry is (R255). Once a start has been deferred the interval makes no further one (R257). -/
def GroupB.step (carrier ton toff minp per : Nat) (b : GroupB) (t : Nat) (a sg c d : Int) : GroupB :=
  let fl := (a / 2 ^ 32).toNat
  let fr := a % 2 ^ 32
  if carrier = 0 then
    let meets : Bool := decide (c * 2 ^ 32 = fr * d) && (match b.want with | some w => w.sg == sg && w.m == fl + 1 | none => false)
    b.apply minp per t ⟨sg, fl + (if c * 2 ^ 32 < fr * d || meets then 1 else 0), none, none⟩
  else if per ≤ t then b
  else
    let onTime : Bool := carrier == 1
    let due := b.car.left == 0 && (if onTime then decide ((ton : Int) * 2 ^ 31 ≤ b.car.x) else decide (b.car.x ≤ -((toff : Int) * 2 ^ 31)))
    let room := match b.cells[fl]? with
      | none => false
      | some x =>
        let leg := if onTime then x.entryLeg (decide (0 < sg)) else x.exitLeg
        if (if onTime then x.now.u == sg else x.now.u == 0) then true else decide ((if leg then x.ea.length else x.eb.length) < 2)
    let starts := due && room && !b.deferred
    let b := if due && !room then { b with deferred := true } else b
    let car := if starts then { b.car with left := if onTime then ton else toff, cell := ((b.cells[fl]?).map (fun x => x.slot)).getD 0xFF } else b.car
    let active := decide (0 < car.left)
    let p : Int := if onTime == active then 2 ^ 32 else 0
    let w : Want := if onTime then ⟨sg, fl, if active then some car.cell else none, none⟩
      else ⟨sg, fl + (if 0 < fr then 1 else 0), none, if active then some car.cell else none⟩
    { b with car := { car with x := car.x + fr - p, left := car.left - 1 } }.apply minp per t w

/-! The edge checks (R189 to R191). -/

/-- One leg of a set through the edge checks: its edges, the count of intervals held, and how many were clamped, omitted and refreshed. -/
def legCheck (minp per hold refresh : Nat) (bst uv init : Bool) (held : Nat) (es : List Nat) : List Nat × Nat × Nat × Nat × Nat :=
  let guard := (minp + 1) / 2
  let cl := es.map (fun t => max guard (min (per - guard) t))
  let nc := (es.zip cl).filter (fun p => p.1 != p.2) |>.length
  let short := match cl with | [a, b] => decide (b - a < minp) | _ => false
  let cl := if short then [] else cl
  let nd := b2n short
  if bst && init && cl.isEmpty then
    if held = hold ∨ uv = true then ([guard, guard + refresh], 0, nc, nd, 1) else (cl, held + 1, nc, nd, 0)
  else (cl, 0, nc, nd, 0)

/-- A waggle frame's body (R139). -/
def setFrame (l : Legs) (x : LegSet) (phi : Int) (dab : Bool) (pos : Nat) (go : Bool) (cyc : Nat) : List Byte :=
  let t := fun (es : List Nat) (k : Nat) => leBytes 2 (es.getD k 0)
  let b12 := b2n l.la + 2 * b2n l.lb + 4 * x.ea.length + 16 * x.eb.length + 64 * b2n dab
  [0x1C#8, 0#8] ++ t x.ea 0 ++ t x.ea 1 ++ t x.eb 0 ++ t x.eb 1 ++ leBytes 2 (unsigned 16 phi) ++ leBytes 1 b12 ++ leBytes 1 (pos + 16 * b2n go) ++ leBytes 4 cyc

/-- Record a set of a slot and put its frame into the waggle store. Its selector fields are OUT's (R263); a move asked while the preceding set had DAB_EN = 1 waits a set. -/
def State.putSet (s : State) (i : Nat) (x : LegSet) (phi : Int) (dab : Bool) : State :=
  let m := s.modSlot i
  let l := m.levels
  let ask := s.selGo i
  let held := ask && m.dab
  let dab := dab && !ask
  let f := setFrame l x (if dab then phi else 0) dab (s.selPos i) (ask && !held) (s.get SYS_CYC_NUM_CYC)
  let p := s.get CELL_SCFG_POS i
  let endB := (s.serveEnd (s.get CELL_SCFG_RING i) p).getD false
  let s := s.store (waggleAddr i) (waggleFrame f p endB false)
  let s := { s with hive := { s.hive with frames := s.hive.frames ++ [i] } }
  let s := s.setModSlot i { m with pend := m.pend ++ [x], dab := dab }
  if held then ((s.inc MOD_SCNT2_HELD (s.get CELL_SCFG_STRING i)).raise SRC_MOD_SEL_HELD (s.get CELL_SCFG_STRING i)) else s

/-- Pass a set through the edge checks, count what they did, and put it into the store. -/
def State.sendSet (s : State) (i : Nat) (ea eb : List Nat) (phi : Int) (dab : Bool) : State :=
  let m := s.modSlot i
  let l := m.levels
  let minp := s.get CELL_PULSE_MINP
  let hold := s.get CELL_BST_BST_HOLD
  let refr := s.get CELL_BST_BST_REFRESH
  let bst := bitOf (s.get CELL_SVER_VER i) 16
  let uv := bitOf (s.get CELL_SFLT_FLT i) 6
  let a := legCheck minp s.period hold refr bst uv l.la m.heldA ea
  let b := legCheck minp s.period hold refr bst uv l.lb m.heldB eb
  let s := s.setModSlot i { m with heldA := a.2.1, heldB := b.2.1 }
  let s := s.addSat CELL_SCNT_CLAMPED (a.2.2.1 + b.2.2.1) i
  let s := s.addSat CELL_SCNT_DROPPED (a.2.2.2.1 + b.2.2.2.1) i
  let s := s.addSat CELL_SCNT2_REFRESH (a.2.2.2.2 + b.2.2.2.2) i
  s.putSet i ⟨a.1, b.1⟩ phi dab

/-! DAB (R262). -/

/-- e_i: the slot's VDC above its string's mean, per unit of CELL_VDC. -/
def State.cellErr (s : State) (vbar : List Int) (i : Nat) : Int := s.useVdc i - vbar.getD (s.get CELL_SCFG_STRING i) 0

/-- k_i of the share. -/
def State.trimOf (s : State) (vbar : List Int) (i : Nat) : Int :=
  let lim := rdiv ((s.get MOD_DAB2_TRIM_LIM : Int) * one) 1000
  clampInt (-lim) lim (rdiv ((s.get MOD_DAB2_TRIM : Int) * s.cellErr vbar i) 10)

/-- The phase shift of a slot that gates its DAB on bus `b`, and whether a limit acted. -/
def State.dabPhi (s : State) (vbar : List Int) (i b : Nat) : Int × Bool :=
  let hs := s.holders b
  let n : Int := hs.length
  let km := rdiv (hs.map (fun q => s.trimOf vbar q)).sum n
  let p := rdiv ((s.busSt b).pb * s.get FORM_BASE_S_S * (one + s.trimOf vbar i - km)) (n * one)
  let kv := max (rdiv one 20) (qmul (s.useVdc i) (s.useVout i))
  let pp := rdiv ((p.natAbs : Int) * one) ((s.get MOD_DAB_PMAX * 10 : Nat) * kv)
  let x := roundDiv (one - rsqrt ((one - min pp one) * one)) 32768
  let top : Int := s.get MOD_DAB_PHI_MAX
  let phi := if p < 0 then -(min x top) else min x top
  (phi, decide (one < pp) || decide (top < x))

/-! Fixed contributions (R264, R265). -/

/-- Follow a slot's departure from service, a report of a timed-out slot that shows it blocked, and the end of its contribution. -/
def State.trackFix (s : State) (i : Nat) : State :=
  let m := s.modSlot i
  let st := s.slotState i
  let out : Bool := st == 6 || st == 7
  let above := s.flag CELL_SSTAT_BYP_CONF i ||
    !(s.cell.left.any (fun p => p.1 == i && decide (s.now < p.2 + s.get CELL_COAST_BYP_TIME * 1000)))
  let left := out && !s.cell.byp.contains i && decide (3 ≤ m.was) && decide (m.was ≤ 5)
  let shown : Bool := s.took i && (s.get CELL_SSTAT_FE_STATE i == 6 || s.get CELL_SSTAT_FE_STATE i == 7)
  let fix := if !out || above then none
    else if shown && m.fix.isSome then some 0
    else if left then some (if s.get CELL_SSTAT_EXIT_CAUSE i = 3 ∧ (m.was = 4 ∨ m.was = 5) then s.get CELL_COAST_COAST_MAX else 0)
    else m.fix
  s.setModSlot i { m with fix := fix, was := if s.cell.byp.contains i then m.was else st }

/-- The contribution of a slot at `t2` half nanoseconds, mV × 2^29. -/
def State.fixAt (s : State) (ij : Int) (i t2 : Nat) : Int :=
  let m := s.modSlot i
  match m.fix with
  | none => 0
  | some 0 => if 0 < ij then -(s.vdcMv i) else if ij < 0 then s.vdcMv i else 0
  | some _ =>
    let l := m.levels
    s.vdcMv i * ((b2n (highAt l.la m.lastSet.ea t2) : Int) - b2n (highAt l.lb m.lastSet.eb t2))

/-- A coasted interval has been counted. -/
def State.stepFix (s : State) (i : Nat) : State :=
  let m := s.modSlot i
  match m.fix with
  | some (n + 1) => s.setModSlot i { m with fix := some n, pend := m.pend ++ [m.lastSet] }
  | _ => s

/-! One string at step 5. -/

/-- The slots with sets in a string and the record each starts from: a slot that joins, or reports READY, starts at Z0 (R249, R267); others are settled by their report. Answers the volt-second correction in mV × 2^29 × ns. -/
def State.settleSlot (s : State) (joined : Bool) (i : Nat) : State × Int :=
  let m := s.modSlot i
  let got := s.took i
  if joined ∨ (got = true ∧ s.slotState i = 3) then
    if s.slotState i = 4 ∨ s.slotState i = 5 then (s, 0)
    else (s.setModSlot i { m with la := false, lb := false, entry := 0, pend := [], last := ⟨[], []⟩, dab := false, heldA := 0, heldB := 0 }, 0)
  else if got then
    let r := m.settle (if s.slotState i = 5 then s.get CELL_SSTAT_COAST_CNT i else 0) s.period
    (s.setModSlot i r.1, r.2 * s.vdcMv i)
  else (s, 0)

/-- The direction of a string: 1 discharging, −1 charging, 0 none (R261). -/
def State.direction (s : State) (j : Nat) : Int :=
  let v := s.vAt j s.period
  let i := s.phaseValue ICONV j
  if v * i = 0 then 0 else if 0 < v * i then 1 else -1

/-- The exchanges of a string on its order; answers the order and how many were made. -/
def State.balance (s : State) (j : Nat) (vbar : List Int) (o : List Nat) : List Nat × Nat :=
  let d := s.direction j
  let err := s.cellErr vbar
  let band := (s.get MOD_SCFG_BAND j : Int) * one
  let inBand := fun (i : Nat) => decide ((err i).natAbs * 1000 ≤ band)
  let cand := ((slots.filter (fun i => o.contains i && !inBand i)).foldl (fun l i => insDesc (err i).natAbs i l) []).map (fun p => p.2)
  if d = 0 then (o, 0)
  else
    let o' := exchangeGo err inBand (decide (0 < d)) cand o [] (s.get MOD_SCFG_MAXMOVE j)
    (o', ((o.zip o').filter (fun p => p.1 != p.2)).length / 2)

/-- The cells of group `g` of an order. -/
def groupOf (o : List Nat) (G g : Nat) : List Nat := ((o.zip (List.range o.length)).filter (fun p => p.2 % G == g)).map (fun p => p.1)

/-- Solve one group over the interval; `ns` gives n_j at the points. -/
def State.solveGroup (s : State) (j g N : Nat) (mem : List Nat) (ns : List (Nat × Nat × Int)) : GroupB :=
  let G := s.get MOD_SCFG_NGRP j
  let per := s.period
  let carrier := s.get MOD_SCFG_CARRIER j
  let shift := if s.flag MOD_CFG_SPREAD then j else 0
  let cells := mem.map (fun i => (⟨i, (s.modSlot i).levels, [], [], none, none, 0, 0⟩ : CellB))
  ns.foldl (fun b (p : Nat × Nat × Int) =>
      let a := rdiv ((p.2.2.natAbs : Int) * mem.length) N
      let sg : Int := if 0 < p.2.2 then 1 else if p.2.2 < 0 then -1 else 0
      b.step carrier (s.get MOD_STIME_TON j) (s.get MOD_STIME_TOFF j) (s.get CELL_PULSE_MINP) per p.1 a sg (triAt per G g shift p.2.1) (6 * per * G : Nat))
    (⟨cells, s.modCar j g, none, false⟩ : GroupB)

/-- Step 5 for one string, from its demand at the points. -/
def State.modString (s : State) (j : Nat) (vbar : List Int) (corr : Int) (pts : List (Nat × Nat × Int)) : State :=
  let o := s.order j
  let N := o.length
  let G := s.get MOD_SCFG_NGRP j
  let per := s.period
  let ij := s.phaseValue ICONV j
  let mine := slots.filter (fun i => s.flag CELL_SCFG_SLOT_EN i && s.get CELL_SCFG_STRING i == j)
  let fixd := mine.filter (fun i => (s.modSlot i).fix.isSome)
  let s := (s.set MOD_SSTAT_NELIG N j).set MOD_SSTAT_NFIXED fixd.length j
  let closing := mine.filter (fun i => s.cell.byp.contains i)
  let vb := vbar.getD j 0 * (s.get FORM_BASE_CELL_CELL_VDC * 100 : Nat)
  let rho := s.geti MOD_SRES_RHO j
  let need := pts.map (fun (p : Nat × Nat × Int) => (p.1, p.2.1, s.vpk * p.2.2 - (fixd.map (fun i => s.fixAt ij i p.2.1)).sum))
  if N = 0 then fixd.foldl (fun s i => s.stepFix i) s
  else
    let top : Int := (N : Int) * 2 ^ 32
    let raw := need.map (fun (p : Nat × Nat × Int) => (p.1, p.2.1, rdiv (p.2.2 * 2 ^ 32) vb + rho * 65536))
    let sat := raw.any (fun (p : Nat × Nat × Int) => decide (top < p.2.2.natAbs))
    let ns := raw.map (fun (p : Nat × Nat × Int) => (p.1, p.2.1, clampInt (-top) top p.2.2))
    let gs := (List.range G).map (fun g => s.solveGroup j g N (groupOf o G g) ns)
    let s := (gs.zip (List.range G)).foldl (fun s (p : GroupB × Nat) => s.setModCar j p.2 p.1.car) s
    let cells := gs.flatMap (fun b => b.cells)
    let nt := (cells.map (fun c => c.trunc)).sum + (gs.filter (fun b => b.deferred)).length
    let s := (s.addSat MOD_SCNT2_TRUNC nt j).raiseIf (decide (0 < nt)) SRC_MOD_TRUNCATED j
    let s := o.foldl (fun s i =>
      match cells.find? (fun c => c.slot == i) with
      | none => s
      | some c =>
        let s := s.addSat CELL_SCNT_DROPPED c.drop i
        let b := s.allocPos i - 1
        let gates := s.holds i b && s.get CELL_SSTAT_SEL_FB i == b + 1
        let d := if gates then s.dabPhi vbar i b else (0, false)
        let s := if d.2 then (s.inc MOD_STAT_DAB_SAT_CNT).raise SRC_MOD_DAB_SAT j else s
        s.sendSet i c.ea c.eb d.1 gates) s
    let sent := o ++ closing
    let out := (sent.map (fun i =>
      let m := s.modSlot i
      let l := ({ m with pend := m.pend.dropLast } : ModSlot).levels
      s.vdcMv i * l.area per (m.pend.getLast?.getD ⟨[], []⟩))).sum
    let asked := ((need.filter (fun (p : Nat × Nat × Int) => decide (p.1 < per))).map (fun (p : Nat × Nat × Int) => p.2.2)).sum
    let e := asked - out + corr
    let lim := rdiv ((s.get MOD_CFG_RES_MAX : Int) * 65536) 10
    let r := rho + rdiv (e * 65536) (vb * per)
    let s := s.setb MOD_SSTAT_SAT sat j
    let s := if sat then ((s.seti MOD_SRES_RHO 0 j).inc MOD_SCNT_SAT_CNT j).raise SRC_MOD_SATURATION j
      else (s.seti MOD_SRES_RHO (clampInt (-lim) lim r) j).raiseIf (decide (lim < r.natAbs)) SRC_MOD_RES_CLAMP j
    fixd.foldl (fun s i => s.stepFix i) s

/-- Settle the record of a slot under host BYPASS by its report; answers the volt-second correction in mV × 2^29 × ns (R260). -/
def State.settleClosing (s : State) (i : Nat) : State × Int :=
  if s.took i ∧ (s.modSlot i).pend ≠ [] then
    let r := (s.modSlot i).settle (if s.get CELL_SSTAT_FE_STATE i = 5 then s.get CELL_SSTAT_COAST_CNT i else 0) s.period
    (s.setModSlot i r.1, r.2 * s.vdcMv i)
  else (s, 0)

/-- The closing set of a slot under host BYPASS, and its zero sets afterwards; with the closing set CELL sends FE BYPASS for the next apply point (R185, R266). -/
def State.closeSet (s : State) (i : Nat) : State :=
  let c : CellB := ⟨i, (s.modSlot i).levels, [], [], none, none, 0, 0⟩
  let g := (s.get CELL_PULSE_MINP + 1) / 2
  let x := if c.now.u = 0 then c else c.exit 0 g
  let first := s.cell.closing.contains i
  let s := if first ∨ c.now.u ≠ 0 then s.sendSet i x.ea x.eb 0 false else s.putSet i ⟨[], []⟩ 0 false
  if first then
    let s := { s with cell := { s.cell with closing := s.cell.closing.filter (· != i) } }
    s.feCommand i 4 (s.samp + s.applyAt)
  else s

/-- The strings' starts on entry to a running state: the orders, the residuals and the carriers (R254, R256, R260). -/
def State.modStart (s : State) : State :=
  let s := strings.foldl (fun s j =>
    let G := s.get MOD_SCFG_NGRP j
    let w : Int := if s.get MOD_SCFG_CARRIER j = 2 then s.get MOD_STIME_TOFF j else s.get MOD_STIME_TON j
    let s := (s.setOrder j []).seti MOD_SRES_RHO 0 j
    (List.range 16).foldl (fun s g => s.setModCar j g ⟨rdiv ((2 * (g : Int) - G) * w * 2 ^ 31) G, 0, 0⟩) s) s
  { s with form := { s.form with entered := false } }

/-- MOD at step 5 (R248, R249). Strings are taken from the highest down, so that EVT_LAST shows the lowest of those that raise one source at once (R102). -/
def State.modulate (s : State) : State :=
  let s := if s.form.entered then s.modStart else s
  let js := List.range s.phases
  let s := slots.foldl (fun s i => if s.flag CELL_SCFG_SLOT_EN i then s.trackFix i else s) s
  if s.precharging then s
  else
    let elig := fun (j : Nat) => s.enSlots.filter (fun i => s.get CELL_SCFG_STRING i == j && s.eligible i)
    let news := js.map (fun j => (j, s.order j, newOrder (s.order j) (elig j)))
    let r := news.foldl (fun (a : State × List Int) (p : Nat × List Nat × List Nat) =>
        let b := p.2.2.foldl (fun (b : State × Int) i => let q := b.1.settleSlot (!p.2.1.contains i) i; (q.1, b.2 + q.2)) (a.1, (0 : Int))
        (b.1, a.2 ++ [b.2])) (s, ([] : List Int))
    let s := r.1
    let vbar := news.map (fun (p : Nat × List Nat × List Nat) => (mean (p.2.2.map (fun i => s.useVdc i))).getD 0)
    let s := news.foldl (fun s (p : Nat × List Nat × List Nat) =>
        let j := p.1
        let d := s.direction j
        let x := s.balance j vbar p.2.2
        let s := ((s.setOrder j x.1).addSat MOD_SCNT_MOVES x.2 j).setb MOD_SSTAT_DIR_VALID (d != 0) j
        let s := s.setb MOD_SSTAT_DIR (decide (d < 0)) j
        if p.2.2.isEmpty ∧ p.2.1.isEmpty = false then
          (List.range 16).foldl (fun s g => s.setModCar j g ⟨0, 0, 0⟩) (s.seti MOD_SRES_RHO 0 j)
        else s) s
    let q := (s.enSlots.filter (fun i => s.cell.byp.contains i)).foldl (fun (a : State × List (Nat × Int)) i =>
        let b := a.1.settleClosing i
        (b.1.closeSet i, a.2 ++ [(s.get CELL_SCFG_STRING i, b.2)])) (s, ([] : List (Nat × Int)))
    let s := q.1
    let corr := fun (j : Nat) => r.2.getD j 0 + ((q.2.filter (fun (p : Nat × Int) => p.1 == j)).map (fun (p : Nat × Int) => p.2)).sum
    let dem := (points s.period).map (fun t2 => (t2, s.demands t2))
    js.reverse.foldl (fun s j => s.modString j vbar (corr j) (dem.map (fun (q : Nat × List Int) => ((q.1 : Nat) / 2, q.1, q.2.getD j 0)))) s

/-- The sets that were not complete when the step 5 window ended: their slots get no frame in this cycle, and LATE is raised (R248). -/
def State.lateSets (s : State) (late : List Nat) : State :=
  if s.hive.frames.any (fun i => late.contains i) then
    (({ s with hive := { s.hive with frames := s.hive.frames.filter (fun i => !late.contains i) } } : State).inc MOD_STAT_LATE_CNT).raiseC SRC_MOD_LATE
  else s

/-- The first step 5 after an SGR request: OUT withdraws every DAB permission (R464). -/
def State.sgrStep5 (s : State) : State := buses.foldl (fun s b => s.setBusSt b { s.busSt b with noDab := true }) s

/-- Step 5: MOD forms a set for every eligible slot and fills the waggle store; CycleState.slow names the slots whose set is not complete in time. While an SGR is active it forms none (R464). -/
def opStep5 (s : State) : State :=
  if s.running && !s.cyc.suspended && s.cyc.computed && !s.cyc.modulated then
    let s := ({ s with cyc := { s.cyc with modulated := true } } : State).advanceTo (s.samp + s.tStep5)
    if s.sgrActive then s.sgrStep5
    else if s.en .mod && s.inRun then s.modulate.lateSets s.cyc.slow
    else s
  else s

/-- R248 STEP5_MODULATE. -/
def execStep5Modulate (s : State) : Host.Outcome State Fault Refusal := .next (s.live (opStep5 s))

/-! Cycles in which no set is formed (R195, R259, R264, R268). -/

/-- An interval for which no set was formed: a gating slot repeats its last applied set, and the fixed contributions go on. -/
def State.missSet (s : State) (i : Nat) : State :=
  let m := s.modSlot i
  if s.slotState i = 4 ∨ s.slotState i = 5 then s.setModSlot i { m with pend := m.pend ++ [m.lastSet] } else s.stepFix i

/-- As many such intervals as given, for every enabled slot. -/
def State.missSets (s : State) : Nat → State
  | 0 => s
  | n + 1 => (s.enSlots.foldl (fun s i => s.missSet i) s).missSets n

/-- The boundary that ends a running cycle without a step 5, one that a step of time suspended. -/
def State.missedStep5 (s : State) : State :=
  if s.en .mod && s.inRun && !s.precharging && !s.cyc.modulated && !s.follows then s.missSets 1 else s

/-! The configuration check (R273). -/

/-- The first offending field of MOD's settings. -/
def checkMod (s : State) : Option (Nat × Nat × Nat) :=
  let js := strings.filter (fun j => s.flag CELL_STR_STR_EN 0 j)
  let minp := s.get CELL_PULSE_MINP
  checks [
    firstSome (fun j => checks [
      bad (s.get MOD_SCFG_NGRP j == 0 || s.get MOD_SCFG_MAXMOVE j == 0 || s.get MOD_SCFG_BAND j == 0) ZERO_LEN j 0x00,
      bad ((s.get MOD_SCFG_CARRIER j == 1 && s.get MOD_STIME_TON j == 0) || (s.get MOD_SCFG_CARRIER j == 2 && s.get MOD_STIME_TOFF j == 0)) ZERO_LEN j 0x04]) js,
    bad (s.get MOD_CFG_RES_MAX == 0) ZERO_LEN 0x11 0x00,
    bad (s.get MOD_DAB_PMAX == 0 || s.get MOD_DAB_PHI_MAX == 0) ZERO_LEN 0x11 0x04,
    firstSome (fun j => bad (s.get MOD_SCFG_CARRIER j == 3 || decide (16 < s.get MOD_SCFG_NGRP j) || decide (500 < s.get MOD_SCFG_BAND j)) RANGE j 0x00) js,
    bad (decide (0x4000 < s.get MOD_DAB_PHI_MAX)) RANGE 0x11 0x04,
    bad (decide (500 < s.get MOD_DAB2_TRIM_LIM)) RANGE 0x11 0x08,
    firstSome (fun j => checks [
      bad (decide (s.get CELL_STR_MIN_ACTIVE 0 j < s.get MOD_SCFG_NGRP j)) DISAGREE j 0x00,
      bad ((s.get MOD_SCFG_CARRIER j == 1 && decide (s.get MOD_STIME_TON j < minp)) || (s.get MOD_SCFG_CARRIER j == 2 && decide (s.get MOD_STIME_TOFF j < minp))) DISAGREE j 0x04]) js,
    bad (s.flag MOD_CFG_ZS_EN && s.flag FORM_CFG_TOPO) DISAGREE 0x11 0x00]

/-- What the enable of MOD does, its counters having been reset: orders and records empty. -/
def enterMod (s : State) : State :=
  let s := strings.foldl (fun s j => ((s.setOrder j []).putWord (MOD_SSTAT_NELIG.addr j 0) 0#32).putWord (MOD_SRES_RHO.addr j 0) 0#32) s
  { s with mod := ⟨List.replicate 192 ⟨false, false, 0, [], ⟨[], []⟩, false, 0, 0, 0, none⟩, List.replicate 48 ⟨0, 0, 0⟩⟩ }

end Sys2Proof.Machine
end

