-- ==== Sys2Proof/Machine/Coils.lean ====
section
/-! DEFINITION. The reactions that cross block borders when a coil output, its feedback or another field input changes: the owners' checks of R475, the breaker's feedback (R230), and the input faults of R55. -/

namespace Sys2Proof.Machine

/-- The enabled buses that an output serves, directly or as the follower of their coil. -/
def State.coilBuses (s : State) (o : Nat) : List Nat :=
  let lead := if s.flag CTC_OCFG_FOLLOW_EN o then s.get CTC_OCFG_FOLLOW o else o
  buses.filter (fun b => s.busEn b && s.get OUT_BCFG_CTC b == lead)

/-- The outputs monitored by a feedback input. -/
def State.fbCoils (s : State) (k : Nat) : List Nat := coils.filter (fun o => s.flag CTC_OCFG_FB_EN o && s.get CTC_OCFG_FB o == k)

/-- SOD of the buses of an output for a contactor discrepancy. -/
def State.coilSod (s : State) (o : Nat) : State := (s.coilBuses o).reverse.foldl (fun s b => s.sod b SOD_CONTACTOR) s

/-- A bus whose feedback has changed (R322, R466). -/
def State.busFbMoved (s : State) (b : Nat) : State :=
  let c := s.busClosed b
  if s.bst b = B_CLOSING ∧ c = true then s.busServe b
  else if s.bst b = B_OPENING ∧ c = false then
    let s := s.busTo b B_OFF
    if s.sodAt b 3 then s.sodStep b 4 else s
  else if s.bst b = B_UNAVAILABLE ∧ c = false ∧ s.sodAt b 3 = true then s.sodStep b 4
  else s

/-- A feedback input changes level: outputs, buses, the breaker, precharge and the interlocks follow it. An input below −3 V reads low (R55). -/
def opFbChange (k : Nat) (high : Bool) (s : State) : State :=
  let was := s.fbHigh k
  let s := s.setFb k (high && !s.ctc.fbRev.contains k)
  if s.fbHigh k = was ∨ s.pwr.coreUp = false then s
  else
    let s := (coils.filter (fun o => s.get CTC_OCFG_FB o == k)).foldl (fun s o =>
      let s := s.setb CTC_OSTAT_CLOSED (s.fbClosed o) o
      if s.flag CTC_OCFG_FB_EN o then s.settleFb o else s) s
    let s := (buses.filter (fun b => s.busEn b && s.get OUT_BCFG_FB b == k)).reverse.foldl (fun s b => s.busFbMoved b) s
    let s := if k = s.get FORM_BKR_FB then s.bkrMoved else s
    (s.preFbMoved k).ilkEngage k

/-- A feedback input takes a level; while V5A is low it is only noted (R38). -/
def State.takeFb (s : State) (k : Fin 40) (high : Bool) : State := if s.fieldUp then opFbChange k.val high s else s.noteLevel (.fb k) high

/-- R475 FB_CHANGE. -/
def execFbChange (k : Fin 40) (high : Bool) (s : State) : Host.Outcome State Fault Refusal := .next (s.takeFb k high)

/-- R230 BKR_FB_CHANGE: the breaker's feedback input takes a level. An input above FB39 does not exist (R244 refuses such a setting). -/
def execBkrFbChange (closed : Bool) (s : State) : Host.Outcome State Fault Refusal :=
  .next (if h : s.get FORM_BKR_FB < 40 then s.takeFb ⟨s.get FORM_BKR_FB, h⟩ closed else s)

/-- The transit limit of an output passes without agreement (R475): STUCK or WELDED, and the owner's reaction. FORM's outputs are left to R230. -/
def opCtcTransit (o : Nat) (s : State) : State :=
  if s.ctc.transit.contains o = true ∧ s.fbAgrees o = false then
    let w := s.get CTC_OCFG_OWNER o
    let fol := s.flag CTC_OCFG_FOLLOW_EN o
    if w = 2 then { s with ctc := { s.ctc with transit := s.ctc.transit.filter (· != o) } }
    else
      let s := s.discrepancy o
      if w = 1 then (if fol then s.coilSod o else (s.coilBuses o).reverse.foldl (fun s b => opBusCtcTimeout b s) s)
      else if w = 3 then (if !fol then opPreCtcTimeout s else if s.flag CTC_OSTAT_WELDED o then s.sgr C_SGR else s)
      else s
  else s

/-- R475 CTC_TRANSIT_TIMEOUT. -/
def execCtcTransitTimeout (o : Fin 40) (s : State) : Host.Outcome State Fault Refusal := .next (s.live (opCtcTransit o.val s))

/-- The feedback has disagreed for 8 ms after a completed transit (R475). -/
def opCtcSteady (o : Nat) (s : State) : State :=
  let w := s.get CTC_OCFG_OWNER o
  let known := if s.coilOn o then s.flag CTC_OSTAT_STUCK o else s.flag CTC_OSTAT_WELDED o
  if s.flag CTC_OCFG_EN o && s.flag CTC_OCFG_FB_EN o && w != 2 && !(s.follows && s.mirrored o) && !s.ctc.transit.contains o && !s.fbAgrees o && !known then
    let s := s.discrepancy o
    if w = 1 then s.coilSod o else if w = 3 ∧ s.flag CTC_OSTAT_WELDED o = true then s.sgr C_SGR else s
  else s

/-- R475 CTC_STEADY_DISAGREE. -/
def execCtcSteadyDisagree (o : Fin 40) (s : State) : Host.Outcome State Fault Refusal := .next (s.live (opCtcSteady o.val s))

/-- A SHORT or OPEN event of a bus's coil makes the bus UNAVAILABLE; in step 3 of a SOD that is a failure (R322, R335, R466). -/
def State.coilLost (s : State) (o : Nat) : State :=
  (buses.filter (fun b => s.busEn b && s.get OUT_BCFG_CTC b == o && s.bst b != B_UNAVAILABLE)).reverse.foldl (fun s b =>
    let s := s.busFail b
    if s.sodAt b 3 then s.sodFail b else s) s

/-- A short circuit of an output: what CTC does, and the bus it serves. -/
def opShort (o : Nat) (present : Bool) (s : State) : State :=
  let t := opCtcShort o present s
  if present && s.fieldUp && s.coilOn o then t.live (t.coilLost o) else t

/-- R55 CTC_SHORT. -/
def execCtcShort (o : Fin 40) (present : Bool) (s : State) : Host.Outcome State Fault Refusal := .next (opShort o.val present s)

/-- An open load of an output: what CTC does, and the bus it serves. -/
def opOpenLoad (o : Nat) (present : Bool) (s : State) : State :=
  let t := opCtcOpenLoad o present s
  if present && s.fieldUp && !s.coilOn o then t.live (t.coilLost o) else t

/-- R55 CTC_OPEN_LOAD. -/
def execCtcOpenLoad (o : Fin 40) (present : Bool) (s : State) : Host.Outcome State Fault Refusal := .next (opOpenLoad o.val present s)

/-- A line of an encoder that reverses reads low from now on: a sample of A and B, or of the Hall lines (R55, R445). -/
def State.encLineLow (s : State) (n line : Nat) : State :=
  let e := s.encSt n
  let h := s.get ENC_STAT_HALL n
  if line = 0 ∧ e.a = true then opEncSample n false e.b 0 s
  else if line = 1 ∧ e.b = true then opEncSample n e.a false 0 s
  else if 3 ≤ line ∧ bitOf h (line - 3) = true then opHallLineChange n (bitOf h 0 && line != 3) (bitOf h 1 && line != 4) (bitOf h 2 && line != 5) s
  else s

/-- A field input is below −3 V for 1 ms, or no longer (R55): it reads low while it lasts, and REVERSE is raised in the block of the input. With V5A low the front end detects nothing (R38). -/
def opInputReverse (x : FieldInput) (present : Bool) (s : State) : State :=
  match x with
  | .enc n line =>
    let s := { s with drive := { s.drive with encRev := setPresent s.drive.encRev (6 * n.val + line.val) present } }
    if present then s.fieldLive ((s.encLineLow n.val line.val).raise SRC_ENC_REVERSE n.val) else s
  | .trip i =>
    let s := { s with drive := { s.drive with siRev := setPresent s.drive.siRev (8 + i.val) present } }
    if present && s.fieldUp then (let t := opTripInput i.val s; t.live (t.raiseC SRC_SAFE_REVERSE)) else s
  | .si i chB =>
    let s := { s with drive := { s.drive with siRev := setPresent s.drive.siRev (2 * i.val + b2n chB) present } }
    if present && s.fieldUp then (let t := opSiChange i.val chB false s; t.live (t.raise SRC_SAFE_REVERSE i.val)) else s
  | .fb k =>
    let o := ((s.fbCoils k.val).head?).getD k.val
    let s := { s with ctc := { s.ctc with fbRev := setPresent s.ctc.fbRev k.val present } }
    if present && s.fieldUp then (let t := opFbChange k.val false s; t.live (t.raise SRC_CTC_REVERSE o)) else s

/-- R55 INPUT_REVERSE. -/
def execInputReverse (ball : FieldInput) (present : Bool) (s : State) : Host.Outcome State Fault Refusal := .next (opInputReverse ball present s)

end Sys2Proof.Machine
end

