-- ==== Sys2Proof/Machine/CapHead.lean ====
section
/-! DEFINITION. CAP: the geometry of the region, the capture header (R411) and the end of a capture (R410). -/

namespace Sys2Proof.Machine

/-- The states of CAP (R410). -/
def CAP_IDLE : Nat := 0
def CAP_ARMED : Nat := 1
def CAP_TRIGGERED : Nat := 2
def CAP_DONE : Nat := 3

def State.capState (s : State) : Nat := s.get CAP_STAT_STATE
def State.capStream (s : State) : Bool := s.flag CAP_CFG_MODE
def State.capLive (s : State) : Bool := s.capState == CAP_ARMED || s.capState == CAP_TRIGGERED

/-- Bytes of one value and of one record (R411). -/
def State.valSize (s : State) : Nat := if s.flag CAP_CFG_WIDTH then 4 else 2
def State.recSize (s : State) : Nat := s.get CAP_CFG_N_SIG * s.valSize

/-- Region: start, bytes of header, and records it holds (R411, R412). -/
def State.capBase (s : State) : Nat := BANK_CAP + s.get CAP_REGION_BASE * 4096
def State.capHead (s : State) : Nat := if s.capStream then 0 else 128
def State.capRoom (s : State) : Nat := (s.get CAP_REGION_LEN * 4096 - s.capHead) / s.recSize

/-- Host memory address of record `i`. -/
def State.recAddr (s : State) (i : Nat) : Nat := s.capBase + s.capHead + i % s.capRoom * s.recSize

/-- Pre-trigger records held (R411). -/
def State.preHeld (s : State) : Nat :=
  if s.capStream then 0 else match s.cap.trig with | some _ => s.cap.pre | none => min s.cap.stored (s.get CAP_PRE_PRE)

/-- Byte offset of the oldest held record from the region's start. -/
def State.firstOfs (s : State) : Nat :=
  if s.capStream then 0
  else
    let oldest := match s.cap.trig with | some t => t - s.cap.pre | none => s.cap.stored - s.preHeld
    s.recAddr oldest - s.capBase

/-- The capture header (R411). -/
def State.capHeader (s : State) : List Byte :=
  let n := s.get CAP_CFG_N_SIG
  let b0 := [0x43#8, 0x41#8, 0x50#8, 0x31#8, BitVec.ofNat 8 (b2n s.capStream + 2 * b2n (s.flag CAP_CFG_WIDTH)), BitVec.ofNat 8 n,
    BitVec.ofNat 8 (s.get CAP_STAT_END_CAUSE), BitVec.ofNat 8 s.cap.sync] ++ leBytes 4 (s.get CAP_PER_PER) ++ leBytes 8 s.cap.first
    ++ leBytes 8 (s.get64 CAP_TRIG_TAI_TAI) ++ leBytes 4 (s.get CAP_TRIG_FRAC_FRAC) ++ leBytes 4 (s.cap.trig.getD 0) ++ leBytes 4 s.cap.ofs
    ++ leBytes 4 s.cap.stored ++ leBytes 4 s.preHeld ++ leBytes 4 (s.get CAP_POST_POST) ++ leBytes 4 (s.get BOOT_GEN_GENERATION) ++ leBytes 4 s.firstOfs
  b0 ++ leBytes 4 (crc32 b0).toNat ++ (List.range 64).map (fun i =>
    if i < n then BitVec.ofNat 8 (s.get CAP_SIG_CLASS 0 i * 64 + s.get CAP_SIG_SRC 0 i) else 0#8)

/-- In single mode the header stands in the region, kept current. -/
def State.showHeader (s : State) : State := if s.capStream then s else s.store s.capBase s.capHeader

/-- CAP enters DONE with a cause (R410). -/
def State.capEnd (s : State) (cause : Nat) : State :=
  let s := (s.set CAP_STAT_STATE CAP_DONE).set CAP_STAT_END_CAUSE cause
  let s := { s with cap := { s.cap with pend := [], ending := 0, force := false, endDue := s.capStream } }
  s.showHeader.raise SRC_CAP_DONE 0x03

/-- An end that takes the ticks already passed first: at once when none waits. -/
def State.capClose (s : State) (cause : Nat) : State :=
  if s.capLive then
    (if s.cap.pend.isEmpty then s.capEnd cause else if s.cap.ending = 0 then { s with cap := { s.cap with ending := cause } } else s)
  else s

/-- The blocks with SEVERE set, as HOST_SEV_SUM shows them (R112). -/
def State.sevSum (s : State) : Nat := maskOf ((allBlocks.filter (fun b => s.severe b)).map (·.no))

end Sys2Proof.Machine
end

