-- ==== Sys2Proof/Machine/Time.lean ====
section
/-! DEFINITION. The TIME family: the counter and its corrections (R113 to R120), the synchronisation state (R121) and the PTP clock (R122 to R125). -/

namespace Sys2Proof.Machine

/-- The codes of TIME_SYNC_STAT.STATE (R128). -/
def FREE : Nat := 0
def ACQUIRING : Nat := 1
def LOCKED_ST : Nat := 2
def HOLDOVER : Nat := 3
def REFUSED : Nat := 4
def MASTER : Nat := 5

/-- A power stage gates: a running state, or any axis enabled (R118, R441). -/
def State.gating (s : State) : Bool := s.inRun || (s.en .axis && (List.range 4).any (fun n => s.flag AXIS_CFG_AX_EN n))

/-- Set the pending phase correction, in units of 2^-32 ns, with SLEWING following it. -/
def State.setPhase (s : State) (p : Int) : State :=
  { s.setb TIME_SYNC_STAT_SLEWING (p != 0) with time := { s.time with pending := p } }

/-- ±500 ppm of the nominal increment (R116). -/
def corrClamp : Int := 3579139

/-- One tick's slew at SLEW_MAX, in units of 2^-32 ns: SLEW_MAX ppm of 5/3 ns. -/
def State.slewStep (s : State) : Int := (s.get TIME_SLEW_CFG_SLEW_MAX * 5 * 2 ^ 32 / (3 * 1000000) : Nat)

/-- One tick of the 600 MHz core clock (R113, R116): increment, frequency adjustment and phase slew; the RTC runs beside it. -/
def State.tick (s : State) : State :=
  let inc : Int := (s.get TIME_INCR_INT_INT * 2 ^ 32 + s.get TIME_INCR_FRAC_FRAC : Nat)
  let adj := clampInt (-corrClamp) corrClamp (s.geti TIME_FREQ_ADJ_ADJ)
  let want := if s.get TIME_SLEW_CFG_SRC = 0 then 0 else clampInt (-s.slewStep) s.slewStep s.time.pending
  let sum := clampInt (-corrClamp) corrClamp (s.geti TIME_FREQ_ADJ_ADJ + want)
  let slew := sum - adj
  let slew := if want ≥ 0 then clampInt 0 want slew else clampInt want 0 slew
  let hit : Bool := s.geti TIME_FREQ_ADJ_ADJ + want != sum
  let s := s.raiseIf (hit && !s.time.clamped) SRC_TIME_SLEW_CLAMP 0x00
  let s := s.setPhase (s.time.pending - slew)
  { s with
    time := { s.time with tai := (s.time.tai + inc + adj + slew).toNat, clamped := hit, hostStep := false },
    pwr := { s.pwr with rtc := s.pwr.rtc + 5 * 2 ^ 32 / 3 } }

/-- What passes while no command waits (log entry 1): one tick of the core clock where PLL_A gives it, the RTC alone where only the always-on domain runs. -/
def opIdle (s : State) : State :=
  if s.pwr.coreUp && !s.pwr.dormant && s.flag CLK_PLL_STAT_LOCKED 0 then s.tick
  else if s.pwr.aonUp then { s with pwr := { s.pwr with rtc := s.pwr.rtc + 5 * 2 ^ 32 / 3 } }
  else s

/-- A step passes over the cut point of the boundary that follows it: requests made before the step have completed before that cut point (R24, R560). -/
def State.requestsInTime (s : State) : State :=
  { s with
    cyc := { s.cyc with formLate := false, lawLate := false },
    comb := { s.comb with cmd := s.comb.cmd.map (fun c => { c with late := false }) },
    part := { s.part with swap := s.part.swap.map (fun c => (c.1, false)) },
    out := { s.out with late := [] },
    cal := { s.cal with late := false, userLate := false,
                        slots := if s.cal.late then s.cal.slots.map (fun (c : CalSlot) => { c with tgt := c.est }) else s.cal.slots } }

/-- The cycle that a step ends counts as neither a delivery nor a miss: the miss runs return to what they were when it opened (R560). -/
def State.missesBack (s : State) : State :=
  (List.range s.hive.missRuns.length).foldl (fun s r =>
    match s.hive.missRuns[r]? with
    | some w => (s.putWord (HIVE_RMISS_MISS_RUN.addr r 0) w.1).putWord (HIVE_RMISS_MISS_RUN.addr r 1) w.2
    | none => s) s

/-- A step of network time to `t` (units of 2^-32 ns): R119, the cycle's part of R560, and the end of a capture (R410). A sample or a path delay whose stamps straddle it is discarded. -/
def State.stepTime (s : State) (t : Nat) (source : Nat) : State :=
  let old := s.now
  let new := t / 2 ^ 32
  let s := s.raise SRC_TIME_STEPPED 0x00
  let s := { s with time := { s.time with
    tai := t, steps := s.time.steps + 1, hostStep := decide (source = 0), sync := none, req := none, lastT21 := none,
    jumpRun := 0, inRun := 0, outRun := 0, lastOfs := none } }
  let s := (s.logAppend 4 source 0 0 0 (leBytes 8 old ++ leBytes 8 new)).2
  let s := (s.setPhase 0).capClose 4
  let st := s.get TIME_SYNC_STAT_STATE
  let s := if st = FREE ∨ st = MASTER ∨ s.get TIME_SLEW_CFG_SRC ≠ 1 then s else s.set TIME_SYNC_STAT_STATE ACQUIRING
  if s.running then
    let p := s.period
    let s := s.set SYS_CYC_NUM_CYC (new / p)
    let s := s.set64 SYS_CYC_START_TAI (new / p * p)
    let s := s.requestsInTime.missesBack
    { s with cyc := { s.cyc with suspended := true, sampled := false, computed := false, modulated := false, resync := true } }
  else s

/-- A write of TIME_STEP's high word with the held low word (R119). Answers whether it was accepted. -/
def opTimeStep (lo hi : Nat) (s : State) : Bool × State :=
  if s.gating then (false, s.refuse .time 0x0421 0x01 0x24)
  else if s.pstate = PRIME then (false, s.refuseC .time STATE 0x01 0x24)
  else (true, s.stepTime ((lo + hi * 2 ^ 32) * 2 ^ 32) 0)

/-- R119 TIME_STEP_WRITE: the low word is the one last written (R3). -/
def execTimeStepWrite (v : BitVec 32) (s : State) : Host.Outcome State Fault Refusal :=
  .next (s.live (opTimeStep ((sparseFind 0x040120 s.pairs.lowWritten).getD 0#32).toNat v.toNat s).2)

/-- A host offset request (R120): within JUMP_THR it replaces the pending correction. -/
def opOfsReq (v : Nat) (s : State) : Bool × State :=
  let o := signed 32 v
  if s.get TIME_SLEW_CFG_SRC ≠ 2 then (false, s.refuseC .time STATE 0x01 0x1C)
  else if s.get TIME_SLEW_CFG_JUMP_THR < o.natAbs then (false, s.refuse .time 0x0420 0x01 0x1C)
  else (true, s.setPhase (-o * 2 ^ 32))

/-- R120 OFS_REQUEST. -/
def execOfsRequest (v : BitVec 32) (s : State) : Host.Outcome State Fault Refusal := .next (s.live (opOfsReq v.toNat s).2)

/-- A host frequency adjustment (R120). -/
def opFreqAdj (v : Nat) (s : State) : Bool × State :=
  if s.get TIME_SLEW_CFG_SRC ≠ 2 then (false, s.refuseC .time STATE 0x01 0x14) else (true, s.set TIME_FREQ_ADJ_ADJ v)

/-- R120 FREQ_ADJ_WRITE. -/
def execFreqAdjWrite (v : BitVec 32) (s : State) : Host.Outcome State Fault Refusal := .next (s.live (opFreqAdj v.toNat s).2)

/-- The slew removes the last of the pending correction (R116): the counter has moved by it, and SLEWING clears. -/
def opPhaseSlewDone (s : State) : State :=
  if s.get TIME_SLEW_CFG_SRC = 0 then s
  else { s.setPhase 0 with time := { s.time with pending := 0, tai := (s.time.tai + s.time.pending).toNat } }

/-- R116 PHASE_SLEW_DONE. -/
def execPhaseSlewDone (s : State) : Host.Outcome State Fault Refusal := .next (s.live (opPhaseSlewDone s))

/-- The RTC takes the counter once per second while LOCKED or MASTER (R115). -/
def opRtcRealign (s : State) : State :=
  let st := s.get TIME_SYNC_STAT_STATE
  if st = LOCKED_ST ∨ st = MASTER then { s with pwr := { s.pwr with rtc := s.time.tai } } else s

/-- R115 RTC_REALIGN. -/
def execRtcRealign (s : State) : Host.Outcome State Fault Refusal := .next (s.live (opRtcRealign s))

/-! The servo (R117, R121, R125). -/

/-- The frequency step for an offset in ns over the Sync interval, in units of 2^-32 ns per tick (R125). -/
def State.freqStep (s : State) (o : Int) : Int :=
  let ls := signed 4 (s.get TIME_PTP_INT_LOG_SYNC)
  let num := -o * 5 * 2 ^ 32 * 2 ^ (-ls).toNat
  rdiv num (3 * 1000000000 * 2 ^ s.get TIME_PTP_CFG_KI_SHIFT * 2 ^ ls.toNat)

/-- Add to the frequency adjustment, held to its 32 bits. -/
def State.addFreq (s : State) (d : Int) : State :=
  s.seti TIME_FREQ_ADJ_ADJ (clampInt (-(2 ^ 31)) (2 ^ 31 - 1) (s.geti TIME_FREQ_ADJ_ADJ + d))

/-- A sample within the threshold: phase and frequency corrected, lock counted (R116, R121, R125). -/
def State.goodSample (s : State) (o : Int) : State :=
  let s := (s.setPhase (-o * 2 ^ 32)).addFreq (s.freqStep o)
  let st0 := s.get TIME_SYNC_STAT_STATE
  let st := if st0 = REFUSED then ACQUIRING else st0
  let lock := o.natAbs ≤ 100
  let inR := if lock then s.time.inRun + 1 else 0
  let outR := if lock then 0 else s.time.outRun + 1
  let st := if st = ACQUIRING ∧ 16 ≤ inR then LOCKED_ST
    else if st = LOCKED_ST ∧ s.get TIME_PTP_CFG_STEP_CONFIRM ≤ outR then ACQUIRING else st
  let inR := if st0 = LOCKED_ST ∧ st = ACQUIRING then 0 else inR
  { s.set TIME_SYNC_STAT_STATE st with time := { s.time with jumpRun := 0, inRun := inR, outRun := if st = LOCKED_ST ∧ st0 ≠ LOCKED_ST then 0 else outR, lastOfs := none } }

/-- Whether the servo may step the counter (R117). -/
def State.mayStep (s : State) : Bool := !s.gating && s.flag TIME_PTP_CFG_AUTO_STEP

/-- The servo's step by the last offset; one that falls due on the tick of a host step is discarded (R119). -/
def State.servoStep (s : State) (o : Int) : State := if s.time.hostStep then s else s.stepTime (s.time.tai - o * 2 ^ 32).toNat 2

/-- A confirmed step request (R117): a step, or REFUSED with the offset left where it is, so that a running slew ends (DEDUCED, log entry 81). -/
def State.confirmStep (s : State) (o : Int) : State :=
  if s.mayStep then s.servoStep o
  else
    let s := ((s.set TIME_SYNC_STAT_STATE REFUSED).raise SRC_TIME_JUMP_REFUSED 0x00).setPhase 0
    { s with time := { s.time with jumpRun := 0, inRun := 0, outRun := 0, lastOfs := some o } }

/-- One offset measurement in ns (R117, R118, R125). In REFUSED the next sample above the threshold is stepped once stepping is allowed; until then the frequency follows successive offsets. -/
def State.offsetSample (s : State) (o : Int) : State :=
  let s := s.seti TIME_OFS_LAST_OFS (clampInt (-(2 ^ 31)) (2 ^ 31 - 1) o)
  if o.natAbs ≤ s.get TIME_SLEW_CFG_JUMP_THR then s.goodSample o
  else if s.get TIME_SYNC_STAT_STATE = REFUSED then
    if s.mayStep then s.servoStep o
    else
      let d := match s.time.lastOfs with | some p => o - p | none => 0
      { s.addFreq (s.freqStep d) with time := { s.time with lastOfs := some o } }
  else
    let neg : Bool := decide (o < 0)
    let run := if s.time.jumpRun ≠ 0 ∧ s.time.jumpNeg = neg then s.time.jumpRun + 1 else 1
    let s := { s with time := { s.time with jumpRun := run, jumpNeg := neg } }
    if s.get TIME_PTP_CFG_STEP_CONFIRM ≤ run then s.confirmStep o else s.raise SRC_TIME_OUTLIER 0x00

/-- Whether the servo is a slave to a selected master. -/
def State.slave (s : State) : Bool := s.en .time && decide (s.get TIME_SLEW_CFG_SRC = 1) && s.time.master.isSome

/-- Whether a message is one the device takes at all: the configured transport, no unsupported option, the one domain (R122). -/
def State.ptpTaken (s : State) (domain : BitVec 8) (udp plain : Bool) : Bool :=
  s.en .time && plain && decide (udp = s.flag TIME_PTP_CFG_TRANSPORT) && decide (domain.toNat = s.get TIME_PTP_CFG_DOMAIN)

/-- Whether a message is taken on the active port. -/
def State.ptpMine (s : State) (port : Bool) (domain : BitVec 8) (udp plain : Bool) : Bool :=
  s.ptpTaken domain udp plain && decide (port = s.flag TIME_SYNC_STAT_PORT_ACT)

/-- The fixed internal delay of a direction of RGMII while it is enabled, in ns: R46's typical figure (PRESUMED, log entry 81). -/
def rgmiiDelay (on : Bool) : Nat := if on then 2 else 0

/-- The receive time stamp: the counter corrected by the internal delay (R46) and the port's INGRESS (R126). -/
def State.rxStamp (s : State) (port : Bool) : Int :=
  (s.now : Int) - (s.get TIME_PTP_DLY_INGRESS 0 (b2n port) : Nat) - (rgmiiDelay (s.flag ETH_MCFG_RXDLY (b2n port)) : Nat)

/-- The transmit time stamp: the counter corrected by the internal delay (R46) and the port's EGRESS (R126). -/
def State.txStamp (s : State) (port : Bool) : Int :=
  (s.now : Int) + (s.get TIME_PTP_DLY_EGRESS 0 (b2n port) : Nat) + (rgmiiDelay (s.flag ETH_MCFG_TXDLY (b2n port)) : Nat)

/-- A complete Sync sample with t2 − t1 known (R125). -/
def State.syncSample (s : State) (t21 : Int) : State :=
  { s with time := { s.time with lastT21 := some t21, sync := none } }.offsetSample (t21 - (s.get TIME_MPD_MPD : Nat))

/-- A Sync message (R122, R125): one-step gives a sample at once, two-step waits for its Follow_Up. -/
def opPtpSyncRx (m : PtpSync) (s : State) : State :=
  if s.slave && s.ptpMine m.port m.domain m.udp m.plain && decide (s.time.master.map (·.src) = some m.src) then
    let t2 := s.rxStamp m.port
    if m.twoStep then { s with time := { s.time with sync := some (m.src.toNat, m.seq.toNat, t2, m.corr) } }
    else s.syncSample (t2 - m.origin.toNat - m.corr)
  else s

/-- R125 PTP_SYNC_RX. -/
def execPtpSyncRx (m : PtpSync) (s : State) : Host.Outcome State Fault Refusal := .next (s.live (opPtpSyncRx m s))

/-- A Follow_Up completes the two-step Sync of the same source and sequence (R122). -/
def opPtpFollowUpRx (m : PtpFollowUp) (s : State) : State :=
  match s.time.sync with
  | none => s
  | some (src, seq, t2, c) =>
    if s.slave && s.ptpMine m.port m.domain m.udp m.plain && decide (src = m.src.toNat) && decide (seq = m.seq.toNat) then
      s.syncSample (t2 - m.origin.toNat - c - m.corr)
    else s

/-- R122 PTP_FOLLOW_UP_RX. -/
def execPtpFollowUpRx (m : PtpFollowUp) (s : State) : Host.Outcome State Fault Refusal := .next (s.live (opPtpFollowUpRx m s))

/-- Whether the device acts as master. -/
def State.isMaster (s : State) : Bool := s.en .time && decide (s.get TIME_SYNC_STAT_STATE = MASTER)

/-- Whether the MAC of a port sends (R413, R538, R539). -/
def State.macSends (s : State) (port : Bool) : Bool :=
  s.en .eth && s.flag ETH_MCFG_MAC_EN (b2n port) && s.flag ETH_MSTAT_LINK (b2n port) && !s.flag ETH_MSTAT_PAUSED (b2n port)

/-- Send messages on the active port, each by its type, sequence, two time stamps and content. -/
def State.ptpSend (s : State) (l : List (Nat × Nat × Nat × Nat × List Nat)) : State :=
  let p := s.flag TIME_SYNC_STAT_PORT_ACT
  { s with time := { s.time with sent := l.map (fun (m : Nat × Nat × Nat × Nat × List Nat) => ⟨m.1, p, m.2.1, m.2.2.1, m.2.2.2.1, m.2.2.2.2⟩) } }

/-- As master under E2E, a Delay_Req is answered with Delay_Resp (R122). -/
def opPtpDelayReqRx (m : PtpReq) (s : State) : State :=
  if s.isMaster && s.ptpMine m.port m.domain m.udp m.plain && s.macSends m.port && !s.flag TIME_PTP_CFG_DELAY then
    s.ptpSend [(9, m.seq.toNat, (s.rxStamp m.port).toNat, 0, [])]
  else s

/-- R122 PTP_DELAY_REQ_RX. -/
def execPtpDelayReqRx (m : PtpReq) (s : State) : Host.Outcome State Fault Refusal := .next (s.live (opPtpDelayReqRx m s))

/-- Update the mean path delay from a round trip, twice the delay (R122). -/
def State.setMpd (s : State) (twice : Int) : State :=
  { s.set TIME_MPD_MPD (rdiv twice 2).toNat with time := { s.time with req := none } }

/-- A Delay_Resp of the selected master to this port completes the delay measurement (R122). -/
def opPtpDelayRespRx (m : PtpDelayResp) (s : State) : State :=
  match s.time.req, s.time.lastT21 with
  | some (seq, t3), some t21 =>
    if s.slave && s.ptpMine m.port m.domain m.udp m.plain && m.toUs && decide (s.time.master.map (·.src) = some m.src) && !s.flag TIME_PTP_CFG_DELAY
        && decide (seq = m.seq.toNat) then
      s.setMpd (t21 + ((m.receive.toNat : Int) - t3 - m.corr))
    else s
  | _, _ => s

/-- R122 PTP_DELAY_RESP_RX. -/
def execPtpDelayRespRx (m : PtpDelayResp) (s : State) : Host.Outcome State Fault Refusal := .next (s.live (opPtpDelayRespRx m s))

/-- A Pdelay_Req is answered under P2P with Pdelay_Resp and its Follow_Up (R122). -/
def opPtpPdelayReqRx (m : PtpReq) (s : State) : State :=
  if s.ptpMine m.port m.domain m.udp m.plain && s.macSends m.port && s.flag TIME_PTP_CFG_DELAY && decide (s.get TIME_PTP_CFG_ROLE ≠ 0) then
    s.ptpSend [(3, m.seq.toNat, (s.rxStamp m.port).toNat, 0, []), (10, m.seq.toNat, 0, (s.txStamp m.port).toNat, [])]
  else s

/-- R122 PTP_PDELAY_REQ_RX. -/
def execPtpPdelayReqRx (m : PtpReq) (s : State) : Host.Outcome State Fault Refusal := .next (s.live (opPtpPdelayReqRx m s))

/-- A Pdelay response updates the mean path delay under P2P (R122). -/
def opPtpPdelayRespRx (m : PtpPdelayResp) (s : State) : State :=
  match s.time.req with
  | none => s
  | some (seq, t1) =>
    if s.ptpMine m.port m.domain m.udp m.plain && m.toUs && s.flag TIME_PTP_CFG_DELAY && decide (seq = m.seq.toNat) then
      s.setMpd ((s.rxStamp m.port - t1) - ((m.transmit.toNat : Int) - m.receive.toNat) - m.corr)
    else s

/-- R122 PTP_PDELAY_RESP_RX. -/
def execPtpPdelayRespRx (m : PtpPdelayResp) (s : State) : Host.Outcome State Fault Refusal := .next (s.live (opPtpPdelayRespRx m s))

/-- The rank of a data set under the default best master clock algorithm: smaller is better (log entry 15). -/
def announceRank (a : PtpAnnounce) : List Nat :=
  [a.priority1.toNat, a.clockClass.toNat, a.accuracy.toNat, a.variance.toNat, a.priority2.toNat, a.gm.toNat, a.steps.toNat, a.src.toNat]

/-- Lexicographic comparison of ranks. -/
def rankLt : List Nat → List Nat → Bool
  | a :: s, b :: t => decide (a < b) || (decide (a = b) && rankLt s t)
  | _, _ => false

/-- The device's own clock identity: its MAC address as an EUI-64 (log entry 15). -/
def State.clockId (s : State) : Nat :=
  let p := b2n (s.flag TIME_SYNC_STAT_PORT_ACT)
  let m := leBytes 4 (s.get ETH_MAC_LO_MAC p) ++ leBytes 2 (s.get ETH_MAC_HI_MAC p)
  beNat (m.take 3 ++ [0xFF#8, 0xFE#8] ++ m.drop 3)

/-- The device's own data set (R130). -/
def State.ownRank (s : State) : List Nat :=
  [s.get TIME_PTP_INT_PRIORITY1, s.get TIME_PTP_CLKQ_CLASS, s.get TIME_PTP_CLKQ_ACCURACY, s.get TIME_PTP_CLKQ_VARIANCE,
   s.get TIME_PTP_INT_PRIORITY2, s.clockId, 0, s.clockId]

/-- Select a master: ACQUIRING, its UTC offset copied, MASTER_CHANGE when the grandmaster is new (R123, R124). -/
def State.selectMaster (s : State) (a : PtpAnnounce) : State :=
  let isNew : Bool := decide (s.time.master.map (·.gm) ≠ some a.gm)
  let s := (s.set TIME_SYNC_STAT_UTC_OFS a.utcOffset.toNat).setb TIME_SYNC_STAT_UTC_VALID a.utcValid
  let s := s.set64 TIME_PTP_GM_ID a.gm.toNat
  let s := { s with time := { s.time with master := some a } }
  if isNew then
    let s := (s.set TIME_SYNC_STAT_STATE ACQUIRING).raise SRC_TIME_MASTER_CHANGE 0x00
    { s with time := { s.time with jumpRun := 0, inRun := 0, outRun := 0, sync := none, lastOfs := none } }
  else s

/-- The device itself becomes master (R121). -/
def State.becomeMaster (s : State) : State :=
  { s.set TIME_SYNC_STAT_STATE MASTER with time := { s.time with master := none } }

/-- Under ROLE = 2 the device's own data set is better than the announced one, so that the algorithm selects the device (R121). -/
def State.ownWins (s : State) (a : PtpAnnounce) : Bool := s.get TIME_PTP_CFG_ROLE == 2 && rankLt s.ownRank (announceRank a)

/-- The announce receipt timeout in ns: ANN_TIMEOUT announce intervals (R130). -/
def State.announceTime (s : State) : Nat :=
  let l := signed 4 (s.get TIME_PTP_INT_LOG_ANN)
  s.get TIME_PTP_INT_ANN_TIMEOUT * 1000000000 * 2 ^ l.toNat / 2 ^ (-l).toNat

/-- The qualified master that the other MAC hears (R123): announced within the timeout, and not worse than the device itself. -/
def State.otherMaster (s : State) : Option PtpAnnounce :=
  match s.flag TIME_PTP_CFG_BACKUP, s.time.backup with
  | true, some (b, t) => if s.now < t + s.announceTime ∧ s.ownWins b = false then some b else none
  | _, _ => none

/-- An Announce message (R121 to R124). -/
def opPtpAnnounceRx (a : PtpAnnounce) (s : State) : State :=
  let role := s.get TIME_PTP_CFG_ROLE
  if !s.ptpTaken a.domain a.udp a.plain || s.get TIME_SLEW_CFG_SRC != 1 || (role != 1 && role != 2) then s
  else if !a.ptpScale then s.raise SRC_TIME_TIMESCALE 0x00
  else if a.port = s.flag TIME_SYNC_STAT_PORT_ACT then
    if s.ownWins a then
      match s.time.master with
      | none => s.becomeMaster
      | some m => if m.src = a.src then s.becomeMaster else s
    else
      match s.time.master with
      | none => s.selectMaster a
      | some m => if m.src = a.src ∨ rankLt (announceRank a) (announceRank m) then s.selectMaster a else s
  else if s.flag TIME_PTP_CFG_BACKUP then { s with time := { s.time with backup := some (a, s.now) } }
  else s

/-- R124 PTP_ANNOUNCE_RX. -/
def execPtpAnnounceRx (a : PtpAnnounce) (s : State) : Host.Outcome State Fault Refusal := .next (s.live (opPtpAnnounceRx a s))

/-- As master the device sends two-step Sync and its Follow_Up with the Sync's time (R122). -/
def opPtpSyncSend (s : State) : State :=
  let p := s.flag TIME_SYNC_STAT_PORT_ACT
  if s.isMaster && s.macSends p then
    let q := s.ptpSend [(0, s.time.syncSeq, 0, 0, []), (8, s.time.syncSeq, (s.txStamp p).toNat, 0, [])]
    { q with time := { q.time with syncSeq := (s.time.syncSeq + 1) % 65536 } }
  else s

/-- R122 PTP_SYNC_SEND. -/
def execPtpSyncSend (s : State) : Host.Outcome State Fault Refusal := .next (s.live (opPtpSyncSend s))

/-- As master the device sends Announce with its own data set (R122, R130). -/
def opPtpAnnounceSend (s : State) : State :=
  let p := s.flag TIME_SYNC_STAT_PORT_ACT
  if s.isMaster && s.macSends p then
    let q := s.ptpSend [(11, s.time.annSeq, 0, 0, s.ownRank)]
    { q with time := { q.time with annSeq := (s.time.annSeq + 1) % 65536 } }
  else s

/-- R122 PTP_ANNOUNCE_SEND. -/
def execPtpAnnounceSend (s : State) : Host.Outcome State Fault Refusal := .next (s.live (opPtpAnnounceSend s))

/-- As slave the device sends Delay_Req, or Pdelay_Req under P2P (R122). -/
def opPtpDelayReqSend (s : State) : State :=
  let p := s.flag TIME_SYNC_STAT_PORT_ACT
  let p2p := s.flag TIME_PTP_CFG_DELAY
  if (s.slave || (p2p && s.en .time && s.get TIME_PTP_CFG_ROLE != 0)) && s.macSends p then
    let q := s.ptpSend [(if p2p then 2 else 1, s.time.reqSeq, (s.txStamp p).toNat, 0, [])]
    { q with time := { q.time with req := some (s.time.reqSeq, s.txStamp p), reqSeq := (s.time.reqSeq + 1) % 65536 } }
  else s

/-- R122 PTP_DELAY_REQ_SEND. -/
def execPtpDelayReqSend (s : State) : Host.Outcome State Fault Refusal := .next (s.live (opPtpDelayReqSend s))

/-- HOLDOVER is entered: MASTER_LOST, whose condition it is (R121, R132). -/
def State.enterHoldover (s : State) : State :=
  (s.raiseIf (s.get TIME_SYNC_STAT_STATE != HOLDOVER) SRC_TIME_MASTER_LOST 0x00).set TIME_SYNC_STAT_STATE HOLDOVER

/-- Announce receipt timeout (R121, R123): the backup MAC's master, or HOLDOVER, whatever the role. -/
def opAnnounceTimeout (s : State) : State :=
  let role := s.get TIME_PTP_CFG_ROLE
  if !s.en .time || s.get TIME_SLEW_CFG_SRC != 1 || (role != 1 && role != 2) || s.get TIME_SYNC_STAT_STATE == MASTER then s
  else
    let other := s.otherMaster
    let s := { s with time := { s.time with master := none, sync := none, jumpRun := 0, lastOfs := none, backup := none } }
    match other with
    | some b => (s.setb TIME_SYNC_STAT_PORT_ACT b.port).selectMaster b
    | none => s.enterHoldover

/-- R121 ANNOUNCE_TIMEOUT. -/
def execAnnounceTimeout (s : State) : Host.Outcome State Fault Refusal := .next (s.live (opAnnounceTimeout s))

/-! The configuration check of TIME (R129, R131) and the enable (R121). -/

/-- Whether the log intervals lie in their ranges (R130). -/
def State.logIntervalsOk (s : State) : Bool :=
  let a := signed 4 (s.get TIME_PTP_INT_LOG_SYNC)
  let b := signed 4 (s.get TIME_PTP_INT_LOG_ANN)
  let c := signed 4 (s.get TIME_PTP_INT_LOG_DREQ)
  decide (-7 ≤ a ∧ a ≤ 0 ∧ -3 ≤ b ∧ b ≤ 3 ∧ -7 ≤ c ∧ c ≤ 3)

/-- The first offending field of TIME's settings. -/
def checkTime (s : State) : Option (Nat × Nat × Nat) :=
  let inc : Int := (s.get TIME_INCR_INT_INT * 2 ^ 32 + s.get TIME_INCR_FRAC_FRAC : Nat)
  let intv := s.get TIME_PTP_INT_LOG_SYNC + s.get TIME_PTP_INT_LOG_ANN + s.get TIME_PTP_INT_LOG_DREQ
  if inc = 0 then some (ZERO_LEN, 0x01, 0x0C)
  else if 5 * 2 ^ 32 < (3 * inc - 5 * 2 ^ 32).natAbs * 1000 then some (RANGE, 0x01, 0x0C)
  else if s.get TIME_SLEW_CFG_JUMP_THR < 100 ∨ 1000000 < s.get TIME_SLEW_CFG_JUMP_THR ∨ s.get TIME_SLEW_CFG_SLEW_MAX = 0 ∨
    500 < s.get TIME_SLEW_CFG_SLEW_MAX ∨ s.get TIME_SLEW_CFG_SRC = 3 then some (RANGE, 0x01, 0x18)
  else if s.get TIME_PTP_CFG_STEP_CONFIRM = 0 then some (ZERO_LEN, 0x02, 0x00)
  else if s.flag TIME_PTP_CFG_PROFILE ∧ (!s.flag TIME_PTP_CFG_DELAY ∨ s.flag TIME_PTP_CFG_TRANSPORT ∨ intv ≠ 0) then some (DISAGREE, 0x02, 0x00)
  else if s.get TIME_PTP_INT_ANN_TIMEOUT = 0 then some (ZERO_LEN, 0x02, 0x04)
  else if s.get TIME_PTP_INT_ANN_TIMEOUT = 1 ∨ !s.logIntervalsOk then some (RANGE, 0x02, 0x04)
  else none

/-- What the enable of TIME does: no slew runs, and the synchronisation state starts (R121); a slave starts without a master, in HOLDOVER (DESIGN CHOICE, log entry 81). -/
def enterTime (s : State) : State :=
  let s := (s.setPhase 0).set TIME_SYNC_STAT_PORT_ACT (s.get TIME_PTP_CFG_PORT)
  let s := { s with time := { s.time with master := none, backup := none, sync := none, req := none, lastT21 := none, jumpRun := 0, inRun := 0, outRun := 0, lastOfs := none } }
  if s.get TIME_SLEW_CFG_SRC ≠ 1 ∨ s.get TIME_PTP_CFG_ROLE = 0 then s.set TIME_SYNC_STAT_STATE FREE
  else if s.get TIME_PTP_CFG_ROLE = 3 then s.set TIME_SYNC_STAT_STATE MASTER
  else s.enterHoldover

end Sys2Proof.Machine
end

