-- ==== Sys2Proof/Machine/Metr.lean ====
section
/-! DEFINITION. METR and COMB: the legal path (R342 to R346), the accounting at the boundary (R348, R349), the session slots and commands (R350 to R353), the closing records (R354 to R358), and checkpoints (R359, R502). -/

namespace Sys2Proof.Machine

/-! METR (R342 to R346). -/

def State.meterSt (s : State) (b : Nat) : MeterSt := s.meter.getD b ⟨0, [], 0, 0, 0, 0, false⟩
def State.setMeterSt (s : State) (b : Nat) (m : MeterSt) : State := { s with meter := s.meter.set b m }

/-- Whether a bus is metered. -/
def State.metered (s : State) (b : Nat) : Bool := s.en .metr && s.flag METR_MCFG_EN b

/-- The energy of a pair in 2^-32 units of 0.1 mWh, from 2^-62 mV, 2^-62 mA and the output period in thirds of a ns. -/
def pairEnergy (v i : Int) (t3 : Nat) : Int := rdiv (v * i * t3 * 100) (108 * 10 ^ 15 * 2 ^ 92)

/-- Pair the voltage values of a bus whose instants the current outputs bracket (R343). -/
def State.meterPairs (s : State) (b : Nat) : State :=
  let t3 := s.outPeriod3 (2 * b)
  let cur := (s.dsmSt (2 * b + 1)).fine
  ((s.dsmSt (2 * b)).fine.filter (fun v => decide ((s.meterSt b).mark < v.stamp))).foldl (fun s v =>
    match valueAt cur v.stamp with
    | some i =>
      let m := s.meterSt b
      let e := pairEnergy (s.userQ (2 * b) v.x) (s.userQ (2 * b + 1) i.1) t3
      s.setMeterSt b { m with mark := v.stamp, pairs := m.pairs ++ [⟨v.stamp, e, v.ok && i.2⟩] }
    | none => s) s

/-- Show whether a channel of a bus is invalid now; METER_INVALID when it becomes so, with SOD of the bus (R346). -/
def State.meterCheck (s : State) (b : Nat) : State :=
  let inv := !s.flag FIL_DSTAT_VALID (2 * b) || !s.flag FIL_DSTAT_VALID (2 * b + 1)
  let was := s.flag METR_MSTAT_INVALID b
  let s := s.setb METR_MSTAT_INVALID inv b
  if inv && !was then
    let s := s.raise SRC_METR_METER_INVALID b
    if s.flag METR_CFG_INV_SOD then s.sod b SOD_METER else s
  else s

/-- The meter that a bitstream channel feeds follows the channel's validity (R346). -/
def State.meterFollows (s : State) (n : Nat) : State := if decide (n < 24) && s.metered (n / 2) then s.meterCheck (n / 2) else s

/-- A filter output at its decimation instant, and the meter that it feeds. -/
def opFilOutput (n : Nat) (fine : Bool) (x t : Nat) (s : State) : State :=
  if s.dsmOn n then
    let s := s.takeOutput n fine x t
    let s := if fine && decide (n < 24) && s.metered (n / 2) then s.meterPairs (n / 2) else s
    s.meterFollows n
  else s

/-- R401 FIL_OUTPUT. -/
def execFilOutput (n : Fin 36) (fine : Bool) (x : BitVec 32) (t : Nat) (s : State) : Host.Outcome State Fault Refusal :=
  .next (s.live (opFilOutput n.val fine x.toNat t s))

/-- R405 DSM_STUCK. -/
def execDsmStuck (n : Fin 36) (s : State) : Host.Outcome State Fault Refusal := .next (s.live ((opDsmStuck n.val s).meterFollows n.val))

/-- R405 DSM_STUCK_END. -/
def execDsmStuckEnd (n : Fin 36) (s : State) : Host.Outcome State Fault Refusal := .next (s.live ((opDsmStuckEnd n.val s).meterFollows n.val))

/-- R405 SETTLING_END. -/
def execSettlingEnd (n : Fin 36) (fine : Bool) (s : State) : Host.Outcome State Fault Refusal := .next (s.live ((opSettlingEnd n.val fine s).meterFollows n.val))

/-- One unit of 0.1 mWh. -/
def unit32 : Nat := 2 ^ 32

/-- The window that a boundary at TAI `t` closes, for one bus (R344 to R346). -/
def State.meterWindow (s : State) (b t : Nat) : State :=
  let m := s.meterSt b
  let lim : Int := (t : Int) - s.get METR_STAT_LAG
  let win := m.pairs.filter (fun p => decide (p.stamp < lim))
  let rest := m.pairs.filter (fun p => !decide (p.stamp < lim))
  if win.all (fun p => p.ok) then
    let imp := (win.map (fun (p : MeterPair) => max 0 p.e)).sum.toNat
    let exp := (win.map (fun (p : MeterPair) => max 0 (-p.e))).sum.toNat
    let i := m.remI + imp
    let e := m.remE + exp
    let s := s.setMeterSt b { m with pairs := rest, remI := i % unit32, remE := e % unit32, incI := i / unit32, incE := e / unit32, bad := false }
    let s := s.set64 METR_TOT_IMP_TOT (s.get64 METR_TOT_IMP_TOT b + i / unit32) b
    let s := s.set64 METR_TOT_EXP_TOT (s.get64 METR_TOT_EXP_TOT b + e / unit32) b
    s.seti METR_PCYC_P (rdiv (((imp : Int) - exp) * 36 * 10 ^ 7) (2 ^ 32 * s.period)) b
  else
    ((s.setMeterSt b { m with pairs := rest, incI := 0, incE := 0, bad := true }).inc METR_INVCYC_N b).set METR_PCYC_P 0 b

/-! COMB: slots (R350). -/

def combSlots : List Nat := List.range 256
def State.combSt (s : State) (i : Nat) : CombSlot := s.comb.slots.getD i ⟨false, 0, 0, false, 0, 0, [], [], 0⟩
def State.setCombSt (s : State) (i : Nat) (c : CombSlot) : State := { s with comb := { s.comb with slots := s.comb.slots.set i c } }

def C_FREE : Nat := 0
def C_RESERVED : Nat := 1
def C_ACTIVE : Nat := 2
def C_SIGNING : Nat := 3
def C_CLOSED : Nat := 4

def State.cst (s : State) (i : Nat) : Nat := s.get COMB_SSTAT_STATE i
def State.csid (s : State) (i : Nat) : Nat := s.get64 COMB_SSID_SID i
def State.cbus (s : State) (i : Nat) : Nat := s.get COMB_SSTAT_BUS i
def State.chdl (s : State) (i : Nat) : Nat := s.get COMB_SHDL_HDL i

/-- Whether the propolis switches count as open for session flags (R542). -/
def State.sealOpen (s : State) : Bool := s.get SEAL_SW_STATE != 0 || s.flag SEAL_SW_DIVERGED

/-- Set a flag bit of a slot (record byte 2). -/
def State.combFlag (s : State) (i k : Nat) (v : Bool) : State := if v then s.set COMB_SSTAT_FLAGS (s.get COMB_SSTAT_FLAGS i ||| 1 <<< k) i else s

/-- Keep FREE and QUEUED (R367). -/
def State.combCounts (s : State) : State :=
  (s.set COMB_SIGN_FREE (combSlots.filter (fun i => s.cst i == C_FREE)).length).set COMB_SIGN_QUEUED s.comb.queue.length

/-- A slot changes state: the counts, and OUT_BSTAT.SESSION of its bus. -/
def State.combTo (s : State) (i st : Nat) : State :=
  let s := (s.set COMB_SSTAT_STATE st i).combCounts
  let b := s.cbus i
  let s := { s with comb := { s.comb with changed := true } }
  if b < 12 then s.setb OUT_BSTAT_SESSION (combSlots.any (fun q => s.cst q == C_ACTIVE && s.cbus q == b)) b else s

/-- The exchange word of a slot (R492). -/
def State.postSlot (s : State) (i : Nat) : State :=
  s.portAWrite (0x38000 + 4 * i) (s.cst i + 16 * s.cbus i + 256 * s.get COMB_SSTAT_FLAGS i + 65536)

/-- A slot takes a session: its registers start from nothing. -/
def State.combTake (s : State) (i sid bus cid st : Nat) : State :=
  let s := (List.range 16).foldl (fun s k => s.putWord (COMB_SSTAT_STATE.addr i 0 + 4 * k) 0#32) s
  let s := ((s.set64 COMB_SSID_SID sid i).set COMB_SSTAT_BUS bus i).set COMB_SCID_START_CID cid i
  (s.setCombSt i ⟨false, (s.combSt i).freed, 0, false, 0, 0, [], [], 0⟩).combTo i st

/-- A slot becomes FREE and keeps its tombstone with a handle. -/
def State.combFree (s : State) (i hdl : Nat) : State :=
  let n := s.comb.count + 1
  let s := { s with comb := { s.comb with count := n } }
  ((s.setCombSt i { s.combSt i with tomb := true, freed := n, record := [], sig := [] }).set COMB_SHDL_HDL hdl i).combTo i C_FREE

/-- The FREE slot freed longest ago, the lowest on a tie (R351). -/
def State.combPick (s : State) : Option Nat :=
  combSlots.foldl (fun best i =>
    if s.cst i ≠ C_FREE then best
    else match best with
      | none => some i
      | some q => if (s.combSt i).freed < (s.combSt q).freed then some i else best) none

/-! Accounting (R348). -/

/-- TIME_SYNC_STAT.STATE neither LOCKED nor MASTER. -/
def unlocked (st : Nat) : Bool := st != LOCKED_ST && st != MASTER

/-- Step 1 of R25 for one ACTIVE slot. -/
def State.combAccount (s : State) (stepped : Bool) (i : Nat) : State :=
  let b := s.cbus i
  let m := s.meterSt b
  let c := s.combSt i
  let cb := s.curtailed b
  let f := c.frac + (rdiv (cb * s.period * 2 ^ 32 * 100) (36 * 10 ^ 15)).toNat
  let s := s.set64 COMB_SEIMP_E (s.get64 COMB_SEIMP_E i + m.incI) i
  let s := s.set64 COMB_SEEXP_E (s.get64 COMB_SEEXP_E i + m.incE) i
  let s := s.set64 COMB_SECURT_E (s.get64 COMB_SECURT_E i + f / unit32) i
  let s := if 0 < cb ∧ c.cur = false then s.inc COMB_SNCURT_N i else s
  let s := s.setCombSt i { c with frac := f % unit32, cur := decide (0 < cb), inval := if m.bad then c.inval + 1 else c.inval }
  let s := s.set COMB_SSTAT_SEAL_WORD (s.get SEAL_SW_WORD) i
  (((s.combFlag i 1 s.sealOpen).combFlag i 2 (s.get COMB_SNCURT_N i != 0)).combFlag i 4 stepped).combFlag i 5 m.bad

/-! The closing record (R354, R355). -/

/-- The totalisers of a slot's bus. -/
def State.slotTotals (s : State) (i : Nat) : Nat × Nat := (s.get64 METR_TOT_IMP_TOT (s.cbus i), s.get64 METR_TOT_EXP_TOT (s.cbus i))

/-- The 128 bytes of a slot's record, with the totalisers of its bus at its stop. -/
def State.recordOf (s : State) (i sync1 gap : Nat) (tot : Nat × Nat) : List Byte :=
  let b := s.cbus i
  let body := leBytes 2 1 ++ leBytes 1 (s.get COMB_SSTAT_FLAGS i) ++ leBytes 1 b ++ leBytes 4 (s.chdl i) ++ leBytes 8 (s.get64 METR_DEVID_ID)
    ++ leBytes 8 (s.csid i) ++ leBytes 2 (s.get COMB_SCID_START_CID i) ++ leBytes 2 (s.get COMB_SCID_STOP_CID i)
    ++ leBytes 8 (s.get64 COMB_SSTART_TAI i) ++ leBytes 8 (s.get64 COMB_SSTOP_TAI i)
    ++ leBytes 8 (s.get64 COMB_SEIMP_E i) ++ leBytes 8 (s.get64 COMB_SEEXP_E i) ++ leBytes 8 (s.get64 COMB_SECURT_E i)
    ++ leBytes 4 (s.get COMB_SNCURT_N i) ++ leBytes 8 tot.1 ++ leBytes 8 tot.2
    ++ leBytes 4 (s.get METR_STAT_LAG) ++ leBytes 4 (s.combSt i).inval ++ leBytes 2 (s.get COMB_SSTAT_SEAL_WORD i)
    ++ leBytes 1 (s.combSt i).sync ++ leBytes 1 sync1 ++ leBytes 4 (s.get SEAL_DIGEST_DIGEST 0 0) ++ leBytes 4 (s.get SEAL_DIGEST_DIGEST 0 1)
    ++ leBytes 4 (s.get BOOT_GEN_GENERATION) ++ slice s.comb.prev 0 8 ++ leBytes 4 gap
  body ++ leBytes 4 (crc32 body).toNat

/-- Slots whose record is built and waits outside the signing queue, in REC_SEQ order; a device beside an active partner signs none (R360). -/
def State.backlog (s : State) : List Nat :=
  if s.follows then [] else
  ((combSlots.filter (fun i => s.cst i == C_SIGNING && !(s.combSt i).record.isEmpty && (s.combSt i).sig.isEmpty && decide ((s.combSt i).tries < 2)
    && !s.comb.queue.contains i)).foldl (fun l i => insDesc (2 ^ 32 - s.chdl i) i l) []).map (fun p => p.2)

/-- A built record enters the signing queue while a place is free (R356). -/
def opSignQueueEnter (s : State) : State :=
  match s.backlog with
  | i :: _ => if s.comb.queue.length < 32 then ({ s with comb := { s.comb with queue := s.comb.queue ++ [i] } } : State).combCounts else s
  | [] => s

/-- R356 SIGN_QUEUE_ENTER. -/
def execSignQueueEnter (s : State) : Host.Outcome State Fault Refusal := .next (s.live (opSignQueueEnter s))

/-- Build the record of a SIGNING slot; it enters the queue, or SIGN_BACKLOG begins. -/
def State.buildRecord (s : State) (i sync1 gap : Nat) (tot : Nat × Nat) : State :=
  let was := s.backlog.isEmpty
  let r := s.recordOf i sync1 gap tot
  let s := s.setCombSt i { s.combSt i with record := r }
  let s := opSignQueueEnter { s with comb := { s.comb with prev := (sha256 r).take 8 } }
  s.raiseIf (was && !s.backlog.isEmpty) SRC_COMB_SIGN_BACKLOG i

/-- A session stops at TAI `t` (R350, R353). -/
def State.combStop (s : State) (i cid t : Nat) : State :=
  let st := s.get TIME_SYNC_STAT_STATE
  let n := s.get METR_SEQ_NEXT
  let s := (((s.set64 COMB_SSTOP_TAI t i).set COMB_SCID_STOP_CID cid i).set COMB_SHDL_HDL n i).set COMB_SSTAT_SEAL_WORD (s.get SEAL_SW_WORD) i
  let s := ((s.set METR_SEQ_NEXT (n + 1)).combFlag i 3 (unlocked (s.combSt i).sync || unlocked st)).combTo i C_SIGNING
  s.buildRecord i st 0 (s.slotTotals i)

/-- The order n of the group of P-256 (FIPS 186-5, which R355 names). -/
def p256n : Nat := 0xFFFFFFFF00000000FFFFFFFFFFFFFFFFBCE6FAADA7179E84F3B9CAC2FC632551

/-- The 64 bytes of a signature of a digest: r then s, big-endian, s reduced to at most n/2 (R355). -/
def signature (h : List Byte) : List Byte :=
  let s := (Config.ecdsa h).2 % p256n
  beBytes 32 ((Config.ecdsa h).1 % p256n) ++ beBytes 32 (min s (p256n - s))

/-- The signing of the record at the front of the queue completes: it is verified and released, or signed once more (R355, R357). -/
def opRecordSigned (s : State) : State :=
  match s.comb.queue with
  | [] => s
  | i :: q =>
    if s.en .comb && !s.follows then
      let c := s.combSt i
      let h := sha256 c.record
      let sig := signature h
      if Config.verify h sig c.tries then
        let w := s.mramWrite (MRAM + 192 * (s.chdl i % 2048)) (c.record ++ sig)
        let s := w.2.raiseIf (!w.1) SRC_COMB_LOG_FAIL i
        let s := { s with comb := { s.comb with queue := q }, part := { s.part with record := some (s.chdl i, c.record ++ sig) } }
        ((s.setCombSt i { c with sig := sig }).combTo i C_CLOSED).raise SRC_COMB_SIGNED i
      else
        let s := (s.setCombSt i { c with tries := c.tries + 1 }).raise SRC_COMB_SIGN_FAIL i
        if c.tries = 0 then s else ({ s with comb := { s.comb with queue := q } } : State).combCounts
    else s

/-- R355 RECORD_SIGNED. -/
def execRecordSigned (s : State) : Host.Outcome State Fault Refusal := .next (s.live (opRecordSigned s))

/-! Session commands (R352, R353). -/

/-- The write of COMB_CMD submits a command with the session and the handle that COMB_CMD_SID and COMB_CMD_HDL hold then (R352; log entry 89). -/
def opCombCmd (op bus cid : Nat) (s : State) : Bool × State :=
  if s.flag COMB_RSP_BUSY then (false, s.refuse .comb 0x1A27 0x00 0x18)
  else if !s.en .comb || s.follows then (false, s.refuseC .comb STATE 0x00 0x18)
  else
    let late := s.pastCut
    let s := (s.set COMB_RSP_BUSY 1).set COMB_RSP_DONE 0
    let c : CombCmd := ⟨op, bus, cid, s.get64 COMB_CMD_SID_SID, s.get COMB_CMD_HDL_HDL, late⟩
    (true, ({ s with comb := { s.comb with cmd := some c } } : State).deferral)

/-- R353 SESSION_RESERVE. -/
def execSessionReserve (bus : BitVec 4) (cid : BitVec 16) (s : State) : Host.Outcome State Fault Refusal := .next (s.live (opCombCmd 1 bus.toNat cid.toNat s).2)
/-- R353 SESSION_START. -/
def execSessionStart (bus : BitVec 4) (cid : BitVec 16) (s : State) : Host.Outcome State Fault Refusal := .next (s.live (opCombCmd 2 bus.toNat cid.toNat s).2)
/-- R353 SESSION_STOP. -/
def execSessionStop (cid : BitVec 16) (s : State) : Host.Outcome State Fault Refusal := .next (s.live (opCombCmd 3 0 cid.toNat s).2)
/-- R353 SESSION_CANCEL. -/
def execSessionCancel (s : State) : Host.Outcome State Fault Refusal := .next (s.live (opCombCmd 4 0 0 s).2)
/-- R353 SESSION_ACK. -/
def execSessionAck (s : State) : Host.Outcome State Fault Refusal := .next (s.live (opCombCmd 5 0 0 s).2)

/-- Whether sessions may exist on a bus (R350). -/
def State.sessionBus (s : State) (b : Nat) : Bool := decide (b < 12) && s.busEn b && !s.isStore b && s.metered b

/-- A slot that satisfies a condition. -/
def State.combFind (_s : State) (p : Nat → Bool) : Option Nat := combSlots.find? p

/-- The answer of a command: STATUS, slot, handle. -/
structure CombAns where
  status : Nat
  slot : Nat
  hdl : Nat
  deriving DecidableEq, Repr

/-- RESERVE (R353). -/
def State.judgeReserve (s : State) (sid bus cid : Nat) : CombAns × State :=
  match s.combFind (fun i => s.cst i == C_RESERVED && s.csid i == sid && s.cbus i == bus && s.get COMB_SCID_START_CID i == cid) with
  | some i => (⟨1, i, 0⟩, s)
  | none =>
    if (s.combFind (fun i => s.cst i != C_FREE && s.csid i == sid)).isSome then (⟨0x20, 0, 0⟩, s)
    else if !s.sessionBus bus then (⟨0x23, 0, 0⟩, s)
    else if (s.combFind (fun i => s.cst i == C_RESERVED && s.cbus i == bus)).isSome then (⟨0x22, 0, 0⟩, s)
    else match s.combPick with
      | none => (⟨0x24, 0, 0⟩, s)
      | some i => (⟨0, i, 0⟩, (s.combTake i sid bus cid C_RESERVED).postSlot i)

/-- A slot becomes ACTIVE at TAI `t`. -/
def State.combStart (s : State) (i sid bus cid t : Nat) : State :=
  let st := s.get TIME_SYNC_STAT_STATE
  let s := (s.combTake i sid bus cid C_ACTIVE).set64 COMB_SSTART_TAI t i
  ((s.setCombSt i { s.combSt i with sync := st }).combFlag i 3 (unlocked st)).postSlot i

/-- START (R353). -/
def State.judgeStart (s : State) (sid bus cid t : Nat) : CombAns × State :=
  let late := fun (i : Nat) => decide (C_ACTIVE ≤ s.cst i) && s.csid i == sid
  match s.combFind (fun i => late i && s.get COMB_SCID_START_CID i == cid) with
  | some i => (⟨1, i, s.chdl i⟩, s)
  | none =>
    if (s.combFind late).isSome then (⟨0x20, 0, 0⟩, s)
    else
    let r := s.combFind (fun i => s.cst i == C_RESERVED && s.csid i == sid)
    if (match r with | some i => s.cbus i != bus | none => false) then (⟨0x20, 0, 0⟩, s)
    else if !s.sessionBus bus then (⟨0x23, 0, 0⟩, s)
    else if (s.combFind (fun i => s.cst i == C_ACTIVE && s.cbus i == bus)).isSome then (⟨0x22, 0, 0⟩, s)
    else match r with
      | some i => (⟨0, i, 0⟩, s.combStart i sid bus cid t)
      | none =>
        if (s.combFind (fun i => s.cst i == C_RESERVED && s.cbus i == bus)).isSome then (⟨0x22, 0, 0⟩, s)
        else match s.combPick with
          | none => (⟨0x24, 0, 0⟩, s)
          | some i => (⟨0, i, 0⟩, s.combStart i sid bus cid t)

/-- Whether a slot is a tombstone of a session. -/
def State.tombOf (s : State) (sid i : Nat) : Bool := s.cst i == C_FREE && (s.combSt i).tomb && s.csid i == sid

/-- STOP (R353). -/
def State.judgeStop (s : State) (sid cid t : Nat) : CombAns × State :=
  match s.combFind (fun i => s.cst i == C_ACTIVE && s.csid i == sid) with
  | some i =>
    let s := (s.combStop i cid t).postSlot i
    (⟨0, i, s.chdl i⟩, s)
  | none =>
    match s.combFind (fun i => (s.cst i == C_SIGNING || s.cst i == C_CLOSED || s.tombOf sid i) && s.csid i == sid && s.chdl i != 0) with
    | some i => (⟨1, i, s.chdl i⟩, s)
    | none => (⟨if (s.combFind (fun i => s.cst i == C_RESERVED && s.csid i == sid)).isSome then STATE else 0x21, 0, 0⟩, s)

/-- CANCEL (R353). -/
def State.judgeCancel (s : State) (sid : Nat) : CombAns × State :=
  match s.combFind (fun i => s.cst i == C_RESERVED && s.csid i == sid) with
  | some i => (⟨0, i, 0⟩, (s.combFree i 0).postSlot i)
  | none =>
    match s.combFind (fun i => s.tombOf sid i && s.chdl i == 0) with
    | some i => (⟨1, i, 0⟩, s)
    | none => (⟨if (s.combFind (fun i => decide (C_ACTIVE ≤ s.cst i) && s.csid i == sid)).isSome then STATE else 0x21, 0, 0⟩, s)

/-- ACK (R353). -/
def State.judgeAck (s : State) (sid hdl : Nat) : CombAns × State :=
  match s.combFind (fun i => s.cst i == C_CLOSED && s.csid i == sid && s.chdl i == hdl) with
  | some i => (⟨0, i, 0⟩, (s.combFree i hdl).postSlot i)
  | none =>
    match s.combFind (fun i => s.tombOf sid i && s.chdl i == hdl) with
    | some i => (⟨1, i, 0⟩, s)
    | none =>
      (⟨if (s.combFind (fun i => s.cst i == C_SIGNING && s.csid i == sid)).isSome then 0x25
        else if (s.combFind (fun i => s.cst i == C_CLOSED && s.csid i == sid)).isSome then 0x26 else 0x21, 0, 0⟩, s)

/-- Step 2 of R25 at TAI `t`: the held command is judged, unless it missed this boundary's cut point. -/
def State.combJudge (s : State) (t : Nat) : State :=
  match s.comb.cmd with
  | none => s
  | some c =>
    if c.late then { s with comb := { s.comb with cmd := some { c with late := false } } }
    else
    let r := match c.op with
      | 1 => s.judgeReserve c.sid c.bus c.cid
      | 2 => s.judgeStart c.sid c.bus c.cid t
      | 3 => s.judgeStop c.sid c.cid t
      | 4 => s.judgeCancel c.sid
      | 5 => s.judgeAck c.sid c.hdl
      | _ => (⟨RANGE, 0, 0⟩, s)
    let a := r.1
    let s := { r.2 with comb := { r.2.comb with cmd := none } }
    let s := if a.status ≤ 1 then s else (s.refuse .comb (0x1A00 + a.status) 0x00 0x18).raiseIf (a.status == 0x24) SRC_COMB_COMB_FULL 0x00
    let s := ((s.set COMB_RSP_BUSY 0).set COMB_RSP_DONE 1).set COMB_RSP_STATUS a.status
    ((s.set COMB_RSP_SLOT a.slot).set COMB_RSP_HDL_HDL (if c.op = 3 then a.hdl else 0)).raise SRC_COMB_CMD_DONE a.slot

/-! Fetch (R358). -/

/-- A write of a handle to COMB_FETCH. -/
def opCombFetch (h : Nat) (s : State) : Bool × State :=
  if !s.en .comb then (false, s.refuseC .comb STATE 0x00 0x34)
  else (true, (({ s with comb := { s.comb with fetch := some h } } : State).set COMB_FETCH_STAT_DONE 0).set COMB_FETCH_STAT_FAIL 0)

/-- R358 COMB_FETCH. -/
def execCombFetch (hdl : BitVec 32) (s : State) : Host.Outcome State Fault Refusal := .next (s.live (opCombFetch hdl.toNat s).2)

/-- The copy completes within 100 µs: from the slot that holds the handle, else from the MRAM log. -/
def opCombFetchDone (s : State) : State :=
  match s.comb.fetch with
  | none => s
  | some h =>
    let s := { s with comb := { s.comb with fetch := none } }
    let r : Option (List Byte) × State := match s.combFind (fun i => (s.cst i == C_SIGNING || s.cst i == C_CLOSED) && s.chdl i == h) with
      | some i => (if (s.combSt i).sig.isEmpty then none else some ((s.combSt i).record ++ (s.combSt i).sig), s)
      | none =>
        let l := s.load 7 (MRAM + 192 * (h % 2048)) 192
        (if l.2.1 || leAt l.1 4 4 != h || leAt l.1 0 2 != 1 then none else some l.1, l.2.2)
    match r.1 with
    | some e => (r.2.store (BANK_HOST + r.2.get COMB_FETCH_BASE_BASE) e).set COMB_FETCH_STAT_DONE 1
    | none => (r.2.set COMB_FETCH_STAT_FAIL 1).refuse .comb 0x1A28 0x00 0x34

/-- R358 COMB_FETCH_DONE. -/
def execCombFetchDone (s : State) : Host.Outcome State Fault Refusal := .next (s.live (opCombFetchDone s))

/-! Checkpoints (R359, R502). -/

/-- Registers that a checkpoint holds: the slot registers of COMB and the totalisers. -/
def ckptReg (a : Nat) : Bool :=
  (decide (0x1A0000 ≤ a) && decide (a < 0x1B0000) && decide (0xC0 ≤ a % 256)) ||
    (decide (0x0B0000 ≤ a) && decide (a < 0x0B0C00) && decide (0x08 ≤ a % 256) && decide (a % 256 < 0x18))

/-- Whether a checkpoint copy, A from 0x6_0000 or B from 0x6_4000, meets a tile that fails its read-back. -/
def State.copyBad (s : State) (off : Nat) : Bool := (tilesOf (MRAM + off) 0x4000).any (s.pwr.mramBad.contains ·)

/-- The poisoned tiles of a checkpoint copy. -/
def State.copyPoison (s : State) (off : Nat) : List Nat := s.badTiles (MRAM + off) 0x4000

/-- METR writes a checkpoint of the boundary at TAI `t` to copy A and then to copy B (R502); before the first enable of COMB has restored the last one it writes none (DEDUCED, log entry 89). -/
def State.checkpoint (s : State) (t : Nat) : State :=
  if s.comb.restored = false then s
  else
  let c : Ckpt := ⟨t, s.get TIME_SYNC_STAT_STATE, s.regs.filter (fun p => ckptReg p.1), s.comb.slots,
    s.meter.map (fun m => (m.remI, m.remE)), s.get METR_SEQ_NEXT, s.comb.prev⟩
  let a := s.copyBad 0x60000
  let b := s.copyBad 0x64000
  let s := { s with comb := { s.comb with changed := false, ckpt := if a && b then s.comb.ckpt else some c },
                    poison := s.poison.filter (fun t => !(s.copyPoison 0x60000).contains t && !(s.copyPoison 0x64000).contains t) }
  (s.raiseIf (a || b) SRC_MEM_MRAM_FAIL 4).raiseIf (a || b) SRC_METR_CKPT_FAIL 0x10

/-- Every CKPT_MS METR writes a checkpoint. -/
def opCheckpoint (s : State) : State := if s.en .metr then s.checkpoint (s.get64 SYS_CYC_START_TAI) else s

/-- R359 CHECKPOINT. -/
def execCheckpoint (s : State) : Host.Outcome State Fault Refusal := .next (s.live (opCheckpoint s))

/-- The checkpoint that a restore reads: a copy with a tile that fails its CRC is not valid, and the reading is recorded (R495, R501, R502). -/
def State.readCkpt (s : State) : Option Ckpt × State :=
  let a := s.copyPoison 0x60000
  let b := s.copyPoison 0x64000
  (if !a.isEmpty && !b.isEmpty then none else s.comb.ckpt, (a ++ b).foldl (fun s t => (s.load 7 (32 * t) 32).2.2) s)

/-- The first enable of COMB after a reset restores the checkpoint; ACTIVE slots are closed as interrupted, and unsigned records are signed. -/
def State.combRestore (s : State) : State :=
  let r := s.readCkpt
  let s := r.2
  match r.1 with
  | none => s
  | some c =>
    let kept := s.regs.filter (fun p => !ckptReg p.1)
    let s := { s with regs := kept }
    let s := c.words.foldl (fun s p => s.putWord p.1 p.2) s
    let s := { s with meter := (s.meter.zip c.rem).map (fun (p : MeterSt × Nat × Nat) => { p.1 with remI := p.2.1, remE := p.2.2 }) }
    let s := s.set METR_SEQ_NEXT c.next
    let s := { s with comb := { s.comb with slots := c.slots.map (fun (x : CombSlot) => { x with tries := 0 }), prev := c.prev, gapTai := c.tai, gapSync := c.sync } }
    let act := combSlots.filter (fun i => s.cst i == C_ACTIVE)
    let s := act.foldl (fun s i =>
      let n := s.get METR_SEQ_NEXT
      let s := ((s.set64 COMB_SSTOP_TAI c.tai i).set COMB_SHDL_HDL n i).set METR_SEQ_NEXT (n + 1)
      ((s.combFlag i 0 true).combFlag i 3 (unlocked (s.combSt i).sync || unlocked c.sync)).combTo i C_SIGNING) s
    let s := { s with comb := { s.comb with gaps := act.map (fun i => (i, s.slotTotals i)) } }
    let old := s.backlog
    let s := old.foldl (fun s _ => opSignQueueEnter s) s
    let s := (s.set METR_STAT_RESTORED 1).combCounts
    s.raiseIf (!act.isEmpty) SRC_METR_RESTORED 0x10

/-- The records of interrupted sessions are built at the first boundary after the enable, with the gap in ms (R359). -/
def State.closeGaps (s : State) (t : Nat) : State :=
  let gap := (t - s.comb.gapTai) / 1000000
  let s := s.comb.gaps.foldl (fun (s : State) (g : Nat × Nat × Nat) => s.buildRecord g.1 s.comb.gapSync gap g.2) s
  { s with comb := { s.comb with gaps := [] } }

/-! The boundary (R25 steps 1 and 2). -/

/-- Step 1 at the boundary of TAI `t`: METR hands over the window, and COMB accounts it. -/
def State.accountStep (s : State) (t : Nat) : State :=
  let s := buses.foldl (fun s b => if s.metered b then s.meterWindow b t else s.setMeterSt b { s.meterSt b with incI := 0, incE := 0, bad := false }) s
  let stepped := s.time.steps != s.comb.steps
  let s := if s.en .metr && s.en .comb then (combSlots.filter (fun i => s.cst i == C_ACTIVE)).foldl (fun s i => s.combAccount stepped i) s else s
  { s with comb := { s.comb with steps := s.time.steps } }

/-- Step 2: COMB judges its command. -/
def State.combStep (s : State) (t : Nat) : State := if s.en .comb then (s.closeGaps t).combJudge t else s

/-- The checkpoint of a boundary at which a slot has changed state (R359). -/
def State.changeCheckpoint (s : State) (t : Nat) : State := if s.en .metr && s.comb.changed then s.checkpoint t else s

/-! The configuration checks (R365, R369). -/

/-- The lag of a pair in sixths of a ns: the longer group delay, the slot skew and the way to METR (R344, R401, R402). -/
def State.lag6 (s : State) (b : Nat) : Nat :=
  let g := max (s.groupDelay6 (2 * b)) (s.groupDelay6 (2 * b + 1))
  if s.flag FIL_CFG_COMPAT48 then
    g + 6 * (max (s.get FIL_DCFG_PHASE_DLY (2 * b)) (s.get FIL_DCFG_PHASE_DLY (2 * b + 1)) - min (s.get FIL_DCFG_PHASE_DLY (2 * b)) (s.get FIL_DCFG_PHASE_DLY (2 * b + 1))) + 6 * 810
  else g + 125 + 240

/-- LAG in ns: whole microseconds. -/
def State.lagNs (s : State) : Nat :=
  (((buses.filter (fun b => s.flag METR_MCFG_EN b)).map (fun b => s.lag6 b)).foldl max 0 + 5999) / 6000 * 1000

/-- The first offending field of METR's settings. -/
def checkMetr (s : State) : Option (Nat × Nat × Nat) :=
  let en := buses.filter (fun b => s.flag METR_MCFG_EN b)
  let ck := s.get METR_CFG_CKPT_MS
  checks [
    firstSome (fun b => bad (s.get METR_MCFG_I_RATED b == 0) ZERO_LEN b 0x00) en,
    bad (decide (ck < 100) || decide (60000 < ck)) RANGE 0x11 0x00,
    firstSome (fun b => bad (!s.flag FIL_DCFG_EN (2 * b) || !s.flag FIL_DCFG_EN (2 * b + 1) || s.dsmDiv (2 * b) != s.dsmDiv (2 * b + 1)) DISAGREE b 0x00) en,
    if 10000000 < s.lagNs then some (0x0B20, 0x11, 0x04) else none]

/-- What the enable of METR does: LAG, no window open, and METER_INVALID where a channel is invalid, from the highest bus down (R102). -/
def enterMetr (s : State) : State :=
  let s := s.set METR_STAT_LAG s.lagNs
  let s := buses.foldl (fun s b =>
    let m := s.meterSt b
    let mark := (((s.dsmSt (2 * b)).fine.getLast?).map (fun x => x.stamp)).getD m.mark
    s.setMeterSt b ⟨mark, [], m.remI, m.remE, 0, 0, false⟩) s
  (buses.filter (fun b => s.metered b)).reverse.foldl (fun s b => s.meterCheck b) s

/-- What the disable of METR does: the windows end. -/
def leaveMetr (s : State) : State :=
  buses.foldl (fun s b => (s.setMeterSt b { s.meterSt b with pairs := [] }).set METR_MSTAT_INVALID 0 b) s

/-- The first offending field of COMB's settings. -/
def checkComb (s : State) : Option (Nat × Nat × Nat) :=
  let base := s.get COMB_FETCH_BASE_BASE
  let hits := fun (b l : Nat) => decide (base < b + 64 * l) && decide (b < base + 192)
  checks [
    bad (base % 64 != 0 || decide (0xC0000 < base + 192)) RANGE 0x00 0x38,
    bad (hits (s.get HIVE_MBX_SQ_BASE) (s.get HIVE_MBX_SQ_QLEN) || hits (s.get HIVE_MBX_CQ_BASE) (s.get HIVE_MBX_CQ_QLEN)) DISAGREE 0x00 0x38]

/-- What the enable of COMB does: the first one after a reset restores the checkpoint (R359); FREE slots count as freed at the enable (R351). -/
def enterComb (s : State) : State :=
  let s := if s.comb.restored then s else { s.combRestore with comb := { s.combRestore.comb with restored := true } }
  let s := { s with comb := { s.comb with count := 0, slots := s.comb.slots.map (fun (x : CombSlot) => { x with freed := 0 }) } }
  s.combCounts

/-- What the disable of COMB does: a command not yet judged is dropped, and a fetch in progress ends. -/
def leaveComb (s : State) : State := ({ s with comb := { s.comb with cmd := none, fetch := none } } : State).set COMB_RSP_BUSY 0

end Sys2Proof.Machine
end

