-- ==== Sys2Proof/Machine/Cal.lean ====
section
/-! DEFINITION. CAL: the user layer and its APPLY (R374, R375), the live estimator (R377 to R381), the trims at the boundary (R380), and the configuration check (R373, R391). -/

namespace Sys2Proof.Machine

/-! The user layer (R375). -/

/-- Every calibration channel, by its unit (R371). -/
def calUnits : List Nat := List.range 36 ++ (List.range 24).map (· + 0x30)

/-- The user values that a METR channel requires (R391): DSM(2b) in mV and DSM(2b + 1) in mA. -/
def State.unitDisagrees (s : State) (u : Nat) : Bool :=
  decide (u < 24) && s.flag METR_MCFG_EN (u / 2) && decide (s.get CAL_UCFG_UNIT u ≠ u % 2)

/-- The first offending field of the staged values (R391). -/
def checkStaged (s : State) : Option (Nat × Nat × Nat) :=
  let far := fun (v : Int) => decide (0x0CCCCCCD < v.natAbs)
  checks [
    firstSome (fun u => bad (s.get CAL_UFS_FS u == 0 && s.get CAL_UCFG_UNIT u != 2) ZERO_LEN u 0x04) calUnits,
    firstSome (fun u => checks [
      bad (s.get CAL_UCFG_UNIT u == 3) RANGE u 0x00,
      bad (far (s.geti CAL_UGAIN_GAIN u)) RANGE u 0x08,
      bad (far (s.geti CAL_UOFS_OFS u)) RANGE u 0x0C]) calUnits,
    firstSome (fun u => bad (s.unitDisagrees u) DISAGREE u 0x00) calUnits]

/-- Whether an APPLY would change the values in force of a channel. -/
def State.staged (s : State) (u : Nat) : Bool :=
  (List.range 4).any (fun k => s.word (CAL_UCFG_UNIT.addr u 0 + 4 * k) != s.word (CAL_UCFG_F_UNIT.addr u 0 + 4 * k))

/-- Every staged value becomes the value in force. -/
def State.putInForce (s : State) : State :=
  calUnits.foldl (fun s u =>
    (List.range 4).foldl (fun s k => s.putWord (CAL_UCFG_F_UNIT.addr u 0 + 4 * k) (s.word (CAL_UCFG_UNIT.addr u 0 + 4 * k))) s) s

/-- The user values take effect: PENDING clears and APPLIED is raised. -/
def State.applyUser (s : State) : State := (s.putInForce.set CAL_UCMD_PENDING 0).raiseC SRC_CAL_APPLIED

/-- A write of 1 to CAL_UCMD.APPLY (R375, R391): behind the seal, checked, logged; at once outside running states, else at a boundary. -/
def opCalApply (s : State) : Bool × State :=
  if s.get SEAL_SW_STATE ≠ 1 then (false, s.refuseC .cal SEAL_CLOSED 0x52 0x10)
  else match checkStaged s with
  | some (r, u, o) => (false, s.refuseC .cal r u o)
  | none =>
    match buses.find? (fun b => s.en .metr && s.flag METR_MCFG_EN b && (s.staged (2 * b) || s.staged (2 * b + 1))) with
    | some _ => (false, s.refuseC .cal LOCKED 0x52 0x10)
    | none =>
      let old := (s.word 0x0C5210).toNat
      let w := s.logAppend 10 0 0x0C5210 old 2 []
      if w.1 then
        let s := w.2.set CAL_UCMD_PENDING 1
        if s.inRun then (true, { s.deferral with cal := { s.deferral.cal with userLate := s.pastCut } }) else (true, s.applyUser)
      else (false, w.2.refuse .seal 0x1924 0x03 0x00)

/-- R375 CAL_APPLY. -/
def execCalApply (s : State) : Host.Outcome State Fault Refusal := .next (s.live (opCalApply s).2)

/-! The live estimator (R377 to R381). -/

def State.calSlot (s : State) (i : Nat) : CalSlot := s.cal.slots.getD i ⟨[], [], none, none, []⟩
def State.setCalSlot (s : State) (i : Nat) (x : CalSlot) : State := { s with cal := { s.cal with slots := s.cal.slots.set i x } }

/-- One ppm of an estimate. -/
def ppm : Int := 2 ^ 40

/-- The bound of an estimate, ±5,000 ppm. -/
def trimBound : Int := 5000 * ppm

/-- Whether a bus has a slot in move step 1 to 5 (R378). -/
def State.busMoving (s : State) (b : Nat) : Bool :=
  s.enSlots.any (fun i => decide (1 ≤ s.allocStep i) && decide (s.allocStep i ≤ 5) &&
    ((s.moveSt i).tgt == b + 1 || (s.moveSt i).orig == b + 1 || s.allocPos i == b + 1))

/-- Whether a slot's report of this cycle can enter an equation. -/
def State.calGood (s : State) (i : Nat) : Bool := s.delivered i && s.get CELL_SSTAT_FE_STATE i != 5

/-- Hold what the equations of this cycle need (R378), at the end of step 4. -/
def State.calSnapshot (s : State) : State :=
  if s.en .cal then
    let iac := (s.enSlots.filter (fun i => s.slotState i == 4 || s.slotState i == 5)).map
      (fun i => (i, s.get CELL_SCFG_STRING i, s.geti CELL_IAC_IAC i, s.calGood i))
    let bus := (buses.filter (fun b => !(s.holders b).isEmpty)).map (fun b =>
      (⟨b, s.busEn b && s.bst b == B_SERVING && !s.busMoving b, (s.holders b).map (fun i => (i, s.geti CELL_IDAB_IDAB i, s.geti CELL_VOUT_VOUT i, s.calGood i))⟩ : CalBus))
    { s with cal := { s.cal with snaps := s.cal.snaps ++ [⟨s.samp, iac, bus⟩] } }
  else s

/-- A reference at a sampling instant (R378): the fine output under layers 1 and 2, in 2^-62 of its unit; nothing where the channel is invalid there. -/
def State.calRef (s : State) (n t : Nat) : Option Int :=
  if s.dsmOn n && !s.dsmBad n then
    match valueAt (s.dsmSt n).fine t with
    | some (x, true) => some (s.userQ n x)
    | _ => none
  else none

/-- Whether the outputs of a reference channel have reached an instant, or will not come. -/
def State.calArrived (s : State) (t n : Nat) : Bool :=
  !s.dsmOn n || (match (s.dsmSt n).fine.getLast? with | some y => decide ((t : Int) ≤ y.stamp) | none => false)

/-- The reference channel of a string (R212). -/
def State.strRef (s : State) (j : Nat) : Option Nat := if j < s.phases then some (ICONV + j) else none

/-- The reference channels of a held cycle. -/
def State.calChannels (s : State) (c : CalSnap) : List Nat :=
  (strings.filterMap (fun j => if c.iac.any (fun m => m.2.1 == j) then s.strRef j else none)) ++ c.bus.flatMap (fun q => [2 * q.b, 2 * q.b + 1])

/-- Clamp an estimate at its bound. -/
def atBound (v : Int) : Bool := decide (trimBound ≤ v) || decide (v ≤ -trimBound)

/-- One member's projection (R379) on channel `k`, for err × MU and den × 2^16: estimates, AT_BOUND with TRIM_LIMIT at its entry, and NEQ. -/
def State.calUpdate (s : State) (late : Bool) (k i : Nat) (v1 err den : Int) : State :=
  let c := s.calSlot i
  let e := c.est.getD k (0, 0)
  let g := e.1 + rdiv (err * v1) den
  let o := e.2 + rdiv (err * one) den
  let e := (clampInt (-trimBound) trimBound g, clampInt (-trimBound) trimBound o)
  let hit := atBound g || atBound o
  let s := s.setCalSlot i { c with est := c.est.set k e, tgt := if late then c.tgt else c.tgt.set k e }
  let was := s.flag ⟨CAL_T_STAT_AT_BOUND.base, 16, 0, 11 + k, 1⟩ i
  let s := s.setb ⟨CAL_T_STAT_AT_BOUND.base, 16, 0, 11 + k, 1⟩ hit i
  (s.raiseIf (hit && !was) SRC_CAL_TRIM_LIMIT (0x60 + i / 16)).inc CAL_T_STAT_NEQ i

/-- Extend a span of accepted references. -/
def widen (p : Option (Int × Int)) (r : Int) : Option (Int × Int) :=
  match p with
  | none => some (r, r)
  | some (a, b) => some (min a r, max b r)

/-- Whether a span reaches 0.2 pu. -/
def wide (p : Option (Int × Int)) : Bool :=
  match p with
  | none => false
  | some (a, b) => decide (one ≤ (b - a) * 5)

/-- Set QUAL of a channel where its condition holds (R379). -/
def State.qualify (s : State) (k i : Nat) : State :=
  let c := s.calSlot i
  let q := if k = 1 then decide (s.get CAL_EST_MIN_SETS ≤ s.get CAL_T_STAT_NSET i)
    else decide (4096 ≤ s.get CAL_T_STAT_NEQ i) && wide (if k = 0 then c.spanI else c.spanV)
  s.setb ⟨CAL_T_STAT_QUAL.base, 16, 0, 8 + k, 1⟩ q i

/-- An equation of one slot: reference less v1 equals G v1 + O (R378, R379). -/
def State.calOne (s : State) (late : Bool) (k i : Nat) (ref v1 : Int) : State :=
  let e := (s.calSlot i).est.getD k (0, 0)
  let err := (ref - v1) * 1000000 * ppm - (e.1 * v1 + e.2 * one)
  let s := s.inc CAL_ESTAT_ACC
  let s := s.calUpdate late k i v1 (err * s.get CAL_EST_MU) ((v1 * v1 + one * one) * 2 ^ 16)
  let c := s.calSlot i
  let s := s.setCalSlot i (if k = 0 then { c with spanI := widen c.spanI ref } else { c with spanV := widen c.spanV ref })
  s.qualify k i

/-- Judge one equation of one slot: taken, or discarded and counted. -/
def State.calJudge (s : State) (late en : Bool) (k i : Nat) (ref : Option Int) (v1 : Int) (ok : Bool) : State :=
  match ref with
  | some r => if en && ok then s.calOne late k i r v1 else s.inc CAL_ESTAT_REJ
  | none => s.inc CAL_ESTAT_REJ

/-- CAL_BRES and SUM_MISMATCH (R381): the mean over the residuals held; the mismatch is judged on 4,096 of them. -/
def State.calResidual (s : State) (b : Nat) (r : Int) : State :=
  let l := (r :: s.cal.res.getD b []).take 4096
  let s := { s with cal := { s.cal with res := s.cal.res.set b l } }
  let n : Int := l.length
  let s := s.seti CAL_BRES_MEAN (clampInt (-32768) 32767 (rdiv (l.sum * 10000) (n * ppm))) b
  let above := decide (4096 ≤ l.length) && decide ((s.get CAL_EST3_MISMATCH : Int) * n * ppm < l.sum.natAbs * 1000)
  let was := s.flag CAL_BRES_MISMATCH b
  (s.setb CAL_BRES_MISMATCH above b).raiseIf (above && !was) SRC_CAL_SUM_MISMATCH 0x53

/-- The IDAB equation of one bus (R378, R379, R381). -/
def State.calBusIdab (s : State) (late : Bool) (t : Nat) (q : CalBus) : State :=
  let ref := s.calRef (2 * q.b + 1) t
  let prev := s.cal.lastI.getD q.b none
  let s := { s with cal := { s.cal with lastI := s.cal.lastI.set q.b ref } }
  match ref with
  | none => s.inc CAL_ESTAT_REJ
  | some i =>
    let jump := match prev with | some p => decide ((s.get CAL_EST3_DI_MAX : Int) * 100 * 2 ^ 62 < (i - p).natAbs) | none => false
    let small := decide ((i.natAbs : Int) < (s.get CAL_EST2_I_MIN : Int) * 100 * 2 ^ 62)
    if s.flag CAL_EST_EN_IDAB && q.ok && q.members.all (fun m => m.2.2.2) && !jump && !small then
      let base := (s.chBase 2).getD 0
      let r := perUnit i base
      let applied := (q.members.map (fun m => trimmed m.2.1 (s.geti CAL_T_IDAB_G m.1) (s.geti CAL_T_IDAB_O m.1))).sum
      let sum := (q.members.map (fun m => m.2.1)).sum
      let pred := (q.members.map (fun m => let e := (s.calSlot m.1).est.getD 1 (0, 0); e.1 * m.2.1 + e.2 * one)).sum
      let den := (q.members.map (fun m => m.2.1 * m.2.1 + one * one)).sum * 2 ^ 16
      let err := ((r - sum) * 1000000 * ppm - pred) * s.get CAL_EST_MU
      let who := q.members.map (fun (m : Nat × Int × Int × Bool) => m.1)
      let s := s.inc CAL_ESTAT_ACC
      let s := q.members.reverse.foldl (fun (s : State) (m : Nat × Int × Int × Bool) =>
        let s := s.calUpdate late 1 m.1 m.2.1 err den
        let c := s.calSlot m.1
        let s := if c.last = who then s else (s.setCalSlot m.1 { c with last := who }).inc CAL_T_STAT_NSET m.1
        s.qualify 1 m.1) s
      s.calResidual q.b (rdiv ((r - applied) * ppm) r)
    else s.inc CAL_ESTAT_REJ

/-- The equations of one held cycle, from the highest slot down, so that EVT_LAST shows the lowest trim unit that raises TRIM_LIMIT (R102). -/
def State.calCycle (s : State) (late : Bool) (c : CalSnap) : State :=
  let refI := fun (s : State) (j : Nat) => match s.strRef j with
    | some n => (s.calRef n c.stamp).map (fun q => perUnit q s.ipk)
    | none => none
  let s := c.iac.reverse.foldl (fun s m => s.calJudge late (s.flag CAL_EST_EN_IAC) 0 m.1 (refI s m.2.1) m.2.2.1 m.2.2.2) s
  c.bus.reverse.foldl (fun s q =>
    let refV := (s.calRef (2 * q.b) c.stamp).map (fun v => perUnit v s.vob)
    let s := q.members.reverse.foldl (fun s m => s.calJudge late (s.flag CAL_EST_EN_VOUT) 2 m.1 refV m.2.2.1 (q.ok && m.2.2.2)) s
    s.calBusIdab late c.stamp q) s

/-- The estimator takes the oldest held cycle once the fine outputs that cover its sampling instant have arrived (R380); an update past the cut point waits for the boundary after next (R24). -/
def opCalEstimate (s : State) : State :=
  match s.cal.snaps with
  | [] => s
  | c :: rest =>
    if s.en .cal && (s.calChannels c).all (fun n => s.calArrived c.stamp n) then
      let late := s.pastCut
      let s := s.deferral
      let s := { s with cal := { s.cal with snaps := rest, late := s.cal.late || late } }
      s.calCycle late c
    else s

/-- R379 CAL_ESTIMATE. -/
def execCalEstimate (s : State) : Host.Outcome State Fault Refusal := .next (s.live (opCalEstimate s))

/-! The boundary (R380). -/

/-- Move an applied value toward an estimate by at most TRIM_STEP ppm. -/
def State.trimToward (s : State) (f : Fld) (i : Nat) (e : Int) : State :=
  let x := s.geti f i
  let d := clampInt (-(s.get CAL_EST2_TRIM_STEP : Int)) (s.get CAL_EST2_TRIM_STEP) (rdiv e ppm - x)
  s.seti f (x + d) i

/-- The gain and offset fields of a channel. -/
def trimG (k : Nat) : Fld := match k with | 0 => CAL_T_IAC_G | 1 => CAL_T_IDAB_G | _ => CAL_T_VOUT_G
def trimO (k : Nat) : Fld := match k with | 0 => CAL_T_IAC_O | 1 => CAL_T_IDAB_O | _ => CAL_T_VOUT_O

/-- R25 step 5: qualified trims move, and requested user values take effect (R375, R380). -/
def State.calBoundary (s : State) : State :=
  let s := if s.en .cal then slots.foldl (fun s i =>
      (List.range 3).foldl (fun s k =>
        if s.flag ⟨CAL_T_STAT_QUAL.base, 16, 0, 8 + k, 1⟩ i then
          let e := (s.calSlot i).tgt.getD k (0, 0)
          (s.trimToward (trimG k) i e.1).trimToward (trimO k) i e.2
        else s) s) s else s
  let s := if s.cal.late then
      { s with cal := { s.cal with late := false, slots := s.cal.slots.map (fun (c : CalSlot) => { c with tgt := c.est }) } } else s
  if s.flag CAL_UCMD_PENDING then
    (if s.cal.userLate then { s with cal := { s.cal with userLate := false } } else s.applyUser)
  else s

/-! The configuration check (R373, R391) and the enable. -/

/-- The CRC-32 of the factory unit's words 0x00 to 0x1C. -/
def State.factoryCrc (s : State) : Nat := (crc32 ((List.range 8).flatMap (fun k => leBytes 4 (s.word (0x0C5100 + 4 * k)).toNat))).toNat

/-- The first offending field of CAL's settings. -/
def checkCal (s : State) : Option (Nat × Nat × Nat) :=
  match checkStaged s with
  | some (r, u, o) => some (r, u, o)
  | none => checks [
    bad (s.get CAL_EST_MIN_SETS == 0 || s.get CAL_EST_MU == 0) ZERO_LEN 0x52 0x00,
    bad (s.get CAL_EST2_TRIM_STEP == 0) ZERO_LEN 0x52 0x04,
    bad (s.get CAL_EST3_DI_MAX == 0 || s.get CAL_EST3_MISMATCH == 0) ZERO_LEN 0x52 0x08,
    bad (s.get CAL_XCHK_XCHK_LIM == 0 || s.get CAL_XCHK_XCHK_N == 0 || s.get CAL_XCHK_XCHK_MEAN == 0) ZERO_LEN 0x52 0x0C,
    bad (decide (5000 < s.get CAL_EST2_TRIM_STEP)) RANGE 0x52 0x04,
    bad (decide (1000 < s.get CAL_EST3_MISMATCH)) RANGE 0x52 0x08,
    bad (decide (s.get CAL_XCHK_XCHK_LIM < s.get CAL_XCHK_XCHK_MEAN)) DISAGREE 0x52 0x0C,
    bad (s.factoryCrc != s.get CAL_F_CRC_FUSE_CRC) 0x21 0x51 0x20]

/-- Forget the cycles held, the residuals and the last currents. -/
def State.calClear (s : State) : State :=
  { s with cal := { s.cal with snaps := [], res := List.replicate 12 [], lastI := List.replicate 12 none } }

/-- What the enable of CAL does: its counters reset. -/
def enterCal (s : State) : State :=
  let s := (((s.set CAL_XCNT_FAIL_CNT 0).set CAL_ESTAT_ACC 0).set CAL_ESTAT_REJ 0).calClear
  let s := buses.foldl (fun s b => (s.set CAL_BRES_MEAN 0 b).set CAL_BRES_MISMATCH 0 b) s
  slots.foldl (fun s i => ((s.set CAL_T_STAT_NEQ 0 i).set CAL_T_STAT_NSET 0 i).set CAL_T_STAT_QUAL 0 i) s

/-- What the disable of CAL does. -/
def leaveCal (s : State) : State := s.calClear

end Sys2Proof.Machine
end

