-- ==== Sys2Proof/Machine/Cap.lean ====
section
/-! DEFINITION. CAP: ticks, records and triggers (R408, R409), its commands (R410), the stream (R412, R413), and the configuration check (R424). -/

namespace Sys2Proof.Machine

/-! The stream's packets (R412, R413). -/

/-- Records in a full DATA packet. -/
def State.perPacket (s : State) : Nat := 1476 / s.recSize

/-- The Layer 2 header of a stream frame (R412, R538): CAP_DMAC and the address of ETH0, each with its low byte first as R552 sends an address, and the Ethertype. -/
def State.capL2 (s : State) : List Byte :=
  leBytes 6 (s.get64 CAP_DMAC_DMAC) ++ leBytes 4 (s.get ETH_MAC_LO_MAC) ++ leBytes 2 (s.get ETH_MAC_HI_MAC) ++ [0x88#8, 0xB5#8]

/-- Send one packet on ETH0: flags, first record, number of records and what follows byte 24. -/
def State.capSend (s : State) (flags first n : Nat) (body : List Byte) : State :=
  let h := leBytes 2 (s.get CAP_DMAC_STREAM_ID) ++ [BitVec.ofNat 8 flags, 0#8] ++ leBytes 4 s.cap.seq ++ leBytes 8 first
    ++ leBytes 2 n ++ leBytes 2 s.recSize ++ leBytes 4 0
  let s := s.set CAP_SEQ_SEQ s.cap.seq
  { s with cap := { s.cap with seq := s.cap.seq + 1, packet := s.capL2 ++ h ++ body } }

/-- The START packet. -/
def State.capSendStart (s : State) : State :=
  if s.macSends false then { s.capSend 1 0 0 s.capHeader with cap := { (s.capSend 1 0 0 s.capHeader).cap with startDue := false } } else s

/-- A record as the stream sends it: a record in a poisoned tile goes out as invalid codes (R495). -/
def State.capRead (s : State) (i : Nat) : List Byte × State :=
  let l := s.load 5 (s.recAddr i) s.recSize
  if l.2.1 then
    ((List.range (s.get CAP_CFG_N_SIG)).flatMap (fun _ => leBytes s.valSize (if s.flag CAP_CFG_WIDTH then 0x80000000 else 0x8000)), l.2.2)
  else (l.1, l.2.2)

/-- A packet leaves ETH0: the START packet, then K records, or the rest when the capture has ended (R412). -/
def opCapPacketSend (s : State) : State :=
  if !(s.en .cap && s.capStream && s.macSends false) then s
  else if s.cap.startDue then s.capSendStart
  else
    let have' := s.cap.stored - s.cap.sent
    let n := min s.perPacket have'
    if s.perPacket ≤ have' ∨ (s.capState = CAP_DONE ∧ 0 < have') then
      let i := s.cap.sent
      let r := (List.range n).foldl (fun (p : List Byte × State) k => let l := p.2.capRead (i + k); (p.1 ++ l.1, l.2)) ([], s)
      let trig := match s.cap.trig with | some t => decide (i ≤ t) && decide (t < i + n) | none => false
      let s := r.2.capSend (2 + 16 * b2n trig) i n r.1
      { s with cap := { s.cap with sent := i + n } }
    else s

/-- R412 CAP_PACKET_SEND. -/
def execCapPacketSend (s : State) : Host.Outcome State Fault Refusal := .next (s.live (opCapPacketSend s))

/-- The END packet leaves once every stored record has been sent (R412). -/
def opCapEndPacket (s : State) : State :=
  if s.en .cap && s.cap.endDue && !s.cap.startDue && s.cap.sent == s.cap.stored && s.macSends false then
    let s := s.capSend (4 + 8 * b2n (s.get CAP_STAT_END_CAUSE == 2)) s.cap.stored 0 s.capHeader
    { s with cap := { s.cap with endDue := false } }
  else s

/-- R412 CAP_END_PACKET. -/
def execCapEndPacket (s : State) : Host.Outcome State Fault Refusal := .next (s.live (opCapEndPacket s))

/-! Ticks and records (R408). -/

/-- The tick to take next: the first multiple of PER not before ARM, then one PER later each time. -/
def State.capTickAt (s : State) : Nat :=
  let p := s.get CAP_PER_PER
  if s.cap.ticks = 0 then (s.now + p - 1) / p * p else s.cap.first + s.cap.ticks * p

/-- A capture tick falls (R408): it takes with it a FORCE, or a severe source risen with TRIG = 2, since the tick before (R409). -/
def opCapTick (s : State) : State :=
  if s.en .cap && s.capLive && s.cap.ending == 0 then
    let t := s.capTickAt
    let s := s.advanceTo t
    { s with cap := { s.cap with first := if s.cap.ticks = 0 then t else s.cap.first, ticks := s.cap.ticks + 1,
                                 pend := s.cap.pend ++ [(t, s.cap.force)], force := false } }
  else s

/-- R408 CAP_TICK. -/
def execCapTick (s : State) : Host.Outcome State Fault Refusal := .next (s.live (opCapTick s))

/-- Whether a SAR channel stands in a used entry of a sequence table. -/
def State.ainUsed (s : State) (n : Nat) : Bool := s.en .adc && [0, 1].any (fun a => (s.sarEntries a).any (fun e => s.get ADC_SEQ_CH a e == n))

/-- The outputs of signal `i`, and whether the source is producing them. -/
def State.capSource (s : State) (i : Nat) : List Sample × Bool :=
  let n := s.get CAP_SIG_SRC 0 i
  match s.get CAP_SIG_CLASS 0 i with
  | 0 => ((s.dsmSt n).fine, s.dsmOn n)
  | 1 => ((s.dsmSt n).skim, s.dsmOn n)
  | _ => ((s.ainSt n).fine, s.ainUsed n)

/-- Whether the value of signal `i` at a tick can be formed. -/
def State.capReady (s : State) (t i : Nat) : Bool :=
  let p := s.capSource i
  !p.2 || (match p.1.getLast? with | some y => decide ((t : Int) ≤ y.stamp) | none => false)

/-- The value of signal `i` at a tick, in 2^-31 of full scale; nothing where it is invalid. -/
def State.capValue (s : State) (t i : Nat) : Option Int :=
  let p := s.capSource i
  if p.2 then (match valueAt p.1 t with | some (x, true) => some (q29 x) | _ => none) else none

/-- Bits [31:16] rounded to nearest; how a tie rounds is open (log entry 6). -/
def round16 (v : Int) : Nat :=
  let q := v.fdiv 65536
  let r := v.fmod 65536
  unsigned 16 (if r < 32768 then q else if 32768 < r then q + 1 else if Config.roundUp v 65536 then q + 1 else q)

/-- A value as a record holds it, the invalid code kept for invalid values (R408). -/
def capCode (wide : Bool) (v : Option Int) : Nat :=
  let inv := if wide then 0x80000000 else 0x8000
  match v with
  | none => inv
  | some x => let c := if wide then unsigned 32 x else round16 x; if c = inv then inv + 1 else c

/-- The level trigger judged on a record (R409): whether it fires, and whether it is armed afterwards. -/
def State.capLevel (s : State) (v : Option Int) : Bool × Bool :=
  let l := s.geti CAP_LEVEL_L
  let h : Int := s.get CAP_HYST_HY
  match v with
  | none => (false, false)
  | some x =>
    if s.flag CAP_CFG_EDGE then (s.cap.armed && decide (x ≤ l), s.cap.armed || decide (l + h < x))
    else (s.cap.armed && decide (l ≤ x), s.cap.armed || decide (x < l - h))

/-- The crossing between the record before and this one, in 2^-32 ns of TAI, truncated (R409). -/
def State.crossing (s : State) (t : Nat) (v : Int) : Nat :=
  let p := s.get CAP_PER_PER
  let a := (s.cap.prev - s.geti CAP_LEVEL_L).natAbs
  let d := (s.cap.prev - v).natAbs
  (t - p) * 2 ^ 32 + a * p * 2 ^ 32 / d

/-- The trigger on record `i` at an instant in 2^-32 ns (R409, R127). -/
def State.capTrigger (s : State) (i at32 : Nat) : State :=
  let pre := if s.capStream then 0 else min i (s.get CAP_PRE_PRE)
  let s := (s.set64 CAP_TRIG_TAI_TAI (at32 / 2 ^ 32)).set CAP_TRIG_FRAC_FRAC (at32 % 2 ^ 32)
  let s := { s with cap := { s.cap with trig := some i, pre := pre, sync := s.get TIME_SYNC_STAT_STATE, ofs := s.get TIME_OFS_LAST_OFS } }
  (s.set CAP_STAT_STATE CAP_TRIGGERED).raise SRC_CAP_TRIGGERED 0x03

/-- Ring occupancy as FILL_MAX counts it. -/
def State.capFill (s : State) : State :=
  let held := if s.capStream then s.cap.stored - s.cap.sent else min s.cap.stored s.capRoom
  s.set CAP_STAT_FILL_MAX (max (s.get CAP_STAT_FILL_MAX) (min 0xFFFF (held * 65536 / s.capRoom)))

/-- Store the record of the oldest tick, its values given. -/
def State.capStore (s : State) (rest : List (Nat × Bool)) (vals : List (Option Int)) : State :=
  let i := s.cap.stored
  let s := s.store (s.recAddr i) (vals.flatMap (fun v => leBytes s.valSize (capCode (s.flag CAP_CFG_WIDTH) v)))
  let s := { s with cap := { s.cap with pend := rest, stored := i + 1 } }
  (s.set CAP_RECORDS_N (i + 1)).capFill

/-- Judge the trigger on the record stored as `i` (R409). -/
def State.capJudge (s : State) (i t : Nat) (fire : Bool) (v : Option Int) : State :=
  let lv := if s.get CAP_CFG_TRIG = 0 then s.capLevel v else (false, false)
  let s := if s.capState = CAP_ARMED ∧ (lv.1 || fire) = true then s.capTrigger i (if lv.1 then s.crossing t (v.getD 0) else t * 2 ^ 32) else s
  { s with cap := { s.cap with armed := lv.2, prev := v.getD 0 } }

/-- After record `i`: POST records after the trigger end the capture, and so does a STOP or a time step once its ticks are stored. -/
def State.capAfter (s : State) (i : Nat) : State :=
  let done := match s.cap.trig with | some k => decide (k + s.get CAP_POST_POST ≤ i) | none => false
  if s.capState == CAP_TRIGGERED && done then s.capEnd 1
  else if s.cap.ending != 0 && s.cap.pend.isEmpty then s.capEnd s.cap.ending
  else s.showHeader

/-- The oldest record is assembled once every value can be formed; it is stored, or the capture overflows (R414), and the trigger is judged on it (R409, R416). -/
def opCapRecordAssemble (s : State) : State :=
  match s.cap.pend with
  | [] => s
  | (t, fire) :: rest =>
    let sigs := List.range (s.get CAP_CFG_N_SIG)
    let vals := sigs.map (fun k => s.capValue t k)
    if !(s.en .cap && s.capLive) || !sigs.all (fun i => s.capReady t i) then s
    else if s.capStream && decide (s.capRoom ≤ s.cap.stored - s.cap.sent) then (s.capEnd 2).raise SRC_CAP_OVERFLOW 0x03
    else ((s.capStore rest vals).capJudge s.cap.stored t fire (vals.getD (s.get CAP_CFG_TRIG_SIG) none)).capAfter s.cap.stored

/-- R408 CAP_RECORD_ASSEMBLE. -/
def execCapRecordAssemble (s : State) : Host.Outcome State Fault Refusal := .next (s.live (opCapRecordAssemble s))

/-! Commands (R410). -/

/-- The stream's wire rate as a fraction: bits per packet and ns per packet (R413). -/
def State.wireBits (s : State) : Nat := (s.perPacket * s.recSize + 62) * 8
def State.wireNs (s : State) : Nat := s.perPacket * s.get CAP_PER_PER

/-- Whether ETH0 cannot carry the stream (R413). -/
def State.linkTooSlow (s : State) : Bool :=
  let mbit := if s.flag ETH_MCFG_SPEED then 1000 else 100
  !(s.en .eth && s.flag ETH_MCFG_MAC_EN && s.flag ETH_MSTAT_LINK) || decide (mbit * 80 * s.wireNs < s.wireBits * 1000 * 100)

/-- ARM (R410, R413). -/
def opCapArm (s : State) : Bool × State :=
  let st := s.capState
  if !s.en .cap || (s.follows && s.capStream) || !(st == CAP_IDLE || (st == CAP_DONE && !s.cap.endDue)) then (false, s.refuseC .cap STATE 0x02 0x24)
  else if s.capStream && s.linkTooSlow then (false, s.refuse .cap 0x0F20 0x02 0x24)
  else
    let s := (((s.set CAP_STAT_STATE CAP_ARMED).set CAP_STAT_END_CAUSE 0).set CAP_STAT_FILL_MAX 0).set CAP_RECORDS_N 0
    let s := (s.set64 CAP_TRIG_TAI_TAI 0).set CAP_TRIG_FRAC_FRAC 0
    let s := { s with cap := ⟨0, 0, [], false, 0, 0, false, 0, none, 0, 0, 0, 0, 0, s.capStream, false, s.cap.packet⟩ }
    (true, if s.capStream then s.capSendStart else s.showHeader)

/-- R410 CAP_ARM. -/
def execCapArm (s : State) : Host.Outcome State Fault Refusal := .next (s.live (opCapArm s).2)

/-- FORCE: the trigger fires at the next record (R409). -/
def opCapForce (s : State) : Bool × State :=
  if !s.en .cap || (s.follows && s.capStream) || s.capState != CAP_ARMED then (false, s.refuseC .cap STATE 0x02 0x24)
  else (true, { s with cap := { s.cap with force := true } })

/-- R409 CAP_FORCE. -/
def execCapForce (s : State) : Host.Outcome State Fault Refusal := .next (s.live (opCapForce s).2)

/-- STOP (R410, R416). -/
def opCapStop (s : State) : Bool × State :=
  if !s.en .cap || (s.follows && s.capStream) || !s.capLive then (false, s.refuseC .cap STATE 0x02 0x24) else (true, s.capClose 3)

/-- R410 CAP_STOP. -/
def execCapStop (s : State) : Host.Outcome State Fault Refusal := .next (s.live (opCapStop s).2)

/-- A write of CAP_CMD. -/
def opCapCmd (v : Nat) (s : State) : Bool × State :=
  match v % 4 with
  | 1 => opCapArm s
  | 2 => opCapForce s
  | 3 => opCapStop s
  | _ => (true, s)

/-! The configuration check (R424), enable and disable (R410). -/

/-- The first offending field of CAP's settings. -/
def checkCap (s : State) : Option (Nat × Nat × Nat) :=
  let n := s.get CAP_CFG_N_SIG
  let sigs := List.range n
  let srcBad := fun (i : Nat) => s.get CAP_SIG_CLASS 0 i == 3 || decide ((if s.get CAP_SIG_CLASS 0 i = 2 then 24 else 36) ≤ s.get CAP_SIG_SRC 0 i)
  let per := s.get CAP_PER_PER
  checks [
    bad (n == 0) ZERO_LEN 0x02 0x00, bad (per == 0) ZERO_LEN 0x02 0x04,
    bad (s.get CAP_POST_POST == 0) ZERO_LEN 0x02 0x14, bad (s.get CAP_REGION_LEN == 0) ZERO_LEN 0x02 0x18,
    firstSome (fun i => bad (srcBad i) RANGE 0x01 (4 * i)) (sigs.take 64),
    bad (decide (64 < n) || s.get CAP_CFG_TRIG == 3 || decide (n ≤ s.get CAP_CFG_TRIG_SIG)) RANGE 0x02 0x00,
    bad (decide (per < 5000) || decide (1000000000 < per)) RANGE 0x02 0x04,
    bad (decide (1024 < s.get CAP_REGION_BASE + s.get CAP_REGION_LEN)) RANGE 0x02 0x18,
    firstSome (fun i => bad (decide (s.get CAP_SIG_CLASS 0 i ≤ 1) && !s.flag FIL_DCFG_EN (s.get CAP_SIG_SRC 0 i)) DISAGREE 0x01 (4 * i)) sigs,
    bad (!s.capStream && decide (s.capRoom < s.get CAP_PRE_PRE + s.get CAP_POST_POST + 1)) DISAGREE 0x02 0x10,
    bad (s.capStream && decide (800 * s.wireNs < s.wireBits * 1000)) RESOURCE 0x02 0x00,
    bad (s.capStream && s.tight) PROFILE 0x02 0x00]

/-- What the enable of CAP does: IDLE (R410). -/
def enterCap (s : State) : State :=
  let s := (s.set CAP_STAT_STATE CAP_IDLE).set CAP_STAT_END_CAUSE 0
  { s with cap := ⟨0, 0, [], false, 0, 0, false, 0, none, 0, 0, 0, 0, 0, false, false, []⟩ }

/-- What the disable of CAP does: a capture ends as by STOP; records not sent are discarded, and no END packet follows (R410). -/
def leaveCap (s : State) : State :=
  let s := if s.capLive then s.capEnd 3 else s
  { s with cap := { s.cap with pend := [], startDue := false, endDue := false, sent := s.cap.stored } }

/-! ETH (R413, R538, R539). -/

/-- Honour a pause frame: 512 bit times a quantum (R413). -/
def State.ethPause (s : State) (quanta : Nat) : State :=
  let ns := quanta * (if s.flag ETH_MCFG_SPEED then 512 else 5120)
  let t0 := match s.eth.pause with | some (a, _) => a | none => s.now
  { s.set ETH_MSTAT_PAUSED 1 with eth := { s.eth with pause := some (t0, s.now + ns) } }

/-- A pause frame on ETH0 holds transmission (R413, R538). -/
def opPauseRx (quanta : Nat) (s : State) : State :=
  if s.en .eth && s.flag ETH_MCFG_MAC_EN then s.ethPause quanta else s

/-- R413 PAUSE_RX. -/
def execPauseRx (quanta : BitVec 16) (s : State) : Host.Outcome State Fault Refusal := .next (s.live (opPauseRx quanta.toNat s))

/-- The pause time runs out (R413): PAUSED clears and the time held is counted. -/
def opPauseEnd (s : State) : State :=
  match s.eth.pause with
  | none => s
  | some (a, b) =>
    let s := s.advanceTo b
    let held := s.eth.held + (b - a)
    { (s.set ETH_MSTAT_PAUSED 0).set ETH_MCNT2_PAUSE_US (min 0xFFFFFFFF (held / 1000)) with eth := { s.eth with pause := none, held := held } }

/-- R413 PAUSE_END. -/
def execPauseEnd (s : State) : Host.Outcome State Fault Refusal := .next (s.live (opPauseEnd s))

/-- Whether a frame carries PTP over the configured transport (R122): Ethertype 0x88F7, or UDP over IPv4 to port 319 or 320 without options or fragments. -/
def State.ptpFrame (s : State) (f : List Byte) : Bool :=
  let be2 := fun (o : Nat) => beNat (slice f o 2)
  if s.flag TIME_PTP_CFG_TRANSPORT then
    be2 12 == 0x0800 && leAt f 14 1 == 0x45 && leAt f 23 1 == 17 && be2 20 % 0x4000 == 0 && (be2 36 == 319 || be2 36 == 320)
  else be2 12 == 0x88F7

/-- A received frame, without its FCS (R538): bad ones are counted as errors, pause frames on ETH0 are honoured, PTP is accepted (its contents act by the PTP commands), and everything else is discarded. -/
def opEthRx (p : Bool) (fcsOk : Bool) (f : List Byte) (s : State) : State :=
  let u := b2n p
  let n := f.length + 4
  if !(s.en .eth && s.flag ETH_MCFG_MAC_EN u) then s
  else if !fcsOk || decide (n < 64) || decide (1522 < n) then (s.inc ETH_MCNT_RX_ERR u).raise SRC_ETH_RX_ERR u
  else if beNat (slice f 12 2) = 0x8808 ∧ beNat (slice f 14 2) = 1 ∧ p = false then s.ethPause (beNat (slice f 16 2))
  else if s.ptpFrame f then s
  else s.inc ETH_MCNT_RX_DISCARD u

/-- R538 ETH_RX. -/
def execEthRx (p fcsOk : Bool) (frame : List (BitVec 8)) (s : State) : Host.Outcome State Fault Refusal := .next (s.live (opEthRx p fcsOk frame s))

/-- The poll of PHY register 1 (R539): LINK follows bit 2. -/
def opMdioPoll (p : Bool) (reg1 : Nat) (s : State) : State :=
  let u := b2n p
  if s.en .eth && s.flag ETH_MCFG_MAC_EN u && s.flag ETH_MCFG_POLL_EN u then
    let up := bitOf reg1 2
    let was := s.flag ETH_MSTAT_LINK u
    (s.setb ETH_MSTAT_LINK up u).raiseIf (was && !up) SRC_ETH_LINK_DOWN u
  else s

/-- R539 MDIO_POLL. -/
def execMdioPoll (p : Bool) (reg1 : BitVec 16) (s : State) : Host.Outcome State Fault Refusal := .next (s.live (opMdioPoll p reg1.toNat s))

/-- A write of ETH_MDIO (R539): the address and data are stored; OP starts a transaction, or is refused while one is in progress. -/
def opMdio (op phy reg data : Nat) (s : State) : Bool × State :=
  let s := ((s.set ETH_MDIO_PHY phy).set ETH_MDIO_REG reg).set ETH_MDIO_DATA data
  if op = 1 ∨ op = 2 then
    (if s.flag ETH_MDIO_STAT_BUSY then (false, s.refuseC .eth STATE 0x11 0x00)
     else (true, { s.set ETH_MDIO_STAT_BUSY 1 with eth := { s.eth with mdio := (op, phy, reg, data) } }))
  else (true, s)

/-- R539 MDIO_WRITE. -/
def execMdioWrite (phy reg : BitVec 5) (data : BitVec 16) (s : State) : Host.Outcome State Fault Refusal :=
  .next (s.live (opMdio 1 phy.toNat reg.toNat data.toNat s).2)

/-- R539 MDIO_READ. -/
def execMdioRead (phy reg : BitVec 5) (s : State) : Host.Outcome State Fault Refusal :=
  .next (s.live (opMdio 2 phy.toNat reg.toNat (s.get ETH_MDIO_DATA) s).2)

/-- The transaction completes: BUSY clears, and a read's result is shown (R539). -/
def opMdioDone (data : Nat) (s : State) : State :=
  if s.flag ETH_MDIO_STAT_BUSY then
    let s := s.set ETH_MDIO_STAT_BUSY 0
    if s.eth.mdio.1 = 2 then s.set ETH_MDIO_STAT_DATA data else s
  else s

/-- R539 MDIO_DONE. -/
def execMdioDone (data : BitVec 16) (s : State) : Host.Outcome State Fault Refusal := .next (s.live (opMdioDone data.toNat s))

/-- Whether TIME or CAP uses a MAC, by their settings (R554). -/
def State.macUsed (s : State) (p : Nat) : Bool :=
  (s.get TIME_SLEW_CFG_SRC == 1 && s.get TIME_PTP_CFG_ROLE != 0 && (s.get TIME_PTP_CFG_PORT == p || s.flag TIME_PTP_CFG_BACKUP)) ||
  (p == 0 && s.flag CAP_CFG_MODE)

/-- The first offending field of ETH's settings (R554). -/
def checkEth (s : State) : Option (Nat × Nat × Nat) :=
  let port := s.get TIME_PTP_CFG_PORT
  checks [
    firstSome (fun p => bad (bitOf (s.get ETH_MAC_LO_MAC p) 0) RANGE p 0x04) [0, 1],
    firstSome (fun p => checks [
      bad (!s.flag ETH_MCFG_MAC_EN p && s.macUsed p) DISAGREE p 0x00,
      bad (p == port && s.flag TIME_PTP_CFG_TRANSPORT && s.get ETH_IP_IP p == 0) DISAGREE p 0x0C]) [0, 1]]

/-- What the enable of ETH does: its counters reset, and LINK_DOWN is present on each MAC in use without a link (R552, R555). -/
def enterEth (s : State) : State :=
  let s := [0, 1].foldl (fun s p => (s.putWord (ETH_MCNT_RX_DISCARD.addr p 0) 0#32).putWord (ETH_MCNT2_PAUSE_US.addr p 0) 0#32) s
  let s := { s with eth := { s.eth with held := 0 } }
  s.raiseAll SRC_ETH_LINK_DOWN ([0, 1].filter (fun p => s.flag ETH_MCFG_MAC_EN p && !s.flag ETH_MSTAT_LINK p))

/-- What the disable of ETH does: the links are not known and no pause holds. -/
def leaveEth (s : State) : State :=
  let s := [0, 1].foldl (fun s p => (s.set ETH_MSTAT_LINK 0 p).set ETH_MSTAT_PAUSED 0 p) s
  { s with eth := { s.eth with pause := none } }

end Sys2Proof.Machine
end

