-- ==== Sys2Proof/Machine/Part.lean ====
section
/-! DEFINITION. PART: heartbeats (R512, R513), roles and readiness (R514, R515), the snapshot (R517), takeover (R518 to R521), handover (R522, R523), two active devices (R524), and the configuration check (R528). -/

namespace Sys2Proof.Machine

/-! The snapshot (R517). -/

/-- Register addresses of one field's register over units and array elements. -/
def regsAt (f : Fld) (us es : List Nat) : List Nat := us.flatMap (fun u => es.map (fun e => f.addr u e))

/-- The words of the active bank of FORM (R515). -/
def State.formBankWords (s : State) : List Nat := (List.range 11).map (fun k => FORM_BK_SWING_H.addr s.fbank 0 + 4 * k)

/-- The words of the active bank of LAW. -/
def State.lawBankWords (s : State) : List Nat :=
  let b := s.get LAW_BANK_ACTIVE
  (List.range 19).flatMap (fun k => (List.range 4).map (fun w => LAW_BK_KP_KP.addr k b + 4 * w) ++ [LAW_BK_BAND_BAND.addr k b])
    ++ (List.range 4).map (fun w => LAW_BK_ILIM_I_LIM.addr 0 b + 4 * w)

/-- The CRC-32 of a bank. -/
def State.bankCrc (s : State) (as : List Nat) : Nat := (crc32 (as.flatMap (fun a => leBytes 4 (s.word a).toNat))).toNat

/-- The comb slots that a snapshot carries: ACTIVE slots and those that changed state since the last one (R360). -/
def State.snapCombs (s : State) : List Nat :=
  combSlots.filter (fun i => s.cst i == C_ACTIVE || (s.part.combs.getD i 0 != s.cst i))

/-- The 16 slots whose trims and delays this snapshot carries (R384, R517). -/
def State.snapSlots (s : State) : List Nat := (List.range 16).map (fun i => 16 * (s.part.snapNo % 12) + i)

/-- The registers that a snapshot carries (R237, R268, R299, R334, R360, R384, R517). -/
def State.snapRegs (s : State) : List Nat :=
  [FORM_MODE_STAT_MODE.addr 0 0, FORM_BANK_ACTIVE.addr 0 0, LAW_BANK_ACTIVE.addr 0 0, LAW_WIN_COMP.addr 0 0, LAW_DZ_DZ.addr 0 0, LAW_RT_STAT_RIDE.addr 0 0, LAW_PRE_STAT_STEP.addr 0 0]
    ++ [LAW_SSTAT_IN_MAN, LAW_SOUT_Y, LAW_SU_U, LAW_SMAN_MAN, LAW_SMAN_TGT_MAN_TGT].flatMap (fun f => regsAt f (List.range 19) [0])
    ++ regsAt MOD_SRES_RHO strings [0] ++ regsAt MOD_ORDER_SLOT strings (List.range 48)
    ++ [OUT_ALLOC_TGT_TGT, OUT_ALLOC_POS_POS, OUT_ALLOC_STEP_STEP].flatMap (fun f => regsAt f [0] (List.range 24))
    ++ [OUT_BSTAT_STATE, OUT_BCURT_C, OUT_BSP_V_V_REQ, OUT_BSP_I_I_REQ, OUT_BSTORE_P_SCHED, OUT_BSTORE2_P_DIS_MAX].flatMap (fun f => regsAt f buses [0])
    ++ buses.flatMap (fun b => (List.range 4).map (fun k => METR_TOT_IMP_TOT.addr b 0 + 4 * k))
    ++ s.snapCombs.flatMap (fun i => (List.range 16).map (fun k => COMB_SSTAT_STATE.addr i 0 + 4 * k))
    ++ s.snapSlots.flatMap (fun i => [CAL_T_IAC_G.addr i 0, CAL_T_IDAB_G.addr i 0, CAL_T_VOUT_G.addr i 0])
    ++ (s.enSlots.map (fun i => CELL_SSTAT_STATE.addr i 0))
    ++ regsAt HIVE_RSTAT_MODE (List.range 12) [0] ++ [HIVE_BLOCK_ACTIVE.addr 0 0]
    ++ regsAt HIVE_RDLY_DLY_A [s.part.snapNo % 12] (List.range 16)
    ++ [SAFE_FSTAT_SGR_ACTIVE.addr 0 0] ++ regsAt SAFE_SODSTAT_STEP [0] buses

/-- The mask of a property of the outputs. -/
def coilMask (p : Nat → Bool) : Nat := maskOf (coils.filter p)

/-- The snapshot of this boundary. -/
def State.snapshot (s : State) : Snapshot :=
  { cyc := s.get SYS_CYC_NUM_CYC, tai := s.get64 SYS_CYC_START_TAI, number := s.part.snapNo, pwr := s.pstate, cause := s.get SYS_PWR_STATE_SAFE_CAUSE,
    gen := s.get BOOT_GEN_GENERATION, formCrc := s.bankCrc s.formBankWords, lawCrc := s.bankCrc s.lawBankWords,
    form := s.form, law := s.law, mod := s.mod, out := s.out, rems := s.meter.map (fun (m : MeterSt) => (m.remI, m.remE)),
    combs := s.snapCombs.map (fun i => (i, s.combSt i)), next := s.get METR_SEQ_NEXT, record := s.part.record, safe := s.safe,
    energised := coilMask s.coilOn, forced := coilMask s.forcedOff, rings := maskOf s.enRings,
    regs := s.snapRegs.map (fun a => (a, s.word a)) }

/-- The 4,864 bytes of an outgoing snapshot at 0x3_0000 of BANK_DP: MAGIC, the zero bytes and both CRCs stand where R517 puts them; the byte layout within the header and the sections is open (log entry 90). -/
def State.snapshotImage (s : State) : List Byte × State :=
  let d := s.draw (2 ^ (8 * 4824))
  let head := [0x50#8, 0x53#8, 0x4E#8, 0x31#8] ++ leBytes 56 d.1
  let image := head ++ leBytes 4 (crc32 head).toNat ++ leBytes 4768 (d.1 / 2 ^ (8 * 56)) ++ List.replicate 28 0#8
  (image ++ leBytes 4 (crc32 image).toNat, d.2)

/-- R25 step 7: an active device of a pair takes the snapshot and sends it; without PLL_B the lanes are stopped (R67). -/
def State.snapshotSend (s : State) : State :=
  if s.en .part && s.role == ACTIVE && s.flag CLK_PLL_STAT_LOCKED 1 then
    let x := s.snapshot
    let m := s.snapshotImage
    let s := { m.2 with part := { m.2.part with image := m.1 }, poison := m.2.poison.filter (fun t => !(tilesOf (BANK_DP + 0x30000) 4864).contains t) }
    { s with part := { s.part with snapNo := s.part.snapNo + 1, combs := combSlots.map (fun i => s.cst i), record := none, sent := some x } }
  else s

/-! Adopting a snapshot. -/

/-- The fields of CELL_SSTAT that a snapshot carries: STATE, EXIT_CAUSE, BYP_CONF and BLOCKED (R517). -/
def sstatMask : Word :=
  let m := fun (f : Fld) => (2 ^ f.w - 1) <<< f.lo
  BitVec.ofNat 32 (m CELL_SSTAT_STATE + m CELL_SSTAT_EXIT_CAUSE + m CELL_SSTAT_BYP_CONF + m CELL_SSTAT_BLOCKED)

/-- Adopt one register of a snapshot. -/
def State.adoptReg (s : State) (p : Nat × Word) : State :=
  if p.1 / 0x10000 = 0x06 then s.putWord p.1 ((s.word p.1 &&& ~~~sstatMask) ||| (p.2 &&& sstatMask)) else s.putWord p.1 p.2

/-- Adopt the registers of the listed blocks, those alone that a snapshot carries. -/
def State.adoptRegs (s : State) (x : Snapshot) (blks : List Nat) : State :=
  (x.regs.filter (fun p => blks.contains (p.1 / 0x10000))).foldl (fun s p => s.adoptReg p) s

/-- The hash of the last record issued, where the snapshot shows that record: the comb's chain goes on from it (R354, R360). -/
def State.followHash (s : State) (x : Snapshot) : State :=
  let last := x.next + 2 ^ 32 - 1
  let shown := (x.combs.filter (fun p => !p.2.record.isEmpty)).map (fun p => p.2.record) ++ (x.record.map (fun r => slice r.2 0 128)).toList
  match shown.find? (fun r => leAt r 4 4 == last % 2 ^ 32) with
  | some r => { s with comb := { s.comb with prev := (sha256 r).take 8 } }
  | none => s

/-- What a device beside an active partner takes from every valid snapshot: the values of OUT and COMB, the totalisers, trims, cell states, delays, the record released, and the energised mask (R360, R384, R516, R521). -/
def State.followSnapshot (s : State) (x : Snapshot) : State :=
  let delays := x.regs.filter (fun p => decide (HIVE_RDLY_DLY_A.base ≤ p.1) && decide (p.1 < 0x051000) && decide (0x40 ≤ p.1 % 0x100))
  let s := (s.adoptRegs x [0x06, 0x0A, 0x0B, 0x0C, 0x1A])
  let s := delays.foldl (fun s p => s.adoptReg p) s
  let s := x.combs.foldl (fun s p => s.setCombSt p.1 p.2) s
  let s := { s with out := x.out, meter := (s.meter.zip x.rems).map (fun (p : MeterSt × Nat × Nat) => { p.1 with remI := p.2.1, remE := p.2.2 }),
                    part := { s.part with energised := x.energised } }
  let s := s.set METR_SEQ_NEXT x.next
  let s := match x.record with
    | some r => (s.mramWrite (MRAM + 192 * (r.1 % 2048)) (slice r.2 0 192)).2
    | none => s
  (s.followHash x).countStrings.outShow.applyCoils

/-- FORM's angle after a gap of `n` cycles (R237). -/
def State.gapAngle (s : State) (f : FormState) (n : Nat) : Nat :=
  angle ((f.theta : Int) + n * rdiv (f.omega * (s.get FORM_BASE_V_F_NOM : Int) * s.period * 8) (10 ^ 12))

/-- FORM continues from the snapshot (R237): what it carries replaces the own values. -/
def State.adoptForm (s : State) (x : Snapshot) : State :=
  let gap := (s.get SYS_CYC_NUM_CYC + 2 ^ 32 - x.cyc) % 2 ^ 32
  let f := x.form
  { s with form := { s.form with
      theta := s.gapAngle f gap, omega := f.omega, ww := f.ww, qf := f.qf, presp := f.presp, e := f.e,
      psetR := f.psetR, qsetR := f.qsetR, vsetR := f.vsetR, wsetR := f.wsetR, prefSw := f.prefSw, wsetSw := f.wsetSw, eT := f.eT, back := f.back,
      feed := f.feed, term := f.term, ramp := f.ramp, holdRun := f.holdRun, permit := f.permit, trip := f.trip, held := f.held, holds := f.holds, entered := false } }

/-- MOD continues from the snapshot (R268): the cells have repeated their last applied sets in every interval of the gap. -/
def State.adoptMod (s : State) (x : Snapshot) : State :=
  let gap := (s.get SYS_CYC_NUM_CYC + 2 ^ 32 - x.cyc) % 2 ^ 32 + b2n s.cyc.modulated
  let s := { s with mod := x.mod }
  if s.inRun ∧ s.precharging = false then s.missSets (min gap 64) else s

/-- The coils of a device that takes control: the mirrored outputs stay as they are, now by its own command, and the followers as the snapshot shows them (R521). -/
def State.adoptCoils (s : State) (x : Snapshot) : State :=
  (coils.foldl (fun s o => if s.mirrored o then s.setb CTC_OSTAT_CMD_ON (bitOf x.energised o) o else s) s).applyCoils

/-- A session of the pair passes between the devices: SWITCHOVER (R351, R360). -/
def State.markSessions (s : State) : State :=
  (combSlots.filter (fun i => s.cst i == C_ACTIVE)).foldl (fun s i => s.combFlag i 6 true) s

/-- A record not yet signed as the device that signs it issues it: its own DEVICE_ID, the hash of the record before, and the CRC (R354, R360). -/
def State.reissue (s : State) (i : Nat) : State :=
  let c := s.combSt i
  let b := slice c.record 0 8 ++ leBytes 8 (s.get64 METR_DEVID_ID) ++ slice c.record 16 96 ++ slice s.comb.prev 0 8 ++ slice c.record 120 4
  let r := b ++ leBytes 4 (crc32 b).toNat
  let s := s.setCombSt i { c with record := r, tries := 0 }
  { s with comb := { s.comb with prev := (sha256 r).take 8 } }

/-- Records that the failed device left unsigned: they are issued again in REC_SEQ order, the chain starting from the record before the first of them, and enter the signing queue (R360, R361). -/
def State.resign (s : State) : State :=
  match s.backlog with
  | [] => s
  | l@(i :: _) =>
    let s := { s with comb := { s.comb with prev := slice (s.combSt i).record 112 8 } }
    let s := l.foldl (fun s i => s.reissue i) s
    l.foldl (fun s _ => opSignQueueEnter s) s

/-- The beats at the cycle start: both ends of every enabled ring send one (R144), or the partner does that drives the rings; every front end that a path reaches takes it. From the loss or the resignation of that partner to T_take none is sent (R518). -/
def State.beats (s : State) : State :=
  if s.hiveDrives || (s.en .hive && s.silent && s.flag PART_STAT_PARTNER && s.part.take.isNone) then
    let s := s.sends (s.enRings.flatMap (fun r => [(r, false, beatMark), (r, true, beatMark)]))
    (s.enSlots.filter (fun i => !s.cutOff (s.get CELL_SCFG_RING i) (s.get CELL_SCFG_POS i))).foldl (fun s i => s.setFe i (s.fe i).beat) s
  else s

/-- Every block continues from the snapshot (R237, R268, R299, R334, R360, R518). -/
def State.adoptAll (s : State) (x : Snapshot) : State :=
  let s := (s.followSnapshot x).adoptRegs x [0x05, 0x07, 0x08, 0x09, 0x13]
  let s := (s.set SYS_PWR_STATE_STATE x.pwr).set SYS_PWR_STATE_SAFE_CAUSE x.cause
  let s := { s.adoptForm x with law := x.law, safe := x.safe }
  let s := (s.adoptMod x).setb FORM_MODE_STAT_PENDING s.form.req.isSome
  let s := (s.adoptCoils x).markSessions.resign
  if s.flag HIVE_BLOCK_ACTIVE then s.block (s.get HIVE_BLOCK_CAUSE) else s

/-! Roles (R514). -/

/-- Take a role: STANDBY shows in SYS_PWR_STATE, NOT_READY is an event at its entry, and PART_LAST_TAI holds the boundary. -/
def State.toRole (s : State) (r : Nat) : State :=
  if s.role = r then s
  else
    let s := (s.set PART_STAT_ROLE r).setb SYS_PWR_STATE_STANDBY (r == STANDBY)
    let s := s.set64 PART_LAST_TAI_TAI (s.get64 SYS_CYC_START_TAI)
    let s := { s with part := { s.part with take := none, swap := none, want := false } }
    let s := s.set PART_STAT_HANDOVER_PEND 0
    s.raiseIf (r == NOT_READY) SRC_PART_NOT_READY 0x02

/-- The first readiness condition that fails; 0 when the device is ready (R515). -/
def State.nrCause (s : State) : Nat :=
  let lanes := (List.range 4).filter (fun k => bitOf (s.get PART_STAT_LANES) k)
  if s.pstate ≠ READY then 1
  else match s.part.snap with
  | none => 2
  | some x =>
    let keyed := s.enRings.all (fun r => s.flag HIVE_RSTAT_KEYED r || (List.range (s.ncell r)).all (fun p => s.get HIVE_RDLY_DLY_A r p != 0))
    if 2 < s.get PART_SNAP_AGE then 2
    else if lanes.length < 2 then 3
    else if x.gen ≠ s.get BOOT_GEN_GENERATION ∨ x.formCrc ≠ s.bankCrc s.formBankWords ∨ x.lawCrc ≠ s.bankCrc s.lawBankWords then 4
    else if s.get PART_LINK_TOFS_MAX < (s.geti PART_TOFS_TOFS).natAbs then 5
    else if (List.range 12).any (fun r => bitOf x.rings r && !s.flag HIVE_RCTL_RING_EN r) ∨ keyed = false then 6
    else if s.anySevere then 7
    else if !s.form.invalid.isEmpty then 8
    else 0

/-- Judge readiness: STANDBY and NOT_READY follow it (R514, R515). Once a takeover is due the role stands until T_take (DEDUCED, log entry 91). -/
def State.judgeReady (s : State) : State :=
  if s.follows && s.part.take.isNone then
    let c := s.nrCause
    (s.set PART_STAT_NR_CAUSE c).toRole (if c = 0 then STANDBY else NOT_READY)
  else s

/-- Whether this is the home device. -/
def State.home (s : State) : Bool := s.get PART_STAT_PAIR_ID == 0

/-- A device leaves its running state without acting on the cells. -/
def State.endRun (s : State) : State :=
  if s.inRun then
    let s := ((s.set SYS_PWR_STATE_STATE READY).set FORM_MODE_STAT_MODE READY).rideClear
    let s := ((s.set FORM_MODE_STAT_PHASE 0).set FORM_MODE_STAT_PENDING 0).set FORM_MODE_STAT_CLOSE_OK 0
    { s with form := { s.form with req := none, permit := false }, hive := { s.hive with frames := [] } }
  else s

/-- Transactions in flight on a device that leaves the ACTIVE role complete with UNREACHABLE (R520). -/
def State.dropFlight (s : State) : State := s.hive.tx.foldl (fun s t => s.complete t MBX_UNREACHABLE []) s

/-- A device leaves the ACTIVE role other than by planned handover: its mirrored outputs de-energise and its followers hold (R521); within FLAP_WIN of a hand-back the home device does not return (R523). -/
def State.leaveActive (s : State) (cause : Nat) : State :=
  let s := coils.foldl (fun s o => if s.mirrored o then (s.set CTC_OSTAT_CMD_ON 0 o).set CTC_OSTAT_ENERGISED 0 o else s) s
  let s := s.dropFlight.endRun
  let s := { (s.toRole NOT_READY).set PART_LAST_CAUSE cause with part := { ((s.toRole NOT_READY).set PART_LAST_CAUSE cause).part with energised := 0 } }
  match s.part.back with
  | some t =>
    if s.home && decide (s.now ≤ t + s.get PART_CFG2_FLAP_WIN * 1000000000) then (s.set PART_STAT_NO_RETURN 1).raise SRC_PART_FLAP 0x02 else s
  | none => s

/-! Heartbeats (R512, R513). -/

/-- The heartbeat this device sends. -/
def State.heartbeatFrame (s : State) : List Byte :=
  let b0 := s.role + 8 * s.get PART_STAT_PAIR_ID + 16 * b2n (s.role == ACTIVE && !s.flag CLK_PLL_STAT_LOCKED 0)
    + 32 * b2n s.sgrActive + 64 * b2n (s.role == STANDBY && s.part.want)
  withCrc ([BitVec.ofNat 8 b0, BitVec.ofNat 8 s.pstate] ++ leBytes 2 s.part.seq ++ leBytes 8 s.now ++ leBytes 2 0)

/-- A heartbeat goes out on every lane in lock (R512); without PLL_B the lanes are stopped (R67). -/
def opHeartbeatSend (s : State) : State :=
  if s.en .part && s.get PART_STAT_LANES != 0 && s.flag CLK_PLL_STAT_LOCKED 1 then
    { s with part := { s.part with seq := (s.part.seq + 1) % 65536, beat := s.heartbeatFrame } }
  else s

/-- R512 HEARTBEAT_SEND. -/
def execHeartbeatSend (s : State) : Host.Outcome State Fault Refusal := .next (s.live (opHeartbeatSend s))

/-- A planned handover is asked for (R522): its cause, for the next boundary or the one after. -/
def State.askHandover (s : State) (cause : Nat) : Bool × State :=
  if s.get PART_STAT_PARTNER_ROLE ≠ STANDBY ∨ s.flag PART_STAT_PARTNER = false then (false, s.refuse .part 0x1620 0x02 0x00)
  else if s.sgrActive || s.get SAFE_FSTAT_SOD != 0 || s.get SAFE_FSTAT_SDS != 0 || s.get SAFE_FSTAT_STR != 0 then (false, s.refuseC .part STATE 0x02 0x00)
  else if s.part.swap.isSome then (true, s)
  else
    let late := s.pastCut
    (true, ({ s with part := { s.part with swap := some (cause, late) } } : State).deferral.set PART_STAT_HANDOVER_PEND 1)

/-- The incoming device of a handover takes control (R522); it computes the cycle of the boundary only when that boundary's snapshot comes in time. -/
def State.handoverIn (s : State) : State :=
  let cause := if s.part.want then 4 else 3
  let s := ((s.toRole ACTIVE).set PART_LAST_CAUSE cause).inc PART_CNT_HANDOVERS
  let s := s.raise SRC_PART_HANDOVER 0x02
  let fast := !s.tight && s.get PART_STAT_LANES == 15
  let have' := match s.part.snap with | some x => x.cyc == s.get SYS_CYC_NUM_CYC | none => false
  let s := { s with part := { s.part with adopt := !have', took := some (s.get SYS_CYC_NUM_CYC), back := if cause = 4 then some s.now else s.part.back },
                    cyc := if fast then s.cyc else { s.cyc with computed := true, modulated := true } }
  let s := s.set PART_LAST_MAX_COAST 0
  match s.part.snap, have' with
  | some x, true => s.adoptAll x
  | _, _ => s

/-- A device in the ACTIVE role hears an ACTIVE partner (R524): the non-home device gives way. A partner that sends RESIGN has given up the role, and so has a device that itself resigned when PLL_A lost lock (R512, R518; DEDUCED, log entry 91). -/
def State.twoActive (s : State) (resigned : Bool) : State :=
  if resigned then s
  else if !s.flag CLK_PLL_STAT_LOCKED 0 then s.leaveActive 2
  else if s.home then s
  else (s.leaveActive 5).raise SRC_PART_DUAL_ACTIVE 0x02

/-- A partner heartbeat arrives at TAI `t` ns (R512 to R514, R518, R522, R524). One whose CRC fails is no heartbeat. -/
def opHeartbeatRx (f : List Byte) (t : Nat) (s : State) : State :=
  if !s.en .part || f.length != 16 || (crc16 (f.take 14)).toNat != leAt f 14 2 then s
  else
    let b := byteAt f 0
    let r := b % 8
    let was := s.get PART_STAT_PARTNER_ROLE
    let tofs : Int := (t : Int) - leAt f 4 8 - 36 - s.get PART_LINK_LINK_DLY
    let s := (s.set PART_STAT_PARTNER 1).set PART_STAT_PARTNER_ROLE r
    let s := s.seti PART_TOFS_TOFS (clampInt (-(2 ^ 31)) (2 ^ 31 - 1) tofs)
    if s.role = SEEKING then
      (if r = ACTIVE then (s.toRole NOT_READY).judgeReady else if s.home then s.toRole ACTIVE else s)
    else if s.role = ACTIVE then
      if r = ACTIVE then s.twoActive (bitOf b 4)
      else
        let s := if bitOf b 5 && (r == STANDBY || r == NOT_READY) then s.sgr C_PARTNER else s
        if bitOf b 6 && r == STANDBY then (s.askHandover 4).2 else s
    else
      let s := if s.role == STANDBY && bitOf b 4 && s.part.take.isNone then { s with part := { s.part with take := some (2, s.now) } } else s
      if s.role == STANDBY && was == ACTIVE && r == STANDBY then s.handoverIn else s.judgeReady

/-- R512 HEARTBEAT_RX. -/
def execHeartbeatRx (frame : List (BitVec 8)) (t : Nat) (s : State) : Host.Outcome State Fault Refusal := .next (s.live (opHeartbeatRx frame t s))

/-- No valid heartbeat for 2.0 µs (R512, R514, R518). -/
def opPartnerLost (s : State) : State :=
  if s.en .part && s.flag PART_STAT_PARTNER then
    let s := (s.set PART_STAT_PARTNER 0).raise SRC_PART_PARTNER_LOST 0x02
    if s.role = STANDBY then (if s.part.take.isNone then { s with part := { s.part with take := some (1, s.now) } } else s)
    else if s.role = NOT_READY then (s.toRole SEEKING).applyCoils
    else s
  else s

/-- R512 PARTNER_LOST. -/
def execPartnerLost (s : State) : Host.Outcome State Fault Refusal := .next (s.live (opPartnerLost s))

/-- A lane of the partner link gains or loses lock (R515). -/
def opLaneLock (k : Nat) (on : Bool) (s : State) : State := (s.setb ⟨PART_STAT_LANES.base, 0, 0, 8 + k, 1⟩ on).judgeReady

/-- R515 PARTNER_LANE_LOCK_CHANGE. -/
def execPartnerLaneLockChange (lane : Fin 4) (locked : Bool) (s : State) : Host.Outcome State Fault Refusal := .next (s.live (opLaneLock lane.val locked s))

/-- A partner snapshot arrives (R517): valid, it is kept and followed; else it is discarded and counted. -/
def opSnapshotRx (x : Snapshot) (crcOk lost : Bool) (s : State) : State :=
  if s.en .part && (s.follows || s.part.adopt) then
    let s := if lost then s.collision (BANK_DP + 0x32000) else s
    let poisoned := s.poisoned (BANK_DP + 0x32000) 0x1300
    let s := if poisoned then (s.load 8 (BANK_DP + 0x32000) 0x1300).2.2 else s
    if crcOk && !lost && !poisoned && x.cyc == s.get SYS_CYC_NUM_CYC then
      let s := ({ s with part := { s.part with snap := some x } } : State).set PART_SNAP_AGE 0
      if s.part.adopt then ({ s with part := { s.part with adopt := false } } : State).adoptAll x else (s.followSnapshot x).judgeReady
    else ((s.inc PART_SNAP_BAD).raise SRC_PART_SNAP_BAD 0x02).judgeReady
  else s

/-- R517 SNAPSHOT_RX. -/
def execSnapshotRx (snap : Snapshot) (crcOk lost : Bool) (s : State) : Host.Outcome State Fault Refusal := .next (s.live (opSnapshotRx snap crcOk lost s))

/-! Takeover and handover. -/

/-- T_take has come: a cycle has started at least 1.0 µs after the event (R518). -/
def State.takeDue (s : State) : Option (Nat × Snapshot) :=
  match s.part.take, s.part.snap with
  | some (c, t0), some x => if s.running && decide (t0 + 1000 ≤ s.get64 SYS_CYC_START_TAI) then some (c, x) else none
  | _, _ => none

/-- A STANDBY device takes control at T_take (R518 to R521). -/
def opTakeover (s : State) : State :=
  if s.en .part && s.role == STANDBY then
    match s.takeDue with
    | some (c, x) =>
      let s := ((s.toRole ACTIVE).set PART_LAST_CAUSE c).inc PART_CNT_SWITCHOVERS
      let s := { s.set PART_LAST_MAX_COAST 0 with part := { (s.set PART_LAST_MAX_COAST 0).part with took := some (s.get SYS_CYC_NUM_CYC) } }
      ((s.adoptAll x).raise SRC_PART_SWITCHOVER 0x02).beats
    | none => s
  else s

/-- R518 TAKEOVER. -/
def execTakeover (s : State) : Host.Outcome State Fault Refusal := .next (s.live (opTakeover s))

/-- PART_CMD SWITCH (R522). -/
def opPartSwitch (s : State) : Bool × State :=
  if !s.en .part || s.role != ACTIVE then (false, s.refuseC .part STATE 0x02 0x00) else s.askHandover 3

/-- R522 PART_SWITCH. -/
def execPartSwitch (s : State) : Host.Outcome State Fault Refusal := .next (s.live (opPartSwitch s).2)

/-- PART_CMD REARM (R523). -/
def opPartRearm (s : State) : Bool × State := (true, s.set PART_STAT_NO_RETURN 0)

/-- R523 PART_REARM. -/
def execPartRearm (s : State) : Host.Outcome State Fault Refusal := .next (s.live (opPartRearm s).2)

/-- The home device has held STANDBY for HOLDOFF: it asks for a hand-back (R523). -/
def opHoldoffExpiry (s : State) : State :=
  if s.en .part && s.home && s.role == STANDBY && s.flag PART_CFG_AUTO_BACK && !s.flag PART_STAT_NO_RETURN then
    { s with part := { s.part with want := true } }
  else s

/-- R523 HOLDOFF_EXPIRY. -/
def execHoldoffExpiry (s : State) : Host.Outcome State Fault Refusal := .next (s.live (opHoldoffExpiry s))

/-- PAIR_WAIT expires in SEEKING (R514). -/
def opPairWaitExpiry (s : State) : State :=
  if s.en .part && s.role == SEEKING && (s.home || !s.flag PART_STAT_PARTNER) then s.toRole ACTIVE else s

/-- R514 PAIR_WAIT_EXPIRY. -/
def execPairWaitExpiry (s : State) : Host.Outcome State Fault Refusal := .next (s.live (opPairWaitExpiry s))

/-- What PART does at a boundary, after the snapshot: a handover that is due (R522), the snapshot's age (R517), and readiness. -/
def State.partBoundary (s : State) : State :=
  if s.en .part then
    let s := s.inc PART_SNAP_AGE
    match s.part.swap with
    | none => s.judgeReady
    | some (cause, true) => { s with part := { s.part with swap := some (cause, false) } }
    | some (cause, false) =>
      let s := { s with part := { s.part with energised := coilMask s.coilOn } }
      let s := (s.dropFlight.endRun.toRole STANDBY).inc PART_CNT_HANDOVERS
      (s.set PART_LAST_CAUSE cause).raise SRC_PART_HANDOVER 0x02
  else s

/-! The configuration check (R519, R528), enable and disable. -/

/-- The first offending field of PART's settings. -/
def checkPart (s : State) : Option (Nat × Nat × Nat) :=
  let wrong := coils.find? (fun o => bitOf (s.get PART_MIRROR_LO_MASK + 2 ^ 32 * s.get PART_MIRROR_HI_MASK) o &&
    (s.flag CTC_OCFG_FOLLOW_EN o || !s.flag CTC_OCFG_EN o || s.get CTC_OCFG_OWNER o == 0))
  checks [
    bad (s.get PART_LINK_TOFS_MAX == 0) RANGE 0x01 0x08,
    bad (decide (s.get CELL_COAST_COAST_MAX < 2)) DISAGREE 0x01 0x00,
    match wrong with
    | some o => bad true DISAGREE 0x01 (if o < 32 then 0x0C else 0x10)
    | none => none]

/-- What the enable of PART does: SEEKING, counters reset (R514). -/
def enterPart (s : State) : State :=
  let s := ((((s.set PART_STAT_ROLE SEEKING).set PART_STAT_PARTNER 0).set PART_STAT_NR_CAUSE 0).set PART_SNAP_AGE 0xFF).set PART_SNAP_BAD 0
  let s := (s.set PART_CNT_SWITCHOVERS 0).set PART_CNT_HANDOVERS 0
  { s with part := { s.part with snap := none, take := none, swap := none, want := false, adopt := false, energised := 0 } }

/-- What the disable of PART does: the device runs alone. -/
def leavePart (s : State) : State := (s.set SYS_PWR_STATE_STANDBY 0).applyCoils

end Sys2Proof.Machine
end

