-- ==== Sys2Proof/Machine/Image.lean ====
section
/-! DEFINITION. The configuration image: its header (R72), section table (R73, R74) and records (R75), read from the bytes of a slot. -/

namespace Sys2Proof.Machine

/-- One entry of the section table (R73). -/
structure ImgSection where
  id : Nat
  cls : Nat
  zero : Nat
  off : Nat
  len : Nat
  crc : Nat
  deriving DecidableEq, Repr

/-- The silicon revision that this manual covers, as REVISION codes it (R72): rev B. -/
def silicon : Nat := 0x02

/-- Whether a slot's first 64 bytes are a valid header (R78 step 2). An IMAGE_LEN beyond the end of the last section is taken as correct (DESIGN CHOICE, log entry 80). -/
def headerOk (img : List Byte) : Bool :=
  leAt img 0 4 == 0x494D485A && leAt img 4 2 == 2 && leAt img 6 1 == silicon && decide (leAt img 7 1 < 2)
    && leAt img 8 4 % 4 == 0 && decide (64 ≤ leAt img 8 4) && decide (leAt img 8 4 ≤ 2097152)
    && decide (1 ≤ leAt img 16 2) && decide (leAt img 16 2 ≤ 32) && decide (leAt img 18 1 ≤ 3) && leAt img 19 1 == 0
    && leAt img 60 4 == (crc32 (slice img 0 60)).toNat

/-- GENERATION, HEADER_CRC, PROFILE, START_MODE and IMAGE_LEN of a header. -/
def imgGen (img : List Byte) : Nat := leAt img 12 4
def imgCrc (img : List Byte) : Nat := leAt img 60 4
def imgProfile (img : List Byte) : Nat := leAt img 7 1 % 2
def imgStart (img : List Byte) : Nat := leAt img 18 1
def imgLen (img : List Byte) : Nat := leAt img 8 4

/-- The section table. -/
def imgSections (img : List Byte) : List ImgSection :=
  (List.range (leAt img 16 2)).map (fun k =>
    let o := 64 + 16 * k
    ⟨leAt img o 2, leAt img (o + 2) 1, leAt img (o + 3) 1, leAt img (o + 4) 4, leAt img (o + 8) 4, leAt img (o + 12) 4⟩)

/-- The class that an identifier must carry (R74). -/
def sectionClass (id : Nat) : Nat := if id = 9 then 1 else if id = 10 then 2 else 0

/-- A section's data. -/
def sectionData (img : List Byte) (x : ImgSection) : List Byte := slice img x.off x.len

/-- Whether an entry breaks a rule of R73 or R74. -/
def sectionBad (img : List Byte) (all : List ImgSection) (x : ImgSection) : Bool :=
  decide (x.id = 0) || decide (10 < x.id) || x.cls != sectionClass x.id || x.zero != 0 || x.off % 4 != 0 || x.len % 4 != 0
    || x.len == 0 || decide (imgLen img < x.off + x.len) || decide (1 < (all.filter (fun y => y.id == x.id)).length)

/-- LOAD step 4: the reason and section of the first failure; CLOCK and SYSTEM must be present. -/
def imgCheck (img : List Byte) : Option (Nat × Nat) :=
  let all := imgSections img
  match firstSome (fun x =>
      if sectionBad img all x then some (0x0224, x.id)
      else if (crc32 (sectionData img x)).toNat ≠ x.crc then some (0x0223, x.id) else none) all with
  | some e => some e
  | none => if all.any (fun x => x.id == 1) && all.any (fun x => x.id == 2) then none else some (0x0224, 0)

/-- The sections in ascending order of identifier (R74). -/
def imgOrdered (img : List Byte) : List ImgSection :=
  ((List.range 11).map (fun i => (imgSections img).filter (fun x => x.id == i))).flatten

/-- One write record: its address, the count its control word announces, and the words it brings. -/
structure Rec where
  addr : Nat
  n : Nat
  words : List Nat
  deriving DecidableEq, Repr

/-- The records of section data, in order; the count bounds the number of words left. -/
def recordsGo : Nat → List Byte → List Rec
  | 0, _ => []
  | k + 1, bs =>
    if bs.isEmpty then []
    else
      let c := leAt bs 0 4
      let n := c / 0x1000000
      let rest := bs.drop 4
      let ws := (List.range (min n (rest.length / 4))).map (fun i => leAt rest (4 * i) 4)
      ⟨c % 0x1000000, n, ws⟩ :: recordsGo k (rest.drop (4 * n))

/-- The records of section data. -/
def records (bs : List Byte) : List Rec := recordsGo bs.length bs

/-- The METROLOGY section's data: empty where the section is missing or fails its CRC (R543). -/
def metrology (img : List Byte) : Option (List Byte) :=
  match (imgSections img).find? (fun x => x.id == 10) with
  | none => none
  | some x => if (crc32 (sectionData img x)).toNat = x.crc then some (sectionData img x) else none

/-- Whether block `b`, unit `u` may be written by section `id` (R74). OPERATOR and METROLOGY may write any block's RWP and RWS fields, judged apart. -/
def sectionOwns (id b u : Nat) : Bool :=
  match id with
  | 1 => b == 0x01
  | 2 => [0x00, 0x04, 0x16, 0x15].contains b
  | 3 => [0x05, 0x06].contains b
  | 4 => [0x08, 0x09, 0x07, 0x0A].contains b
  | 5 => [0x0D, 0x0E, 0x0F].contains b || (b == 0x0C && (u == 0x50 || u == 0x52))
  | 6 => [0x10, 0x11, 0x12].contains b
  | 7 => [0x13, 0x14].contains b
  | 8 => [0x17, 0x18].contains b
  | 9 => false
  | _ => [0x0B, 0x1A].contains b || (b == 0x0C && (decide (u ≤ 0x23) || (decide (0x30 ≤ u) && decide (u ≤ 0x47))))

/-- Whether a register has a field of an access class. -/
def RegDef.has (d : RegDef) (p : Acc → Bool) : Bool := d.fields.any (fun f => p f.acc)

/-- A sealed field. -/
def Acc.sealed (a : Acc) : Bool := a == .rws || a == .rwsw

/-- The reason for which one word of a record is refused, were it written by section `id` (R75). -/
def wordBad (id profile a v : Nat) : Option Nat :=
  let b := a / 0x10000
  let u := a / 0x100 % 0x100
  match regDefAt a with
  | none => some (b % 0x100 * 0x100 + RANGE)
  | some d =>
    let rws := d.has Acc.sealed
    let rwp := d.has (· == .rwp)
    let owned := sectionOwns id b u || (id == 9 && rwp) || (id == 10 && rws)
    if !owned || (rws && id != 10) || (rwp && id != 9) then some 0x0227
    else if a = 0x000100 ∧ v % 2 ≠ profile then some 0x0227 else none

/-- The reason for which a record is refused before any of its words is written, with the address it names. A record that both announces too many words and runs past 0xFC is refused with RECORD (DESIGN CHOICE, log entry 80). -/
def recordBad (id profile : Nat) (r : Rec) : Option (Nat × Nat) :=
  let b := r.addr / 0x10000 * 0x100
  if r.n = 0 then some (b + ZERO_LEN, r.addr)
  else if r.words.length < r.n then some (0x0227, r.addr)
  else if 0xFC < r.addr % 0x100 + 4 * (r.n - 1) then some (b + RANGE, r.addr)
  else firstSome (fun (k, v) => (wordBad id profile (r.addr + 4 * k) v).map (fun e => (e, r.addr + 4 * k)))
    ((List.range r.words.length).zip r.words)

/-- The slot's bytes; slot B exists only on a flash of 4 MiB or more (R71). -/
def flashSlot (f : FlashImage) (b : Nat) : List Byte := if b = 0 then f.slotA else if 4 ≤ f.mib then f.slotB else []

/-- The bytes of the flash by byte address (R71); outside the slots the model reads the unwritten byte of a flash. -/
def flashByte (f : FlashImage) (a : Nat) : Byte :=
  if a < 0x200000 then f.slotA.getD a 0xFF#8 else (flashSlot f 1).getD (a - 0x200000) 0xFF#8

end Sys2Proof.Machine
end

