-- ==== Sys2Proof/Machine/Seal.lean ====
section
/-! DEFINITION. SEAL and the flash unit of HOST: the propolis switches and the digest (R540 to R543), the operator passcode (R544 to R546) and flash access through the host (R537). -/

namespace Sys2Proof.Machine

/-- Codes of SEAL_SW.STATE (R541). -/
def SW_CLOSED : Nat := 0
def SW_OPEN : Nat := 1
def SW_FAULT : Nat := 2

/-- Whether a scan of this sample meets the mask. -/
def State.maskMet (s : State) (sample : Nat) : Bool := sample &&& s.get SEAL_MASK_MASK == s.get SEAL_MASK_MASK

/-- The seal state that a scan speaks for. -/
def State.scanSays (s : State) (x : Bool × Nat) : Nat := if x.1 then SW_FAULT else if s.maskMet x.2 then SW_CLOSED else SW_OPEN

/-- SAFE was entered after a load failure. -/
def State.loadFailed (s : State) : Bool := s.pstate == SAFE && s.get SYS_PWR_STATE_SAFE_CAUSE == 1

/-- A closure is renewed from the flash in this power state (R543). -/
def State.canRenew (s : State) : Bool := !s.pwr.dormant && decide (PRIME ≤ s.pstate) && !s.loadFailed

/-- The digest takes the SHA-256 of section data, and RENEW_PEND clears. -/
def State.putDigest (s : State) (data : List Byte) : State :=
  let h := sha256 data
  ((List.range 8).foldl (fun s k => s.set SEAL_DIGEST_DIGEST (leAt h (4 * k) 4) 0 k) s).set SEAL_SW_RENEW_PEND 0

/-- The bytes of SEAL_DIGEST. -/
def State.digest (s : State) : List Byte := (List.range 8).flatMap (fun k => leBytes 4 (s.get SEAL_DIGEST_DIGEST 0 k))

/-- DIVERGED, and the event when its condition becomes present. -/
def State.setDiverged (s : State) (v : Bool) : State :=
  (s.setb SEAL_SW_DIVERGED v).raiseIf (v && !s.flag SEAL_SW_DIVERGED) SRC_SEAL_DIVERGED 0x01

/-- A closure (R543): it is renewed within 60 ms, or the renewal stays pending and the entry carries the pending marker. -/
def State.closure (s : State) : State :=
  let s := (s.inc SEAL_CNT_CLOSURES).raise SRC_SEAL_CLOSED 0x01
  if s.canRenew then { s with sealed := { s.sealed with due := true } }
  else ((s.set SEAL_SW_RENEW_PEND 1).logAppend 6 2 0 0 0 []).2

/-- A confirmed seal state (R541). -/
def State.confirmSeal (s : State) (v : Nat) : State :=
  let was := s.get SEAL_SW_STATE
  let s := s.set SEAL_SW_STATE v
  if v = SW_OPEN then ((s.inc SEAL_CNT_OPENINGS).raise SRC_SEAL_OPENED 0x01 |>.logAppend 5 2 0 0 0 []).2
  else if v = SW_FAULT then (s.raise SRC_SEAL_SEAL_FAULT 0x01 |>.logAppend 7 2 0 0 0 []).2
  else if was = SW_OPEN then s.closure
  else (s.logAppend 6 2 0 0 0 []).2

/-- One scan of the switch matrix (R540, R541): the state changes when two consecutive scans agree. -/
def opSealScan (sample : BitVec 16) (fault : Bool) (s : State) : State :=
  if !s.pwr.aonUp then s
  else
    let x := (fault, sample.toNat)
    let v := s.scanSays x
    let agree := match s.sealed.last with | some y => s.scanSays y == v | none => false
    let s := { (s.set SEAL_SW_WORD sample.toNat) with sealed := { s.sealed with last := some x } }
    if agree && v != s.get SEAL_SW_STATE then s.confirmSeal v else s

/-- R540 SEAL_SCAN. -/
def execSealScan (sample : BitVec 16) (fault : Bool) (s : State) : Host.Outcome State Fault Refusal := .next (opSealScan sample fault s)

/-! The renewal (R543). -/

/-- The bits of a register that a record of the image sets: its writable fields, EN aside (R75). -/
def recordMask (a : Nat) : Word :=
  match regDefAt a with
  | none => 0#32
  | some d => d.fields.foldl (fun m f =>
      if (f.acc == .rw || f.acc == .rwl || f.acc == .rws || f.acc == .rwp) && !allBlocks.any (fun b => a == ctrlAddr b 0x00 && f.lo == 0)
      then m ||| BitVec.ofNat 32 ((2 ^ f.w - 1) <<< f.lo) else m) 0#32

/-- The words that a section's records set, later ones in place of earlier ones at the same address (R75). -/
def recordWords (rs : List Rec) : List (Nat × Nat) :=
  let all := rs.flatMap (fun r => (List.range r.words.length).map (fun k => (r.addr + 4 * k, r.words.getD k 0)))
  (all.foldl (fun m p => sparsePut p.1 (some p.2) none m) []).filterMap (fun p => p.2.map (fun v => (p.1, v)))

/-- Whether a register differs from what a section's records set. -/
def State.sectionDiffers (s : State) (data : List Byte) : Bool :=
  (recordWords (records data)).any (fun p => (s.word p.1 &&& recordMask p.1) != (BitVec.ofNat 32 p.2 &&& recordMask p.1))

/-- The renewal: the METROLOGY section of the slot in force is read, the digest renewed and every record compared. -/
def State.renew (s : State) : State :=
  let m := match s.flash with | some f => metrology (flashSlot f (s.get BOOT_STAT_SLOT)) | none => none
  let s := s.putDigest (m.getD [])
  s.setDiverged (match m with | none => true | some d => s.sectionDiffers d || s.flag CAL_UCMD_PENDING)

/-- The renewal that a closure made due. -/
def opSealRenewal (s : State) : State :=
  if !s.sealed.due then s
  else
    let s := { s with sealed := { s.sealed with due := false } }
    if s.canRenew then
      let s := s.renew
      (s.logAppend 6 2 0 0 0 (s.digest.take 16)).2
    else ((s.set SEAL_SW_RENEW_PEND 1).logAppend 6 2 0 0 0 []).2

/-- R543 SEAL_RENEWAL. -/
def execSealRenewal (s : State) : Host.Outcome State Fault Refusal := .next (s.live (opSealRenewal s))

/-! The operator passcode. -/

/-- First 16 bytes of SHA-256 of DEVICE_ID and a passcode, both little-endian (R544). -/
def State.passHash (s : State) (pass : Nat) : List Byte := (sha256 (leBytes 8 (s.get64 METR_DEVID_ID) ++ leBytes 8 pass)).take 16

/-- A session ends. -/
def State.endSession (s : State) : State := (s.set SEAL_PSTAT_SESSION 0).set SEAL_PSTAT_REMAIN 0

/-- A session starts, or an accepted RWP write restarts it. -/
def State.startRemain (s : State) : State := s.set SEAL_PSTAT_REMAIN (s.get SEAL_PCFG_PASS_TMO)

/-- An attempt that does not match: FAILS, and the lockout when the tries are used up (R545). -/
def State.wrongPass (s : State) : State :=
  let s := (s.refuse .seal 0x1923 0x02 0x00).inc SEAL_PSTAT_FAILS
  let s := s.raise SRC_SEAL_WRONG_PASS 0x02
  if s.get SEAL_PCFG_PASS_TRIES ≤ s.get SEAL_PSTAT_FAILS then
    ((s.set SEAL_PSTAT_LOCKOUT 1).raise SRC_SEAL_LOCKOUT 0x02 |>.logAppend 9 2 0 0 0 (leBytes 4 (s.get SEAL_PSTAT_FAILS))).2
  else s

/-- A passcode attempt, submitted with the high word (R544, R545); before a passcode is set none matches (R546). Answers whether it was accepted. -/
def opPassAttempt (v : BitVec 32) (s : State) : Bool × State :=
  let low := (sparseFind 0x190200 s.pairs.lowWritten).getD 0#32
  let pass := low.toNat + 2 ^ 32 * v.toNat
  if s.flag SEAL_PSTAT_LOCKOUT then (false, s.refuse .seal 0x1922 0x02 0x00)
  else if s.flag SEAL_PSTAT_PASS_SET && s.passHash pass == s.sealed.hash then
    (true, ((s.set SEAL_PSTAT_SESSION 1).startRemain).set SEAL_PSTAT_FAILS 0)
  else (false, s.wrongPass)

/-- R544 PASS_ATTEMPT. -/
def execPassAttempt (v : BitVec 32) (s : State) : Host.Outcome State Fault Refusal := .next (s.live (opPassAttempt v s).2)

/-- REMAIN reaches 0 (R544). -/
def opSessionExpiry (s : State) : State := if s.flag SEAL_PSTAT_SESSION then s.endSession else s

/-- R544 SESSION_EXPIRY. -/
def execSessionExpiry (s : State) : Host.Outcome State Fault Refusal := .next (s.live (opSessionExpiry s))

/-- SEAL_PCMD LOCK. -/
def opPassLock (s : State) : State := s.endSession

/-- R544 PASS_LOCK. -/
def execPassLock (s : State) : Host.Outcome State Fault Refusal := .next (s.live (opPassLock s))

/-- SEAL_PCMD SET (R546): the new passcode is the value of SEAL_PASS_NEW. Answers whether it was accepted. -/
def opPassSet (s : State) : Bool × State :=
  let pass := s.get64 SEAL_PASS_NEW_PASS
  if !s.flag SEAL_PSTAT_SESSION && s.get SEAL_SW_STATE != SW_OPEN then (false, s.refuseC .seal NO_PASSCODE 0x02 0x10)
  else if pass = 0 then (false, s.refuseC .seal RANGE 0x02 0x10)
  else s.logged 8 0 0 0 0 [] (fun s => { (s.set SEAL_PSTAT_PASS_SET 1) with sealed := { s.sealed with hash := s.passHash pass } })

/-- R546 PASS_SET. -/
def execPassSet (s : State) : Host.Outcome State Fault Refusal := .next (s.live (opPassSet s).2)

/-- The lockout ends after 60 s, which a reset does not restart (R545): it runs out in the control die's absence too. -/
def opLockoutEnd (s : State) : State :=
  if s.flag SEAL_PSTAT_LOCKOUT then (s.set SEAL_PSTAT_LOCKOUT 0).set SEAL_PSTAT_FAILS 0 else s

/-- R545 LOCKOUT_END. -/
def execLockoutEnd (s : State) : Host.Outcome State Fault Refusal := .next (opLockoutEnd s)

/-! Flash access through the host (R537). -/

/-- Replace bytes of a list from a position, filling a gap with erased bytes. -/
def listPut (l : List Byte) (o : Nat) (bs : List Byte) : List Byte :=
  let l := l ++ List.replicate (o - l.length) 0xFF#8
  l.take o ++ bs ++ l.drop (o + bs.length)

/-- Write bytes into the flash; addresses outside the two slots are not kept (log entry 22). -/
def flashWrite (f : FlashImage) (a : Nat) (bs : List Byte) : FlashImage :=
  if a < 0x200000 then { f with slotA := listPut f.slotA a bs }
  else if a < 0x400000 then { f with slotB := listPut f.slotB (a - 0x200000) bs }
  else f

/-- The reason that refuses a flash operation (1 READ, 2 PROGRAM, 3 ERASE), if one does, by the rows of R537 in order. -/
def State.flashRefused (s : State) (op : Nat) : Option Nat :=
  let a := s.get HOST_FL_ADDR_ADDR
  let n := s.get HOST_FL_BUF_LEN
  let unit := s.get HOST_FL_STAT_ERASE_KIB * 1024
  let base := s.get HOST_FL_BUF_BASE
  if !(s.pstate == READY || s.pstate == SAFE) || s.loadFailed || s.flag HOST_FL_STAT_BUSY then some 0x170A
  else if decide (2 ≤ op) && !s.flag SEAL_PSTAT_SESSION then some 0x1706
  else if decide (2 ≤ op) && a / 0x200000 == s.get BOOT_STAT_SLOT then some 0x1720
  else if op == 3 then (if unit = 0 ∨ a % unit ≠ 0 then some 0x1702 else none)
  else if n = 0 ∨ 256 < n ∨ 0xC0000 < base + n ∨ (op = 2 ∧ 256 < a % 256 + n) then some 0x1702
  else none

/-- A refused flash operation is recorded in HOST_CHK with the command register. -/
def State.flashNo (s : State) (r : Nat) : Bool × State := (false, s.refuse .host r 0x02 0x00)

/-- An accepted flash operation is in progress. -/
def State.flashBusy (s : State) : State := s.set HOST_FL_STAT_BUSY 1

/-- READ: LEN bytes from ADDR into BANK_HOST at BASE. -/
def opFlashRead (s : State) : Bool × State :=
  match s.flashRefused 1 with
  | some r => s.flashNo r
  | none =>
    let s := s.flashBusy
    match s.flash with
    | none => (true, s)
    | some f =>
      let a := s.get HOST_FL_ADDR_ADDR
      (true, s.store (BANK_HOST + s.get HOST_FL_BUF_BASE) ((List.range (s.get HOST_FL_BUF_LEN)).map (fun k => flashByte f (a + k))))

/-- R537 FLASH_READ. -/
def execFlashRead (s : State) : Host.Outcome State Fault Refusal := .next (s.live (opFlashRead s).2)

/-- PROGRAM: LEN bytes from BASE into the page at ADDR. -/
def opFlashProgram (s : State) : Bool × State :=
  match s.flashRefused 2 with
  | some r => s.flashNo r
  | none =>
    let r := s.flashBusy.load 0 (BANK_HOST + s.get HOST_FL_BUF_BASE) (s.get HOST_FL_BUF_LEN)
    (true, { r.2.2 with flash := s.flash.map (fun f => flashWrite f (s.get HOST_FL_ADDR_ADDR) r.1) })

/-- R537 FLASH_PROGRAM. -/
def execFlashProgram (s : State) : Host.Outcome State Fault Refusal := .next (s.live (opFlashProgram s).2)

/-- ERASE: one erase unit, after its change-log entry (R547). -/
def opFlashErase (s : State) : Bool × State :=
  match s.flashRefused 3 with
  | some r => s.flashNo r
  | none =>
    let a := s.get HOST_FL_ADDR_ADDR
    let n := s.get HOST_FL_STAT_ERASE_KIB * 1024
    s.logged 11 0 0 0 0 (leBytes 4 a ++ leBytes 4 n) (fun s =>
      { s.flashBusy with flash := s.flash.map (fun f => flashWrite f a (List.replicate n 0xFF#8)) })

/-- R537 FLASH_ERASE. -/
def execFlashErase (s : State) : Host.Outcome State Fault Refusal := .next (s.live (opFlashErase s).2)

/-- The flash reports completion, or an error or a timeout. -/
def opFlashOpDone (ok : Bool) (s : State) : State :=
  if !s.flag HOST_FL_STAT_BUSY then s
  else
    let s := s.set HOST_FL_STAT_BUSY 0
    if ok then s.set HOST_FL_STAT_DONE 1
    else ((s.set HOST_FL_STAT_FAIL 1).refuse .host 0x1721 0x02 0x00).raise SRC_HOST_FLASH_FAIL 0x02

/-- R537 FLASH_OP_DONE. -/
def execFlashOpDone (ok : Bool) (s : State) : Host.Outcome State Fault Refusal := .next (s.live (opFlashOpDone ok s))

end Sys2Proof.Machine
end

