-- ==== Sys2Proof/Machine/Enable.lean ====
section
/-! DEFINITION. Enabling and disabling blocks: the dependencies (R14, R15), the clock clients (R63), the configuration check (R84, R99) and what an enable and a disable do in each block. -/

namespace Sys2Proof.Machine

/-- The blocks that must be enabled for a block (R14). -/
def requires : Block → List Block
  | .clk => [] | .time => [.clk] | .sys => [.time] | .safe => [.clk] | .ctc => [.safe] | .hive => [.sys, .clk] | .cell => [.hive]
  | .adc => [.clk] | .fil => [.time, .adc] | .cal => [.fil] | .form => [.cell, .fil] | .law => [.form, .cell, .fil]
  | .mod => [.form, .law, .cell] | .out => [.law, .cell, .ctc] | .metr => [.fil, .cal, .time] | .comb => [.metr] | .cap => [.fil, .mem]
  | .gdrv => [.safe] | .enc => [.clk] | .axis => [.gdrv, .enc, .safe] | .part => [.sys, .mem] | .eth => [.clk]
  | .boot => [.clk] | .chk => [.clk] | .mem => [.clk] | .host => [.clk] | .seal => [.clk]

/-- The blocks of the table of R14, in its order. -/
def tableOrder : List Block :=
  [.clk, .time, .sys, .safe, .ctc, .hive, .cell, .adc, .fil, .cal, .form, .law, .mod, .out, .metr, .comb, .cap, .gdrv, .enc, .axis, .part, .eth]

/-- The blocks that list a block in the table of R14. -/
def dependents (b : Block) : List Block := tableOrder.filter (fun x => (requires x).contains b)

/-- Whether a block is a client of PLL `p` (R63): 0 is PLL_A, 1 is PLL_B. -/
def isClient (p : Nat) (b : Block) : Bool :=
  if p = 0 then !(b == .clk || b == .host || b == .seal) else (b == .hive || b == .part || b == .eth)

/-- Every PLL of which the block is a client is powered and locked. -/
def State.clocked (s : State) (b : Block) : Bool :=
  [0, 1].all (fun p => !isClient p b || (s.flag CLK_PLL_CTRL_PWR p && s.flag CLK_PLL_STAT_LOCKED p))

/-- The check of R99 on a block's counted sources. -/
def checkFlt (b : Block) (s : State) : Option (Nat × Nat × Nat) :=
  firstSome (fun (x : Source) => checks [
    bad (s.get (FLT_N_N b) 0 x.s == 0) ZERO_LEN b.ctrlUnit (0x40 + 8 * x.s),
    bad (s.get (FLT_WIN_W b) 0 x.s == 0) ZERO_LEN b.ctrlUnit (0x44 + 8 * x.s),
    bad (decide (1000000 < s.get (FLT_WIN_W b) 0 x.s)) RANGE b.ctrlUnit (0x44 + 8 * x.s)])
    (allSources.filter (fun x => x.blk == b && x.counted))

/-- The check of SYS (R19): the latency lies within the profile's budget. -/
def checkSys (s : State) : Option (Nat × Nat × Nat) :=
  let tight := s.flag SYS_CYC_CFG_PROFILE
  let per : Int := if tight then 25000 else 50000
  let ofs : Int := s.get SYS_CYC_TIMING_SAMPLE_OFS
  let l := per - s.get SYS_CYC_TIMING_APPLY_LEAD - ofs
  bad (decide (l < (if tight then 12000 else 30000)) || decide (per - ofs < l)) DISAGREE 0x01 0x04

/-- What the enable of SYS does: the profile comes into force, and the cycle waits for its first boundary (R18). -/
def enterSys (s : State) : State :=
  let s := s.set SYS_CYC_STAT_PROFILE_ACT (s.get SYS_CYC_CFG_PROFILE)
  { s.set SYS_CYC_STAT_RUNNING 0 with cyc := { s.cyc with suspended := false, sampled := false, computed := false, modulated := false, resync := false } }

/-- What the disable of SYS does: the cycle stops. -/
def leaveSys (s : State) : State := s.set SYS_CYC_STAT_RUNNING 0

/-- A block's own configuration check: reason, unit and offset of the first offending field, in the order in which each check lists its conditions (DESIGN CHOICE, log entry 79). -/
def checkOwn (b : Block) (s : State) : Option (Nat × Nat × Nat) :=
  match b with
  | .sys => checkSys s | .time => checkTime s | .hive => checkHive s | .cell => checkCell s | .mod => checkMod s
  | .form => checkForm s | .law => checkLaw s | .out => checkOut s | .metr => checkMetr s | .comb => checkComb s | .cal => checkCal s
  | .adc => checkAdc s | .fil => checkFil s | .cap => checkCap s | .axis => checkAxis s | .gdrv => checkGdrv s | .enc => checkEnc s
  | .safe => checkSafe s | .ctc => checkCtc s | .mem => checkMem s | .part => checkPart s | .eth => checkEth s
  | .clk => none | .boot => none | .chk => none | .host => none | .seal => none

/-- What an enable does in a block. -/
def enterBlock (b : Block) (s : State) : State :=
  match b with
  | .sys => enterSys s | .time => enterTime s | .hive => enterHive s | .cell => enterCell s | .mod => enterMod s
  | .form => enterForm s | .law => enterLaw s | .out => enterOut s | .metr => enterMetr s | .comb => enterComb s | .cal => enterCal s
  | .adc => enterAdc s | .fil => enterFil s | .cap => enterCap s | .axis => enterAxis s | .gdrv => enterGdrv s | .enc => enterEnc s
  | .safe => enterSafeBlk s | .ctc => enterCtc s | .mem => enterMem s | .part => enterPart s | .eth => enterEth s
  | .clk => s | .boot => s | .chk => s | .host => s | .seal => s

/-- What a disable does in a block. -/
def leaveBlock (b : Block) (s : State) : State :=
  match b with
  | .sys => leaveSys s | .hive => leaveHive s | .form => leaveForm s | .law => leaveLaw s | .out => leaveOut s | .metr => leaveMetr s
  | .comb => leaveComb s | .cal => leaveCal s | .adc => leaveAdc s | .fil => leaveFil s | .cap => leaveCap s | .axis => leaveAxis s
  | .ctc => leaveCtc s | .part => leavePart s | .eth => leaveEth s
  | .time => s | .cell => s | .mod => s | .gdrv => s | .enc => s | .safe => s | .mem => s
  | .clk => s | .boot => s | .chk => s | .host => s | .seal => s

/-- The counters that a write of 1 to a block's EN resets, each with its units and its elements: the chapters' "counters reset when EN is written 1" (R34 and the register sections of chapters 06 to 19). -/
def countersOf : Block → List (Fld × Nat × Nat)
  | .sys => [(SYS_CYC_STAT_DEFER_CNT, 1, 1)]
  | .hive => [(HIVE_RCNT_CRC_ERR, 12, 1), (HIVE_RCNT_RETRY, 12, 1), (HIVE_RCNT2_DUP, 12, 1), (HIVE_RCNT2_STRAY, 12, 1), (HIVE_MBX_STAT_DONE, 1, 1)]
  | .cell => [(CELL_SCNT_DROPPED, 192, 1), (CELL_SCNT_CLAMPED, 192, 1), (CELL_SCNT2_COASTS, 192, 1), (CELL_SCNT2_REFRESH, 192, 1)]
  | .mod => [(MOD_SCNT_MOVES, 3, 1), (MOD_SCNT_SAT_CNT, 3, 1), (MOD_SCNT2_TRUNC, 3, 1), (MOD_SCNT2_HELD, 3, 1), (MOD_STAT_LATE_CNT, 1, 1), (MOD_STAT_DAB_SAT_CNT, 1, 1)]
  | .law => [(LAW_SSTAT_FE_CNT, 19, 1), (LAW_WIN_WIN_CHG, 1, 1)]
  | .out => [(OUT_BCNT_MOVES_IN, 12, 1), (OUT_BCNT_MOVES_OUT, 12, 1), (OUT_STAT_DEFER_CNT, 1, 1)]
  | .metr => [(METR_INVCYC_N, 12, 1)]
  | .cal => [(CAL_T_STAT_NEQ, 192, 1), (CAL_T_STAT_NSET, 192, 1), (CAL_XCNT_FAIL_CNT, 1, 1), (CAL_ESTAT_ACC, 1, 1), (CAL_ESTAT_REJ, 1, 1)]
  | .adc => [(ADC_SEQ_STAT_LOOPS, 2, 1)]
  | .axis => [(AXIS_CNT_DROPPED, 4, 1), (AXIS_CNT_REFRESH, 4, 1)]
  | .gdrv => [(GDRV_HCNT_BST_UV, 12, 1), (GDRV_HCNT_SHOOT, 12, 1)]
  | .enc => [(ENC_STAT_SKIP, 4, 1)]
  | .safe => [(SAFE_SISTAT_DEMANDS, 4, 1)]
  | .ctc => [(CTC_OSTAT_OPS, 40, 1)]
  | .mem => [(MEM_BPOIS_CNT, 5, 1), (MEM_DP_COLL_COLL, 1, 1), (MEM_BIST_STAT_PASSES, 1, 1), (MEM_BIST_STAT_ABANDON, 1, 1)]
  | .part => [(PART_SNAP_BAD, 1, 1), (PART_CNT_SWITCHOVERS, 1, 1), (PART_CNT_HANDOVERS, 1, 1)]
  | .eth => [(ETH_MCNT_RX_DISCARD, 2, 1), (ETH_MCNT_RX_ERR, 2, 1), (ETH_MCNT2_PAUSE_US, 2, 1)]
  | .clk => [] | .boot => [] | .chk => [] | .time => [] | .form => [] | .comb => [] | .fil => [] | .cap => [] | .host => [] | .seal => []

/-- A write of 1 to EN resets the block's counters, and FORM computes the derived bases (R211), whatever comes of the enable. -/
def State.enWritten (s : State) (b : Block) : State :=
  let s := (countersOf b).foldl (fun (s : State) (c : Fld × Nat × Nat) =>
    (List.range c.2.1).foldl (fun s u => (List.range c.2.2).foldl (fun s i => s.set c.1 0 u i) s) s) s
  if b = .form then (s.seti FORM_BASE_VPK_V_PK s.vpk).seti FORM_BASE_IPK_I_PK s.ipk else s

/-- Record a refused enable: a common reason carries the block's number, a block reason stands as it is. -/
def State.refuseEnable (s : State) (b : Block) (r : Nat × Nat × Nat) : State :=
  if r.1 < 0x100 then s.refuseC b r.1 r.2.1 r.2.2 else s.refuse b r.1 r.2.1 r.2.2

/-- What refuses an enable, if anything does: a dependency (R14), a clock (R63), the configuration check (R84, R99). Which of several offending fields is the first is the order of the checks (DESIGN CHOICE, log entry 79). -/
def enableRefused (b : Block) (s : State) : Option (Nat × Nat × Nat) :=
  if (requires b).any (fun x => !s.en x) then some (STATE, b.ctrlUnit, 0x00)
  else if !s.clocked b then some (NO_CLOCK, b.ctrlUnit, 0x00)
  else if b.ctrlUnit = 0 then checks [checkFlt b s, checkOwn b s] else checks [checkOwn b s, checkFlt b s]

/-- The check of an enable completes: EN sets, or the refusal is recorded. Answers whether EN sets. -/
def finishEnable (b : Block) (s : State) : Bool × State :=
  let s := { s with cyc := { s.cyc with checking := s.cyc.checking.filter (· != b) } }
  match enableRefused b s with
  | some r => (false, s.refuseEnable b r)
  | none => (true, enterBlock b (s.set (CTRL_EN b) 1))

/-- ETH is held in reset while VIO18 is low (R38): a write of its EN then has no effect. -/
def State.heldInReset (s : State) (b : Block) : Bool := b == .eth && !s.pins.rails.contains .vio18

/-- A write of 1 to EN (R84): it resets the block's counters; a disabled dependency refuses it at once, else the check begins; an enabled block stays as it is. Answers whether the write was accepted. -/
def opBlockEnable (b : Block) (s : State) : Bool × State :=
  if s.heldInReset b then (true, s)
  else
  let s := s.enWritten b
  if s.en b || s.cyc.checking.contains b then (true, s)
  else if (requires b).any (fun x => !s.en x) then (false, s.refuseC b STATE b.ctrlUnit 0x00)
  else (true, { s with cyc := { s.cyc with checking := s.cyc.checking ++ [b] } })

/-- R84 BLOCK_ENABLE. -/
def execBlockEnable (b : Block) (s : State) : Host.Outcome State Fault Refusal := .next (s.live (opBlockEnable b s).2)

/-- Disable a block without judging its dependents, as a safety reaction or the running-state machine does (R15). -/
def State.disable (s : State) (b : Block) : State := if s.en b then (leaveBlock b s).set (CTRL_EN b) 0 else s

/-- The blocks that stay enabled from WAKE on (R76). -/
def alwaysOn : List Block := [.clk, .host, .seal]

/-- A write of 0 to EN (R15): refused while a dependent is enabled, and in CLK, HOST and SEAL once the device has enabled them (R76, log entry 77). A check in progress is given up. Answers whether it was accepted. -/
def opBlockDisable (b : Block) (s : State) : Bool × State :=
  if (dependents b).any (fun x => s.en x) || (alwaysOn.contains b && s.en b) then (false, s.refuseC b STATE b.ctrlUnit 0x00)
  else (true, ({ s with cyc := { s.cyc with checking := s.cyc.checking.filter (· != b) } } : State).disable b)

/-- R15 BLOCK_DISABLE. -/
def execBlockDisable (b : Block) (s : State) : Host.Outcome State Fault Refusal := .next (s.live (opBlockDisable b s).2)

end Sys2Proof.Machine
end

