-- ==== Sys2Proof/Machine/Faults.lean ====
section
/-! DEFINITION. Clearing faults and ending safety functions: the conditions of the level sources (R105), the counting windows (R101), the held faults (R108, R109) and the resets of SAFE_CMD (R470). -/

namespace Sys2Proof.Machine

/-- Whether the condition of a level source is present (R105); a pulse source has none. -/
def State.condPresent (s : State) (b : Block) (n : Nat) : Bool :=
  match b, n with
  | .time, 0 => s.get TIME_SYNC_STAT_STATE == REFUSED
  | .time, 1 => s.get TIME_SYNC_STAT_STATE == HOLDOVER
  | .hive, 2 => (List.range 12).any (fun r => decide (2 ≤ s.get HIVE_RSTAT_MODE r))
  | .cell, 3 => s.inRun && s.stringShort
  | .cell, 4 => !s.cell.unconf.isEmpty
  | .form, 1 => s.en .form && s.flag FORM_BKR_BKR_EN && (s.flag FORM_MODE_STAT_BKR_CMD != s.bkrClosed || decide (3 ≤ s.form.mismatch))
  | .form, 2 => !s.form.invalid.isEmpty
  | .form, 3 => s.flag FORM_MODE_STAT_RESERVE_LOW
  | .out, 1 => slots.any (fun i => s.allocStep i == 7)
  | .out, 2 => buses.any (fun b => decide (1 ≤ (s.busSt b).overRun))
  | .out, 3 => !s.out.openCur.isEmpty
  | .metr, 0 => buses.any (fun b => s.flag METR_MSTAT_INVALID b)
  | .comb, 0 => s.comb.slots.any (fun c => decide (2 ≤ c.tries))
  | .comb, 2 => !s.backlog.isEmpty
  | .cal, 0 => s.flag CAL_XSTAT_FAIL
  | .cal, 1 => buses.any (fun b => s.flag CAL_BRES_MISMATCH 0 b)
  | .adc, 0 => (List.range 24).any (fun n => s.flag ADC_RSTAT_OPEN n)
  | .adc, 1 => s.refFault 0 || s.refFault 1
  | .fil, 0 => (List.range 36).any (fun n => s.flag FIL_DSTAT_STUCK n)
  | .fil, 1 => (List.range 36).any (fun n => s.flag FIL_DSTAT_OVR n)
  | .gdrv, 0 => (List.range 12).any (fun h => s.flag GDRV_HSTAT_SC h)
  | .gdrv, 3 => (List.range 4).any (fun n => s.flag GDRV_VBR_REV 0 n)
  | .gdrv, 4 => s.flag GDRV_VDRV_UV
  | .enc, 0 => !s.drive.encRev.isEmpty
  | .enc, 1 => !s.drive.ssupShort.isEmpty
  | .enc, 2 => !s.drive.ssupBack.isEmpty
  | .safe, 0 => s.get GDRV_TRIP_STAT_LATCH != 0
  | .safe, 1 => (List.range 4).any (fun i => s.flag SAFE_SISTAT_DISC i)
  | .safe, 2 => !s.drive.siRev.isEmpty
  | .safe, 5 => (List.range 4).any (fun a => s.flag SAFE_AXSTAT_PLAUS_FAIL a)
  | .ctc, 0 => !s.ctc.short.isEmpty
  | .ctc, 1 => !s.ctc.openLoad.isEmpty
  | .ctc, 2 => !s.ctc.reverse.isEmpty || !s.ctc.fbRev.isEmpty
  | .ctc, 3 => coils.any (fun o => s.flag CTC_OSTAT_STUCK o)
  | .ctc, 4 => coils.any (fun o => s.flag CTC_OSTAT_WELDED o)
  | .part, 0 => s.en .part && !s.flag PART_STAT_PARTNER
  | .part, 4 => s.en .part && s.role == NOT_READY
  | .eth, 1 => s.en .eth && [0, 1].any (fun p => s.flag ETH_MCFG_MAC_EN p && !s.flag ETH_MSTAT_LINK p)
  | .seal, 0 => s.get SEAL_SW_STATE == SW_FAULT
  | .seal, 1 => s.flag SEAL_SW_DIVERGED
  | _, _ => false

/-- W1C of EVT bits (R103). -/
def opEvtClear (b : Block) (mask : Nat) (s : State) : State := s.set (STATUS_EVT b) (s.get (STATUS_EVT b) &&& (0xFFFF - mask % 0x10000))

/-- R103 EVT_CLEAR. -/
def execEvtClear (b : Block) (mask : BitVec 16) (s : State) : Host.Outcome State Fault Refusal := .next (s.live (opEvtClear b mask.toNat s))

/-- Clear one SEV bit, judged on its own (R104, R105): an accepted clear also closes the source's window, whatever the bit held. -/
def State.sevClearOne (s : State) (b : Block) (n : Nat) : Bool × State :=
  match allSources.find? (fun x => x.blk == b && x.s == n) with
  | none => (true, s)
  | some x =>
    if !x.counted then (true, s)
    else if s.flag ⟨ctrlAddr b 0x10, 0, 0, n, 1⟩ && x.level && s.condPresent b n then (false, s.refuse b x.persist b.ctrlUnit 0x10)
    else (true, (s.set ⟨ctrlAddr b 0x10, 0, 0, n, 1⟩ 0).set (FLT_N_WCNT b) 0 0 n)

/-- W1C of SEV bits: each is judged on its own; the block's hold bit clears when SEVERE falls (R105, R108). The bits are judged by rising number, each refused one with its own record, so the highest one's stands in CHK (log entry 11). -/
def opSevClear (b : Block) (mask : Nat) (s : State) : Bool × State :=
  let was := s.severe b
  let r := (List.range 16).foldl (fun (r : Bool × State) n =>
    if bitOf mask n then let x := r.2.sevClearOne b n; (r.1 && x.1, x.2) else r) (true, s)
  (r.1, if was && !r.2.severe b then r.2.holdBit b false else r.2)

/-- R105 SEV_CLEAR. -/
def execSevClear (b : Block) (mask : BitVec 16) (s : State) : Host.Outcome State Fault Refusal := .next (s.live (opSevClear b mask.toNat s).2)

/-- A counting window closes (R101). -/
def opFltWindowClose (b : Block) (n : Nat) (s : State) : State :=
  if allSources.any (fun x => x.blk == b && x.s == n && x.counted) then s.set (FLT_N_WCNT b) 0 0 n else s

/-- R101 FLT_WINDOW_CLOSE. -/
def execFltWindowClose (b : Block) (src : Fin 16) (s : State) : Host.Outcome State Fault Refusal := .next (s.live (opFltWindowClose b src.val s))

/-- W1C of SYS_FAULT_HOLD (R109): a bit of a severe block stays, and SYS_CHK records it, once for each refused bit (log entry 11). -/
def opFaultHoldClear (v : Nat) (s : State) : Bool × State :=
  let r := allBlocks.foldl (fun (r : Bool × State) b =>
    if bitOf v b.no then
      (if r.2.severe b then (false, r.2.refuseC .sys STATE 0x02 0x14) else (r.1, r.2.set ⟨0x000214, 0, 0, b.no, 1⟩ 0))
    else r) (true, s)
  (r.1, (if bitOf v 31 then r.2.set SYS_FAULT_HOLD_RESTORE_ERR 0 else r.2).saveHold)

/-- R109 FAULT_HOLD_CLEAR. -/
def execFaultHoldClear (v : BitVec 32) (s : State) : Host.Outcome State Fault Refusal := .next (s.live (opFaultHoldClear v.toNat s).2)

/-- The always-on domain restores the held faults and releases FAULT_N (R39, R108). -/
def opFaultHoldRestore (copyOk : Bool) (s : State) : State :=
  if !s.pwr.faultForced then s
  else
    let s := if copyOk then (s.set SYS_FAULT_HOLD_HOLD s.pwr.holdCopy).set SYS_FAULT_HOLD_RESTORE_ERR 0
      else ((s.set SYS_FAULT_HOLD_HOLD 0x7FFFFFF).set SYS_FAULT_HOLD_RESTORE_ERR 1).saveHold
    { s with pwr := { s.pwr with faultForced := false } }

/-- R108 FAULT_HOLD_RESTORE. -/
def execFaultHoldRestore (copyOk : Bool) (s : State) : Host.Outcome State Fault Refusal := .next (opFaultHoldRestore copyOk s)

/-- The level of FAULT_N, true for high (R39, R107). -/
def State.faultN (s : State) : Bool :=
  !(s.pwr.faultForced || allBlocks.any (fun b => s.severe b) || (s.word 0x000214).toNat != 0)

/-! The resets of SAFE_CMD (R470). -/

/-- An enabled pair demands with a channel low. -/
def State.pairDemands (s : State) (i : Nat) : Bool :=
  s.en .safe && s.flag SAFE_SICFG_EN i && (!s.flag SAFE_SISTAT_A i || !s.flag SAFE_SISTAT_B i)

/-- An enabled pair has a discrepancy. -/
def State.pairDisc (s : State) (i : Nat) : Bool := s.en .safe && s.flag SAFE_SICFG_EN i && s.flag SAFE_SISTAT_DISC i

/-- A refused reset. -/
def State.resetNo (s : State) (r : Nat) : Bool × State := (false, s.refuse .safe r 0x11 0x0C)

/-- Whether a pair is mapped to SGR, to SOD of a bus, to a function of an axis. -/
def State.mapsSgr (s : State) (i : Nat) : Bool := s.flag SAFE_SICFG_SGR i
def State.mapsSod (s : State) (b i : Nat) : Bool := s.flag SAFE_SICFG_SOD i && bitOf (s.get SAFE_SICFG_BUS i) b
def State.mapsAxis (s : State) (a i : Nat) : Bool := (s.flag SAFE_SICFG_SDS i || s.flag SAFE_SICFG_STR i) && bitOf (s.get SAFE_SICFG_AXES i) a

/-- A used VPCC or ICONV input is invalid (R214). -/
def State.gridInvalid (s : State) : Bool := s.form.invalid.any (fun n => !(decide (27 ≤ n) && decide (n ≤ 29)))

/-- A source of SGR that is still present (R460). -/
def State.sgrAsked (s : State) : Bool :=
  (List.range 4).any (fun i => s.mapsSgr i && s.pairDemands i) || s.get GDRV_TRIP_STAT_LATCH != 0
    || s.condPresent .cell 3 || s.condPresent .form 1 || s.gridInvalid

/-- RESET_SGR: the BLOCK repetition and the forcing of coils end (R470). -/
def opResetSgr (s : State) : Bool × State :=
  if s.sgrAsked then s.resetNo 0x1320
  else if (List.range 4).any (fun i => s.mapsSgr i && s.pairDisc i) then s.resetNo 0x1321
  else if s.pstate ≠ SAFE ∨ s.flag SAFE_FSTAT_SGR_DONE = false then s.resetNo 0x130A
  else (true, (((s.unblock).releaseSgr).set SAFE_FSTAT_SGR_ACTIVE 0).set SAFE_FSTAT_SGR_DONE 0)

/-- R470 RESET_SGR. -/
def execResetSgr (s : State) : Host.Outcome State Fault Refusal := .next (s.live (opResetSgr s).2)

/-- The outputs of a bus: its coil and the coil's followers. -/
def State.busOutputs (s : State) (b : Nat) : List Nat :=
  let o := s.get OUT_BCFG_CTC b
  o :: coils.filter (fun f => s.flag CTC_OCFG_FOLLOW_EN f && s.get CTC_OCFG_FOLLOW f == o)

/-- An interlock still asks for SOD of a bus: the axis has moved, or its engaged switch is open, while the bus is not OFF (R472). -/
def State.ilkAsksSod (s : State) (b : Nat) : Bool :=
  (List.range 4).any (fun a => s.ilkOn a && (s.ilkBuses a).contains b &&
    (s.ilkMoved a || (s.flag SAFE_ILK_ENG_EN 0 a && !s.fbHigh (s.get SAFE_ILK_ENG_FB 0 a) && s.busEn b && s.bst b != B_OFF)))

/-- A source of SOD of a bus that is still present (R460). -/
def State.sodAsked (s : State) (b : Nat) : Bool :=
  (List.range 4).any (fun i => s.mapsSod b i && s.pairDemands i)
    || decide (1 ≤ (s.busSt b).overRun) || s.out.openCur.contains b
    || (s.flag METR_CFG_INV_SOD && s.flag METR_MSTAT_INVALID b)
    || (s.flag OUT_BCFG_EN b && (s.busOutputs b).any (fun o => s.flag CTC_OSTAT_STUCK o || s.flag CTC_OSTAT_WELDED o))
    || s.ilkAsksSod b

/-- RESET_SOD of a bus (R470): the bus stays OFF or UNAVAILABLE. -/
def opResetSod (b : Nat) (s : State) : Bool × State :=
  if s.sodAsked b then s.resetNo 0x1320
  else if (List.range 4).any (fun i => s.mapsSod b i && s.pairDisc i) then s.resetNo 0x1321
  else if s.sodActive b then
    let s := (s.set SAFE_FSTAT_SOD (s.get SAFE_FSTAT_SOD &&& (0xFFF - 1 <<< b))).sodStep b 0
    let s := { s with safe := { s.safe with sodSlots := s.safe.sodSlots.filter (fun (p : Nat × Nat) => p.1 != b) } }
    (true, (s.setBusSt b { s.busSt b with noDab := false }).releaseSod b)
  else (true, s)

/-- R470 RESET_SOD. -/
def execResetSod (b : Fin 12) (s : State) : Host.Outcome State Fault Refusal := .next (s.live (opResetSod b.val s).2)

/-- A source of SDS or STR of an axis that is still present (R460). -/
def State.axisAsked (s : State) (a : Nat) : Bool :=
  (List.range 4).any (fun i => s.mapsAxis a i && s.pairDemands i)
    || (s.sgrActive && s.get SAFE_AXCFG_SGR_AX a != 0 && s.axisEn a)
    || s.flag SAFE_AXSTAT_PLAUS_FAIL a
    || (s.ilkOn a && s.get AXIS_STAT_STATE a == AX_RUN && (s.ilkBuses a).any (fun b => s.aboveSafe a b))

/-- RESET_AXIS: SDS and STR end, and the axis enters IDLE (R470). -/
def opResetAxis (a : Nat) (s : State) : Bool × State :=
  if s.axisAsked a then s.resetNo 0x1320
  else if (List.range 4).any (fun i => s.mapsAxis a i && s.pairDisc i) then s.resetNo 0x1321
  else if s.sdsActive a || s.strActive a then
    let s := s.set SAFE_FSTAT_SDS (s.get SAFE_FSTAT_SDS &&& (0xF - 1 <<< a))
    let s := s.set SAFE_FSTAT_STR (s.get SAFE_FSTAT_STR &&& (0xF - 1 <<< a))
    (true, (s.set SAFE_AXSTAT_FUNC 0 a).axisTo a AX_IDLE)
  else (true, s)

/-- R470 RESET_AXIS. -/
def execResetAxis (a : Fin 4) (s : State) : Host.Outcome State Fault Refusal := .next (s.live (opResetAxis a.val s).2)

end Sys2Proof.Machine
end

