-- ==== Sys2Proof/Machine/Boot.lean ====
section
/-! DEFINITION. The PLLs (R62 to R70), the resets and rails (R37 to R41), the always-on domain (R57, R61, R92), the power commands (R58 to R60, R91) and LOAD (R71 to R79). -/

namespace Sys2Proof.Machine

/-! PLLs. -/

def State.pll (s : State) (p : Nat) : PllState := if p = 0 then s.pllA else s.pllB
def State.setPll (s : State) (p : Nat) (x : PllState) : State := if p = 0 then { s with pllA := x } else { s with pllB := x }

/-- The target VCO frequency in MHz (R62). -/
def State.vco (s : State) (p : Nat) : Nat := 50 * s.get CLK_PLL_CTRL_FBDIV p

/-- The entries that acquisition tries, in ascending order (R64). -/
def State.bands (s : State) (p : Nat) : List Nat :=
  (List.range 16).filter (fun b => s.flag CLK_PLL_BAND_VALID p b && decide (s.get CLK_PLL_BAND_FMIN p b ≤ s.vco p) && decide (s.vco p ≤ s.get CLK_PLL_BAND_FMAX p b))

/-- No band has locked: the bit, the reason and the event (R64). -/
def State.noBand (s : State) (p : Nat) : State :=
  (((s.setPll p { s.pll p with acquiring := false, trying := none }).set CLK_PLL_STAT_NO_BAND 1 p).refuse .clk 0x0120 (p + 1) 0x00).raise SRC_CLK_NO_BAND (p + 1)

/-- Acquisition starts with the boot band (R65) or the band table (R64). Until it locks, PLL_A gives no heartbeat. -/
def State.acquire (s : State) (p : Nat) (boot : Bool) : State :=
  let s := (s.set CLK_PLL_STAT_LOCKED 0 p).inc CLK_PLL_STAT_ACQ_CNT p
  let s := if p = 0 then s.heartbeatLoss else s
  let first := (s.bands p).head?
  if boot then s.setPll p ⟨true, true, none⟩
  else match first with
  | some b => s.setPll p ⟨true, false, some b⟩
  | none => (s.setPll p ⟨false, false, none⟩).noBand p

/-- The reason that R62 gives against settings of a PLL. -/
def pllBad (p fb post : Nat) : Option Nat :=
  if fb < 16 ∨ 30 < fb ∨ post < 1 ∨ 8 < post then some RANGE
  else if p = 0 then (if 50 * fb = 600 * post then none else some DISAGREE)
  else if 50 * fb = 500 * post ∧ fb = 20 then none else some DISAGREE

/-- The reason that R70 gives against a band entry. -/
def bandBad (v : Nat) : Option Nat := if bitsOf v 31 1 = 1 ∧ bitsOf v 11 11 < bitsOf v 0 11 then some DISAGREE else none

/-- Whether any client of a PLL is enabled (R63). -/
def State.clientOn (s : State) (p : Nat) : Bool := allBlocks.any (fun b => isClient p b && s.en b)

/-- The stored bits of CLK_PLL_CTRL. -/
def State.storePll (s : State) (p v : Nat) : State :=
  ((s.set CLK_PLL_CTRL_FBDIV (bitsOf v 0 8) p).set CLK_PLL_CTRL_POSTDIV (bitsOf v 8 4) p).set CLK_PLL_CTRL_PWR (bitsOf v 13 1) p

/-- The stored bits of a band entry. -/
def State.storeBand (s : State) (p b v : Nat) : State := s.putWord (CLK_PLL_BAND_FMIN.addr p b) (BitVec.ofNat 32 v &&& 0xBFFFFFFF#32)

/-- Restart acquisition; a PLL whose PWR is 0 stays unlocked and acquires nothing, and the heartbeat goes on, since the core runs from REFCLK (DESIGN CHOICE, log entry 78). -/
def State.restart (s : State) (p : Nat) : State :=
  if s.flag CLK_PLL_CTRL_PWR p then s.acquire p false
  else ((s.set CLK_PLL_STAT_LOCKED 0 p).setPll p ⟨false, false, none⟩)

/-- A host write of CLK_PLL_CTRL (R62, R63). Answers whether it was accepted. -/
def opPllCtrl (p v : Nat) (s : State) : Bool × State :=
  if s.clientOn p then (false, s.refuseC .clk LOCKED (p + 1) 0x00)
  else match pllBad p (bitsOf v 0 8) (bitsOf v 8 4) with
  | some r => (false, s.refuseC .clk r (p + 1) 0x00)
  | none => (true, (s.storePll p v).restart p)

/-- R63 PLL_CTRL_WRITE. -/
def execPllCtrlWrite (p : Fin 2) (v : BitVec 32) (s : State) : Host.Outcome State Fault Refusal := .next (s.live (opPllCtrl p.val v.toNat s).2)

/-- R68 PLL_REACQ: REACQ written with the settings held. -/
def execPllReacq (p : Fin 2) (s : State) : Host.Outcome State Fault Refusal :=
  .next (s.live (opPllCtrl p.val ((s.word (CLK_PLL_CTRL_FBDIV.addr p.val 0)).toNat ||| 0x1000) s).2)

/-- A host write of a band entry (R63, R70). Answers whether it was accepted. -/
def opPllBand (p b v : Nat) (s : State) : Bool × State :=
  if s.clientOn p then (false, s.refuseC .clk LOCKED (p + 1) (0x40 + 4 * b))
  else match bandBad v with
  | some r => (false, s.refuseC .clk r (p + 1) (0x40 + 4 * b))
  | none => (true, (s.storeBand p b v).restart p)

/-- R70 PLL_BAND_WRITE. -/
def execPllBandWrite (p : Fin 2) (b : Fin 16) (v : BitVec 32) (s : State) : Host.Outcome State Fault Refusal := .next (s.live (opPllBand p.val b.val v.toNat s).2)

/-- W1C of LOL, refused while unlocked (R69). Answers whether it was accepted. -/
def opLolClear (p : Nat) (s : State) : Bool × State :=
  if s.flag CLK_PLL_STAT_LOCKED p then (true, s.set CLK_PLL_STAT_LOL 0 p) else (false, s.refuse .clk 0x010A (p + 1) 0x04)

/-- R69 LOL_CLEAR. -/
def execLolClear (p : Fin 2) (s : State) : Host.Outcome State Fault Refusal := .next (s.live (opLolClear p.val s).2)

/-! Resets. -/

/-- The bits of a register that a reset of the control die leaves: the always-on domain (R40), values held in MRAM (R541), what the analog die holds (R439, R476) and the levels of inputs. -/
def keptBits (a : Nat) : Word :=
  if a = 0x000200 ∨ a = 0x000208 ∨ a = 0x00020C ∨ a = 0x000214 then 0xFFFFFFFF#32
  else if (0x190100 ≤ a ∧ a < 0x190130) ∨ (0x190300 ≤ a ∧ a < 0x190320) ∨ a = METR_SEQ_NEXT.base then 0xFFFFFFFF#32
  else if a = 0x190214 then 0x00000F06#32
  else if a = GDRV_TRIP_STAT_LATCH.base then 0x0000FFFF#32
  else if (GDRV_VBR_VBR.base ≤ a ∧ a < GDRV_VBR_VBR.base + 16) ∨ a = GDRV_VDRV_VDRV.base then 0xFFFFFFFF#32
  else if a = CTC_FBIN_LO_FB.base ∨ a = CTC_FBIN_HI_FB.base then 0xFFFFFFFF#32
  else if a / 0x10000 = 0x13 ∧ a / 0x100 % 0x100 < 4 ∧ a % 0x100 = 0x08 then 0x00000003#32
  else if a / 0x10000 = 0x12 ∧ a / 0x100 % 0x100 < 4 ∧ a % 0x100 = 0x14 then 0x00000038#32
  else if a / 0x10000 = 0x14 ∧ a / 0x100 % 0x100 < 40 ∧ a % 0x100 = 0x0C then 0x00000002#32
  else 0#32

/-- The registers after a reset that keeps the given bits of each address. -/
def State.keepRegs (s : State) (keep : Nat → Word) : List (Nat × Word) :=
  s.regs.foldl (fun m p =>
    let r := resetWord p.1
    sparsePut p.1 ((p.2 &&& keep p.1) ||| (r &&& ~~~(keep p.1))) r m) []

/-- What a reset leaves outside the registers: memory as given, the conditions at the pins, MRAM and the always-on domain, and the front ends on their rings. -/
def State.resetAround (s : State) (mem : List (Nat × Byte)) (poison : List Nat) (regs : List (Nat × Word)) : State :=
  { State.reset with
    regs := regs, mem := mem, poison := poison, pins := s.pins,
    pwr := { s.pwr with heartbeat := false, enterSafe := false, safeDue := false, loadWait := none, flashReleased := false },
    time := { State.reset.time with tai := s.time.tai },
    drive := { State.reset.drive with encs := s.drive.encs.map (fun e => { e with ticks := 0, edges := 0, hallCounts := 0, hallSeen := false }),
                                      quiet := s.drive.quiet, ssupShort := s.drive.ssupShort, ssupBack := s.drive.ssupBack, encRev := s.drive.encRev, siRev := s.drive.siRev },
    ctc := { State.reset.ctc with short := s.ctc.short, openLoad := s.ctc.openLoad, reverse := s.ctc.reverse, fbRev := s.ctc.fbRev, lossPulse := s.ctc.lossPulse },
    comb := { State.reset.comb with ckpt := s.comb.ckpt },
    sealed := { s.sealed with due := false },
    fes := s.fes, flash := s.flash, fresh := s.fresh, pending := s.pending }

/-- A renewal that had not run yet stays pending (R543). -/
def State.pendRenewal (s : State) : State := if s.sealed.due then s.set SEAL_SW_RENEW_PEND 1 else s

/-- The control die is reset (R40, R41): its heartbeat stops first, so gate drive ends and the coils follow LOSS; the memory banks keep their bytes (log entry 24). -/
def State.coreReset (s : State) : State :=
  let s := s.heartbeatLoss.pendRenewal
  let s := s.resetAround s.mem s.poison (s.keepRegs keptBits)
  s.set SYS_PWR_STATE_STATE WAKE |>.set SYS_PWR_STATE_STANDBY 0

/-- The rails that hold the control die in reset (R39). -/
def coreRails : List Rail := [.vdd08, .vddpll, .vdds10, .vio33]

/-- The RTC as the counter loads it: TAI seconds, and the sub-second part from the 32.768 kHz count (R115), in units of 2^-32 ns. -/
def State.rtcTime (s : State) : Nat :=
  let ns := s.pwr.rtc / 2 ^ 32
  ns / 1000000000 * 1000000000 * 2 ^ 32 + ns % 1000000000 * 32768 / 1000000000 * (1000000000 * 2 ^ 17)

/-- WAKE is entered (R57): TIME takes the RTC, PAIR_ID is read, PLL_A acquires with the boot band (R65). -/
def State.enterWake (s : State) : State :=
  let s := (s.set SYS_PWR_STATE_STATE WAKE).setb PART_STAT_PAIR_ID s.pins.pairId
  ({ s with pwr := { s.pwr with dormant := false, coreUp := true }, time := { s.time with tai := s.rtcTime } } : State).acquire 0 true

/-- Whether the control die may leave reset (R37, R39). -/
def State.coreReady (s : State) : Bool := s.pwr.aonUp && coreRails.all (fun r => s.pins.rails.contains r) && !s.pins.testEn

/-- The always-on domain leaves power-on reset (R39): FAULT_N is forced low until the held faults are restored. -/
def opAonPorRelease (s : State) : State :=
  if s.pwr.aonUp || !s.pins.rails.contains .vaon then s
  else ({ s with pwr := { s.pwr with aonUp := true, faultForced := true } } : State).setb SYS_AON_STAT_XTAL_OK (!s.flag SYS_AON_STAT_ON_RC)

/-- R39 AON_POR_RELEASE. -/
def execAonPorRelease (s : State) : Host.Outcome State Fault Refusal := .next (opAonPorRelease s)

/-- The control die leaves reset (R39). -/
def opCoreResetRelease (s : State) : State := if s.pwr.coreUp || s.pwr.dormant || !s.coreReady then s else s.enterWake

/-- R39 CORE_RESET_RELEASE. -/
def execCoreResetRelease (s : State) : Host.Outcome State Fault Refusal := .next (opCoreResetRelease s)

/-- A warm reset (R40): from every state the device goes to WAKE. -/
def opWarmReset (s : State) : State :=
  if !s.pwr.aonUp then s
  else
    let s := s.coreReset.set SYS_PWR_STATE_LAST_WAKE 3
    let s := { s with pwr := { s.pwr with dormant := false, coreUp := false } }
    if s.coreReady then s.enterWake else s

/-- R40 WARM_RESET. -/
def execWarmReset (s : State) : Host.Outcome State Fault Refusal := .next (opWarmReset s)

/-- The bits that a cold reset leaves: the values held in MRAM, what the analog die holds while V5A stands (R41, R439, R476) and the levels of inputs. -/
def coldBits (a : Nat) : Word := if a / 0x10000 = 0 then 0#32 else keptBits a

/-- A cold reset (R40): VAON has fallen; the heartbeat stops first, as at every control-die rail (R41); only MRAM, the fuses, the analog die and what lies outside the device remain. -/
def opColdReset (s : State) : State :=
  let s := s.heartbeatLoss.pendRenewal
  let up := (s.resetAround (s.mem.filter (fun p => decide (MRAM ≤ p.1))) (s.poison.filter (fun t => decide (MRAM ≤ 32 * t))) (s.keepRegs coldBits))
  { up with
    pins := { s.pins with rails := s.pins.rails.filter (· != .vaon) },
    pwr := { State.reset.pwr with holdCopy := s.pwr.holdCopy, mramBad := s.pwr.mramBad },
    sealed := { s.sealed with last := none, due := false }, time := State.reset.time }

/-- R40 COLD_RESET. -/
def execColdReset (s : State) : Host.Outcome State Fault Refusal := .next (opColdReset s)

/-- ETH is held in reset while VIO18 is low (R38). -/
def State.ethReset (s : State) : State :=
  { s with regs := s.keepRegs (fun a => if a / 0x10000 = Block.no .eth then 0#32 else 0xFFFFFFFF#32), eth := State.reset.eth }

/-- The analog die is held in reset while V5A is low (R38, R41): outputs, sensor supplies, trip latches and conversions are off. -/
def State.analogReset (s : State) : State :=
  let s := coils.foldl (fun s o => s.set CTC_OSTAT_ENERGISED 0 o) s
  let s := (s.set GDRV_TRIP_STAT_LATCH 0).set GDRV_TRIP_STAT_CLR_PEND 0
  let s := (List.range 24).foldl (fun s n => s.set ADC_RSTAT_VALID 0 n) s
  { s with ctc := { s.ctc with lossPulse := [] }, meas := { s.meas with sar := s.meas.sar.map (fun _ => ⟨0, 0, false, 0⟩) } }

/-- A rail falls below its threshold (R38, R41). -/
def opRailFall (r : Rail) (s : State) : State :=
  if !s.pins.rails.contains r then s
  else if r = .vaon then opColdReset s
  else
    let s := { s with pins := { s.pins with rails := s.pins.rails.filter (· != r) } }
    if coreRails.contains r then
      (if s.pwr.coreUp || s.pwr.dormant then
        let s := s.coreReset
        { s with pwr := { s.pwr with coreUp := false } }
      else s)
    else if r = .vio18 then s.heartbeatLoss.ethReset
    else if r = .v5a then (s.live s.applyInhibit).analogReset
    else if s.fieldUp && !s.flag GDRV_VDRV_UV then s.vdrvLow
    else s.live s.applyInhibit

/-- R38 RAIL_UV_FALL. -/
def execRailUvFall (r : Rail) (s : State) : Host.Outcome State Fault Refusal := .next (opRailFall r s)

/-- A level that a field input took while V5A was low is read now. -/
def State.takeHeld (s : State) (p : FieldInput × Bool) : State :=
  match p.1 with
  | .enc _ _ => s
  | .trip i => if p.2 then opTripInputInactive i.val s else opTripInput i.val s
  | .si i chB => opSiChange i.val chB p.2 s
  | .fb k => opFbChange k.val p.2 s

/-- V5A is back (R38): the outputs obey their commands again, and the field inputs are read (log entry 86). -/
def State.analogBack (s : State) : State :=
  let held := s.pins.held
  let s := ({ s with pins := { s.pins with held := [] } } : State).applyCoils
  held.foldl (fun s p => s.takeHeld p) s

/-- A rail rises above its threshold. The core's reset and the always-on domain's are released by their own events (R39). -/
def opRailRise (r : Rail) (s : State) : State :=
  if s.pins.rails.contains r then s
  else
    let s := { s with pins := { s.pins with rails := s.pins.rails ++ [r] } }
    if r = .vio18 then (if s.pwr.coreUp && s.flag CLK_PLL_STAT_LOCKED 0 && !s.pwr.heartbeat then s.heartbeatBack else s)
    else if r = .v5a then s.analogBack
    else if r = .vdrv ∧ s.fieldUp = true then s.set GDRV_VDRV_UV 0
    else s

/-- R38 RAIL_UV_RISE. -/
def execRailUvRise (r : Rail) (s : State) : Host.Outcome State Fault Refusal := .next (opRailRise r s)

/-- TEST_EN changes (R37): high holds the control die in reset with every group in its reset state; low releases it. -/
def opTestEn (high : Bool) (s : State) : State :=
  if high == s.pins.testEn then s
  else
    let s := { s with pins := { s.pins with testEn := high } }
    if high then
      let s := s.coreReset
      let s := coils.foldl (fun s o => s.set CTC_OSTAT_ENERGISED 0 o) s
      { s with pwr := { s.pwr with coreUp := false, dormant := false }, ctc := { s.ctc with lossPulse := [] } }
    else if s.coreReady then s.enterWake else s

/-- R37 TEST_EN_CHANGE. -/
def execTestEnChange (high : Bool) (s : State) : Host.Outcome State Fault Refusal := .next (opTestEn high s)

/-! The always-on domain. -/

/-- DORMANT is left by the WAKE ball (R57). -/
def opWakeBall (s : State) : State :=
  if s.pwr.dormant && s.coreReady then (s.set SYS_PWR_STATE_LAST_WAKE 1).enterWake else s

/-- R57 WAKE_BALL. -/
def execWakeBall (s : State) : Host.Outcome State Fault Refusal := .next (opWakeBall s)

/-- The RTC's second. -/
def State.rtcSecond (s : State) : Nat := s.pwr.rtc / 2 ^ 32 / 1000000000

/-- The alarm is due: the RTC second is at or after SECONDS (R92). -/
def State.alarmDue (s : State) : Bool := s.get SYS_AON_ALARM_SECONDS != 0 && decide (s.get SYS_AON_ALARM_SECONDS ≤ s.rtcSecond)

/-- DORMANT is left by the alarm; SECONDS returns to 0 (R92). -/
def opRtcAlarm (s : State) : State :=
  if s.pwr.dormant && s.alarmDue && s.coreReady then ((s.set SYS_PWR_STATE_LAST_WAKE 2).set SYS_AON_ALARM_SECONDS 0).enterWake else s

/-- R92 RTC_ALARM. -/
def execRtcAlarm (s : State) : Host.Outcome State Fault Refusal := .next (opRtcAlarm s)

/-- The crystal is declared lost (R61); the event needs the control die (R57). -/
def opXtalLoss (s : State) : State :=
  if !s.pwr.aonUp || s.flag SYS_AON_STAT_ON_RC then s
  else
    let s := ((s.set SYS_AON_STAT_ON_RC 1).set SYS_AON_STAT_XTAL_OK 0).inc SYS_AON_STAT_XTAL_LOSS_CNT
    s.live (s.raiseC SRC_SYS_XTAL_LOSS)

/-- R61 XTAL_LOSS. -/
def execXtalLoss (s : State) : Host.Outcome State Fault Refusal := .next (opXtalLoss s)

/-- The domain returns to the crystal (R61). -/
def opXtalReturn (s : State) : State :=
  if s.flag SYS_AON_STAT_ON_RC then (s.set SYS_AON_STAT_ON_RC 0).set SYS_AON_STAT_XTAL_OK 1 else s

/-- R61 XTAL_RETURN. -/
def execXtalReturn (s : State) : Host.Outcome State Fault Refusal := .next (opXtalReturn s)

/-! Power states. -/

/-- A refused power command (R58, R91). -/
def State.pwrNo (s : State) (code : Nat) : Bool × State := (false, s.refuseC .sys code 0x02 0x04)

/-- Disable every block but CLK, HOST and SEAL, in the reverse of the order of R14 (R15, R76). -/
def State.disableAll (s : State) : State :=
  let s := (tableOrder.reverse.filter (· != .clk)).foldl (fun s b => s.disable b) s
  let s := [Block.mem, .chk, .boot].foldl (fun s b => s.disable b) s
  { s with cyc := { s.cyc with checking := [] } }

/-- PRIME is entered: PLL_B is powered and acquires with the image's values (R57, R66). A PLL_B that is locked already, at a RESUME or after a RELOAD, stays locked (DESIGN CHOICE, log entry 78). -/
def State.enterPrime (s : State) : State :=
  let s := (s.set SYS_PWR_STATE_STATE PRIME).set CLK_PLL_CTRL_PWR 1 1
  if s.flag CLK_PLL_STAT_LOCKED 1 then s else s.acquire 1 false

/-- READY is entered; an SGR that has completed before takes the device on to SAFE (R57). -/
def State.enterReady (s : State) : State :=
  let s := s.set SYS_PWR_STATE_STATE READY
  let s := if s.en .form then s.set FORM_MODE_STAT_MODE READY else s
  if s.pwr.safeDue then ({ s with pwr := { s.pwr with safeDue := false } } : State).enterSafe 3 else s

/-- Whether a safety function is active. -/
def State.functionActive (s : State) : Bool :=
  s.sgrActive || s.get SAFE_FSTAT_SOD != 0 || s.get SAFE_FSTAT_SDS != 0 || s.get SAFE_FSTAT_STR != 0

/-- RESUME (R59): every bit of SYS_FAULT_HOLD counts as an uncleared severe source (R110). Answers whether it was accepted. -/
def opResume (s : State) : Bool × State :=
  let c := s.get SYS_PWR_STATE_SAFE_CAUSE
  if s.pstate ≠ SAFE ∨ c = 1 ∨ s.anySevere = true ∨ s.flag SYS_FAULT_HOLD_RESTORE_ERR = true ∨ s.functionActive = true then s.pwrNo STATE
  else if c = 2 ∨ c = 4 then (true, s.disableAll.enterPrime)
  else (true, s.enterReady)

/-- R59 RESUME. -/
def execResume (s : State) : Host.Outcome State Fault Refusal := .next (s.live (opResume s).2)

/-- RELOAD in SAFE (R57, R60): the flash port is taken back, every block but CLK, HOST and SEAL is disabled, and LOAD begins. -/
def opReload (s : State) : Bool × State :=
  if s.pstate ≠ SAFE ∨ s.flag HOST_FL_STAT_BUSY = true then s.pwrNo STATE
  else
    let s := (s.disableAll).set SYS_PWR_STATE_STATE LOAD
    (true, ({ s with pwr := { s.pwr with flashReleased := false, loadWait := none } } : State).set BOOT_STAT_PHASE 0)

/-- R60 RELOAD. -/
def execReload (s : State) : Host.Outcome State Fault Refusal := .next (s.live (opReload s).2)

/-- DORMANT from READY or SAFE (R57): the control die stops and loses its state, every group is in its reset state; an alarm already due wakes it at once (R92). -/
def opDormant (s : State) : Bool × State :=
  if !(s.pstate == READY || s.pstate == SAFE) || s.flag HOST_FL_STAT_BUSY then s.pwrNo STATE
  else
    let s := s.coreReset
    let s := coils.foldl (fun s o => s.set CTC_OSTAT_ENERGISED 0 o) s
    let s := { s with pwr := { s.pwr with dormant := true, coreUp := false }, ctc := { s.ctc with lossPulse := [] } }
    (true, opRtcAlarm s)

/-- R57 DORMANT. -/
def execDormant (s : State) : Host.Outcome State Fault Refusal := .next (s.live (opDormant s).2)

/-- START (R110, R179, R224, R516): the request of START_MODE is held and judged at a step 4. -/
def opStart (s : State) : Bool × State :=
  let m := s.get FORM_MODE_STAT_START_MODE
  if s.pstate ≠ READY ∨ m = 0 ∨ s.en .form = false ∨ s.anySevere = true ∨ s.silent = true then s.pwrNo STATE
  else if s.stringShort then (false, s.refuse .sys 0x0620 0x02 0x04)
  else (true, (opModeCmd (if m = 1 then M_SYNC else if m = 2 then M_FORM else M_BLACKSTART) s).2)

/-- R224 START. -/
def execStart (s : State) : Host.Outcome State Fault Refusal := .next (s.live (opStart s).2)

/-- ENTER_SAFE invokes SGR in READY and the running states (R57, R91). -/
def opEnterSafe (s : State) : Bool × State :=
  if !(s.pstate == READY || s.inRun) then s.pwrNo STATE
  else if s.sgrActive then (true, s)
  else (true, ({ s with pwr := { s.pwr with enterSafe := true } } : State).sgr C_HOST)

/-- R91 ENTER_SAFE. -/
def execEnterSafe (s : State) : Host.Outcome State Fault Refusal := .next (s.live (opEnterSafe s).2)

/-- A write of SYS_PWR_CMD (R91). -/
def opPwrCmd (v : Nat) (s : State) : Bool × State :=
  match v % 16 with
  | 1 => opResume s
  | 2 => opReload s
  | 3 => opDormant s
  | 4 => opStart s
  | 5 => opEnterSafe s
  | _ => s.pwrNo RANGE

/-! LOAD (R75 to R79). -/

/-- The bits of each register that a failed load leaves (R79). Bits that show a level as it is now, at an input or at a PLL that stays in lock, are no held values: they show it still. -/
def loadKeeps (a : Nat) : Word :=
  if a / 0x10000 = 0x17 ∨ a / 0x10000 = 0x19 then 0xFFFFFFFF#32
  else if a = 0x000200 ∨ a = 0x000208 ∨ a = 0x00020C ∨ a = 0x000214 then 0xFFFFFFFF#32
  else if a = 0x020100 ∨ a = 0x02010C ∨ a = 0x02000C ∨ a = 0x030100 ∨ a = 0x030104 then 0xFFFFFFFF#32
  else if a = 0x010000 ∨ a = METR_SEQ_NEXT.base then 0xFFFFFFFF#32
  else if a = 0x010104 then 0x00000001#32
  else if a = PART_STAT_PAIR_ID.base then 0x00000008#32
  else if a = GDRV_TRIP_STAT_LATCH.base then 0x0000FF00#32
  else if a / 0x10000 = 0x14 ∧ a / 0x100 % 0x100 < 40 then 0#32
  else if (0x120000 ≤ a ∧ a < 0x150000) ∨ a / 0x10000 = 0x11 then keptBits a
  else 0#32

/-- The registers return as R79 states; PLL_A goes back to the boot band where it had left it, and TIME takes the RTC again. -/
def State.unload (s : State) : State :=
  let boot := s.pllA.bootBand
  let s := { s with regs := s.keepRegs loadKeeps, pairs := ⟨[], []⟩, pllB := ⟨false, false, none⟩, time := { State.reset.time with tai := s.rtcTime } }
  if boot then s else s.acquire 0 true

/-- The load has failed for good: SAFE with cause load failure, the flash port released (R60, R79). -/
def State.loadFails (s : State) : State :=
  let s := (s.set BOOT_STAT_PHASE 7).enterSafe 1
  { s with pwr := { s.pwr with flashReleased := true, loadWait := none } }

/-- Record a failure of LOAD: the reason at a unit and offset, and the slot and section (R79, R561). -/
def State.bootNo (s : State) (reason unit off slot sec : Nat) : State :=
  ((s.refuse .boot reason unit off).set BOOT_STAT_SLOT slot).set BOOT_STAT_FAIL_SECTION sec

/-- Record a failed record (R78 step 7): a common reason stands in the named block's CHK as well, and is counted once. -/
def State.recordNo (s : State) (reason addr slot sec : Nat) : State :=
  let s := s.bootNo reason (addr / 0x100 % 0x100) (addr % 0x100) slot sec
  match allBlocks.find? (fun b => b.no == reason / 0x100) with
  | some b => if b == .boot then s else s.putWord (ctrlAddr b 0x0C) (s.word (ctrlAddr .boot 0x0C))
  | none => s

/-- The reason for which the loader's write of one register is refused by its own checks (R62, R70, R554). -/
def loaderBad (a v : Nat) : Option Nat :=
  if a = 0x010100 ∨ a = 0x010200 then (pllBad (a / 0x100 % 0x100 - 1) (bitsOf v 0 8) (bitsOf v 8 4)).map (0x0100 + ·)
  else if a / 0x10000 = 1 ∧ 0x40 ≤ a % 0x100 ∧ 0x100 ≤ a % 0x10000 then (bandBad v).map (0x0100 + ·)
  else if a = 0x190218 then (if bitsOf v 0 12 = 0 ∨ bitsOf v 12 4 = 0 then some 0x1901 else none)
  else if a = 0x190104 then (if v % 0x10000 = 0 then some 0x1902 else none)
  else none

/-- One word stored by the loader: writable fields take their bits, EN stays 0 (1 in CLK, HOST and SEAL), W1C fields clear, each severe and held bit judged as in a host write (R105, R109), and command fields have no effect (R75, R76). -/
def State.loaderWrite (s : State) (a v : Nat) : State :=
  match regDefAt a, allBlocks.find? (fun b => a == ctrlAddr b 0x10) with
  | none, _ => s
  | some _, some b => (opSevClear b (v % 0x10000) s).2
  | some d, none =>
    if a = 0x000214 then (opFaultHoldClear v s).2
    else d.fields.foldl (fun s f =>
      let fl : Fld := ⟨a, 0, 0, f.lo, f.w⟩
      if allBlocks.any (fun b => a == ctrlAddr b 0x00) && f.lo == 0 then s
      else match f.acc with
      | .rw | .rwl | .rws | .rwp => s.set fl (bitsOf v f.lo f.w)
      | .w1c => s.set fl (s.get fl &&& (2 ^ f.w - 1 - bitsOf v f.lo f.w))
      | .ro | .wo | .otp | .rwsw => s) s

/-- Apply the words of one record; the first one refused stops it. -/
def State.applyWords (s : State) (a : Nat) : List Nat → Option (Nat × Nat) × State
  | [] => (none, s)
  | v :: t =>
    match loaderBad a v with
    | some r => (some (r, a), s)
    | none => (s.loaderWrite a v).applyWords (a + 4) t

/-- Apply a section's records in order. -/
def State.applyRecords (s : State) (id profile : Nat) : List Rec → Option (Nat × Nat) × State
  | [] => (none, s)
  | r :: t =>
    match recordBad id profile r with
    | some e => (some e, s)
    | none =>
      match s.applyWords r.addr r.words with
      | (some e, s) => (some e, s)
      | (none, s) => s.applyRecords id profile t

/-- Apply the sections in ascending order of identifier, each read from its staged copy; a poisoned read fails the load (R79). Answers the first refusal: reason, address and section. -/
def State.applySections (s : State) (img : List Byte) : List ImgSection → Option (Nat × Nat × Nat) × State
  | [] => (none, s)
  | x :: t =>
    let l := s.load 6 (BANK_CAP + x.off) x.len
    if l.2.1 then (some (0x020B, 0, x.id), l.2.2)
    else match l.2.2.applyRecords x.id (imgProfile img) (records (sectionData img x)) with
    | (some (r, a), s) => (some (r, a, x.id), s)
    | (none, s) => s.applySections img t

/-- SYS_BOOT_EN as the image sets it, or as it stands (R78 step 6). -/
def State.bootMask (s : State) (img : List Byte) : Nat :=
  match (imgSections img).find? (fun x => x.id == 2) with
  | some x => match sparseFind 0x000210 (recordWords (records (sectionData img x))) with | some v => v % 2 ^ 27 | none => s.get SYS_BOOT_EN_MASK
  | none => s.get SYS_BOOT_EN_MASK

/-- Whether every block of a boot mask has the blocks it needs in the mask (R14). -/
def maskClosed (m : Nat) : Bool :=
  tableOrder.all (fun b => !bitOf m b.no || (requires b).all (fun x => bitOf m x.no))

/-- Step 5: the METROLOGY section against the seal (R77), or the renewal that was pending (R543). Answers whether the image is admitted. -/
def State.sealStep (s : State) (img : List Byte) : Bool × State :=
  let m := metrology img
  if s.flag SEAL_SW_RENEW_PEND then (true, (s.putDigest (m.getD [])).setDiverged m.isNone)
  else if s.get SEAL_SW_STATE = SW_OPEN then (true, s)
  else (match m with | some d => sha256 d == s.digest | none => false, s)

/-- LOAD steps 4 to 7 on one slot. Answers whether every record was applied; a failure leaves the registers as R79 states. -/
def State.loadSlot (s : State) (f : FlashImage) (slot : Nat) : Bool × State :=
  let img := flashSlot f slot
  let s := s.store BANK_CAP (slice img 0 (imgLen img))
  match imgCheck img with
  | some (r, sec) => (false, s.unload.bootNo r 0x01 0x00 slot sec)
  | none =>
    let d := s.sealStep img
    if !d.1 then (false, d.2.unload.bootNo 0x0226 0x01 0x00 slot 0x000A)
    else if !maskClosed (d.2.bootMask img) then
      let s := (d.2.unload.set BOOT_STAT_SLOT slot).set BOOT_STAT_FAIL_SECTION 2
      (false, s.refuseC .sys DISAGREE 0x02 0x10)
    else
      let s := d.2.set SYS_CYC_CFG_PROFILE (imgProfile img)
      match s.applySections img (imgOrdered img) with
      | (some (r, a, sec), s) => (false, s.unload.recordNo r a slot sec)
      | (none, s) => (true, s)

/-- The image is in force: the registers of BOOT, START_MODE, the staged user values (R375), the log entry (R76), the seal's marks (R543); then PRIME. A pair that the image may write has its low word from the register now (R3). -/
def State.loadDone (s : State) (slot : Nat) : State :=
  let img := match s.flash with | some f => flashSlot f slot | none => []
  let s := (s.set BOOT_GEN_GENERATION (imgGen img)).set BOOT_HDR_CRC_CRC (imgCrc img)
  let s := (s.set BOOT_STAT_SLOT slot).set BOOT_STAT_PHASE 6
  let s := (s.set FORM_MODE_STAT_START_MODE (imgStart img)).putInForce
  let s := (s.logAppend 3 1 0 0 0 (leBytes 1 slot ++ leBytes 4 (imgCrc img))).2
  let s := s.setDiverged false
  let s := if s.flag SEAL_SW_RENEW_PEND then s.renew else s
  let low := s.pairs.lowWritten.filter (fun (p : Nat × Word) => p.1 != 0x0F021C && p.1 != 0x1A001C)
  ({ s with pwr := { s.pwr with loadWait := none }, pairs := { s.pairs with lowWritten := low } } : State).enterPrime

/-- PLL_A's settings in use since WAKE satisfy the image (R66): the entry that would be tried first holds the boot band's TRIM. -/
def State.pllSatisfied (s : State) : Option Nat :=
  if s.get CLK_PLL_CTRL_FBDIV = 24 ∧ s.get CLK_PLL_CTRL_POSTDIV = 2 ∧ s.pllA.bootBand = true then
    match (s.bands 0).head? with
    | some b => if s.get CLK_PLL_BAND_TRIM 0 b = s.get CLK_PLL_STAT_BOOT_TRIM then some b else none
    | none => none
  else none

/-- A slot with a valid header. -/
def State.slotValid (s : State) (slot : Nat) : Bool := match s.flash with | some f => headerOk (flashSlot f slot) | none => false

/-- NO_BAND of PLL_A with its reason and event, the acquisition of the boot band going on (R66). -/
def State.noBandMark (s : State) : State :=
  ((s.set CLK_PLL_STAT_NO_BAND 1 0).refuse .clk 0x0120 0x01 0x00).raise SRC_CLK_NO_BAND 0x01

/-- Whether the other slot holds a valid header and has not been loaded in this LOAD (R79). -/
def State.otherSlot (s : State) (slot : Nat) (tried : Bool) : Bool := !tried && s.slotValid (1 - slot)

/-- PLL_A found no band for the image (R66): the load fails at step 7; the other slot waits for the boot band. -/
def State.loadNoBand (s : State) (slot : Nat) (tried : Bool) : State :=
  let s := (s.unload.set BOOT_STAT_SLOT slot).set BOOT_STAT_FAIL_SECTION 1
  let s := s.noBandMark
  if s.otherSlot slot tried then
    let s := s.set BOOT_STAT_FALLBACK 1
    ({ s with pwr := { s.pwr with loadWait := some (2, 1 - slot, true) } } : State).set BOOT_STAT_PHASE 3
  else s.loadFails

/-- After step 7: PLL_A has what the image asks for, or it reacquires in the apply phase (R66, R94). -/
def State.afterApply (s : State) (slot : Nat) (tried : Bool) : State :=
  match s.pllSatisfied with
  | some b => (s.set CLK_PLL_STAT_BAND b 0).loadDone slot
  | none =>
    let a := s.acquire 0 false
    if a.pllA.acquiring then ({ a with pwr := { a.pwr with loadWait := some (1, slot, tried) } } : State).set BOOT_STAT_PHASE 5
    else ({ s with pllA := ⟨false, false, none⟩ } : State).loadNoBand slot tried

/-- The second slot from step 4 (R79). -/
def State.loadSecond (s : State) (f : FlashImage) (slot : Nat) : State :=
  match s.loadSlot f slot with
  | (true, s) => s.afterApply slot true
  | (false, s) => s.loadFails

/-- The chosen slot from step 4, and after its failure the other one; where PLL_A goes back to the boot band, the other slot's stream waits for its lock (R79). -/
def State.loadFirst (s : State) (f : FlashImage) (slot : Nat) : State :=
  match s.loadSlot f slot with
  | (true, s) => s.afterApply slot false
  | (false, s) =>
    if s.otherSlot slot false then
      let s := s.set BOOT_STAT_FALLBACK 1
      if s.flag CLK_PLL_STAT_LOCKED 0 then s.loadSecond f (1 - slot)
      else ({ s with pwr := { s.pwr with loadWait := some (2, 1 - slot, true) } } : State).set BOOT_STAT_PHASE 3
    else s.loadFails

/-- The slot of step 3: the larger GENERATION among the valid headers, slot A when they are equal. -/
def chooseSlot (f : FlashImage) : Option Nat :=
  let a := headerOk (flashSlot f 0)
  let b := decide (4 ≤ f.mib) && headerOk (flashSlot f 1)
  if a && b then some (if imgGen (flashSlot f 0) < imgGen (flashSlot f 1) then 1 else 0)
  else if a then some 0 else if b then some 1 else none

/-- LOAD (R78): the flash as it stands now is read, in single-bit mode at 26 MHz at first; without an SFDP table there is none. The clock goes up as far as the table and R47 both allow. FAIL_SECTION and FALLBACK speak of this LOAD and start at 0 (DESIGN CHOICE, log entry 78). -/
def opLoadSequence (flash : Option FlashImage) (s : State) : State :=
  if s.pstate ≠ LOAD ∨ !s.pwr.coreUp = true ∨ s.pwr.dormant = true ∨ s.pwr.loadWait.isSome = true then s
  else
    let s := { s with flash := flash }
    let s := (s.set BOOT_STAT_FALLBACK 0).set BOOT_STAT_FAIL_SECTION 0
    let s := (s.set BOOT_FLASH_SCK_MHZ 26).set BOOT_FLASH_WIDTH 0
    match flash with
    | none => (s.refuse .boot 0x0220 0x01 0x00).loadFails
    | some f =>
      let s := ((s.set BOOT_FLASH_SCK_MHZ (min 104 f.sckMhz)).set BOOT_FLASH_WIDTH f.width).set HOST_FL_STAT_ERASE_KIB f.eraseKib
      match chooseSlot f with
      | none => (s.refuse .boot 0x0221 0x01 0x00).loadFails
      | some slot => s.loadFirst f slot

/-- R78 LOAD_SEQUENCE. -/
def execLoadSequence (flash : Option FlashImage) (s : State) : Host.Outcome State Fault Refusal := .next (s.live (opLoadSequence flash s))

/-! Lock and loss of lock. -/

/-- PLL_A locks in WAKE: CLK, HOST and SEAL are enabled and LOAD begins (R57, R76). -/
def State.wakeDone (s : State) : State :=
  ((([Block.clk, .host, .seal].foldl (fun s b => s.set (CTRL_EN b) 1) s).set SYS_PWR_STATE_STATE LOAD).set BOOT_STAT_PHASE 0)

/-- What waits in LOAD for PLL_A goes on (R66, R79). -/
def State.loadGoesOn (s : State) : State :=
  match s.pwr.loadWait, s.flash with
  | some (1, slot, _), _ => s.loadDone slot
  | some (_, slot, _), some f => ({ s with pwr := { s.pwr with loadWait := none } } : State).loadSecond f slot
  | _, _ => s

/-- A PLL declares lock (R64, R65). A lock is taken even where the last acquisition had ended without a band, and NO_BAND stays until the host clears it (DESIGN CHOICE, log entry 78). -/
def opPllLock (p : Nat) (s : State) : State :=
  if !s.pwr.coreUp || s.pwr.dormant || !s.flag CLK_PLL_CTRL_PWR p || s.flag CLK_PLL_STAT_LOCKED p then s
  else
    let x := s.pll p
    let s := s.set CLK_PLL_STAT_LOCKED 1 p
    let s := match x.trying with | some b => s.set CLK_PLL_STAT_BAND b p | none => s
    let s := s.setPll p { x with acquiring := false, trying := none }
    if p = 0 then
      let s := s.heartbeatBack
      if s.pstate = WAKE then s.wakeDone else if s.pstate = LOAD then s.loadGoesOn else s
    else s

/-- R64 PLL_LOCK. -/
def execPllLock (p : Fin 2) (s : State) : Host.Outcome State Fault Refusal := .next (s.live (opPllLock p.val s))

/-- The band being tried is abandoned after 100 µs: the next matching entry, or no band (R64). The boot band is tried on. -/
def opPllBandTimeout (p : Nat) (s : State) : State :=
  let x := s.pll p
  match x.trying with
  | none => s
  | some b =>
    if !x.acquiring then s
    else match (s.bands p).find? (fun c => decide (b < c)) with
    | some c => s.setPll p { x with trying := some c }
    | none =>
      match s.pwr.loadWait with
      | some (1, slot, tried) => if p = 0 ∧ s.pstate = LOAD then s.loadNoBand slot tried else s.noBand p
      | _ => s.noBand p

/-- R64 PLL_BAND_TIMEOUT. -/
def execPllBandTimeout (p : Fin 2) (s : State) : Host.Outcome State Fault Refusal := .next (s.live (opPllBandTimeout p.val s))

/-- The mark of a lost lock: LOCKED, LOL, the reason and the event (R67). -/
def State.lolMark (s : State) (p : Nat) : State :=
  (((s.set CLK_PLL_STAT_LOCKED 0 p).set CLK_PLL_STAT_LOL 1 p).refuse .clk 0x0121 (p + 1) 0x00).raise SRC_CLK_LOSS_OF_LOCK (p + 1)

/-- A locked PLL loses lock (R67). -/
def opLossOfLock (p : Nat) (s : State) : State :=
  if !s.flag CLK_PLL_STAT_LOCKED p then s
  else
    let s := if s.pstate = LOAD then s.unload else s
    let s := s.lolMark p
    let s := if p = 0 then s.heartbeatLoss else s.applyInhibit
    let st := s.pstate
    if st = WAKE then (if p = 0 then s.acquire 0 true else s)
    else if st = LOAD then s.loadFails
    else if st = SAFE then (if s.get SYS_PWR_STATE_SAFE_CAUSE = 1 then s else s.set SYS_PWR_STATE_SAFE_CAUSE 4)
    else s.enterSafe 4

/-- R67 LOSS_OF_LOCK. -/
def execLossOfLock (p : Fin 2) (s : State) : Host.Outcome State Fault Refusal := .next (s.live (opLossOfLock p.val s))

end Sys2Proof.Machine
end

