-- ==== Sys2Proof/Machine/Primer.lean ====
section
/-! DEFINITION. Primer (R80 to R83, R516): its six checks on what the command tells of the surroundings, the enables, and READY. -/

namespace Sys2Proof.Machine

/-- The blocks that are enabled only at the end of Primer (R80). -/
def lateBlocks : List Block := [.form, .law, .mod, .out, .metr, .comb, .cap, .axis]

/-- The order of the enables: the blocks outside the table of R14 need only CLK and come first. -/
def bootOrder : List Block := [.boot, .chk, .mem] ++ tableOrder

/-- Enable the listed blocks in order; the first refusal ends it. Answers whether all were enabled. -/
def State.enableAll (s : State) : List Block → Bool × State
  | [] => (true, s)
  | b :: t =>
    if s.en b then s.enableAll t
    else match finishEnable b (s.enWritten b) with
    | (true, s) => s.enableAll t
    | (false, s) => (false, s)

/-- The blocks of SYS_BOOT_EN, early or late. -/
def State.bootBlocks (s : State) (late : Bool) : List Block :=
  bootOrder.filter (fun b => bitOf (s.get SYS_BOOT_EN_MASK) b.no && (lateBlocks.contains b == late))

/-- A step of Primer has failed. -/
def State.primerFail (s : State) (step : Nat) : State := (s.set SYS_PRIMER_STAT_FAIL_STEP step).enterSafe 2

/-- A step of Primer has passed. -/
def State.primerPass (s : State) (step : Nat) : State := s.set ⟨SYS_PRIMER_STAT_PASS.base, 0, 0, step - 1, 1⟩ 1

/-- Primer goes on with something marked. -/
def State.degraded (s : State) : State := s.set SYS_PRIMER_STAT_DEGRADED 1

/-- Step 1: an uncorrectable tile of SRAM, or a tile of the MRAM logs whose CRC fails, fails the step; MEM records an SRAM tile as the background test does, an MRAM tile as the MRAM controller does (R81, R499, R501). -/
def State.primer1 (s : State) (o : PrimerObs) : Bool × State :=
  let s := match o.badTile with | some t => if inMram t then s.poisonTile t else s | none => s
  let logs := s.badLogTiles
  let s := logs.foldl (fun s t => s.mramReadFails t) s
  match o.badTile with
  | some t =>
    match bankAt (32 * t) with
    | some b =>
      if inMram t then (false, s)
      else (false, (s.set MEM_BIST_FAULT_BANK b).set MEM_BIST_FAULT_FAULT_TILE (t - (banks.getD b ⟨0, 0⟩).base / 32))
    | none => (false, s)
  | none => (logs.isEmpty, s)

/-- Step 2: the off-state test of each configured axis, and the inhibit causes that the device can stimulate on its half-bridges; an axis that fails cannot be enabled (R81, R438, R477). -/
def State.primer2 (s : State) (o : PrimerObs) : State :=
  let s := { s with drive := { s.drive with barred := [] } }
  if s.en .gdrv then
    (List.range 4).reverse.foldl (fun s n =>
      if s.flag AXIS_CFG_AX_EN n then
        let s := opOffStateTest n ((o.bridges.drop (3 * n)).take 3) s
        if (List.range 3).any (fun p => decide (2 ≤ s.get GDRV_HSTAT_OSTEST (3 * n + p)) || o.glOn.contains (3 * n + p)) then ({ s with drive := { s.drive with barred := n :: s.drive.barred } } : State).degraded else s
      else s) s
  else s

/-- Step 3: the cross-check of the converters (R383). -/
def State.primer3 (s : State) (o : PrimerObs) : Bool × State :=
  if s.en .adc && s.en .cal then
    let s := s.seti CAL_XCNT_PRIMER_MEAN (clampInt (-32768) 32767 o.xchkMean)
    if o.refOk && decide (o.xchkMean.natAbs ≤ 16 * s.get CAL_XCHK_XCHK_MEAN) then (true, s)
    else (false, (s.refuse .cal 0x0C20 0x53 0x00).refuseC .sys DIAG 0x03 0x00)
  else (true, s)

/-- Step 4: both levels on every enabled bitstream (R406). -/
def State.primer4 (s : State) (o : PrimerObs) : Bool × State :=
  match (if s.en .fil then (List.range 36).find? (fun n => s.flag FIL_DCFG_EN n && o.stuck.contains n) else none) with
  | some n => (false, (s.refuse .fil 0x0E20 n 0x00).refuseC .sys DIAG 0x03 0x00)
  | none => (true, s)

/-- The breaks that the ends of the rings found before step 5 (R165). -/
def State.primerBreaks (s : State) (o : PrimerObs) : State :=
  s.enRings.reverse.foldl (fun s r => (o.breaks.filter (fun q => q.1 == r && s.ringOn r)).foldl (fun s q => s.declareBreak r q.2) s) s

/-- The keying pass of every enabled ring in step 5. -/
def State.primerKeys (s : State) (o : PrimerObs) : State :=
  s.enRings.reverse.foldl (fun s r =>
    match o.keyed.find? (fun k => k.1 == r) with
    | some k => s.takeKeys r k.2
    | none => s.takeKeys r ([], [])) s

/-- Internal transactions issued and completed one after another, each under the lowest free tag (R155; log entry 84). -/
def State.primerTx : Nat → State → State
  | 0, s => s
  | n + 1, s =>
    match s.freeTag false with
    | some tag =>
      let s := s.issue tag ⟨0, 0, 0, 0, 1, 0, 4, [], [], 1, 0, false, 0, 0, 0⟩
      let s := { s with hive := { s.hive with tx := s.hive.tx.filter (fun x => x.tag != tag) } }
      State.primerTx n ((s.inc HIVE_MBX_STAT_DONE).countTx)
    | none => s

/-- One slot in step 5: assigned and handed over, then from ENUM to PRIMED, or BYPASSED (R164, R180, R181, R376). The requests of the sequence are READ of the identity, two READs of FE_CAL, two WRITEs and SYNC; a front end that does not answer leaves the first without a response (R152). -/
def State.primerSlot (s : State) (i : Nat) (o : Option SlotObs) : State :=
  let r := s.get CELL_SCFG_RING i
  let p := s.get CELL_SCFG_POS i
  if s.cutOff r p then s.slotLeaves i 6 1
  else
    let s := (s.sendsMore [s.assign r p]).handOver i
    match o with
    | none => ((s.primerTx 1).raise SRC_HIVE_MBX_TIMEOUT r).slotLeaves i 6 1
    | some x =>
      let s := ((s.primerTx 1).set CELL_SID_ID x.id i).set CELL_SVER_VER x.ver i
      if s.verBad x.ver then s.refuseIdentity i
      else
        let s := (s.primerTx 2)
        let s := { s with cell := { s.cell with feCal := s.cell.feCal.set i x.feCal } }
        if feCalBad x.feCal then s.refuseFeCal i
        else
          let s := s.primerTx 3
          if x.primed then
            (s.setFe i { s.fe i with st := 2, cyc := some (s.get SYS_CYC_NUM_CYC), timing := s.timingWord, timing2 := s.timing2Word, pulse := s.pulseWord }).slotTo i 2
          else s.slotLeaves i 6 1

/-- The enabled slots ring by ring in ascending order of position (R164). -/
def State.enumOrder (s : State) : List Nat :=
  s.enRings.flatMap (fun r => (List.range (s.ncell r)).filterMap (fun p => s.slotAt r p))

/-- Whether the BYPASSED slots take an enabled string beyond its k (R81, R179). -/
def State.primerShort (s : State) : Bool :=
  strings.any (fun j => s.flag CELL_STR_STR_EN 0 j &&
    decide (((s.strSlots j).filter (fun i => s.slotState i == 2)).length < s.get CELL_STR_MIN_ACTIVE 0 j))

/-- Step 5: keying and enumeration, or the snapshots of an active partner (R81, R516). -/
def State.primer5 (s : State) (o : PrimerObs) : Bool × State :=
  if !s.en .hive then (true, s)
  else match o.partner with
  | some x => (true, s.followSnapshot x)
  | none =>
    let s := (({ s with hive := { s.hive with sent := [] } } : State).primerBreaks o).primerKeys o
    if s.enRings.any (fun r => !s.flag HIVE_RSTAT_KEYED r) then (false, s)
    else if !s.en .cell then (true, s)
    else
      let s := s.enumOrder.foldl (fun s i => s.primerSlot i (o.slots.find? (fun x => x.slot == i))) s
      let s := if s.enSlots.any (fun i => s.slotState i != 2) then s.degraded else s
      (!s.primerShort, s)

/-- The outputs whose feedback step 6 judges, and the state each should show (R81, R516). -/
def State.judgedCoils (s : State) : List Nat :=
  if s.en .ctc then coils.filter (fun k => s.flag CTC_OCFG_EN k && s.flag CTC_OCFG_FB_EN k) else []

/-- The output whose contactor an output follows, or itself (R474). -/
def State.leader (s : State) (k : Nat) : Nat := if s.flag CTC_OCFG_FOLLOW_EN k then s.get CTC_OCFG_FOLLOW k else k

/-- The outlet bus of an output (R81). -/
def State.outletOf (s : State) (k : Nat) : Option Nat :=
  buses.find? (fun b => s.flag OUT_BCFG_EN b && !s.flag OUT_BCFG_KIND b && s.get OUT_BCFG_CTC b == s.leader k)

/-- The outputs whose feedback is wrong. -/
def State.wrongCoils (s : State) (o : PrimerObs) : List Nat :=
  s.judgedCoils.filter (fun k => s.fbClosed k != (match o.partner with | some x => bitOf x.energised k | none => false))

/-- Whether the feedback of the breaker or of a precharge path fails step 6. Beside an active partner the breaker, which no energised output shows, is not judged. -/
def State.wrongPaths (s : State) (o : PrimerObs) : Bool :=
  let want := fun (k : Nat) => match o.partner with | some x => bitOf x.energised k | none => false
  (s.flag FORM_BKR_BKR_EN && o.partner.isNone && s.bkrClosed)
    || (s.flag LAW_PRE_FEED_EN && s.pathClosed (s.get LAW_PRE_FEED_CTC) (s.get LAW_PRE_FEED_FB) != want (s.get LAW_PRE_FEED_CTC))
    || (s.flag LAW_PRE_STORE_EN && s.pathClosed (s.get LAW_PRE_STORE_CTC) (s.get LAW_PRE_STORE_FB) != want (s.get LAW_PRE_STORE_CTC))

/-- Step 6: contactor feedback (R81). Answers whether it passed and the buses to be marked unavailable. -/
def State.primer6 (s : State) (o : PrimerObs) : Bool × List Nat × State :=
  let wrong := s.wrongCoils o
  let host := wrong.filter (fun k => s.get CTC_OCFG_OWNER (s.leader k) == 0)
  let rest := wrong.filter (fun k => s.get CTC_OCFG_OWNER (s.leader k) != 0)
  let s' := host.reverse.foldl (fun s k => s.discrepancy k) s
  let s' := if wrong.isEmpty then s' else s'.degraded
  (!(s.wrongPaths o) && rest.all (fun k => (s.outletOf k).isSome), rest.filterMap (fun k => s.outletOf k), s')

/-- READY, and the request of START_MODE (R83). -/
def State.primerDone (s : State) (dead : List Nat) : State :=
  let s := dead.reverse.foldl (fun s b => if s.busEn b then s.busTo b B_UNAVAILABLE else s) s
  let s := (s.primerPass 6).enterReady
  if s.pstate ≠ READY ∨ s.get FORM_MODE_STAT_START_MODE = 0 then s
  else if s.en .form then { s with cyc := { s.cyc with startReq := true } }
  else s.refuseC .form STATE 0x03 0x00

/-- Steps 5 and 6 with the final enables. -/
def State.primerEnd (s : State) (o : PrimerObs) : State :=
  match s.primer5 o with
  | (false, s) => s.primerFail 5
  | (true, s) =>
    match (s.primerPass 5).primer6 o with
    | (false, _, s) => s.primerFail 6
    | (true, dead, s) =>
      match s.enableAll (s.bootBlocks true) with
      | (false, s) => s.primerFail 6
      | (true, s) => s.primerDone dead

/-- Steps 3 and 4. -/
def State.primerMid (s : State) (o : PrimerObs) : State :=
  match s.primer3 o with
  | (false, s) => s.primerFail 3
  | (true, s) =>
    match (s.primerPass 3).primer4 o with
    | (false, s) => s.primerFail 4
    | (true, s) => (s.primerPass 4).primerEnd o

/-- Primer runs in PRIME (R80, R81). -/
def opPrimerRun (o : PrimerObs) (s : State) : State :=
  if s.pstate ≠ PRIME ∨ s.pwr.coreUp = false then s
  else
    let s := s.putWord (SYS_PRIMER_STAT_PASS.addr 0 0) 0#32
    let s := s.set SYS_PRIMER_STAT_DURATION (min 0xFFFF o.duration)
    match s.primer1 o with
    | (false, s) => s.primerFail 1
    | (true, s) =>
      match (s.primerPass 1).enableAll (s.bootBlocks false) with
      | (false, s) => s.primerFail 2
      | (true, s) => ((s.primer2 o).primerPass 2).primerMid o

/-- R81 PRIMER_RUN. -/
def execPrimerRun (obs : PrimerObs) (s : State) : Host.Outcome State Fault Refusal := .next (s.live (opPrimerRun obs s))

end Sys2Proof.Machine
end

