-- ==== Sys2Proof/Machine/Cycle.lean ====
section
/-! DEFINITION. The hive cycle: its start (R18), the boundary in the order of R25, the sampling instant (R20), step 4 in the order of R279, and the request of START_MODE (R83). -/

namespace Sys2Proof.Machine

/-! The boundary (R25). -/

/-- An ACTIVE slot whose state could not be read is closed from the checkpoint (R359, R495): INTERRUPTED, with the checkpoint's energies and its boundary as STOP_TAI. -/
def State.closeFromCkpt (s : State) (t i : Nat) : State :=
  match s.comb.ckpt with
  | none => s
  | some c =>
    let words := c.words.filter (fun p => decide (0x1A0000 + 0x100 * i ≤ p.1) && decide (p.1 < 0x1A0000 + 0x100 * (i + 1)))
    let s := (List.range 16).foldl (fun s k => s.putWord (COMB_SSTAT_STATE.addr i 0 + 4 * k) 0#32) s
    let s := words.foldl (fun s p => s.putWord p.1 p.2) s
    let s := match c.slots[i]? with | some x => s.setCombSt i x | none => s
    let n := s.get METR_SEQ_NEXT
    let s := ((s.set64 COMB_SSTOP_TAI c.tai i).set COMB_SHDL_HDL n i).set METR_SEQ_NEXT (n + 1)
    let s := ((s.combFlag i 0 true).combFlag i 3 (unlocked (s.combSt i).sync || unlocked c.sync)).combTo i C_SIGNING
    let tot := fun (a : Nat) => ((sparseFind a c.words).getD 0#32).toNat + 2 ^ 32 * ((sparseFind (a + 4) c.words).getD 0#32).toNat
    s.buildRecord i c.sync ((t - c.tai) / 1000000) (tot (METR_TOT_IMP_TOT.addr (s.cbus i) 0), tot (METR_TOT_EXP_TOT.addr (s.cbus i) 0))

/-- A poisoned tile of the comb and metering state: it is read, counted and rewritten; the slots whose state lies in it, which the spec does not fix, are closed (R495, log entry 3). -/
def State.combPoison (s : State) (t tile : Nat) : State :=
  let s := (s.load 7 (32 * tile) 32).2.2
  let s := { s with poison := s.poison.filter (· != tile) }
  let d := s.draw (2 ^ 256)
  ((combSlots.filter (fun i => d.2.cst i == C_ACTIVE && bitOf d.1 i)).foldl (fun s i => s.closeFromCkpt t i) d.2).combCounts

/-- COMB and METR read their state at the boundary. -/
def State.combPoisons (s : State) (t : Nat) : State :=
  if s.en .comb then (s.badTiles BANK_DP 0x30000).foldl (fun s tile => s.combPoison t tile) s else s

/-- A ring in stretched service is judged at the end of the cycle (R168): deliveries, misses and CELL's reaction to timeouts. One judged at the end of the report window before it was stretched is not judged again. -/
def State.stretchedEnd (s : State) : State :=
  if s.en .hive && !s.cyc.suspended && s.cyc.sampled then s.judgeRings (s.enRings.filter (fun r => s.get HIVE_RSTAT_MODE r == 3)) else s

/-- Whether a SYNC of a slot is on its way, executed, or adopted. -/
def State.syncOut (s : State) (i : Nat) : Bool :=
  (s.fe i).sync.isSome || (s.fe i).st == 2 || s.hive.tx.any (fun t => isSync t && decide (0 < t.tries) && t.ring == s.get CELL_SCFG_RING i && t.pos == s.get CELL_SCFG_POS i)

/-- After a step of network time: SYNC to every slot in PRIMED, READY, BYPASSED or FAULTED, and again to a slot in ENUM (R560); no miss counts before the cycle that the SYNC names, which HIVE fixes at the launch. -/
def State.resyncSlots (s : State) : State :=
  if s.cyc.resync then
    let s := { s with cyc := { s.cyc with resync := false } }
    if s.en .cell && s.en .hive then
      s.enSlots.foldl (fun s i =>
        let st := s.slotState i
        if st = 2 ∨ st = 3 ∨ st = 6 ∨ st = 7 ∨ st = 1 ∧ s.syncOut i = true then
          (s.setFe i { s.fe i with wait := some ((s.get SYS_CYC_NUM_CYC + 0x7FFFFFFF) % 2 ^ 32) }).feSyncCmd i
        else s) s
    else s
  else s

/-- A new cycle opens: what belongs to one cycle starts anew, and which of its sets will not be complete in time is drawn (R248, log entry 75). -/
def State.newCycle (s : State) : State :=
  let s := { s with
    hive := { s.hive with frames := [], started := 0, windowOver := false, resends := false,
                          missRuns := (List.range 12).map (fun r => (s.word (HIVE_RMISS_MISS_RUN.addr r 0), s.word (HIVE_RMISS_MISS_RUN.addr r 1))),
                          rings := s.hive.rings.map (fun (x : RingSt) => { x with naks := [], resA := (0, 0), resB := (0, 0), recallA := 0, recallB := 0, delivered := [], taken := [], judged := false }) },
    cyc := { s.cyc with suspended := false, sampled := false, computed := false, modulated := false } }
  let d := s.draw (2 ^ 192)
  let s := { d.2 with cyc := { d.2.cyc with slow := slots.filter (fun i => bitOf d.1 i) } }
  { s with cell := { s.cell with cmds := s.cell.cmds.map (fun (c : Nat × Nat) => if 10 ≤ c.2 then (c.1, c.2 - 10) else c) } }.ripenRequest

/-- Step 6: the cycle number and the start of the cycle that opens at TAI `t` (R16, R17). -/
def State.numberCycle (s : State) (t : Nat) : State :=
  (s.set SYS_CYC_NUM_CYC (t / s.period)).set64 SYS_CYC_START_TAI t

/-- Steps 1 and 2 of R25 at TAI `t`; the first boundary of a cycle ends none, so nothing is accounted at it. -/
def State.boundarySessions (s : State) (t : Nat) (ends : Bool) : State :=
  let s := s.combPoisons t
  (if ends then s.accountStep t else s).combStep t

/-- Steps 3 to 5 of R25. -/
def State.boundaryOpens (s : State) : State := ((s.outBoundary.swapBank false).swapBank true).calBoundary

/-- The steps of R25 at the boundary at TAI `t`; `ends` says whether a cycle ends there. -/
def State.boundary (s : State) (t : Nat) (ends : Bool) : State :=
  let s := (s.boundarySessions t ends).boundaryOpens
  let s := (s.newCycle.numberCycle t).changeCheckpoint t
  (s.snapshotSend.beats.partBoundary).resyncSlots

/-- The boundary of a running cycle (R25). -/
def opCycleBoundary (s : State) : State :=
  if !s.running then s
  else
    let t := s.get64 SYS_CYC_START_TAI + s.period
    ((s.advanceTo t).stretchedEnd.missedStep5).boundary t true

/-- R25 CYCLE_BOUNDARY. -/
def execCycleBoundary (s : State) : Host.Outcome State Fault Refusal := .next (s.live (opCycleBoundary s))

/-- The cycle starts at the first boundary strictly after the check of SYS completes (R18); what was requested before its cut point takes effect at it (R24, R25). -/
def opCycleRunStart (s : State) : State :=
  if s.en .sys && !s.running then
    let t := s.nextBoundary
    ((s.advanceTo t).set SYS_CYC_STAT_RUNNING 1).boundary t false
  else s

/-- R18 CYCLE_RUN_START. -/
def execCycleRunStart (s : State) : Host.Outcome State Fault Refusal := .next (s.live (opCycleRunStart s))

/-- Every cell samples at SAMPLE_OFS after the cycle start (R20). -/
def opSamplingInstant (s : State) : State :=
  if s.running && !s.cyc.suspended && !s.cyc.sampled then
    let s := s.advanceTo s.samp
    { s with cyc := { s.cyc with sampled := true } }
  else s

/-- R20 SAMPLING_INSTANT. -/
def execSamplingInstant (s : State) : Host.Outcome State Fault Refusal := .next (s.live (opSamplingInstant s))

/-! Step 4 (R21, R279). -/

/-- The engine and SAFE read their state: a poisoned tile requests SGR, with POISONED in the reading block's CHK (R460, R491, R495). -/
def State.enginePoison (s : State) : State :=
  let one := fun (b : Block) (m : Nat) (s : State) (t : Nat) => ((s.load m (32 * t) 32).2.2.refuseC b POISONED b.ctrlUnit 0x00).sgr C_SGR
  let s := if s.en .safe then (s.badTiles (BANK_CTL + 0x5000) 0xB000).foldl (one .safe 3) s else s
  if s.en .form then (s.badTiles (BANK_CTL + 0x10000) 0xF0000).foldl (one .form 1) s else s

/-- An envelope exit of the step 4 that judges a STOP acts before the STOP (R300). -/
def State.exitFirst (s : State) : State :=
  if s.en .law && s.connected && s.form.req == some M_STOP then s.formFrame.envelope else s

/-- What FORM does first: the grid quantities, the feeder, the stopping phase, the held request, which governs this step 4, and the setpoints (R212 to R219, R224). -/
def State.formStart (s : State) : State :=
  if s.en .form then (s.formMeasure.feederEstimate.stopPoll.exitFirst.modeJudge.setpointRamp).measReact.countMismatch else s

/-- Orders 1 and 2: the rotated measurements, and precharge or the power competition (R286). -/
def State.orderPower (s : State) : State :=
  let s := s.formRotate
  if s.en .law then
    let s := s.linkEnergy
    if s.phase = 1 then s.reportNone.preStep else if 3 ≤ s.phase then s.powerCompete else s
  else s

/-- Orders 3 to 6: the swing equation, the energise competition, the current limit, and the demand with the booking of reserves. -/
def State.orderSwing (s : State) : State :=
  let ph := s.phase
  let s := s.formSwing
  let s := if s.en .law && ph == 2 then s.energiseCompete else s
  let s := if s.en .law then s.currentLimit.overcurrent else s
  let s := (s.formDemand.formBook).closeTest
  if s.en .law && ph == 2 then s.energiseEnd else s

/-- The slots of LAW that compute in a phase (R286). -/
def State.lawSlots (s : State) : List Nat :=
  (if s.inRun then (if s.phase = 2 then [1, 2, 3, 4] else if 3 ≤ s.phase then [5, 6] else []) else []) ++ s.outSlots

/-- MAN of the slots that permit it and do not compute in this step 4 of a running state (R283). -/
def State.manualRest (s : State) (ks : List Nat) : State :=
  if s.inRun then ((List.range 19).filter (fun k => manualOk k && !ks.contains k)).foldl (fun s k => s.manualIdle k) s else s

/-- Order 7: the outlet slots, the following-error supervision, the envelope, and the states of the buses. -/
def State.orderOutlets (s : State) (ks : List Nat) : State :=
  let s := s.outRegulate
  let s := if s.en .law then (ks.foldl (fun s k => s.followSlot k) (s.manualRest ks)).envelope else s
  (s.outWatch.ilkVoltage).slotsRan ks

/-- Step 4 of a running state, and of any other. -/
def State.orders (s : State) : State :=
  if s.en .form && s.inRun then
    let s := s.orderPower
    if s.inRun then
      let ks := s.lawSlots
      s.orderSwing.orderOutlets ks
    else s.orderOutlets []
  else (if s.en .law then s.reportNone else s).orderOutlets []

/-- Step 4 of the cycle (R21, R23, R279). -/
def opStep4 (s : State) : State :=
  if s.running && !s.cyc.suspended && s.cyc.sampled && !s.cyc.computed then
    let s := s.advanceTo (s.samp + s.tReports)
    let s := { s with cyc := { s.cyc with computed := true } }
    let s := s.enginePoison.cellStep4
    ((s.sgrPoll.sodConfirm.outMeasure).sodRamps.formStart.orders).calSnapshot
  else s

/-- R279 STEP4_COMPUTE. -/
def execStep4Compute (s : State) : Host.Outcome State Fault Refusal := .next (s.live (opStep4 s))

/-! START_MODE (R83). -/

/-- The request of START_MODE at the boundary after READY; step 4 of the cycle that opens judges it (R83, R224). -/
def opStartMode (s : State) : State :=
  if s.cyc.startReq then
    let s := { s with cyc := { s.cyc with startReq := false } }
    if !s.en .form || s.follows then s.refuseC .form STATE 0x03 0x00
    else ({ s with form := { s.form with req := some (s.get FORM_MODE_STAT_START_MODE) } } : State).set FORM_MODE_STAT_PENDING 1
  else s

/-- R83 START_MODE_REQUEST. -/
def execStartModeRequest (s : State) : Host.Outcome State Fault Refusal := .next (s.live (opStartMode s))

end Sys2Proof.Machine
end

