-- ==== Sys2Proof/Machine/HostPort.lean ====
section
/-! DEFINITION. The host port: what a register write and a register read do at every address (R3, R5, R7), the frames of the QSPI target port (R530 to R536), and the completion of a configuration check (R84). -/

namespace Sys2Proof.Machine

/-- The block whose number an address carries (R1). -/
def blockOf (a : Nat) : Option Block := allBlocks.find? (fun b => b.no == a / 0x10000)

/-- The host port works from WAKE onward (R530). -/
def State.hostUp (s : State) : Bool := s.pwr.coreUp && !s.pwr.dormant

/-! Fields under their access codes (R7). -/

/-- Why the access code of a field refuses a write of `new` over `old`, if it does (R7, R362). -/
def State.fieldNo (s : State) (b : Block) (f : FieldDef) (old new : Nat) : Option Nat :=
  match f.acc with
  | .rwl => if new = old ∨ s.en b = false then none else some LOCKED
  | .rws => if s.get SEAL_SW_STATE ≠ SW_OPEN then some SEAL_CLOSED else if b = .metr ∧ s.en .metr = true then some LOCKED else none
  | .rwp => if s.flag SEAL_PSTAT_SESSION then none else some NO_PASSCODE
  | .rw | .ro | .wo | .w1c | .otp | .rwsw => none

/-- A field's bits after a write that its code admits. -/
def fieldAfter (f : FieldDef) (old new : Nat) : Nat :=
  match f.acc with
  | .rw | .rwl | .rws | .rwp => new
  | .w1c => old &&& (2 ^ f.w - 1 - new)
  | .ro | .wo | .otp | .rwsw => old

/-- The word after a write of `v` over `w`, each field judged on its own. -/
def State.wordAfter (s : State) (b : Block) (d : RegDef) (w : Word) (v : Nat) : Word :=
  d.fields.foldl (fun (r : Word) (f : FieldDef) =>
    let old := fieldOf w f.lo f.w
    let new := bitsOf v f.lo f.w
    if (s.fieldNo b f old new).isSome then r else withField r f.lo f.w (fieldAfter f old new)) w

/-- The first reason with which a field of the word refuses. -/
def State.wordNo (s : State) (b : Block) (d : RegDef) (w : Word) (v : Nat) : Option Nat :=
  firstSome (fun (f : FieldDef) => s.fieldNo b f (fieldOf w f.lo f.w) (bitsOf v f.lo f.w)) d.fields

/-- The value checks of R554 on the fields of SEAL. -/
def sealValueNo (a v : Nat) : Option Nat :=
  if a = 0x190104 ∧ v % 0x10000 = 0 then some RANGE
  else if a = 0x190218 ∧ (bitsOf v 0 12 = 0 ∨ bitsOf v 12 4 = 0) then some ZERO_LEN
  else none

/-- The fields of a written word take effect as their codes allow; an RWS or RWP word does so after its change-log entry (R547). Answers whether no field was refused. -/
def State.writeFields (s : State) (b : Block) (d : RegDef) (a v : Nat) : Bool × State :=
  let w := s.word a
  let new := s.wordAfter b d w v
  let rwp := d.has (· == .rwp)
  match s.wordNo b d w v with
  | some r => (false, (s.putWord a new).refuseC b r (a / 0x100 % 0x100) (a % 0x100))
  | none =>
    if d.has (· == .rws) || rwp then
      match sealValueNo a v with
      | some r => (false, s.refuseC b r (a / 0x100 % 0x100) (a % 0x100))
      | none =>
        s.logged (if rwp then 1 else 2) 0 a w.toNat new.toNat [] (fun s =>
          let s := s.putWord a new
          if rwp then s.startRemain else s)
    else (true, s.putWord a new)

/-! Registers whose write does more than set fields. -/

/-- A 64-bit pair by the address of its low word (R3). -/
def isPairLow (a : Nat) : Bool :=
  [0x00010C, 0x040100, 0x040120, 0x040214, 0x0B1108, 0x0F021C, 0x0F0304, 0x190200, 0x190208, 0x160218, 0x1A001C].contains a
    || (a / 0x10000 == 0x0B && decide (a / 0x100 % 0x100 < 12) && (a % 0x100 == 0x08 || a % 0x100 == 0x10))
    || (a / 0x10000 == 0x1A && [0xC4, 0xD0, 0xD8, 0xE0, 0xE8, 0xF0].contains (a % 0x100))

/-- Whether a bank register may not be written now (R280), `act` being whether it lies in the active bank. -/
def State.bankShut (s : State) (b : Block) (pend : Fld) (act : Bool) : Bool := if act then s.en b else s.flag pend

/-- The bank that an address of FORM or LAW lies in, if it lies in one (R223, R280). -/
def bankOf (a : Nat) : Option (Block × Nat) :=
  let u := a / 0x100 % 0x100
  let o := a % 0x100
  if a / 0x10000 = 0x08 then (if u = 4 then some (.form, 0) else if u = 5 then some (.form, 1) else none)
  else if a / 0x10000 = 0x09 then
    (if u < 19 then
      (if 0x20 ≤ o ∧ o < 0x40 then some (.law, (o - 0x20) / 16) else if 0x4C ≤ o ∧ o < 0x54 then some (.law, (o - 0x4C) / 4) else none)
    else if u = 0x21 ∧ 0x40 ≤ o ∧ o < 0x60 then some (.law, (o - 0x40) / 16) else none)
  else none

/-- Why a write of the register is refused whole before its fields are judged: a coefficient bank (R280), a duty set that waits for its commit (R429), a bus setting beside an active partner (R521). -/
def State.regShut (s : State) (a : Nat) : Bool :=
  (match bankOf a with
    | some (.form, k) => s.bankShut .form FORM_BANK_SWAP_PENDING (s.get FORM_BANK_ACTIVE == k)
    | some (_, k) => s.bankShut .law LAW_BANK_SWAP_PENDING (s.get LAW_BANK_ACTIVE == k)
    | none => false)
    || (a / 0x10000 == 0x10 && decide (a / 0x100 % 0x100 < 4) && decide (0x10 ≤ a % 0x100) && decide (a % 0x100 ≤ 0x18)
        && s.flag AXIS_COMMIT_PENDING (a / 0x100 % 0x100))
    || (a / 0x10000 == 0x0A && decide (a / 0x100 % 0x100 < 12) && (a % 0x100 == 0x14 || a % 0x100 == 0x18) && s.follows)

/-- An operation after the other fields of its word; both must be accepted. -/
def andThen (r : Bool × State) (f : State → Bool × State) : Bool × State :=
  let x := f r.2
  (r.1 && x.1, x.2)

/-- An operation that cannot be refused. -/
def accept (s : State) : Bool × State := (true, s)

/-- SAFE_CMD: a code or a target outside its range is refused with RANGE (R458, R470). -/
def opSafeCmd (code t : Nat) (s : State) : Bool × State :=
  let no := (false, s.refuseC .safe RANGE 0x11 0x0C)
  match code with
  | 1 => accept (s.sgr C_HOST)
  | 2 => if t < 12 then accept (s.sod t SOD_HOST) else no
  | 3 => if t < 4 then accept (s.sdsReq t) else no
  | 4 => if t < 4 then accept (s.strReq t) else no
  | 5 => opResetSgr s
  | 6 => if t < 12 then opResetSod t s else no
  | 7 => if t < 4 then opResetAxis t s else no
  | _ => no

/-- OUT_BCMD of a bus. -/
def opBusCmd (b code : Nat) (s : State) : Bool × State :=
  match code with
  | 1 => opBusOn b s
  | 2 => opBusOff b s
  | 3 => opBusClear b s
  | _ => accept s

/-- AXIS_CMD of an axis. -/
def opAxisCmd (n code : Nat) (s : State) : Bool × State :=
  match code with
  | 1 => opAxisRun n s
  | 2 => accept (opAxisFloat n s)
  | 3 => opAxisTest n s
  | _ => accept s

/-- CTC_OCMD of an output. -/
def opCtcCmd (o code : Nat) (s : State) : Bool × State :=
  match code with
  | 1 => opCtcHost o true s
  | 2 => opCtcHost o false s
  | 3 => opCtcClr o s
  | _ => accept s

/-- PART_CMD. -/
def opPartCmd (code : Nat) (s : State) : Bool × State :=
  match code with
  | 0 => accept s
  | 1 => opPartSwitch s
  | 2 => opPartRearm s
  | _ => (false, s.refuseC .part RANGE 0x02 0x00)

/-- HOST_FL_CMD. -/
def opFlashCmd (code : Nat) (s : State) : Bool × State :=
  match code with
  | 1 => opFlashRead s
  | 2 => opFlashProgram s
  | 3 => opFlashErase s
  | _ => accept s

/-- SEAL_PCMD. -/
def opPassCmd (code : Nat) (s : State) : Bool × State :=
  match code with
  | 0 => accept s
  | 1 => accept (opPassLock s)
  | 2 => opPassSet s
  | _ => (false, s.refuseC .seal RANGE 0x02 0x10)

/-- CTRL of a block: EN enables or disables (R15, R84); other fields are ordinary. -/
def opCtrlWrite (b : Block) (d : RegDef) (a v : Nat) (s : State) : Bool × State :=
  let rest := { d with fields := d.fields.filter (fun (f : FieldDef) => f.lo != 0) }
  andThen (s.writeFields b rest a v) (fun s => if v % 2 = 1 then opBlockEnable b s else opBlockDisable b s)

/-- Writes of the registers of SYS, CLK and TIME that act. -/
def writeCore (d : RegDef) (a v : Nat) (s : State) : Option (Bool × State) :=
  let p := a / 0x100 % 0x100 - 1
  if a = 0x000204 then some (opPwrCmd v s)
  else if a = 0x000214 then some (opFaultHoldClear v s)
  else if a = 0x010100 ∨ a = 0x010200 then some (opPllCtrl p v s)
  else if a = 0x010104 ∨ a = 0x010204 then
    some (andThen (s.writeFields .clk d a (v - v % 0x40 + v % 0x20)) (fun s => if bitOf v 5 then opLolClear p s else accept s))
  else if a / 0x10000 = 1 ∧ p < 2 ∧ 0x100 ≤ a % 0x10000 ∧ 0x40 ≤ a % 0x100 ∧ a % 0x100 < 0x80 then some (opPllBand p ((a % 0x100 - 0x40) / 4) v s)
  else if a = 0x040114 then some (opFreqAdj v s)
  else if a = 0x04011C then some (opOfsReq v s)
  else none

/-- Writes of the registers of HIVE, CELL, FORM and LAW that act. -/
def writeGrid (d : RegDef) (a v : Nat) (s : State) : Option (Bool × State) :=
  let b := a / 0x10000
  let u := a / 0x100 % 0x100
  let o := a % 0x100
  if b = 0x05 ∧ u < 12 ∧ o = 0x00 then some (andThen (s.writeFields .hive d a v) (fun s => if bitOf v 7 then opRingRestore u s else accept s))
  else if a = 0x051208 then some (opSqTailWrite (bitsOf v 16 9) s)
  else if a = 0x051210 then some (opCqHeadWrite (bitsOf v 0 9) s)
  else if b = 0x06 ∧ u < 192 ∧ o = 0x04 then some (if v % 4 = 0 then accept s else opCellCmd u (v % 4) s)
  else if a = 0x080300 then some (opModeCmd (v % 16) s)
  else if a = 0x08030C then some (andThen (s.writeFields .form d a v) (fun s => if bitOf v 1 then opBankSwap false s else accept s))
  else if a = 0x092300 then some (andThen (s.writeFields .law d a v) (fun s => if bitOf v 1 then opBankSwap true s else accept s))
  else if b = 0x09 ∧ u < 19 ∧ o = 0x10 then some (opLawMan u v s)
  else if a = 0x090000 then
    some (andThen (s.writeFields .law d a v) (fun s => if v % 4 = 2 then accept s else (false, s.refuseC .law RANGE 0x00 0x00)))
  else none

/-- A write of CAL_UCMD with APPLY = 0: its code admits it only behind open switches, and an accepted one is logged (R7, R388, R547). -/
def opCalIdle (s : State) : Bool × State :=
  if s.get SEAL_SW_STATE ≠ SW_OPEN then (false, s.refuseC .cal SEAL_CLOSED 0x52 0x10)
  else
    let w := (s.word 0x0C5210).toNat
    s.logged 2 0 0x0C5210 w w [] (fun s => s)

/-- Writes of the registers of OUT, COMB, CAL, CAP and ETH that act. -/
def writePower (a v : Nat) (s : State) : Option (Bool × State) :=
  let b := a / 0x10000
  let u := a / 0x100 % 0x100
  let o := a % 0x100
  if b = 0x0A ∧ u < 12 ∧ o = 0x08 then some (opBusCmd u (v % 4) s)
  else if b = 0x0A ∧ u < 12 ∧ o = 0x0C then some (opBusSetpoint u false v s)
  else if b = 0x0A ∧ u < 12 ∧ o = 0x10 then some (opBusSetpoint u true v s)
  else if b = 0x0A ∧ u = 0x12 then some (opAllocTarget (o / 4) v s)
  else if a = 0x1A0018 then some (opCombCmd (v % 8) (bitsOf v 8 4) (bitsOf v 16 16) s)
  else if a = 0x1A0034 then some (opCombFetch v s)
  else if a = 0x0C5210 then some (if bitOf v 0 then opCalApply s else opCalIdle s)
  else if a = 0x0F0224 then some (opCapCmd v s)
  else if a = 0x181100 then some (opMdio (bitsOf v 10 2) (bitsOf v 0 5) (bitsOf v 5 5) (bitsOf v 16 16) s)
  else none

/-- Writes of the registers of AXIS, GDRV, ENC, SAFE, CTC, PART, HOST and SEAL that act. -/
def writeSafety (a v : Nat) (s : State) : Option (Bool × State) :=
  let b := a / 0x10000
  let u := a / 0x100 % 0x100
  let o := a % 0x100
  if b = 0x10 ∧ u < 4 ∧ o = 0x1C then some (if bitOf v 0 then opAxisCommit u s else accept s)
  else if b = 0x10 ∧ u < 4 ∧ o = 0x20 then some (opAxisCmd u (v % 4) s)
  else if b = 0x11 ∧ u < 12 ∧ o = 0x0C then some (if bitOf v 0 then opClearSc u s else accept s)
  else if a = 0x111108 then some (opTripClear (v % 0x100) s)
  else if a = 0x121104 then some (opSsupClear (v % 16) s)
  else if a = 0x13110C then some (opSafeCmd (v % 16) (bitsOf v 8 4) s)
  else if b = 0x14 ∧ u < 40 ∧ o = 0x08 then some (opCtcCmd u (v % 4) s)
  else if a = 0x160200 then some (opPartCmd (v % 4) s)
  else if a = 0x170200 then some (opFlashCmd (v % 4) s)
  else if a = 0x190210 then some (opPassCmd (v % 4) s)
  else none

/-- The write of one word at a register that is not part of a pair. -/
def State.writePlain (s : State) (b : Block) (d : RegDef) (a v : Nat) : Bool × State :=
  if s.regShut a then (false, s.refuseC b STATE (a / 0x100 % 0x100) (a % 0x100))
  else if a = ctrlAddr b 0x00 then opCtrlWrite b d a v s
  else if a = ctrlAddr b 0x10 then opSevClear b (v % 0x10000) s
  else match writeCore d a v s with
  | some r => r
  | none => match writeGrid d a v s with
    | some r => r
    | none => match writePower a v s with
      | some r => r
      | none => match writeSafety a v s with
        | some r => r
        | none => s.writeFields b d a v

/-! Pairs (R3). -/

/-- Put an entry in a list sorted by address, in place of an older one. -/
def assocPut (a : Nat) (v : Word) : List (Nat × Word) → List (Nat × Word)
  | [] => [(a, v)]
  | (b, x) :: t => if a < b then (a, v) :: (b, x) :: t else if a = b then (a, v) :: t else (b, x) :: assocPut a v t

/-- The low word of a pair as last written. -/
def State.lowWord (s : State) (a : Nat) : Word := (sparseFind a s.pairs.lowWritten).getD (s.word a)

/-- A write of the low word is held pending. -/
def State.holdLow (s : State) (a : Nat) (v : Word) : State := { s with pairs := { s.pairs with lowWritten := assocPut a v s.pairs.lowWritten } }

/-- A write of the high word at `a + 4`: both words take effect. Answers whether it was accepted. -/
def State.writeHigh (s : State) (b : Block) (d : RegDef) (a : Nat) (v : Word) : Bool × State :=
  let lo := s.lowWord a
  if a = 0x040120 then opTimeStep lo.toNat v.toNat s
  else if a = 0x190200 then opPassAttempt v s
  else if a = 0x190208 then accept ((s.putWord a lo).putWord (a + 4) v)
  else
    let dl := (regDefAt a).getD d
    andThen (s.writeFields b dl a lo.toNat) (fun s => s.writeFields b d (a + 4) v.toNat)

/-! One word. -/

/-- A word's outcome as a STATUS of R535. -/
def ST_OK : Nat := 0x00
def ST_BUSY : Nat := 0x01
def ST_REFUSED : Nat := 0x02
def ST_WLOST : Nat := 0x03
def ST_RANGE : Nat := 0x04
def ST_FORMAT : Nat := 0x05
def ST_POISON : Nat := 0x10

/-- The write of one word. Answers its outcome. An address with no register is recorded in HOST_CHK (R5); a register of ETH that VIO18 holds in reset keeps its value (R38). -/
def State.writeWord (s : State) (a : Nat) (v : Word) : Nat × State :=
  match regDefAt a, blockOf a with
  | some d, some b =>
    if s.heldInReset b then (ST_OK, s)
    else if isPairLow a then (ST_OK, s.holdLow a v)
    else
      let r := if decide (4 ≤ a) && isPairLow (a - 4) then s.writeHigh b d (a - 4) v else s.writePlain b d a v.toNat
      (if r.1 then ST_OK else ST_REFUSED, r.2)
  | _, _ => (ST_RANGE, s.refuse .host 0x1702 (a / 0x100 % 0x100) (a % 0x100))

/-! Reading. -/

/-- Whether a block requests its interrupt (R111). -/
def State.irqReq (s : State) (b : Block) : Bool :=
  (s.get (STATUS_EVT b) &&& s.get (IRQ_EN_EVT_IE b)) != 0 || (s.severe b && s.flag (IRQ_EN_SEV_IE b))

/-- The pin that HOST_IRQ_MAP gives a block (R112). -/
def State.irqPin (s : State) (b : Block) : Nat :=
  if b.no < 16 then fieldOf (s.word 0x170400) (2 * b.no) 2 else fieldOf (s.word 0x170404) (2 * (b.no - 16)) 2

/-- IRQk is driven low while a block mapped to it requests (R111); the pins stay high in DORMANT and under reset. -/
def State.irqLow (s : State) (k : Nat) : Bool := s.hostUp && allBlocks.any (fun b => s.irqReq b && s.irqPin b == k)

/-- HOST_IRQ_PEND. -/
def State.irqPend (s : State) : Nat :=
  maskOf ((allBlocks.filter (fun b => s.irqReq b)).map Block.no) + 2 ^ 28 * maskOf ((List.range 4).filter (fun k => s.irqLow k))

/-- The bits of a register that can be read: WO fields and reserved bits read 0 (R4, R7). -/
def readMask (d : RegDef) : Word :=
  d.fields.foldl (fun (m : Word) (f : FieldDef) =>
    if f.acc == .wo || f.acc == .rwsw then m else m ||| BitVec.ofNat 32 ((2 ^ f.w - 1) <<< f.lo)) 0#32

/-- What a register shows: the held word, or for fields that follow other state, the value they follow. -/
def State.shown (s : State) (a : Nat) : Word :=
  let w := s.word a
  let bit := fun (n : Nat) (v : Bool) => withField w n 1 (b2n v)
  match regDefAt a, blockOf a with
  | some d, some b =>
    readMask d &&&
      (if a = ctrlAddr b 0x04 then bit 16 (s.severe b)
       else if a = 0x170408 then BitVec.ofNat 32 s.irqPend
       else if a = 0x17040C then BitVec.ofNat 32 s.sevSum
       else if a = 0x040100 then BitVec.ofNat 32 s.now
       else if a = 0x040104 then BitVec.ofNat 32 (s.now / 2 ^ 32)
       else if a = 0x040108 then BitVec.ofNat 32 s.time.tai
       else if a = 0x040128 then withField (bit 3 s.gating) 4 1 (b2n (s.flag TIME_SYNC_STAT_SLEWING && s.get TIME_SLEW_CFG_SRC != 0))
       else if a = 0x0B1104 then bit 24 s.sealOpen
       else w)
  | _, _ => 0#32

/-- Whether a register counts what the timing of MEM's masters decides, which the model leaves out: it reads as a free value (R507, log entry 73). -/
def timingCount (a : Nat) : Bool := decide (0x151200 ≤ a) && decide (a < 0x151250)

/-- The read of one word: a low word captures the high word, TIME_NOW's the fraction too (R114), and a captured word is given once (R3). -/
def State.readWord (s : State) (a : Nat) : Word × State :=
  match sparseFind a s.pairs.captured with
  | some w => (w, { s with pairs := { s.pairs with captured := s.pairs.captured.filter (fun (p : Nat × Word) => p.1 != a) } })
  | none =>
    if timingCount a then (let d := s.draw (2 ^ 32); (BitVec.ofNat 32 d.1 &&& ((regDefAt a).map readMask).getD 0#32, d.2))
    else if isPairLow a then
      let c := assocPut (a + 4) (s.shown (a + 4)) s.pairs.captured
      let c := if a = 0x040100 then assocPut 0x040108 (s.shown 0x040108) c else c
      (s.shown a, { s with pairs := { s.pairs with captured := c } })
    else (s.shown a, s)

/-- The reads of consecutive words. -/
def State.readWords (s : State) (a : Nat) : Nat → List Word × State
  | 0 => ([], s)
  | n + 1 =>
    let r := s.readWord (a % 2 ^ 24)
    let t := r.2.readWords (a + 4) n
    (r.1 :: t.1, t.2)

/-- The response of a read (R532). -/
def State.respond (s : State) (st : Nat) (bs : List Byte) : State := { s with port := { s.port with respStatus := st, respData := bs } }

/-- The bytes that the device drives for the last read: the sync byte, STATUS, the data and the CRC over STATUS and the data (R530, R532). -/
def State.response (s : State) : List Byte :=
  let body := BitVec.ofNat 8 s.port.respStatus :: s.port.respData
  0x5A#8 :: withCrc body

/-- Words as bytes (R2). -/
def wordBytes (ws : List Word) : List Byte := ws.flatMap (fun w => leBytes 4 w.toNat)

/-- A register read alone, outside a frame. -/
def State.readOne (s : State) (a : Nat) : State :=
  if s.hostUp then
    let r := s.readWord a
    r.2.respond ST_OK (wordBytes [r.1])
  else s

/-- Bytes that the spec leaves open, drawn as free values (log entry 3). -/
def State.drawBytes (s : State) : Nat → List Byte × State
  | 0 => ([], s)
  | n + 1 =>
    let d := s.draw 256
    let t := d.2.drawBytes n
    (BitVec.ofNat 8 d.1 :: t.1, t.2)

/-- The parts of the banks whose byte layout the spec does not give, so that the model holds their content as data: comb and metering state and the snapshots (R492), SAFE and engine state (R491), and the parts of MRAM that hold checkpoints and device state (R502). -/
def openByte (a : Nat) : Bool :=
  (decide (BANK_DP ≤ a) && decide (a < BANK_DP + 0x31800)) || (decide (BANK_DP + 0x32000 ≤ a) && decide (a < BANK_DP + 0x33800))
    || (decide (BANK_CTL + 0x5000 ≤ a) && decide (a < BANK_CTL + 0x100000))
    || (decide (MRAM + 0x60000 ≤ a) && decide (a < MRAM + 0x68000)) || (decide (MRAM + 0x78000 ≤ a) && decide (a < MRAM + 0x80000))

/-- A byte of the outgoing snapshot, once one has been built (R517). -/
def State.imageByte (s : State) (a : Nat) : Option Byte := if BANK_DP + 0x30000 ≤ a then s.part.image[a - (BANK_DP + 0x30000)]? else none

/-- Replace the open bytes of a memory read by free values, and those of the outgoing snapshot by its own. -/
def State.openBytes (s : State) (a : Nat) : List Byte → List Byte × State
  | [] => ([], s)
  | b :: t =>
    let d := match s.imageByte a with
      | some x => ([x], s)
      | none => if openByte a then s.drawBytes 1 else ([b], s)
    let r := d.2.openBytes (a + 1) t
    (d.1 ++ r.1, r.2)

/-! Write frames (R531 to R536). -/

/-- Whether the port takes a frame's bytes as valid: its length and its CRC (R536). -/
def frameOk (bytes : List Byte) (crc : BitVec 16) (whole : Bool) : Bool := whole && crc16 bytes == crc

/-- A bad frame is discarded whole (R536). -/
def State.badFrame (s : State) : State := (s.inc HOST_PORT_CNT_FRAME_ERR).raise SRC_HOST_FRAME_ERR 0x01

/-- What becomes of a valid write frame before it is executed: dropped while another executes (R533), a duplicate (R534), or accepted. -/
def State.takeFrame (s : State) (seq : Nat) (act : State → State) : State :=
  if s.flag HOST_PORT_STAT_BUSY then (s.inc HOST_PORT_CNT2_BUSY_DROP).raise SRC_HOST_BUSY_DROP 0x01
  else if s.flag HOST_PORT_STAT_SEQ_VALID && s.get HOST_PORT_STAT_LAST_SEQ == seq then
    (s.inc HOST_PORT_CNT_DUP).set HOST_PORT_STAT_LAST_STATUS (s.get HOST_PORT_STAT_LAST_STATUS % 128 + 128)
  else
    let s := ((s.set HOST_PORT_STAT_LAST_SEQ seq).set HOST_PORT_STAT_SEQ_VALID 1).set HOST_PORT_STAT_BUSY 1
    act { s with port := { s.port with todo := [], waiting := none, outcomes := [] } }

/-- Note the outcome of the word with index `i`. -/
def State.outcome (s : State) (st i : Nat) : State := { s with port := { s.port with outcomes := s.port.outcomes ++ [(st, i)] } }

/-- The block whose check a word starts, if the word is a write of 1 to an EN that is then under check (R84). -/
def State.startsCheck (s : State) (a : Nat) (v : Word) : Option Block :=
  match blockOf a with
  | some b => if a = ctrlAddr b 0x00 ∧ v.toNat % 2 = 1 ∧ s.cyc.checking.contains b = true then some b else none
  | none => none

/-- Execute the words of a frame in order; a word that starts a configuration check holds the rest (R533). A frame ends with the port when a word resets it. -/
def State.runWords (s : State) : List (Nat × Nat × Word) → State
  | [] => { s with port := { s.port with todo := [] } }
  | (i, a, v) :: t =>
    if !s.hostUp || !s.flag HOST_PORT_STAT_BUSY then s
    else
      let r := s.writeWord a v
      match r.2.startsCheck a v with
      | some b => { r.2 with port := { r.2.port with todo := t, waiting := some (b, i) } }
      | none => (r.2.outcome r.1 i).runWords t

/-- A frame whose check has come to its end goes on. -/
def State.resumeFrame (s : State) : State :=
  match s.port.waiting with
  | none => s
  | some (b, i) =>
    if s.cyc.checking.contains b then s
    else
      let s := s.outcome (if s.en b then ST_OK else ST_REFUSED) i
      let s := { s with port := { s.port with waiting := none } }
      s.runWords s.port.todo

/-- The bytes of a register write frame that its CRC covers. -/
def writeRegBytes (seq : BitVec 8) (addr : BitVec 24) (n : BitVec 8) (data : List Word) : List Byte :=
  [0x02#8, seq] ++ beBytes 3 addr.toNat ++ [n] ++ wordBytes data

/-- A WRITE_REG frame. -/
def opWriteReg (seq : BitVec 8) (addr : BitVec 24) (n : BitVec 8) (data : List Word) (crc : BitVec 16) (whole : Bool) (s : State) : State :=
  if !s.hostUp then s
  else if !frameOk (writeRegBytes seq addr n data) crc (whole && decide (data.length = n.toNat)) then s.badFrame
  else s.takeFrame seq.toNat (fun s =>
    if n.toNat = 0 ∨ 64 < n.toNat ∨ addr.toNat % 4 ≠ 0 then s.outcome ST_FORMAT 0
    else s.runWords ((List.range data.length).map (fun i => (i, (addr.toNat + 4 * i) % 2 ^ 24, data.getD i 0#32))))

/-- R531 WRITE_REG. -/
def execWriteReg (seq : BitVec 8) (addr : BitVec 24) (n : BitVec 8) (data : List (BitVec 32)) (crc : BitVec 16) (whole : Bool) (s : State) :
    Host.Outcome State Fault Refusal := .next (opWriteReg seq addr n data crc whole s)

/-- The bytes of a memory write frame that its CRC covers. -/
def writeMemBytes (seq : BitVec 8) (addr : BitVec 24) (len : BitVec 16) (data : List Byte) : List Byte :=
  [0x12#8, seq] ++ beBytes 3 addr.toNat ++ beBytes 2 len.toNat ++ data

/-- Whether the host may write a memory address (R490, R492). -/
def hostMayWrite (a : Nat) : Bool :=
  (decide (BANK_HOST ≤ a) && decide (a < BANK_HOST + 0xC0000)) || (decide (BANK_DP + 0x38000 ≤ a) && decide (a < BANK_DP + 0x40000))

/-- The words of a memory write, by rising address. -/
def memWords (a : Nat) (bs : List Byte) : List (Nat × Nat × List Byte) :=
  (List.range (bs.length / 4)).map (fun i => (i, a + 4 * i, slice bs (4 * i) 4))

/-- One word of a host memory write: a read-only range ignores it, and a word that collides at BANK_DP is lost. Answers its outcome. -/
def State.memWord (s : State) (sameCycle : Bool) (a : Nat) (bs : List Byte) : Nat × State :=
  if !hostMayWrite a then (ST_REFUSED, s)
  else if decide (BANK_DP ≤ a) then
    let r := s.portBWrite sameCycle a bs
    (if r.1 then ST_WLOST else ST_OK, r.2)
  else (ST_OK, s.store a bs)

/-- The words of a host memory write, with their outcomes. -/
def State.memWrite (s : State) (sameCycle : Bool) : List (Nat × Nat × List Byte) → State
  | [] => s
  | (i, a, bs) :: t =>
    let r := s.memWord sameCycle a bs
    (r.2.outcome r.1 i).memWrite sameCycle t

/-- A tile all of whose words the frame stored holds good data (R494). -/
def State.healTiles (s : State) (a n : Nat) : State :=
  let good := (wholeTiles a n).filter (fun t => s.port.outcomes.all (fun (o : Nat × Nat) => o.1 == ST_OK || (a + 4 * o.2) / 32 != t))
  { s with poison := s.poison.filter (fun t => !good.contains t) }

/-- A write frame that meets a read-only bank or range is recorded once, with the bank's unit, and raises RO_WRITE (R490, R509). -/
def State.readOnlyNo (s : State) (a : Nat) : State :=
  if s.port.outcomes.any (fun (o : Nat × Nat) => o.1 == ST_REFUSED) then
    (s.refuse .mem 0x1520 ((bankAt a).getD 0) 0x00).raise SRC_MEM_RO_WRITE ((bankAt a).getD 0)
  else s

/-- A WRITE_MEM frame; `sameCycle` says that port A writes in the core cycle of port B's write (R493). -/
def opWriteMem (seq : BitVec 8) (addr : BitVec 24) (len : BitVec 16) (data : List Byte) (crc : BitVec 16) (whole sameCycle : Bool) (s : State) : State :=
  let a := addr.toNat
  let n := len.toNat
  if !s.hostUp then s
  else if !frameOk (writeMemBytes seq addr len data) crc (whole && decide (data.length = n)) then s.badFrame
  else s.takeFrame seq.toNat (fun s =>
    if n < 4 ∨ 256 < n ∨ n % 4 ≠ 0 ∨ a % 4 ≠ 0 then s.outcome ST_FORMAT 0
    else match bankOfRange a n with
    | none => s.outcome ST_RANGE ((List.range (n / 4)).findIdx (fun i => bankAt (a + 4 * i) != bankAt a || bankAt a == none))
    | some _ => (((s.memWrite sameCycle (memWords a data)).healTiles a n).readOnlyNo a))

/-- R531 WRITE_MEM. -/
def execWriteMem (seq : BitVec 8) (addr : BitVec 24) (len : BitVec 16) (data : List (BitVec 8)) (crc : BitVec 16) (whole sameCycle : Bool) (s : State) :
    Host.Outcome State Fault Refusal := .next (opWriteMem seq addr len data crc whole sameCycle s)

/-- The STATUS of a finished write: the first row of R535 that one of its words meets. -/
def frameStatus (l : List (Nat × Nat)) : Nat :=
  ([ST_FORMAT, ST_WLOST, ST_RANGE, ST_REFUSED].find? (fun st => l.any (fun (o : Nat × Nat) => o.1 == st))).getD ST_OK

/-- The execution of a write frame completes: its outcome is recorded (R533, R535). FIRST of a frame without a failed word is a free value. -/
def opHostWriteComplete (s : State) : State :=
  let s := s.resumeFrame
  if !s.hostUp || !s.flag HOST_PORT_STAT_BUSY || s.port.waiting.isSome then s
  else
    let st := frameStatus s.port.outcomes
    let s := ((s.set HOST_PORT_STAT_BUSY 0).set HOST_PORT_STAT_LAST_STATUS st)
    let s := if st = ST_WLOST then s.inc HOST_PORT_CNT2_WLOST else s
    let first := s.port.outcomes.find? (fun (o : Nat × Nat) => o.1 != ST_OK)
    let s := { s with port := { s.port with outcomes := [] } }
    match first with
    | some o => if st = ST_FORMAT then (let d := s.draw 128; d.2.set HOST_PORT_STAT_FIRST d.1) else s.set HOST_PORT_STAT_FIRST o.2
    | none => let d := s.draw 128; d.2.set HOST_PORT_STAT_FIRST d.1

/-- R533 HOST_WRITE_COMPLETE. -/
def execHostWriteComplete (s : State) : Host.Outcome State Fault Refusal := .next (s.live (opHostWriteComplete s))

/-! Read frames. -/

/-- A READ_REG frame. A frame outside the limits of R531 executes nothing and returns bytes that the spec leaves open. -/
def opReadReg (addr : BitVec 24) (n : BitVec 8) (s : State) : State :=
  if !s.hostUp then s
  else if n.toNat = 0 ∨ 64 < n.toNat ∨ addr.toNat % 4 ≠ 0 then
    let d := s.drawBytes (4 * n.toNat)
    d.2.respond ST_FORMAT d.1
  else
    let r := s.readWords addr.toNat n.toNat
    r.2.respond ST_OK (wordBytes r.1)

/-- R532 READ_REG. -/
def execReadReg (addr : BitVec 24) (n : BitVec 8) (s : State) : Host.Outcome State Fault Refusal := .next (opReadReg addr n s)

/-- A READ_MEM frame. -/
def opReadMem (addr : BitVec 24) (len : BitVec 16) (s : State) : State :=
  let a := addr.toNat
  let n := len.toNat
  if !s.hostUp then s
  else if n < 4 ∨ 256 < n ∨ n % 4 ≠ 0 ∨ a % 4 ≠ 0 then
    let d := s.drawBytes n
    d.2.respond ST_FORMAT d.1
  else match bankOfRange a n with
  | none => s.respond ST_RANGE (List.replicate n 0#8)
  | some _ =>
    let l := s.load 0 a n
    let d := l.2.2.openBytes a l.1
    d.2.respond (if l.2.1 then ST_POISON else ST_OK) d.1

/-- R532 READ_MEM. -/
def execReadMem (addr : BitVec 24) (len : BitVec 16) (s : State) : Host.Outcome State Fault Refusal := .next (opReadMem addr len s)

/-- A RESULT frame: LAST_SEQ, STATUS of that write and FIRST. -/
def opResult (s : State) : State :=
  if !s.hostUp then s
  else
    let st := if s.flag HOST_PORT_STAT_BUSY then ST_BUSY else s.get HOST_PORT_STAT_LAST_STATUS
    s.respond ST_OK [BitVec.ofNat 8 (s.get HOST_PORT_STAT_LAST_SEQ), BitVec.ofNat 8 st, BitVec.ofNat 8 (s.get HOST_PORT_STAT_FIRST)]

/-- R535 RESULT. -/
def execResult (s : State) : Host.Outcome State Fault Refusal := .next (opResult s)

/-! Single register accesses, as the rows name them. -/

/-- A register write outside a frame. -/
def State.writeOne (s : State) (a : BitVec 24) (v : Word) : State := if s.hostUp then (s.writeWord a.toNat v).2 else s

/-- R7 REGISTER_WRITE. -/
def execRegisterWrite (addr : BitVec 24) (v : BitVec 32) (s : State) : Host.Outcome State Fault Refusal := .next (s.writeOne addr v)

/-- R3 PAIR_LOW_READ. -/
def execPairLowRead (addr : BitVec 24) (s : State) : Host.Outcome State Fault Refusal := .next (s.readOne addr.toNat)

/-- R3 PAIR_HIGH_READ. -/
def execPairHighRead (addr : BitVec 24) (s : State) : Host.Outcome State Fault Refusal := .next (s.readOne addr.toNat)

/-- R3 PAIR_LOW_WRITE. -/
def execPairLowWrite (addr : BitVec 24) (v : BitVec 32) (s : State) : Host.Outcome State Fault Refusal := .next (s.writeOne addr v)

/-- R3 PAIR_HIGH_WRITE. -/
def execPairHighWrite (addr : BitVec 24) (v : BitVec 32) (s : State) : Host.Outcome State Fault Refusal := .next (s.writeOne addr v)

/-- R114 TIME_NOW_READ: the read of TIME_NOW's low word. -/
def execTimeNowRead (s : State) : Host.Outcome State Fault Refusal := .next (s.readOne 0x040100)

/-- A configuration check completes (R84); a frame that waited for it goes on. -/
def opConfigCheckDone (b : Block) (s : State) : State :=
  if s.cyc.checking.contains b then ((finishEnable b s).2).resumeFrame else s

/-- R84 CONFIG_CHECK_DONE. -/
def execConfigCheckDone (b : Block) (s : State) : Host.Outcome State Fault Refusal := .next (s.live (opConfigCheckDone b s))

end Sys2Proof.Machine
end

