-- ==== Sys2Proof/Machine/Dispatch.lean ====
section
/-! DEFINITION. The dispatch of a command to its meaning, one arm per row of the operation table. -/

namespace Sys2Proof.Machine

def exec (i : Instr) (s : State) : Host.Outcome State Fault Refusal :=
  match i with
  | .writeReg seq addr n data crc whole => Sys2Proof.Machine.execWriteReg seq addr n data crc whole s
  | .readReg addr n => Sys2Proof.Machine.execReadReg addr n s
  | .writeMem seq addr len data crc whole sameCycle => Sys2Proof.Machine.execWriteMem seq addr len data crc whole sameCycle s
  | .readMem addr len => Sys2Proof.Machine.execReadMem addr len s
  | .result => Sys2Proof.Machine.execResult s
  | .hostWriteComplete => Sys2Proof.Machine.execHostWriteComplete s
  | .registerWrite addr v => Sys2Proof.Machine.execRegisterWrite addr v s
  | .pairLowRead addr => Sys2Proof.Machine.execPairLowRead addr s
  | .pairHighRead addr => Sys2Proof.Machine.execPairHighRead addr s
  | .pairLowWrite addr v => Sys2Proof.Machine.execPairLowWrite addr v s
  | .pairHighWrite addr v => Sys2Proof.Machine.execPairHighWrite addr v s
  | .timeNowRead => Sys2Proof.Machine.execTimeNowRead s
  | .blockEnable b => Sys2Proof.Machine.execBlockEnable b s
  | .configCheckDone b => Sys2Proof.Machine.execConfigCheckDone b s
  | .blockDisable b => Sys2Proof.Machine.execBlockDisable b s
  | .cycleRunStart => Sys2Proof.Machine.execCycleRunStart s
  | .cycleBoundary => Sys2Proof.Machine.execCycleBoundary s
  | .samplingInstant => Sys2Proof.Machine.execSamplingInstant s
  | .reportMissing r p t => Sys2Proof.Machine.execReportMissing r p t s
  | .reportWindowEnd => Sys2Proof.Machine.execReportWindowEnd s
  | .step4Compute => Sys2Proof.Machine.execStep4Compute s
  | .followTimeout k => Sys2Proof.Machine.execFollowTimeout k s
  | .step5Modulate => Sys2Proof.Machine.execStep5Modulate s
  | .waggleTrainStart => Sys2Proof.Machine.execWaggleTrainStart s
  | .waggleResendWindow => Sys2Proof.Machine.execWaggleResendWindow s
  | .applyPoint => Sys2Proof.Machine.execApplyPoint s
  | .mbxWindowLaunch r endB t => Sys2Proof.Machine.execMbxWindowLaunch r endB t s
  | .reportRx r frame => Sys2Proof.Machine.execReportRx r frame s
  | .mbxRspRx r frame => Sys2Proof.Machine.execMbxRspRx r frame s
  | .nakRx r endB frame => Sys2Proof.Machine.execNakRx r endB frame s
  | .breakRx r frame => Sys2Proof.Machine.execBreakRx r frame s
  | .endLockLoss r endB => Sys2Proof.Machine.execEndLockLoss r endB s
  | .fragmentService r => Sys2Proof.Machine.execFragmentService r s
  | .keyEchoRx r endB frame trip => Sys2Proof.Machine.execKeyEchoRx r endB frame trip s
  | .keyingPass r => Sys2Proof.Machine.execKeyingPass r s
  | .enumeration r p => Sys2Proof.Machine.execEnumeration r p s
  | .feSyncLaunch slot t => Sys2Proof.Machine.execFeSyncLaunch slot t s
  | .enumTimeout slot => Sys2Proof.Machine.execEnumTimeout slot s
  | .rekeyPass r => Sys2Proof.Machine.execRekeyPass r s
  | .normalServiceReturn r => Sys2Proof.Machine.execNormalServiceReturn r s
  | .ringRestore r => Sys2Proof.Machine.execRingRestore r s
  | .blockRepeat => Sys2Proof.Machine.execBlockRepeat s
  | .blockEchoRx r endB frame => Sys2Proof.Machine.execBlockEchoRx r endB frame s
  | .blockEchoTimeout r endB => Sys2Proof.Machine.execBlockEchoTimeout r endB s
  | .mbxRspTimeout tag => Sys2Proof.Machine.execMbxRspTimeout tag s
  | .sqTailWrite tail => Sys2Proof.Machine.execSqTailWrite tail s
  | .sqEntryTake => Sys2Proof.Machine.execSqEntryTake s
  | .cqHeadWrite head => Sys2Proof.Machine.execCqHeadWrite head s
  | .cellBypass slot => Sys2Proof.Machine.execCellBypass slot s
  | .cellClear slot => Sys2Proof.Machine.execCellClear slot s
  | .cellArm slot => Sys2Proof.Machine.execCellArm slot s
  | .bypUnconfTimeout slot => Sys2Proof.Machine.execBypUnconfTimeout slot s
  | .aonPorRelease => Sys2Proof.Machine.execAonPorRelease s
  | .faultHoldRestore copyOk => Sys2Proof.Machine.execFaultHoldRestore copyOk s
  | .coreResetRelease => Sys2Proof.Machine.execCoreResetRelease s
  | .railUvFall r => Sys2Proof.Machine.execRailUvFall r s
  | .railUvRise r => Sys2Proof.Machine.execRailUvRise r s
  | .warmReset => Sys2Proof.Machine.execWarmReset s
  | .coldReset => Sys2Proof.Machine.execColdReset s
  | .heartbeatLoss => Sys2Proof.Machine.execHeartbeatLoss s
  | .lossPulseEnd o => Sys2Proof.Machine.execLossPulseEnd o s
  | .wakeBall => Sys2Proof.Machine.execWakeBall s
  | .rtcAlarm => Sys2Proof.Machine.execRtcAlarm s
  | .xtalLoss => Sys2Proof.Machine.execXtalLoss s
  | .xtalReturn => Sys2Proof.Machine.execXtalReturn s
  | .resume => Sys2Proof.Machine.execResume s
  | .reload => Sys2Proof.Machine.execReload s
  | .dormant => Sys2Proof.Machine.execDormant s
  | .start => Sys2Proof.Machine.execStart s
  | .enterSafe => Sys2Proof.Machine.execEnterSafe s
  | .pllCtrlWrite p v => Sys2Proof.Machine.execPllCtrlWrite p v s
  | .pllReacq p => Sys2Proof.Machine.execPllReacq p s
  | .pllBandWrite p b v => Sys2Proof.Machine.execPllBandWrite p b v s
  | .lolClear p => Sys2Proof.Machine.execLolClear p s
  | .pllLock p => Sys2Proof.Machine.execPllLock p s
  | .pllBandTimeout p => Sys2Proof.Machine.execPllBandTimeout p s
  | .lossOfLock p => Sys2Proof.Machine.execLossOfLock p s
  | .loadSequence flash => Sys2Proof.Machine.execLoadSequence flash s
  | .primerRun obs => Sys2Proof.Machine.execPrimerRun obs s
  | .startModeRequest => Sys2Proof.Machine.execStartModeRequest s
  | .fltWindowClose b src => Sys2Proof.Machine.execFltWindowClose b src s
  | .evtClear b mask => Sys2Proof.Machine.execEvtClear b mask s
  | .sevClear b mask => Sys2Proof.Machine.execSevClear b mask s
  | .faultHoldClear v => Sys2Proof.Machine.execFaultHoldClear v s
  | .timeStepWrite v => Sys2Proof.Machine.execTimeStepWrite v s
  | .ofsRequest v => Sys2Proof.Machine.execOfsRequest v s
  | .freqAdjWrite v => Sys2Proof.Machine.execFreqAdjWrite v s
  | .phaseSlewDone => Sys2Proof.Machine.execPhaseSlewDone s
  | .rtcRealign => Sys2Proof.Machine.execRtcRealign s
  | .ptpSyncRx m => Sys2Proof.Machine.execPtpSyncRx m s
  | .ptpFollowUpRx m => Sys2Proof.Machine.execPtpFollowUpRx m s
  | .ptpDelayReqRx m => Sys2Proof.Machine.execPtpDelayReqRx m s
  | .ptpDelayRespRx m => Sys2Proof.Machine.execPtpDelayRespRx m s
  | .ptpPdelayReqRx m => Sys2Proof.Machine.execPtpPdelayReqRx m s
  | .ptpPdelayRespRx m => Sys2Proof.Machine.execPtpPdelayRespRx m s
  | .ptpAnnounceRx m => Sys2Proof.Machine.execPtpAnnounceRx m s
  | .ptpSyncSend => Sys2Proof.Machine.execPtpSyncSend s
  | .ptpAnnounceSend => Sys2Proof.Machine.execPtpAnnounceSend s
  | .ptpDelayReqSend => Sys2Proof.Machine.execPtpDelayReqSend s
  | .announceTimeout => Sys2Proof.Machine.execAnnounceTimeout s
  | .modeSync => Sys2Proof.Machine.execModeSync s
  | .modeForm => Sys2Proof.Machine.execModeForm s
  | .modeBlackstart => Sys2Proof.Machine.execModeBlackstart s
  | .modeResync => Sys2Proof.Machine.execModeResync s
  | .modeClose => Sys2Proof.Machine.execModeClose s
  | .modeIsland => Sys2Proof.Machine.execModeIsland s
  | .modeStop => Sys2Proof.Machine.execModeStop s
  | .feederLiveChange feeder live => Sys2Proof.Machine.execFeederLiveChange feeder live s
  | .syncHoldReached => Sys2Proof.Machine.execSyncHoldReached s
  | .closePulseEnd => Sys2Proof.Machine.execClosePulseEnd s
  | .bkrFbChange closed => Sys2Proof.Machine.execBkrFbChange closed s
  | .bkrTransitTimeout => Sys2Proof.Machine.execBkrTransitTimeout s
  | .bkrMismatchDetect => Sys2Proof.Machine.execBkrMismatchDetect s
  | .syncTimeout => Sys2Proof.Machine.execSyncTimeout s
  | .bsTimeout => Sys2Proof.Machine.execBsTimeout s
  | .stopRampEnd => Sys2Proof.Machine.execStopRampEnd s
  | .bankSwap law => Sys2Proof.Machine.execBankSwap law s
  | .lawManWrite k v => Sys2Proof.Machine.execLawManWrite k v s
  | .preCtcTimeout => Sys2Proof.Machine.execPreCtcTimeout s
  | .preTimeout => Sys2Proof.Machine.execPreTimeout s
  | .prechargeDone => Sys2Proof.Machine.execPrechargeDone s
  | .rideRecover => Sys2Proof.Machine.execRideRecover s
  | .freqStageExpiry k => Sys2Proof.Machine.execFreqStageExpiry k s
  | .busOn b => Sys2Proof.Machine.execBusOn b s
  | .busOff b => Sys2Proof.Machine.execBusOff b s
  | .busClear b => Sys2Proof.Machine.execBusClear b s
  | .busSetpointWrite b amps v => Sys2Proof.Machine.execBusSetpointWrite b amps v s
  | .matchHoldReached b => Sys2Proof.Machine.execMatchHoldReached b s
  | .matchTimeout b => Sys2Proof.Machine.execMatchTimeout b s
  | .busCtcTimeout b => Sys2Proof.Machine.execBusCtcTimeout b s
  | .openTmoExpiry b => Sys2Proof.Machine.execOpenTmoExpiry b s
  | .allocTargetWrite m v => Sys2Proof.Machine.execAllocTargetWrite m v s
  | .allocStuck slot => Sys2Proof.Machine.execAllocStuck slot s
  | .sessionReserve bus cid => Sys2Proof.Machine.execSessionReserve bus cid s
  | .sessionStart bus cid => Sys2Proof.Machine.execSessionStart bus cid s
  | .sessionStop cid => Sys2Proof.Machine.execSessionStop cid s
  | .sessionCancel => Sys2Proof.Machine.execSessionCancel s
  | .sessionAck => Sys2Proof.Machine.execSessionAck s
  | .signQueueEnter => Sys2Proof.Machine.execSignQueueEnter s
  | .recordSigned => Sys2Proof.Machine.execRecordSigned s
  | .combFetch hdl => Sys2Proof.Machine.execCombFetch hdl s
  | .checkpoint => Sys2Proof.Machine.execCheckpoint s
  | .calApply => Sys2Proof.Machine.execCalApply s
  | .calEstimate => Sys2Proof.Machine.execCalEstimate s
  | .sarEntryStart a => Sys2Proof.Machine.execSarEntryStart a s
  | .sarConversion a code t => Sys2Proof.Machine.execSarConversion a code t s
  | .refFault a => Sys2Proof.Machine.execRefFault a s
  | .filOutput n fine x t => Sys2Proof.Machine.execFilOutput n fine x t s
  | .dsmStuck n => Sys2Proof.Machine.execDsmStuck n s
  | .settlingEnd n fine => Sys2Proof.Machine.execSettlingEnd n fine s
  | .capTick => Sys2Proof.Machine.execCapTick s
  | .capRecordAssemble => Sys2Proof.Machine.execCapRecordAssemble s
  | .capArm => Sys2Proof.Machine.execCapArm s
  | .capForce => Sys2Proof.Machine.execCapForce s
  | .capStop => Sys2Proof.Machine.execCapStop s
  | .capPacketSend => Sys2Proof.Machine.execCapPacketSend s
  | .capEndPacket => Sys2Proof.Machine.execCapEndPacket s
  | .pauseRx quanta => Sys2Proof.Machine.execPauseRx quanta s
  | .ethRx p fcsOk frame => Sys2Proof.Machine.execEthRx p fcsOk frame s
  | .mdioPoll p reg1 => Sys2Proof.Machine.execMdioPoll p reg1 s
  | .mdioWrite phy reg data => Sys2Proof.Machine.execMdioWrite phy reg data s
  | .mdioRead phy reg => Sys2Proof.Machine.execMdioRead phy reg s
  | .mdioDone data => Sys2Proof.Machine.execMdioDone data s
  | .pwmPeriodStart n => Sys2Proof.Machine.execPwmPeriodStart n s
  | .axisCommit n => Sys2Proof.Machine.execAxisCommit n s
  | .bstUv h => Sys2Proof.Machine.execBstUv h s
  | .ddtShort h => Sys2Proof.Machine.execDdtShort h s
  | .clearSc h => Sys2Proof.Machine.execClearSc h s
  | .offStateTest n sh => Sys2Proof.Machine.execOffStateTest n sh s
  | .offStateTestDone n => Sys2Proof.Machine.execOffStateTestDone n s
  | .tripInput n => Sys2Proof.Machine.execTripInput n s
  | .tripClear mask => Sys2Proof.Machine.execTripClear mask s
  | .tripQuietExpiry n => Sys2Proof.Machine.execTripQuietExpiry n s
  | .axisRun n => Sys2Proof.Machine.execAxisRun n s
  | .axisFloat n => Sys2Proof.Machine.execAxisFloat n s
  | .axisTest n => Sys2Proof.Machine.execAxisTest n s
  | .chargeDone n bstOk => Sys2Proof.Machine.execChargeDone n bstOk s
  | .inhibitTestEnd n gl => Sys2Proof.Machine.execInhibitTestEnd n gl s
  | .inhibitRelease n => Sys2Proof.Machine.execInhibitRelease n s
  | .vbrUv n v => Sys2Proof.Machine.execVbrUv n v s
  | .vbrRev n v => Sys2Proof.Machine.execVbrRev n v s
  | .vdrvUv v => Sys2Proof.Machine.execVdrvUv v s
  | .encCount n a b dt => Sys2Proof.Machine.execEncCount n a b dt s
  | .encIndex n => Sys2Proof.Machine.execEncIndex n s
  | .encStill n => Sys2Proof.Machine.execEncStill n s
  | .cmpPulseEnd m => Sys2Proof.Machine.execCmpPulseEnd m s
  | .ssupClear mask => Sys2Proof.Machine.execSsupClear mask s
  | .supplyShort n present => Sys2Proof.Machine.execSupplyShort n present s
  | .backfeed n present => Sys2Proof.Machine.execBackfeed n present s
  | .inputReverse ball present => Sys2Proof.Machine.execInputReverse ball present s
  | .ctcShort o present => Sys2Proof.Machine.execCtcShort o present s
  | .ctcOpenLoad o present => Sys2Proof.Machine.execCtcOpenLoad o present s
  | .ctcReverse o present => Sys2Proof.Machine.execCtcReverse o present s
  | .ctcOn o => Sys2Proof.Machine.execCtcOn o s
  | .ctcOff o => Sys2Proof.Machine.execCtcOff o s
  | .ctcClr o => Sys2Proof.Machine.execCtcClr o s
  | .fbChange k high => Sys2Proof.Machine.execFbChange k high s
  | .ctcTransitTimeout o => Sys2Proof.Machine.execCtcTransitTimeout o s
  | .ctcSteadyDisagree o => Sys2Proof.Machine.execCtcSteadyDisagree o s
  | .siChange n chB high => Sys2Proof.Machine.execSiChange n chB high s
  | .siDiscTimeout n => Sys2Proof.Machine.execSiDiscTimeout n s
  | .safeCmdSgr => Sys2Proof.Machine.execSafeCmdSgr s
  | .safeCmdSod b => Sys2Proof.Machine.execSafeCmdSod b s
  | .safeCmdSds a => Sys2Proof.Machine.execSafeCmdSds a s
  | .safeCmdStr a => Sys2Proof.Machine.execSafeCmdStr a s
  | .resetSgr => Sys2Proof.Machine.execResetSgr s
  | .resetSod b => Sys2Proof.Machine.execResetSod b s
  | .resetAxis a => Sys2Proof.Machine.execResetAxis a s
  | .sgrComplete => Sys2Proof.Machine.execSgrComplete s
  | .sgrConfTimeout => Sys2Proof.Machine.execSgrConfTimeout s
  | .bkrOpenTimeout => Sys2Proof.Machine.execBkrOpenTimeout s
  | .sodRampEnd b => Sys2Proof.Machine.execSodRampEnd b s
  | .sodConfTimeout b => Sys2Proof.Machine.execSodConfTimeout b s
  | .sdsCheck a => Sys2Proof.Machine.execSdsCheck a s
  | .sdsTimeout a => Sys2Proof.Machine.execSdsTimeout a s
  | .encPlausFail a => Sys2Proof.Machine.execEncPlausFail a s
  | .bistBorrow faulty => Sys2Proof.Machine.execBistBorrow faulty s
  | .bistAbandon => Sys2Proof.Machine.execBistAbandon s
  | .mramRefresh tile => Sys2Proof.Machine.execMramRefresh tile s
  | .heartbeatSend => Sys2Proof.Machine.execHeartbeatSend s
  | .heartbeatRx frame t => Sys2Proof.Machine.execHeartbeatRx frame t s
  | .partnerLost => Sys2Proof.Machine.execPartnerLost s
  | .snapshotRx snap crcOk lost => Sys2Proof.Machine.execSnapshotRx snap crcOk lost s
  | .takeover => Sys2Proof.Machine.execTakeover s
  | .partSwitch => Sys2Proof.Machine.execPartSwitch s
  | .partRearm => Sys2Proof.Machine.execPartRearm s
  | .holdoffExpiry => Sys2Proof.Machine.execHoldoffExpiry s
  | .pairWaitExpiry => Sys2Proof.Machine.execPairWaitExpiry s
  | .flashRead => Sys2Proof.Machine.execFlashRead s
  | .flashProgram => Sys2Proof.Machine.execFlashProgram s
  | .flashErase => Sys2Proof.Machine.execFlashErase s
  | .flashOpDone ok => Sys2Proof.Machine.execFlashOpDone ok s
  | .sealScan sample fault => Sys2Proof.Machine.execSealScan sample fault s
  | .sealRenewal => Sys2Proof.Machine.execSealRenewal s
  | .passAttempt v => Sys2Proof.Machine.execPassAttempt v s
  | .sessionExpiry => Sys2Proof.Machine.execSessionExpiry s
  | .passLock => Sys2Proof.Machine.execPassLock s
  | .passSet => Sys2Proof.Machine.execPassSet s
  | .lockoutEnd => Sys2Proof.Machine.execLockoutEnd s
  | .endLockRegain r endB => Sys2Proof.Machine.execEndLockRegain r endB s
  | .partnerLaneLockChange lane locked => Sys2Proof.Machine.execPartnerLaneLockChange lane locked s
  | .testEnChange high => Sys2Proof.Machine.execTestEnChange high s
  | .refFaultEnd a => Sys2Proof.Machine.execRefFaultEnd a s
  | .dsmStuckEnd n => Sys2Proof.Machine.execDsmStuckEnd n s
  | .hallLineChange n u v w => Sys2Proof.Machine.execHallLineChange n u v w s
  | .plausChecksPassed a => Sys2Proof.Machine.execPlausChecksPassed a s
  | .bkrTripPulseEnd => Sys2Proof.Machine.execBkrTripPulseEnd s
  | .tripInputInactive n => Sys2Proof.Machine.execTripInputInactive n s
  | .pauseEnd => Sys2Proof.Machine.execPauseEnd s
  | .combFetchDone => Sys2Proof.Machine.execCombFetchDone s

end Sys2Proof.Machine
end

