-- ==== Sys2Proof/Safety.lean ====
section
/-! DEFINITION. What claims about the block's safety are stated in: the forms of the state that every run keeps, and what must not happen while a safety function stands. -/

namespace Sys2Proof.Safety

open Sys2Proof.Machine

/-- The registers are held in canonical form: addresses rising, no entry equal to its reset word. -/
abbrev regsWf (s : State) : Prop := sparseWf resetWord s.regs = true

/-- The host memory space is held in canonical form. -/
abbrev memWf (s : State) : Prop := sparseWf (fun _ => unwritten) s.mem = true

/-- The canonical form of the state. -/
abbrev Canonical (s : State) : Prop := regsWf s ∧ memWf s

/-- The records of the parts that the spec counts are all there: 12 rings, 192 cells, 12 outlet buses and the moves of 192 slots, 4 axes and 4 encoders, also in a snapshot held. -/
abbrev Sized (s : State) : Prop :=
  s.hive.rings.length = 12 ∧ s.fes.length = 192 ∧ s.out.buses.length = 12 ∧ s.out.moves.length = 192 ∧
    s.drive.axes.length = 4 ∧ s.drive.encs.length = 4 ∧ ∀ x, s.part.snap = some x → x.out.buses.length = 12 ∧ x.out.moves.length = 192

/-- Pulse inhibit of an axis: every gate of its half-bridges is off while the axis is INHIBITED (R441, R477). -/
abbrev Inhibited (s : State) (n : Nat) : Prop := s.get AXIS_STAT_STATE n = AX_INHIBITED

/-- The change log admits an action only with its entry (R547): the number of the next entry moves on. -/
abbrev Logged (s t : State) : Prop := t.get SEAL_LOG_NEXT_SEQ = (s.get SEAL_LOG_NEXT_SEQ + 1) % 2 ^ 32

/-- A command whose whole effect is in the logic of the control die: with that die in reset it does nothing (R37 to R41). The others are the host port's, the resets and rails, the parts of the always-on die, and levels of pins that are noted meanwhile. -/
def coreClocked : Instr → Bool
  | .writeReg .. | .readReg .. | .writeMem .. | .readMem .. | .result .. | .registerWrite .. | .pairLowRead .. | .pairHighRead .. | .pairLowWrite ..
  | .pairHighWrite .. | .timeNowRead .. | .aonPorRelease .. | .faultHoldRestore .. | .coreResetRelease .. | .railUvFall .. | .railUvRise ..
  | .warmReset .. | .coldReset .. | .heartbeatLoss .. | .lossPulseEnd .. | .wakeBall .. | .rtcAlarm .. | .xtalLoss .. | .xtalReturn .. | .bkrFbChange ..
  | .tripInput .. | .tripQuietExpiry .. | .vbrUv .. | .vbrRev .. | .vdrvUv .. | .supplyShort .. | .backfeed .. | .inputReverse .. | .ctcShort ..
  | .ctcOpenLoad .. | .ctcReverse .. | .fbChange .. | .siChange .. | .mramRefresh .. | .sealScan .. | .lockoutEnd .. | .testEnChange ..
  | .tripInputInactive .. => false
  | _ => true

/-! Frames. -/

/-- The registers an event of source `n` of block `b` may write: STATUS, FLT_SEV, EVT_LAST, FLT_N[n] (R98, R101), SYS_FAULT_HOLD (R108), and the N of its open window (R99). -/
def evtRegs (b : Block) (n : Nat) : List Nat :=
  [ctrlAddr b 0x04, ctrlAddr b 0x10, ctrlAddr b 0x14, ctrlAddr b 0x40 + 8 * n, 0x000214, 0x1000000 + ctrlAddr b 0x40 + 8 * n]

/-- The registers a refusal of block `b` writes: CHK, CHK_LAST and CHK_CNT (R88, R89). -/
def refuseRegs (b : Block) : List Nat := [ctrlAddr b 0x0C, 0x030100, 0x030104]

/-- Every register outside `l` reads as before, and every byte of the host memory space. -/
abbrev KeepsOutside (s t : State) (l : List Nat) : Prop := (∀ a, a ∉ l → t.word a = s.word a) ∧ ∀ a, t.byte a = s.byte a

/-- Nothing but registers differs. -/
abbrev RegsOnly (s t : State) : Prop := t = { s with regs := t.regs }

/-- Nothing but registers, the always-on copy of the hold word (R108) and the firing of an armed capture by a bit of HOST_SEV_SUM (R409) differs. -/
abbrev RegsHold (s t : State) : Prop :=
  t = { s with regs := t.regs, pwr := { s.pwr with holdCopy := t.pwr.holdCopy }, cap := { s.cap with force := t.cap.force } }

/-- The status words of a coil output and of the outputs that follow it (R474). -/
def coilWords (s : State) (o : Nat) : List Nat :=
  (o :: coils.filter (fun f => s.flag CTC_OCFG_FOLLOW_EN f && s.get CTC_OCFG_FOLLOW f == o)).map (fun x => 0x14000C + 0x100 * x)

/-- The state and the gates of an axis. -/
def axisRegs (n : Nat) : List Nat := (0x100024 + 0x100 * n) :: (List.range 3).map (fun p => 0x110004 + 0x100 * (3 * n + p))

/-- The registers that the pulse-inhibit path may write: the axes, their gates, and what SAFE shows of STR and SDS (R441, R480). -/
def inhibitRegs : List Nat :=
  (List.range 4).flatMap axisRegs ++ (List.range 4).map (fun n => 0x130414 + 0x100 * n) ++ [0x131110] ++ evtRegs .axis SRC_AXIS_INHIBITED.s

/-- The registers that the start of an SGR may write (R464): SAFE's state, the BLOCK, the coils (a setting names an output in six bits), the breaker's command and the axes. -/
def sgrRegs : List Nat :=
  [0x051108, 0x080304] ++ evtRegs .safe SRC_SAFE_SGR.s ++ (List.range 64).map (fun o => 0x14000C + 0x100 * o) ++
    (List.range 4).map (fun n => 0x130418 + 0x100 * n) ++ inhibitRegs

/-- An axis in TEST, CHARGE or RUN. -/
def driving (s : State) (n : Nat) : Bool := s.get AXIS_STAT_STATE n == AX_TEST || s.get AXIS_STAT_STATE n == AX_CHARGE || s.get AXIS_STAT_STATE n == AX_RUN

/-- Every gate of an axis is off. -/
def gatesOff (s : State) (n : Nat) : Bool := (List.range 3).all (fun p => !s.flag GDRV_HSTAT_GH (3 * n + p) && !s.flag GDRV_HSTAT_GL (3 * n + p))

end Sys2Proof.Safety
end

