-- ==== Sys2Proof/WellFormed.lean ====
section
/-! DEFINITION. Well-formed commands: the limits that the spec sets on what a sender presents and that the operand types do not show. An ill-formed command still has its effect in the model; no statement needs it to be refused. -/

namespace Sys2Proof

/-- A register address is a multiple of 4 (R1). -/
def aligned (a : BitVec 24) : Bool := a.toNat % 4 == 0

/-- A QSPI write frame carries as many data units as it announces, or it is bad (R536). -/
def frameLen (n len : Nat) : Bool := n == len

/-- A flash image fits the flash: slots of 2 MiB, slot B only from 4 MiB (R71). -/
def FlashImage.wf (f : FlashImage) : Bool :=
  decide (f.slotA.length ≤ 2097152) && decide (f.slotB.length ≤ 2097152) && (decide (4 ≤ f.mib) || f.slotB.isEmpty)

/-- A received hive frame has its type's delimiter and length (R135). -/
def hiveFrame (delim : BitVec 8) (len : Nat) (f : List (BitVec 8)) : Bool := f.length == len && f.head? == some delim

/-- A snapshot carries numbers that fit its header and the records of 12 outlet buses and 192 slots (R517). -/
def Snapshot.wf (x : Snapshot) : Bool := decide (x.cyc < 2 ^ 32) && decide (x.tai < 2 ^ 64) && x.out.buses.length == 12 && x.out.moves.length == 192

/-- What Primer finds is about half-bridges, bitstreams, rings with up to 17 hops and slots that exist (R35, R134, R166). -/
def PrimerObs.wf (o : PrimerObs) : Bool :=
  o.bridges.length == 12 && o.glOn.all (fun h => decide (h < 12)) && o.stuck.all (fun n => decide (n < 36)) &&
    o.breaks.all (fun q => decide (q.1 < 12) && decide (q.2 < 17)) && o.keyed.all (fun k => decide (k.1 < 12)) &&
    o.slots.all (fun x => decide (x.slot < 192)) && (o.partner.map Snapshot.wf).getD true

/-- Whether a command is one that a sender can present. -/
def Instr.wf : Instr → Bool
  | .writeReg _ addr n data _ _ => aligned addr && frameLen n.toNat data.length
  | .readReg addr _ => aligned addr
  | .writeMem _ addr len data _ _ _ => aligned addr && frameLen len.toNat data.length
  | .readMem addr _ => aligned addr
  | .registerWrite addr _ => aligned addr
  | .pairLowRead addr => aligned addr
  | .pairHighRead addr => aligned addr
  | .pairLowWrite addr _ => aligned addr
  | .pairHighWrite addr _ => aligned addr
  | .loadSequence (some f) => f.wf
  | .reportRx _ f => hiveFrame 0x5C#8 36 f
  | .mbxRspRx _ f => hiveFrame 0xFB#8 44 f
  | .nakRx _ _ f => hiveFrame 0x9C#8 4 f
  | .breakRx _ f => hiveFrame 0xFC#8 8 f
  | .keyEchoRx _ _ f _ => hiveFrame 0xFD#8 8 f
  | .blockEchoRx _ _ f => hiveFrame 0xDC#8 8 f
  | .heartbeatRx f _ => f.length == 16
  | .snapshotRx x _ _ => x.wf
  | .primerRun o => o.wf
  | .offStateTest _ sh => sh.length == 3
  | _ => true

end Sys2Proof
end

