-- ==== Sys2Proof/Certificates/Slice0/Obligations.lean ====
section
/-! DEFINITION. The statements for the provers. Each docstring says what a statement claims and names the rules of the spec it follows. -/

open Sys2Proof Sys2Proof.Machine Sys2Proof.Safety

/-- For every command c and every state, the step of the state with c at the front of its queue is exec of c on the state with the queue's rest. (95_what_each_step_holds.md) -/
def Obligations.StepExecutesTheFrontCommand : Prop :=
  ∀ (s : State) (c : Instr) (rest : List Instr),
    step { s with pending := c :: rest } = exec c { s with pending := rest }

/-- For every command and every state exec answers a next state, none ends in a fault or a refusal, and the queue of that state is the queue exec was given. (95_what_each_step_holds.md) -/
def Obligations.CommandsLeaveTheQueue : Prop :=
  ∀ (c : Instr) (s : State), ∃ t, exec c s = .next t ∧ t.pending = s.pending

/-- State.reset holds its registers and its memory in canonical form, its records are all there, and its queue is empty. (01_architecture.md, 17_memory.md) -/
def Obligations.ResetIsCanonical : Prop :=
  Canonical State.reset ∧ Sized State.reset ∧ State.reset.pending = []

/-- From every state that holds 12 rings, 192 cells, 12 outlet buses, 192 moves, 4 axes and 4 encoders, in itself and in a snapshot it keeps, and whose waiting commands are well formed, a step that answers a next state answers such a state. (00_scope.md, 06_hive_link.md, 18_redundancy.md) -/
def Obligations.EveryStepKeepsItsRecords : Prop :=
  ∀ (s t : State), Sized s → (∀ c ∈ s.pending, Instr.wf c = true) → step s = .next t → Sized t

/-- From every state whose registers and memory are in canonical form (addresses strictly rising, no entry equal to what an unlisted address reads as), a step that answers a next state answers one in canonical form. (01_architecture.md, 17_memory.md) -/
def Obligations.EveryStepKeepsTheCanonicalForm : Prop :=
  ∀ (s t : State), Canonical s → step s = .next t → Canonical t

/-- A register read of a word at an address with no register returns zero; a write there changes only HOST_CHK (reason 0x1702, UNIT bits [15:8] and OFFSET bits [7:0] of the address), CHK_LAST and CHK_CNT. The read changes no register and no memory. It says of each of these that it completes with its own effect, exec answering the next state told, under hypotheses on the state and the operands alone: readReg. (R5) -/
def Obligations.AddressesWithoutARegister : Prop :=
  -- completes: readReg
  (∀ (s : State) (a : BitVec 24), s.hostUp = true → a.toNat % 4 = 0 → regDefAt a.toNat = none → s.pairs.captured = [] →
    ∃ t, exec (.readReg a 1#8) s = .next t ∧
      t.port.respStatus = ST_OK ∧
      t.port.respData = [0#8, 0#8, 0#8, 0#8] ∧
      t = { s with port := t.port }) ∧
  (∀ (s : State) (a : BitVec 24) (v : BitVec 32), regsWf s → s.hostUp = true → regDefAt a.toNat = none →
    ∃ t, exec (.registerWrite a v) s = .next t ∧
      t.get (CHK_REASON .host) = 0x1702 ∧
      t.get (CHK_UNIT .host) = a.toNat / 0x100 % 0x100 ∧
      t.get (CHK_OFFSET .host) = a.toNat % 0x100 ∧
      RegsOnly s t ∧
      (∀ adr, adr ∉ (refuseRegs .host : List Nat) → t.word adr = s.word adr))

/-- PAIR_LOW_READ of a pair returns the low word and captures the high word; PAIR_HIGH_READ returns a captured word and ends the capture, and with none captured returns the word as it stands; TIME_NOW_READ captures the high word and the fraction of the same tick; PAIR_LOW_WRITE changes no register; PAIR_HIGH_WRITE of SEAL_PASS_NEW takes effect with the low word as last written. Reads change no register and no memory. It says of each of these that it completes with its own effect, exec answering the next state told, under hypotheses on the state and the operands alone: pairLowRead, pairHighRead, timeNowRead, pairLowWrite, pairHighWrite. (R3, R114) -/
def Obligations.PairsAreReadAndWrittenWhole : Prop :=
  -- completes: pairLowRead
  (∀ (s : State) (a : BitVec 24), s.hostUp = true → isPairLow a.toNat = true → sparseFind a.toNat s.pairs.captured = none → a.toNat ≠ 0x040100 →
    ∃ t, exec (.pairLowRead a) s = .next t ∧
      t.port.respStatus = ST_OK ∧
      t.port.respData = leBytes 4 (s.shown a.toNat).toNat ∧
      sparseFind (a.toNat + 4) t.pairs.captured = some (s.shown (a.toNat + 4)) ∧
      t = { s with pairs := t.pairs, port := t.port }) ∧
  -- completes: pairHighRead
  (∀ (s : State) (a : BitVec 24) (w : Word), s.hostUp = true → sparseFind a.toNat s.pairs.captured = some w →
    ∃ t, exec (.pairHighRead a) s = .next t ∧
      t.port.respStatus = ST_OK ∧
      t.port.respData = leBytes 4 w.toNat ∧
      sparseFind a.toNat t.pairs.captured = none ∧
      t = { s with pairs := t.pairs, port := t.port }) ∧
  -- completes: pairHighRead
  (∀ (s : State) (a : BitVec 24), s.hostUp = true → isPairLow a.toNat = false → sparseFind a.toNat s.pairs.captured = none →
    ∃ t, exec (.pairHighRead a) s = .next t ∧
      t.port.respStatus = ST_OK ∧
      t.port.respData = leBytes 4 (s.shown a.toNat).toNat ∧
      t = { s with port := t.port }) ∧
  -- completes: timeNowRead
  (∀ (s : State), s.hostUp = true → s.pairs.captured = [] →
    ∃ t, exec .timeNowRead s = .next t ∧
      t.port.respStatus = ST_OK ∧
      t.port.respData = leBytes 4 (s.shown 0x040100).toNat ∧
      sparseFind 0x040104 t.pairs.captured = some (s.shown 0x040104) ∧
      sparseFind 0x040108 t.pairs.captured = some (s.shown 0x040108) ∧
      t = { s with pairs := t.pairs, port := t.port }) ∧
  -- completes: pairLowWrite
  (∀ (s : State) (a : BitVec 24) (v : BitVec 32), s.hostUp = true → isPairLow a.toNat = true → (regDefAt a.toNat).isSome = true →
    ∃ t, exec (.pairLowWrite a v) s = .next t ∧
      t.lowWord a.toNat = v ∧
      t = { s with pairs := t.pairs }) ∧
  -- completes: pairHighWrite
  (∀ (s : State) (v : BitVec 32), regsWf s → s.hostUp = true →
    ∃ t, exec (.pairHighWrite 0x19020C#24 v) s = .next t ∧
      t.word 0x190208 = s.lowWord 0x190208 ∧
      t.word 0x19020C = v ∧
      RegsOnly s t ∧
      (∀ adr, adr ∉ ([0x190208, 0x19020C] : List Nat) → t.word adr = s.word adr))

/-- A READ_REG within the limits of R531 answers OK with the words read in ascending order; a READ_MEM of an unpoisoned range within one bank answers OK with its bytes; a range outside every bank answers RANGE with zeros; RESULT answers LAST_SEQ, STATUS (BUSY while a write executes) and FIRST. None changes a register, a counter or a byte. It says of each of these that it completes with its own effect, exec answering the next state told, under hypotheses on the state and the operands alone: readReg, readMem, result. (R531, R532, R533, R535) -/
def Obligations.QspiReadFramesAnswer : Prop :=
  -- completes: readReg
  (∀ (s : State) (a : BitVec 24) (n : BitVec 8), s.hostUp = true → 1 ≤ n.toNat → n.toNat ≤ 64 → a.toNat % 4 = 0 →
    ∃ t, exec (.readReg a n) s = .next t ∧
      t.port.respStatus = ST_OK ∧
      t.port.respData = wordBytes (s.readWords a.toNat n.toNat).1 ∧
      t.port.respData.length = 4 * n.toNat ∧
      t = { s with pairs := t.pairs, port := t.port }) ∧
  -- completes: readMem
  (∀ (s : State) (a : BitVec 24) (n : BitVec 16), s.hostUp = true → 4 ≤ n.toNat → n.toNat ≤ 256 → n.toNat % 4 = 0 → a.toNat % 4 = 0 → (bankOfRange a.toNat n.toNat).isSome = true → s.poison = [] → ∀ i, i < n.toNat → openByte (a.toNat + i) = false →
    ∃ t, exec (.readMem a n) s = .next t ∧
      t.port.respStatus = ST_OK ∧
      t.port.respData = s.bytes a.toNat n.toNat ∧
      t = { s with port := t.port }) ∧
  -- completes: readMem
  (∀ (s : State) (a : BitVec 24) (n : BitVec 16), s.hostUp = true → 4 ≤ n.toNat → n.toNat ≤ 256 → n.toNat % 4 = 0 → a.toNat % 4 = 0 → bankOfRange a.toNat n.toNat = none →
    ∃ t, exec (.readMem a n) s = .next t ∧
      t.port.respStatus = ST_RANGE ∧
      t.port.respData = List.replicate n.toNat 0#8 ∧
      t = { s with port := t.port }) ∧
  -- completes: result
  (∀ (s : State), s.hostUp = true →
    ∃ t, exec .result s = .next t ∧
      t.port.respStatus = ST_OK ∧
      t.port.respData = [BitVec.ofNat 8 (s.get HOST_PORT_STAT_LAST_SEQ),
        BitVec.ofNat 8 (if s.flag HOST_PORT_STAT_BUSY then ST_BUSY else s.get HOST_PORT_STAT_LAST_STATUS), BitVec.ofNat 8 (s.get HOST_PORT_STAT_FIRST)] ∧
      t = { s with port := t.port })

/-- A write frame whose CRC fails is discarded whole and counted in FRAME_ERR, with the recorded SEQ and outcome unchanged; one that arrives while another executes is counted in BUSY_DROP and its SEQ is not recorded; a valid repeat of the recorded SEQ is not executed, DUP counts it and the recorded STATUS gains bit 7. It says of each of these that it completes with its own effect, exec answering the next state told, under hypotheses on the state and the operands alone: writeReg. (R533, R534, R536) -/
def Obligations.QspiWriteFramesAreJudgedWhole : Prop :=
  -- completes: writeReg
  (∀ (s : State) (q : BitVec 8) (a : BitVec 24) (n : BitVec 8) (d : List (BitVec 32)) (c : BitVec 16), regsWf s → s.hostUp = true → crc16 (writeRegBytes q a n d) ≠ c →
    ∃ t, exec (.writeReg q a n d c true) s = .next t ∧
      t.get HOST_PORT_CNT_FRAME_ERR = satInc 0xFFFF (s.get HOST_PORT_CNT_FRAME_ERR) ∧
      t.word 0x170100 = s.word 0x170100 ∧
      RegsHold s t ∧
      (∀ adr, adr ∉ (0x170104 :: evtRegs .host SRC_HOST_FRAME_ERR.s : List Nat) → t.word adr = s.word adr)) ∧
  -- completes: writeReg
  (∀ (s : State) (q : BitVec 8) (a : BitVec 24) (n : BitVec 8) (d : List (BitVec 32)), regsWf s → s.hostUp = true → d.length = n.toNat → s.flag HOST_PORT_STAT_BUSY = true →
    ∃ t, exec (.writeReg q a n d (crc16 (writeRegBytes q a n d)) true) s = .next t ∧
      t.get HOST_PORT_CNT2_BUSY_DROP = satInc 0xFFFF (s.get HOST_PORT_CNT2_BUSY_DROP) ∧
      t.word 0x170100 = s.word 0x170100 ∧
      RegsHold s t ∧
      (∀ adr, adr ∉ (0x170108 :: evtRegs .host SRC_HOST_BUSY_DROP.s : List Nat) → t.word adr = s.word adr)) ∧
  -- completes: writeReg
  (∀ (s : State) (q : BitVec 8) (a : BitVec 24) (n : BitVec 8) (d : List (BitVec 32)), regsWf s → s.hostUp = true → d.length = n.toNat → s.flag HOST_PORT_STAT_BUSY = false → s.flag HOST_PORT_STAT_SEQ_VALID = true → s.get HOST_PORT_STAT_LAST_SEQ = q.toNat →
    ∃ t, exec (.writeReg q a n d (crc16 (writeRegBytes q a n d)) true) s = .next t ∧
      t.get HOST_PORT_CNT_DUP = satInc 0xFFFF (s.get HOST_PORT_CNT_DUP) ∧
      t.get HOST_PORT_STAT_LAST_STATUS = s.get HOST_PORT_STAT_LAST_STATUS % 128 + 128 ∧
      t.get HOST_PORT_STAT_LAST_SEQ = q.toNat ∧
      RegsOnly s t ∧
      (∀ adr, adr ∉ ([0x170100, 0x170104] : List Nat) → t.word adr = s.word adr))

/-- A valid register write frame with a new SEQ is recorded and its words are executed in ascending address order; a memory write frame within BANK_HOST stores exactly its bytes; HOST_WRITE_COMPLETE ends the execution with the STATUS of R535 and, where a word failed, FIRST holds its index. It says of each of these that it completes with its own effect, exec answering the next state told, under hypotheses on the state and the operands alone: writeReg, writeMem, hostWriteComplete. (R531, R533, R535, R492) -/
def Obligations.QspiWriteFramesAreExecuted : Prop :=
  (∀ (s : State) (q : BitVec 8) (a : BitVec 24) (n : BitVec 8) (d : List (BitVec 32)), s.hostUp = true → d.length = n.toNat →
    1 ≤ n.toNat → n.toNat ≤ 64 → a.toNat % 4 = 0 → s.flag HOST_PORT_STAT_BUSY = false →
    (s.flag HOST_PORT_STAT_SEQ_VALID = false ∨ s.get HOST_PORT_STAT_LAST_SEQ ≠ q.toNat) →
    exec (.writeReg q a n d (crc16 (writeRegBytes q a n d)) true) s = .next (State.runWords
      { (((s.set HOST_PORT_STAT_LAST_SEQ q.toNat).set HOST_PORT_STAT_SEQ_VALID 1).set HOST_PORT_STAT_BUSY 1) with
        port := { s.port with todo := [], waiting := none, outcomes := [] } }
      ((List.range n.toNat).map (fun i => (i, (a.toNat + 4 * i) % 2 ^ 24, d.getD i 0#32))))) ∧
  -- completes: writeReg
  (∀ (s : State) (q : BitVec 8) (v : BitVec 32), regsWf s → s.hostUp = true → s.flag HOST_PORT_STAT_BUSY = false → (s.flag HOST_PORT_STAT_SEQ_VALID = false ∨ s.get HOST_PORT_STAT_LAST_SEQ ≠ q.toNat) →
    ∃ t, exec (.writeReg q 0x170400#24 1#8 [v] (crc16 (writeRegBytes q 0x170400#24 1#8 [v])) true) s = .next t ∧
      t.word 0x170400 = v ∧
      t.get HOST_PORT_STAT_LAST_SEQ = q.toNat ∧
      t.flag HOST_PORT_STAT_SEQ_VALID = true ∧
      t.flag HOST_PORT_STAT_BUSY = true ∧
      t.port.outcomes = [(ST_OK, 0)] ∧
      t = { s with regs := t.regs, port := t.port } ∧
      (∀ adr, adr ∉ ([0x170100, 0x170400] : List Nat) → t.word adr = s.word adr)) ∧
  -- completes: writeMem
  (∀ (s : State) (q : BitVec 8) (a : BitVec 24) (n : BitVec 16) (d : List (BitVec 8)), regsWf s → memWf s → s.hostUp = true → d.length = n.toNat → 4 ≤ n.toNat → n.toNat ≤ 256 → n.toNat % 4 = 0 → a.toNat % 4 = 0 → 0x500000 ≤ a.toNat → a.toNat + n.toNat ≤ 0x5C0000 → s.flag HOST_PORT_STAT_BUSY = false → (s.flag HOST_PORT_STAT_SEQ_VALID = false ∨ s.get HOST_PORT_STAT_LAST_SEQ ≠ q.toNat) →
    ∃ t, exec (.writeMem q a n d (crc16 (writeMemBytes q a n d)) true false) s = .next t ∧
      (∀ i, i < n.toNat → t.byte (a.toNat + i) = d.getD i 0#8) ∧
      t.get HOST_PORT_STAT_LAST_SEQ = q.toNat ∧
      t.flag HOST_PORT_STAT_SEQ_VALID = true ∧
      t.flag HOST_PORT_STAT_BUSY = true ∧
      (∀ c, c < a.toNat ∨ a.toNat + n.toNat ≤ c → t.byte c = s.byte c) ∧
      t = { s with regs := t.regs, mem := t.mem, poison := t.poison, port := t.port } ∧
      (∀ adr, adr ∉ ([0x170100] : List Nat) → t.word adr = s.word adr)) ∧
  -- completes: hostWriteComplete
  (∀ (s : State) (i : Nat), regsWf s → s.hostUp = true → s.flag HOST_PORT_STAT_BUSY = true → s.port.waiting = none → i < 64 → (s.port.outcomes.find? (fun (o : Nat × Nat) => o.1 != ST_OK)).map Prod.snd = some i → frameStatus s.port.outcomes = ST_REFUSED →
    ∃ t, exec .hostWriteComplete s = .next t ∧
      t.flag HOST_PORT_STAT_BUSY = false ∧
      t.get HOST_PORT_STAT_LAST_STATUS = ST_REFUSED ∧
      t.get HOST_PORT_STAT_FIRST = i ∧
      t.get HOST_PORT_STAT_LAST_SEQ = s.get HOST_PORT_STAT_LAST_SEQ ∧
      t = { s with regs := t.regs, port := t.port } ∧
      (∀ adr, adr ∉ ([0x170100] : List Nat) → t.word adr = s.word adr)) ∧
  -- completes: hostWriteComplete
  (∀ (s : State), regsWf s → s.hostUp = true → s.flag HOST_PORT_STAT_BUSY = true → s.port.waiting = none → s.port.outcomes.all (fun (o : Nat × Nat) => o.1 == ST_OK) = true →
    ∃ t, exec .hostWriteComplete s = .next t ∧
      t.flag HOST_PORT_STAT_BUSY = false ∧
      t.get HOST_PORT_STAT_LAST_STATUS = ST_OK ∧
      t.get HOST_PORT_STAT_LAST_SEQ = s.get HOST_PORT_STAT_LAST_SEQ ∧
      t = { s with regs := t.regs, port := t.port, fresh := t.fresh } ∧
      (∀ adr, adr ∉ ([0x170100] : List Nat) → t.word adr = s.word adr))

/-- RW: HOST_IRQ_MAP takes the written value. RWL: SYS_CYC_TIMING takes it while SYS is disabled; while SYS is enabled a changed field keeps its value and SYS_CHK records LOCKED, and an unchanged value is accepted and records nothing. RO: SYS_CYC_NUM is unchanged and nothing is recorded. W1C: the written ones clear in SYS_STATUS. RWS: METR_CFG with the switches closed keeps its value and METR_CHK records SEAL_CLOSED. It says of each of these that it completes with its own effect, exec answering the next state told, under hypotheses on the state and the operands alone: registerWrite. (R7) -/
def Obligations.RegisterWritesFollowTheAccessCodes : Prop :=
  -- completes: registerWrite
  (∀ (s : State) (v : BitVec 32), regsWf s → s.hostUp = true →
    ∃ t, exec (.registerWrite 0x170400#24 v) s = .next t ∧
      t.word 0x170400 = v ∧
      RegsOnly s t ∧
      (∀ adr, adr ∉ ([0x170400] : List Nat) → t.word adr = s.word adr)) ∧
  -- completes: registerWrite
  (∀ (s : State) (v : BitVec 32), regsWf s → s.hostUp = true → s.en .sys = false →
    ∃ t, exec (.registerWrite 0x000104#24 v) s = .next t ∧
      t.word 0x000104 = v ∧
      RegsOnly s t ∧
      (∀ adr, adr ∉ ([0x000104] : List Nat) → t.word adr = s.word adr)) ∧
  (∀ (s : State) (v : BitVec 32), regsWf s → s.hostUp = true → s.en .sys = true → s.get SYS_CYC_TIMING_SAMPLE_OFS ≠ v.toNat % 0x10000 → s.get SYS_CYC_TIMING_APPLY_LEAD ≠ v.toNat / 0x10000 →
    ∃ t, exec (.registerWrite 0x000104#24 v) s = .next t ∧
      t.get (CHK_REASON .sys) = LOCKED ∧
      t.get (CHK_UNIT .sys) = 0x01 ∧
      t.get (CHK_OFFSET .sys) = 0x04 ∧
      RegsOnly s t ∧
      (∀ adr, adr ∉ (refuseRegs .sys : List Nat) → t.word adr = s.word adr)) ∧
  -- completes: registerWrite
  (∀ (s : State) (v : BitVec 32), regsWf s → s.hostUp = true → v = s.word 0x000104 →
    ∃ t, exec (.registerWrite 0x000104#24 v) s = .next t ∧
      RegsOnly s t ∧
      (∀ adr, t.word adr = s.word adr)) ∧
  -- completes: registerWrite
  (∀ (s : State) (v : BitVec 32), regsWf s → s.hostUp = true →
    ∃ t, exec (.registerWrite 0x000108#24 v) s = .next t ∧
      RegsOnly s t ∧
      (∀ adr, t.word adr = s.word adr)) ∧
  -- completes: registerWrite
  (∀ (s : State) (v : BitVec 32), regsWf s → s.hostUp = true →
    ∃ t, exec (.registerWrite 0x000004#24 v) s = .next t ∧
      t.get (STATUS_EVT .sys) = s.get (STATUS_EVT .sys) &&& (0xFFFF - v.toNat % 0x10000) ∧
      RegsOnly s t ∧
      (∀ adr, adr ∉ ([0x000004] : List Nat) → t.word adr = s.word adr)) ∧
  (∀ (s : State) (v : BitVec 32), regsWf s → s.hostUp = true → s.get SEAL_SW_STATE ≠ SW_OPEN → fieldOf (s.word 0x0B1100) 0 16 ≠ v.toNat % 0x10000 →
    ∃ t, exec (.registerWrite 0x0B1100#24 v) s = .next t ∧
      t.get (CHK_REASON .metr) = 0x0B05 ∧
      RegsOnly s t ∧
      (∀ adr, adr ∉ (refuseRegs .metr : List Nat) → t.word adr = s.word adr))

/-- A borrow of the next group, with one faulty tile found, records its bank and tile number, poisons the tile and changes no byte; a clean borrow leaves bytes, poison and the fault register; an abandoned borrow is counted; every other register but the test's place and the event's own stands. The refresh of a poisoned MRAM tile raises MRAM_FAIL, and of a good tile changes nothing. It says of each of these that it completes with its own effect, exec answering the next state told, under hypotheses on the state and the operands alone: bistBorrow, bistAbandon, mramRefresh. (R497, R498, R499, R503) -/
def Obligations.MemoryTestBorrowsGroups : Prop :=
  -- completes: bistBorrow
  (∀ (s : State) (f : Fin 128) (b : Nat) (g : Nat) (w : Bool), regsWf s → s.pwr.coreUp = true → s.bistRuns = true → s.bistNext = some ((b, g), w) → b < 4 → g < 1024 →
    ∃ t, exec (.bistBorrow [f]) s = .next t ∧
      t.get MEM_BIST_FAULT_BANK = b ∧
      t.get MEM_BIST_FAULT_FAULT_TILE = g * 128 + f.val ∧
      t.poison.contains ((banks.getD b ⟨0, 0⟩).base / 32 + g * 128 + f.val) = true ∧
      t.mem = s.mem ∧
      t = { s with regs := t.regs, poison := t.poison, memst := t.memst, pwr := { s.pwr with holdCopy := t.pwr.holdCopy }, cap := { s.cap with force := t.cap.force } } ∧
      (∀ adr, adr ∉ ([0x15000C, 0x15010C, 0x15020C, 0x15030C, 0x151104, 0x151108] ++ evtRegs .mem SRC_MEM_TILE_FAULT.s : List Nat) → t.word adr = s.word adr)) ∧
  -- completes: bistBorrow
  (∀ (s : State) (p : (Nat × Nat) × Bool), regsWf s → s.pwr.coreUp = true → s.bistRuns = true → s.bistNext = some p →
    ∃ t, exec (.bistBorrow []) s = .next t ∧
      t.poison = s.poison ∧
      t.mem = s.mem ∧
      t.word 0x151108 = s.word 0x151108 ∧
      t = { s with regs := t.regs, memst := t.memst } ∧
      (∀ adr, adr ∉ ([0x15000C, 0x15010C, 0x15020C, 0x15030C, 0x151104] : List Nat) → t.word adr = s.word adr)) ∧
  -- completes: bistAbandon
  (∀ (s : State) (p : (Nat × Nat) × Bool), regsWf s → s.pwr.coreUp = true → s.bistRuns = true → s.bistNext = some p →
    ∃ t, exec .bistAbandon s = .next t ∧
      t.get MEM_BIST_STAT_ABANDON = satInc 0xFFFF (s.get MEM_BIST_STAT_ABANDON) ∧
      t.poison = s.poison ∧
      t.mem = s.mem ∧
      t = { s with regs := t.regs, memst := t.memst, pwr := t.pwr } ∧
      (∀ adr, adr ∉ ([0x15000C, 0x15010C, 0x15020C, 0x15030C, 0x151104] ++ evtRegs .mem SRC_MEM_BIST_ABANDON.s : List Nat) → t.word adr = s.word adr)) ∧
  -- completes: mramRefresh
  (∀ (s : State) (k : Fin 16384), regsWf s → s.pwr.aonUp = true → s.poison.contains (MRAM / 32 + k.val) = true →
    ∃ t, exec (.mramRefresh k) s = .next t ∧
      t.get ⟨ctrlAddr .mem 0x04, 0, 0, SRC_MEM_MRAM_FAIL.s, 1⟩ = 1 ∧
      t.get (EVT_LAST_UNIT .mem) = 4 ∧
      t.poison = s.poison ∧
      RegsHold s t ∧
      (∀ adr, adr ∉ ([0x150404, 0x150408] ++ evtRegs .mem SRC_MEM_POISON.s ++ evtRegs .mem SRC_MEM_MRAM_FAIL.s : List Nat) → t.word adr = s.word adr)) ∧
  (∀ (s : State) (k : Fin 16384), s.poison.contains (MRAM / 32 + k.val) = false →
    ∃ t, exec (.mramRefresh k) s = .next t ∧
      t = s)

/-- A step of TIME while nothing gates sets the counter whole, drops the pending correction, raises STEPPED and counts the step; an offset within JUMP_THR under a host source replaces the pending correction; a frequency adjustment under a host source is taken; the end of a slew moves the counter by what was pending and clears SLEWING; the RTC takes the counter while LOCKED or MASTER. It says of each of these that it completes with its own effect, exec answering the next state told, under hypotheses on the state and the operands alone: timeStepWrite, ofsRequest, freqAdjWrite, phaseSlewDone, rtcRealign. (R115, R116, R119, R120) -/
def Obligations.HostCorrectionsOfNetworkTime : Prop :=
  -- completes: timeStepWrite
  (∀ (s : State) (v : BitVec 32), regsWf s → s.pwr.coreUp = true → s.gating = false → s.pstate ≠ PRIME → s.running = false → s.capLive = false → s.pwr.mramBad = [] → s.get SEAL_LOG_NEXT_SEQ < 1024 →
    ∃ t, exec (.timeStepWrite v) s = .next t ∧
      t.time.tai = (((sparseFind 0x040120 s.pairs.lowWritten).getD 0#32).toNat + v.toNat * 2 ^ 32) * 2 ^ 32 ∧
      t.time.pending = 0 ∧
      t.time.steps = s.time.steps + 1 ∧
      t.flag TIME_SYNC_STAT_SLEWING = false ∧
      t.get ⟨ctrlAddr .time 0x04, 0, 0, SRC_TIME_STEPPED.s, 1⟩ = 1 ∧
      t.get SEAL_LOG_NEXT_SEQ = s.get SEAL_LOG_NEXT_SEQ + 1 ∧
      (∀ a, a < MRAM + 0x68000 → t.byte a = s.byte a) ∧
      t = { s with regs := t.regs, time := t.time, pwr := t.pwr, mem := t.mem, poison := t.poison } ∧
      (∀ adr, adr ∉ ([0x040128, 0x190300, 0x190310, 0x190314, 0x190318, 0x19031C] ++ evtRegs .time SRC_TIME_STEPPED.s : List Nat) → t.word adr = s.word adr)) ∧
  -- completes: ofsRequest
  (∀ (s : State) (v : BitVec 32), regsWf s → s.pwr.coreUp = true → s.get TIME_SLEW_CFG_SRC = 2 → v.toInt.natAbs ≤ s.get TIME_SLEW_CFG_JUMP_THR →
    ∃ t, exec (.ofsRequest v) s = .next t ∧
      t.time.pending = -v.toInt * 2 ^ 32 ∧
      t.flag TIME_SYNC_STAT_SLEWING = decide (v.toInt ≠ 0) ∧
      t.time = { s.time with pending := t.time.pending } ∧
      t = { s with regs := t.regs, time := t.time } ∧
      (∀ adr, adr ∉ ([0x040128] : List Nat) → t.word adr = s.word adr)) ∧
  (∀ (s : State) (v : BitVec 32), regsWf s → s.pwr.coreUp = true → s.get TIME_SLEW_CFG_SRC = 2 → s.get TIME_SLEW_CFG_JUMP_THR < v.toInt.natAbs →
    ∃ t, exec (.ofsRequest v) s = .next t ∧
      t.get (CHK_REASON .time) = 0x0420 ∧
      t.get (CHK_UNIT .time) = 0x01 ∧
      t.get (CHK_OFFSET .time) = 0x1C ∧
      RegsOnly s t ∧
      (∀ adr, adr ∉ (refuseRegs .time : List Nat) → t.word adr = s.word adr)) ∧
  -- completes: freqAdjWrite
  (∀ (s : State) (v : BitVec 32), regsWf s → s.pwr.coreUp = true → s.get TIME_SLEW_CFG_SRC = 2 →
    ∃ t, exec (.freqAdjWrite v) s = .next t ∧
      t.word 0x040114 = v ∧
      RegsOnly s t ∧
      (∀ adr, adr ∉ ([0x040114] : List Nat) → t.word adr = s.word adr)) ∧
  -- completes: phaseSlewDone
  (∀ (s : State), regsWf s → s.pwr.coreUp = true → s.get TIME_SLEW_CFG_SRC ≠ 0 →
    ∃ t, exec .phaseSlewDone s = .next t ∧
      t.time = { s.time with pending := 0, tai := (s.time.tai + s.time.pending).toNat } ∧
      t.flag TIME_SYNC_STAT_SLEWING = false ∧
      t = { s with regs := t.regs, time := t.time } ∧
      (∀ adr, adr ∉ ([0x040128] : List Nat) → t.word adr = s.word adr)) ∧
  -- completes: rtcRealign
  (∀ (s : State), s.pwr.coreUp = true → (s.get TIME_SYNC_STAT_STATE = LOCKED_ST ∨ s.get TIME_SYNC_STAT_STATE = MASTER) →
    ∃ t, exec .rtcRealign s = .next t ∧
      t = { s with pwr := { s.pwr with rtc := s.time.tai } })

/-- As slave: a one-step Sync, or the Follow_Up of the same two-step Sync, whose offset lies within JUMP_THR replaces the pending correction by minus the offset and shows it in TIME_OFS_LAST; a two-step Sync waits for its Follow_Up; Delay_Resp and Pdelay_Resp of the outstanding request set TIME_MPD to half the round trip, corrected. It says of each of these that it completes with its own effect, exec answering the next state told, under hypotheses on the state and the operands alone: ptpSyncRx, ptpFollowUpRx, ptpDelayRespRx, ptpPdelayRespRx. (R116, R117, R122, R125) -/
def Obligations.PtpSlaveCorrectsItsClock : Prop :=
  -- completes: ptpSyncRx
  (∀ (s : State) (m : PtpSync) (o : Int), regsWf s → s.pwr.coreUp = true → s.slave = true → s.ptpMine m.port m.domain m.udp m.plain = true → s.time.master.map (·.src) = some m.src → m.twoStep = false → o = s.rxStamp m.port - m.origin.toNat - m.corr - (s.get TIME_MPD_MPD : Nat) → o.natAbs ≤ s.get TIME_SLEW_CFG_JUMP_THR →
    ∃ t, exec (.ptpSyncRx m) s = .next t ∧
      t.time.pending = -o * 2 ^ 32 ∧
      t.geti TIME_OFS_LAST_OFS = o ∧
      t.flag TIME_SYNC_STAT_SLEWING = decide (o ≠ 0) ∧
      t.time.tai = s.time.tai ∧
      t = { s with regs := t.regs, time := t.time } ∧
      (∀ adr, adr ∉ ([0x040114, 0x040128, 0x04012C] : List Nat) → t.word adr = s.word adr)) ∧
  -- completes: ptpSyncRx
  (∀ (s : State) (m : PtpSync), s.pwr.coreUp = true → s.slave = true → s.ptpMine m.port m.domain m.udp m.plain = true → s.time.master.map (·.src) = some m.src → m.twoStep = true →
    ∃ t, exec (.ptpSyncRx m) s = .next t ∧
      t = { s with time := { s.time with sync := some (m.src.toNat, m.seq.toNat, s.rxStamp m.port, m.corr) } }) ∧
  -- completes: ptpFollowUpRx
  (∀ (s : State) (m : PtpFollowUp) (t2 : Int) (c : Int) (o : Int), regsWf s → s.pwr.coreUp = true → s.slave = true → s.ptpMine m.port m.domain m.udp m.plain = true → s.time.sync = some (m.src.toNat, m.seq.toNat, t2, c) → o = t2 - m.origin.toNat - c - m.corr - (s.get TIME_MPD_MPD : Nat) → o.natAbs ≤ s.get TIME_SLEW_CFG_JUMP_THR →
    ∃ t, exec (.ptpFollowUpRx m) s = .next t ∧
      t.time.pending = -o * 2 ^ 32 ∧
      t.geti TIME_OFS_LAST_OFS = o ∧
      t.time.sync = none ∧
      t.time.tai = s.time.tai ∧
      t = { s with regs := t.regs, time := t.time } ∧
      (∀ adr, adr ∉ ([0x040114, 0x040128, 0x04012C] : List Nat) → t.word adr = s.word adr)) ∧
  -- completes: ptpDelayRespRx
  (∀ (s : State) (m : PtpDelayResp) (t3 : Int) (d : Int), regsWf s → s.pwr.coreUp = true → s.slave = true → s.ptpMine m.port m.domain m.udp m.plain = true → m.toUs = true → s.time.master.map (·.src) = some m.src → s.time.lastT21 = some d → s.flag TIME_PTP_CFG_DELAY = false → s.time.req = some (m.seq.toNat, t3) →
    ∃ t, exec (.ptpDelayRespRx m) s = .next t ∧
      t.get TIME_MPD_MPD = (rdiv (d + ((m.receive.toNat : Int) - t3 - m.corr)) 2).toNat % 2 ^ 32 ∧
      t.time = { s.time with req := none } ∧
      t = { s with regs := t.regs, time := t.time } ∧
      (∀ adr, adr ∉ ([0x040130] : List Nat) → t.word adr = s.word adr)) ∧
  -- completes: ptpPdelayRespRx
  (∀ (s : State) (m : PtpPdelayResp) (t1 : Int), regsWf s → s.pwr.coreUp = true → s.ptpMine m.port m.domain m.udp m.plain = true → m.toUs = true → s.flag TIME_PTP_CFG_DELAY = true → s.time.req = some (m.seq.toNat, t1) →
    ∃ t, exec (.ptpPdelayRespRx m) s = .next t ∧
      t.get TIME_MPD_MPD = (rdiv ((s.rxStamp m.port - t1) - ((m.transmit.toNat : Int) - m.receive.toNat) - m.corr) 2).toNat % 2 ^ 32 ∧
      t.time = { s.time with req := none } ∧
      t = { s with regs := t.regs, time := t.time } ∧
      (∀ adr, adr ∉ ([0x040130] : List Nat) → t.word adr = s.word adr))

/-- As master over a sending MAC: a Delay_Req is answered with its receive time stamp, Sync and Announce leave with rising sequence numbers; under P2P a Pdelay_Req is answered with both time stamps; as slave a Delay_Req leaves and its transmit time is kept. An Announce of the PTP time scale with no master selected selects its sender, and the receipt timeout of an only-slave without backup ends in HOLDOVER. No other register changes. It says of each of these that it completes with its own effect, exec answering the next state told, under hypotheses on the state and the operands alone: ptpDelayReqRx, ptpPdelayReqRx, ptpSyncSend, ptpAnnounceSend, ptpDelayReqSend, ptpAnnounceRx, announceTimeout. (R121, R122, R123, R124) -/
def Obligations.PtpMessagesAreAnsweredAndSent : Prop :=
  -- completes: ptpDelayReqRx
  (∀ (s : State) (m : PtpReq), s.pwr.coreUp = true → s.isMaster = true → s.ptpMine m.port m.domain m.udp m.plain = true → s.macSends m.port = true → s.flag TIME_PTP_CFG_DELAY = false →
    ∃ t, exec (.ptpDelayReqRx m) s = .next t ∧
      t = { s with time := { s.time with sent := [⟨9, s.flag TIME_SYNC_STAT_PORT_ACT, m.seq.toNat, (s.rxStamp m.port).toNat, 0, []⟩] } }) ∧
  -- completes: ptpPdelayReqRx
  (∀ (s : State) (m : PtpReq), s.pwr.coreUp = true → s.ptpMine m.port m.domain m.udp m.plain = true → s.macSends m.port = true → s.flag TIME_PTP_CFG_DELAY = true → s.get TIME_PTP_CFG_ROLE ≠ 0 →
    ∃ t, exec (.ptpPdelayReqRx m) s = .next t ∧
      t = { s with time := { s.time with sent := [⟨3, s.flag TIME_SYNC_STAT_PORT_ACT, m.seq.toNat, (s.rxStamp m.port).toNat, 0, []⟩, ⟨10, s.flag TIME_SYNC_STAT_PORT_ACT, m.seq.toNat, 0, (s.txStamp m.port).toNat, []⟩] } }) ∧
  -- completes: ptpSyncSend
  (∀ (s : State), s.pwr.coreUp = true → s.isMaster = true → s.macSends (s.flag TIME_SYNC_STAT_PORT_ACT) = true →
    ∃ t, exec .ptpSyncSend s = .next t ∧
      t = { s with time := { s.time with sent := [⟨0, s.flag TIME_SYNC_STAT_PORT_ACT, s.time.syncSeq, 0, 0, []⟩, ⟨8, s.flag TIME_SYNC_STAT_PORT_ACT, s.time.syncSeq, (s.txStamp (s.flag TIME_SYNC_STAT_PORT_ACT)).toNat, 0, []⟩], syncSeq := (s.time.syncSeq + 1) % 65536 } }) ∧
  -- completes: ptpAnnounceSend
  (∀ (s : State), s.pwr.coreUp = true → s.isMaster = true → s.macSends (s.flag TIME_SYNC_STAT_PORT_ACT) = true →
    ∃ t, exec .ptpAnnounceSend s = .next t ∧
      t = { s with time := { s.time with sent := [⟨11, s.flag TIME_SYNC_STAT_PORT_ACT, s.time.annSeq, 0, 0, s.ownRank⟩], annSeq := (s.time.annSeq + 1) % 65536 } }) ∧
  -- completes: ptpDelayReqSend
  (∀ (s : State), s.pwr.coreUp = true → s.slave = true → s.macSends (s.flag TIME_SYNC_STAT_PORT_ACT) = true → s.flag TIME_PTP_CFG_DELAY = false →
    ∃ t, exec .ptpDelayReqSend s = .next t ∧
      t = { s with time := { s.time with sent := [⟨1, s.flag TIME_SYNC_STAT_PORT_ACT, s.time.reqSeq, (s.txStamp (s.flag TIME_SYNC_STAT_PORT_ACT)).toNat, 0, []⟩], req := some (s.time.reqSeq, s.txStamp (s.flag TIME_SYNC_STAT_PORT_ACT)), reqSeq := (s.time.reqSeq + 1) % 65536 } }) ∧
  -- completes: ptpAnnounceRx
  (∀ (s : State) (a : PtpAnnounce), regsWf s → s.pwr.coreUp = true → s.ptpTaken a.domain a.udp a.plain = true → s.get TIME_SLEW_CFG_SRC = 1 → s.get TIME_PTP_CFG_ROLE = 1 → a.ptpScale = true → a.port = s.flag TIME_SYNC_STAT_PORT_ACT → s.time.master = none →
    ∃ t, exec (.ptpAnnounceRx a) s = .next t ∧
      t.get TIME_SYNC_STAT_STATE = ACQUIRING ∧
      t.get64 TIME_PTP_GM_ID = a.gm.toNat ∧
      t.get TIME_SYNC_STAT_UTC_OFS = a.utcOffset.toNat ∧
      t.flag TIME_SYNC_STAT_UTC_VALID = a.utcValid ∧
      t.time.master = some a ∧
      t.get ⟨ctrlAddr .time 0x04, 0, 0, SRC_TIME_MASTER_CHANGE.s, 1⟩ = 1 ∧
      t.time.tai = s.time.tai ∧
      t = { s with regs := t.regs, time := t.time, pwr := t.pwr } ∧
      (∀ adr, adr ∉ ([0x040128, 0x040214, 0x040218] ++ evtRegs .time SRC_TIME_MASTER_CHANGE.s : List Nat) → t.word adr = s.word adr)) ∧
  -- completes: announceTimeout
  (∀ (s : State), regsWf s → s.pwr.coreUp = true → s.en .time = true → s.get TIME_SLEW_CFG_SRC = 1 → s.get TIME_PTP_CFG_ROLE = 1 → s.get TIME_SYNC_STAT_STATE ≠ MASTER → s.flag TIME_PTP_CFG_BACKUP = false → s.get TIME_SYNC_STAT_STATE ≠ HOLDOVER →
    ∃ t, exec .announceTimeout s = .next t ∧
      t.get TIME_SYNC_STAT_STATE = HOLDOVER ∧
      t.time.master = none ∧
      t.get ⟨ctrlAddr .time 0x04, 0, 0, SRC_TIME_MASTER_LOST.s, 1⟩ = 1 ∧
      t.time.tai = s.time.tai ∧
      t = { s with regs := t.regs, time := t.time, pwr := t.pwr } ∧
      (∀ adr, adr ∉ ([0x040128] ++ evtRegs .time SRC_TIME_MASTER_LOST.s : List Nat) → t.word adr = s.word adr))

/-- The always-on domain leaves reset with FAULT_N forced low; the restore of the held faults releases it, with the copy or with every block held and RESTORE_ERR; the control die leaves reset into WAKE with TIME loaded from the RTC and PLL_A on the boot band; a warm reset goes to WAKE, keeps memory and SYS_FAULT_HOLD and returns every register outside the kept bits to its reset value; a cold reset returns them too and leaves only MRAM of the memory. It says of each of these that it completes with its own effect, exec answering the next state told, under hypotheses on the state and the operands alone: aonPorRelease, faultHoldRestore, coreResetRelease, warmReset, coldReset. (R38, R39, R40, R57, R108) -/
def Obligations.ResetsReturnTheDevice : Prop :=
  -- completes: aonPorRelease
  (∀ (s : State), regsWf s → s.pwr.aonUp = false → s.pins.rails.contains .vaon = true →
    ∃ t, exec .aonPorRelease s = .next t ∧
      t.pwr = { s.pwr with aonUp := true, faultForced := true } ∧
      t.faultN = false ∧
      t.flag SYS_AON_STAT_XTAL_OK = !s.flag SYS_AON_STAT_ON_RC ∧
      t = { s with regs := t.regs, pwr := t.pwr } ∧
      (∀ adr, adr ∉ ([0x000208] : List Nat) → t.word adr = s.word adr)) ∧
  -- completes: faultHoldRestore
  (∀ (s : State), regsWf s → s.pwr.faultForced = true →
    ∃ t, exec (.faultHoldRestore true) s = .next t ∧
      t.get SYS_FAULT_HOLD_HOLD = s.pwr.holdCopy % 2 ^ 27 ∧
      t.flag SYS_FAULT_HOLD_RESTORE_ERR = false ∧
      t.pwr = { s.pwr with faultForced := false } ∧
      t = { s with regs := t.regs, pwr := t.pwr } ∧
      (∀ adr, adr ∉ ([0x000214] : List Nat) → t.word adr = s.word adr)) ∧
  -- completes: faultHoldRestore
  (∀ (s : State), regsWf s → s.pwr.faultForced = true →
    ∃ t, exec (.faultHoldRestore false) s = .next t ∧
      t.get SYS_FAULT_HOLD_HOLD = 0x7FFFFFF ∧
      t.flag SYS_FAULT_HOLD_RESTORE_ERR = true ∧
      t.pwr.faultForced = false ∧
      t = { s with regs := t.regs, pwr := t.pwr } ∧
      (∀ adr, adr ∉ ([0x000214] : List Nat) → t.word adr = s.word adr)) ∧
  -- completes: coreResetRelease
  (∀ (s : State), regsWf s → s.pwr.coreUp = false → s.pwr.dormant = false → s.coreReady = true → s.pwr.heartbeat = false →
    ∃ t, exec .coreResetRelease s = .next t ∧
      t.pstate = WAKE ∧
      t.pwr = { s.pwr with coreUp := true } ∧
      t.time = { s.time with tai := s.rtcTime } ∧
      t.pllA = ⟨true, true, none⟩ ∧
      t.flag CLK_PLL_STAT_LOCKED = false ∧
      t.flag PART_STAT_PAIR_ID = s.pins.pairId ∧
      t = { s with regs := t.regs, pwr := t.pwr, time := t.time, pllA := t.pllA } ∧
      (∀ adr, adr ∉ ([0x000200, 0x010104, 0x160204] : List Nat) → t.word adr = s.word adr)) ∧
  -- completes: warmReset
  (∀ (s : State), regsWf s → s.pwr.aonUp = true → s.coreReady = true →
    ∃ t, exec .warmReset s = .next t ∧
      t.pstate = WAKE ∧
      t.get SYS_PWR_STATE_LAST_WAKE = 3 ∧
      t.pwr.coreUp = true ∧
      t.pwr.dormant = false ∧
      t.pllA = ⟨true, true, none⟩ ∧
      t.mem = s.mem ∧
      t.poison = s.poison ∧
      t.pins = s.pins ∧
      t.word 0x000214 = s.word 0x000214 ∧
      t.pwr.holdCopy = s.pwr.holdCopy ∧
      (∀ a, keptBits a = 0 → a ∉ ([0x000200, 0x010104, 0x160204] : List Nat) → t.word a = resetWord a)) ∧
  -- completes: coldReset
  (∀ (s : State), regsWf s →
    ∃ t, exec .coldReset s = .next t ∧
      t.pwr.aonUp = false ∧
      t.pwr.coreUp = false ∧
      t.pins.rails = s.pins.rails.filter (· != .vaon) ∧
      t.pwr.holdCopy = s.pwr.holdCopy ∧
      (∀ a, coldBits a = 0 → a ∉ ([] : List Nat) → t.word a = resetWord a) ∧
      (∀ a, a < MRAM → t.byte a = unwritten) ∧
      (memWf s → ∀ a, MRAM ≤ a → t.byte a = s.byte a))

/-- A falling core rail resets the control die and keeps memory; V5A falling de-energises every output; a rising rail other than VIO18 and V5A only counts as present; the loss of the crystal is counted and raised, its return recorded; TEST_EN high holds the control die in reset with every output off; with the control die in reset no command whose effect is in its logic changes anything; the loss of the heartbeat takes a running axis to INHIBITED and de-energises each output whose LOSS field is 0; the pulse of a LOSS = 2 output ends. It says of each of these that it completes with its own effect, exec answering the next state told, under hypotheses on the state and the operands alone: railUvFall, railUvRise, xtalLoss, xtalReturn, testEnChange, heartbeatLoss, lossPulseEnd. (R31, R37, R38, R41, R61, R476) -/
def Obligations.RailsClockAndPinsAct : Prop :=
  -- completes: railUvFall
  (∀ (s : State) (r : Rail), regsWf s → coreRails.contains r = true → s.pins.rails.contains r = true → s.pwr.coreUp = true →
    ∃ t, exec (.railUvFall r) s = .next t ∧
      t.pwr.coreUp = false ∧
      t.pwr.heartbeat = false ∧
      t.pins.rails = s.pins.rails.filter (· != r) ∧
      t.mem = s.mem ∧
      t.pstate = WAKE ∧
      t.word 0x000214 = s.word 0x000214 ∧
      (∀ a, keptBits a = 0 → a ∉ ([0x000200] : List Nat) → t.word a = resetWord a)) ∧
  -- completes: railUvFall
  (∀ (s : State), regsWf s → s.pins.rails.contains .v5a = true →
    ∃ t, exec (.railUvFall .v5a) s = .next t ∧
      ∀ o ∈ List.range 40, t.flag CTC_OSTAT_ENERGISED o = false ∧
      t.pins.rails = s.pins.rails.filter (· != .v5a) ∧
      t.mem = s.mem ∧
      t.pstate = s.pstate) ∧
  -- completes: railUvRise
  (∀ (s : State) (r : Rail), s.pins.rails.contains r = false → r ≠ .vio18 → r ≠ .v5a → r ≠ .vdrv →
    ∃ t, exec (.railUvRise r) s = .next t ∧
      t = { s with pins := { s.pins with rails := s.pins.rails ++ [r] } }) ∧
  -- completes: railUvRise
  (∀ (s : State), regsWf s → s.pins.rails.contains .vdrv = false → s.fieldUp = true →
    ∃ t, exec (.railUvRise .vdrv) s = .next t ∧
      t.pins = { s.pins with rails := s.pins.rails ++ [.vdrv] } ∧
      t.flag GDRV_VDRV_UV = false ∧
      t = { s with regs := t.regs, pins := t.pins } ∧
      (∀ adr, adr ∉ ([GDRV_VDRV_UV.base] : List Nat) → t.word adr = s.word adr)) ∧
  -- completes: xtalLoss
  (∀ (s : State), regsWf s → s.pwr.coreUp = true → s.pwr.aonUp = true → s.flag SYS_AON_STAT_ON_RC = false →
    ∃ t, exec .xtalLoss s = .next t ∧
      t.flag SYS_AON_STAT_ON_RC = true ∧
      t.flag SYS_AON_STAT_XTAL_OK = false ∧
      t.get SYS_AON_STAT_XTAL_LOSS_CNT = satInc 0xFF (s.get SYS_AON_STAT_XTAL_LOSS_CNT) ∧
      t.get ⟨ctrlAddr SRC_SYS_XTAL_LOSS.blk 0x04, 0, 0, SRC_SYS_XTAL_LOSS.s, 1⟩ = 1 ∧
      RegsHold s t ∧
      (∀ adr, adr ∉ (0x000208 :: evtRegs .sys SRC_SYS_XTAL_LOSS.s : List Nat) → t.word adr = s.word adr)) ∧
  -- completes: xtalReturn
  (∀ (s : State), regsWf s → s.flag SYS_AON_STAT_ON_RC = true →
    ∃ t, exec .xtalReturn s = .next t ∧
      t.flag SYS_AON_STAT_ON_RC = false ∧
      t.flag SYS_AON_STAT_XTAL_OK = true ∧
      RegsOnly s t ∧
      (∀ adr, adr ∉ ([0x000208] : List Nat) → t.word adr = s.word adr)) ∧
  (∀ (s : State) (c : Instr), s.pwr.coreUp = false → coreClocked c = true → exec c s = .next s) ∧
  -- completes: testEnChange
  (∀ (s : State), regsWf s → s.pins.testEn = false →
    ∃ t, exec (.testEnChange true) s = .next t ∧
      t.pins = { s.pins with testEn := true } ∧
      t.pwr.coreUp = false ∧
      t.pwr.dormant = false ∧
      t.pwr.heartbeat = false ∧
      t.mem = s.mem ∧
      ∀ o ∈ List.range 40, t.flag CTC_OSTAT_ENERGISED o = false ∧
      (∀ a, keptBits a = 0 → a ∉ ([0x000200] : List Nat) → t.word a = resetWord a)) ∧
  -- completes: heartbeatLoss
  (∀ (s : State), regsWf s → s.pwr.heartbeat = true →
    ∃ t, exec .heartbeatLoss s = .next t ∧
      t.pwr.heartbeat = false ∧
      ∀ n ∈ List.range 4, s.get AXIS_STAT_STATE n = AX_RUN → t.get AXIS_STAT_STATE n = AX_INHIBITED ∧
      ∀ o ∈ List.range 40, s.en .ctc = true → s.flag CTC_OCFG_EN o = true → s.get CTC_OCFG_LOSS o = 0 → t.flag CTC_OSTAT_ENERGISED o = false ∧
      ∀ o ∈ List.range 40, s.en .ctc = true → s.flag CTC_OCFG_EN o = true → s.get CTC_OCFG_LOSS o = 1 → t.flag CTC_OSTAT_ENERGISED o = s.flag CTC_OSTAT_ENERGISED o ∧
      t.pstate = s.pstate ∧
      t = { s with regs := t.regs, ctc := t.ctc, pwr := t.pwr } ∧
      (∀ adr, adr ∉ ((List.range 40).map (fun o => 0x14000C + 0x100 * o) ++ (List.range 12).map (fun h => 0x110004 + 0x100 * h) ++ (List.range 4).map (fun n => 0x100024 + 0x100 * n) ++ (List.range 4).map (fun n => 0x130414 + 0x100 * n) ++ [0x131110] ++ evtRegs .axis SRC_AXIS_INHIBITED.s : List Nat) → t.word adr = s.word adr)) ∧
  -- completes: lossPulseEnd
  (∀ (s : State) (o : Fin 40), regsWf s → s.ctc.lossPulse.contains o.val = true → s.pwr.heartbeat = false →
    ∃ t, exec (.lossPulseEnd o) s = .next t ∧
      t.flag CTC_OSTAT_ENERGISED o.val = false ∧
      t.ctc = { s.ctc with lossPulse := s.ctc.lossPulse.filter (· != o.val) } ∧
      t = { s with regs := t.regs, ctc := t.ctc } ∧
      (∀ adr, adr ∉ ([0x14000C + 0x100 * o.val] : List Nat) → t.word adr = s.word adr))

/-- The WAKE ball and the RTC alarm take the device from DORMANT to WAKE and record what woke it, the alarm returning to 0; RESUME from a completed SGR with nothing severe and no function active goes to READY; RELOAD in SAFE disables every block but CLK, HOST and SEAL and begins LOAD; DORMANT from READY stops the control die, keeps memory and de-energises every output. In other states the commands are refused with STATE. It says of each of these that it completes with its own effect, exec answering the next state told, under hypotheses on the state and the operands alone: wakeBall, rtcAlarm, resume, reload, dormant. (R57, R59, R60, R91, R92) -/
def Obligations.PowerStatesAreEntered : Prop :=
  -- completes: wakeBall
  (∀ (s : State), regsWf s → s.pwr.dormant = true → s.coreReady = true → s.pwr.heartbeat = false →
    ∃ t, exec .wakeBall s = .next t ∧
      t.pstate = WAKE ∧
      t.get SYS_PWR_STATE_LAST_WAKE = 1 ∧
      t.pwr = { s.pwr with dormant := false, coreUp := true } ∧
      t.time = { s.time with tai := s.rtcTime } ∧
      t.pllA = ⟨true, true, none⟩ ∧
      t = { s with regs := t.regs, pwr := t.pwr, time := t.time, pllA := t.pllA } ∧
      (∀ adr, adr ∉ ([0x000200, 0x010104, 0x160204] : List Nat) → t.word adr = s.word adr)) ∧
  -- completes: rtcAlarm
  (∀ (s : State), regsWf s → s.pwr.dormant = true → s.alarmDue = true → s.coreReady = true → s.pwr.heartbeat = false →
    ∃ t, exec .rtcAlarm s = .next t ∧
      t.pstate = WAKE ∧
      t.get SYS_PWR_STATE_LAST_WAKE = 2 ∧
      t.get SYS_AON_ALARM_SECONDS = 0 ∧
      t.pwr = { s.pwr with dormant := false, coreUp := true } ∧
      t = { s with regs := t.regs, pwr := t.pwr, time := t.time, pllA := t.pllA } ∧
      (∀ adr, adr ∉ ([0x000200, 0x00020C, 0x010104, 0x160204] : List Nat) → t.word adr = s.word adr)) ∧
  -- completes: resume
  (∀ (s : State), regsWf s → s.pwr.coreUp = true → s.pstate = SAFE → s.get SYS_PWR_STATE_SAFE_CAUSE = 3 → s.anySevere = false → s.flag SYS_FAULT_HOLD_RESTORE_ERR = false → s.functionActive = false → s.pwr.safeDue = false →
    ∃ t, exec .resume s = .next t ∧
      t.pstate = READY ∧
      (s.en .form = true → t.get FORM_MODE_STAT_MODE = READY) ∧
      RegsOnly s t ∧
      (∀ adr, adr ∉ ([0x000200, 0x080304] : List Nat) → t.word adr = s.word adr)) ∧
  (∀ (s : State), regsWf s → s.pwr.coreUp = true → (s.pstate ≠ SAFE ∨ s.get SYS_PWR_STATE_SAFE_CAUSE = 1 ∨ s.anySevere = true ∨ s.flag SYS_FAULT_HOLD_RESTORE_ERR = true ∨ s.functionActive = true) →
    ∃ t, exec .resume s = .next t ∧
      t.get (CHK_REASON .sys) = STATE ∧
      t.get (CHK_UNIT .sys) = 0x02 ∧
      t.get (CHK_OFFSET .sys) = 0x04 ∧
      RegsOnly s t ∧
      (∀ adr, adr ∉ (refuseRegs .sys : List Nat) → t.word adr = s.word adr)) ∧
  -- completes: reload
  (∀ (s : State), regsWf s → s.pwr.coreUp = true → s.pstate = SAFE → s.flag HOST_FL_STAT_BUSY = false →
    ∃ t, exec .reload s = .next t ∧
      t.pstate = LOAD ∧
      t.get BOOT_STAT_PHASE = 0 ∧
      ∀ b ∈ allBlocks, b ∉ [Block.clk, .host, .seal] → t.en b = false ∧
      t.pwr.flashReleased = false ∧
      t.pwr.loadWait = none ∧
      t.cyc.checking = []) ∧
  -- completes: dormant
  (∀ (s : State), regsWf s → s.pwr.coreUp = true → s.pstate = READY → s.flag HOST_FL_STAT_BUSY = false → s.alarmDue = false →
    ∃ t, exec .dormant s = .next t ∧
      t.pwr.dormant = true ∧
      t.pwr.coreUp = false ∧
      t.pwr.heartbeat = false ∧
      t.mem = s.mem ∧
      ∀ o ∈ List.range 40, t.flag CTC_OSTAT_ENERGISED o = false ∧
      (∀ a, keptBits a = 0 → a ∉ ([0x000200] : List Nat) → t.word a = resetWord a))

/-- A CLK_PLL_CTRL write that R62 admits while no client runs stores its fields and tries the first matching band; with a client enabled it is refused with LOCKED; REACQ starts again with the settings held; a band entry is stored; LOL is cleared only while locked; a lock declares LOCKED and the band, and PLL_A's lock in WAKE enables CLK, HOST and SEAL and begins LOAD; a band abandoned gives way to the next. It says of each of these that it completes with its own effect, exec answering the next state told, under hypotheses on the state and the operands alone: pllCtrlWrite, pllReacq, pllBandWrite, lolClear, pllLock, pllBandTimeout. (R62, R63, R64, R65, R68, R69, R70) -/
def Obligations.PllsAreSetAndTried : Prop :=
  -- completes: pllCtrlWrite
  (∀ (s : State) (p : Fin 2) (v : BitVec 32) (b : Nat), regsWf s → s.pwr.coreUp = true → s.clientOn p.val = false → pllBad p.val (bitsOf v.toNat 0 8) (bitsOf v.toNat 8 4) = none → bitsOf v.toNat 13 1 = 1 → (s.storePll p.val v.toNat).bands p.val = b :: ((s.storePll p.val v.toNat).bands p.val).tail → s.pwr.heartbeat = false →
    ∃ t, exec (.pllCtrlWrite p v) s = .next t ∧
      t.get CLK_PLL_CTRL_FBDIV p.val = bitsOf v.toNat 0 8 ∧
      t.get CLK_PLL_CTRL_POSTDIV p.val = bitsOf v.toNat 8 4 ∧
      t.flag CLK_PLL_CTRL_PWR p.val = true ∧
      t.flag CLK_PLL_STAT_LOCKED p.val = false ∧
      t.pll p.val = ⟨true, false, some b⟩ ∧
      t.get CLK_PLL_STAT_ACQ_CNT p.val = satInc 0xFF (s.get CLK_PLL_STAT_ACQ_CNT p.val) ∧
      t = { s with regs := t.regs, pllA := t.pllA, pllB := t.pllB } ∧
      (∀ adr, adr ∉ ([0x010100 + 0x100 * p.val, 0x010104 + 0x100 * p.val] : List Nat) → t.word adr = s.word adr)) ∧
  (∀ (s : State) (p : Fin 2) (v : BitVec 32), regsWf s → s.pwr.coreUp = true → s.clientOn p.val = true →
    ∃ t, exec (.pllCtrlWrite p v) s = .next t ∧
      t.get (CHK_REASON .clk) = 0x0104 ∧
      t.get (CHK_UNIT .clk) = p.val + 1 ∧
      t.get (CHK_OFFSET .clk) = 0 ∧
      RegsOnly s t ∧
      (∀ adr, adr ∉ (refuseRegs .clk : List Nat) → t.word adr = s.word adr)) ∧
  -- completes: pllReacq
  (∀ (s : State) (p : Fin 2) (b : Nat), regsWf s → s.pwr.coreUp = true → s.clientOn p.val = false → pllBad p.val (s.get CLK_PLL_CTRL_FBDIV p.val) (s.get CLK_PLL_CTRL_POSTDIV p.val) = none → s.flag CLK_PLL_CTRL_PWR p.val = true → s.bands p.val = b :: (s.bands p.val).tail → s.pwr.heartbeat = false →
    ∃ t, exec (.pllReacq p) s = .next t ∧
      t.word (0x010100 + 0x100 * p.val) = s.word (0x010100 + 0x100 * p.val) ∧
      t.flag CLK_PLL_STAT_LOCKED p.val = false ∧
      t.pll p.val = ⟨true, false, some b⟩ ∧
      t = { s with regs := t.regs, pllA := t.pllA, pllB := t.pllB } ∧
      (∀ adr, adr ∉ ([0x010104 + 0x100 * p.val] : List Nat) → t.word adr = s.word adr)) ∧
  -- completes: pllBandWrite
  (∀ (s : State) (p : Fin 2) (b : Fin 16) (v : BitVec 32), regsWf s → s.pwr.coreUp = true → s.clientOn p.val = false → bandBad v.toNat = none → s.flag CLK_PLL_CTRL_PWR p.val = false →
    ∃ t, exec (.pllBandWrite p b v) s = .next t ∧
      t.word (0x010140 + 0x100 * p.val + 4 * b.val) = v &&& 0xBFFFFFFF#32 ∧
      t.flag CLK_PLL_STAT_LOCKED p.val = false ∧
      t.pll p.val = ⟨false, false, none⟩ ∧
      t = { s with regs := t.regs, pllA := t.pllA, pllB := t.pllB } ∧
      (∀ adr, adr ∉ ([0x010140 + 0x100 * p.val + 4 * b.val, 0x010104 + 0x100 * p.val] : List Nat) → t.word adr = s.word adr)) ∧
  -- completes: lolClear
  (∀ (s : State) (p : Fin 2), regsWf s → s.pwr.coreUp = true → s.flag CLK_PLL_STAT_LOCKED p.val = true →
    ∃ t, exec (.lolClear p) s = .next t ∧
      t.flag CLK_PLL_STAT_LOL p.val = false ∧
      t.flag CLK_PLL_STAT_LOCKED p.val = true ∧
      t.get CLK_PLL_STAT_BAND p.val = s.get CLK_PLL_STAT_BAND p.val ∧
      RegsOnly s t ∧
      (∀ adr, adr ∉ ([0x010104 + 0x100 * p.val] : List Nat) → t.word adr = s.word adr)) ∧
  -- completes: pllLock
  (∀ (s : State) (b : Nat), regsWf s → s.pwr.coreUp = true → s.pwr.dormant = false → s.flag CLK_PLL_CTRL_PWR 1 = true → s.flag CLK_PLL_STAT_LOCKED 1 = false → s.pllB.trying = some b →
    ∃ t, exec (.pllLock 1) s = .next t ∧
      t.flag CLK_PLL_STAT_LOCKED 1 = true ∧
      t.get CLK_PLL_STAT_BAND 1 = b % 16 ∧
      t.pllB = { s.pllB with acquiring := false, trying := none } ∧
      t = { s with regs := t.regs, pllB := t.pllB } ∧
      (∀ adr, adr ∉ ([0x010204] : List Nat) → t.word adr = s.word adr)) ∧
  -- completes: pllLock
  (∀ (s : State), regsWf s → s.pwr.coreUp = true → s.pwr.dormant = false → s.flag CLK_PLL_CTRL_PWR 0 = true → s.flag CLK_PLL_STAT_LOCKED 0 = false → s.pstate = WAKE →
    ∃ t, exec (.pllLock 0) s = .next t ∧
      t.flag CLK_PLL_STAT_LOCKED 0 = true ∧
      t.pstate = LOAD ∧
      t.en .clk = true ∧
      t.en .host = true ∧
      t.en .seal = true ∧
      t.get BOOT_STAT_PHASE = 0 ∧
      t.pwr.heartbeat = true ∧
      t.mem = s.mem) ∧
  -- completes: pllBandTimeout
  (∀ (s : State) (p : Fin 2) (b : Nat) (c : Nat), s.pwr.coreUp = true → (s.pll p.val).trying = some b → (s.pll p.val).acquiring = true → (s.bands p.val).find? (fun c => decide (b < c)) = some c →
    ∃ t, exec (.pllBandTimeout p) s = .next t ∧
      t = s.setPll p.val { s.pll p.val with trying := some c } ∧
      t.pll p.val = { s.pll p.val with trying := some c })

/-- A LOAD whose chosen slot passes steps 4 to 7 with PLL_A already as the image asks goes to PRIME with the image's generation, header CRC, slot and START_MODE shown; a LOAD without a flash ends in SAFE with cause load failure and reason 0x0220; a Primer whose six steps and enables pass goes to READY; a PLL_B that loses lock in READY shows LOL, records 0x0121, raises LOSS_OF_LOCK and takes the device to SAFE with cause 4. It says of each of these that it completes with its own effect, exec answering the next state told, under hypotheses on the state and the operands alone: loadSequence, primerRun, lossOfLock. (R57, R64, R66, R67, R76, R78, R79, R81) -/
def Obligations.LoadPrimerAndLossOfLock : Prop :=
  -- completes: loadSequence
  (∀ (s : State) (f : FlashImage) (slot : Nat) (s1 : State) (b : Nat), regsWf s → s.pstate = LOAD → s.pwr.coreUp = true → s.pwr.dormant = false → s.pwr.loadWait = none → chooseSlot f = some slot → State.loadSlot ((((((({ s with flash := some f } : State).set BOOT_STAT_FALLBACK 0).set BOOT_STAT_FAIL_SECTION 0).set BOOT_FLASH_SCK_MHZ 26).set BOOT_FLASH_WIDTH 0).set BOOT_FLASH_SCK_MHZ (min 104 f.sckMhz)).set BOOT_FLASH_WIDTH f.width |>.set HOST_FL_STAT_ERASE_KIB f.eraseKib) f slot = (true, s1) → s1.pllSatisfied = some b → s.pwr.safeDue = false →
    ∃ t, exec (.loadSequence (some f)) s = .next t ∧
      t.pstate = PRIME ∧
      t.get BOOT_GEN_GENERATION = imgGen (flashSlot f slot) ∧
      t.get BOOT_HDR_CRC_CRC = imgCrc (flashSlot f slot) ∧
      t.get BOOT_STAT_SLOT = slot % 2 ∧
      t.get BOOT_STAT_PHASE = 6 ∧
      t.get FORM_MODE_STAT_START_MODE = imgStart (flashSlot f slot) % 4 ∧
      t.flag CLK_PLL_CTRL_PWR 1 = true ∧
      t.flash = some f) ∧
  (∀ (s : State), regsWf s → s.pstate = LOAD → s.pwr.coreUp = true → s.pwr.dormant = false → s.pwr.loadWait = none →
    ∃ t, exec (.loadSequence none) s = .next t ∧
      t.pstate = SAFE ∧
      t.get SYS_PWR_STATE_SAFE_CAUSE = 1 ∧
      t.get BOOT_STAT_PHASE = 7 ∧
      t.pwr.flashReleased = true ∧
      t.mem = s.mem ∧
      t.get (CHK_REASON .boot) = 0x0220) ∧
  -- completes: primerRun
  (∀ (s : State) (o : PrimerObs) (p1 : State) (s1 : State) (s2 : State) (s3 : State) (s4 : State) (s5 : State) (s6 : State) (dead : List Nat), regsWf s → s.pstate = PRIME → s.pwr.coreUp = true → ((s.putWord 0x000300 0#32).set SYS_PRIMER_STAT_DURATION (min 0xFFFF o.duration)).primer1 o = (true, p1) → (p1.primerPass 1).enableAll (p1.bootBlocks false) = (true, s1) → ((s1.primer2 o).primerPass 2).primer3 o = (true, s2) → (s2.primerPass 3).primer4 o = (true, s3) → (s3.primerPass 4).primer5 o = (true, s4) → (s4.primerPass 5).primer6 o = (true, dead, s5) → s5.enableAll (s5.bootBlocks true) = (true, s6) → s6.pwr.safeDue = false → s6.get FORM_MODE_STAT_START_MODE = 0 → regsWf s6 →
    ∃ t, exec (.primerRun o) s = .next t ∧
      t.pstate = READY ∧
      t.flag ⟨SYS_PRIMER_STAT_PASS.base, 0, 0, 5, 1⟩ = true ∧
      t.cyc.startReq = s6.cyc.startReq) ∧
  -- completes: lossOfLock
  (∀ (s : State), regsWf s → s.pwr.coreUp = true → s.flag CLK_PLL_STAT_LOCKED 1 = true → s.pstate = READY →
    ∃ t, exec (.lossOfLock 1) s = .next t ∧
      t.flag CLK_PLL_STAT_LOCKED 1 = false ∧
      t.flag CLK_PLL_STAT_LOL 1 = true ∧
      t.pstate = SAFE ∧
      t.get SYS_PWR_STATE_SAFE_CAUSE = 4 ∧
      t.get (CHK_REASON .clk) = 0x0121 ∧
      t.get (CHK_UNIT .clk) = 2 ∧
      t.get ⟨ctrlAddr SRC_CLK_LOSS_OF_LOCK.blk 0x04, 0, 0, SRC_CLK_LOSS_OF_LOCK.s, 1⟩ = 1 ∧
      t.mem = s.mem)

/-- BLOCK_ENABLE of a disabled block whose required blocks are enabled resets the block's counters, begins its check and changes nothing else; with a required block disabled it resets the counters and is refused with STATE; CONFIG_CHECK_DONE sets EN when nothing refuses, and else leaves EN 0 and records the reason, unit and offset; BLOCK_DISABLE clears EN; while a dependent is enabled it is refused with STATE, as in CLK, HOST and SEAL while they are enabled (the model's choice, log entry 77). It says of each of these that it completes with its own effect, exec answering the next state told, under hypotheses on the state and the operands alone: blockEnable, configCheckDone, blockDisable. (R14, R15, R84, R88) -/
def Obligations.BlocksAreEnabledAndDisabled : Prop :=
  -- completes: blockEnable
  (∀ (s : State) (b : Block), regsWf s → s.pwr.coreUp = true → s.heldInReset b = false → s.en b = false → s.cyc.checking.contains b = false → (requires b).all (fun x => s.en x) = true →
    ∃ t, exec (.blockEnable b) s = .next t ∧
      t.cyc = { s.cyc with checking := s.cyc.checking ++ [b] } ∧
      t.en b = false ∧
      ∀ c ∈ countersOf b, ∀ u ∈ List.range c.2.1, ∀ i ∈ List.range c.2.2, t.get c.1 u i = 0 ∧
      t = { s with regs := t.regs, cyc := t.cyc } ∧
      (∀ adr, adr ∉ ((countersOf b).flatMap (fun c => (List.range c.2.1).flatMap (fun u => (List.range c.2.2).map (fun i => c.1.addr u i))) ++ (if b = .form then [FORM_BASE_VPK_V_PK.base, FORM_BASE_IPK_I_PK.base] else []) : List Nat) → t.word adr = s.word adr)) ∧
  (∀ (s : State) (b : Block), regsWf s → s.pwr.coreUp = true → s.heldInReset b = false → s.en b = false → s.cyc.checking.contains b = false → (requires b).any (fun x => !s.en x) = true →
    ∃ t, exec (.blockEnable b) s = .next t ∧
      t.get (CHK_REASON b) = b.no * 0x100 + STATE ∧
      t.get (CHK_UNIT b) = b.ctrlUnit ∧
      t.get (CHK_OFFSET b) = 0 ∧
      t.cyc = s.cyc ∧
      RegsOnly s t ∧
      (∀ adr, adr ∉ (refuseRegs b ++ (countersOf b).flatMap (fun c => (List.range c.2.1).flatMap (fun u => (List.range c.2.2).map (fun i => c.1.addr u i))) ++ (if b = .form then [FORM_BASE_VPK_V_PK.base, FORM_BASE_IPK_I_PK.base] else []) : List Nat) → t.word adr = s.word adr)) ∧
  -- completes: configCheckDone
  (∀ (s : State) (b : Block), regsWf s → s.pwr.coreUp = true → s.cyc.checking.contains b = true → s.port.waiting = none → enableRefused b { s with cyc := { s.cyc with checking := s.cyc.checking.filter (· != b) } } = none →
    ∃ t, exec (.configCheckDone b) s = .next t ∧
      t.en b = true ∧
      t.cyc.checking = s.cyc.checking.filter (· != b)) ∧
  (∀ (s : State) (b : Block) (r : Nat × Nat × Nat), regsWf s → s.pwr.coreUp = true → s.cyc.checking.contains b = true → s.port.waiting = none → enableRefused b { s with cyc := { s.cyc with checking := s.cyc.checking.filter (· != b) } } = some r → s.en b = false →
    ∃ t, exec (.configCheckDone b) s = .next t ∧
      t.en b = false ∧
      t.get (CHK_REASON b) = (if r.1 < 0x100 then b.no * 0x100 + r.1 else r.1) % 0x10000 ∧
      t.get (CHK_UNIT b) = r.2.1 % 0x100 ∧
      t.get (CHK_OFFSET b) = r.2.2 % 0x100 ∧
      t.cyc.checking = s.cyc.checking.filter (· != b) ∧
      t = { s with regs := t.regs, cyc := t.cyc } ∧
      (∀ adr, adr ∉ (refuseRegs b : List Nat) → t.word adr = s.word adr)) ∧
  -- completes: blockDisable
  (∀ (s : State) (b : Block), regsWf s → s.pwr.coreUp = true → (dependents b).any (fun x => s.en x) = false → (alwaysOn.contains b && s.en b) = false →
    ∃ t, exec (.blockDisable b) s = .next t ∧
      t.en b = false ∧
      t.cyc.checking.contains b = false) ∧
  (∀ (s : State) (b : Block), regsWf s → s.pwr.coreUp = true → (dependents b).any (fun x => s.en x) = true →
    ∃ t, exec (.blockDisable b) s = .next t ∧
      t.get (CHK_REASON b) = b.no * 0x100 + STATE ∧
      t.en b = s.en b ∧
      RegsOnly s t ∧
      (∀ adr, adr ∉ (refuseRegs b : List Nat) → t.word adr = s.word adr)) ∧
  (∀ (s : State) (b : Block), regsWf s → s.pwr.coreUp = true → alwaysOn.contains b = true → s.en b = true →
    ∃ t, exec (.blockDisable b) s = .next t ∧
      t.get (CHK_REASON b) = b.no * 0x100 + STATE ∧
      t.en b = true ∧
      RegsOnly s t ∧
      (∀ adr, adr ∉ (refuseRegs b : List Nat) → t.word adr = s.word adr))

/-- EVT_CLEAR clears exactly the written STATUS bits; SEV_CLEAR of a pulse source or of a level source whose condition is absent clears the bit and its window, and the hold bit with the block's last SEV bit; with the condition present the bit stays and the source's reason is recorded; a closing window returns WCNT to 0; a W1C of SYS_FAULT_HOLD clears the bit of a block no longer severe and keeps that of a severe one, recording STATE. It says of each of these that it completes with its own effect, exec answering the next state told, under hypotheses on the state and the operands alone: evtClear, sevClear, fltWindowClose, faultHoldClear. (R101, R103, R105, R108, R109) -/
def Obligations.FaultNoticesAreCleared : Prop :=
  -- completes: evtClear
  (∀ (s : State) (b : Block) (m : BitVec 16), regsWf s → s.pwr.coreUp = true →
    ∃ t, exec (.evtClear b m) s = .next t ∧
      t.get (STATUS_EVT b) = s.get (STATUS_EVT b) &&& (0xFFFF - m.toNat) ∧
      RegsOnly s t ∧
      (∀ adr, adr ∉ ([ctrlAddr b 0x04] : List Nat) → t.word adr = s.word adr)) ∧
  -- completes: sevClear
  (∀ (s : State) (x : Source), regsWf s → s.pwr.coreUp = true → x ∈ allSources → x.counted = true → s.get (FLT_SEV x.blk) = 2 ^ x.s → (x.level && s.condPresent x.blk x.s) = false →
    ∃ t, exec (.sevClear x.blk (BitVec.ofNat 16 (2 ^ x.s))) s = .next t ∧
      t.severe x.blk = false ∧
      t.get (FLT_N_WCNT x.blk) 0 x.s = 0 ∧
      t.flag ⟨0x000214, 0, 0, x.blk.no, 1⟩ = false ∧
      t.pwr.holdCopy = (t.word 0x000214).toNat ∧
      RegsHold s t ∧
      (∀ adr, adr ∉ ([ctrlAddr x.blk 0x10, ctrlAddr x.blk 0x40 + 8 * x.s, 0x000214] : List Nat) → t.word adr = s.word adr)) ∧
  (∀ (s : State) (x : Source), regsWf s → s.pwr.coreUp = true → x ∈ allSources → x.counted = true → s.flag ⟨ctrlAddr x.blk 0x10, 0, 0, x.s, 1⟩ = true → x.level = true → s.condPresent x.blk x.s = true →
    ∃ t, exec (.sevClear x.blk (BitVec.ofNat 16 (2 ^ x.s))) s = .next t ∧
      t.word (ctrlAddr x.blk 0x10) = s.word (ctrlAddr x.blk 0x10) ∧
      t.get (CHK_REASON x.blk) = x.persist ∧
      t.get (CHK_UNIT x.blk) = x.blk.ctrlUnit ∧
      t.get (CHK_OFFSET x.blk) = 0x10 ∧
      RegsOnly s t ∧
      (∀ adr, adr ∉ (refuseRegs x.blk : List Nat) → t.word adr = s.word adr)) ∧
  -- completes: fltWindowClose
  (∀ (s : State) (x : Source), regsWf s → s.pwr.coreUp = true → x ∈ allSources → x.counted = true →
    ∃ t, exec (.fltWindowClose x.blk (Fin.ofNat 16 x.s)) s = .next t ∧
      t.get (FLT_N_WCNT x.blk) 0 x.s = 0 ∧
      t.get (FLT_N_N x.blk) 0 x.s = s.get (FLT_N_N x.blk) 0 x.s ∧
      t.get (FLT_N_TOTAL x.blk) 0 x.s = s.get (FLT_N_TOTAL x.blk) 0 x.s ∧
      RegsOnly s t ∧
      (∀ adr, adr ∉ ([ctrlAddr x.blk 0x40 + 8 * x.s] : List Nat) → t.word adr = s.word adr)) ∧
  -- completes: faultHoldClear
  (∀ (s : State) (b : Block), regsWf s → s.pwr.coreUp = true → s.severe b = false →
    ∃ t, exec (.faultHoldClear (BitVec.ofNat 32 (2 ^ b.no))) s = .next t ∧
      t.flag ⟨0x000214, 0, 0, b.no, 1⟩ = false ∧
      t.pwr.holdCopy = (t.word 0x000214).toNat ∧
      t.flag SYS_FAULT_HOLD_RESTORE_ERR = s.flag SYS_FAULT_HOLD_RESTORE_ERR ∧
      RegsHold s t ∧
      (∀ adr, adr ∉ ([0x000214] : List Nat) → t.word adr = s.word adr)) ∧
  (∀ (s : State) (b : Block), regsWf s → s.pwr.coreUp = true → s.severe b = true →
    ∃ t, exec (.faultHoldClear (BitVec.ofNat 32 (2 ^ b.no))) s = .next t ∧
      t.word 0x000214 = s.word 0x000214 ∧
      t.get (CHK_REASON .sys) = STATE ∧
      t.get (CHK_UNIT .sys) = 0x02 ∧
      t.get (CHK_OFFSET .sys) = 0x14 ∧
      RegsHold s t ∧
      (∀ adr, adr ∉ (refuseRegs .sys : List Nat) → t.word adr = s.word adr))

/-- An event of any source sets its STATUS bit and writes EVT_LAST. Of a counted source it also increments TOTAL. Below the N of its window, which is the register's N as the window opened, it moves WCNT on by one; on reaching it, it sets the SEV bit, returns WCNT to 0 and, where the block was not severe, sets the block's hold bit in SYS_FAULT_HOLD and in its always-on copy; while the source is severe WCNT stands. Nothing else changes, but that a rise of a block's severity fires a capture armed for it. (R97, R98, R99, R101, R108) -/
def Obligations.FaultEventsAreCounted : Prop :=
  (∀ (s t : State) (x : Source) (u : Nat), regsWf s → x ∈ allSources → x.counted = false →
    t = s.raise x u →
      t.flag ⟨ctrlAddr x.blk 0x04, 0, 0, x.s, 1⟩ = true ∧
      t.get (EVT_LAST_SOURCE x.blk) = x.s ∧
      t.get (EVT_LAST_UNIT x.blk) = u % 256 ∧
      RegsOnly s t ∧
      (∀ adr, adr ∉ ([ctrlAddr x.blk 0x04, ctrlAddr x.blk 0x14] : List Nat) → t.word adr = s.word adr)) ∧
  (∀ (s t : State) (x : Source) (u : Nat), regsWf s → x ∈ allSources → x.counted = true → s.flag ⟨ctrlAddr x.blk 0x10, 0, 0, x.s, 1⟩ = false → s.get (FLT_N_WCNT x.blk) 0 x.s + 1 < (if s.get (FLT_N_WCNT x.blk) 0 x.s = 0 then s.get (FLT_N_N x.blk) 0 x.s else s.get (FLT_WINDOW_N x.blk) 0 x.s) →
    t = s.raise x u →
      t.flag ⟨ctrlAddr x.blk 0x04, 0, 0, x.s, 1⟩ = true ∧
      t.get (EVT_LAST_SOURCE x.blk) = x.s ∧
      t.get (EVT_LAST_UNIT x.blk) = u % 256 ∧
      t.get (FLT_N_TOTAL x.blk) 0 x.s = satInc 0xFFFF (s.get (FLT_N_TOTAL x.blk) 0 x.s) ∧
      t.get (FLT_N_WCNT x.blk) 0 x.s = s.get (FLT_N_WCNT x.blk) 0 x.s + 1 ∧
      t.word (ctrlAddr x.blk 0x10) = s.word (ctrlAddr x.blk 0x10) ∧
      t.get (FLT_WINDOW_N x.blk) 0 x.s = (if s.get (FLT_N_WCNT x.blk) 0 x.s = 0 then s.get (FLT_N_N x.blk) 0 x.s else s.get (FLT_WINDOW_N x.blk) 0 x.s) ∧
      RegsOnly s t ∧
      (∀ adr, adr ∉ (evtRegs x.blk x.s : List Nat) → t.word adr = s.word adr)) ∧
  (∀ (s t : State) (x : Source) (u : Nat), regsWf s → x ∈ allSources → x.counted = true → s.severe x.blk = false → (if s.get (FLT_N_WCNT x.blk) 0 x.s = 0 then s.get (FLT_N_N x.blk) 0 x.s else s.get (FLT_WINDOW_N x.blk) 0 x.s) ≤ s.get (FLT_N_WCNT x.blk) 0 x.s + 1 →
    t = s.raise x u →
      t.flag ⟨ctrlAddr x.blk 0x04, 0, 0, x.s, 1⟩ = true ∧
      t.get (EVT_LAST_SOURCE x.blk) = x.s ∧
      t.get (EVT_LAST_UNIT x.blk) = u % 256 ∧
      t.get (FLT_N_TOTAL x.blk) 0 x.s = satInc 0xFFFF (s.get (FLT_N_TOTAL x.blk) 0 x.s) ∧
      t.get (FLT_N_WCNT x.blk) 0 x.s = 0 ∧
      t.flag ⟨ctrlAddr x.blk 0x10, 0, 0, x.s, 1⟩ = true ∧
      t.flag ⟨0x000214, 0, 0, x.blk.no, 1⟩ = true ∧
      t.pwr.holdCopy = (t.word 0x000214).toNat ∧
      RegsHold s t ∧
      (∀ adr, adr ∉ (evtRegs x.blk x.s : List Nat) → t.word adr = s.word adr)) ∧
  (∀ (s t : State) (x : Source) (u : Nat), regsWf s → x ∈ allSources → x.counted = true → s.flag ⟨ctrlAddr x.blk 0x10, 0, 0, x.s, 1⟩ = true →
    t = s.raise x u →
      t.flag ⟨ctrlAddr x.blk 0x04, 0, 0, x.s, 1⟩ = true ∧
      t.get (EVT_LAST_SOURCE x.blk) = x.s ∧
      t.get (EVT_LAST_UNIT x.blk) = u % 256 ∧
      t.get (FLT_N_TOTAL x.blk) 0 x.s = satInc 0xFFFF (s.get (FLT_N_TOTAL x.blk) 0 x.s) ∧
      t.get (FLT_N_WCNT x.blk) 0 x.s = s.get (FLT_N_WCNT x.blk) 0 x.s ∧
      t.word 0x000214 = s.word 0x000214 ∧
      RegsOnly s t ∧
      (∀ adr, adr ∉ (evtRegs x.blk x.s : List Nat) → t.word adr = s.word adr))

/-- A TAIL that lies in the queue and not behind HEAD is stored and nothing else changes; one outside the queue is refused with RANGE and one behind HEAD with 0x0524, each with SQ_REFUSED and TAIL kept; a completion HEAD is stored or refused with RANGE. A valid entry at HEAD takes the lowest free host tag with its next GEN, waits in its ring end's queue and moves HEAD on; an invalid or unreachable one completes at once: its completion entry carries the status, DONE counts it and no tag stays taken. It says of each of these that it completes with its own effect, exec answering the next state told, under hypotheses on the state and the operands alone: sqTailWrite, cqHeadWrite, sqEntryTake. (R152, R155, R157, R158, R159, R160, R174, R175) -/
def Obligations.MailboxQueuesMove : Prop :=
  -- completes: sqTailWrite
  (∀ (s : State) (v : BitVec 9), regsWf s → s.pwr.coreUp = true → v.toNat % 256 < s.get HIVE_MBX_SQ_QLEN → ptrAhead (s.get HIVE_MBX_SQ_PTR_HEAD) v.toNat = true →
    ∃ t, exec (.sqTailWrite v) s = .next t ∧
      t.get HIVE_MBX_SQ_PTR_TAIL = v.toNat ∧
      t.get HIVE_MBX_SQ_PTR_HEAD = s.get HIVE_MBX_SQ_PTR_HEAD ∧
      RegsOnly s t ∧
      (∀ adr, adr ∉ ([0x051208] : List Nat) → t.word adr = s.word adr)) ∧
  (∀ (s : State) (v : BitVec 9), regsWf s → s.pwr.coreUp = true → s.get HIVE_MBX_SQ_QLEN ≤ v.toNat % 256 →
    ∃ t, exec (.sqTailWrite v) s = .next t ∧
      t.get (CHK_REASON .hive) = 0x0502 ∧
      t.get (CHK_UNIT .hive) = 0x12 ∧
      t.get (CHK_OFFSET .hive) = 0x08 ∧
      t.flag ⟨ctrlAddr SRC_HIVE_SQ_REFUSED.blk 0x04, 0, 0, SRC_HIVE_SQ_REFUSED.s, 1⟩ = true ∧
      t.word 0x051208 = s.word 0x051208 ∧
      RegsOnly s t ∧
      (∀ adr, adr ∉ (refuseRegs .hive ++ evtRegs SRC_HIVE_SQ_REFUSED.blk SRC_HIVE_SQ_REFUSED.s : List Nat) → t.word adr = s.word adr)) ∧
  (∀ (s : State) (v : BitVec 9), regsWf s → s.pwr.coreUp = true → v.toNat % 256 < s.get HIVE_MBX_SQ_QLEN → ptrAhead (s.get HIVE_MBX_SQ_PTR_HEAD) v.toNat = false →
    ∃ t, exec (.sqTailWrite v) s = .next t ∧
      t.get (CHK_REASON .hive) = 0x0524 ∧
      t.get (CHK_UNIT .hive) = 0x12 ∧
      t.get (CHK_OFFSET .hive) = 0x08 ∧
      t.flag ⟨ctrlAddr SRC_HIVE_SQ_REFUSED.blk 0x04, 0, 0, SRC_HIVE_SQ_REFUSED.s, 1⟩ = true ∧
      t.word 0x051208 = s.word 0x051208 ∧
      RegsOnly s t ∧
      (∀ adr, adr ∉ (refuseRegs .hive ++ evtRegs SRC_HIVE_SQ_REFUSED.blk SRC_HIVE_SQ_REFUSED.s : List Nat) → t.word adr = s.word adr)) ∧
  -- completes: cqHeadWrite
  (∀ (s : State) (v : BitVec 9), regsWf s → s.pwr.coreUp = true → v.toNat % 256 < s.get HIVE_MBX_CQ_QLEN →
    ∃ t, exec (.cqHeadWrite v) s = .next t ∧
      t.get HIVE_MBX_CQ_PTR_HEAD = v.toNat ∧
      t.get HIVE_MBX_CQ_PTR_TAIL = s.get HIVE_MBX_CQ_PTR_TAIL ∧
      RegsOnly s t ∧
      (∀ adr, adr ∉ ([0x051210] : List Nat) → t.word adr = s.word adr)) ∧
  (∀ (s : State) (v : BitVec 9), regsWf s → s.pwr.coreUp = true → s.get HIVE_MBX_CQ_QLEN ≤ v.toNat % 256 →
    ∃ t, exec (.cqHeadWrite v) s = .next t ∧
      t.get (CHK_REASON .hive) = 0x0502 ∧
      t.get (CHK_UNIT .hive) = 0x12 ∧
      t.get (CHK_OFFSET .hive) = 0x10 ∧
      RegsOnly s t ∧
      (∀ adr, adr ∉ (refuseRegs .hive : List Nat) → t.word adr = s.word adr)) ∧
  -- completes: sqEntryTake
  (∀ (s : State) (tag : Nat) (x : MbxTx), regsWf s → s.pwr.coreUp = true → s.en .hive = true → 0 < s.cqFree → s.freeTag true = some tag → s.hive.taken = [] → s.poison = [] → s.sqPick (ptrsFrom (s.get HIVE_MBX_SQ_QLEN) (ptrDist (s.get HIVE_MBX_SQ_QLEN) (s.get HIVE_MBX_SQ_PTR_HEAD) (s.get HIVE_MBX_SQ_PTR_TAIL)) (s.get HIVE_MBX_SQ_PTR_HEAD)) [] = some (s.get HIVE_MBX_SQ_PTR_HEAD, x) → s.en .part = false → s.sqJudge x = none →
    ∃ t, exec .sqEntryTake s = .next t ∧
      t.hive.tx = s.hive.tx ++ [{ x with tag := tag, gen := (s.hive.gens.getD tag 0 + 1) % 4, tries := 0, queued := true }] ∧
      t.get HIVE_MBX_SQ_PTR_HEAD = ptrNext (s.get HIVE_MBX_SQ_QLEN) (s.get HIVE_MBX_SQ_PTR_HEAD) % 512 ∧
      t.get HIVE_MBX_SQ_PTR_TAIL = s.get HIVE_MBX_SQ_PTR_TAIL ∧
      t.get HIVE_MBX_STAT_INFLIGHT = (s.hive.tx.length + 1) % 128 ∧
      t = { s with regs := t.regs, hive := t.hive } ∧
      (∀ adr, adr ∉ ([0x051208, 0x051214] : List Nat) → t.word adr = s.word adr)) ∧
  -- completes: sqEntryTake
  (∀ (s : State) (tag : Nat) (x : MbxTx) (st : Nat), regsWf s → s.pwr.coreUp = true → s.en .hive = true → 0 < s.cqFree → s.freeTag true = some tag → s.hive.taken = [] → s.poison = [] → s.sqPick (ptrsFrom (s.get HIVE_MBX_SQ_QLEN) (ptrDist (s.get HIVE_MBX_SQ_QLEN) (s.get HIVE_MBX_SQ_PTR_HEAD) (s.get HIVE_MBX_SQ_PTR_TAIL)) (s.get HIVE_MBX_SQ_PTR_HEAD)) [] = some (s.get HIVE_MBX_SQ_PTR_HEAD, x) → s.en .part = false → s.sqJudge x = some st → x.owner = 0 → s.hive.waiting = [] →
    ∃ t, exec .sqEntryTake s = .next t ∧
      t.hive.tx = s.hive.tx ∧
      t.byte (entryAt (s.get HIVE_MBX_CQ_BASE) (s.get HIVE_MBX_CQ_PTR_TAIL) + 2) = BitVec.ofNat 8 st ∧
      t.get HIVE_MBX_CQ_PTR_TAIL = ptrNext (s.get HIVE_MBX_CQ_QLEN) (s.get HIVE_MBX_CQ_PTR_TAIL) % 512 ∧
      t.get HIVE_MBX_STAT_DONE = satInc 0xFFFF (s.get HIVE_MBX_STAT_DONE) ∧
      t.get HIVE_MBX_SQ_PTR_HEAD = ptrNext (s.get HIVE_MBX_SQ_QLEN) (s.get HIVE_MBX_SQ_PTR_HEAD) % 512 ∧
      (∀ adr, (adr < (entryAt (s.get HIVE_MBX_CQ_BASE) (s.get HIVE_MBX_CQ_PTR_TAIL)) ∨ (entryAt (s.get HIVE_MBX_CQ_BASE) (s.get HIVE_MBX_CQ_PTR_TAIL)) + 64 ≤ adr) → t.byte adr = s.byte adr) ∧
      t = { s with regs := t.regs, hive := t.hive, mem := t.mem, poison := t.poison } ∧
      (∀ adr, adr ∉ ([0x051208, 0x051210, 0x051214] : List Nat) → t.word adr = s.word adr))

/-- A request queued at a ring end that may start now leaves as its MBX_REQ frame and is no longer queued; FE SYNC leaves with DATA naming the launching cycle plus 4. A response that matches tag and GEN completes a host transaction: it is no longer in flight, DONE counts it and its completion entry holds the data and the status; a frame with a wrong CRC is counted in CRC_ERR, one that matches nothing in STRAY. At the end of its response time a request is queued again while RETRIES remain; after them it completes with TIMEOUT and its event. It says of each of these that it completes with its own effect, exec answering the next state told, under hypotheses on the state and the operands alone: mbxWindowLaunch, feSyncLaunch, mbxRspRx, mbxRspTimeout. (R137, R141, R146, R152, R156, R158, R159, R160, R181) -/
def Obligations.MailboxFramesAreSentAndAnswered : Prop :=
  -- completes: mbxWindowLaunch
  (∀ (s : State) (r : Fin 12) (e : Bool) (at' : Nat) (x : MbxTx), s.pwr.coreUp = true → s.hiveDrives = true → s.ringOn r.val = true → s.hive.tx = [x] → x.queued = true → x.ring = r.val → s.mbxEnd r.val x.pos = some e → s.mbxMayStart r.val at' = true → s.unreachable x = false → s.roomFor x = true → isSync x = false → x.notBefore ≤ s.samp + at' →
    ∃ t, exec (.mbxWindowLaunch r e at') s = .next t ∧
      t.hive = { s.hive with sent := [(r.val, e, mbxFrame x e)], started := s.hive.started + 1, tx := [{ x with tries := x.tries + 1, queued := false, lastCyc := s.get SYS_CYC_NUM_CYC, sentAt := (s.advanceTo (s.samp + at')).now }] } ∧
      t = { s with hive := t.hive, time := t.time, pwr := t.pwr }) ∧
  -- completes: feSyncLaunch
  (∀ (s : State) (i : Fin 192) (at' : Nat) (x : MbxTx) (e : Bool), s.pwr.coreUp = true → s.hive.tx = [x] → x.queued = true → isSync x = true → x.ring = s.get CELL_SCFG_RING i.val → x.pos = s.get CELL_SCFG_POS i.val → s.mbxEnd x.ring x.pos = some e → s.hiveDrives = true → s.ringOn x.ring = true → s.mbxMayStart x.ring at' = true → s.roomFor x = true → 16 * (s.get SYS_CYC_TIMING_SAMPLE_OFS + at' + 2 * 880) + s.pathDelay x.ring x.pos e < 16 * s.period → s.fes.length = 192 →
    ∃ t, exec (.feSyncLaunch i at') s = .next t ∧
      t.hive.sent = [(x.ring, e, mbxFrame { x with data := leBytes 4 ((s.get SYS_CYC_NUM_CYC + 4) % 2 ^ 32) } e)] ∧
      t.hive.tx = [{ x with data := leBytes 4 ((s.get SYS_CYC_NUM_CYC + 4) % 2 ^ 32), tries := x.tries + 1, queued := false, lastCyc := s.get SYS_CYC_NUM_CYC, sentAt := (s.advanceTo (s.samp + at')).now }] ∧
      (t.fe i.val).sync = some (4, (s.get SYS_CYC_NUM_CYC + 4) % 2 ^ 32, false) ∧
      t = { s with hive := t.hive, time := t.time, pwr := t.pwr, fes := t.fes }) ∧
  -- completes: mbxRspRx
  (∀ (s : State) (r : Fin 12) (f : List (BitVec 8)) (x : MbxTx), regsWf s → s.pwr.coreUp = true → s.ringOn r.val = true → validFrame 0xFB 44 f = true → s.hive.tx = [x] → x.tag = byteAt f 2 % 64 → x.gen = byteAt f 2 / 64 → x.ring = r.val → 0 < x.tries → x.owner = 0 → s.hive.waiting = [] →
    ∃ t, exec (.mbxRspRx r f) s = .next t ∧
      t.hive.tx = [] ∧
      t.get HIVE_MBX_STAT_DONE = satInc 0xFFFF (s.get HIVE_MBX_STAT_DONE) ∧
      t.get HIVE_MBX_STAT_INFLIGHT = 0 ∧
      t.get HIVE_MBX_CQ_PTR_TAIL = ptrNext (s.get HIVE_MBX_CQ_QLEN) (s.get HIVE_MBX_CQ_PTR_TAIL) % 512 ∧
      t.byte (entryAt (s.get HIVE_MBX_CQ_BASE) (s.get HIVE_MBX_CQ_PTR_TAIL)) = BitVec.ofNat 8 x.ring ∧
      t.byte (entryAt (s.get HIVE_MBX_CQ_BASE) (s.get HIVE_MBX_CQ_PTR_TAIL) + 2) = (if byteAt f 9 = 0 then 0#8 else 1#8) ∧
      t.bytes (entryAt (s.get HIVE_MBX_CQ_BASE) (s.get HIVE_MBX_CQ_PTR_TAIL) + 8) 32 = slice f 10 32 ∧
      (x.op = 1 ∨ byteAt f 9 ≠ 0 → t.fes = s.fes) ∧
      (∀ adr, (adr < (entryAt (s.get HIVE_MBX_CQ_BASE) (s.get HIVE_MBX_CQ_PTR_TAIL)) ∨ (entryAt (s.get HIVE_MBX_CQ_BASE) (s.get HIVE_MBX_CQ_PTR_TAIL)) + 64 ≤ adr) → t.byte adr = s.byte adr) ∧
      t = { s with regs := t.regs, hive := t.hive, mem := t.mem, poison := t.poison, fes := t.fes } ∧
      (∀ adr, adr ∉ ([0x051210, 0x051214] : List Nat) → t.word adr = s.word adr)) ∧
  -- completes: mbxRspRx
  (∀ (s : State) (r : Fin 12) (f : List (BitVec 8)) (x : MbxTx) (i : Nat), regsWf s → s.pwr.coreUp = true → s.ringOn r.val = true → validFrame 0xFB 44 f = true → byteAt f 9 = 0 → s.hive.tx = [x] → x.tag = byteAt f 2 % 64 → x.gen = byteAt f 2 / 64 → x.ring = r.val → 0 < x.tries → x.owner = 0 → s.hive.waiting = [] → x.op = 2 → x.addr = 0x108 → s.slotAt x.ring x.pos = some i → s.fes.length = 192 →
    ∃ t, exec (.mbxRspRx r f) s = .next t ∧
      (t.fe i).pulse = leAt x.data 0 4 ∧
      (t.fe i).timing = (s.fe i).timing ∧
      t.hive.tx = [] ∧
      t = { s with regs := t.regs, hive := t.hive, mem := t.mem, poison := t.poison, fes := t.fes } ∧
      (∀ adr, adr ∉ ([0x051210, 0x051214] : List Nat) → t.word adr = s.word adr)) ∧
  -- completes: mbxRspRx
  (∀ (s : State) (r : Fin 12) (f : List (BitVec 8)) (x : MbxTx) (i : Nat), regsWf s → s.pwr.coreUp = true → s.ringOn r.val = true → validFrame 0xFB 44 f = true → byteAt f 9 = 0 → s.hive.tx = [x] → x.tag = byteAt f 2 % 64 → x.gen = byteAt f 2 / 64 → x.ring = r.val → 0 < x.tries → x.owner = 0 → s.hive.waiting = [] → x.op = 3 → x.addr = 2 → s.slotAt x.ring x.pos = some i → ((s.fe i).st = 2 ∨ (s.fe i).st = 3) → s.fes.length = 192 →
    ∃ t, exec (.mbxRspRx r f) s = .next t ∧
      (t.fe i).st = 3 ∧
      (t.fe i).blocked = false ∧
      (t.fe i).dabBlocked = false ∧
      (t.fe i).byp = false ∧
      t.hive.tx = [] ∧
      t = { s with regs := t.regs, hive := t.hive, mem := t.mem, poison := t.poison, fes := t.fes } ∧
      (∀ adr, adr ∉ ([0x051210, 0x051214] : List Nat) → t.word adr = s.word adr)) ∧
  -- completes: mbxRspRx
  (∀ (s : State) (r : Fin 12) (f : List (BitVec 8)), regsWf s → s.pwr.coreUp = true → s.ringOn r.val = true → validFrame 0xFB 44 f = false →
    ∃ t, exec (.mbxRspRx r f) s = .next t ∧
      t.get HIVE_RCNT_CRC_ERR r.val = satInc 0xFFFF (s.get HIVE_RCNT_CRC_ERR r.val) ∧
      t.get HIVE_RCNT_RETRY r.val = s.get HIVE_RCNT_RETRY r.val ∧
      t.flag ⟨ctrlAddr SRC_HIVE_CRC_ERR.blk 0x04, 0, 0, SRC_HIVE_CRC_ERR.s, 1⟩ = true ∧
      t.hive = s.hive ∧
      RegsHold s t ∧
      (∀ adr, adr ∉ ((0x050000 + 0x100 * r.val + 8) :: evtRegs SRC_HIVE_CRC_ERR.blk SRC_HIVE_CRC_ERR.s : List Nat) → t.word adr = s.word adr)) ∧
  -- completes: mbxRspRx
  (∀ (s : State) (r : Fin 12) (f : List (BitVec 8)), regsWf s → s.pwr.coreUp = true → s.ringOn r.val = true → validFrame 0xFB 44 f = true → s.hive.tx.all (fun x => !(x.tag == byteAt f 2 % 64 && x.gen == byteAt f 2 / 64 && x.ring == r.val && decide (0 < x.tries))) = true →
    ∃ t, exec (.mbxRspRx r f) s = .next t ∧
      t.get HIVE_RCNT2_STRAY r.val = satInc 0xFFFF (s.get HIVE_RCNT2_STRAY r.val) ∧
      t.flag ⟨ctrlAddr SRC_HIVE_STRAY.blk 0x04, 0, 0, SRC_HIVE_STRAY.s, 1⟩ = true ∧
      t.hive = s.hive ∧
      RegsHold s t ∧
      (∀ adr, adr ∉ ((0x050000 + 0x100 * r.val + 0x0C) :: evtRegs SRC_HIVE_STRAY.blk SRC_HIVE_STRAY.s : List Nat) → t.word adr = s.word adr)) ∧
  -- completes: mbxRspTimeout
  (∀ (s : State) (tag : Fin 64) (x : MbxTx), s.pwr.coreUp = true → s.en .hive = true → s.hive.tx = [x] → x.tag = tag.val → x.queued = false → 0 < x.tries → s.get HIVE_MBX_CFG_RSP_TMO ≤ (s.get SYS_CYC_NUM_CYC + 2 ^ 32 - x.lastCyc) % 2 ^ 32 → (s.get SYS_CYC_NUM_CYC + 2 ^ 32 - x.lastCyc) % 2 ^ 32 < 2 ^ 31 → s.unreachable x = false → x.tries ≤ s.get HIVE_MBX_CFG_RETRIES →
    ∃ t, exec (.mbxRspTimeout tag) s = .next t ∧
      t = { s with hive := { s.hive with tx := [{ x with queued := true }] } }) ∧
  -- completes: mbxRspTimeout
  (∀ (s : State) (tag : Fin 64) (x : MbxTx), regsWf s → s.pwr.coreUp = true → s.en .hive = true → s.hive.tx = [x] → x.tag = tag.val → x.queued = false → 0 < x.tries → s.get HIVE_MBX_CFG_RSP_TMO ≤ (s.get SYS_CYC_NUM_CYC + 2 ^ 32 - x.lastCyc) % 2 ^ 32 → (s.get SYS_CYC_NUM_CYC + 2 ^ 32 - x.lastCyc) % 2 ^ 32 < 2 ^ 31 → s.unreachable x = false → x.owner = 0 → s.get HIVE_MBX_CFG_RETRIES < x.tries → s.hive.waiting = [] →
    ∃ t, exec (.mbxRspTimeout tag) s = .next t ∧
      t.hive.tx = [] ∧
      t.get HIVE_MBX_STAT_DONE = satInc 0xFFFF (s.get HIVE_MBX_STAT_DONE) ∧
      t.byte (entryAt (s.get HIVE_MBX_CQ_BASE) (s.get HIVE_MBX_CQ_PTR_TAIL) + 2) = 0x80#8 ∧
      t.flag ⟨ctrlAddr SRC_HIVE_MBX_TIMEOUT.blk 0x04, 0, 0, SRC_HIVE_MBX_TIMEOUT.s, 1⟩ = true ∧
      (∀ adr, (adr < (entryAt (s.get HIVE_MBX_CQ_BASE) (s.get HIVE_MBX_CQ_PTR_TAIL)) ∨ (entryAt (s.get HIVE_MBX_CQ_BASE) (s.get HIVE_MBX_CQ_PTR_TAIL)) + 64 ≤ adr) → t.byte adr = s.byte adr) ∧
      t = { s with regs := t.regs, hive := t.hive, mem := t.mem, poison := t.poison, pwr := { s.pwr with holdCopy := t.pwr.holdCopy }, cap := { s.cap with force := t.cap.force } } ∧
      (∀ adr, adr ∉ (0x051210 :: 0x051214 :: evtRegs SRC_HIVE_MBX_TIMEOUT.blk SRC_HIVE_MBX_TIMEOUT.s : List Nat) → t.word adr = s.word adr))

/-- A valid report of this cycle from a position of the ring is stored whole for its slot and counts as delivered; a second is counted in DUP, one of another cycle in STRAY. A missing report in time is recalled once: RETRY counts it and the RECALL frame leaves the serving end. At the end of the window a delivery clears the position's MISS_RUN, a miss sets its MISS bit and moves MISS_RUN on; a run that reaches CELL_TMO raises CELL_TIMEOUT and takes an ACTIVE slot to BYPASSED with cause 3. It says of each of these that it completes with its own effect, exec answering the next state told, under hypotheses on the state and the operands alone: reportRx, reportMissing, reportWindowEnd. (R137, R140, R148, R151, R153, R182, R183) -/
def Obligations.ReportsAreTakenAndMissed : Prop :=
  -- completes: reportRx
  (∀ (s : State) (r : Fin 12) (f : List (BitVec 8)) (i : Nat), s.pwr.coreUp = true → s.ringOn r.val = true → validFrame 0x5C 36 f = true → framePos f < s.ncell r.val → s.slotAt r.val (framePos f) = some i → s.hive.rings.length = 12 → repCyc f = s.get SYS_CYC_NUM_CYC → (s.hive.windowOver = false ∨ s.get HIVE_RSTAT_MODE r.val = 3) → (s.ringSt r.val).last.contains (framePos f, repCyc f) = false → (s.ringSt r.val).judged = false → repSkew f = false →
    ∃ t, exec (.reportRx r f) s = .next t ∧
      t.bytes (reportAddr i) 36 = f ∧
      (t.ringSt r.val).delivered = (s.ringSt r.val).delivered ++ [framePos f] ∧
      (framePos f, repCyc f) ∈ (t.ringSt r.val).last ∧
      (s.fes.length = 192 → (t.fe i).flt = repFlt f ∧ (t.fe i).cyc = some (repCyc f)) ∧
      (∀ adr, (adr < reportAddr i ∨ reportAddr i + 36 ≤ adr) → t.byte adr = s.byte adr) ∧
      t = { s with hive := t.hive, mem := t.mem, poison := t.poison, fes := t.fes }) ∧
  -- completes: reportRx
  (∀ (s : State) (r : Fin 12) (f : List (BitVec 8)) (i : Nat), regsWf s → s.pwr.coreUp = true → s.ringOn r.val = true → validFrame 0x5C 36 f = true → framePos f < s.ncell r.val → s.slotAt r.val (framePos f) = some i → s.hive.rings.length = 12 → (s.ringSt r.val).last.contains (framePos f, repCyc f) = true →
    ∃ t, exec (.reportRx r f) s = .next t ∧
      t.get HIVE_RCNT2_DUP r.val = satInc 0xFFFF (s.get HIVE_RCNT2_DUP r.val) ∧
      t.get HIVE_RCNT2_STRAY r.val = s.get HIVE_RCNT2_STRAY r.val ∧
      RegsOnly s t ∧
      (∀ adr, adr ∉ ([0x050000 + 0x100 * r.val + 0x0C] : List Nat) → t.word adr = s.word adr)) ∧
  -- completes: reportRx
  (∀ (s : State) (r : Fin 12) (f : List (BitVec 8)) (i : Nat), regsWf s → s.pwr.coreUp = true → s.ringOn r.val = true → validFrame 0x5C 36 f = true → framePos f < s.ncell r.val → s.slotAt r.val (framePos f) = some i → s.hive.rings.length = 12 → repCyc f ≠ s.get SYS_CYC_NUM_CYC → (s.ringSt r.val).last.contains (framePos f, repCyc f) = false →
    ∃ t, exec (.reportRx r f) s = .next t ∧
      t.get HIVE_RCNT2_STRAY r.val = satInc 0xFFFF (s.get HIVE_RCNT2_STRAY r.val) ∧
      t.flag ⟨ctrlAddr SRC_HIVE_STRAY.blk 0x04, 0, 0, SRC_HIVE_STRAY.s, 1⟩ = true ∧
      (t.ringSt r.val).delivered = (s.ringSt r.val).delivered ∧
      t = { s with regs := t.regs, hive := t.hive } ∧
      (∀ adr, adr ∉ ((0x050000 + 0x100 * r.val + 0x0C) :: evtRegs SRC_HIVE_STRAY.blk SRC_HIVE_STRAY.s : List Nat) → t.word adr = s.word adr)) ∧
  -- completes: reportMissing
  (∀ (s : State) (r : Fin 12) (p : Fin 16) (at' : Nat) (e : Bool), regsWf s → s.pwr.coreUp = true → s.serveEnd r.val p.val = some e → s.hiveDrives = true → s.ringOn r.val = true → p.val < s.ncell r.val → (s.ringSt r.val).delivered.contains p.val = false → s.get HIVE_RSTAT_MODE r.val ≠ 3 → (if e then (s.ringSt r.val).recallB else (s.ringSt r.val).recallA) < s.get HIVE_CFG_RPT_RETRY → 16 * (at' + 160 + 100 + 1440) + 2 * s.pathDelay r.val p.val e ≤ 16 * s.tReports → s.hive.rings.length = 12 →
    ∃ t, exec (.reportMissing r p at') s = .next t ∧
      t.hive.sent = [(r.val, e, recallFrame p.val e (s.get SYS_CYC_NUM_CYC))] ∧
      t.get HIVE_RCNT_RETRY r.val = satInc 0xFFFF (s.get HIVE_RCNT_RETRY r.val) ∧
      (if e then (t.ringSt r.val).recallB else (t.ringSt r.val).recallA) = (if e then (s.ringSt r.val).recallB else (s.ringSt r.val).recallA) + 1 ∧
      t = { s with regs := t.regs, hive := t.hive, time := t.time, pwr := t.pwr } ∧
      (∀ adr, adr ∉ ([0x050000 + 0x100 * r.val + 8] : List Nat) → t.word adr = s.word adr)) ∧
  -- completes: reportWindowEnd
  (∀ (s : State) (r : Fin 12) (i : Nat), regsWf s → s.pwr.coreUp = true → s.en .hive = true → s.running = true → s.cyc.suspended = false → s.cyc.sampled = true → s.hive.windowOver = false → s.enRings = [r.val] → s.get HIVE_RSTAT_MODE r.val ≠ 3 → s.ncell r.val = 1 → s.slotAt r.val 0 = some i → (s.ringSt r.val).judged = false → s.hive.rings.length = 12 → (s.ringSt r.val).delivered.contains 0 = true → s.poison = [] →
    ∃ t, exec .reportWindowEnd s = .next t ∧
      t.getPk HIVE_RMISS_MISS_RUN 8 4 0 r.val = 0 ∧
      t.get HIVE_RSTAT_MISS r.val = 0 ∧
      t.hive = { (s.setRingSt r.val { s.ringSt r.val with judged := true }).hive with windowOver := true } ∧
      t = { s with regs := t.regs, hive := t.hive, time := t.time, pwr := t.pwr } ∧
      (∀ adr, adr ∉ ([0x050000 + 0x100 * r.val + 4, 0x050000 + 0x100 * r.val + 0x10] : List Nat) → t.word adr = s.word adr)) ∧
  -- completes: reportWindowEnd
  (∀ (s : State) (r : Fin 12) (i : Nat), regsWf s → s.pwr.coreUp = true → s.en .hive = true → s.running = true → s.cyc.suspended = false → s.cyc.sampled = true → s.hive.windowOver = false → s.enRings = [r.val] → s.get HIVE_RSTAT_MODE r.val ≠ 3 → s.ncell r.val = 1 → s.slotAt r.val 0 = some i → (s.ringSt r.val).judged = false → s.hive.rings.length = 12 → (s.ringSt r.val).delivered.contains 0 = false → s.countsMisses i = true → s.getPk HIVE_RMISS_MISS_RUN 8 4 0 r.val + 1 < s.get HIVE_CFG_CELL_TMO →
    ∃ t, exec .reportWindowEnd s = .next t ∧
      t.getPk HIVE_RMISS_MISS_RUN 8 4 0 r.val = s.getPk HIVE_RMISS_MISS_RUN 8 4 0 r.val + 1 ∧
      t.get HIVE_RSTAT_MISS r.val = 1 ∧
      t.hive.windowOver = true ∧
      (t.ringSt r.val).judged = true ∧
      t = { s with regs := t.regs, hive := t.hive, time := t.time, pwr := t.pwr } ∧
      (∀ adr, adr ∉ ([0x050000 + 0x100 * r.val + 4, 0x050000 + 0x100 * r.val + 0x10] : List Nat) → t.word adr = s.word adr)) ∧
  -- completes: reportWindowEnd
  (∀ (s : State) (r : Fin 12) (i : Nat), regsWf s → s.pwr.coreUp = true → s.en .hive = true → s.running = true → s.cyc.suspended = false → s.cyc.sampled = true → s.hive.windowOver = false → s.enRings = [r.val] → s.get HIVE_RSTAT_MODE r.val ≠ 3 → s.ncell r.val = 1 → s.slotAt r.val 0 = some i → (s.ringSt r.val).judged = false → s.hive.rings.length = 12 → (s.ringSt r.val).delivered.contains 0 = false → s.countsMisses i = true → s.getPk HIVE_RMISS_MISS_RUN 8 4 0 r.val + 1 = s.get HIVE_CFG_CELL_TMO → s.slotState i = 4 → s.inRun = false →
    ∃ t, exec .reportWindowEnd s = .next t ∧
      t.slotState i = 6 ∧
      t.get CELL_SSTAT_EXIT_CAUSE i = 3 ∧
      t.flag CELL_SSTAT_BYP_CONF i = false ∧
      t.flag ⟨ctrlAddr SRC_HIVE_CELL_TIMEOUT.blk 0x04, 0, 0, SRC_HIVE_CELL_TIMEOUT.s, 1⟩ = true ∧
      t.flag ⟨ctrlAddr SRC_CELL_LOST.blk 0x04, 0, 0, SRC_CELL_LOST.s, 1⟩ = true ∧
      t.pstate = s.pstate)

/-- In the train each slot whose frame stands in the store and which an end serves receives that frame with its position, end and CRC, and the frame is among those sent; a NAK empties the front end and queues a resend; in the resend window the slot's frame leaves again with RPT = 1 and RETRY counts it; the queue is then empty. It says of each of these that it completes with its own effect, exec answering the next state told, under hypotheses on the state and the operands alone: waggleTrainStart, nakRx, waggleResendWindow. (R138, R139, R145, R149, R150) -/
def Obligations.WaggleTrainsAndResends : Prop :=
  -- completes: waggleTrainStart
  (∀ (s : State) (r : Nat) (p : Nat) (i : Nat) (e : Bool), s.pwr.coreUp = true → s.hiveDrives = true → s.running = true → s.cyc.suspended = false → s.poison = [] → r ∈ s.enRings → p < s.ncell r → s.serveEnd r p = some e → s.slotAt r p = some i → s.hive.frames.contains i = true → (s.fe i).frame = none → s.fes.length = 192 →
    ∃ t, exec .waggleTrainStart s = .next t ∧
      (r, e, waggleFrame (s.bytes (waggleAddr i) 20) p e false) ∈ t.hive.sent ∧
      t.hive = { s.hive with sent := t.hive.sent } ∧
      (∃ a, (t.fe i).frame = some (waggleFrame (s.bytes (waggleAddr i) 20) p e false, a) ∧ 16 * (s.tTrain + 400) + s.pathDelay r p e ≤ a) ∧
      t = { s with hive := t.hive, fes := t.fes, time := t.time, pwr := t.pwr }) ∧
  -- completes: nakRx
  (∀ (s : State) (r : Fin 12) (e : Bool) (f : List (BitVec 8)) (i : Nat), s.pwr.coreUp = true → s.ringOn r.val = true → validFrame 0x9C 4 f = true → framePos f < s.ncell r.val → s.slotAt r.val (framePos f) = some i → s.get HIVE_RSTAT_MODE r.val ≠ 3 → s.hive.resends = false → s.hive.rings.length = 12 → s.fes.length = 192 →
    ∃ t, exec (.nakRx r e f) s = .next t ∧
      (t.fe i).frame = none ∧
      (t.ringSt r.val).naks = (s.ringSt r.val).naks ++ [(framePos f, e)] ∧
      t = { s with hive := t.hive, fes := t.fes }) ∧
  -- completes: nakRx
  (∀ (s : State) (r : Fin 12) (e : Bool) (f : List (BitVec 8)) (i : Nat), s.pwr.coreUp = true → s.ringOn r.val = true → validFrame 0x9C 4 f = true → framePos f < s.ncell r.val → s.slotAt r.val (framePos f) = some i → s.get HIVE_RSTAT_MODE r.val = 3 → s.hive.rings.length = 12 → s.fes.length = 192 →
    ∃ t, exec (.nakRx r e f) s = .next t ∧
      (t.fe i).frame = none ∧
      (t.ringSt r.val).nakCnt = (s.ringSt r.val).nakCnt + 1 ∧
      (t.ringSt r.val).naks = (s.ringSt r.val).naks ∧
      t.hive.sent = s.hive.sent ∧
      t = { s with hive := t.hive, fes := t.fes }) ∧
  -- completes: nakRx
  (∀ (s : State) (r : Fin 12) (e : Bool) (f : List (BitVec 8)) (i : Nat), regsWf s → s.pwr.coreUp = true → s.ringOn r.val = true → validFrame 0x9C 4 f = true → framePos f < s.ncell r.val → s.slotAt r.val (framePos f) = some i → s.hive.resends = true → s.hiveDrives = true → s.running = true → s.cyc.suspended = false → s.poison = [] → s.hive.frames.contains i = true → (if e then (s.ringSt r.val).resB else (s.ringSt r.val).resA).1 < s.get HIVE_CFG_WAG_RETRY → (if e then (s.ringSt r.val).resB else (s.ringSt r.val).resA).2 ≤ s.tResend → s.now ≤ s.samp + s.tResend → 16 * (s.tResend + 500) + s.pathDelay r.val (framePos f) e ≤ 16 * s.applyAt → s.get HIVE_RSTAT_MODE r.val ≠ 3 → s.hive.rings.length = 12 → s.fes.length = 192 →
    ∃ t, exec (.nakRx r e f) s = .next t ∧
      t.hive.sent = [(r.val, e, waggleFrame (s.bytes (waggleAddr i) 20) (framePos f) e true)] ∧
      (t.fe i).frame = some (waggleFrame (s.bytes (waggleAddr i) 20) (framePos f) e true, 16 * (s.tResend + 400) + s.pathDelay r.val (framePos f) e) ∧
      (if e then (t.ringSt r.val).resB else (t.ringSt r.val).resA) = ((if e then (s.ringSt r.val).resB else (s.ringSt r.val).resA).1 + 1, s.tResend + 400) ∧
      t.get HIVE_RCNT_RETRY r.val = satInc 0xFFFF (s.get HIVE_RCNT_RETRY r.val) ∧
      t = { s with regs := t.regs, hive := t.hive, fes := t.fes } ∧
      (∀ adr, adr ∉ ([0x050008 + 0x100 * r.val] : List Nat) → t.word adr = s.word adr)) ∧
  -- completes: waggleResendWindow
  (∀ (s : State) (r : Nat) (p : Nat) (i : Nat) (e : Bool), regsWf s → s.pwr.coreUp = true → s.hiveDrives = true → s.running = true → s.cyc.suspended = false → s.poison = [] → s.enRings = [r] → (s.ringSt r).naks = [(p, e)] → s.slotAt r p = some i → s.hive.frames.contains i = true → (if e then (s.ringSt r).resB else (s.ringSt r).resA).1 < s.get HIVE_CFG_WAG_RETRY → (if e then (s.ringSt r).resB else (s.ringSt r).resA).2 ≤ s.tResend → s.now ≤ s.samp + s.tResend → 16 * (s.tResend + 500) + s.pathDelay r p e ≤ 16 * s.applyAt → s.get HIVE_RSTAT_MODE r ≠ 3 → (s.fe i).frame = none → s.fes.length = 192 → s.hive.rings.length = 12 →
    ∃ t, exec .waggleResendWindow s = .next t ∧
      t.hive.sent = [(r, e, waggleFrame (s.bytes (waggleAddr i) 20) p e true)] ∧
      (t.ringSt r).naks = [] ∧
      t.hive.resends = true ∧
      (t.fe i).frame = some (waggleFrame (s.bytes (waggleAddr i) 20) p e true, 16 * (s.tResend + 400) + s.pathDelay r p e) ∧
      (if e then (t.ringSt r).resB else (t.ringSt r).resA) = ((if e then (s.ringSt r).resB else (s.ringSt r).resA).1 + 1, s.tResend + 400) ∧
      t.get HIVE_RCNT_RETRY r = satInc 0xFFFF (s.get HIVE_RCNT_RETRY r) ∧
      t = { s with regs := t.regs, hive := t.hive, fes := t.fes, time := t.time, pwr := t.pwr } ∧
      (∀ adr, adr ∉ ([0x050008 + 0x100 * r] : List Nat) → t.word adr = s.word adr))

/-- While a request to block stands, its repetition puts the BLOCK of the current SEQ and CAUSE on both ends of every enabled ring and blocks every front end it reaches, whatever that front end does; with no request standing it changes nothing. The other end's BLOCK ends the wait of an end; an end that waits in vain raises BLOCK_ECHO if its ring is not broken. It says of each of these that it completes with its own effect, exec answering the next state told, under hypotheses on the state and the operands alone: blockRepeat, blockEchoRx, blockEchoTimeout. (R137, R142, R161, R184) -/
def Obligations.BlockFramesAndTheirEcho : Prop :=
  -- completes: blockRepeat
  (∀ (s : State), s.pwr.coreUp = true → s.flag HIVE_BLOCK_ACTIVE = true → s.hiveDrives = true → s.fes.length = 192 →
    ∃ t, exec .blockRepeat s = .next t ∧
      t.hive.sent = s.enRings.flatMap (fun r => [(r, false, blockFrame false (s.get HIVE_BLOCK_CAUSE) (s.get HIVE_BLOCK_SEQ)), (r, true, blockFrame true (s.get HIVE_BLOCK_CAUSE) (s.get HIVE_BLOCK_SEQ))]) ∧
      ∀ i ∈ s.enSlots, s.flag HIVE_RCTL_RING_EN (s.get CELL_SCFG_RING i) = true → s.cutOff (s.get CELL_SCFG_RING i) (s.get CELL_SCFG_POS i) = false → (t.fe i).blocked = true ∧ (t.fe i).dabBlocked = true ∧ (t.fe i).st ≠ 4 ∧ (t.fe i).st ≠ 5 ∧
      t = { s with hive := t.hive, fes := t.fes }) ∧
  (∀ (s : State), s.pwr.coreUp = true → s.flag HIVE_BLOCK_ACTIVE = false →
    ∃ t, exec .blockRepeat s = .next t ∧
      t = s) ∧
  -- completes: blockEchoRx
  (∀ (s : State) (r : Fin 12) (e : Bool) (f : List (BitVec 8)), s.pwr.coreUp = true → s.ringOn r.val = true → validFrame 0xDC 8 f = true → leAt f 4 2 = s.get HIVE_BLOCK_SEQ → frameEnd f ≠ e → s.hive.rings.length = 12 →
    ∃ t, exec (.blockEchoRx r e f) s = .next t ∧
      t = s.setRingSt r.val { s.ringSt r.val with echo := (s.ringSt r.val).echo.filter (· != e) } ∧
      (t.ringSt r.val).echo.contains e = false) ∧
  -- completes: blockEchoTimeout
  (∀ (s : State) (r : Fin 12) (e : Bool), regsWf s → s.pwr.coreUp = true → s.ringOn r.val = true → (s.ringSt r.val).echo.contains e = true → (s.ringSt r.val).breaks = [] → s.hive.rings.length = 12 →
    ∃ t, exec (.blockEchoTimeout r e) s = .next t ∧
      t.flag ⟨ctrlAddr SRC_HIVE_BLOCK_ECHO.blk 0x04, 0, 0, SRC_HIVE_BLOCK_ECHO.s, 1⟩ = true ∧
      (t.ringSt r.val).echo.contains e = false ∧
      t = { s with regs := t.regs, hive := t.hive, pwr := { s.pwr with holdCopy := t.pwr.holdCopy }, cap := { s.cap with force := t.cap.force } } ∧
      (∀ adr, adr ∉ (evtRegs SRC_HIVE_BLOCK_ECHO.blk SRC_HIVE_BLOCK_ECHO.s : List Nat) → t.word adr = s.word adr)) ∧
  -- completes: blockEchoTimeout
  (∀ (s : State) (r : Fin 12) (e : Bool), s.pwr.coreUp = true → s.ringOn r.val = true → (s.ringSt r.val).echo.contains e = true → (s.ringSt r.val).breaks ≠ [] → s.hive.rings.length = 12 →
    ∃ t, exec (.blockEchoTimeout r e) s = .next t ∧
      t = s.setRingSt r.val { s.ringSt r.val with echo := (s.ringSt r.val).echo.filter (· != e) })

/-- The first break of a ring is recorded in BREAK_HOP, sets MODE to fragment service and raises BREAK; a further one sets MULTI; an end that loses lock clears its UP bit and acts as a break beside it. Fragment service takes effect on the declared hops. A heal report or the return of lock asks for re-keying. With the conditions of the return met, RESTORE is held and the return at a cycle start sets MODE to normal and forgets the breaks; RESTORE is refused with 0x0525 while they are unmet. It says of each of these that it completes with its own effect, exec answering the next state told, under hypotheses on the state and the operands alone: breakRx, endLockLoss, endLockRegain, fragmentService, ringRestore, normalServiceReturn. (R166, R167, R168, R169, R170, R172) -/
def Obligations.BreaksAreDeclaredServedAndHealed : Prop :=
  -- completes: breakRx
  (∀ (s : State) (r : Fin 12) (f : List (BitVec 8)), regsWf s → s.pwr.coreUp = true → s.ringOn r.val = true → validFrame 0xFC 8 f = true → bitOf (byteAt f 2) 5 = false → (s.ringSt r.val).breaks = [] → s.tight = false → s.hive.tx = [] → s.hive.waiting = [] → s.hive.rings.length = 12 →
    ∃ t, exec (.breakRx r f) s = .next t ∧
      (t.ringSt r.val).breaks = [byteAt f 2 % 16 + b2n (bitOf (byteAt f 2) 4)] ∧
      (t.ringSt r.val).lastBreak = s.now ∧
      t.get HIVE_RSTAT_BREAK_HOP r.val = byteAt f 2 % 16 + b2n (bitOf (byteAt f 2) 4) ∧
      t.get HIVE_RSTAT_MODE r.val = 2 ∧
      t.get HIVE_RSTAT_MULTI r.val = s.get HIVE_RSTAT_MULTI r.val ∧
      t.flag ⟨ctrlAddr SRC_HIVE_BREAK.blk 0x04, 0, 0, SRC_HIVE_BREAK.s, 1⟩ = true ∧
      t = { s with regs := t.regs, hive := t.hive, pwr := { s.pwr with holdCopy := t.pwr.holdCopy }, cap := { s.cap with force := t.cap.force } } ∧
      (∀ adr, adr ∉ ((0x050000 + 0x100 * r.val + 4) :: evtRegs SRC_HIVE_BREAK.blk SRC_HIVE_BREAK.s : List Nat) → t.word adr = s.word adr)) ∧
  -- completes: breakRx
  (∀ (s : State) (r : Fin 12) (f : List (BitVec 8)), regsWf s → s.pwr.coreUp = true → s.ringOn r.val = true → validFrame 0xFC 8 f = true → bitOf (byteAt f 2) 5 = false → (s.ringSt r.val).breaks ≠ [] → (s.ringSt r.val).breaks.contains (byteAt f 2 % 16 + b2n (bitOf (byteAt f 2) 4)) = false → s.tight = false → s.hive.tx = [] → s.hive.waiting = [] → s.hive.rings.length = 12 →
    ∃ t, exec (.breakRx r f) s = .next t ∧
      (t.ringSt r.val).breaks = (s.ringSt r.val).breaks ++ [byteAt f 2 % 16 + b2n (bitOf (byteAt f 2) 4)] ∧
      t.get HIVE_RSTAT_BREAK_HOP r.val = s.get HIVE_RSTAT_BREAK_HOP r.val ∧
      t.get HIVE_RSTAT_MODE r.val = 2 ∧
      t.get HIVE_RSTAT_MULTI r.val = 1 ∧
      t.flag ⟨ctrlAddr SRC_HIVE_BREAK.blk 0x04, 0, 0, SRC_HIVE_BREAK.s, 1⟩ = true ∧
      t = { s with regs := t.regs, hive := t.hive, pwr := { s.pwr with holdCopy := t.pwr.holdCopy }, cap := { s.cap with force := t.cap.force } } ∧
      (∀ adr, adr ∉ ((0x050000 + 0x100 * r.val + 4) :: evtRegs SRC_HIVE_BREAK.blk SRC_HIVE_BREAK.s : List Nat) → t.word adr = s.word adr)) ∧
  -- completes: breakRx
  (∀ (s : State) (r : Fin 12) (f : List (BitVec 8)), s.pwr.coreUp = true → s.ringOn r.val = true → validFrame 0xFC 8 f = true → bitOf (byteAt f 2) 5 = true → (s.ringSt r.val).breaks.contains (byteAt f 2 % 16 + b2n (bitOf (byteAt f 2) 4)) = true → s.hive.rings.length = 12 →
    ∃ t, exec (.breakRx r f) s = .next t ∧
      (t.ringSt r.val).healed.contains (byteAt f 2 % 16 + b2n (bitOf (byteAt f 2) 4)) = true ∧
      (t.ringSt r.val).rekey = 1 ∧
      t = s.setRingSt r.val (t.ringSt r.val)) ∧
  -- completes: breakRx
  (∀ (s : State) (r : Fin 12) (f : List (BitVec 8)), regsWf s → s.pwr.coreUp = true → s.ringOn r.val = true → validFrame 0xFC 8 f = true → bitOf (byteAt f 2) 5 = false → (s.ringSt r.val).breaks.contains (byteAt f 2 % 16 + b2n (bitOf (byteAt f 2) 4)) = true → (s.ringSt r.val).healed.contains (byteAt f 2 % 16 + b2n (bitOf (byteAt f 2) 4)) = true → s.hive.rings.length = 12 →
    ∃ t, exec (.breakRx r f) s = .next t ∧
      (t.ringSt r.val).healed.contains (byteAt f 2 % 16 + b2n (bitOf (byteAt f 2) 4)) = false ∧
      (t.ringSt r.val).breaks = (s.ringSt r.val).breaks ∧
      (t.ringSt r.val).lastBreak = s.now ∧
      (t.ringSt r.val).rekey = 0 ∧
      t.flag ⟨ctrlAddr SRC_HIVE_BREAK.blk 0x04, 0, 0, SRC_HIVE_BREAK.s, 1⟩ = true ∧
      t = { s with regs := t.regs, hive := t.hive, pwr := { s.pwr with holdCopy := t.pwr.holdCopy }, cap := { s.cap with force := t.cap.force } } ∧
      (∀ adr, adr ∉ (evtRegs SRC_HIVE_BREAK.blk SRC_HIVE_BREAK.s : List Nat) → t.word adr = s.word adr)) ∧
  -- completes: endLockLoss
  (∀ (s : State) (r : Fin 12) (e : Bool), regsWf s → s.pwr.coreUp = true → s.ringOn r.val = true → (s.ringSt r.val).breaks = [] → s.tight = false → s.hive.tx = [] → s.hive.waiting = [] → s.hive.rings.length = 12 →
    ∃ t, exec (.endLockLoss r e) s = .next t ∧
      (if e then t.flag HIVE_RSTAT_B_UP r.val else t.flag HIVE_RSTAT_A_UP r.val) = false ∧
      (t.ringSt r.val).breaks = [if e then s.ncell r.val else 0] ∧
      t.get HIVE_RSTAT_BREAK_HOP r.val = (if e then s.ncell r.val else 0) ∧
      t.get HIVE_RSTAT_MODE r.val = 2 ∧
      t.flag ⟨ctrlAddr SRC_HIVE_BREAK.blk 0x04, 0, 0, SRC_HIVE_BREAK.s, 1⟩ = true ∧
      t = { s with regs := t.regs, hive := t.hive, pwr := { s.pwr with holdCopy := t.pwr.holdCopy }, cap := { s.cap with force := t.cap.force } } ∧
      (∀ adr, adr ∉ ((0x050000 + 0x100 * r.val + 4) :: evtRegs SRC_HIVE_BREAK.blk SRC_HIVE_BREAK.s : List Nat) → t.word adr = s.word adr)) ∧
  -- completes: endLockRegain
  (∀ (s : State) (r : Fin 12) (e : Bool), regsWf s → s.pwr.coreUp = true → s.ringOn r.val = true → (s.ringSt r.val).breaks.contains (if e then s.ncell r.val else 0) = true → s.hive.rings.length = 12 →
    ∃ t, exec (.endLockRegain r e) s = .next t ∧
      (if e then t.flag HIVE_RSTAT_B_UP r.val else t.flag HIVE_RSTAT_A_UP r.val) = true ∧
      (t.ringSt r.val).healed.contains (if e then s.ncell r.val else 0) = true ∧
      (t.ringSt r.val).rekey = 1 ∧
      (t.ringSt r.val).breaks = (s.ringSt r.val).breaks ∧
      t = { s with regs := t.regs, hive := t.hive } ∧
      (∀ adr, adr ∉ ([0x050000 + 0x100 * r.val + 4] : List Nat) → t.word adr = s.word adr)) ∧
  -- completes: fragmentService
  (∀ (s : State) (r : Fin 12), s.pwr.coreUp = true → s.hive.rings.length = 12 →
    ∃ t, exec (.fragmentService r) s = .next t ∧
      t = s.setRingSt r.val { s.ringSt r.val with served := (s.ringSt r.val).breaks } ∧
      (t.ringSt r.val).served = (s.ringSt r.val).breaks) ∧
  -- completes: ringRestore
  (∀ (s : State) (r : Fin 12), s.pwr.coreUp = true → s.healable r.val = true → s.hive.rings.length = 12 →
    ∃ t, exec (.ringRestore r) s = .next t ∧
      t = s.setRingSt r.val { s.ringSt r.val with restore := true } ∧
      (t.ringSt r.val).restore = true) ∧
  (∀ (s : State) (r : Fin 12), regsWf s → s.pwr.coreUp = true → s.healable r.val = false →
    ∃ t, exec (.ringRestore r) s = .next t ∧
      t.get (CHK_REASON .hive) = 0x0525 ∧
      t.get (CHK_UNIT .hive) = r.val ∧
      t.get (CHK_OFFSET .hive) = 0 ∧
      RegsOnly s t ∧
      (∀ adr, adr ∉ (refuseRegs .hive : List Nat) → t.word adr = s.word adr)) ∧
  -- completes: normalServiceReturn
  (∀ (s : State) (r : Fin 12), regsWf s → s.pwr.coreUp = true → s.healable r.val = true → (s.flag HIVE_RCTL_AUTO_HEAL r.val = true ∨ (s.ringSt r.val).restore = true) → s.hive.rings.length = 12 →
    ∃ t, exec (.normalServiceReturn r) s = .next t ∧
      t.get HIVE_RSTAT_MODE r.val = 1 ∧
      t.flag HIVE_RSTAT_MULTI r.val = false ∧
      t.ringSt r.val = { s.ringSt r.val with breaks := [], served := [], healed := [], rekey := 0, restore := false } ∧
      t = { s with regs := t.regs, hive := t.hive } ∧
      (∀ adr, adr ∉ ([0x050000 + 0x100 * r.val + 4] : List Nat) → t.word adr = s.word adr)) ∧
  (∀ (s : State) (r : Fin 12), s.pwr.coreUp = true → s.healable r.val = false →
    ∃ t, exec (.normalServiceReturn r) s = .next t ∧
      t = s)

/-- A KEY echo adds its round trip less TURN to its end's samples. A keying pass of a whole ring with agreeing hops sets FOUND to its length, KEYED and MODE 1, and HIVE_RDLY to the path delays measured from both ends; a hop above 40 ns leaves the ring unkeyed, records 0x0520 and raises KEY_FAIL. A re-keying pass that agrees with HIVE_RDLY allows the return; one that disagrees records 0x0522 with KEY_FAIL. Enumeration of an absent cell sends ASSIGN, puts the slot into ENUM and asks for the identity words. It says of each of these that it completes with its own effect, exec answering the next state told, under hypotheses on the state and the operands alone: keyEchoRx, keyingPass, rekeyPass, enumeration. (R162, R163, R164, R165, R170, R180, R187) -/
def Obligations.KeyingAndEnumeration : Prop :=
  -- completes: keyEchoRx
  (∀ (s : State) (r : Fin 12) (e : Bool) (f : List (BitVec 8)) (trip : Nat), s.pwr.coreUp = true → s.ringOn r.val = true → validFrame 0xFD 8 f = true → bitOf (byteAt f 3) 0 = true → (s.ringSt r.val).keyEnd.contains e = false → s.hive.rings.length = 12 →
    ∃ t, exec (.keyEchoRx r e f trip) s = .next t ∧
      (t.ringSt r.val).keyA = (s.ringSt r.val).keyA ++ (if e then [] else [(s.keyTarget r.val e f, (trip : Int) - leAt f 4 2)]) ∧
      (t.ringSt r.val).keyB = (s.ringSt r.val).keyB ++ (if e then [(s.keyTarget r.val e f, (trip : Int) - leAt f 4 2)] else []) ∧
      t = s.setRingSt r.val (t.ringSt r.val)) ∧
  -- completes: keyEchoRx
  (∀ (s : State) (r : Fin 12) (e : Bool) (f : List (BitVec 8)) (trip : Nat), s.pwr.coreUp = true → s.ringOn r.val = true → validFrame 0xFD 8 f = true → bitOf (byteAt f 3) 0 = false → s.hive.rings.length = 12 →
    ∃ t, exec (.keyEchoRx r e f trip) s = .next t ∧
      (t.ringSt r.val).keyEnd.contains (!e) = true ∧
      (t.ringSt r.val).keyA = (s.ringSt r.val).keyA ∧
      (t.ringSt r.val).keyB = (s.ringSt r.val).keyB ∧
      t = s.setRingSt r.val (t.ringSt r.val)) ∧
  -- completes: keyingPass
  (∀ (s : State) (r : Fin 12) (m : List Int × List Int), regsWf s → s.pwr.coreUp = true → s.ringOn r.val = true → s.keyed r.val = m → m.1.length = s.ncell r.val → 0 < s.ncell r.val → s.ncell r.val ≤ 16 → (s.ringSt r.val).breaks = [] → (hopDelays m.1 ++ hopDelays m.2).any (fun h => decide (640 < h)) = false → hopsAgree (s.get HIVE_KEY_CFG_KEY_TOL) m.1 m.2 = true → m.2.length = s.ncell r.val → s.hive.rings.length = 12 →
    ∃ t, exec (.keyingPass r) s = .next t ∧
      t.get HIVE_RSTAT_FOUND r.val = s.ncell r.val ∧
      t.flag HIVE_RSTAT_KEYED r.val = true ∧
      t.get HIVE_RSTAT_MODE r.val = 1 ∧
      t.flag HIVE_RSTAT_A_UP r.val = true ∧
      t.flag HIVE_RSTAT_B_UP r.val = true ∧
      ∀ p ∈ List.range (s.ncell r.val), t.get HIVE_RDLY_DLY_A r.val p = (m.1.getD p 0).toNat % 0x10000 ∧ t.get HIVE_RDLY_DLY_B r.val p = (m.2.getD (s.ncell r.val - 1 - p) 0).toNat % 0x10000 ∧
      t.get HIVE_RSTAT_MULTI r.val = 0 ∧
      t.ringSt r.val = { s.ringSt r.val with keyA := [], keyB := [], keyEnd := [], breaks := [], served := [], healed := [], rekey := 0, restore := false } ∧
      (s.hiveDrives = true → t.hive.sent = s.keySends r.val false m.1.length ++ s.keySends r.val true m.2.length) ∧
      t = { s with regs := t.regs, hive := t.hive } ∧
      (∀ adr, adr ∉ ((0x050000 + 0x100 * r.val + 4) :: (List.range (s.ncell r.val)).map (fun p => 0x050000 + 0x100 * r.val + 0x40 + 4 * p) : List Nat) → t.word adr = s.word adr)) ∧
  (∀ (s : State) (r : Fin 12) (m : List Int × List Int), regsWf s → s.pwr.coreUp = true → s.ringOn r.val = true → s.keyed r.val = m → m.1.length = s.ncell r.val → 0 < s.ncell r.val → s.ncell r.val ≤ 16 → (hopDelays m.1 ++ hopDelays m.2).any (fun h => decide (640 < h)) = true → (s.ringSt r.val).breaks = [] →
    ∃ t, exec (.keyingPass r) s = .next t ∧
      t.flag HIVE_RSTAT_KEYED r.val = false ∧
      t.get (CHK_REASON .hive) = 0x0520 ∧
      t.get (CHK_UNIT .hive) = r.val ∧
      t.get (CHK_OFFSET .hive) = 0x40 ∧
      t.flag ⟨ctrlAddr SRC_HIVE_KEY_FAIL.blk 0x04, 0, 0, SRC_HIVE_KEY_FAIL.s, 1⟩ = true ∧
      t = { s with regs := t.regs, hive := t.hive, pwr := { s.pwr with holdCopy := t.pwr.holdCopy }, cap := { s.cap with force := t.cap.force } } ∧
      (∀ adr, adr ∉ ((0x050000 + 0x100 * r.val + 4) :: refuseRegs .hive ++ evtRegs SRC_HIVE_KEY_FAIL.blk SRC_HIVE_KEY_FAIL.s : List Nat) → t.word adr = s.word adr)) ∧
  -- completes: rekeyPass
  (∀ (s : State) (r : Fin 12) (m : List Int × List Int), s.pwr.coreUp = true → s.ringOn r.val = true → (s.ringSt r.val).rekey = 1 → (s.ringSt r.val).breaks.all (fun h => (s.ringSt r.val).healed.contains h) = true → s.keyed r.val = m → s.hive.rings.length = 12 → m.1.length = s.ncell r.val → m.2.length = s.ncell r.val → ((hopDelays m.1).zip (hopDelays ((List.range (s.ncell r.val)).map (fun p => (s.get HIVE_RDLY_DLY_A r.val p : Int))))).all (fun q => decide ((q.1 - q.2).natAbs ≤ s.get HIVE_KEY_CFG_KEY_TOL)) = true → ((hopDelays m.2).zip (hopDelays ((List.range (s.ncell r.val)).map (fun p => (s.get HIVE_RDLY_DLY_B r.val (s.ncell r.val - 1 - p) : Int))))).all (fun q => decide ((q.1 - q.2).natAbs ≤ s.get HIVE_KEY_CFG_KEY_TOL)) = true →
    ∃ t, exec (.rekeyPass r) s = .next t ∧
      t.ringSt r.val = { s.ringSt r.val with keyA := [], keyB := [], keyEnd := [], rekey := 2 } ∧
      (s.hiveDrives = true → t.hive.sent = s.keySends r.val false (s.ncell r.val) ++ s.keySends r.val true (s.ncell r.val)) ∧
      t = { s with hive := t.hive }) ∧
  (∀ (s : State) (r : Fin 12) (m : List Int × List Int), regsWf s → s.pwr.coreUp = true → s.ringOn r.val = true → (s.ringSt r.val).rekey = 1 → (s.ringSt r.val).breaks.all (fun h => (s.ringSt r.val).healed.contains h) = true → s.keyed r.val = m → s.hive.rings.length = 12 → ((hopDelays m.1).zip (hopDelays ((List.range (s.ncell r.val)).map (fun p => (s.get HIVE_RDLY_DLY_A r.val p : Int))))).all (fun q => decide ((q.1 - q.2).natAbs ≤ s.get HIVE_KEY_CFG_KEY_TOL)) = false →
    ∃ t, exec (.rekeyPass r) s = .next t ∧
      (t.ringSt r.val).rekey = 3 ∧
      t.get (CHK_REASON .hive) = 0x0522 ∧
      t.get (CHK_UNIT .hive) = r.val ∧
      t.get (CHK_OFFSET .hive) = 0x40 ∧
      t.flag ⟨ctrlAddr SRC_HIVE_KEY_FAIL.blk 0x04, 0, 0, SRC_HIVE_KEY_FAIL.s, 1⟩ = true ∧
      t = { s with regs := t.regs, hive := t.hive, pwr := { s.pwr with holdCopy := t.pwr.holdCopy }, cap := { s.cap with force := t.cap.force } } ∧
      (∀ adr, adr ∉ (refuseRegs .hive ++ evtRegs SRC_HIVE_KEY_FAIL.blk SRC_HIVE_KEY_FAIL.s : List Nat) → t.word adr = s.word adr)) ∧
  -- completes: enumeration
  (∀ (s : State) (r : Fin 12) (p : Fin 16) (i : Nat) (tag : Nat), regsWf s → s.pwr.coreUp = true → s.ringOn r.val = true → s.flag HIVE_RSTAT_KEYED r.val = true → p.val < s.ncell r.val → s.en .cell = true → s.slotAt r.val p.val = some i → s.cutOff r.val p.val = false → s.endPlace r.val p.val = true → (List.range p.val).all (fun q => s.handedOver r.val q) = true → s.get CELL_SSTAT_STATE i = 0 → s.hiveDrives = true → (s.ringSt r.val).breaks = [] → s.hive.waiting = [] → s.freeTag false = some tag → s.perCellOk r.val p.val = true → s.en .part = false → s.fes.length = 192 →
    ∃ t, exec (.enumeration r p) s = .next t ∧
      t.get CELL_SSTAT_STATE i = 1 ∧
      t.hive.sent = [(r.val, false, assignFrame s r.val p.val false)] ∧
      t.hive.tx = s.hive.tx ++ [⟨tag, (s.hive.gens.getD tag 0 + 1) % 4, r.val, p.val, 1, 0, 8, [], [], 1, 0, true, 0, 0, 0⟩] ∧
      (t.fe i).st = 1 ∧
      (t.fe i).byp = true ∧
      (t.fe i).cyc = none ∧
      t.getPk OUT_ALLOC_POS_POS 8 4 i = 0xF ∧
      ∀ k ∈ List.range 4, t.word (CAL_T_IAC_G.addr i 0 + 4 * k) = 0 ∧
      t = { s with regs := t.regs, hive := t.hive, fes := t.fes, cal := t.cal, cell := t.cell } ∧
      (∀ adr, adr ∉ ((0x060008 + 0x100 * i) :: 0x051214 :: OUT_ALLOC_POS_POS.addr 0 (i / 8) :: (List.range 4).map (fun k => CAL_T_IAC_G.addr i 0 + 4 * k) : List Nat) → t.word adr = s.word adr))

/-- BYPASS, CLEAR and ARM of a slot are held for judgement, a second one replacing the first; beside an active partner they are refused with STATE and nothing is held. A bypass unconfirmed for BYP_TIME with reports arriving raises BYP_UNCONF; a slot not primed in time leaves ENUM for BYPASSED with cause 1. It says of each of these that it completes with its own effect, exec answering the next state told, under hypotheses on the state and the operands alone: cellBypass, cellClear, cellArm, bypUnconfTimeout, enumTimeout. (R180, R183, R185, R516, R521) -/
def Obligations.CellCommandsWaitAndSlotsTimeOut : Prop :=
  -- completes: cellBypass
  (∀ (s : State) (i : Fin 192), s.pwr.coreUp = true → s.follows = false →
    ∃ t, exec (.cellBypass i) s = .next t ∧
      t = { s with cell := { s.cell with cmds := s.cell.cmds.filter (fun c => c.1 != i.val) ++ [(i.val, 11)] } } ∧
      (i.val, 11) ∈ t.cell.cmds) ∧
  -- completes: cellClear
  (∀ (s : State) (i : Fin 192), s.pwr.coreUp = true → s.follows = false →
    ∃ t, exec (.cellClear i) s = .next t ∧
      t = { s with cell := { s.cell with cmds := s.cell.cmds.filter (fun c => c.1 != i.val) ++ [(i.val, 12)] } } ∧
      (i.val, 12) ∈ t.cell.cmds) ∧
  -- completes: cellArm
  (∀ (s : State) (i : Fin 192), s.pwr.coreUp = true → s.follows = false →
    ∃ t, exec (.cellArm i) s = .next t ∧
      t = { s with cell := { s.cell with cmds := s.cell.cmds.filter (fun c => c.1 != i.val) ++ [(i.val, 13)] } } ∧
      (i.val, 13) ∈ t.cell.cmds) ∧
  (∀ (s : State) (i : Fin 192), regsWf s → s.pwr.coreUp = true → s.follows = true →
    ∃ t, exec (.cellBypass i) s = .next t ∧
      t.get (CHK_REASON .cell) = 0x060A ∧
      t.get (CHK_UNIT .cell) = i.val ∧
      t.get (CHK_OFFSET .cell) = 4 ∧
      t.cell = s.cell ∧
      RegsOnly s t ∧
      (∀ adr, adr ∉ (refuseRegs .cell : List Nat) → t.word adr = s.word adr)) ∧
  (∀ (s : State) (i : Fin 192), regsWf s → s.pwr.coreUp = true → s.follows = true →
    ∃ t, exec (.cellClear i) s = .next t ∧
      t.get (CHK_REASON .cell) = 0x060A ∧
      t.get (CHK_UNIT .cell) = i.val ∧
      t.get (CHK_OFFSET .cell) = 4 ∧
      t.cell = s.cell ∧
      RegsOnly s t ∧
      (∀ adr, adr ∉ (refuseRegs .cell : List Nat) → t.word adr = s.word adr)) ∧
  (∀ (s : State) (i : Fin 192), regsWf s → s.pwr.coreUp = true → s.follows = true →
    ∃ t, exec (.cellArm i) s = .next t ∧
      t.get (CHK_REASON .cell) = 0x060A ∧
      t.get (CHK_UNIT .cell) = i.val ∧
      t.get (CHK_OFFSET .cell) = 4 ∧
      t.cell = s.cell ∧
      RegsOnly s t ∧
      (∀ adr, adr ∉ (refuseRegs .cell : List Nat) → t.word adr = s.word adr)) ∧
  -- completes: bypUnconfTimeout
  (∀ (s : State) (i : Fin 192), regsWf s → s.pwr.coreUp = true → s.en .cell = true → s.cell.left.any (fun p => p.1 == i.val) = true → s.flag CELL_SSTAT_BYP_CONF i.val = false → s.reportsArrive i.val = true → s.cell.unconf.contains i.val = false →
    ∃ t, exec (.bypUnconfTimeout i) s = .next t ∧
      t.flag ⟨ctrlAddr SRC_CELL_BYP_UNCONF.blk 0x04, 0, 0, SRC_CELL_BYP_UNCONF.s, 1⟩ = true ∧
      t.cell = { s.cell with unconf := s.cell.unconf ++ [i.val] } ∧
      t = { s with regs := t.regs, cell := t.cell, pwr := { s.pwr with holdCopy := t.pwr.holdCopy }, cap := { s.cap with force := t.cap.force } } ∧
      (∀ adr, adr ∉ (evtRegs SRC_CELL_BYP_UNCONF.blk SRC_CELL_BYP_UNCONF.s : List Nat) → t.word adr = s.word adr)) ∧
  -- completes: enumTimeout
  (∀ (s : State) (i : Fin 192), regsWf s → s.pwr.coreUp = true → s.slotState i.val = 1 →
    ∃ t, exec (.enumTimeout i) s = .next t ∧
      t.slotState i.val = 6 ∧
      t.get CELL_SSTAT_EXIT_CAUSE i.val = 1 ∧
      t.flag CELL_SSTAT_BYP_CONF i.val = false ∧
      t.cell.left = s.cell.left ∧
      ∀ j ∈ slots, j ≠ i.val → t.slotState j = s.slotState j ∧
      t = { s with regs := t.regs, cell := t.cell } ∧
      (∀ adr, adr ∉ ([0x060008 + 0x100 * i.val, 0x06C120, 0x06C124, 0x06C128] : List Nat) → t.word adr = s.word adr)) ∧
  (∀ (s : State) (i : Fin 192), s.pwr.coreUp = true → s.slotState i.val ≠ 1 →
    ∃ t, exec (.enumTimeout i) s = .next t ∧
      t = s)

/-- A received frame that fits the cycle and begins at the present levels of both legs governs: the front end stays ACTIVE, its coast count is 0, the frame is the set last applied and the legs end as the edges leave them. Without a frame it coasts, one cycle more each time; at its limit it closes its bypass. HOLD takes it to READY and BYPASS to BYPASSED with the bypass closed. No register changes, and no frame is left for the next cycle. It says of each of these that it completes with its own effect, exec answering the next state told, under hypotheses on the state and the operands alone: applyPoint. (R187, R195, R197, R199, R202) -/
def Obligations.FrontEndsActAtTheApplyPoint : Prop :=
  -- completes: applyPoint
  (∀ (s : State) (i : Fin 192) (f : List (BitVec 8)) (came : Nat), s.pwr.coreUp = true → s.running = true → s.cyc.suspended = false → s.flag SYS_PWR_STATE_STANDBY = false → s.flag CELL_SCFG_SLOT_EN i.val = true → s.fes.length = 192 → (s.fe i.val).pend = 0 → (s.fe i.val).st = 4 → (s.fe i.val).frame = some (f, came) → s.frameFits (s.fe i.val) f came = true → frLaInit f = (s.fe i.val).la → frLbInit f = (s.fe i.val).lb →
    ∃ t, exec .applyPoint s = .next t ∧
      (t.fe i.val).st = 4 ∧
      (t.fe i.val).coast = 0 ∧
      (t.fe i.val).last = f ∧
      (t.fe i.val).la = (if frLaN f % 2 = 1 then !frLaInit f else frLaInit f) ∧
      (t.fe i.val).lb = (if frLbN f % 2 = 1 then !frLbInit f else frLbInit f) ∧
      (t.fe i.val).frame = none ∧
      (t.fe i.val).pend = 0 ∧
      t.regs = s.regs ∧
      t = { s with fes := t.fes, time := t.time, pwr := t.pwr }) ∧
  -- completes: applyPoint
  (∀ (s : State) (i : Fin 192), s.pwr.coreUp = true → s.running = true → s.cyc.suspended = false → s.flag SYS_PWR_STATE_STANDBY = false → s.flag CELL_SCFG_SLOT_EN i.val = true → s.fes.length = 192 → (s.fe i.val).pend = 0 → (s.fe i.val).st = 4 → (s.fe i.val).frame = none → (s.fe i.val).coast < bitsOf (s.fe i.val).pulse 20 2 →
    ∃ t, exec .applyPoint s = .next t ∧
      (t.fe i.val).st = 5 ∧
      (t.fe i.val).coast = (s.fe i.val).coast + 1 ∧
      (t.fe i.val).last = (s.fe i.val).last ∧
      (t.fe i.val).byp = (s.fe i.val).byp ∧
      (t.fe i.val).frame = none ∧
      (t.fe i.val).pend = 0 ∧
      t.regs = s.regs ∧
      t = { s with fes := t.fes, time := t.time, pwr := t.pwr }) ∧
  -- completes: applyPoint
  (∀ (s : State) (i : Fin 192), s.pwr.coreUp = true → s.running = true → s.cyc.suspended = false → s.flag SYS_PWR_STATE_STANDBY = false → s.flag CELL_SCFG_SLOT_EN i.val = true → s.fes.length = 192 → (s.fe i.val).pend = 0 → (s.fe i.val).st = 4 → (s.fe i.val).frame = none → bitsOf (s.fe i.val).pulse 20 2 ≤ (s.fe i.val).coast →
    ∃ t, exec .applyPoint s = .next t ∧
      (t.fe i.val).st = 6 ∧
      (t.fe i.val).byp = true ∧
      (t.fe i.val).frame = none ∧
      (t.fe i.val).pend = 0 ∧
      t.regs = s.regs ∧
      t = { s with fes := t.fes, time := t.time, pwr := t.pwr }) ∧
  -- completes: applyPoint
  (∀ (s : State) (i : Fin 192), s.pwr.coreUp = true → s.running = true → s.cyc.suspended = false → s.flag SYS_PWR_STATE_STANDBY = false → s.flag CELL_SCFG_SLOT_EN i.val = true → s.fes.length = 192 → (s.fe i.val).pend = 1 → (s.fe i.val).st = 4 →
    ∃ t, exec .applyPoint s = .next t ∧
      (t.fe i.val).st = 3 ∧
      (t.fe i.val).frame = none ∧
      (t.fe i.val).pend = 0 ∧
      t.regs = s.regs ∧
      t = { s with fes := t.fes, time := t.time, pwr := t.pwr }) ∧
  -- completes: applyPoint
  (∀ (s : State) (i : Fin 192), s.pwr.coreUp = true → s.running = true → s.cyc.suspended = false → s.flag SYS_PWR_STATE_STANDBY = false → s.flag CELL_SCFG_SLOT_EN i.val = true → s.fes.length = 192 → (s.fe i.val).pend = 2 → (s.fe i.val).st = 4 →
    ∃ t, exec .applyPoint s = .next t ∧
      (t.fe i.val).st = 6 ∧
      (t.fe i.val).byp = true ∧
      (t.fe i.val).frame = none ∧
      (t.fe i.val).pend = 0 ∧
      t.regs = s.regs ∧
      t = { s with fes := t.fes, time := t.time, pwr := t.pwr })

/-- A host that owns an output in use turns it on and off: CMD_ON shows the command, and with the supply and the heartbeat present, no forcing and no fault the output follows, each turning on counted in OPS; an output of another owner is refused with 0x1424 and one not in use with STATE, with nothing changed. A short of an output that is on, an open load of one that is off and a reversed supply set their bit, raise their source and leave the output off. CLR clears the bits whose condition is gone and keeps one whose condition is present, with its reason. It says of each of these that it completes with its own effect, exec answering the next state told, under hypotheses on the state and the operands alone: ctcOn, ctcOff, ctcShort, ctcOpenLoad, ctcReverse, ctcClr. (R55, R56, R473, R474, R475) -/
def Obligations.CoilOutputsObeyTheirOwner : Prop :=
  -- completes: ctcOn
  (∀ (s : State) (o : Fin 40), regsWf s → s.pwr.coreUp = true → s.en .ctc = true → s.flag CTC_OCFG_EN o.val = true → s.get CTC_OCFG_OWNER o.val = 0 → s.pins.rails.contains .v5a = true → s.pwr.heartbeat = true → s.forcedOff o.val = false → s.flag CTC_OSTAT_SHORT o.val = false → s.flag CTC_OSTAT_OPEN o.val = false → s.flag CTC_OSTAT_REVERSE o.val = false → s.flag CTC_OCFG_FOLLOW_EN o.val = false → s.en .part = false →
    ∃ t, exec (.ctcOn o) s = .next t ∧
      t.flag CTC_OSTAT_CMD_ON o.val = true ∧
      t.flag CTC_OSTAT_ENERGISED o.val = true ∧
      t.get CTC_OSTAT_OPS o.val = (if s.flag CTC_OSTAT_ENERGISED o.val then s.get CTC_OSTAT_OPS o.val else satInc 0xFFFF (s.get CTC_OSTAT_OPS o.val)) ∧
      t = { s with regs := t.regs, ctc := t.ctc } ∧
      (∀ adr, adr ∉ (coilWords s o.val : List Nat) → t.word adr = s.word adr)) ∧
  -- completes: ctcOff
  (∀ (s : State) (o : Fin 40), regsWf s → s.pwr.coreUp = true → s.en .ctc = true → s.flag CTC_OCFG_EN o.val = true → s.get CTC_OCFG_OWNER o.val = 0 → s.pwr.heartbeat = true → s.flag CTC_OCFG_FOLLOW_EN o.val = false → s.en .part = false →
    ∃ t, exec (.ctcOff o) s = .next t ∧
      t.flag CTC_OSTAT_CMD_ON o.val = false ∧
      t.flag CTC_OSTAT_ENERGISED o.val = false ∧
      t.get CTC_OSTAT_OPS o.val = s.get CTC_OSTAT_OPS o.val ∧
      t = { s with regs := t.regs, ctc := t.ctc } ∧
      (∀ adr, adr ∉ (coilWords s o.val : List Nat) → t.word adr = s.word adr)) ∧
  (∀ (s : State) (o : Fin 40), regsWf s → s.pwr.coreUp = true → s.en .ctc = true → s.flag CTC_OCFG_EN o.val = true → s.get CTC_OCFG_OWNER o.val ≠ 0 →
    ∃ t, exec (.ctcOn o) s = .next t ∧
      t.get (CHK_REASON .ctc) = 0x1424 ∧
      t.get (CHK_UNIT .ctc) = o.val ∧
      t.get (CHK_OFFSET .ctc) = 8 ∧
      RegsOnly s t ∧
      (∀ adr, adr ∉ (refuseRegs .ctc : List Nat) → t.word adr = s.word adr)) ∧
  (∀ (s : State) (o : Fin 40), regsWf s → s.pwr.coreUp = true → s.en .ctc = true → s.flag CTC_OCFG_EN o.val = true → s.get CTC_OCFG_OWNER o.val ≠ 0 →
    ∃ t, exec (.ctcOff o) s = .next t ∧
      t.get (CHK_REASON .ctc) = 0x1424 ∧
      t.get (CHK_UNIT .ctc) = o.val ∧
      t.get (CHK_OFFSET .ctc) = 8 ∧
      RegsOnly s t ∧
      (∀ adr, adr ∉ (refuseRegs .ctc : List Nat) → t.word adr = s.word adr)) ∧
  (∀ (s : State) (o : Fin 40), regsWf s → s.pwr.coreUp = true → (s.en .ctc = false ∨ s.flag CTC_OCFG_EN o.val = false) →
    ∃ t, exec (.ctcOn o) s = .next t ∧
      t.get (CHK_REASON .ctc) = 0x140A ∧
      t.get (CHK_UNIT .ctc) = o.val ∧
      t.get (CHK_OFFSET .ctc) = 8 ∧
      RegsOnly s t ∧
      (∀ adr, adr ∉ (refuseRegs .ctc : List Nat) → t.word adr = s.word adr)) ∧
  (∀ (s : State) (o : Fin 40), regsWf s → s.pwr.coreUp = true → (s.en .ctc = false ∨ s.flag CTC_OCFG_EN o.val = false) →
    ∃ t, exec (.ctcOff o) s = .next t ∧
      t.get (CHK_REASON .ctc) = 0x140A ∧
      t.get (CHK_UNIT .ctc) = o.val ∧
      t.get (CHK_OFFSET .ctc) = 8 ∧
      RegsOnly s t ∧
      (∀ adr, adr ∉ (refuseRegs .ctc : List Nat) → t.word adr = s.word adr)) ∧
  -- completes: ctcShort
  (∀ (s : State) (o : Fin 40), regsWf s → s.pwr.coreUp = true → s.fieldUp = true → s.coilOn o.val = true → s.pwr.heartbeat = true → s.flag CTC_OCFG_EN o.val = true → s.flag CTC_OCFG_FOLLOW_EN o.val = false → ∀ b ∈ buses, s.busEn b = false ∨ s.get OUT_BCFG_CTC b ≠ o.val →
    ∃ t, exec (.ctcShort o true) s = .next t ∧
      t.flag CTC_OSTAT_SHORT o.val = true ∧
      t.flag CTC_OSTAT_ENERGISED o.val = false ∧
      t.ctc.short.contains o.val = true ∧
      t.flag ⟨ctrlAddr SRC_CTC_SHORT.blk 0x04, 0, 0, SRC_CTC_SHORT.s, 1⟩ = true ∧
      t = { s with regs := t.regs, ctc := t.ctc, pwr := { s.pwr with holdCopy := t.pwr.holdCopy }, cap := { s.cap with force := t.cap.force } } ∧
      (∀ adr, adr ∉ (coilWords s o.val ++ evtRegs SRC_CTC_SHORT.blk SRC_CTC_SHORT.s : List Nat) → t.word adr = s.word adr)) ∧
  -- completes: ctcShort
  (∀ (s : State) (o : Fin 40), s.pwr.coreUp = true → s.fieldUp = true →
    ∃ t, exec (.ctcShort o false) s = .next t ∧
      t = { s with ctc := { s.ctc with short := s.ctc.short.filter (· != o.val) } } ∧
      t.ctc.short.contains o.val = false) ∧
  -- completes: ctcOpenLoad
  (∀ (s : State) (o : Fin 40), regsWf s → s.pwr.coreUp = true → s.fieldUp = true → s.coilOn o.val = false → s.pwr.heartbeat = true → s.flag CTC_OCFG_EN o.val = true → s.flag CTC_OCFG_FOLLOW_EN o.val = false → ∀ b ∈ buses, s.busEn b = false ∨ s.get OUT_BCFG_CTC b ≠ o.val →
    ∃ t, exec (.ctcOpenLoad o true) s = .next t ∧
      t.flag CTC_OSTAT_OPEN o.val = true ∧
      t.flag CTC_OSTAT_ENERGISED o.val = false ∧
      t.ctc.openLoad.contains o.val = true ∧
      t.flag ⟨ctrlAddr SRC_CTC_OPEN.blk 0x04, 0, 0, SRC_CTC_OPEN.s, 1⟩ = true ∧
      t = { s with regs := t.regs, ctc := t.ctc, pwr := { s.pwr with holdCopy := t.pwr.holdCopy }, cap := { s.cap with force := t.cap.force } } ∧
      (∀ adr, adr ∉ (coilWords s o.val ++ evtRegs SRC_CTC_OPEN.blk SRC_CTC_OPEN.s : List Nat) → t.word adr = s.word adr)) ∧
  -- completes: ctcOpenLoad
  (∀ (s : State) (o : Fin 40), s.pwr.coreUp = true → s.fieldUp = true →
    ∃ t, exec (.ctcOpenLoad o false) s = .next t ∧
      t = { s with ctc := { s.ctc with openLoad := s.ctc.openLoad.filter (· != o.val) } } ∧
      t.ctc.openLoad.contains o.val = false) ∧
  -- completes: ctcReverse
  (∀ (s : State) (o : Fin 40), regsWf s → s.pwr.coreUp = true → s.fieldUp = true → s.coilOn o.val = true → s.pwr.heartbeat = true → s.flag CTC_OCFG_EN o.val = true → s.flag CTC_OCFG_FOLLOW_EN o.val = false → ∀ b ∈ buses, s.busEn b = false ∨ s.get OUT_BCFG_CTC b ≠ o.val →
    ∃ t, exec (.ctcReverse o true) s = .next t ∧
      t.flag CTC_OSTAT_REVERSE o.val = true ∧
      t.flag CTC_OSTAT_ENERGISED o.val = false ∧
      t.ctc.reverse.contains o.val = true ∧
      t.flag ⟨ctrlAddr SRC_CTC_REVERSE.blk 0x04, 0, 0, SRC_CTC_REVERSE.s, 1⟩ = true ∧
      t = { s with regs := t.regs, ctc := t.ctc, pwr := { s.pwr with holdCopy := t.pwr.holdCopy }, cap := { s.cap with force := t.cap.force } } ∧
      (∀ adr, adr ∉ (coilWords s o.val ++ evtRegs SRC_CTC_REVERSE.blk SRC_CTC_REVERSE.s : List Nat) → t.word adr = s.word adr)) ∧
  -- completes: ctcReverse
  (∀ (s : State) (o : Fin 40), s.pwr.coreUp = true → s.fieldUp = true →
    ∃ t, exec (.ctcReverse o false) s = .next t ∧
      t = { s with ctc := { s.ctc with reverse := s.ctc.reverse.filter (· != o.val) } } ∧
      t.ctc.reverse.contains o.val = false) ∧
  -- completes: ctcClr
  (∀ (s : State) (o : Fin 40), regsWf s → s.pwr.coreUp = true → s.pwr.heartbeat = true → s.ctc.short.contains o.val = false → s.ctc.openLoad.contains o.val = false → s.ctc.reverse.contains o.val = false →
    ∃ t, exec (.ctcClr o) s = .next t ∧
      t.flag CTC_OSTAT_SHORT o.val = false ∧
      t.flag CTC_OSTAT_OPEN o.val = false ∧
      t.flag CTC_OSTAT_REVERSE o.val = false ∧
      t = { s with regs := t.regs, ctc := t.ctc } ∧
      (∀ adr, adr ∉ (coilWords s o.val : List Nat) → t.word adr = s.word adr)) ∧
  (∀ (s : State) (o : Fin 40), regsWf s → s.pwr.coreUp = true → s.ctc.short.contains o.val = true → s.flag CTC_OSTAT_SHORT o.val = true → s.pwr.heartbeat = true → s.ctc.openLoad.contains o.val = false → s.ctc.reverse.contains o.val = false →
    ∃ t, exec (.ctcClr o) s = .next t ∧
      t.flag CTC_OSTAT_SHORT o.val = true ∧
      t.flag CTC_OSTAT_OPEN o.val = false ∧
      t.flag CTC_OSTAT_REVERSE o.val = false ∧
      t.get (CHK_REASON .ctc) = 0x1420 ∧
      t.get (CHK_UNIT .ctc) = o.val ∧
      t.get (CHK_OFFSET .ctc) = 8 ∧
      t = { s with regs := t.regs, ctc := t.ctc } ∧
      (∀ adr, adr ∉ (coilWords s o.val ++ refuseRegs .ctc : List Nat) → t.word adr = s.word adr)) ∧
  (∀ (s : State) (o : Fin 40), regsWf s → s.pwr.coreUp = true → s.ctc.openLoad.contains o.val = true → s.flag CTC_OSTAT_OPEN o.val = true → s.pwr.heartbeat = true → s.ctc.short.contains o.val = false → s.ctc.reverse.contains o.val = false →
    ∃ t, exec (.ctcClr o) s = .next t ∧
      t.flag CTC_OSTAT_OPEN o.val = true ∧
      t.flag CTC_OSTAT_SHORT o.val = false ∧
      t.flag CTC_OSTAT_REVERSE o.val = false ∧
      t.get (CHK_REASON .ctc) = 0x1421 ∧
      t.get (CHK_UNIT .ctc) = o.val ∧
      t.get (CHK_OFFSET .ctc) = 8 ∧
      t = { s with regs := t.regs, ctc := t.ctc } ∧
      (∀ adr, adr ∉ (coilWords s o.val ++ refuseRegs .ctc : List Nat) → t.word adr = s.word adr)) ∧
  (∀ (s : State) (o : Fin 40), regsWf s → s.pwr.coreUp = true → s.ctc.reverse.contains o.val = true → s.flag CTC_OSTAT_REVERSE o.val = true → s.pwr.heartbeat = true → s.ctc.short.contains o.val = false → s.ctc.openLoad.contains o.val = false →
    ∃ t, exec (.ctcClr o) s = .next t ∧
      t.flag CTC_OSTAT_REVERSE o.val = true ∧
      t.flag CTC_OSTAT_SHORT o.val = false ∧
      t.flag CTC_OSTAT_OPEN o.val = false ∧
      t.get (CHK_REASON .ctc) = 0x1422 ∧
      t.get (CHK_UNIT .ctc) = o.val ∧
      t.get (CHK_OFFSET .ctc) = 8 ∧
      t = { s with regs := t.regs, ctc := t.ctc } ∧
      (∀ adr, adr ∉ (coilWords s o.val ++ refuseRegs .ctc : List Nat) → t.word adr = s.word adr))

/-- A change of a feedback input shows in FBIN and, through FB_NC, in CLOSED of every output it monitors; a monitored output that agrees again loses STUCK and WELDED and its transit check ends; an input below −3 V reads low. When the transit limit passes, or 8 ms of disagreement outside a transit, without agreement an energised output of the host is STUCK and another WELDED, each with its event; one that agrees is left as it is. The level of the breaker's feedback input is taken over in the same way. It says of each of these that it completes with its own effect, exec answering the next state told, under hypotheses on the state and the operands alone: fbChange, bkrFbChange, ctcTransitTimeout, ctcSteadyDisagree. (R55, R230, R475) -/
def Obligations.CoilFeedbackIsSupervised : Prop :=
  -- completes: fbChange
  (∀ (s : State) (k : Fin 40) (v : Bool), regsWf s → s.pwr.coreUp = true → s.fieldUp = true → s.fbHigh k.val = !v → s.ctc.fbRev.contains k.val = false → ∀ b ∈ buses, s.busEn b = false → k.val ≠ s.get FORM_BKR_FB → s.inRun = false → ∀ a ∈ List.range 4, s.ilkOn a = false →
    ∃ t, exec (.fbChange k v) s = .next t ∧
      t.fbHigh k.val = v ∧
      ∀ o ∈ coils, s.get CTC_OCFG_FB o = k.val → t.flag CTC_OSTAT_CLOSED o = (v != s.flag CTC_OCFG_FB_NC o) ∧
      ∀ o ∈ coils, s.get CTC_OCFG_FB o = k.val → s.flag CTC_OCFG_FB_EN o = true → (v != s.flag CTC_OCFG_FB_NC o) = s.flag CTC_OSTAT_ENERGISED o → t.flag CTC_OSTAT_STUCK o = false ∧ t.flag CTC_OSTAT_WELDED o = false ∧ t.ctc.transit.contains o = false ∧
      t = { s with regs := t.regs, ctc := t.ctc } ∧
      (∀ adr, adr ∉ ((if k.val < 32 then 0x143100 else 0x143104) :: (coils.filter (fun o => s.get CTC_OCFG_FB o == k.val)).map (fun o => 0x14000C + 0x100 * o) : List Nat) → t.word adr = s.word adr)) ∧
  -- completes: fbChange
  (∀ (s : State) (k : Fin 40) (v : Bool), regsWf s → s.pwr.coreUp = true → s.fieldUp = true → s.fbHigh k.val = (v && !s.ctc.fbRev.contains k.val) →
    ∃ t, exec (.fbChange k v) s = .next t ∧
      ∀ j ∈ List.range 40, t.fbHigh j = s.fbHigh j ∧
      RegsOnly s t ∧
      (∀ adr, t.word adr = s.word adr)) ∧
  -- completes: bkrFbChange
  (∀ (s : State) (v : Bool), regsWf s → s.pwr.coreUp = true → s.fieldUp = true → s.get FORM_BKR_FB < 40 → s.fbHigh (s.get FORM_BKR_FB) = !v → s.ctc.fbRev.contains (s.get FORM_BKR_FB) = false → s.en .form = false → ∀ b ∈ buses, s.busEn b = false → s.inRun = false → ∀ a ∈ List.range 4, s.ilkOn a = false →
    ∃ t, exec (.bkrFbChange v) s = .next t ∧
      t.bkrClosed = v ∧
      t.word 0x080304 = s.word 0x080304 ∧
      t = { s with regs := t.regs, ctc := t.ctc } ∧
      (∀ adr, adr ∉ (0x143100 :: 0x143104 :: (coils.filter (fun o => s.get CTC_OCFG_FB o == s.get FORM_BKR_FB)).map (fun o => 0x14000C + 0x100 * o) : List Nat) → t.word adr = s.word adr)) ∧
  -- completes: ctcTransitTimeout
  (∀ (s : State) (o : Fin 40), regsWf s → s.pwr.coreUp = true → s.en .ctc = true → s.fbAgrees o.val = false → s.get CTC_OCFG_OWNER o.val = 0 → s.ctc.transit.contains o.val = true →
    ∃ t, exec (.ctcTransitTimeout o) s = .next t ∧
      t.ctc.transit.contains o.val = false ∧
      (if s.coilOn o.val then t.flag CTC_OSTAT_STUCK o.val else t.flag CTC_OSTAT_WELDED o.val) = true ∧
      t.flag CTC_OSTAT_ENERGISED o.val = s.flag CTC_OSTAT_ENERGISED o.val ∧
      t.flag (if s.coilOn o.val then ⟨ctrlAddr .ctc 0x04, 0, 0, SRC_CTC_STUCK.s, 1⟩ else ⟨ctrlAddr .ctc 0x04, 0, 0, SRC_CTC_WELDED.s, 1⟩) = true ∧
      t = { s with regs := t.regs, ctc := t.ctc, pwr := { s.pwr with holdCopy := t.pwr.holdCopy }, cap := { s.cap with force := t.cap.force } } ∧
      (∀ adr, adr ∉ ((0x14000C + 0x100 * o.val) :: (if s.coilOn o.val then evtRegs SRC_CTC_STUCK.blk SRC_CTC_STUCK.s else evtRegs SRC_CTC_WELDED.blk SRC_CTC_WELDED.s) : List Nat) → t.word adr = s.word adr)) ∧
  (∀ (s : State) (o : Fin 40), s.pwr.coreUp = true → (s.ctc.transit.contains o.val = false ∨ s.fbAgrees o.val = true) →
    ∃ t, exec (.ctcTransitTimeout o) s = .next t ∧
      t = s) ∧
  -- completes: ctcSteadyDisagree
  (∀ (s : State) (o : Fin 40), regsWf s → s.pwr.coreUp = true → s.en .ctc = true → s.fbAgrees o.val = false → s.get CTC_OCFG_OWNER o.val = 0 → s.flag CTC_OCFG_EN o.val = true → s.flag CTC_OCFG_FB_EN o.val = true → s.en .part = false → s.ctc.transit.contains o.val = false → s.coilOn o.val = false → s.flag CTC_OSTAT_WELDED o.val = false →
    ∃ t, exec (.ctcSteadyDisagree o) s = .next t ∧
      t.flag CTC_OSTAT_WELDED o.val = true ∧
      t.flag ⟨ctrlAddr SRC_CTC_WELDED.blk 0x04, 0, 0, SRC_CTC_WELDED.s, 1⟩ = true ∧
      t.flag CTC_OSTAT_STUCK o.val = s.flag CTC_OSTAT_STUCK o.val ∧
      t = { s with regs := t.regs, ctc := t.ctc, pwr := { s.pwr with holdCopy := t.pwr.holdCopy }, cap := { s.cap with force := t.cap.force } } ∧
      (∀ adr, adr ∉ ((0x14000C + 0x100 * o.val) :: evtRegs SRC_CTC_WELDED.blk SRC_CTC_WELDED.s : List Nat) → t.word adr = s.word adr)) ∧
  (∀ (s : State) (o : Fin 40), s.pwr.coreUp = true → s.fbAgrees o.val = true →
    ∃ t, exec (.ctcSteadyDisagree o) s = .next t ∧
      t = s)

/-- A commit of a legal duty set makes it pending; a set with a CMP at or above PRD, FFFFH aside, or a reserved override is refused with RANGE, and any during a braking stop with STATE, each with COMMIT_REFUSED. At the period start of a running axis a pending set takes effect whole and PENDING clears; without refresh due each phase's gates follow its word in force; a braking stop makes the set in force 0. An axis that is not enabled does nothing. A bootstrap undervoltage of a running axis is counted, turns the half-bridge off and forces a refresh. It says of each of these that it completes with its own effect, exec answering the next state told, under hypotheses on the state and the operands alone: axisCommit, pwmPeriodStart, bstUv. (R427, R428, R429, R431, R432, R434, R435, R468) -/
def Obligations.PwmSetsAreCommittedAndRun : Prop :=
  -- completes: axisCommit
  (∀ (s : State) (n : Fin 4), regsWf s → s.pwr.coreUp = true → (s.sdsActive n.val && s.flag SAFE_AXCFG_SDS_MODE n.val) = false → (List.range 3).any (fun p => (decide (s.get AXIS_CFG_PRD n.val ≤ s.get AXIS_DUTY_CMP n.val p) && decide (s.get AXIS_DUTY_CMP n.val p ≠ 0xFFFF)) || decide (5 ≤ s.get AXIS_DUTY_OVR n.val p)) = false →
    ∃ t, exec (.axisCommit n) s = .next t ∧
      t.flag AXIS_COMMIT_PENDING n.val = true ∧
      RegsOnly s t ∧
      (∀ adr, adr ∉ ([0x10001C + 0x100 * n.val] : List Nat) → t.word adr = s.word adr)) ∧
  (∀ (s : State) (n : Fin 4), regsWf s → s.pwr.coreUp = true → (s.sdsActive n.val && s.flag SAFE_AXCFG_SDS_MODE n.val) = false → (List.range 3).any (fun p => (decide (s.get AXIS_CFG_PRD n.val ≤ s.get AXIS_DUTY_CMP n.val p) && decide (s.get AXIS_DUTY_CMP n.val p ≠ 0xFFFF)) || decide (5 ≤ s.get AXIS_DUTY_OVR n.val p)) = true →
    ∃ t, exec (.axisCommit n) s = .next t ∧
      t.get (CHK_REASON .axis) = 0x1002 ∧
      t.get (CHK_UNIT .axis) = n.val ∧
      t.get (CHK_OFFSET .axis) = 0x1C ∧
      t.flag ⟨ctrlAddr SRC_AXIS_COMMIT_REFUSED.blk 0x04, 0, 0, SRC_AXIS_COMMIT_REFUSED.s, 1⟩ = true ∧
      t.flag AXIS_COMMIT_PENDING n.val = s.flag AXIS_COMMIT_PENDING n.val ∧
      RegsOnly s t ∧
      (∀ adr, adr ∉ (refuseRegs .axis ++ evtRegs SRC_AXIS_COMMIT_REFUSED.blk SRC_AXIS_COMMIT_REFUSED.s : List Nat) → t.word adr = s.word adr)) ∧
  (∀ (s : State) (n : Fin 4), regsWf s → s.pwr.coreUp = true → s.sdsActive n.val = true → s.flag SAFE_AXCFG_SDS_MODE n.val = true →
    ∃ t, exec (.axisCommit n) s = .next t ∧
      t.get (CHK_REASON .axis) = 0x100A ∧
      t.get (CHK_UNIT .axis) = n.val ∧
      t.get (CHK_OFFSET .axis) = 0x1C ∧
      t.flag ⟨ctrlAddr SRC_AXIS_COMMIT_REFUSED.blk 0x04, 0, 0, SRC_AXIS_COMMIT_REFUSED.s, 1⟩ = true ∧
      t.flag AXIS_COMMIT_PENDING n.val = s.flag AXIS_COMMIT_PENDING n.val ∧
      RegsOnly s t ∧
      (∀ adr, adr ∉ (refuseRegs .axis ++ evtRegs SRC_AXIS_COMMIT_REFUSED.blk SRC_AXIS_COMMIT_REFUSED.s : List Nat) → t.word adr = s.word adr)) ∧
  -- completes: pwmPeriodStart
  (∀ (s : State) (n : Fin 4), regsWf s → s.pwr.coreUp = true → s.axisEn n.val = true → s.get AXIS_STAT_STATE n.val = AX_RUN → s.sdsActive n.val = false → s.inhibited n.val = false → s.drive.axes.length = 4 → s.flag AXIS_COMMIT_PENDING n.val = true →
    ∃ t, exec (.pwmPeriodStart n) s = .next t ∧
      ∀ p ∈ List.range 3, t.get AXIS_APPLIED_SET n.val p = (s.word (AXIS_DUTY_CMP.addr n.val p)).toNat % 2 ^ 21 ∧
      t.flag AXIS_COMMIT_PENDING n.val = false ∧
      t.get AXIS_STAT_STATE n.val = AX_RUN ∧
      t = { s with regs := t.regs, drive := t.drive, pwr := { s.pwr with holdCopy := t.pwr.holdCopy }, cap := { s.cap with force := t.cap.force } } ∧
      (∀ adr, adr ∉ (([0x10001C, 0x100028, 0x100030, 0x100034, 0x100038].map (fun x => x + 0x100 * n.val)) ++ (List.range 3).flatMap (fun p => [0x110004 + 0x100 * (3 * n.val + p), 0x110008 + 0x100 * (3 * n.val + p)]) ++ evtRegs SRC_GDRV_SHOOT_ATTEMPT.blk SRC_GDRV_SHOOT_ATTEMPT.s : List Nat) → t.word adr = s.word adr)) ∧
  -- completes: pwmPeriodStart
  (∀ (s : State) (n : Fin 4) (p : Fin 3) (o : PhaseOut), regsWf s → s.pwr.coreUp = true → s.axisEn n.val = true → s.get AXIS_STAT_STATE n.val = AX_RUN → s.sdsActive n.val = false → s.inhibited n.val = false → s.drive.axes.length = 4 → s.flag AXIS_COMMIT_PENDING n.val = false → (s.axisSt n.val).force.contains p.val = false → (s.axisSt n.val).hold.getD p.val 0 < s.get AXIS_CFG_BST_HOLD n.val → phasePeriod (s.get AXIS_CFG_PRD n.val) (s.get AXIS_PULSE_MINP n.val) (s.get AXIS_APPLIED_SET n.val p.val) ((s.axisSt n.val).last.getD p.val 0) = o →
    ∃ t, exec (.pwmPeriodStart n) s = .next t ∧
      (t.flag GDRV_HSTAT_GH (3 * n.val + p.val), t.flag GDRV_HSTAT_GL (3 * n.val + p.val)) = (o.gh, o.gl) ∧
      t.get AXIS_APPLIED_SET n.val p.val = s.get AXIS_APPLIED_SET n.val p.val ∧
      t = { s with regs := t.regs, drive := t.drive, pwr := { s.pwr with holdCopy := t.pwr.holdCopy }, cap := { s.cap with force := t.cap.force } } ∧
      (∀ adr, adr ∉ (([0x10001C, 0x100028, 0x100030, 0x100034, 0x100038].map (fun x => x + 0x100 * n.val)) ++ (List.range 3).flatMap (fun p => [0x110004 + 0x100 * (3 * n.val + p), 0x110008 + 0x100 * (3 * n.val + p)]) ++ evtRegs SRC_GDRV_SHOOT_ATTEMPT.blk SRC_GDRV_SHOOT_ATTEMPT.s : List Nat) → t.word adr = s.word adr)) ∧
  -- completes: pwmPeriodStart
  (∀ (s : State) (n : Fin 4), regsWf s → s.pwr.coreUp = true → s.axisEn n.val = true → s.get AXIS_STAT_STATE n.val = AX_RUN → s.sdsActive n.val = true → s.inhibited n.val = false → s.flag SAFE_AXCFG_SDS_MODE n.val = true →
    ∃ t, exec (.pwmPeriodStart n) s = .next t ∧
      ∀ p ∈ List.range 3, t.get AXIS_APPLIED_SET n.val p = 0 ∧
      t.flag AXIS_COMMIT_PENDING n.val = s.flag AXIS_COMMIT_PENDING n.val ∧
      t = { s with regs := t.regs, drive := t.drive, pwr := { s.pwr with holdCopy := t.pwr.holdCopy }, cap := { s.cap with force := t.cap.force } } ∧
      (∀ adr, adr ∉ (([0x10001C, 0x100028, 0x100030, 0x100034, 0x100038].map (fun x => x + 0x100 * n.val)) ++ (List.range 3).flatMap (fun p => [0x110004 + 0x100 * (3 * n.val + p), 0x110008 + 0x100 * (3 * n.val + p)]) ++ evtRegs SRC_GDRV_SHOOT_ATTEMPT.blk SRC_GDRV_SHOOT_ATTEMPT.s : List Nat) → t.word adr = s.word adr)) ∧
  -- completes: pwmPeriodStart
  (∀ (s : State) (n : Fin 4), regsWf s → s.pwr.coreUp = true → s.inhibited n.val = true →
    ∃ t, exec (.pwmPeriodStart n) s = .next t ∧
      (driving s n.val = true → t.get AXIS_STAT_STATE n.val = AX_INHIBITED) ∧
      gatesOff t n.val = true ∧
      RegsHold s t ∧
      (∀ adr, adr ∉ (inhibitRegs : List Nat) → t.word adr = s.word adr)) ∧
  (∀ (s : State) (n : Fin 4), s.pwr.coreUp = true → s.axisEn n.val = false → s.inhibited n.val = false →
    ∃ t, exec (.pwmPeriodStart n) s = .next t ∧
      t = s) ∧
  -- completes: bstUv
  (∀ (s : State) (h : Fin 12), regsWf s → s.pwr.coreUp = true → s.get AXIS_STAT_STATE (h.val / 3) = AX_RUN → s.drive.axes.length = 4 →
    ∃ t, exec (.bstUv h) s = .next t ∧
      t.get GDRV_HCNT_BST_UV h.val = satInc 0xFFFF (s.get GDRV_HCNT_BST_UV h.val) ∧
      t.flag ⟨ctrlAddr SRC_GDRV_BST_UV.blk 0x04, 0, 0, SRC_GDRV_BST_UV.s, 1⟩ = true ∧
      t.flag GDRV_HSTAT_GH h.val = false ∧
      t.flag GDRV_HSTAT_GL h.val = false ∧
      t.flag GDRV_HSTAT_BST_OK h.val = false ∧
      (t.axisSt (h.val / 3)).force.contains (h.val % 3) = true ∧
      t.get AXIS_STAT_STATE (h.val / 3) = AX_RUN ∧
      t = { s with regs := t.regs, drive := t.drive, pwr := { s.pwr with holdCopy := t.pwr.holdCopy }, cap := { s.cap with force := t.cap.force } } ∧
      (∀ adr, adr ∉ ((0x110004 + 0x100 * h.val) :: (0x110008 + 0x100 * h.val) :: evtRegs SRC_GDRV_BST_UV.blk SRC_GDRV_BST_UV.s : List Nat) → t.word adr = s.word adr))

/-- RUN and TEST of an idle axis whose conditions hold enter TEST with every gate off; RUN is refused for a short-circuit latch (0x1023), a trip latch or an active function (0x1022), a low VBR (0x1021), or in another state or power state (STATE). The off-state test shows each half-bridge's result; complete and passed it leads to CHARGE, or for TEST to IDLE; failed to IDLE with TEST_FAIL and 0x1020. A clean inhibit test turns the low sides on; a gate that reads on ends CHARGE with 0x1024; CHARGE with every bootstrap good enters RUN, else IDLE with CHARGE_FAIL. FLOAT enters IDLE. An INHIBITED axis enters IDLE once no cause remains. A detected short latches and sends the axis to IDLE; the latch clears only in IDLE. It says of each of these that it completes with its own effect, exec answering the next state told, under hypotheses on the state and the operands alone: axisRun, axisTest, axisFloat, offStateTest, offStateTestDone, inhibitTestEnd, chargeDone, inhibitRelease, ddtShort, clearSc. (R437, R438, R441, R442, R443, R469, R472, R477) -/
def Obligations.AxisStatesMove : Prop :=
  -- completes: axisRun
  (∀ (s : State) (n : Fin 4), regsWf s → s.pwr.coreUp = true → s.axisEn n.val = true → s.get AXIS_STAT_STATE n.val = AX_IDLE → (s.pstate == READY || s.inRun) = true → (List.range 3).any (fun p => s.flag GDRV_HSTAT_SC (3 * n.val + p)) = false → s.get GDRV_TRIP_STAT_LATCH = 0 → s.sdsActive n.val = false → s.strActive n.val = false → s.ilkRefusesRun n.val = false → s.vbrOk n.val = true → s.inhibited n.val = false → s.drive.axes.length = 4 →
    ∃ t, exec (.axisRun n) s = .next t ∧
      t.get AXIS_STAT_STATE n.val = AX_TEST ∧
      gatesOff t n.val = true ∧
      (t.axisSt n.val).testOnly = false ∧
      t = { s with regs := t.regs, drive := t.drive } ∧
      (∀ adr, adr ∉ (axisRegs n.val : List Nat) → t.word adr = s.word adr)) ∧
  -- completes: axisRun
  (∀ (s : State) (n : Fin 4), regsWf s → s.pwr.coreUp = true → s.axisEn n.val = true → s.get AXIS_STAT_STATE n.val = AX_IDLE → (s.pstate == READY || s.inRun) = true → (List.range 3).any (fun p => s.flag GDRV_HSTAT_SC (3 * n.val + p)) = false → s.get GDRV_TRIP_STAT_LATCH = 0 → s.sdsActive n.val = false → s.strActive n.val = false → s.ilkRefusesRun n.val = false → s.vbrOk n.val = true → s.inhibited n.val = true → s.drive.axes.length = 4 →
    ∃ t, exec (.axisRun n) s = .next t ∧
      t.get AXIS_STAT_STATE n.val = AX_INHIBITED ∧
      gatesOff t n.val = true ∧
      t.flag ⟨ctrlAddr SRC_AXIS_INHIBITED.blk 0x04, 0, 0, SRC_AXIS_INHIBITED.s, 1⟩ = true ∧
      t = { s with regs := t.regs, drive := t.drive, pwr := { s.pwr with holdCopy := t.pwr.holdCopy }, cap := { s.cap with force := t.cap.force } } ∧
      (∀ adr, adr ∉ (inhibitRegs : List Nat) → t.word adr = s.word adr)) ∧
  (∀ (s : State) (n : Fin 4), regsWf s → s.pwr.coreUp = true → s.axisEn n.val = true → s.get AXIS_STAT_STATE n.val = AX_IDLE → (s.pstate == READY || s.inRun) = true → (List.range 3).any (fun p => s.flag GDRV_HSTAT_SC (3 * n.val + p)) = false → (s.get GDRV_TRIP_STAT_LATCH ≠ 0 ∨ s.sdsActive n.val = true ∨ s.strActive n.val = true ∨ s.ilkRefusesRun n.val = true) →
    ∃ t, exec (.axisRun n) s = .next t ∧
      t.get (CHK_REASON .axis) = 0x1022 ∧
      t.get (CHK_UNIT .axis) = n.val ∧
      t.get (CHK_OFFSET .axis) = 0x20 ∧
      RegsOnly s t ∧
      (∀ adr, adr ∉ (refuseRegs .axis : List Nat) → t.word adr = s.word adr)) ∧
  (∀ (s : State) (n : Fin 4), regsWf s → s.pwr.coreUp = true → s.axisEn n.val = true → s.get AXIS_STAT_STATE n.val = AX_IDLE → (s.pstate == READY || s.inRun) = true → (List.range 3).any (fun p => s.flag GDRV_HSTAT_SC (3 * n.val + p)) = true →
    ∃ t, exec (.axisRun n) s = .next t ∧
      t.get (CHK_REASON .axis) = 0x1023 ∧
      t.get (CHK_UNIT .axis) = n.val ∧
      t.get (CHK_OFFSET .axis) = 0x20 ∧
      RegsOnly s t ∧
      (∀ adr, adr ∉ (refuseRegs .axis : List Nat) → t.word adr = s.word adr)) ∧
  (∀ (s : State) (n : Fin 4), regsWf s → s.pwr.coreUp = true → s.axisEn n.val = true → s.get AXIS_STAT_STATE n.val = AX_IDLE → (s.pstate == READY || s.inRun) = true → (List.range 3).any (fun p => s.flag GDRV_HSTAT_SC (3 * n.val + p)) = false → s.get GDRV_TRIP_STAT_LATCH = 0 → s.sdsActive n.val = false → s.strActive n.val = false → s.ilkRefusesRun n.val = false → s.vbrOk n.val = false →
    ∃ t, exec (.axisRun n) s = .next t ∧
      t.get (CHK_REASON .axis) = 0x1021 ∧
      t.get (CHK_UNIT .axis) = n.val ∧
      t.get (CHK_OFFSET .axis) = 0x20 ∧
      RegsOnly s t ∧
      (∀ adr, adr ∉ (refuseRegs .axis : List Nat) → t.word adr = s.word adr)) ∧
  (∀ (s : State) (n : Fin 4), regsWf s → s.pwr.coreUp = true → (s.axisEn n.val = false ∨ s.get AXIS_STAT_STATE n.val ≠ AX_IDLE ∨ (s.pstate == READY || s.inRun) = false) →
    ∃ t, exec (.axisRun n) s = .next t ∧
      t.get (CHK_REASON .axis) = 0x100A ∧
      t.get (CHK_UNIT .axis) = n.val ∧
      t.get (CHK_OFFSET .axis) = 0x20 ∧
      RegsOnly s t ∧
      (∀ adr, adr ∉ (refuseRegs .axis : List Nat) → t.word adr = s.word adr)) ∧
  -- completes: axisTest
  (∀ (s : State) (n : Fin 4), regsWf s → s.pwr.coreUp = true → s.axisEn n.val = true → s.get AXIS_STAT_STATE n.val = AX_IDLE → s.vbrOk n.val = true → s.inhibited n.val = false → s.drive.axes.length = 4 →
    ∃ t, exec (.axisTest n) s = .next t ∧
      t.get AXIS_STAT_STATE n.val = AX_TEST ∧
      gatesOff t n.val = true ∧
      (t.axisSt n.val).testOnly = true ∧
      t = { s with regs := t.regs, drive := t.drive } ∧
      (∀ adr, adr ∉ (axisRegs n.val : List Nat) → t.word adr = s.word adr)) ∧
  (∀ (s : State) (n : Fin 4), regsWf s → s.pwr.coreUp = true → s.axisEn n.val = true → s.get AXIS_STAT_STATE n.val = AX_IDLE → s.vbrOk n.val = false →
    ∃ t, exec (.axisTest n) s = .next t ∧
      t.get (CHK_REASON .axis) = 0x1021 ∧
      t.get (CHK_UNIT .axis) = n.val ∧
      t.get (CHK_OFFSET .axis) = 0x20 ∧
      RegsOnly s t ∧
      (∀ adr, adr ∉ (refuseRegs .axis : List Nat) → t.word adr = s.word adr)) ∧
  (∀ (s : State) (n : Fin 4), regsWf s → s.pwr.coreUp = true → (s.axisEn n.val = false ∨ s.get AXIS_STAT_STATE n.val ≠ AX_IDLE) →
    ∃ t, exec (.axisTest n) s = .next t ∧
      t.get (CHK_REASON .axis) = 0x100A ∧
      t.get (CHK_UNIT .axis) = n.val ∧
      t.get (CHK_OFFSET .axis) = 0x20 ∧
      RegsOnly s t ∧
      (∀ adr, adr ∉ (refuseRegs .axis : List Nat) → t.word adr = s.word adr)) ∧
  -- completes: axisFloat
  (∀ (s : State) (n : Fin 4), regsWf s → s.pwr.coreUp = true → driving s n.val = true →
    ∃ t, exec (.axisFloat n) s = .next t ∧
      t.get AXIS_STAT_STATE n.val = AX_IDLE ∧
      gatesOff t n.val = true ∧
      RegsOnly s t ∧
      (∀ adr, adr ∉ (axisRegs n.val : List Nat) → t.word adr = s.word adr)) ∧
  (∀ (s : State) (n : Fin 4), s.pwr.coreUp = true → driving s n.val = false →
    ∃ t, exec (.axisFloat n) s = .next t ∧
      t = s) ∧
  -- completes: offStateTest
  (∀ (s : State) (n : Fin 4) (sh : List (Int × Int × Int)), regsWf s → s.pwr.coreUp = true → s.vbrOk n.val = true → s.get AXIS_STAT_STATE n.val = AX_TEST → sh.length = 3 →
    ∃ t, exec (.offStateTest n sh) s = .next t ∧
      ∀ p ∈ List.range 3, t.get GDRV_HSTAT_OSTEST (3 * n.val + p) = osResult (s.vbr n.val) (sh.getD p (0, 0, 0)) ∧
      t.get AXIS_STAT_STATE n.val = AX_TEST ∧
      RegsHold s t ∧
      (∀ adr, adr ∉ ((List.range 3).map (fun p => 0x110004 + 0x100 * (3 * n.val + p)) ++ evtRegs SRC_GDRV_OSTEST_FAIL.blk SRC_GDRV_OSTEST_FAIL.s : List Nat) → t.word adr = s.word adr)) ∧
  -- completes: offStateTestDone
  (∀ (s : State) (n : Fin 4), regsWf s → s.pwr.coreUp = true → s.get AXIS_STAT_STATE n.val = AX_TEST → (List.range 3).all (fun p => s.get GDRV_HSTAT_OSTEST (3 * n.val + p) == 1) = true → (s.axisSt n.val).testOnly = false → s.inhibited n.val = false → s.drive.axes.length = 4 →
    ∃ t, exec (.offStateTestDone n) s = .next t ∧
      t.get AXIS_STAT_STATE n.val = AX_CHARGE ∧
      gatesOff t n.val = true ∧
      (t.axisSt n.val).inhTest = true ∧
      t = { s with regs := t.regs, drive := t.drive } ∧
      (∀ adr, adr ∉ (axisRegs n.val : List Nat) → t.word adr = s.word adr)) ∧
  -- completes: offStateTestDone
  (∀ (s : State) (n : Fin 4), regsWf s → s.pwr.coreUp = true → s.get AXIS_STAT_STATE n.val = AX_TEST → (List.range 3).all (fun p => s.get GDRV_HSTAT_OSTEST (3 * n.val + p) == 1) = true → (s.axisSt n.val).testOnly = true →
    ∃ t, exec (.offStateTestDone n) s = .next t ∧
      t.get AXIS_STAT_STATE n.val = AX_IDLE ∧
      gatesOff t n.val = true ∧
      RegsOnly s t ∧
      (∀ adr, adr ∉ (axisRegs n.val : List Nat) → t.word adr = s.word adr)) ∧
  (∀ (s : State) (n : Fin 4), regsWf s → s.pwr.coreUp = true → s.get AXIS_STAT_STATE n.val = AX_TEST → (List.range 3).all (fun p => s.get GDRV_HSTAT_OSTEST (3 * n.val + p) == 1) = false →
    ∃ t, exec (.offStateTestDone n) s = .next t ∧
      t.get AXIS_STAT_STATE n.val = AX_IDLE ∧
      gatesOff t n.val = true ∧
      t.get (CHK_REASON .axis) = 0x1020 ∧
      t.get (CHK_UNIT .axis) = n.val ∧
      t.get (CHK_OFFSET .axis) = 0x20 ∧
      t.flag ⟨ctrlAddr SRC_AXIS_TEST_FAIL.blk 0x04, 0, 0, SRC_AXIS_TEST_FAIL.s, 1⟩ = true ∧
      RegsHold s t ∧
      (∀ adr, adr ∉ (axisRegs n.val ++ refuseRegs .axis ++ evtRegs SRC_AXIS_TEST_FAIL.blk SRC_AXIS_TEST_FAIL.s : List Nat) → t.word adr = s.word adr)) ∧
  -- completes: inhibitTestEnd
  (∀ (s : State) (n : Fin 4), regsWf s → s.pwr.coreUp = true → s.get AXIS_STAT_STATE n.val = AX_CHARGE → (s.axisSt n.val).inhTest = true → s.inhibited n.val = false → s.drive.axes.length = 4 →
    ∃ t, exec (.inhibitTestEnd n 0#3) s = .next t ∧
      ∀ p ∈ List.range 3, t.flag GDRV_HSTAT_GH (3 * n.val + p) = false ∧ t.flag GDRV_HSTAT_GL (3 * n.val + p) = true ∧
      (t.axisSt n.val).inhTest = false ∧
      t.get AXIS_STAT_STATE n.val = AX_CHARGE ∧
      t = { s with regs := t.regs, drive := t.drive } ∧
      (∀ adr, adr ∉ (axisRegs n.val : List Nat) → t.word adr = s.word adr)) ∧
  (∀ (s : State) (n : Fin 4) (gl : BitVec 3), regsWf s → s.pwr.coreUp = true → s.get AXIS_STAT_STATE n.val = AX_CHARGE → (s.axisSt n.val).inhTest = true → gl ≠ 0 →
    ∃ t, exec (.inhibitTestEnd n gl) s = .next t ∧
      t.get AXIS_STAT_STATE n.val = AX_IDLE ∧
      gatesOff t n.val = true ∧
      t.get (CHK_REASON .axis) = 0x1024 ∧
      t.get (CHK_UNIT .axis) = n.val ∧
      t.get (CHK_OFFSET .axis) = 0x20 ∧
      t.flag ⟨ctrlAddr SRC_AXIS_CHARGE_FAIL.blk 0x04, 0, 0, SRC_AXIS_CHARGE_FAIL.s, 1⟩ = true ∧
      t = { s with regs := t.regs, drive := t.drive, pwr := { s.pwr with holdCopy := t.pwr.holdCopy }, cap := { s.cap with force := t.cap.force } } ∧
      (∀ adr, adr ∉ (axisRegs n.val ++ refuseRegs .axis ++ evtRegs SRC_AXIS_CHARGE_FAIL.blk SRC_AXIS_CHARGE_FAIL.s : List Nat) → t.word adr = s.word adr)) ∧
  -- completes: chargeDone
  (∀ (s : State) (n : Fin 4), regsWf s → s.pwr.coreUp = true → s.get AXIS_STAT_STATE n.val = AX_CHARGE → (s.axisSt n.val).inhTest = false → s.inhibited n.val = false → s.drive.axes.length = 4 →
    ∃ t, exec (.chargeDone n 7#3) s = .next t ∧
      t.get AXIS_STAT_STATE n.val = AX_RUN ∧
      ∀ p ∈ List.range 3, t.flag GDRV_HSTAT_BST_OK (3 * n.val + p) = true ∧
      ∀ p ∈ List.range 3, t.get AXIS_APPLIED_SET n.val p = (if s.flag AXIS_COMMIT_PENDING n.val then (s.word (AXIS_DUTY_CMP.addr n.val p)).toNat % 2 ^ 21 else s.get AXIS_APPLIED_SET n.val p) ∧
      t.flag AXIS_COMMIT_PENDING n.val = false ∧
      t = { s with regs := t.regs, drive := t.drive } ∧
      (∀ adr, adr ∉ (axisRegs n.val ++ [0x10001C, 0x100030, 0x100034, 0x100038].map (fun x => x + 0x100 * n.val) : List Nat) → t.word adr = s.word adr)) ∧
  -- completes: chargeDone
  (∀ (s : State) (n : Fin 4), regsWf s → s.pwr.coreUp = true → s.get AXIS_STAT_STATE n.val = AX_CHARGE → (s.axisSt n.val).inhTest = false → s.inhibited n.val = true → s.drive.axes.length = 4 →
    ∃ t, exec (.chargeDone n 7#3) s = .next t ∧
      t.get AXIS_STAT_STATE n.val = AX_INHIBITED ∧
      gatesOff t n.val = true) ∧
  (∀ (s : State) (n : Fin 4) (ok : BitVec 3), regsWf s → s.pwr.coreUp = true → s.get AXIS_STAT_STATE n.val = AX_CHARGE → (s.axisSt n.val).inhTest = false → ok ≠ 7 →
    ∃ t, exec (.chargeDone n ok) s = .next t ∧
      t.get AXIS_STAT_STATE n.val = AX_IDLE ∧
      gatesOff t n.val = true ∧
      t.get (CHK_REASON .axis) = 0x1024 ∧
      t.get (CHK_UNIT .axis) = n.val ∧
      t.get (CHK_OFFSET .axis) = 0x20 ∧
      t.flag ⟨ctrlAddr SRC_AXIS_CHARGE_FAIL.blk 0x04, 0, 0, SRC_AXIS_CHARGE_FAIL.s, 1⟩ = true ∧
      RegsHold s t ∧
      (∀ adr, adr ∉ (axisRegs n.val ++ refuseRegs .axis ++ evtRegs SRC_AXIS_CHARGE_FAIL.blk SRC_AXIS_CHARGE_FAIL.s : List Nat) → t.word adr = s.word adr)) ∧
  -- completes: inhibitRelease
  (∀ (s : State) (n : Fin 4), regsWf s → s.pwr.coreUp = true → s.get AXIS_STAT_STATE n.val = AX_INHIBITED → s.inhibited n.val = false →
    ∃ t, exec (.inhibitRelease n) s = .next t ∧
      t.get AXIS_STAT_STATE n.val = AX_IDLE ∧
      gatesOff t n.val = true ∧
      RegsOnly s t ∧
      (∀ adr, adr ∉ (axisRegs n.val : List Nat) → t.word adr = s.word adr)) ∧
  (∀ (s : State) (n : Fin 4), s.pwr.coreUp = true → s.inhibited n.val = true →
    ∃ t, exec (.inhibitRelease n) s = .next t ∧
      t = s) ∧
  -- completes: ddtShort
  (∀ (s : State) (h : Fin 12), regsWf s → s.pwr.coreUp = true → s.en .gdrv = true → s.flag GDRV_HCFG_DDT_EN h.val = true → s.get AXIS_STAT_STATE (h.val / 3) ≠ AX_INHIBITED →
    ∃ t, exec (.ddtShort h) s = .next t ∧
      t.flag GDRV_HSTAT_SC h.val = true ∧
      t.get AXIS_STAT_STATE (h.val / 3) = AX_IDLE ∧
      gatesOff t (h.val / 3) = true ∧
      t.flag ⟨ctrlAddr SRC_GDRV_SHORT.blk 0x04, 0, 0, SRC_GDRV_SHORT.s, 1⟩ = true ∧
      RegsHold s t ∧
      (∀ adr, adr ∉ (axisRegs (h.val / 3) ++ evtRegs SRC_GDRV_SHORT.blk SRC_GDRV_SHORT.s : List Nat) → t.word adr = s.word adr)) ∧
  -- completes: clearSc
  (∀ (s : State) (h : Fin 12), regsWf s → s.pwr.coreUp = true → s.get AXIS_STAT_STATE (h.val / 3) = AX_IDLE →
    ∃ t, exec (.clearSc h) s = .next t ∧
      t.flag GDRV_HSTAT_SC h.val = false ∧
      RegsOnly s t ∧
      (∀ adr, adr ∉ ([0x110004 + 0x100 * h.val] : List Nat) → t.word adr = s.word adr)) ∧
  (∀ (s : State) (h : Fin 12), regsWf s → s.pwr.coreUp = true → s.get AXIS_STAT_STATE (h.val / 3) ≠ AX_IDLE →
    ∃ t, exec (.clearSc h) s = .next t ∧
      t.get (CHK_REASON .gdrv) = 0x110A ∧
      t.get (CHK_UNIT .gdrv) = h.val ∧
      t.get (CHK_OFFSET .gdrv) = 0x0C ∧
      t.flag GDRV_HSTAT_SC h.val = s.flag GDRV_HSTAT_SC h.val ∧
      RegsOnly s t ∧
      (∀ adr, adr ∉ (refuseRegs .gdrv : List Nat) → t.word adr = s.word adr))

/-- A VBR below VBR_MIN sets UV, takes its axis to IDLE and raises VBR_UV, one at or above it clears UV; below -1 V sets REV with VBR_REV in the same way. VDRV below 9.5 V inhibits every driving axis and turns every gate off; above 10.0 V UV clears; between them it keeps its state. A trip input with TRIP_EN sets its latch, inhibits every driving axis, raises TRIP and requests SGR with the trip cause; without TRIP_EN it only shows. A clear is refused with 0x1120 while the input reads trip, acts at once when it has been quiet for TRIP_QUIET, and otherwise waits for that. It says of each of these that it completes with its own effect, exec answering the next state told, under hypotheses on the state and the operands alone: vbrUv, vbrRev, vdrvUv, tripInput, tripInputInactive, tripQuietExpiry, tripClear. (R31, R38, R55, R439, R440, R441, R444, R463) -/
def Obligations.SuppliesAndTripInputsInhibitTheDrives : Prop :=
  -- completes: vbrUv
  (∀ (s : State) (n : Fin 4) (v : BitVec 16), regsWf s → s.pwr.coreUp = true → s.fieldUp = true → signed 16 v.toNat < (s.get GDRV_VBRMIN_VBR_MIN : Int) →
    ∃ t, exec (.vbrUv n v) s = .next t ∧
      t.get GDRV_VBR_VBR 0 n.val = v.toNat ∧
      t.flag GDRV_VBR_UV 0 n.val = true ∧
      t.flag ⟨ctrlAddr SRC_GDRV_VBR_UV.blk 0x04, 0, 0, SRC_GDRV_VBR_UV.s, 1⟩ = true ∧
      (driving s n.val = true → t.get AXIS_STAT_STATE n.val = AX_IDLE ∧ gatesOff t n.val = true) ∧
      (driving s n.val = false → t.get AXIS_STAT_STATE n.val = s.get AXIS_STAT_STATE n.val) ∧
      RegsHold s t ∧
      (∀ adr, adr ∉ ((0x111200 + 4 * n.val) :: axisRegs n.val ++ evtRegs SRC_GDRV_VBR_UV.blk SRC_GDRV_VBR_UV.s : List Nat) → t.word adr = s.word adr)) ∧
  -- completes: vbrUv
  (∀ (s : State) (n : Fin 4) (v : BitVec 16), regsWf s → s.pwr.coreUp = true → s.fieldUp = true → (s.get GDRV_VBRMIN_VBR_MIN : Int) ≤ signed 16 v.toNat →
    ∃ t, exec (.vbrUv n v) s = .next t ∧
      t.get GDRV_VBR_VBR 0 n.val = v.toNat ∧
      t.flag GDRV_VBR_UV 0 n.val = false ∧
      RegsOnly s t ∧
      (∀ adr, adr ∉ ([0x111200 + 4 * n.val] : List Nat) → t.word adr = s.word adr)) ∧
  -- completes: vbrRev
  (∀ (s : State) (n : Fin 4) (v : BitVec 16), regsWf s → s.pwr.coreUp = true → s.fieldUp = true → signed 16 v.toNat < -100 →
    ∃ t, exec (.vbrRev n v) s = .next t ∧
      t.get GDRV_VBR_VBR 0 n.val = v.toNat ∧
      t.flag GDRV_VBR_REV 0 n.val = true ∧
      t.flag ⟨ctrlAddr SRC_GDRV_VBR_REV.blk 0x04, 0, 0, SRC_GDRV_VBR_REV.s, 1⟩ = true ∧
      (driving s n.val = true → t.get AXIS_STAT_STATE n.val = AX_IDLE ∧ gatesOff t n.val = true) ∧
      RegsHold s t ∧
      (∀ adr, adr ∉ ((0x111200 + 4 * n.val) :: axisRegs n.val ++ evtRegs SRC_GDRV_VBR_REV.blk SRC_GDRV_VBR_REV.s : List Nat) → t.word adr = s.word adr)) ∧
  -- completes: vbrRev
  (∀ (s : State) (n : Fin 4) (v : BitVec 16), regsWf s → s.pwr.coreUp = true → s.fieldUp = true → -100 ≤ signed 16 v.toNat →
    ∃ t, exec (.vbrRev n v) s = .next t ∧
      t.get GDRV_VBR_VBR 0 n.val = v.toNat ∧
      t.flag GDRV_VBR_REV 0 n.val = false ∧
      RegsOnly s t ∧
      (∀ adr, adr ∉ ([0x111200 + 4 * n.val] : List Nat) → t.word adr = s.word adr)) ∧
  -- completes: vdrvUv
  (∀ (s : State) (v : BitVec 16), regsWf s → s.pwr.coreUp = true → s.fieldUp = true → signed 16 v.toNat < 950 →
    ∃ t, exec (.vdrvUv v) s = .next t ∧
      t.get GDRV_VDRV_VDRV = v.toNat ∧
      t.flag GDRV_VDRV_UV = true ∧
      t.flag ⟨ctrlAddr SRC_GDRV_VDRV_UV.blk 0x04, 0, 0, SRC_GDRV_VDRV_UV.s, 1⟩ = true ∧
      ∀ m ∈ List.range 4, driving s m = true → t.get AXIS_STAT_STATE m = AX_INHIBITED ∧
      ∀ m ∈ List.range 4, gatesOff t m = true ∧
      RegsHold s t ∧
      (∀ adr, adr ∉ (0x111214 :: evtRegs SRC_GDRV_VDRV_UV.blk SRC_GDRV_VDRV_UV.s ++ inhibitRegs : List Nat) → t.word adr = s.word adr)) ∧
  -- completes: vdrvUv
  (∀ (s : State) (v : BitVec 16), regsWf s → s.pwr.coreUp = true → s.fieldUp = true → 1000 < signed 16 v.toNat →
    ∃ t, exec (.vdrvUv v) s = .next t ∧
      t.get GDRV_VDRV_VDRV = v.toNat ∧
      t.flag GDRV_VDRV_UV = false ∧
      RegsOnly s t ∧
      (∀ adr, adr ∉ ([0x111214] : List Nat) → t.word adr = s.word adr)) ∧
  -- completes: vdrvUv
  (∀ (s : State) (v : BitVec 16), regsWf s → s.pwr.coreUp = true → s.fieldUp = true → 950 ≤ signed 16 v.toNat → signed 16 v.toNat ≤ 1000 →
    ∃ t, exec (.vdrvUv v) s = .next t ∧
      t.get GDRV_VDRV_VDRV = v.toNat ∧
      t.flag GDRV_VDRV_UV = s.flag GDRV_VDRV_UV ∧
      RegsOnly s t ∧
      (∀ adr, adr ∉ ([0x111214] : List Nat) → t.word adr = s.word adr)) ∧
  -- completes: tripInput
  (∀ (s : State) (i : Fin 8), regsWf s → s.pwr.coreUp = true → s.fieldUp = true → bitOf (s.get GDRV_TRIP_CFG_TRIP_EN) i.val = false →
    ∃ t, exec (.tripInput i) s = .next t ∧
      bitOf (t.get GDRV_TRIP_STAT_INPUT) i.val = true ∧
      bitOf (t.get GDRV_TRIP_STAT_CLR_PEND) i.val = false ∧
      t.get GDRV_TRIP_STAT_LATCH = s.get GDRV_TRIP_STAT_LATCH ∧
      t.drive = { s.drive with quiet := s.drive.quiet.filter (· != i.val) } ∧
      t = { s with regs := t.regs, drive := t.drive } ∧
      (∀ adr, adr ∉ ([0x111104] : List Nat) → t.word adr = s.word adr)) ∧
  -- completes: tripInput
  (∀ (s : State) (i : Fin 8), regsWf s → s.pwr.coreUp = true → s.fieldUp = true → bitOf (s.get GDRV_TRIP_CFG_TRIP_EN) i.val = true → bitOf (s.get GDRV_TRIP_STAT_LATCH) i.val = false → s.sgrActive = true →
    ∃ t, exec (.tripInput i) s = .next t ∧
      bitOf (t.get GDRV_TRIP_STAT_INPUT) i.val = true ∧
      bitOf (t.get GDRV_TRIP_STAT_LATCH) i.val = true ∧
      t.flag ⟨ctrlAddr SRC_SAFE_TRIP.blk 0x04, 0, 0, SRC_SAFE_TRIP.s, 1⟩ = true ∧
      ∀ m ∈ List.range 4, driving s m = true → t.get AXIS_STAT_STATE m = AX_INHIBITED ∧
      ∀ m ∈ List.range 4, gatesOff t m = true ∧
      t = { s with regs := t.regs, drive := t.drive, pwr := { s.pwr with holdCopy := t.pwr.holdCopy }, cap := { s.cap with force := t.cap.force } } ∧
      (∀ adr, adr ∉ (0x111104 :: evtRegs SRC_SAFE_TRIP.blk SRC_SAFE_TRIP.s ++ inhibitRegs : List Nat) → t.word adr = s.word adr)) ∧
  -- completes: tripInput
  (∀ (s : State) (i : Fin 8), regsWf s → s.pwr.coreUp = true → s.fieldUp = true → bitOf (s.get GDRV_TRIP_CFG_TRIP_EN) i.val = true → bitOf (s.get GDRV_TRIP_STAT_LATCH) i.val = false → s.sgrActive = false →
    ∃ t, exec (.tripInput i) s = .next t ∧
      bitOf (t.get GDRV_TRIP_STAT_INPUT) i.val = true ∧
      bitOf (t.get GDRV_TRIP_STAT_LATCH) i.val = true ∧
      t.flag ⟨ctrlAddr SRC_SAFE_TRIP.blk 0x04, 0, 0, SRC_SAFE_TRIP.s, 1⟩ = true ∧
      t.flag ⟨ctrlAddr SRC_SAFE_SGR.blk 0x04, 0, 0, SRC_SAFE_SGR.s, 1⟩ = true ∧
      t.sgrActive = true ∧
      t.flag HIVE_BLOCK_ACTIVE = true ∧
      t.get HIVE_BLOCK_CAUSE = 1 ∧
      ∀ m ∈ List.range 4, driving s m = true → t.get AXIS_STAT_STATE m = AX_INHIBITED ∧
      ∀ m ∈ List.range 4, gatesOff t m = true ∧
      t = { s with regs := t.regs, hive := t.hive, safe := t.safe, ctc := t.ctc, drive := t.drive, fes := t.fes, pwr := { s.pwr with holdCopy := t.pwr.holdCopy }, cap := { s.cap with force := t.cap.force } } ∧
      (∀ adr, adr ∉ (0x111104 :: evtRegs SRC_SAFE_TRIP.blk SRC_SAFE_TRIP.s ++ sgrRegs : List Nat) → t.word adr = s.word adr)) ∧
  -- completes: tripInputInactive
  (∀ (s : State) (i : Fin 8), regsWf s → s.fieldUp = true → s.drive.siRev.contains (8 + i.val) = false →
    ∃ t, exec (.tripInputInactive i) s = .next t ∧
      bitOf (t.get GDRV_TRIP_STAT_INPUT) i.val = false ∧
      t.get GDRV_TRIP_STAT_LATCH = s.get GDRV_TRIP_STAT_LATCH ∧
      (s.get GDRV_TRIP_CFG_TRIP_QUIET = 0 → t.drive.quiet.contains i.val = true) ∧
      (s.get GDRV_TRIP_CFG_TRIP_QUIET ≠ 0 → t.drive = s.drive) ∧
      t = { s with regs := t.regs, drive := t.drive } ∧
      (∀ adr, adr ∉ ([0x111104] : List Nat) → t.word adr = s.word adr)) ∧
  (∀ (s : State) (i : Fin 8), s.fieldUp = true → s.drive.siRev.contains (8 + i.val) = true →
    ∃ t, exec (.tripInputInactive i) s = .next t ∧
      t = s) ∧
  -- completes: tripQuietExpiry
  (∀ (s : State) (i : Fin 8), regsWf s → s.fieldUp = true → bitOf (s.get GDRV_TRIP_STAT_INPUT) i.val = false → bitOf (s.get GDRV_TRIP_STAT_CLR_PEND) i.val = true →
    ∃ t, exec (.tripQuietExpiry i) s = .next t ∧
      bitOf (t.get GDRV_TRIP_STAT_LATCH) i.val = false ∧
      bitOf (t.get GDRV_TRIP_STAT_CLR_PEND) i.val = false ∧
      t.drive.quiet.contains i.val = true ∧
      t = { s with regs := t.regs, drive := t.drive } ∧
      (∀ adr, adr ∉ ([0x111104] : List Nat) → t.word adr = s.word adr)) ∧
  (∀ (s : State) (i : Fin 8), s.fieldUp = true → bitOf (s.get GDRV_TRIP_STAT_INPUT) i.val = true →
    ∃ t, exec (.tripQuietExpiry i) s = .next t ∧
      t = s) ∧
  (∀ (s : State) (i : Fin 8), regsWf s → s.pwr.coreUp = true → bitOf (s.get GDRV_TRIP_STAT_INPUT) i.val = true →
    ∃ t, exec (.tripClear (BitVec.ofNat 8 (2 ^ i.val))) s = .next t ∧
      t.get (CHK_REASON .gdrv) = 0x1120 ∧
      t.get (CHK_UNIT .gdrv) = 0x11 ∧
      t.get (CHK_OFFSET .gdrv) = 0x08 ∧
      t.word 0x111104 = s.word 0x111104 ∧
      RegsOnly s t ∧
      (∀ adr, adr ∉ (refuseRegs .gdrv : List Nat) → t.word adr = s.word adr)) ∧
  -- completes: tripClear
  (∀ (s : State) (i : Fin 8), regsWf s → s.pwr.coreUp = true → bitOf (s.get GDRV_TRIP_STAT_INPUT) i.val = false → s.drive.quiet.contains i.val = true →
    ∃ t, exec (.tripClear (BitVec.ofNat 8 (2 ^ i.val))) s = .next t ∧
      bitOf (t.get GDRV_TRIP_STAT_LATCH) i.val = false ∧
      bitOf (t.get GDRV_TRIP_STAT_CLR_PEND) i.val = false ∧
      ∀ j ∈ List.range 8, j ≠ i.val → bitOf (t.get GDRV_TRIP_STAT_LATCH) j = bitOf (s.get GDRV_TRIP_STAT_LATCH) j ∧
      RegsOnly s t ∧
      (∀ adr, adr ∉ ([0x111104] : List Nat) → t.word adr = s.word adr)) ∧
  -- completes: tripClear
  (∀ (s : State) (i : Fin 8), regsWf s → s.pwr.coreUp = true → bitOf (s.get GDRV_TRIP_STAT_INPUT) i.val = false → bitOf (s.get GDRV_TRIP_STAT_LATCH) i.val = true → s.drive.quiet.contains i.val = false → s.get GDRV_TRIP_CFG_TRIP_QUIET ≠ 0 →
    ∃ t, exec (.tripClear (BitVec.ofNat 8 (2 ^ i.val))) s = .next t ∧
      bitOf (t.get GDRV_TRIP_STAT_LATCH) i.val = true ∧
      bitOf (t.get GDRV_TRIP_STAT_CLR_PEND) i.val = true ∧
      RegsOnly s t ∧
      (∀ adr, adr ∉ ([0x111104] : List Nat) → t.word adr = s.word adr))

/-- A forward quadrature step adds one count, the last count of a turn returning POS to 0 with REV one higher; a skipped step is only counted in SKIP; an equal sample counts nothing. The index latches POS, and in mode 3 loads IDX_POS. Without an edge for STILL_TMO the speed is 0, invalid, and STILL shows. A Hall change shows the lines; a failed plausibility check sets PLAUS_FAIL with its event and, with the axis under no function, STR; 100 ms of passed checks clear it. A compare pulse ends. A short or back-fed sensor supply latches with its event, and the latch clears only when its condition is gone; a reversed encoder, safety, trip or feedback input raises REVERSE of its block, reads low and is noted until the reversal ends. It says of each of these that it completes with its own effect, exec answering the next state told, under hypotheses on the state and the operands alone: encCount, encIndex, encStill, hallLineChange, encPlausFail, plausChecksPassed, cmpPulseEnd, supplyShort, backfeed, ssupClear, inputReverse. (R54, R55, R445, R446, R447, R448, R449, R450, R471) -/
def Obligations.EncodersCountAndSensorsAreWatched : Prop :=
  -- completes: encCount
  (∀ (s : State) (n : Fin 4) (a : Bool) (b : Bool) (dt : Nat) (q : Nat), regsWf s → s.pwr.coreUp = true → s.fieldUp = true → s.en .enc = true → s.flag ENC_CFG_EN_CH n.val = true → quadIndex (s.encSt n.val).a (s.encSt n.val).b = q → (decide (quadIndex a b = (q + 1) % 4) != s.flag ENC_CFG_INV_DIR n.val) = true → quadIndex a b ≠ q → quadIndex a b ≠ (q + 2) % 4 → s.drive.encRev.contains (6 * n.val) = false → s.drive.encRev.contains (6 * n.val + 1) = false → s.en .safe = false → s.drive.encs.length = 4 → s.get ENC_POS_POS n.val + 1 < s.get ENC_CPR_CPR n.val →
    ∃ t, exec (.encCount n a b dt) s = .next t ∧
      t.get ENC_POS_POS n.val = s.get ENC_POS_POS n.val + 1 ∧
      t.get ENC_REV_REV n.val = s.get ENC_REV_REV n.val ∧
      t.get ENC_STAT_SKIP n.val = s.get ENC_STAT_SKIP n.val ∧
      t = { s with regs := t.regs, drive := t.drive, safe := t.safe } ∧
      (∀ adr, adr ∉ ([0x120008, 0x12000C, 0x120010, 0x120014, 0x120020].map (fun x => x + 0x100 * n.val) : List Nat) → t.word adr = s.word adr)) ∧
  -- completes: encCount
  (∀ (s : State) (n : Fin 4) (a : Bool) (b : Bool) (dt : Nat) (q : Nat), regsWf s → s.pwr.coreUp = true → s.fieldUp = true → s.en .enc = true → s.flag ENC_CFG_EN_CH n.val = true → quadIndex (s.encSt n.val).a (s.encSt n.val).b = q → (decide (quadIndex a b = (q + 1) % 4) != s.flag ENC_CFG_INV_DIR n.val) = true → quadIndex a b ≠ q → quadIndex a b ≠ (q + 2) % 4 → s.drive.encRev.contains (6 * n.val) = false → s.drive.encRev.contains (6 * n.val + 1) = false → s.en .safe = false → s.drive.encs.length = 4 → s.get ENC_CPR_CPR n.val ≤ s.get ENC_POS_POS n.val + 1 →
    ∃ t, exec (.encCount n a b dt) s = .next t ∧
      t.get ENC_POS_POS n.val = 0 ∧
      t.get ENC_REV_REV n.val = (s.get ENC_REV_REV n.val + 1) % 2 ^ 32 ∧
      t = { s with regs := t.regs, drive := t.drive, safe := t.safe } ∧
      (∀ adr, adr ∉ ([0x120008, 0x12000C, 0x120010, 0x120014, 0x120020].map (fun x => x + 0x100 * n.val) : List Nat) → t.word adr = s.word adr)) ∧
  -- completes: encCount
  (∀ (s : State) (n : Fin 4) (a : Bool) (b : Bool) (dt : Nat) (q : Nat), regsWf s → s.pwr.coreUp = true → s.fieldUp = true → s.en .enc = true → s.flag ENC_CFG_EN_CH n.val = true → s.drive.encRev.contains (6 * n.val) = false → s.drive.encRev.contains (6 * n.val + 1) = false → s.en .safe = false → s.drive.encs.length = 4 → quadIndex (s.encSt n.val).a (s.encSt n.val).b = q → quadIndex a b = (q + 2) % 4 →
    ∃ t, exec (.encCount n a b dt) s = .next t ∧
      t.get ENC_STAT_SKIP n.val = satInc 0xFFFF (s.get ENC_STAT_SKIP n.val) ∧
      t.get ENC_POS_POS n.val = s.get ENC_POS_POS n.val ∧
      t.get ENC_REV_REV n.val = s.get ENC_REV_REV n.val ∧
      t = { s with regs := t.regs, drive := t.drive, safe := t.safe } ∧
      (∀ adr, adr ∉ ([0x120008, 0x12000C, 0x120010, 0x120014, 0x120020].map (fun x => x + 0x100 * n.val) : List Nat) → t.word adr = s.word adr)) ∧
  -- completes: encCount
  (∀ (s : State) (n : Fin 4) (a : Bool) (b : Bool) (dt : Nat) (q : Nat), regsWf s → s.pwr.coreUp = true → s.fieldUp = true → s.en .enc = true → s.flag ENC_CFG_EN_CH n.val = true → s.drive.encRev.contains (6 * n.val) = false → s.drive.encRev.contains (6 * n.val + 1) = false → s.en .safe = false → s.drive.encs.length = 4 → quadIndex (s.encSt n.val).a (s.encSt n.val).b = q → quadIndex a b = q →
    ∃ t, exec (.encCount n a b dt) s = .next t ∧
      t.get ENC_STAT_SKIP n.val = s.get ENC_STAT_SKIP n.val ∧
      t.get ENC_POS_POS n.val = s.get ENC_POS_POS n.val ∧
      t = { s with regs := t.regs, drive := t.drive, safe := t.safe } ∧
      (∀ adr, adr ∉ ([0x120010 + 0x100 * n.val] : List Nat) → t.word adr = s.word adr)) ∧
  -- completes: encIndex
  (∀ (s : State) (n : Fin 4), regsWf s → s.pwr.coreUp = true → s.fieldUp = true → s.en .enc = true → s.flag ENC_CFG_EN_CH n.val = true → s.drive.encRev.contains (6 * n.val + 2) = false → s.get ENC_CFG_IDX_MODE n.val = 1 →
    ∃ t, exec (.encIndex n) s = .next t ∧
      t.flag ENC_STAT_IDX_SEEN n.val = true ∧
      t.get ENC_IDXLAT_POS n.val = s.get ENC_POS_POS n.val ∧
      t.get ENC_POS_POS n.val = s.get ENC_POS_POS n.val ∧
      RegsOnly s t ∧
      (∀ adr, adr ∉ ([0x120014 + 0x100 * n.val, 0x12001C + 0x100 * n.val] : List Nat) → t.word adr = s.word adr)) ∧
  -- completes: encIndex
  (∀ (s : State) (n : Fin 4), regsWf s → s.pwr.coreUp = true → s.fieldUp = true → s.en .enc = true → s.flag ENC_CFG_EN_CH n.val = true → s.drive.encRev.contains (6 * n.val + 2) = false → s.get ENC_CFG_IDX_MODE n.val = 3 →
    ∃ t, exec (.encIndex n) s = .next t ∧
      t.flag ENC_STAT_IDX_SEEN n.val = true ∧
      t.get ENC_IDXLAT_POS n.val = s.get ENC_POS_POS n.val ∧
      t.get ENC_POS_POS n.val = s.get ENC_IDX_IDX_POS n.val ∧
      RegsOnly s t ∧
      (∀ adr, adr ∉ ([0x120014 + 0x100 * n.val, 0x12001C + 0x100 * n.val, 0x120008 + 0x100 * n.val] : List Nat) → t.word adr = s.word adr)) ∧
  -- completes: encStill
  (∀ (s : State) (n : Fin 4), regsWf s → s.pwr.coreUp = true → s.en .enc = true → s.flag ENC_CFG_EN_CH n.val = true → s.drive.encs.length = 4 →
    ∃ t, exec (.encStill n) s = .next t ∧
      t.get ENC_SPD_SPEED n.val = 0 ∧
      t.flag ENC_STAT_SPD_VALID n.val = false ∧
      t.flag ENC_STAT_STILL n.val = true ∧
      (t.encSt n.val).edges = 0 ∧
      t = { s with regs := t.regs, drive := t.drive } ∧
      (∀ adr, adr ∉ ([0x120010 + 0x100 * n.val, 0x120014 + 0x100 * n.val] : List Nat) → t.word adr = s.word adr)) ∧
  -- completes: hallLineChange
  (∀ (s : State) (n : Fin 4) (u : Bool) (v : Bool) (w : Bool), regsWf s → s.pwr.coreUp = true → s.fieldUp = true → s.en .enc = true → s.flag ENC_CFG_EN_CH n.val = true → s.flag SAFE_AXCFG_HALL_EN n.val = false → s.drive.encs.length = 4 →
    ∃ t, exec (.hallLineChange n u v w) s = .next t ∧
      t.get ENC_STAT_HALL n.val = b2n (u && !s.drive.encRev.contains (6 * n.val + 3)) + 2 * b2n (v && !s.drive.encRev.contains (6 * n.val + 4)) + 4 * b2n (w && !s.drive.encRev.contains (6 * n.val + 5)) ∧
      (t.encSt n.val).hallCounts = 0 ∧
      t.safe.moved.contains n.val = true ∧
      t = { s with regs := t.regs, drive := t.drive, safe := t.safe } ∧
      (∀ adr, adr ∉ ([0x120014 + 0x100 * n.val] : List Nat) → t.word adr = s.word adr)) ∧
  -- completes: encPlausFail
  (∀ (s : State) (a : Fin 4), regsWf s → s.pwr.coreUp = true → s.plausOn a.val = true → s.strActive a.val = false →
    ∃ t, exec (.encPlausFail a) s = .next t ∧
      t.flag SAFE_AXSTAT_PLAUS_FAIL a.val = true ∧
      t.strActive a.val = true ∧
      t.sdsActive a.val = false ∧
      t.get SAFE_AXSTAT_FUNC a.val = 2 ∧
      (s.flag SAFE_AXSTAT_PLAUS_FAIL a.val = false → t.flag ⟨ctrlAddr SRC_SAFE_ENC_PLAUS.blk 0x04, 0, 0, SRC_SAFE_ENC_PLAUS.s, 1⟩ = true) ∧
      (driving s a.val = true → t.get AXIS_STAT_STATE a.val = AX_INHIBITED) ∧
      gatesOff t a.val = true ∧
      t = { s with regs := t.regs, safe := t.safe, pwr := { s.pwr with holdCopy := t.pwr.holdCopy }, cap := { s.cap with force := t.cap.force } } ∧
      (∀ adr, adr ∉ (evtRegs SRC_SAFE_ENC_PLAUS.blk SRC_SAFE_ENC_PLAUS.s ++ inhibitRegs : List Nat) → t.word adr = s.word adr)) ∧
  -- completes: plausChecksPassed
  (∀ (s : State) (a : Fin 4), regsWf s → s.pwr.coreUp = true → s.plausOn a.val = true → s.flag SAFE_AXCFG_HALL_EN a.val = false →
    ∃ t, exec (.plausChecksPassed a) s = .next t ∧
      t.flag SAFE_AXSTAT_PLAUS_FAIL a.val = false ∧
      RegsOnly s t ∧
      (∀ adr, adr ∉ ([0x130414 + 0x100 * a.val] : List Nat) → t.word adr = s.word adr)) ∧
  -- completes: cmpPulseEnd
  (∀ (s : State) (m : Fin 8), s.pwr.coreUp = true →
    ∃ t, exec (.cmpPulseEnd m) s = .next t ∧
      t = { s with drive := { s.drive with cmpHigh := s.drive.cmpHigh.filter (· != m.val) } } ∧
      t.drive.cmpHigh.contains m.val = false) ∧
  -- completes: supplyShort
  (∀ (s : State) (n : Fin 4), regsWf s → s.pwr.coreUp = true → s.fieldUp = true →
    ∃ t, exec (.supplyShort n true) s = .next t ∧
      bitOf (t.get ENC_SSUP_SHORT) n.val = true ∧
      t.ssupOn n.val = false ∧
      t.drive.ssupShort.contains n.val = true ∧
      t.flag ⟨ctrlAddr SRC_ENC_SUPPLY_SHORT.blk 0x04, 0, 0, SRC_ENC_SUPPLY_SHORT.s, 1⟩ = true ∧
      t = { s with regs := t.regs, drive := t.drive, pwr := { s.pwr with holdCopy := t.pwr.holdCopy }, cap := { s.cap with force := t.cap.force } } ∧
      (∀ adr, adr ∉ (0x121100 :: evtRegs SRC_ENC_SUPPLY_SHORT.blk SRC_ENC_SUPPLY_SHORT.s : List Nat) → t.word adr = s.word adr)) ∧
  -- completes: supplyShort
  (∀ (s : State) (n : Fin 4), s.pwr.coreUp = true → s.fieldUp = true →
    ∃ t, exec (.supplyShort n false) s = .next t ∧
      t = { s with drive := { s.drive with ssupShort := s.drive.ssupShort.filter (· != n.val) } }) ∧
  -- completes: backfeed
  (∀ (s : State) (n : Fin 4), regsWf s → s.pwr.coreUp = true → s.fieldUp = true →
    ∃ t, exec (.backfeed n true) s = .next t ∧
      bitOf (t.get ENC_SSUP_BACKFEED) n.val = true ∧
      t.ssupOn n.val = false ∧
      t.drive.ssupBack.contains n.val = true ∧
      t.flag ⟨ctrlAddr SRC_ENC_BACKFEED.blk 0x04, 0, 0, SRC_ENC_BACKFEED.s, 1⟩ = true ∧
      t = { s with regs := t.regs, drive := t.drive, pwr := { s.pwr with holdCopy := t.pwr.holdCopy }, cap := { s.cap with force := t.cap.force } } ∧
      (∀ adr, adr ∉ (0x121100 :: evtRegs SRC_ENC_BACKFEED.blk SRC_ENC_BACKFEED.s : List Nat) → t.word adr = s.word adr)) ∧
  -- completes: ssupClear
  (∀ (s : State) (n : Fin 4), regsWf s → s.pwr.coreUp = true → s.drive.ssupShort.contains n.val = false → s.drive.ssupBack.contains n.val = false →
    ∃ t, exec (.ssupClear (BitVec.ofNat 4 (2 ^ n.val))) s = .next t ∧
      bitOf (t.get ENC_SSUP_SHORT) n.val = false ∧
      bitOf (t.get ENC_SSUP_BACKFEED) n.val = false ∧
      t.get ENC_SSUP_SSUP_EN = s.get ENC_SSUP_SSUP_EN ∧
      RegsOnly s t ∧
      (∀ adr, adr ∉ ([0x121100] : List Nat) → t.word adr = s.word adr)) ∧
  (∀ (s : State) (n : Fin 4), regsWf s → s.pwr.coreUp = true → (s.drive.ssupShort.contains n.val = true ∨ s.drive.ssupBack.contains n.val = true) →
    ∃ t, exec (.ssupClear (BitVec.ofNat 4 (2 ^ n.val))) s = .next t ∧
      t.get (CHK_REASON .enc) = 0x1220 ∧
      t.get (CHK_UNIT .enc) = 0x11 ∧
      t.get (CHK_OFFSET .enc) = 0x04 ∧
      t.word 0x121100 = s.word 0x121100 ∧
      RegsOnly s t ∧
      (∀ adr, adr ∉ (refuseRegs .enc : List Nat) → t.word adr = s.word adr)) ∧
  -- completes: inputReverse
  (∀ (s : State) (n : Fin 4) (line : Fin 6), regsWf s → s.pwr.coreUp = true → s.fieldUp = true →
    ∃ t, exec (.inputReverse (.enc n line) true) s = .next t ∧
      t.flag ⟨ctrlAddr SRC_ENC_REVERSE.blk 0x04, 0, 0, SRC_ENC_REVERSE.s, 1⟩ = true ∧
      t.drive.encRev.contains (6 * n.val + line.val) = true) ∧
  -- completes: inputReverse
  (∀ (s : State) (n : Fin 4), regsWf s → s.pwr.coreUp = true → s.fieldUp = true →
    ∃ t, exec (.inputReverse (.enc n 2) true) s = .next t ∧
      t.flag ⟨ctrlAddr SRC_ENC_REVERSE.blk 0x04, 0, 0, SRC_ENC_REVERSE.s, 1⟩ = true ∧
      t.drive = { s.drive with encRev := setPresent s.drive.encRev (6 * n.val + 2) true } ∧
      t = { s with regs := t.regs, drive := t.drive, pwr := { s.pwr with holdCopy := t.pwr.holdCopy }, cap := { s.cap with force := t.cap.force } } ∧
      (∀ adr, adr ∉ (evtRegs SRC_ENC_REVERSE.blk SRC_ENC_REVERSE.s : List Nat) → t.word adr = s.word adr)) ∧
  -- completes: inputReverse
  (∀ (s : State) (n : Fin 4) (line : Fin 6), s.pwr.coreUp = true → s.fieldUp = true →
    ∃ t, exec (.inputReverse (.enc n line) false) s = .next t ∧
      t = { s with drive := { s.drive with encRev := s.drive.encRev.filter (· != 6 * n.val + line.val) } }) ∧
  -- completes: inputReverse
  (∀ (s : State) (i : Fin 8), s.pwr.coreUp = true → s.fieldUp = true →
    ∃ t, exec (.inputReverse (.trip i) false) s = .next t ∧
      t = { s with drive := { s.drive with siRev := s.drive.siRev.filter (· != 8 + i.val) } }) ∧
  -- completes: inputReverse
  (∀ (s : State) (i : Fin 8), regsWf s → s.pwr.coreUp = true → s.fieldUp = true →
    ∃ t, exec (.inputReverse (.trip i) true) s = .next t ∧
      t.flag ⟨ctrlAddr SRC_SAFE_REVERSE.blk 0x04, 0, 0, SRC_SAFE_REVERSE.s, 1⟩ = true ∧
      t.drive.siRev.contains (8 + i.val) = true) ∧
  -- completes: inputReverse
  (∀ (s : State) (i : Fin 4) (c : Bool), regsWf s → s.pwr.coreUp = true → s.fieldUp = true →
    ∃ t, exec (.inputReverse (.si i c) true) s = .next t ∧
      t.flag ⟨ctrlAddr SRC_SAFE_REVERSE.blk 0x04, 0, 0, SRC_SAFE_REVERSE.s, 1⟩ = true ∧
      t.drive.siRev.contains (2 * i.val + b2n c) = true) ∧
  -- completes: inputReverse
  (∀ (s : State) (i : Fin 4) (c : Bool), s.pwr.coreUp = true → s.fieldUp = true →
    ∃ t, exec (.inputReverse (.si i c) false) s = .next t ∧
      t = { s with drive := { s.drive with siRev := s.drive.siRev.filter (· != 2 * i.val + b2n c) } }) ∧
  -- completes: inputReverse
  (∀ (s : State) (k : Fin 40), regsWf s → s.pwr.coreUp = true → s.fieldUp = true →
    ∃ t, exec (.inputReverse (.fb k) true) s = .next t ∧
      t.flag ⟨ctrlAddr SRC_CTC_REVERSE.blk 0x04, 0, 0, SRC_CTC_REVERSE.s, 1⟩ = true ∧
      t.ctc.fbRev.contains k.val = true ∧
      t.fbHigh k.val = false) ∧
  -- completes: inputReverse
  (∀ (s : State) (k : Fin 40), s.pwr.coreUp = true → s.fieldUp = true →
    ∃ t, exec (.inputReverse (.fb k) false) s = .next t ∧
      t = { s with ctc := { s.ctc with fbRev := s.ctc.fbRev.filter (· != k.val) } })

/-- SGR, unless one is active: SGR_ACTIVE sets, SGR_DONE clears, the SGR event is raised, a BLOCK with the host cause and a new SEQ stands, the slots in service are waited for, the outputs of SGR_CTC are de-energised and each enabled axis takes the function that SGR_AX names. SOD with SAFE enabled: of a serving bus with cells it starts the ramp down with the cause shown; of a bus that is OFF and open it forces the coil and is complete at once. SDS of a moving axis latches V0 and starts monitoring, of an axis not in RUN it is STR; STR inhibits the axis. With SAFE disabled SOD, SDS and STR do nothing, and a function already active stays as it is. It says of each of these that it completes with its own effect, exec answering the next state told, under hypotheses on the state and the operands alone: safeCmdSgr, safeCmdSod, safeCmdSds, safeCmdStr. (R142, R460, R464, R466, R468, R469, R484, R559) -/
def Obligations.SafetyFunctionsAreRequestedByTheHost : Prop :=
  -- completes: safeCmdSgr
  (∀ (s : State), regsWf s → s.pwr.coreUp = true → s.sgrActive = false →
    ∃ t, exec .safeCmdSgr s = .next t ∧
      t.sgrActive = true ∧
      t.flag SAFE_FSTAT_SGR_DONE = false ∧
      t.flag ⟨ctrlAddr SRC_SAFE_SGR.blk 0x04, 0, 0, SRC_SAFE_SGR.s, 1⟩ = true ∧
      t.flag HIVE_BLOCK_ACTIVE = true ∧
      t.get HIVE_BLOCK_CAUSE = 4 ∧
      t.get HIVE_BLOCK_SEQ = s.seqAfter (s.get HIVE_BLOCK_SEQ) % 0x10000 ∧
      t.safe.sgrSlots = slots.filter (fun i => s.inService i) ∧
      (s.pwr.heartbeat = true → ∀ o ∈ coils, bitOf (s.get SAFE_SGRCTC_LO_MASK + 2 ^ 32 * s.get SAFE_SGRCTC_HI_MASK) o = true → t.flag CTC_OSTAT_ENERGISED o = false) ∧
      ∀ a ∈ List.range 4, s.axisEn a = true → s.get SAFE_AXCFG_SGR_AX a = 2 → t.strActive a = true ∧
      ∀ a ∈ List.range 4, s.axisEn a = true → s.get SAFE_AXCFG_SGR_AX a = 1 → (t.sdsActive a || t.strActive a) = true ∧
      t = { s with regs := t.regs, hive := t.hive, safe := t.safe, ctc := t.ctc, drive := t.drive, fes := t.fes, pwr := { s.pwr with holdCopy := t.pwr.holdCopy }, cap := { s.cap with force := t.cap.force } } ∧
      (∀ adr, adr ∉ (sgrRegs : List Nat) → t.word adr = s.word adr)) ∧
  (∀ (s : State), s.pwr.coreUp = true → s.sgrActive = true →
    ∃ t, exec .safeCmdSgr s = .next t ∧
      t = s) ∧
  -- completes: safeCmdSod
  (∀ (s : State) (b : Fin 12), regsWf s → s.pwr.coreUp = true → s.en .safe = true → s.sodActive b.val = false → s.sgrActive = false → s.busEn b.val = true → s.bst b.val = B_SERVING → s.holders b.val ≠ [] → s.out.buses.length = 12 →
    ∃ t, exec (.safeCmdSod b) s = .next t ∧
      t.sodActive b.val = true ∧
      t.get SAFE_SODSTAT_CAUSE 0 b.val = 2 ∧
      t.get SAFE_SODSTAT_STEP 0 b.val = 1 ∧
      t.bst b.val = B_RAMPDOWN ∧
      t.flag OUT_BSTAT_MODE b.val = true ∧
      (t.busSt b.val).ramp = s.geti OUT_BI_I b.val ∧
      t = { s with regs := t.regs, safe := t.safe, law := t.law, out := t.out } ∧
      (∀ adr, adr ∉ ([0x131110, 0x130810 + 4 * b.val, 0x0A001C + 0x100 * b.val] : List Nat) → t.word adr = s.word adr)) ∧
  -- completes: safeCmdSod
  (∀ (s : State) (b : Fin 12), regsWf s → s.pwr.coreUp = true → s.en .safe = true → s.sodActive b.val = false → s.busEn b.val = true → s.bst b.val = B_OFF → s.busClosed b.val = false → s.out.buses.length = 12 → s.pwr.heartbeat = true → s.get OUT_BCFG_CTC b.val < 40 →
    ∃ t, exec (.safeCmdSod b) s = .next t ∧
      t.sodActive b.val = true ∧
      t.get SAFE_SODSTAT_CAUSE 0 b.val = 2 ∧
      t.get SAFE_SODSTAT_STEP 0 b.val = 4 ∧
      t.bst b.val = B_OFF ∧
      (t.busSt b.val).noDab = true ∧
      t.flag CTC_OSTAT_ENERGISED (s.get OUT_BCFG_CTC b.val) = false ∧
      t.forcedOff (s.get OUT_BCFG_CTC b.val) = true ∧
      t = { s with regs := t.regs, safe := t.safe, out := t.out, ctc := t.ctc } ∧
      (∀ adr, adr ∉ ([0x131110, 0x130810 + 4 * b.val, 0x0A001C + 0x100 * b.val] ++ (List.range 40).map (fun o => 0x14000C + 0x100 * o) : List Nat) → t.word adr = s.word adr)) ∧
  (∀ (s : State) (b : Fin 12), s.pwr.coreUp = true → (s.en .safe = false ∨ s.sodActive b.val = true) →
    ∃ t, exec (.safeCmdSod b) s = .next t ∧
      t = s) ∧
  -- completes: safeCmdSds
  (∀ (s : State) (a : Fin 4), regsWf s → s.pwr.coreUp = true → s.en .safe = true → s.strActive a.val = false → s.sdsActive a.val = false → s.get AXIS_STAT_STATE a.val = AX_RUN → s.flag ENC_STAT_STILL a.val = false → s.drive.axes.length = 4 →
    ∃ t, exec (.safeCmdSds a) s = .next t ∧
      t.sdsActive a.val = true ∧
      t.get SAFE_AXSTAT_FUNC a.val = 1 ∧
      t.flag SAFE_AXSTAT_VIOL a.val = false ∧
      t.get SAFE_AXSTAT_T_SDS a.val = 0 ∧
      t.get SAFE_AXV0_V0 a.val = (if s.flag ENC_STAT_SPD_VALID a.val then (s.geti ENC_SPD_SPEED a.val).natAbs else 0) ∧
      t.get AXIS_STAT_STATE a.val = AX_RUN ∧
      t = { s with regs := t.regs, drive := t.drive } ∧
      (∀ adr, adr ∉ ([0x131110, 0x130414 + 0x100 * a.val, 0x130418 + 0x100 * a.val] : List Nat) → t.word adr = s.word adr)) ∧
  -- completes: safeCmdSds
  (∀ (s : State) (a : Fin 4), regsWf s → s.pwr.coreUp = true → s.en .safe = true → s.strActive a.val = false → s.sdsActive a.val = false → s.get AXIS_STAT_STATE a.val ≠ AX_RUN →
    ∃ t, exec (.safeCmdSds a) s = .next t ∧
      t.strActive a.val = true ∧
      t.sdsActive a.val = false ∧
      t.get SAFE_AXSTAT_FUNC a.val = 2 ∧
      (driving s a.val = true → t.get AXIS_STAT_STATE a.val = AX_INHIBITED) ∧
      gatesOff t a.val = true ∧
      RegsHold s t ∧
      (∀ adr, adr ∉ (inhibitRegs : List Nat) → t.word adr = s.word adr)) ∧
  -- completes: safeCmdStr
  (∀ (s : State) (a : Fin 4), regsWf s → s.pwr.coreUp = true → s.en .safe = true → s.strActive a.val = false →
    ∃ t, exec (.safeCmdStr a) s = .next t ∧
      t.strActive a.val = true ∧
      t.sdsActive a.val = false ∧
      t.get SAFE_AXSTAT_FUNC a.val = 2 ∧
      (driving s a.val = true → t.get AXIS_STAT_STATE a.val = AX_INHIBITED) ∧
      gatesOff t a.val = true ∧
      RegsHold s t ∧
      (∀ adr, adr ∉ (inhibitRegs : List Nat) → t.word adr = s.word adr)) ∧
  (∀ (s : State) (a : Fin 4), s.pwr.coreUp = true → (s.en .safe = false ∨ s.strActive a.val = true) →
    ∃ t, exec (.safeCmdSds a) s = .next t ∧
      t = s) ∧
  (∀ (s : State) (a : Fin 4), s.pwr.coreUp = true → (s.en .safe = false ∨ s.strActive a.val = true) →
    ∃ t, exec (.safeCmdStr a) s = .next t ∧
      t = s)

/-- SGR with every waited slot confirmed sets SGR_DONE and takes a READY device to SAFE, with cause 5 if ENTER_SAFE invoked it and 3 otherwise; before READY SAFE is due when READY comes. At SGR_CONF it ends in the same way, with SGR_UNCONF at the lowest slot still waited for. A tripped breaker that stays closed raises BKR_OPEN_FAIL. At the end of its ramp a SOD withdraws permission and watches the slots that held it; unconfirmed at SOD_CONF it fails with SOD_FAIL, STEP 5 and the coil forced off. A check of SDS above the limit, and SDS_TMAX, set VIOL with SDS_VIOL and pass to STR; at standstill STR follows without a violation; else only the time moves on. It says of each of these that it completes with its own effect, exec answering the next state told, under hypotheses on the state and the operands alone: sgrComplete, sgrConfTimeout, bkrOpenTimeout, sodRampEnd, sodConfTimeout, sdsCheck, sdsTimeout. (R57, R465, R466, R467, R468) -/
def Obligations.SafetyFunctionsRunToTheirEnd : Prop :=
  -- completes: sgrComplete
  (∀ (s : State), regsWf s → s.pwr.coreUp = true → s.sgrActive = true → s.flag SAFE_FSTAT_SGR_DONE = false → s.safe.sgrSlots.all (fun i => s.sgrConfirmed i) = true → READY ≤ s.pstate → s.pstate ≠ SAFE →
    ∃ t, exec .sgrComplete s = .next t ∧
      t.flag SAFE_FSTAT_SGR_DONE = true ∧
      t.safe.sgrSlots = [] ∧
      t.pwr.enterSafe = false ∧
      t.pstate = SAFE ∧
      t.get SYS_PWR_STATE_SAFE_CAUSE = (if s.pwr.enterSafe then 5 else 3) ∧
      t.sgrActive = true) ∧
  -- completes: sgrComplete
  (∀ (s : State), regsWf s → s.pwr.coreUp = true → s.sgrActive = true → s.flag SAFE_FSTAT_SGR_DONE = false → s.safe.sgrSlots.all (fun i => s.sgrConfirmed i) = true → s.pstate < READY →
    ∃ t, exec .sgrComplete s = .next t ∧
      t.flag SAFE_FSTAT_SGR_DONE = true ∧
      t.safe.sgrSlots = [] ∧
      t.pwr.enterSafe = false ∧
      t.pwr = { s.pwr with enterSafe := false, safeDue := true } ∧
      t = { s with regs := t.regs, safe := t.safe, pwr := t.pwr } ∧
      (∀ adr, adr ∉ ([0x131110] : List Nat) → t.word adr = s.word adr)) ∧
  -- completes: sgrComplete
  (∀ (s : State), s.pwr.coreUp = true → s.sgrActive = true → s.safe.sgrSlots.all (fun i => s.sgrConfirmed i) = false →
    ∃ t, exec .sgrComplete s = .next t ∧
      t = { s with safe := { s.safe with sgrSlots := s.safe.sgrSlots.filter (fun i => !s.sgrConfirmed i) } }) ∧
  -- completes: sgrConfTimeout
  (∀ (s : State) (i : Nat), regsWf s → s.pwr.coreUp = true → s.sgrActive = true → s.flag SAFE_FSTAT_SGR_DONE = false → s.safe.sgrSlots.min? = some i → i < 256 → READY ≤ s.pstate → s.pstate ≠ SAFE →
    ∃ t, exec .sgrConfTimeout s = .next t ∧
      t.flag SAFE_FSTAT_SGR_DONE = true ∧
      t.safe.sgrSlots = [] ∧
      t.pwr.enterSafe = false ∧
      t.pstate = SAFE ∧
      t.get SYS_PWR_STATE_SAFE_CAUSE = (if s.pwr.enterSafe then 5 else 3) ∧
      t.flag ⟨ctrlAddr SRC_SAFE_SGR_UNCONF.blk 0x04, 0, 0, SRC_SAFE_SGR_UNCONF.s, 1⟩ = true) ∧
  (∀ (s : State), s.pwr.coreUp = true → (s.sgrActive = false ∨ s.flag SAFE_FSTAT_SGR_DONE = true) →
    ∃ t, exec .sgrConfTimeout s = .next t ∧
      t = s) ∧
  -- completes: bkrOpenTimeout
  (∀ (s : State), regsWf s → s.pwr.coreUp = true → s.safe.sgrBkr = true → s.bkrClosed = true →
    ∃ t, exec .bkrOpenTimeout s = .next t ∧
      t.flag ⟨ctrlAddr SRC_SAFE_BKR_OPEN_FAIL.blk 0x04, 0, 0, SRC_SAFE_BKR_OPEN_FAIL.s, 1⟩ = true ∧
      t.safe = { s.safe with sgrBkr := false } ∧
      t = { s with regs := t.regs, safe := t.safe, pwr := { s.pwr with holdCopy := t.pwr.holdCopy }, cap := { s.cap with force := t.cap.force } } ∧
      (∀ adr, adr ∉ (evtRegs SRC_SAFE_BKR_OPEN_FAIL.blk SRC_SAFE_BKR_OPEN_FAIL.s : List Nat) → t.word adr = s.word adr)) ∧
  -- completes: bkrOpenTimeout
  (∀ (s : State), s.pwr.coreUp = true → s.safe.sgrBkr = true → s.bkrClosed = false →
    ∃ t, exec .bkrOpenTimeout s = .next t ∧
      t = { s with safe := { s.safe with sgrBkr := false } }) ∧
  -- completes: sodRampEnd
  (∀ (s : State) (b : Fin 12), regsWf s → s.pwr.coreUp = true → s.sodActive b.val = true → s.get SAFE_SODSTAT_STEP 0 b.val = 1 → s.holders b.val ≠ [] → s.out.buses.length = 12 →
    ∃ t, exec (.sodRampEnd b) s = .next t ∧
      t.get SAFE_SODSTAT_STEP 0 b.val = 2 ∧
      (t.busSt b.val).noDab = true ∧
      ∀ i ∈ s.holders b.val, (b.val, i) ∈ t.safe.sodSlots ∧
      t.sodActive b.val = true ∧
      t = { s with regs := t.regs, safe := t.safe, out := t.out } ∧
      (∀ adr, adr ∉ ([0x130810 + 4 * b.val] : List Nat) → t.word adr = s.word adr)) ∧
  (∀ (s : State) (b : Fin 12), s.pwr.coreUp = true → (s.sodActive b.val = false ∨ s.get SAFE_SODSTAT_STEP 0 b.val ≠ 1) →
    ∃ t, exec (.sodRampEnd b) s = .next t ∧
      t = s) ∧
  -- completes: sodConfTimeout
  (∀ (s : State) (b : Fin 12), regsWf s → s.pwr.coreUp = true → s.sodActive b.val = true → s.get SAFE_SODSTAT_STEP 0 b.val = 2 → s.flag SAFE_SODCFG2_SOD_ESC = false → s.out.buses.length = 12 → s.pwr.heartbeat = true → s.get OUT_BCFG_CTC b.val < 40 →
    ∃ t, exec (.sodConfTimeout b) s = .next t ∧
      t.get SAFE_SODSTAT_STEP 0 b.val = 5 ∧
      t.flag ⟨ctrlAddr SRC_SAFE_SOD_FAIL.blk 0x04, 0, 0, SRC_SAFE_SOD_FAIL.s, 1⟩ = true ∧
      (t.busSt b.val).noDab = true ∧
      t.flag CTC_OSTAT_ENERGISED (s.get OUT_BCFG_CTC b.val) = false ∧
      t.sodActive b.val = true ∧
      t.sgrActive = s.sgrActive ∧
      t = { s with regs := t.regs, out := t.out, ctc := t.ctc, pwr := { s.pwr with holdCopy := t.pwr.holdCopy }, cap := { s.cap with force := t.cap.force } } ∧
      (∀ adr, adr ∉ ((0x130810 + 4 * b.val) :: (List.range 40).map (fun o => 0x14000C + 0x100 * o) ++ evtRegs SRC_SAFE_SOD_FAIL.blk SRC_SAFE_SOD_FAIL.s : List Nat) → t.word adr = s.word adr)) ∧
  -- completes: sodConfTimeout
  (∀ (s : State) (b : Fin 12), regsWf s → s.pwr.coreUp = true → s.sodActive b.val = true → s.get SAFE_SODSTAT_STEP 0 b.val = 2 → s.flag SAFE_SODCFG2_SOD_ESC = true →
    ∃ t, exec (.sodConfTimeout b) s = .next t ∧
      t.get SAFE_SODSTAT_STEP 0 b.val = 5 ∧
      t.flag ⟨ctrlAddr SRC_SAFE_SOD_FAIL.blk 0x04, 0, 0, SRC_SAFE_SOD_FAIL.s, 1⟩ = true ∧
      t.sgrActive = true) ∧
  -- completes: sdsCheck
  (∀ (s : State) (a : Fin 4), regsWf s → s.pwr.coreUp = true → s.sdsActive a.val = true → s.drive.axes.length = 4 → (10 * s.get SAFE_AXV0_V0 a.val - s.get SAFE_AXDEC_DEC a.val * ((s.axisSt a.val).sdsTicks + 1)) + 10 * s.get SAFE_AXTOL_TOL a.val < 10 * (s.geti ENC_SPD_SPEED a.val).natAbs → s.strActive a.val = false →
    ∃ t, exec (.sdsCheck a) s = .next t ∧
      t.flag SAFE_AXSTAT_VIOL a.val = true ∧
      t.flag ⟨ctrlAddr SRC_SAFE_SDS_VIOL.blk 0x04, 0, 0, SRC_SAFE_SDS_VIOL.s, 1⟩ = true ∧
      t.strActive a.val = true ∧
      t.sdsActive a.val = false ∧
      t.get SAFE_AXSTAT_FUNC a.val = 2 ∧
      (driving s a.val = true → t.get AXIS_STAT_STATE a.val = AX_INHIBITED) ∧
      gatesOff t a.val = true ∧
      t = { s with regs := t.regs, drive := t.drive, pwr := { s.pwr with holdCopy := t.pwr.holdCopy }, cap := { s.cap with force := t.cap.force } } ∧
      (∀ adr, adr ∉ (evtRegs SRC_SAFE_SDS_VIOL.blk SRC_SAFE_SDS_VIOL.s ++ inhibitRegs : List Nat) → t.word adr = s.word adr)) ∧
  -- completes: sdsCheck
  (∀ (s : State) (a : Fin 4), regsWf s → s.pwr.coreUp = true → s.sdsActive a.val = true → s.drive.axes.length = 4 → 10 * (s.geti ENC_SPD_SPEED a.val).natAbs ≤ (10 * s.get SAFE_AXV0_V0 a.val - s.get SAFE_AXDEC_DEC a.val * ((s.axisSt a.val).sdsTicks + 1)) + 10 * s.get SAFE_AXTOL_TOL a.val → s.get SAFE_AXSTILL_STILL_SPD a.val < (s.geti ENC_SPD_SPEED a.val).natAbs → s.flag ENC_STAT_STILL a.val = false →
    ∃ t, exec (.sdsCheck a) s = .next t ∧
      t.get SAFE_AXSTAT_T_SDS a.val = min 0xFFFF (((s.axisSt a.val).sdsTicks + 1) / 10) ∧
      t.flag SAFE_AXSTAT_VIOL a.val = s.flag SAFE_AXSTAT_VIOL a.val ∧
      t.sdsActive a.val = true ∧
      (t.axisSt a.val).sdsTicks = (s.axisSt a.val).sdsTicks + 1 ∧
      t = { s with regs := t.regs, drive := t.drive } ∧
      (∀ adr, adr ∉ ([0x130414 + 0x100 * a.val] : List Nat) → t.word adr = s.word adr)) ∧
  -- completes: sdsCheck
  (∀ (s : State) (a : Fin 4), regsWf s → s.pwr.coreUp = true → s.sdsActive a.val = true → s.drive.axes.length = 4 → 10 * (s.geti ENC_SPD_SPEED a.val).natAbs ≤ (10 * s.get SAFE_AXV0_V0 a.val - s.get SAFE_AXDEC_DEC a.val * ((s.axisSt a.val).sdsTicks + 1)) + 10 * s.get SAFE_AXTOL_TOL a.val → ((s.geti ENC_SPD_SPEED a.val).natAbs ≤ s.get SAFE_AXSTILL_STILL_SPD a.val ∨ s.flag ENC_STAT_STILL a.val = true) → s.strActive a.val = false →
    ∃ t, exec (.sdsCheck a) s = .next t ∧
      t.flag SAFE_AXSTAT_VIOL a.val = s.flag SAFE_AXSTAT_VIOL a.val ∧
      t.strActive a.val = true ∧
      t.sdsActive a.val = false ∧
      t.get SAFE_AXSTAT_FUNC a.val = 2 ∧
      (driving s a.val = true → t.get AXIS_STAT_STATE a.val = AX_INHIBITED) ∧
      gatesOff t a.val = true ∧
      t = { s with regs := t.regs, drive := t.drive, pwr := { s.pwr with holdCopy := t.pwr.holdCopy }, cap := { s.cap with force := t.cap.force } } ∧
      (∀ adr, adr ∉ (inhibitRegs : List Nat) → t.word adr = s.word adr)) ∧
  -- completes: sdsTimeout
  (∀ (s : State) (a : Fin 4), regsWf s → s.pwr.coreUp = true → s.sdsActive a.val = true → s.strActive a.val = false →
    ∃ t, exec (.sdsTimeout a) s = .next t ∧
      t.flag SAFE_AXSTAT_VIOL a.val = true ∧
      t.flag ⟨ctrlAddr SRC_SAFE_SDS_VIOL.blk 0x04, 0, 0, SRC_SAFE_SDS_VIOL.s, 1⟩ = true ∧
      t.strActive a.val = true ∧
      t.sdsActive a.val = false ∧
      t.get SAFE_AXSTAT_FUNC a.val = 2 ∧
      (driving s a.val = true → t.get AXIS_STAT_STATE a.val = AX_INHIBITED) ∧
      gatesOff t a.val = true ∧
      RegsHold s t ∧
      (∀ adr, adr ∉ (evtRegs SRC_SAFE_SDS_VIOL.blk SRC_SAFE_SDS_VIOL.s ++ inhibitRegs : List Nat) → t.word adr = s.word adr)) ∧
  (∀ (s : State) (a : Fin 4), s.pwr.coreUp = true → s.sdsActive a.val = false →
    ∃ t, exec (.sdsTimeout a) s = .next t ∧
      t = s)

/-- A channel of an enabled pair that falls sets DEMAND, counts it and raises SI_DEMAND; with both channels high the demand ends; a disagreement that lasts sets DISC with SI_DISC, and it clears only after both channels have been low and are high again. A reset is refused with 0x1320 while a source still asks, with 0x1321 for a discrepancy, and RESET_SGR with STATE before SGR is done in SAFE. Accepted, RESET_SGR ends the BLOCK, the forcing and the function; RESET_SOD returns the bus to STEP 0 and gives its coil free; RESET_AXIS ends SDS and STR and takes the axis to IDLE. It says of each of these that it completes with its own effect, exec answering the next state told, under hypotheses on the state and the operands alone: siChange, siDiscTimeout, resetSgr, resetSod, resetAxis. (R55, R460, R461, R462, R470) -/
def Obligations.SafetyInputsAndResets : Prop :=
  -- completes: siChange
  (∀ (s : State) (i : Fin 4) (ch : Bool) (v : Bool), regsWf s → s.pwr.coreUp = true → s.fieldUp = true → s.flag SAFE_SICFG_EN i.val = true → s.flag SAFE_SISTAT_A i.val = true → s.flag SAFE_SISTAT_B i.val = true → s.flag SAFE_SISTAT_DEMAND i.val = false → v = false → s.flag SAFE_SICFG_DIRECT i.val = false → ∀ n ∈ List.range 4, s.inhibited n = false → s.flag SAFE_SISTAT_DISC i.val = false → s.flag SAFE_SICFG_SGR i.val = false → s.flag SAFE_SICFG_SOD i.val = false → s.flag SAFE_SICFG_SDS i.val = false → s.flag SAFE_SICFG_STR i.val = false →
    ∃ t, exec (.siChange i ch v) s = .next t ∧
      (if ch then t.flag SAFE_SISTAT_B i.val else t.flag SAFE_SISTAT_A i.val) = false ∧
      t.flag SAFE_SISTAT_DEMAND i.val = true ∧
      t.get SAFE_SISTAT_DEMANDS i.val = satInc 0xFFFF (s.get SAFE_SISTAT_DEMANDS i.val) ∧
      t.flag ⟨ctrlAddr SRC_SAFE_SI_DEMAND.blk 0x04, 0, 0, SRC_SAFE_SI_DEMAND.s, 1⟩ = true ∧
      RegsHold s t ∧
      (∀ adr, adr ∉ ((0x130008 + 0x100 * i.val) :: evtRegs SRC_SAFE_SI_DEMAND.blk SRC_SAFE_SI_DEMAND.s : List Nat) → t.word adr = s.word adr)) ∧
  -- completes: siChange
  (∀ (s : State) (i : Fin 4), regsWf s → s.pwr.coreUp = true → s.fieldUp = true → s.flag SAFE_SICFG_EN i.val = true → s.flag SAFE_SISTAT_A i.val = true → s.drive.siRev.contains (2 * i.val + 1) = false → s.flag SAFE_SICFG_DIRECT i.val = false → ∀ n ∈ List.range 4, s.inhibited n = false → s.safe.bothLow.contains i.val = false →
    ∃ t, exec (.siChange i true true) s = .next t ∧
      t.flag SAFE_SISTAT_B i.val = true ∧
      t.flag SAFE_SISTAT_DEMAND i.val = false ∧
      t.flag SAFE_SISTAT_DISC i.val = s.flag SAFE_SISTAT_DISC i.val ∧
      RegsOnly s t ∧
      (∀ adr, adr ∉ ([0x130008 + 0x100 * i.val] : List Nat) → t.word adr = s.word adr)) ∧
  -- completes: siChange
  (∀ (s : State) (i : Fin 4), regsWf s → s.pwr.coreUp = true → s.fieldUp = true → s.flag SAFE_SICFG_EN i.val = true → s.flag SAFE_SISTAT_A i.val = true → s.drive.siRev.contains (2 * i.val + 1) = false → s.flag SAFE_SICFG_DIRECT i.val = false → ∀ n ∈ List.range 4, s.inhibited n = false → s.safe.bothLow.contains i.val = true →
    ∃ t, exec (.siChange i true true) s = .next t ∧
      t.flag SAFE_SISTAT_B i.val = true ∧
      t.flag SAFE_SISTAT_DEMAND i.val = false ∧
      t.flag SAFE_SISTAT_DISC i.val = false ∧
      t.safe = { s.safe with bothLow := s.safe.bothLow.filter (· != i.val) } ∧
      t = { s with regs := t.regs, safe := t.safe } ∧
      (∀ adr, adr ∉ ([0x130008 + 0x100 * i.val] : List Nat) → t.word adr = s.word adr)) ∧
  -- completes: siDiscTimeout
  (∀ (s : State) (i : Fin 4), regsWf s → s.pwr.coreUp = true → s.flag SAFE_SICFG_EN i.val = true → s.flag SAFE_SISTAT_A i.val ≠ s.flag SAFE_SISTAT_B i.val → s.flag SAFE_SISTAT_DISC i.val = false →
    ∃ t, exec (.siDiscTimeout i) s = .next t ∧
      t.flag SAFE_SISTAT_DISC i.val = true ∧
      t.safe.bothLow.contains i.val = false ∧
      t.flag ⟨ctrlAddr SRC_SAFE_SI_DISC.blk 0x04, 0, 0, SRC_SAFE_SI_DISC.s, 1⟩ = true ∧
      t = { s with regs := t.regs, safe := t.safe, pwr := { s.pwr with holdCopy := t.pwr.holdCopy }, cap := { s.cap with force := t.cap.force } } ∧
      (∀ adr, adr ∉ ((0x130008 + 0x100 * i.val) :: evtRegs SRC_SAFE_SI_DISC.blk SRC_SAFE_SI_DISC.s : List Nat) → t.word adr = s.word adr)) ∧
  -- completes: resetSgr
  (∀ (s : State), regsWf s → s.pwr.coreUp = true → s.sgrAsked = false → (List.range 4).any (fun i => s.mapsSgr i && s.pairDisc i) = false → s.pstate = SAFE → s.flag SAFE_FSTAT_SGR_DONE = true →
    ∃ t, exec .resetSgr s = .next t ∧
      t.sgrActive = false ∧
      t.flag SAFE_FSTAT_SGR_DONE = false ∧
      t.flag HIVE_BLOCK_ACTIVE = false ∧
      t.ctc.sgrForced = [] ∧
      t.pstate = SAFE ∧
      t = { s with regs := t.regs, ctc := t.ctc } ∧
      (∀ adr, adr ∉ (0x131110 :: 0x051108 :: (List.range 40).map (fun o => 0x14000C + 0x100 * o) : List Nat) → t.word adr = s.word adr)) ∧
  (∀ (s : State), regsWf s → s.pwr.coreUp = true → s.sgrAsked = true →
    ∃ t, exec .resetSgr s = .next t ∧
      t.get (CHK_REASON .safe) = 0x1320 ∧
      t.get (CHK_UNIT .safe) = 0x11 ∧
      t.get (CHK_OFFSET .safe) = 0x0C ∧
      RegsOnly s t ∧
      (∀ adr, adr ∉ (refuseRegs .safe : List Nat) → t.word adr = s.word adr)) ∧
  (∀ (s : State), regsWf s → s.pwr.coreUp = true → s.sgrAsked = false → (List.range 4).any (fun i => s.mapsSgr i && s.pairDisc i) = true →
    ∃ t, exec .resetSgr s = .next t ∧
      t.get (CHK_REASON .safe) = 0x1321 ∧
      t.get (CHK_UNIT .safe) = 0x11 ∧
      t.get (CHK_OFFSET .safe) = 0x0C ∧
      RegsOnly s t ∧
      (∀ adr, adr ∉ (refuseRegs .safe : List Nat) → t.word adr = s.word adr)) ∧
  (∀ (s : State), regsWf s → s.pwr.coreUp = true → s.sgrAsked = false → (List.range 4).any (fun i => s.mapsSgr i && s.pairDisc i) = false → (s.pstate ≠ SAFE ∨ s.flag SAFE_FSTAT_SGR_DONE = false) →
    ∃ t, exec .resetSgr s = .next t ∧
      t.get (CHK_REASON .safe) = 0x130A ∧
      t.get (CHK_UNIT .safe) = 0x11 ∧
      t.get (CHK_OFFSET .safe) = 0x0C ∧
      RegsOnly s t ∧
      (∀ adr, adr ∉ (refuseRegs .safe : List Nat) → t.word adr = s.word adr)) ∧
  -- completes: resetSod
  (∀ (s : State) (b : Fin 12), regsWf s → s.pwr.coreUp = true → s.sodAsked b.val = false → (List.range 4).any (fun i => s.mapsSod b.val i && s.pairDisc i) = false → s.sodActive b.val = true → s.out.buses.length = 12 →
    ∃ t, exec (.resetSod b) s = .next t ∧
      t.sodActive b.val = false ∧
      t.get SAFE_SODSTAT_STEP 0 b.val = 0 ∧
      (t.busSt b.val).noDab = false ∧
      t.ctc.sodForced.all (fun p => p.2 != b.val) = true ∧
      t.bst b.val = s.bst b.val ∧
      ∀ c ∈ buses, c ≠ b.val → t.sodActive c = s.sodActive c ∧
      t = { s with regs := t.regs, safe := t.safe, out := t.out, ctc := t.ctc } ∧
      (∀ adr, adr ∉ (0x131110 :: (0x130810 + 4 * b.val) :: (List.range 40).map (fun o => 0x14000C + 0x100 * o) : List Nat) → t.word adr = s.word adr)) ∧
  (∀ (s : State) (b : Fin 12), regsWf s → s.pwr.coreUp = true → s.sodAsked b.val = true →
    ∃ t, exec (.resetSod b) s = .next t ∧
      t.get (CHK_REASON .safe) = 0x1320 ∧
      t.get (CHK_UNIT .safe) = 0x11 ∧
      t.get (CHK_OFFSET .safe) = 0x0C ∧
      RegsOnly s t ∧
      (∀ adr, adr ∉ (refuseRegs .safe : List Nat) → t.word adr = s.word adr)) ∧
  -- completes: resetAxis
  (∀ (s : State) (a : Fin 4), regsWf s → s.pwr.coreUp = true → s.axisAsked a.val = false → (List.range 4).any (fun i => s.mapsAxis a.val i && s.pairDisc i) = false → (s.sdsActive a.val = true ∨ s.strActive a.val = true) →
    ∃ t, exec (.resetAxis a) s = .next t ∧
      t.sdsActive a.val = false ∧
      t.strActive a.val = false ∧
      t.get SAFE_AXSTAT_FUNC a.val = 0 ∧
      t.get AXIS_STAT_STATE a.val = AX_IDLE ∧
      gatesOff t a.val = true ∧
      RegsOnly s t ∧
      (∀ adr, adr ∉ (0x131110 :: (0x130414 + 0x100 * a.val) :: axisRegs a.val : List Nat) → t.word adr = s.word adr)) ∧
  (∀ (s : State) (a : Fin 4), regsWf s → s.pwr.coreUp = true → s.axisAsked a.val = true →
    ∃ t, exec (.resetAxis a) s = .next t ∧
      t.get (CHK_REASON .safe) = 0x1320 ∧
      t.get (CHK_UNIT .safe) = 0x11 ∧
      t.get (CHK_OFFSET .safe) = 0x0C ∧
      RegsOnly s t ∧
      (∀ adr, adr ∉ (refuseRegs .safe : List Nat) → t.word adr = s.word adr))

/-- Each mode command is held with its code and shows in PENDING, nothing else changing; with FORM disabled or beside an active partner it is refused with STATE. START in READY with a start mode, FORM enabled, nothing severe and every string long enough holds the mode that START_MODE names; a string below its limit refuses it with 0x0620 and any other obstacle with STATE. The request of START_MODE at a boundary is held likewise. ENTER_SAFE in READY or a running state invokes SGR with the host cause; in other states it is refused with STATE. It says of each of these that it completes with its own effect, exec answering the next state told, under hypotheses on the state and the operands alone: modeSync, modeForm, modeBlackstart, modeResync, modeClose, modeIsland, modeStop, start, startModeRequest, enterSafe. (R24, R83, R91, R179, R224, R226, R240, R464, R516) -/
def Obligations.RunRequestsAreHeldForJudgement : Prop :=
  -- completes: modeSync
  (∀ (s : State), regsWf s → s.pwr.coreUp = true → s.en .form = true → s.follows = false →
    ∃ t, exec .modeSync s = .next t ∧
      t.form = { s.form with req := some 9 } ∧
      t.flag FORM_MODE_STAT_PENDING = true ∧
      t = { s with regs := t.regs, form := t.form } ∧
      (∀ adr, adr ∉ ([0x080304] : List Nat) → t.word adr = s.word adr)) ∧
  -- completes: modeForm
  (∀ (s : State), regsWf s → s.pwr.coreUp = true → s.en .form = true → s.follows = false →
    ∃ t, exec .modeForm s = .next t ∧
      t.form = { s.form with req := some 10 } ∧
      t.flag FORM_MODE_STAT_PENDING = true ∧
      t = { s with regs := t.regs, form := t.form } ∧
      (∀ adr, adr ∉ ([0x080304] : List Nat) → t.word adr = s.word adr)) ∧
  -- completes: modeBlackstart
  (∀ (s : State), regsWf s → s.pwr.coreUp = true → s.en .form = true → s.follows = false →
    ∃ t, exec .modeBlackstart s = .next t ∧
      t.form = { s.form with req := some 11 } ∧
      t.flag FORM_MODE_STAT_PENDING = true ∧
      t = { s with regs := t.regs, form := t.form } ∧
      (∀ adr, adr ∉ ([0x080304] : List Nat) → t.word adr = s.word adr)) ∧
  -- completes: modeResync
  (∀ (s : State), regsWf s → s.pwr.coreUp = true → s.en .form = true → s.follows = false →
    ∃ t, exec .modeResync s = .next t ∧
      t.form = { s.form with req := some 12 } ∧
      t.flag FORM_MODE_STAT_PENDING = true ∧
      t = { s with regs := t.regs, form := t.form } ∧
      (∀ adr, adr ∉ ([0x080304] : List Nat) → t.word adr = s.word adr)) ∧
  -- completes: modeClose
  (∀ (s : State), regsWf s → s.pwr.coreUp = true → s.en .form = true → s.follows = false →
    ∃ t, exec .modeClose s = .next t ∧
      t.form = { s.form with req := some 13 } ∧
      t.flag FORM_MODE_STAT_PENDING = true ∧
      t = { s with regs := t.regs, form := t.form } ∧
      (∀ adr, adr ∉ ([0x080304] : List Nat) → t.word adr = s.word adr)) ∧
  -- completes: modeIsland
  (∀ (s : State), regsWf s → s.pwr.coreUp = true → s.en .form = true → s.follows = false →
    ∃ t, exec .modeIsland s = .next t ∧
      t.form = { s.form with req := some 14 } ∧
      t.flag FORM_MODE_STAT_PENDING = true ∧
      t = { s with regs := t.regs, form := t.form } ∧
      (∀ adr, adr ∉ ([0x080304] : List Nat) → t.word adr = s.word adr)) ∧
  -- completes: modeStop
  (∀ (s : State), regsWf s → s.pwr.coreUp = true → s.en .form = true → s.follows = false →
    ∃ t, exec .modeStop s = .next t ∧
      t.form = { s.form with req := some 15 } ∧
      t.flag FORM_MODE_STAT_PENDING = true ∧
      t = { s with regs := t.regs, form := t.form } ∧
      (∀ adr, adr ∉ ([0x080304] : List Nat) → t.word adr = s.word adr)) ∧
  (∀ (s : State), regsWf s → s.pwr.coreUp = true → (s.en .form = false ∨ s.follows = true) →
    ∃ t, exec .modeSync s = .next t ∧
      t.get (CHK_REASON .form) = 0x080A ∧
      t.get (CHK_UNIT .form) = 3 ∧
      t.get (CHK_OFFSET .form) = 0 ∧
      RegsOnly s t ∧
      (∀ adr, adr ∉ (refuseRegs .form : List Nat) → t.word adr = s.word adr)) ∧
  (∀ (s : State), regsWf s → s.pwr.coreUp = true → (s.en .form = false ∨ s.follows = true) →
    ∃ t, exec .modeForm s = .next t ∧
      t.get (CHK_REASON .form) = 0x080A ∧
      t.get (CHK_UNIT .form) = 3 ∧
      t.get (CHK_OFFSET .form) = 0 ∧
      RegsOnly s t ∧
      (∀ adr, adr ∉ (refuseRegs .form : List Nat) → t.word adr = s.word adr)) ∧
  (∀ (s : State), regsWf s → s.pwr.coreUp = true → (s.en .form = false ∨ s.follows = true) →
    ∃ t, exec .modeBlackstart s = .next t ∧
      t.get (CHK_REASON .form) = 0x080A ∧
      t.get (CHK_UNIT .form) = 3 ∧
      t.get (CHK_OFFSET .form) = 0 ∧
      RegsOnly s t ∧
      (∀ adr, adr ∉ (refuseRegs .form : List Nat) → t.word adr = s.word adr)) ∧
  (∀ (s : State), regsWf s → s.pwr.coreUp = true → (s.en .form = false ∨ s.follows = true) →
    ∃ t, exec .modeResync s = .next t ∧
      t.get (CHK_REASON .form) = 0x080A ∧
      t.get (CHK_UNIT .form) = 3 ∧
      t.get (CHK_OFFSET .form) = 0 ∧
      RegsOnly s t ∧
      (∀ adr, adr ∉ (refuseRegs .form : List Nat) → t.word adr = s.word adr)) ∧
  (∀ (s : State), regsWf s → s.pwr.coreUp = true → (s.en .form = false ∨ s.follows = true) →
    ∃ t, exec .modeClose s = .next t ∧
      t.get (CHK_REASON .form) = 0x080A ∧
      t.get (CHK_UNIT .form) = 3 ∧
      t.get (CHK_OFFSET .form) = 0 ∧
      RegsOnly s t ∧
      (∀ adr, adr ∉ (refuseRegs .form : List Nat) → t.word adr = s.word adr)) ∧
  (∀ (s : State), regsWf s → s.pwr.coreUp = true → (s.en .form = false ∨ s.follows = true) →
    ∃ t, exec .modeIsland s = .next t ∧
      t.get (CHK_REASON .form) = 0x080A ∧
      t.get (CHK_UNIT .form) = 3 ∧
      t.get (CHK_OFFSET .form) = 0 ∧
      RegsOnly s t ∧
      (∀ adr, adr ∉ (refuseRegs .form : List Nat) → t.word adr = s.word adr)) ∧
  (∀ (s : State), regsWf s → s.pwr.coreUp = true → (s.en .form = false ∨ s.follows = true) →
    ∃ t, exec .modeStop s = .next t ∧
      t.get (CHK_REASON .form) = 0x080A ∧
      t.get (CHK_UNIT .form) = 3 ∧
      t.get (CHK_OFFSET .form) = 0 ∧
      RegsOnly s t ∧
      (∀ adr, adr ∉ (refuseRegs .form : List Nat) → t.word adr = s.word adr)) ∧
  -- completes: start
  (∀ (s : State), regsWf s → s.pwr.coreUp = true → s.pstate = READY → s.get FORM_MODE_STAT_START_MODE ≠ 0 → s.en .form = true → s.anySevere = false → s.silent = false → s.stringShort = false →
    ∃ t, exec .start s = .next t ∧
      t.form = { s.form with req := some (s.get FORM_MODE_STAT_START_MODE + 8) } ∧
      t.flag FORM_MODE_STAT_PENDING = true ∧
      t.pstate = READY ∧
      t = { s with regs := t.regs, form := t.form } ∧
      (∀ adr, adr ∉ ([0x080304] : List Nat) → t.word adr = s.word adr)) ∧
  (∀ (s : State), regsWf s → s.pwr.coreUp = true → s.pstate = READY → s.get FORM_MODE_STAT_START_MODE ≠ 0 → s.en .form = true → s.anySevere = false → s.silent = false → s.stringShort = true →
    ∃ t, exec .start s = .next t ∧
      t.get (CHK_REASON .sys) = 0x0620 ∧
      t.get (CHK_UNIT .sys) = 2 ∧
      t.get (CHK_OFFSET .sys) = 4 ∧
      RegsOnly s t ∧
      (∀ adr, adr ∉ (refuseRegs .sys : List Nat) → t.word adr = s.word adr)) ∧
  (∀ (s : State), regsWf s → s.pwr.coreUp = true → (s.pstate ≠ READY ∨ s.get FORM_MODE_STAT_START_MODE = 0 ∨ s.en .form = false ∨ s.anySevere = true ∨ s.silent = true) →
    ∃ t, exec .start s = .next t ∧
      t.get (CHK_REASON .sys) = 0x000A ∧
      t.get (CHK_UNIT .sys) = 2 ∧
      t.get (CHK_OFFSET .sys) = 4 ∧
      RegsOnly s t ∧
      (∀ adr, adr ∉ (refuseRegs .sys : List Nat) → t.word adr = s.word adr)) ∧
  -- completes: startModeRequest
  (∀ (s : State), regsWf s → s.pwr.coreUp = true → s.cyc.startReq = true → s.en .form = true → s.follows = false →
    ∃ t, exec .startModeRequest s = .next t ∧
      t.form = { s.form with req := some (s.get FORM_MODE_STAT_START_MODE) } ∧
      t.flag FORM_MODE_STAT_PENDING = true ∧
      t.cyc = { s.cyc with startReq := false } ∧
      t = { s with regs := t.regs, form := t.form, cyc := t.cyc } ∧
      (∀ adr, adr ∉ ([0x080304] : List Nat) → t.word adr = s.word adr)) ∧
  (∀ (s : State), s.pwr.coreUp = true → s.cyc.startReq = false →
    ∃ t, exec .startModeRequest s = .next t ∧
      t = s) ∧
  -- completes: enterSafe
  (∀ (s : State), regsWf s → s.pwr.coreUp = true → (s.pstate == READY || s.inRun) = true → s.sgrActive = false →
    ∃ t, exec .enterSafe s = .next t ∧
      t.pwr.enterSafe = true ∧
      t.sgrActive = true ∧
      t.flag SAFE_FSTAT_SGR_DONE = false ∧
      t.flag ⟨ctrlAddr SRC_SAFE_SGR.blk 0x04, 0, 0, SRC_SAFE_SGR.s, 1⟩ = true ∧
      t.flag HIVE_BLOCK_ACTIVE = true ∧
      t.get HIVE_BLOCK_CAUSE = 4 ∧
      t = { s with regs := t.regs, hive := t.hive, safe := t.safe, ctc := t.ctc, drive := t.drive, fes := t.fes, pwr := t.pwr, cap := { s.cap with force := t.cap.force } } ∧
      (∀ adr, adr ∉ (sgrRegs : List Nat) → t.word adr = s.word adr)) ∧
  (∀ (s : State), regsWf s → s.pwr.coreUp = true → (s.pstate == READY || s.inRun) = false →
    ∃ t, exec .enterSafe s = .next t ∧
      t.get (CHK_REASON .sys) = 0x000A ∧
      t.get (CHK_UNIT .sys) = 2 ∧
      t.get (CHK_OFFSET .sys) = 4 ∧
      RegsOnly s t ∧
      (∀ adr, adr ∉ (refuseRegs .sys : List Nat) → t.word adr = s.word adr))

/-- With closing permitted and the conditions held for SYNC_HOLD the breaker's closing coil is commanded and its phase is closing; the pulses of the closing and the trip coil end; the feedback that closes in closing makes the hub connected. SYNC_TMO and BS_TMO fail the running state with their reason and MODE_FAIL: precharge back to READY, RESYNC back to islanded, a gating state through stopping with its holds sent. A stop that has ramped down trips the breaker. A breaker that does not close in time is tripped with BKR_DISAGREE and 0x0825; one that stays closed after a trip, and three cycles of mismatch, raise BKR_DISAGREE and request SGR. The feeder's and the terminals' state is taken over, and a feeder lost in SYNC ends it with 0x0821. It says of each of these that it completes with its own effect, exec answering the next state told, under hypotheses on the state and the operands alone: syncHoldReached, closePulseEnd, bkrTripPulseEnd, bkrFbChange, syncTimeout, bsTimeout, stopRampEnd, bkrTransitTimeout, bkrMismatchDetect, feederLiveChange. (R214, R215, R225, R229, R230, R232, R238) -/
def Obligations.RunningStatesEndAndTheBreakerIsDriven : Prop :=
  -- completes: syncHoldReached
  (∀ (s : State), regsWf s → s.pwr.coreUp = true → s.synchronising = true → s.phase = 3 → s.form.permit = true → s.get FORM_SYNC2_SYNC_HOLD ≤ s.form.holdRun → s.flag FORM_BKR_BKR_EN = true →
    ∃ t, exec .syncHoldReached s = .next t ∧
      t.phase = 4 ∧
      t.flag FORM_MODE_STAT_BKR_CMD = true ∧
      t.flag CTC_OSTAT_CMD_ON (s.get FORM_BKR_CLOSE_CTC) = true ∧
      t.pstate = s.pstate ∧
      t = { s with regs := t.regs, ctc := t.ctc } ∧
      (∀ adr, adr ∉ (0x080304 :: coilWords s (s.get FORM_BKR_CLOSE_CTC) : List Nat) → t.word adr = s.word adr)) ∧
  (∀ (s : State), s.pwr.coreUp = true → (s.form.permit = false ∨ s.form.holdRun < s.get FORM_SYNC2_SYNC_HOLD) →
    ∃ t, exec .syncHoldReached s = .next t ∧
      t = s) ∧
  -- completes: closePulseEnd
  (∀ (s : State), regsWf s → s.pwr.coreUp = true → s.flag FORM_BKR_BKR_EN = true →
    ∃ t, exec .closePulseEnd s = .next t ∧
      t.flag CTC_OSTAT_CMD_ON (s.get FORM_BKR_CLOSE_CTC) = false ∧
      t = { s with regs := t.regs, ctc := t.ctc } ∧
      (∀ adr, adr ∉ (coilWords s (s.get FORM_BKR_CLOSE_CTC) : List Nat) → t.word adr = s.word adr)) ∧
  -- completes: bkrTripPulseEnd
  (∀ (s : State), regsWf s → s.pwr.coreUp = true → s.flag FORM_BKR_BKR_EN = true →
    ∃ t, exec .bkrTripPulseEnd s = .next t ∧
      t.flag CTC_OSTAT_CMD_ON (s.get FORM_BKR_TRIP_CTC) = false ∧
      t = { s with regs := t.regs, ctc := t.ctc } ∧
      (∀ adr, adr ∉ (coilWords s (s.get FORM_BKR_TRIP_CTC) : List Nat) → t.word adr = s.word adr)) ∧
  -- completes: bkrFbChange
  (∀ (s : State), regsWf s → s.pwr.coreUp = true → s.fieldUp = true → s.en .form = true → s.flag FORM_BKR_BKR_EN = true → s.get FORM_BKR_FB < 40 → s.bkrClosed = false → s.ctc.fbRev.contains (s.get FORM_BKR_FB) = false → (s.pstate = SYNC ∨ s.pstate = RESYNC) → s.phase = 4 → ∀ b ∈ buses, s.busEn b = false → ∀ a ∈ List.range 4, s.ilkOn a = false →
    ∃ t, exec (.bkrFbChange true) s = .next t ∧
      t.bkrClosed = true ∧
      t.pstate = FORM ∧
      t.phase = 5 ∧
      t.flag FORM_MODE_STAT_BKR_FB = true ∧
      t.flag FORM_MODE_STAT_ISLANDED = false ∧
      t.form.back = true ∧
      t = { s with regs := t.regs, ctc := t.ctc, form := t.form } ∧
      (∀ adr, adr ∉ (0x000200 :: 0x080304 :: 0x143100 :: 0x143104 :: (coils.filter (fun o => s.get CTC_OCFG_FB o == s.get FORM_BKR_FB)).map (fun o => 0x14000C + 0x100 * o) : List Nat) → t.word adr = s.word adr)) ∧
  -- completes: syncTimeout
  (∀ (s : State), regsWf s → s.pwr.coreUp = true → s.pstate = SYNC → s.phase = 1 → s.flag LAW_PRE_FEED_EN = false → s.flag LAW_PRE_STORE_EN = false →
    ∃ t, exec .syncTimeout s = .next t ∧
      t.pstate = READY ∧
      t.get FORM_MODE_STAT_MODE = READY ∧
      t.phase = 0 ∧
      t.form.permit = false ∧
      t.get (CHK_REASON .form) = 0x0824 ∧
      t.get (CHK_UNIT .form) = 3 ∧
      t.get (CHK_OFFSET .form) = 4 ∧
      t.flag ⟨ctrlAddr SRC_FORM_MODE_FAIL.blk 0x04, 0, 0, SRC_FORM_MODE_FAIL.s, 1⟩ = true ∧
      t = { s with regs := t.regs, form := t.form, pwr := { s.pwr with holdCopy := t.pwr.holdCopy }, cap := { s.cap with force := t.cap.force } } ∧
      (∀ adr, adr ∉ (0x000200 :: 0x080304 :: 0x092320 :: refuseRegs .form ++ evtRegs SRC_FORM_MODE_FAIL.blk SRC_FORM_MODE_FAIL.s : List Nat) → t.word adr = s.word adr)) ∧
  -- completes: syncTimeout
  (∀ (s : State), regsWf s → s.pwr.coreUp = true → s.pstate = SYNC → s.phase = 2 →
    ∃ t, exec .syncTimeout s = .next t ∧
      t.pstate = SYNC ∧
      t.phase = 7 ∧
      t.form.held = true ∧
      t.form.permit = false ∧
      t.get (CHK_REASON .form) = 0x0824 ∧
      t.get (CHK_UNIT .form) = 3 ∧
      t.get (CHK_OFFSET .form) = 4 ∧
      t.flag ⟨ctrlAddr SRC_FORM_MODE_FAIL.blk 0x04, 0, 0, SRC_FORM_MODE_FAIL.s, 1⟩ = true ∧
      t = { s with regs := t.regs, form := t.form, hive := t.hive, pwr := { s.pwr with holdCopy := t.pwr.holdCopy }, cap := { s.cap with force := t.cap.force } } ∧
      (∀ adr, adr ∉ (0x080304 :: 0x051214 :: refuseRegs .form ++ evtRegs SRC_FORM_MODE_FAIL.blk SRC_FORM_MODE_FAIL.s : List Nat) → t.word adr = s.word adr)) ∧
  -- completes: syncTimeout
  (∀ (s : State), regsWf s → s.pwr.coreUp = true → s.pstate = RESYNC → s.phase = 3 →
    ∃ t, exec .syncTimeout s = .next t ∧
      t.pstate = FORM ∧
      t.phase = 6 ∧
      t.flag FORM_MODE_STAT_ISLANDED = true ∧
      t.form.permit = false ∧
      t.get (CHK_REASON .form) = 0x0824 ∧
      t.get (CHK_UNIT .form) = 3 ∧
      t.get (CHK_OFFSET .form) = 4 ∧
      t.flag ⟨ctrlAddr SRC_FORM_MODE_FAIL.blk 0x04, 0, 0, SRC_FORM_MODE_FAIL.s, 1⟩ = true ∧
      t = { s with regs := t.regs, form := t.form, pwr := { s.pwr with holdCopy := t.pwr.holdCopy }, cap := { s.cap with force := t.cap.force } } ∧
      (∀ adr, adr ∉ (0x000200 :: 0x080304 :: refuseRegs .form ++ evtRegs SRC_FORM_MODE_FAIL.blk SRC_FORM_MODE_FAIL.s : List Nat) → t.word adr = s.word adr)) ∧
  -- completes: bsTimeout
  (∀ (s : State), regsWf s → s.pwr.coreUp = true → s.pstate = BLACKSTART → s.phase = 1 → s.flag LAW_PRE_FEED_EN = false → s.flag LAW_PRE_STORE_EN = false →
    ∃ t, exec .bsTimeout s = .next t ∧
      t.pstate = READY ∧
      t.get FORM_MODE_STAT_MODE = READY ∧
      t.phase = 0 ∧
      t.form.permit = false ∧
      t.get (CHK_REASON .form) = 0x0826 ∧
      t.get (CHK_UNIT .form) = 3 ∧
      t.get (CHK_OFFSET .form) = 4 ∧
      t.flag ⟨ctrlAddr SRC_FORM_MODE_FAIL.blk 0x04, 0, 0, SRC_FORM_MODE_FAIL.s, 1⟩ = true ∧
      t = { s with regs := t.regs, form := t.form, pwr := { s.pwr with holdCopy := t.pwr.holdCopy }, cap := { s.cap with force := t.cap.force } } ∧
      (∀ adr, adr ∉ (0x000200 :: 0x080304 :: 0x092320 :: refuseRegs .form ++ evtRegs SRC_FORM_MODE_FAIL.blk SRC_FORM_MODE_FAIL.s : List Nat) → t.word adr = s.word adr)) ∧
  -- completes: bsTimeout
  (∀ (s : State), regsWf s → s.pwr.coreUp = true → s.pstate = BLACKSTART → s.phase = 2 →
    ∃ t, exec .bsTimeout s = .next t ∧
      t.pstate = BLACKSTART ∧
      t.phase = 7 ∧
      t.form.held = true ∧
      t.form.permit = false ∧
      t.get (CHK_REASON .form) = 0x0826 ∧
      t.get (CHK_UNIT .form) = 3 ∧
      t.get (CHK_OFFSET .form) = 4 ∧
      t.flag ⟨ctrlAddr SRC_FORM_MODE_FAIL.blk 0x04, 0, 0, SRC_FORM_MODE_FAIL.s, 1⟩ = true ∧
      t = { s with regs := t.regs, form := t.form, hive := t.hive, pwr := { s.pwr with holdCopy := t.pwr.holdCopy }, cap := { s.cap with force := t.cap.force } } ∧
      (∀ adr, adr ∉ (0x080304 :: 0x051214 :: refuseRegs .form ++ evtRegs SRC_FORM_MODE_FAIL.blk SRC_FORM_MODE_FAIL.s : List Nat) → t.word adr = s.word adr)) ∧
  -- completes: stopRampEnd
  (∀ (s : State), regsWf s → s.pwr.coreUp = true → s.inRun = true → s.phase = 7 → s.flag FORM_BKR_BKR_EN = true → s.bkrClosed = true → s.form.trip = false → (s.get FORM_BKR_CLOSE_CTC) ≠ (s.get FORM_BKR_TRIP_CTC) →
    ∃ t, exec .stopRampEnd s = .next t ∧
      t.form.trip = true ∧
      t.flag CTC_OSTAT_CMD_ON (s.get FORM_BKR_TRIP_CTC) = true ∧
      t.flag CTC_OSTAT_CMD_ON (s.get FORM_BKR_CLOSE_CTC) = false ∧
      t.flag FORM_MODE_STAT_BKR_CMD = false ∧
      t.phase = 7 ∧
      t = { s with regs := t.regs, ctc := t.ctc, form := t.form } ∧
      (∀ adr, adr ∉ (0x080304 :: coilWords s (s.get FORM_BKR_CLOSE_CTC) ++ coilWords s (s.get FORM_BKR_TRIP_CTC) : List Nat) → t.word adr = s.word adr)) ∧
  (∀ (s : State), regsWf s → s.pwr.coreUp = true → s.en .form = true → s.flag FORM_BKR_BKR_EN = true → s.pstate = SYNC → s.phase = 4 → s.bkrClosed = false → (s.get FORM_BKR_CLOSE_CTC) ≠ (s.get FORM_BKR_TRIP_CTC) →
    ∃ t, exec .bkrTransitTimeout s = .next t ∧
      t.phase = 7 ∧
      t.form.held = true ∧
      t.flag ⟨ctrlAddr SRC_FORM_BKR_DISAGREE.blk 0x04, 0, 0, SRC_FORM_BKR_DISAGREE.s, 1⟩ = true ∧
      t.flag CTC_OSTAT_CMD_ON (s.get FORM_BKR_TRIP_CTC) = true ∧
      t.flag CTC_OSTAT_CMD_ON (s.get FORM_BKR_CLOSE_CTC) = false ∧
      t.get (CHK_REASON .form) = 0x0825 ∧
      t.get (CHK_UNIT .form) = 3 ∧
      t.get (CHK_OFFSET .form) = 4 ∧
      t.flag ⟨ctrlAddr SRC_FORM_MODE_FAIL.blk 0x04, 0, 0, SRC_FORM_MODE_FAIL.s, 1⟩ = true) ∧
  -- completes: bkrTransitTimeout
  (∀ (s : State), regsWf s → s.pwr.coreUp = true → s.en .form = true → s.flag FORM_BKR_BKR_EN = true → s.phase ≠ 4 → s.form.trip = true → s.bkrClosed = true → s.sgrActive = false →
    ∃ t, exec .bkrTransitTimeout s = .next t ∧
      t.form = { s.form with trip := false } ∧
      t.flag ⟨ctrlAddr SRC_FORM_BKR_DISAGREE.blk 0x04, 0, 0, SRC_FORM_BKR_DISAGREE.s, 1⟩ = true ∧
      t.sgrActive = true ∧
      t = { s with regs := t.regs, form := t.form, hive := t.hive, safe := t.safe, ctc := t.ctc, drive := t.drive, fes := t.fes, pwr := { s.pwr with holdCopy := t.pwr.holdCopy }, cap := { s.cap with force := t.cap.force } } ∧
      (∀ adr, adr ∉ (evtRegs SRC_FORM_BKR_DISAGREE.blk SRC_FORM_BKR_DISAGREE.s ++ sgrRegs : List Nat) → t.word adr = s.word adr)) ∧
  -- completes: bkrMismatchDetect
  (∀ (s : State), regsWf s → s.pwr.coreUp = true → s.en .form = true → 3 ≤ s.form.mismatch → s.sgrActive = false →
    ∃ t, exec .bkrMismatchDetect s = .next t ∧
      t.flag ⟨ctrlAddr SRC_FORM_BKR_DISAGREE.blk 0x04, 0, 0, SRC_FORM_BKR_DISAGREE.s, 1⟩ = true ∧
      t.sgrActive = true ∧
      t = { s with regs := t.regs, hive := t.hive, safe := t.safe, ctc := t.ctc, drive := t.drive, fes := t.fes, pwr := { s.pwr with holdCopy := t.pwr.holdCopy }, cap := { s.cap with force := t.cap.force } } ∧
      (∀ adr, adr ∉ (evtRegs SRC_FORM_BKR_DISAGREE.blk SRC_FORM_BKR_DISAGREE.s ++ sgrRegs : List Nat) → t.word adr = s.word adr)) ∧
  (∀ (s : State), s.pwr.coreUp = true → s.form.mismatch < 3 →
    ∃ t, exec .bkrMismatchDetect s = .next t ∧
      t = s) ∧
  -- completes: feederLiveChange
  (∀ (s : State) (l : Bool), s.pwr.coreUp = true → s.en .form = true → (if l then (s.get FORM_LIVE_LIVE_V : Int) * one ≤ s.form.magV * 1000 else s.form.magV * 1000 < (s.get FORM_LIVE_DEAD_V : Int) * one) →
    ∃ t, exec (.feederLiveChange false l) s = .next t ∧
      t = { s with form := { s.form with term := if l then 1 else 2 } }) ∧
  -- completes: feederLiveChange
  (∀ (s : State) (l : Bool), regsWf s → s.pwr.coreUp = true → s.en .form = true → (if l then (s.get FORM_LIVE_LIVE_V : Int) * one ≤ s.form.magF * 1000 else s.form.magF * 1000 < (s.get FORM_LIVE_DEAD_V : Int) * one) → s.pstate = READY →
    ∃ t, exec (.feederLiveChange true l) s = .next t ∧
      t.form = { s.form with feed := if l then 1 else 2 } ∧
      t.flag FORM_MODE_STAT_FEED_LIVE = l ∧
      t = { s with regs := t.regs, form := t.form } ∧
      (∀ adr, adr ∉ ([0x080304] : List Nat) → t.word adr = s.word adr)) ∧
  (∀ (s : State), regsWf s → s.pwr.coreUp = true → s.en .form = true → s.form.magF * 1000 < (s.get FORM_LIVE_DEAD_V : Int) * one → s.pstate = SYNC → s.phase = 3 →
    ∃ t, exec (.feederLiveChange true false) s = .next t ∧
      t.form.feed = 2 ∧
      t.flag FORM_MODE_STAT_FEED_LIVE = false ∧
      t.phase = 7 ∧
      t.form.held = true ∧
      t.get (CHK_REASON .form) = 0x0821 ∧
      t.get (CHK_UNIT .form) = 3 ∧
      t.get (CHK_OFFSET .form) = 4 ∧
      t.flag ⟨ctrlAddr SRC_FORM_MODE_FAIL.blk 0x04, 0, 0, SRC_FORM_MODE_FAIL.s, 1⟩ = true ∧
      t = { s with regs := t.regs, form := t.form, hive := t.hive, pwr := { s.pwr with holdCopy := t.pwr.holdCopy }, cap := { s.cap with force := t.cap.force } } ∧
      (∀ adr, adr ∉ (0x080304 :: 0x051214 :: refuseRegs .form ++ evtRegs SRC_FORM_MODE_FAIL.blk SRC_FORM_MODE_FAIL.s : List Nat) → t.word adr = s.word adr))

/-- MAN of a slot that permits it is stored with its rate; on slots 0 to 4 and 6 it is refused with STATE; MAN = 0 clears FE_TRIP. A following error that has lasted FE_TMO sets FE_TRIP once, with FOLLOW and 0x0924: with FE_ACT 0 nothing else, with 1 the slot goes to manual at its present output, with 2 SGR is requested by a slot below 7. RIDE clears when the voltage has been within the recovery limits for RT_REC. A frequency stage whose time has run is shown as an exit with RT_EXIT and 0x0926. A bank swap whose bank passes its check becomes pending; while one is pending or the block disabled it is refused with STATE, and a bank that fails is refused with the check's reason and SWAP_REFUSED. It says of each of these that it completes with its own effect, exec answering the next state told, under hypotheses on the state and the operands alone: lawManWrite, followTimeout, rideRecover, freqStageExpiry, bankSwap. (R223, R280, R283, R284, R285, R294, R296, R297) -/
def Obligations.LawSlotsAndBanksAreOperated : Prop :=
  -- completes: lawManWrite
  (∀ (s : State) (k : Fin 19) (v : BitVec 32), regsWf s → s.pwr.coreUp = true → bitOf v.toNat 0 = true → manualOk k.val = true →
    ∃ t, exec (.lawManWrite k v) s = .next t ∧
      t.flag LAW_SMAN_MAN k.val = true ∧
      t.get LAW_SMAN_MAN_RATE k.val = v.toNat / 2 ^ 16 ∧
      RegsOnly s t ∧
      (∀ adr, adr ∉ ([0x090000 + 0x100 * k.val + 0x10] : List Nat) → t.word adr = s.word adr)) ∧
  (∀ (s : State) (k : Fin 19) (v : BitVec 32), regsWf s → s.pwr.coreUp = true → bitOf v.toNat 0 = true → manualOk k.val = false →
    ∃ t, exec (.lawManWrite k v) s = .next t ∧
      t.get (CHK_REASON .law) = 0x090A ∧
      t.get (CHK_UNIT .law) = k.val ∧
      t.get (CHK_OFFSET .law) = 0x10 ∧
      t.get LAW_SMAN_MAN_RATE k.val = v.toNat / 2 ^ 16 ∧
      t.flag LAW_SMAN_MAN k.val = s.flag LAW_SMAN_MAN k.val ∧
      RegsOnly s t ∧
      (∀ adr, adr ∉ ((0x090000 + 0x100 * k.val + 0x10) :: refuseRegs .law : List Nat) → t.word adr = s.word adr)) ∧
  -- completes: lawManWrite
  (∀ (s : State) (k : Fin 19) (v : BitVec 32), regsWf s → s.pwr.coreUp = true → bitOf v.toNat 0 = false →
    ∃ t, exec (.lawManWrite k v) s = .next t ∧
      t.flag LAW_SMAN_MAN k.val = false ∧
      t.get LAW_SMAN_MAN_RATE k.val = v.toNat / 2 ^ 16 ∧
      t.flag LAW_SSTAT_FE_TRIP k.val = false ∧
      RegsOnly s t ∧
      (∀ adr, adr ∉ ([0x090000 + 0x100 * k.val + 0x10, 0x090000 + 0x100 * k.val + 0x18] : List Nat) → t.word adr = s.word adr)) ∧
  (∀ (s : State) (k : Fin 19), regsWf s → s.pwr.coreUp = true → s.flag LAW_SCFG_FE_EN k.val = true → s.get LAW_SCFG_FE_TMO k.val ≤ s.get LAW_SSTAT_FE_CNT k.val → s.flag LAW_SSTAT_FE_TRIP k.val = false → (s.get LAW_SCFG_FE_ACT k.val = 0 ∨ s.get LAW_SCFG_FE_ACT k.val = 3) →
    ∃ t, exec (.followTimeout k) s = .next t ∧
      t.flag LAW_SSTAT_FE_TRIP k.val = true ∧
      t.flag ⟨ctrlAddr SRC_LAW_FOLLOW.blk 0x04, 0, 0, SRC_LAW_FOLLOW.s, 1⟩ = true ∧
      t.get (CHK_REASON .law) = 0x0924 ∧
      t.get (CHK_UNIT .law) = 0x20 ∧
      t.get (CHK_OFFSET .law) = 0 ∧
      RegsHold s t ∧
      (∀ adr, adr ∉ ((0x090000 + 0x100 * k.val + 0x18) :: refuseRegs .law ++ evtRegs SRC_LAW_FOLLOW.blk SRC_LAW_FOLLOW.s : List Nat) → t.word adr = s.word adr)) ∧
  (∀ (s : State) (k : Fin 19), regsWf s → s.pwr.coreUp = true → s.flag LAW_SCFG_FE_EN k.val = true → s.get LAW_SCFG_FE_TMO k.val ≤ s.get LAW_SSTAT_FE_CNT k.val → s.flag LAW_SSTAT_FE_TRIP k.val = false → s.get LAW_SCFG_FE_ACT k.val = 1 →
    ∃ t, exec (.followTimeout k) s = .next t ∧
      t.flag LAW_SSTAT_FE_TRIP k.val = true ∧
      t.flag ⟨ctrlAddr SRC_LAW_FOLLOW.blk 0x04, 0, 0, SRC_LAW_FOLLOW.s, 1⟩ = true ∧
      t.get (CHK_REASON .law) = 0x0924 ∧
      t.get (CHK_UNIT .law) = 0x20 ∧
      t.get (CHK_OFFSET .law) = 0 ∧
      t.flag LAW_SMAN_MAN k.val = true ∧
      t.flag LAW_SSTAT_IN_MAN k.val = true ∧
      t.get LAW_SMAN_TGT_MAN_TGT k.val = s.get LAW_SOUT_Y k.val ∧
      t.get LAW_SOUT_Y k.val = s.get LAW_SOUT_Y k.val ∧
      RegsHold s t ∧
      (∀ adr, adr ∉ ((0x090000 + 0x100 * k.val + 0x10) :: (0x090000 + 0x100 * k.val + 0x14) :: (0x090000 + 0x100 * k.val + 0x18) :: refuseRegs .law ++ evtRegs SRC_LAW_FOLLOW.blk SRC_LAW_FOLLOW.s : List Nat) → t.word adr = s.word adr)) ∧
  (∀ (s : State) (k : Fin 19), regsWf s → s.pwr.coreUp = true → s.flag LAW_SCFG_FE_EN k.val = true → s.get LAW_SCFG_FE_TMO k.val ≤ s.get LAW_SSTAT_FE_CNT k.val → s.flag LAW_SSTAT_FE_TRIP k.val = false → s.get LAW_SCFG_FE_ACT k.val = 2 → k.val < 7 → s.sgrActive = false →
    ∃ t, exec (.followTimeout k) s = .next t ∧
      t.flag LAW_SSTAT_FE_TRIP k.val = true ∧
      t.flag ⟨ctrlAddr SRC_LAW_FOLLOW.blk 0x04, 0, 0, SRC_LAW_FOLLOW.s, 1⟩ = true ∧
      t.get (CHK_REASON .law) = 0x0924 ∧
      t.get (CHK_UNIT .law) = 0x20 ∧
      t.get (CHK_OFFSET .law) = 0 ∧
      t.sgrActive = true ∧
      t = { s with regs := t.regs, hive := t.hive, safe := t.safe, ctc := t.ctc, drive := t.drive, fes := t.fes, pwr := { s.pwr with holdCopy := t.pwr.holdCopy }, cap := { s.cap with force := t.cap.force } } ∧
      (∀ adr, adr ∉ ((0x090000 + 0x100 * k.val + 0x18) :: refuseRegs .law ++ evtRegs SRC_LAW_FOLLOW.blk SRC_LAW_FOLLOW.s ++ sgrRegs : List Nat) → t.word adr = s.word adr)) ∧
  -- completes: followTimeout
  (∀ (s : State) (k : Fin 19), regsWf s → s.pwr.coreUp = true → s.flag LAW_SCFG_FE_EN k.val = true → s.get LAW_SCFG_FE_TMO k.val ≤ s.get LAW_SSTAT_FE_CNT k.val → s.flag LAW_SSTAT_FE_TRIP k.val = false → s.get LAW_SCFG_FE_ACT k.val = 2 → 7 ≤ k.val → s.en .safe = true →
    ∃ t, exec (.followTimeout k) s = .next t ∧
      t.flag LAW_SSTAT_FE_TRIP k.val = true ∧
      t.flag ⟨ctrlAddr SRC_LAW_FOLLOW.blk 0x04, 0, 0, SRC_LAW_FOLLOW.s, 1⟩ = true ∧
      t.sodActive (k.val - 7) = true ∧
      (s.sodActive (k.val - 7) = false → t.get SAFE_SODSTAT_CAUSE 0 (k.val - 7) = SOD_LAW)) ∧
  (∀ (s : State) (k : Fin 19), s.pwr.coreUp = true → s.flag LAW_SSTAT_FE_TRIP k.val = true →
    ∃ t, exec (.followTimeout k) s = .next t ∧
      t = s) ∧
  -- completes: rideRecover
  (∀ (s : State) (x : Nat), regsWf s → s.pwr.coreUp = true → s.law.recSince = some x → s.flag LAW_RT_STAT_RIDE = true → s.get LAW_RT_V_RT_REC * 1000000 ≤ s.samp - x →
    ∃ t, exec .rideRecover s = .next t ∧
      t.flag LAW_RT_STAT_RIDE = false ∧
      t.get LAW_RT_STAT_T_RIDE = 0 ∧
      t.law.recSince = none ∧
      (s.law.stages = [] → t.law.exited = false) ∧
      t = { s with regs := t.regs, law := t.law } ∧
      (∀ adr, adr ∉ ([0x092280] : List Nat) → t.word adr = s.word adr)) ∧
  (∀ (s : State), s.pwr.coreUp = true → s.law.recSince = none →
    ∃ t, exec .rideRecover s = .next t ∧
      t = s) ∧
  -- completes: freqStageExpiry
  (∀ (s : State) (k : Fin 8) (p : Nat × Nat), regsWf s → s.pwr.coreUp = true → s.law.stages.find? (fun p => p.1 == k.val) = some p → s.connected = true → s.get LAW_RT_F_TIME 0 k.val * 10000000 ≤ s.samp - p.2 → s.law.exited = false → s.get LAW_CFG_RT_ACT = 0 →
    ∃ t, exec (.freqStageExpiry k) s = .next t ∧
      t.get LAW_RT_STAT_STAGE = k.val ∧
      t.flag LAW_RT_STAT_EXIT = true ∧
      t.flag ⟨ctrlAddr SRC_LAW_RT_EXIT.blk 0x04, 0, 0, SRC_LAW_RT_EXIT.s, 1⟩ = true ∧
      t.law = { s.law with exited := true } ∧
      t.get (CHK_REASON .law) = 0x0926 ∧
      t.get (CHK_UNIT .law) = 0x20 ∧
      t.get (CHK_OFFSET .law) = 0 ∧
      t = { s with regs := t.regs, law := t.law, pwr := { s.pwr with holdCopy := t.pwr.holdCopy }, cap := { s.cap with force := t.cap.force } } ∧
      (∀ adr, adr ∉ (0x092280 :: refuseRegs .law ++ evtRegs SRC_LAW_RT_EXIT.blk SRC_LAW_RT_EXIT.s : List Nat) → t.word adr = s.word adr)) ∧
  -- completes: bankSwap
  (∀ (s : State), regsWf s → s.pwr.coreUp = true → s.en .law = true → s.flag LAW_BANK_SWAP_PENDING = false → checkLawBank (1 - s.get LAW_BANK_ACTIVE) s = none → s.pastCut = false →
    ∃ t, exec (.bankSwap true) s = .next t ∧
      t.flag LAW_BANK_SWAP_PENDING = true ∧
      t = { s with regs := t.regs, cyc := t.cyc } ∧
      (∀ adr, adr ∉ ([LAW_BANK_SWAP_PENDING.base] : List Nat) → t.word adr = s.word adr)) ∧
  (∀ (s : State), regsWf s → s.pwr.coreUp = true → (s.en .law = false ∨ s.flag LAW_BANK_SWAP_PENDING = true) →
    ∃ t, exec (.bankSwap true) s = .next t ∧
      t.get (CHK_REASON .law) = 0x090A ∧
      t.get (CHK_UNIT .law) = 0x23 ∧
      t.get (CHK_OFFSET .law) = 0 ∧
      RegsOnly s t ∧
      (∀ adr, adr ∉ (refuseRegs .law : List Nat) → t.word adr = s.word adr)) ∧
  (∀ (s : State) (r : Nat × Nat × Nat), regsWf s → s.pwr.coreUp = true → s.en .law = true → s.flag LAW_BANK_SWAP_PENDING = false → checkLawBank (1 - s.get LAW_BANK_ACTIVE) s = some r → r.1 < 256 →
    ∃ t, exec (.bankSwap true) s = .next t ∧
      t.get (CHK_REASON .law) = (Block.no .law) * 256 + r.1 ∧
      t.flag LAW_BANK_SWAP_PENDING = false ∧
      t.flag ⟨ctrlAddr SRC_LAW_SWAP_REFUSED.blk 0x04, 0, 0, SRC_LAW_SWAP_REFUSED.s, 1⟩ = true ∧
      RegsOnly s t ∧
      (∀ adr, adr ∉ (refuseRegs .law ++ evtRegs SRC_LAW_SWAP_REFUSED.blk SRC_LAW_SWAP_REFUSED.s : List Nat) → t.word adr = s.word adr)) ∧
  -- completes: bankSwap
  (∀ (s : State), regsWf s → s.pwr.coreUp = true → s.en .form = true → s.flag FORM_BANK_SWAP_PENDING = false → checkFormBank (1 - s.get FORM_BANK_ACTIVE) s = none → s.pastCut = false →
    ∃ t, exec (.bankSwap false) s = .next t ∧
      t.flag FORM_BANK_SWAP_PENDING = true ∧
      t = { s with regs := t.regs, cyc := t.cyc } ∧
      (∀ adr, adr ∉ ([FORM_BANK_SWAP_PENDING.base] : List Nat) → t.word adr = s.word adr)) ∧
  (∀ (s : State), regsWf s → s.pwr.coreUp = true → (s.en .form = false ∨ s.flag FORM_BANK_SWAP_PENDING = true) →
    ∃ t, exec (.bankSwap false) s = .next t ∧
      t.get (CHK_REASON .form) = 0x080A ∧
      t.get (CHK_UNIT .form) = 3 ∧
      t.get (CHK_OFFSET .form) = 0x0C ∧
      RegsOnly s t ∧
      (∀ adr, adr ∉ (refuseRegs .form : List Nat) → t.word adr = s.word adr)) ∧
  (∀ (s : State) (r : Nat × Nat × Nat), regsWf s → s.pwr.coreUp = true → s.en .form = true → s.flag FORM_BANK_SWAP_PENDING = false → checkFormBank (1 - s.get FORM_BANK_ACTIVE) s = some r → r.1 < 256 →
    ∃ t, exec (.bankSwap false) s = .next t ∧
      t.get (CHK_REASON .form) = (Block.no .form) * 256 + r.1 ∧
      t.flag FORM_BANK_SWAP_PENDING = false ∧
      t.flag ⟨ctrlAddr SRC_FORM_SWAP_REFUSED.blk 0x04, 0, 0, SRC_FORM_SWAP_REFUSED.s, 1⟩ = true ∧
      RegsOnly s t ∧
      (∀ adr, adr ∉ (refuseRegs .form ++ evtRegs SRC_FORM_SWAP_REFUSED.blk SRC_FORM_SWAP_REFUSED.s : List Nat) → t.word adr = s.word adr))

/-- With the done conditions of step 3 met the path's coil is commanded off and the step is 4, or 5 when its feedback already reads open; without them nothing happens. PRE_TMO in steps 1 to 3 before done, and PRE_CTC_MS with a feedback that has not followed in steps 2 and 4, fail precharge: PRECHARGE_FAIL with 0x0921 or 0x0923 in LAW, STEP 6, MODE_FAIL with 0x0829 in FORM, and the device is READY again. It says of each of these that it completes with its own effect, exec answering the next state told, under hypotheses on the state and the operands alone: prechargeDone, preTimeout, preCtcTimeout. (R225, R227, R290, R291) -/
def Obligations.PrechargeEndsOrFails : Prop :=
  -- completes: prechargeDone
  (∀ (s : State), regsWf s → s.pwr.coreUp = true → s.preIn [3] = true → s.preDone = true → s.sgrActive = false → s.pwr.heartbeat = true →
    ∃ t, exec .prechargeDone s = .next t ∧
      t.get LAW_PRE_STAT_STEP = (if s.preClosed then 4 else 5) ∧
      t.flag CTC_OSTAT_CMD_ON s.prePath.2.1 = false ∧
      t.phase = 1 ∧
      t = { s with regs := t.regs, ctc := t.ctc } ∧
      (∀ adr, adr ∉ (0x092320 :: coilWords s s.prePath.2.1 : List Nat) → t.word adr = s.word adr)) ∧
  (∀ (s : State), s.pwr.coreUp = true → (s.preIn [3] && s.preDone) = false →
    ∃ t, exec .prechargeDone s = .next t ∧
      t = s) ∧
  -- completes: preTimeout
  (∀ (s : State), regsWf s → s.pwr.coreUp = true → s.inRun = true → s.precharging = true → s.flag LAW_PRE_FEED_EN = false → s.flag LAW_PRE_STORE_EN = false → s.pstate ≠ RESYNC → s.preIn [1, 2, 3] = true → s.sgrActive = false → (s.preIn [3] && s.preDone) = false →
    ∃ t, exec .preTimeout s = .next t ∧
      t.pstate = READY ∧
      t.phase = 0 ∧
      t.get LAW_PRE_STAT_STEP = 6 ∧
      t.flag ⟨ctrlAddr SRC_LAW_PRECHARGE_FAIL.blk 0x04, 0, 0, SRC_LAW_PRECHARGE_FAIL.s, 1⟩ = true ∧
      t.get (CHK_REASON .law) = 0x0921 ∧
      t.flag ⟨ctrlAddr SRC_FORM_MODE_FAIL.blk 0x04, 0, 0, SRC_FORM_MODE_FAIL.s, 1⟩ = true ∧
      t.get (CHK_REASON .form) = 0x0829 ∧
      t.get (CHK_UNIT .form) = 3 ∧
      t.get (CHK_OFFSET .form) = 4 ∧
      t = { s with regs := t.regs, form := t.form, pwr := { s.pwr with holdCopy := t.pwr.holdCopy }, cap := { s.cap with force := t.cap.force } } ∧
      (∀ adr, adr ∉ (0x000200 :: 0x080304 :: 0x092320 :: refuseRegs .law ++ refuseRegs .form ++ evtRegs SRC_LAW_PRECHARGE_FAIL.blk SRC_LAW_PRECHARGE_FAIL.s ++ evtRegs SRC_FORM_MODE_FAIL.blk SRC_FORM_MODE_FAIL.s : List Nat) → t.word adr = s.word adr)) ∧
  (∀ (s : State), s.pwr.coreUp = true → s.preIn [1, 2, 3] = false →
    ∃ t, exec .preTimeout s = .next t ∧
      t = s) ∧
  (∀ (s : State), regsWf s → s.pwr.coreUp = true → s.inRun = true → s.precharging = true → s.flag LAW_PRE_FEED_EN = false → s.flag LAW_PRE_STORE_EN = false → s.pstate ≠ RESYNC → s.preEnding = false → ((s.preIn [2] && !s.preClosed) || (s.preIn [4] && s.preClosed)) = true →
    ∃ t, exec .preCtcTimeout s = .next t ∧
      t.pstate = READY ∧
      t.phase = 0 ∧
      t.get LAW_PRE_STAT_STEP = 6 ∧
      t.flag ⟨ctrlAddr SRC_LAW_PRECHARGE_FAIL.blk 0x04, 0, 0, SRC_LAW_PRECHARGE_FAIL.s, 1⟩ = true ∧
      t.get (CHK_REASON .law) = 0x0923 ∧
      t.flag ⟨ctrlAddr SRC_FORM_MODE_FAIL.blk 0x04, 0, 0, SRC_FORM_MODE_FAIL.s, 1⟩ = true ∧
      t.get (CHK_REASON .form) = 0x0829 ∧
      t.get (CHK_UNIT .form) = 3 ∧
      t.get (CHK_OFFSET .form) = 4 ∧
      t = { s with regs := t.regs, form := t.form, pwr := { s.pwr with holdCopy := t.pwr.holdCopy }, cap := { s.cap with force := t.cap.force } } ∧
      (∀ adr, adr ∉ (0x000200 :: 0x080304 :: 0x092320 :: refuseRegs .law ++ refuseRegs .form ++ evtRegs SRC_LAW_PRECHARGE_FAIL.blk SRC_LAW_PRECHARGE_FAIL.s ++ evtRegs SRC_FORM_MODE_FAIL.blk SRC_FORM_MODE_FAIL.s : List Nat) → t.word adr = s.word adr)) ∧
  -- completes: preCtcTimeout
  (∀ (s : State), regsWf s → s.pwr.coreUp = true → s.preEnding = true →
    ∃ t, exec .preCtcTimeout s = .next t ∧
      t.get LAW_PRE_STAT_STEP = 0 ∧
      RegsOnly s t ∧
      (∀ adr, adr ∉ ([0x092320] : List Nat) → t.word adr = s.word adr)) ∧
  (∀ (s : State), s.pwr.coreUp = true → s.preEnding = false → ((s.preIn [2] && !s.preClosed) || (s.preIn [4] && s.preClosed)) = false →
    ∃ t, exec .preCtcTimeout s = .next t ∧
      t = s)

/-- ON of a bus with no reason against it enters MATCHING; with a reason, ON is refused with it and the bus stays. OFF takes MATCHING to OFF and SERVING to RAMPDOWN from the present current, and is refused with STATE in CLOSING and UNAVAILABLE. CLEAR takes UNAVAILABLE to OFF, and is refused with 0x0A24 while the contactor reads closed. Setpoints are stored whole, or a voltage out of range refused with RANGE. A matched bus commands its coil and is CLOSING, or SERVING when its feedback reads closed; MATCH_TMO returns it to OFF with 0x0A22; a contactor that does not follow makes it UNAVAILABLE with 0x0A23 or 0x0A24, each with BUS_FAIL; OPEN_TMO raises OPEN_CURRENT. It says of each of these that it completes with its own effect, exec answering the next state told, under hypotheses on the state and the operands alone: busOn, busOff, busClear, busSetpointWrite, matchHoldReached, matchTimeout, busCtcTimeout, openTmoExpiry. (R314, R322, R323, R324, R466, R472, R521) -/
def Obligations.OutletBusesAreCommandedAndSwitched : Prop :=
  -- completes: busOn
  (∀ (s : State) (b : Fin 12), regsWf s → s.pwr.coreUp = true → s.follows = false → s.onRefusal b.val = none → s.out.buses.length = 12 →
    ∃ t, exec (.busOn b) s = .next t ∧
      t.bst b.val = B_MATCHING ∧
      t.flag OUT_BSTAT_MODE b.val = false ∧
      (t.busSt b.val).noDab = s.sodActive b.val ∧
      ∀ c ∈ buses, c ≠ b.val → t.bst c = s.bst c ∧
      t = { s with regs := t.regs, out := t.out, safe := t.safe } ∧
      (∀ adr, adr ∉ ([0x0A001C + 0x100 * b.val] : List Nat) → t.word adr = s.word adr)) ∧
  (∀ (s : State) (b : Fin 12) (r : Nat), regsWf s → s.pwr.coreUp = true → s.follows = false → s.onRefusal b.val = some r → r < 0x10000 →
    ∃ t, exec (.busOn b) s = .next t ∧
      t.get (CHK_REASON .out) = r ∧
      t.get (CHK_UNIT .out) = b.val ∧
      t.get (CHK_OFFSET .out) = 8 ∧
      RegsOnly s t ∧
      (∀ adr, adr ∉ (refuseRegs .out : List Nat) → t.word adr = s.word adr)) ∧
  -- completes: busOff
  (∀ (s : State) (b : Fin 12), regsWf s → s.pwr.coreUp = true → s.follows = false → s.busEn b.val = true → s.bst b.val = B_MATCHING →
    ∃ t, exec (.busOff b) s = .next t ∧
      t.bst b.val = B_OFF ∧
      t = { s with regs := t.regs, out := t.out, safe := t.safe } ∧
      (∀ adr, adr ∉ ([0x0A001C + 0x100 * b.val] : List Nat) → t.word adr = s.word adr)) ∧
  -- completes: busOff
  (∀ (s : State) (b : Fin 12), regsWf s → s.pwr.coreUp = true → s.follows = false → s.busEn b.val = true → s.bst b.val = B_SERVING → s.out.buses.length = 12 →
    ∃ t, exec (.busOff b) s = .next t ∧
      t.bst b.val = B_RAMPDOWN ∧
      t.flag OUT_BSTAT_MODE b.val = true ∧
      (t.busSt b.val).ramp = s.geti OUT_BI_I b.val ∧
      t = { s with regs := t.regs, out := t.out, law := t.law } ∧
      (∀ adr, adr ∉ ([0x0A001C + 0x100 * b.val] : List Nat) → t.word adr = s.word adr)) ∧
  (∀ (s : State) (b : Fin 12), regsWf s → s.pwr.coreUp = true → (s.follows = true ∨ s.busEn b.val = false ∨ s.bst b.val = B_CLOSING ∨ s.bst b.val = B_UNAVAILABLE) →
    ∃ t, exec (.busOff b) s = .next t ∧
      t.get (CHK_REASON .out) = 0x0A0A ∧
      t.get (CHK_UNIT .out) = b.val ∧
      t.get (CHK_OFFSET .out) = 8 ∧
      RegsOnly s t ∧
      (∀ adr, adr ∉ (refuseRegs .out : List Nat) → t.word adr = s.word adr)) ∧
  -- completes: busClear
  (∀ (s : State) (b : Fin 12), regsWf s → s.pwr.coreUp = true → s.follows = false → s.busEn b.val = true → s.bst b.val = B_UNAVAILABLE → (s.pstate == READY || s.pstate == SAFE) = true → s.busClosed b.val = false → (s.flag CTC_OSTAT_SHORT (s.get OUT_BCFG_CTC b.val) || s.flag CTC_OSTAT_OPEN (s.get OUT_BCFG_CTC b.val) || s.flag CTC_OSTAT_REVERSE (s.get OUT_BCFG_CTC b.val)) = false →
    ∃ t, exec (.busClear b) s = .next t ∧
      t.bst b.val = B_OFF ∧
      t = { s with regs := t.regs, out := t.out, safe := t.safe } ∧
      (∀ adr, adr ∉ ([0x0A001C + 0x100 * b.val] : List Nat) → t.word adr = s.word adr)) ∧
  (∀ (s : State) (b : Fin 12), regsWf s → s.pwr.coreUp = true → s.follows = false → s.busEn b.val = true → s.bst b.val = B_UNAVAILABLE → (s.pstate == READY || s.pstate == SAFE) = true → s.busClosed b.val = true →
    ∃ t, exec (.busClear b) s = .next t ∧
      t.get (CHK_REASON .out) = 0x0A24 ∧
      t.get (CHK_UNIT .out) = b.val ∧
      t.get (CHK_OFFSET .out) = 8 ∧
      RegsOnly s t ∧
      (∀ adr, adr ∉ (refuseRegs .out : List Nat) → t.word adr = s.word adr)) ∧
  -- completes: busSetpointWrite
  (∀ (s : State) (b : Fin 12) (v : BitVec 32), regsWf s → s.pwr.coreUp = true → s.follows = false →
    ∃ t, exec (.busSetpointWrite b true v) s = .next t ∧
      t.word (0x0A0010 + 0x100 * b.val) = v ∧
      RegsOnly s t ∧
      (∀ adr, adr ∉ ([0x0A0010 + 0x100 * b.val] : List Nat) → t.word adr = s.word adr)) ∧
  -- completes: busSetpointWrite
  (∀ (s : State) (b : Fin 12) (v : BitVec 32), regsWf s → s.pwr.coreUp = true → s.follows = false → (let out := fun (x : Nat) => x != 0 && (decide (x < 1500) || decide (s.get OUT_BCFG2_V_MAX b.val < x)); out (bitsOf v.toNat 0 16) || out (bitsOf v.toNat 16 16)) = false →
    ∃ t, exec (.busSetpointWrite b false v) s = .next t ∧
      t.word (0x0A000C + 0x100 * b.val) = v ∧
      RegsOnly s t ∧
      (∀ adr, adr ∉ ([0x0A000C + 0x100 * b.val] : List Nat) → t.word adr = s.word adr)) ∧
  (∀ (s : State) (b : Fin 12) (v : BitVec 32), regsWf s → s.pwr.coreUp = true → s.follows = false → (let out := fun (x : Nat) => x != 0 && (decide (x < 1500) || decide (s.get OUT_BCFG2_V_MAX b.val < x)); out (bitsOf v.toNat 0 16) || out (bitsOf v.toNat 16 16)) = true →
    ∃ t, exec (.busSetpointWrite b false v) s = .next t ∧
      t.get (CHK_REASON .out) = 0x0A02 ∧
      t.get (CHK_UNIT .out) = b.val ∧
      t.get (CHK_OFFSET .out) = 0x0C ∧
      RegsOnly s t ∧
      (∀ adr, adr ∉ (refuseRegs .out : List Nat) → t.word adr = s.word adr)) ∧
  -- completes: matchHoldReached
  (∀ (s : State) (b : Fin 12), regsWf s → s.pwr.coreUp = true → s.busEn b.val = true → s.bst b.val = B_MATCHING → s.get OUT_MATCH_MATCH_HOLD ≤ (s.busSt b.val).matchRun → s.busClosed b.val = false →
    ∃ t, exec (.matchHoldReached b) s = .next t ∧
      t.bst b.val = B_CLOSING ∧
      t.flag CTC_OSTAT_CMD_ON (s.get OUT_BCFG_CTC b.val) = true ∧
      t = { s with regs := t.regs, out := t.out, safe := t.safe, ctc := t.ctc } ∧
      (∀ adr, adr ∉ ((0x0A001C + 0x100 * b.val) :: coilWords s (s.get OUT_BCFG_CTC b.val) : List Nat) → t.word adr = s.word adr)) ∧
  -- completes: matchHoldReached
  (∀ (s : State) (b : Fin 12), regsWf s → s.pwr.coreUp = true → s.busEn b.val = true → s.bst b.val = B_MATCHING → s.get OUT_MATCH_MATCH_HOLD ≤ (s.busSt b.val).matchRun → s.busClosed b.val = true → s.out.buses.length = 12 →
    ∃ t, exec (.matchHoldReached b) s = .next t ∧
      t.bst b.val = B_SERVING ∧
      t.flag OUT_BSTAT_MODE b.val = true ∧
      t = { s with regs := t.regs, out := t.out, safe := t.safe, ctc := t.ctc, law := t.law } ∧
      (∀ adr, adr ∉ ((0x0A001C + 0x100 * b.val) :: coilWords s (s.get OUT_BCFG_CTC b.val) : List Nat) → t.word adr = s.word adr)) ∧
  -- completes: matchTimeout
  (∀ (s : State) (b : Fin 12), regsWf s → s.pwr.coreUp = true → s.busEn b.val = true → s.bst b.val = B_MATCHING →
    ∃ t, exec (.matchTimeout b) s = .next t ∧
      t.bst b.val = B_OFF ∧
      t.flag ⟨ctrlAddr SRC_OUT_BUS_FAIL.blk 0x04, 0, 0, SRC_OUT_BUS_FAIL.s, 1⟩ = true ∧
      t.get (CHK_REASON .out) = 0x0A22 ∧
      t.get (CHK_UNIT .out) = b.val ∧
      t.get (CHK_OFFSET .out) = 0x1C ∧
      t = { s with regs := t.regs, out := t.out, safe := t.safe, pwr := { s.pwr with holdCopy := t.pwr.holdCopy }, cap := { s.cap with force := t.cap.force } } ∧
      (∀ adr, adr ∉ ((0x0A001C + 0x100 * b.val) :: refuseRegs .out ++ evtRegs SRC_OUT_BUS_FAIL.blk SRC_OUT_BUS_FAIL.s : List Nat) → t.word adr = s.word adr)) ∧
  -- completes: busCtcTimeout
  (∀ (s : State) (b : Fin 12), regsWf s → s.pwr.coreUp = true → s.busEn b.val = true → s.bst b.val = B_CLOSING → s.busClosed b.val = false →
    ∃ t, exec (.busCtcTimeout b) s = .next t ∧
      t.bst b.val = B_UNAVAILABLE ∧
      t.flag CTC_OSTAT_CMD_ON (s.get OUT_BCFG_CTC b.val) = false ∧
      t.flag ⟨ctrlAddr SRC_OUT_BUS_FAIL.blk 0x04, 0, 0, SRC_OUT_BUS_FAIL.s, 1⟩ = true ∧
      t.get (CHK_REASON .out) = 0x0A23 ∧
      t.get (CHK_UNIT .out) = b.val ∧
      t.get (CHK_OFFSET .out) = 0x1C ∧
      t = { s with regs := t.regs, out := t.out, safe := t.safe, ctc := t.ctc, pwr := { s.pwr with holdCopy := t.pwr.holdCopy }, cap := { s.cap with force := t.cap.force } } ∧
      (∀ adr, adr ∉ ((0x0A001C + 0x100 * b.val) :: coilWords s (s.get OUT_BCFG_CTC b.val) ++ refuseRegs .out ++ evtRegs SRC_OUT_BUS_FAIL.blk SRC_OUT_BUS_FAIL.s : List Nat) → t.word adr = s.word adr)) ∧
  -- completes: busCtcTimeout
  (∀ (s : State) (b : Fin 12), regsWf s → s.pwr.coreUp = true → s.busEn b.val = true → s.bst b.val = B_OPENING → s.busClosed b.val = true → s.sodActive b.val = false →
    ∃ t, exec (.busCtcTimeout b) s = .next t ∧
      t.bst b.val = B_UNAVAILABLE ∧
      t.flag CTC_OSTAT_CMD_ON (s.get OUT_BCFG_CTC b.val) = false ∧
      t.flag ⟨ctrlAddr SRC_OUT_BUS_FAIL.blk 0x04, 0, 0, SRC_OUT_BUS_FAIL.s, 1⟩ = true ∧
      t.get (CHK_REASON .out) = 0x0A24 ∧
      t.get (CHK_UNIT .out) = b.val ∧
      t.get (CHK_OFFSET .out) = 0x1C ∧
      t = { s with regs := t.regs, out := t.out, safe := t.safe, ctc := t.ctc, pwr := { s.pwr with holdCopy := t.pwr.holdCopy }, cap := { s.cap with force := t.cap.force } } ∧
      (∀ adr, adr ∉ ((0x0A001C + 0x100 * b.val) :: coilWords s (s.get OUT_BCFG_CTC b.val) ++ refuseRegs .out ++ evtRegs SRC_OUT_BUS_FAIL.blk SRC_OUT_BUS_FAIL.s : List Nat) → t.word adr = s.word adr)) ∧
  -- completes: openTmoExpiry
  (∀ (s : State) (b : Fin 12), regsWf s → s.pwr.coreUp = true → s.busEn b.val = true → s.bst b.val = B_RAMPDOWN → s.sodActive b.val = true →
    ∃ t, exec (.openTmoExpiry b) s = .next t ∧
      t.out.openCur.contains b.val = true ∧
      t.flag ⟨ctrlAddr SRC_OUT_OPEN_CURRENT.blk 0x04, 0, 0, SRC_OUT_OPEN_CURRENT.s, 1⟩ = true ∧
      t.bst b.val = B_RAMPDOWN ∧
      t = { s with regs := t.regs, out := t.out, pwr := { s.pwr with holdCopy := t.pwr.holdCopy }, cap := { s.cap with force := t.cap.force } } ∧
      (∀ adr, adr ∉ (evtRegs SRC_OUT_OPEN_CURRENT.blk SRC_OUT_OPEN_CURRENT.s : List Nat) → t.word adr = s.word adr)) ∧
  (∀ (s : State) (b : Fin 12), s.pwr.coreUp = true → s.busEn b.val = true → s.bst b.val ≠ B_RAMPDOWN →
    ∃ t, exec (.openTmoExpiry b) s = .next t ∧
      t = s)

/-- A word of targets that are all 0, unchanged or a usable bus of an enabled slot is stored whole, before the cut point without a deferral; one with a code above 12 is refused whole with RANGE. A move in OPEN or CLOSE that was not confirmed in time shows STEP 7 with ALLOC_STUCK and remembers its step; another slot or step is left as it is. It says of each of these that it completes with its own effect, exec answering the next state told, under hypotheses on the state and the operands alone: allocTargetWrite, allocStuck. (R24, R326, R328, R330, R335) -/
def Obligations.AllocationTargetsAndStuckMoves : Prop :=
  -- completes: allocTargetWrite
  (∀ (s : State) (m : Fin 24) (v : BitVec 32), regsWf s → s.pwr.coreUp = true → s.follows = false → (List.range 8).all (fun k => decide (bitsOf v.toNat (4 * k) 4 ≤ 12) && (decide (bitsOf v.toNat (4 * k) 4 = 0 ∨ bitsOf v.toNat (4 * k) 4 = s.getPk OUT_ALLOC_TGT_TGT 8 4 (8 * m.val + k)) || (s.flag OUT_BCFG_EN (bitsOf v.toNat (4 * k) 4 - 1) && s.bst (bitsOf v.toNat (4 * k) 4 - 1) != B_UNAVAILABLE && s.flag CELL_SCFG_SLOT_EN (8 * m.val + k)))) = true → s.pastCut = false →
    ∃ t, exec (.allocTargetWrite m v) s = .next t ∧
      t.word (0x0A1200 + 4 * m.val) = v ∧
      RegsOnly s t ∧
      (∀ adr, adr ∉ ([0x0A1200 + 4 * m.val] : List Nat) → t.word adr = s.word adr)) ∧
  (∀ (s : State) (m : Fin 24) (v : BitVec 32), regsWf s → s.pwr.coreUp = true → s.follows = false → (List.range 8).any (fun k => decide (12 < bitsOf v.toNat (4 * k) 4)) = true →
    ∃ t, exec (.allocTargetWrite m v) s = .next t ∧
      t.get (CHK_REASON .out) = 0x0A02 ∧
      t.get (CHK_UNIT .out) = 0x12 ∧
      t.get (CHK_OFFSET .out) = 4 * m.val ∧
      RegsOnly s t ∧
      (∀ adr, adr ∉ (refuseRegs .out : List Nat) → t.word adr = s.word adr)) ∧
  -- completes: allocStuck
  (∀ (s : State) (i : Fin 192), regsWf s → s.pwr.coreUp = true → s.en .out = true → (s.allocStep i.val = 2 ∨ s.allocStep i.val = 4) → (s.moveSt i.val).seen = false → s.out.moves.length = 192 →
    ∃ t, exec (.allocStuck i) s = .next t ∧
      t.allocStep i.val = 7 ∧
      (t.moveSt i.val).under = s.allocStep i.val ∧
      t.flag ⟨ctrlAddr SRC_OUT_ALLOC_STUCK.blk 0x04, 0, 0, SRC_OUT_ALLOC_STUCK.s, 1⟩ = true ∧
      ∀ j ∈ slots, j ≠ i.val → t.allocStep j = s.allocStep j ∧
      t = { s with regs := t.regs, out := t.out, pwr := { s.pwr with holdCopy := t.pwr.holdCopy }, cap := { s.cap with force := t.cap.force } } ∧
      (∀ adr, adr ∉ ((0x0A1360 + 4 * (i.val / 8)) :: evtRegs SRC_OUT_ALLOC_STUCK.blk SRC_OUT_ALLOC_STUCK.s : List Nat) → t.word adr = s.word adr)) ∧
  (∀ (s : State) (i : Fin 192), s.pwr.coreUp = true → s.allocStep i.val ≠ 2 → s.allocStep i.val ≠ 4 →
    ∃ t, exec (.allocStuck i) s = .next t ∧
      t = s)

/-- With SYS enabled and no cycle running the cycle starts: RUNNING shows, the cycle starts at the next multiple of the period and its number is that TAI divided by the period; a running cycle is not started again. At the sampling instant, once in a cycle that is not suspended, the cells have sampled and time has reached it. Step 4 and step 5 each run once, step 4 after the sampling and step 5 after step 4, and do nothing else when their turn has not come. In step 4 with FORM enabled in READY the ramped setpoints approach those of the active bank; with the engine blocks disabled step 4 only completes, as does step 5 with MOD disabled or outside the running states. In a running state every bypassed slot whose set is in time gets its frame and no slot named late does. In precharge step 5 forms no sets and, on entry, empties the orders and clears the residuals. It says of each of these that it completes with its own effect, exec answering the next state told, under hypotheses on the state and the operands alone: cycleRunStart, samplingInstant, step4Compute, step5Modulate. (R16, R17, R18, R19, R20, R21, R219, R248, R279) -/
def Obligations.TheCycleStartsSamplesAndComputes : Prop :=
  -- completes: cycleRunStart
  (∀ (s : State), regsWf s → s.pwr.coreUp = true → s.en .sys = true → s.running = false →
    ∃ t, exec .cycleRunStart s = .next t ∧
      t.running = true ∧
      t.get64 SYS_CYC_START_TAI = s.nextBoundary % 2 ^ 64 ∧
      t.get SYS_CYC_NUM_CYC = s.nextBoundary / t.period % 2 ^ 32 ∧
      t.cyc.suspended = false ∧
      t.cyc.sampled = false ∧
      t.cyc.computed = false ∧
      t.cyc.modulated = false) ∧
  (∀ (s : State), s.pwr.coreUp = true → (s.en .sys = false ∨ s.running = true) →
    ∃ t, exec .cycleRunStart s = .next t ∧
      t = s) ∧
  -- completes: samplingInstant
  (∀ (s : State), regsWf s → s.pwr.coreUp = true → s.running = true → s.cyc.suspended = false → s.cyc.sampled = false →
    ∃ t, exec .samplingInstant s = .next t ∧
      t.cyc = { s.cyc with sampled := true } ∧
      t.now = max s.now s.samp ∧
      t = { s with cyc := t.cyc, time := t.time, pwr := t.pwr }) ∧
  (∀ (s : State), s.pwr.coreUp = true → (s.running = false ∨ s.cyc.suspended = true ∨ s.cyc.sampled = true) →
    ∃ t, exec .samplingInstant s = .next t ∧
      t = s) ∧
  -- completes: step4Compute
  (∀ (s : State), regsWf s → s.pwr.coreUp = true → s.running = true → s.cyc.suspended = false → s.cyc.sampled = true → s.cyc.computed = false → s.en .form = false → s.en .cell = false → s.en .safe = false → s.en .out = false → s.en .law = false → s.en .cal = false → s.poison = [] → s.sgrActive = false → s.get SAFE_FSTAT_SOD = 0 →
    ∃ t, exec .step4Compute s = .next t ∧
      t.cyc = { s.cyc with computed := true } ∧
      t.now = max s.now (s.samp + s.tReports) ∧
      t.law = { s.law with computing := [] } ∧
      t = { s with cyc := t.cyc, time := t.time, law := t.law, pwr := t.pwr }) ∧
  -- completes: step4Compute
  (∀ (s : State), regsWf s → s.pwr.coreUp = true → s.running = true → s.cyc.suspended = false → s.cyc.sampled = true → s.cyc.computed = false → s.en .form = true → s.form.req = none → s.pstate = READY → s.en .cell = false → s.en .safe = false → s.en .out = false → s.en .law = false → s.en .cal = false → s.poison = [] → s.sgrActive = false → s.get SAFE_FSTAT_SOD = 0 →
    ∃ t, exec .step4Compute s = .next t ∧
      t.cyc = { s.cyc with computed := true } ∧
      t.pstate = READY ∧
      t.form.psetR = approach s.form.psetR (s.geti FORM_BK_PSET_P_SET s.fbank) (s.rampStep (s.get FORM_BK_RAMP_SET_RAMP s.fbank)) ∧
      t.form.qsetR = approach s.form.qsetR (s.geti FORM_BK_QSET_Q_SET s.fbank) (s.rampStep (s.get FORM_BK_RAMP_SET_RAMP s.fbank)) ∧
      t.form.vsetR = approach s.form.vsetR (s.geti FORM_BK_VSET_V_SET s.fbank) (s.rampStep (s.get FORM_BK_RAMP_SET_RAMP s.fbank)) ∧
      t.form.wsetR = approach s.form.wsetR (s.geti FORM_BK_FSET_F_SET s.fbank) (s.rampStep (s.get FORM_BK_RAMP_SET_RAMP s.fbank)) ∧
      t = { s with regs := t.regs, cyc := t.cyc, time := t.time, law := t.law, form := t.form, pwr := t.pwr, cap := t.cap } ∧
      (∀ adr, adr ∉ (FORM_FFEED_FFEED.base :: FORM_VMAG_VPCC.base :: FORM_VFMAG_VFEED.base :: evtRegs SRC_FORM_MEAS_INVALID.blk SRC_FORM_MEAS_INVALID.s : List Nat) → t.word adr = s.word adr)) ∧
  (∀ (s : State), s.pwr.coreUp = true → (s.running = false ∨ s.cyc.suspended = true ∨ s.cyc.sampled = false ∨ s.cyc.computed = true) →
    ∃ t, exec .step4Compute s = .next t ∧
      t = s) ∧
  -- completes: step5Modulate
  (∀ (s : State), regsWf s → s.pwr.coreUp = true → s.running = true → s.cyc.suspended = false → s.cyc.computed = true → s.cyc.modulated = false → s.sgrActive = false → (s.en .mod = false ∨ s.inRun = false) →
    ∃ t, exec .step5Modulate s = .next t ∧
      t.cyc = { s.cyc with modulated := true } ∧
      t.now = max s.now (s.samp + s.tStep5) ∧
      t = { s with cyc := t.cyc, time := t.time, pwr := t.pwr }) ∧
  -- completes: step5Modulate
  (∀ (s : State), regsWf s → s.pwr.coreUp = true → s.running = true → s.cyc.suspended = false → s.cyc.computed = true → s.cyc.modulated = false → s.sgrActive = true → s.out.buses.length = 12 →
    ∃ t, exec .step5Modulate s = .next t ∧
      t.cyc = { s.cyc with modulated := true } ∧
      ∀ b ∈ buses, (t.busSt b).noDab = true ∧
      t.hive = s.hive ∧
      t = { s with cyc := t.cyc, time := t.time, pwr := t.pwr, out := t.out }) ∧
  -- completes: step5Modulate
  (∀ (s : State), regsWf s → s.pwr.coreUp = true → s.running = true → s.cyc.suspended = false → s.cyc.computed = true → s.cyc.modulated = false → s.sgrActive = false → s.en .mod = true → s.inRun = true → s.precharging = false →
    ∃ t, exec .step5Modulate s = .next t ∧
      t.cyc = { s.cyc with modulated := true } ∧
      t.now = max s.now (s.samp + s.tStep5) ∧
      ∀ i ∈ s.enSlots, s.cell.byp.contains i = true → s.cyc.slow.contains i = false → t.hive.frames.contains i = true ∧
      ∀ i ∈ s.hive.frames, s.cyc.slow.contains i = false → t.hive.frames.contains i = true ∧
      ∀ x ∈ s.cyc.slow, t.hive.frames.contains x = false ∧
      t.pstate = s.pstate) ∧
  -- completes: step5Modulate
  (∀ (s : State), regsWf s → s.pwr.coreUp = true → s.running = true → s.cyc.suspended = false → s.cyc.computed = true → s.cyc.modulated = false → s.sgrActive = false → s.hive.frames = [] → s.en .mod = true → s.inRun = true → s.precharging = true → s.form.entered = true →
    ∃ t, exec .step5Modulate s = .next t ∧
      t.cyc = { s.cyc with modulated := true } ∧
      t.now = max s.now (s.samp + s.tStep5) ∧
      t.form.entered = false ∧
      ∀ j ∈ List.range 3, t.order j = [] ∧ t.geti MOD_SRES_RHO j = 0 ∧
      t = { s with regs := t.regs, cyc := t.cyc, time := t.time, pwr := t.pwr, form := t.form, mod := t.mod } ∧
      (∀ adr, adr ∉ (strings.flatMap (fun (j : Nat) => MOD_SRES_RHO.addr j 0 :: (List.range 48).map (fun (m : Nat) => MOD_ORDER_SLOT.addr j m)) : List Nat) → t.word adr = s.word adr)) ∧
  (∀ (s : State), s.pwr.coreUp = true → (s.running = false ∨ s.cyc.suspended = true ∨ s.cyc.computed = false ∨ s.cyc.modulated = true) →
    ∃ t, exec .step5Modulate s = .next t ∧
      t = s)

/-- The boundary of a running cycle opens the cycle that starts one period after the start of the present one: SYS_CYC_START holds that TAI and SYS_CYC_NUM its quotient by the period, RUNNING stays, and what belongs to one cycle starts anew, unless a handover took the device out of the cycle's computation. Without a running cycle nothing happens. It says of each of these that it completes with its own effect, exec answering the next state told, under hypotheses on the state and the operands alone: cycleBoundary. (R16, R17, R25) -/
def Obligations.ACycleOpensAtItsBoundary : Prop :=
  -- completes: cycleBoundary
  (∀ (s : State), regsWf s → s.pwr.coreUp = true → s.running = true → s.cyc.resync = false →
    ∃ t, exec .cycleBoundary s = .next t ∧
      t.running = true ∧
      t.get64 SYS_CYC_START_TAI = (s.get64 SYS_CYC_START_TAI + s.period) % 2 ^ 64 ∧
      t.get SYS_CYC_NUM_CYC = (s.get64 SYS_CYC_START_TAI + s.period) / t.period % 2 ^ 32 ∧
      t.cyc.suspended = false ∧
      t.cyc.sampled = false ∧
      t.cyc.computed = false ∧
      t.cyc.modulated = false) ∧
  (∀ (s : State), s.pwr.coreUp = true → s.running = false →
    ∃ t, exec .cycleBoundary s = .next t ∧
      t = s)

/-- A session command is held with its bus and identifier and shows BUSY; while one is held it is refused with 0x1A27, and with COMB disabled or beside an active partner with STATE. At the boundary the held command is judged, DONE, STATUS, SLOT and CMD_DONE answer: RESERVE of a new session on a free bus takes the slot freed longest ago and makes it RESERVED; a session that exists otherwise is refused with 0x20; START makes the reserved slot ACTIVE from that boundary with its counts at 0; STOP gives it the next handle and makes it SIGNING; CANCEL frees a reserved slot and ACK a closed one, each with its tombstone. A command past the cut point waits one boundary more. It says of each of these that it completes with its own effect, exec answering the next state told, under hypotheses on the state and the operands alone: sessionReserve, sessionStart, sessionStop, sessionCancel, sessionAck. (R24, R350, R351, R352, R353, R354, R516) -/
def Obligations.SessionCommandsAreSubmittedAndJudged : Prop :=
  -- completes: sessionReserve
  (∀ (s : State) (bus : BitVec 4) (cid : BitVec 16), regsWf s → s.pwr.coreUp = true → s.flag COMB_RSP_BUSY = false → s.en .comb = true → s.follows = false → s.pastCut = false →
    ∃ t, exec (.sessionReserve bus cid) s = .next t ∧
      t.comb = { s.comb with cmd := some ⟨1, bus.toNat, cid.toNat, s.get64 COMB_CMD_SID_SID, s.get COMB_CMD_HDL_HDL, false⟩ } ∧
      t.flag COMB_RSP_BUSY = true ∧
      t.flag COMB_RSP_DONE = false ∧
      t = { s with regs := t.regs, comb := t.comb } ∧
      (∀ adr, adr ∉ ([COMB_RSP_BUSY.base] : List Nat) → t.word adr = s.word adr)) ∧
  (∀ (s : State) (bus : BitVec 4) (cid : BitVec 16), regsWf s → s.pwr.coreUp = true → s.flag COMB_RSP_BUSY = true →
    ∃ t, exec (.sessionReserve bus cid) s = .next t ∧
      t.get (CHK_REASON .comb) = 0x1A27 ∧
      t.get (CHK_UNIT .comb) = 0 ∧
      t.get (CHK_OFFSET .comb) = 0x18 ∧
      RegsOnly s t ∧
      (∀ adr, adr ∉ (refuseRegs .comb : List Nat) → t.word adr = s.word adr)) ∧
  (∀ (s : State) (bus : BitVec 4) (cid : BitVec 16), regsWf s → s.pwr.coreUp = true → s.flag COMB_RSP_BUSY = false → (s.en .comb = false ∨ s.follows = true) →
    ∃ t, exec (.sessionReserve bus cid) s = .next t ∧
      t.get (CHK_REASON .comb) = 0x1A0A ∧
      t.get (CHK_UNIT .comb) = 0 ∧
      t.get (CHK_OFFSET .comb) = 0x18 ∧
      RegsOnly s t ∧
      (∀ adr, adr ∉ (refuseRegs .comb : List Nat) → t.word adr = s.word adr)) ∧
  -- completes: sessionStart
  (∀ (s : State) (bus : BitVec 4) (cid : BitVec 16), regsWf s → s.pwr.coreUp = true → s.flag COMB_RSP_BUSY = false → s.en .comb = true → s.follows = false → s.pastCut = false →
    ∃ t, exec (.sessionStart bus cid) s = .next t ∧
      t.comb = { s.comb with cmd := some ⟨2, bus.toNat, cid.toNat, s.get64 COMB_CMD_SID_SID, s.get COMB_CMD_HDL_HDL, false⟩ } ∧
      t.flag COMB_RSP_BUSY = true ∧
      t.flag COMB_RSP_DONE = false ∧
      t = { s with regs := t.regs, comb := t.comb } ∧
      (∀ adr, adr ∉ ([COMB_RSP_BUSY.base] : List Nat) → t.word adr = s.word adr)) ∧
  (∀ (s : State) (bus : BitVec 4) (cid : BitVec 16), regsWf s → s.pwr.coreUp = true → s.flag COMB_RSP_BUSY = true →
    ∃ t, exec (.sessionStart bus cid) s = .next t ∧
      t.get (CHK_REASON .comb) = 0x1A27 ∧
      t.get (CHK_UNIT .comb) = 0 ∧
      t.get (CHK_OFFSET .comb) = 0x18 ∧
      RegsOnly s t ∧
      (∀ adr, adr ∉ (refuseRegs .comb : List Nat) → t.word adr = s.word adr)) ∧
  (∀ (s : State) (bus : BitVec 4) (cid : BitVec 16), regsWf s → s.pwr.coreUp = true → s.flag COMB_RSP_BUSY = false → (s.en .comb = false ∨ s.follows = true) →
    ∃ t, exec (.sessionStart bus cid) s = .next t ∧
      t.get (CHK_REASON .comb) = 0x1A0A ∧
      t.get (CHK_UNIT .comb) = 0 ∧
      t.get (CHK_OFFSET .comb) = 0x18 ∧
      RegsOnly s t ∧
      (∀ adr, adr ∉ (refuseRegs .comb : List Nat) → t.word adr = s.word adr)) ∧
  -- completes: sessionStop
  (∀ (s : State) (cid : BitVec 16), regsWf s → s.pwr.coreUp = true → s.flag COMB_RSP_BUSY = false → s.en .comb = true → s.follows = false → s.pastCut = false →
    ∃ t, exec (.sessionStop cid) s = .next t ∧
      t.comb = { s.comb with cmd := some ⟨3, 0, cid.toNat, s.get64 COMB_CMD_SID_SID, s.get COMB_CMD_HDL_HDL, false⟩ } ∧
      t.flag COMB_RSP_BUSY = true ∧
      t.flag COMB_RSP_DONE = false ∧
      t = { s with regs := t.regs, comb := t.comb } ∧
      (∀ adr, adr ∉ ([COMB_RSP_BUSY.base] : List Nat) → t.word adr = s.word adr)) ∧
  (∀ (s : State) (cid : BitVec 16), regsWf s → s.pwr.coreUp = true → s.flag COMB_RSP_BUSY = true →
    ∃ t, exec (.sessionStop cid) s = .next t ∧
      t.get (CHK_REASON .comb) = 0x1A27 ∧
      t.get (CHK_UNIT .comb) = 0 ∧
      t.get (CHK_OFFSET .comb) = 0x18 ∧
      RegsOnly s t ∧
      (∀ adr, adr ∉ (refuseRegs .comb : List Nat) → t.word adr = s.word adr)) ∧
  (∀ (s : State) (cid : BitVec 16), regsWf s → s.pwr.coreUp = true → s.flag COMB_RSP_BUSY = false → (s.en .comb = false ∨ s.follows = true) →
    ∃ t, exec (.sessionStop cid) s = .next t ∧
      t.get (CHK_REASON .comb) = 0x1A0A ∧
      t.get (CHK_UNIT .comb) = 0 ∧
      t.get (CHK_OFFSET .comb) = 0x18 ∧
      RegsOnly s t ∧
      (∀ adr, adr ∉ (refuseRegs .comb : List Nat) → t.word adr = s.word adr)) ∧
  -- completes: sessionCancel
  (∀ (s : State), regsWf s → s.pwr.coreUp = true → s.flag COMB_RSP_BUSY = false → s.en .comb = true → s.follows = false → s.pastCut = false →
    ∃ t, exec .sessionCancel s = .next t ∧
      t.comb = { s.comb with cmd := some ⟨4, 0, 0, s.get64 COMB_CMD_SID_SID, s.get COMB_CMD_HDL_HDL, false⟩ } ∧
      t.flag COMB_RSP_BUSY = true ∧
      t.flag COMB_RSP_DONE = false ∧
      t = { s with regs := t.regs, comb := t.comb } ∧
      (∀ adr, adr ∉ ([COMB_RSP_BUSY.base] : List Nat) → t.word adr = s.word adr)) ∧
  (∀ (s : State), regsWf s → s.pwr.coreUp = true → s.flag COMB_RSP_BUSY = true →
    ∃ t, exec .sessionCancel s = .next t ∧
      t.get (CHK_REASON .comb) = 0x1A27 ∧
      t.get (CHK_UNIT .comb) = 0 ∧
      t.get (CHK_OFFSET .comb) = 0x18 ∧
      RegsOnly s t ∧
      (∀ adr, adr ∉ (refuseRegs .comb : List Nat) → t.word adr = s.word adr)) ∧
  (∀ (s : State), regsWf s → s.pwr.coreUp = true → s.flag COMB_RSP_BUSY = false → (s.en .comb = false ∨ s.follows = true) →
    ∃ t, exec .sessionCancel s = .next t ∧
      t.get (CHK_REASON .comb) = 0x1A0A ∧
      t.get (CHK_UNIT .comb) = 0 ∧
      t.get (CHK_OFFSET .comb) = 0x18 ∧
      RegsOnly s t ∧
      (∀ adr, adr ∉ (refuseRegs .comb : List Nat) → t.word adr = s.word adr)) ∧
  -- completes: sessionAck
  (∀ (s : State), regsWf s → s.pwr.coreUp = true → s.flag COMB_RSP_BUSY = false → s.en .comb = true → s.follows = false → s.pastCut = false →
    ∃ t, exec .sessionAck s = .next t ∧
      t.comb = { s.comb with cmd := some ⟨5, 0, 0, s.get64 COMB_CMD_SID_SID, s.get COMB_CMD_HDL_HDL, false⟩ } ∧
      t.flag COMB_RSP_BUSY = true ∧
      t.flag COMB_RSP_DONE = false ∧
      t = { s with regs := t.regs, comb := t.comb } ∧
      (∀ adr, adr ∉ ([COMB_RSP_BUSY.base] : List Nat) → t.word adr = s.word adr)) ∧
  (∀ (s : State), regsWf s → s.pwr.coreUp = true → s.flag COMB_RSP_BUSY = true →
    ∃ t, exec .sessionAck s = .next t ∧
      t.get (CHK_REASON .comb) = 0x1A27 ∧
      t.get (CHK_UNIT .comb) = 0 ∧
      t.get (CHK_OFFSET .comb) = 0x18 ∧
      RegsOnly s t ∧
      (∀ adr, adr ∉ (refuseRegs .comb : List Nat) → t.word adr = s.word adr)) ∧
  (∀ (s : State), regsWf s → s.pwr.coreUp = true → s.flag COMB_RSP_BUSY = false → (s.en .comb = false ∨ s.follows = true) →
    ∃ t, exec .sessionAck s = .next t ∧
      t.get (CHK_REASON .comb) = 0x1A0A ∧
      t.get (CHK_UNIT .comb) = 0 ∧
      t.get (CHK_OFFSET .comb) = 0x18 ∧
      RegsOnly s t ∧
      (∀ adr, adr ∉ (refuseRegs .comb : List Nat) → t.word adr = s.word adr)) ∧
  (∀ (s t : State) (at' : Nat) (i : Nat) (sid : Nat) (hdl : Nat) (b : Nat) (c : Nat), regsWf s → sid < 2 ^ 64 → s.comb.cmd = some ⟨1, b, c, sid, hdl, false⟩ → i ∈ combSlots → s.combPick = some i → (combSlots.any (fun k => s.cst k != C_FREE && s.csid k == sid)) = false → s.sessionBus b = true → (combSlots.any (fun k => s.cst k == C_RESERVED && s.cbus k == b)) = false → c < 65536 →
    t = s.combJudge at' →
      t.comb.cmd = none ∧
      t.flag COMB_RSP_BUSY = false ∧
      t.flag COMB_RSP_DONE = true ∧
      t.get COMB_RSP_STATUS = 0 ∧
      t.get COMB_RSP_SLOT = i ∧
      t.flag ⟨ctrlAddr SRC_COMB_CMD_DONE.blk 0x04, 0, 0, SRC_COMB_CMD_DONE.s, 1⟩ = true ∧
      t.cst i = C_RESERVED ∧
      t.csid i = sid ∧
      t.cbus i = b ∧
      t.get COMB_SCID_START_CID i = c ∧
      ∀ k ∈ combSlots, k ≠ i → t.cst k = s.cst k) ∧
  (∀ (s t : State) (at' : Nat) (i : Nat) (sid : Nat) (hdl : Nat) (b : Nat) (c : Nat), regsWf s → sid < 2 ^ 64 → s.comb.cmd = some ⟨1, b, c, sid, hdl, false⟩ → i ∈ combSlots → s.cst i = C_ACTIVE → s.csid i = sid → (combSlots.any (fun k => s.cst k == C_RESERVED && s.csid k == sid)) = false →
    t = s.combJudge at' →
      t.comb.cmd = none ∧
      t.flag COMB_RSP_BUSY = false ∧
      t.flag COMB_RSP_DONE = true ∧
      t.get COMB_RSP_STATUS = 0x20 ∧
      t.get COMB_RSP_SLOT = 0 ∧
      t.flag ⟨ctrlAddr SRC_COMB_CMD_DONE.blk 0x04, 0, 0, SRC_COMB_CMD_DONE.s, 1⟩ = true ∧
      t.get (CHK_REASON .comb) = 0x1A20 ∧
      t.get (CHK_UNIT .comb) = 0 ∧
      t.get (CHK_OFFSET .comb) = 0x18 ∧
      ∀ k ∈ combSlots, t.cst k = s.cst k) ∧
  (∀ (s t : State) (at' : Nat) (i : Nat) (sid : Nat) (hdl : Nat) (b : Nat) (c : Nat), regsWf s → sid < 2 ^ 64 → s.comb.cmd = some ⟨2, b, c, sid, hdl, false⟩ → i ∈ combSlots → s.cst i = C_RESERVED → s.csid i = sid → s.cbus i = b → s.sessionBus b = true → ∀ k ∈ combSlots, k ≠ i → s.csid k ≠ sid → (combSlots.any (fun k => s.cst k == C_ACTIVE && s.cbus k == b)) = false → c < 65536 →
    t = s.combJudge at' →
      t.comb.cmd = none ∧
      t.flag COMB_RSP_BUSY = false ∧
      t.flag COMB_RSP_DONE = true ∧
      t.get COMB_RSP_STATUS = 0 ∧
      t.get COMB_RSP_SLOT = i ∧
      t.flag ⟨ctrlAddr SRC_COMB_CMD_DONE.blk 0x04, 0, 0, SRC_COMB_CMD_DONE.s, 1⟩ = true ∧
      t.cst i = C_ACTIVE ∧
      t.csid i = sid ∧
      t.cbus i = b ∧
      t.get COMB_SCID_START_CID i = c ∧
      t.get64 COMB_SSTART_TAI i = at' % 2 ^ 64 ∧
      t.get64 COMB_SEIMP_E i = 0 ∧
      t.get64 COMB_SEEXP_E i = 0 ∧
      ∀ k ∈ combSlots, k ≠ i → t.cst k = s.cst k) ∧
  (∀ (s t : State) (at' : Nat) (i : Nat) (sid : Nat) (hdl : Nat) (b : Nat) (c : Nat), regsWf s → sid < 2 ^ 64 → s.comb.cmd = some ⟨3, b, c, sid, hdl, false⟩ → i ∈ combSlots → s.cst i = C_ACTIVE → s.csid i = sid → ∀ k ∈ combSlots, k ≠ i → s.csid k ≠ sid → c < 65536 →
    t = s.combJudge at' →
      t.comb.cmd = none ∧
      t.flag COMB_RSP_BUSY = false ∧
      t.flag COMB_RSP_DONE = true ∧
      t.get COMB_RSP_STATUS = 0 ∧
      t.get COMB_RSP_SLOT = i ∧
      t.flag ⟨ctrlAddr SRC_COMB_CMD_DONE.blk 0x04, 0, 0, SRC_COMB_CMD_DONE.s, 1⟩ = true ∧
      t.cst i = C_SIGNING ∧
      t.chdl i = s.get METR_SEQ_NEXT ∧
      t.get COMB_RSP_HDL_HDL = s.get METR_SEQ_NEXT ∧
      t.get METR_SEQ_NEXT = (s.get METR_SEQ_NEXT + 1) % 2 ^ 32 ∧
      t.get COMB_SCID_STOP_CID i = c ∧
      t.get64 COMB_SSTOP_TAI i = at' % 2 ^ 64 ∧
      ∀ k ∈ combSlots, k ≠ i → t.cst k = s.cst k) ∧
  (∀ (s t : State) (at' : Nat) (i : Nat) (sid : Nat) (hdl : Nat) (b : Nat) (c : Nat), regsWf s → sid < 2 ^ 64 → s.comb.cmd = some ⟨4, b, c, sid, hdl, false⟩ → i ∈ combSlots → s.cst i = C_RESERVED → s.csid i = sid → ∀ k ∈ combSlots, k ≠ i → s.csid k ≠ sid →
    t = s.combJudge at' →
      t.comb.cmd = none ∧
      t.flag COMB_RSP_BUSY = false ∧
      t.flag COMB_RSP_DONE = true ∧
      t.get COMB_RSP_STATUS = 0 ∧
      t.get COMB_RSP_SLOT = i ∧
      t.flag ⟨ctrlAddr SRC_COMB_CMD_DONE.blk 0x04, 0, 0, SRC_COMB_CMD_DONE.s, 1⟩ = true ∧
      t.cst i = C_FREE ∧
      t.chdl i = 0 ∧
      t.csid i = sid ∧
      ∀ k ∈ combSlots, k ≠ i → t.cst k = s.cst k) ∧
  (∀ (s t : State) (at' : Nat) (i : Nat) (sid : Nat) (hdl : Nat) (b : Nat) (c : Nat), regsWf s → sid < 2 ^ 64 → s.comb.cmd = some ⟨5, b, c, sid, hdl, false⟩ → i ∈ combSlots → s.cst i = C_CLOSED → s.csid i = sid → s.chdl i = hdl → ∀ k ∈ combSlots, k ≠ i → s.csid k ≠ sid →
    t = s.combJudge at' →
      t.comb.cmd = none ∧
      t.flag COMB_RSP_BUSY = false ∧
      t.flag COMB_RSP_DONE = true ∧
      t.get COMB_RSP_STATUS = 0 ∧
      t.get COMB_RSP_SLOT = i ∧
      t.flag ⟨ctrlAddr SRC_COMB_CMD_DONE.blk 0x04, 0, 0, SRC_COMB_CMD_DONE.s, 1⟩ = true ∧
      t.cst i = C_FREE ∧
      t.chdl i = s.chdl i ∧
      t.csid i = sid ∧
      ∀ k ∈ combSlots, k ≠ i → t.cst k = s.cst k) ∧
  (∀ (s t : State) (at' : Nat) (b : Nat) (c : Nat) (op : Nat) (sid : Nat) (hdl : Nat), regsWf s → s.comb.cmd = some ⟨op, b, c, sid, hdl, true⟩ →
    t = s.combJudge at' →
      t.comb = { s.comb with cmd := some ⟨op, b, c, sid, hdl, false⟩ } ∧
      t = { s with comb := t.comb })

/-- The oldest record that waits enters the signing queue while a place is free. The signed record at the front is verified: if it verifies, its slot is CLOSED and SIGNED is raised; a first failure raises SIGN_FAIL and leaves it in the queue, a second takes it out. A fetch is held with its handle and shown neither done nor failed, or refused with STATE while COMB is disabled; it copies record and signature of the slot that holds the handle to FETCH_BASE and shows DONE, or FAIL with 0x1A28 where the slot is not signed. A checkpoint holds the slots, their registers, the totalisers' remainders, the next handle and the last hash as of the cycle's start. It says of each of these that it completes with its own effect, exec answering the next state told, under hypotheses on the state and the operands alone: signQueueEnter, recordSigned, combFetch, combFetchDone, checkpoint. (R354, R355, R356, R357, R358, R359, R502) -/
def Obligations.ClosingRecordsAreSignedFetchedAndCheckpointed : Prop :=
  -- completes: signQueueEnter
  (∀ (s : State) (i : Nat) (rest : List Nat), regsWf s → s.pwr.coreUp = true → s.backlog = i :: rest → s.comb.queue.length < 32 →
    ∃ t, exec .signQueueEnter s = .next t ∧
      t.comb = { s.comb with queue := s.comb.queue ++ [i] } ∧
      t.get COMB_SIGN_QUEUED = s.comb.queue.length + 1 ∧
      t = { s with regs := t.regs, comb := t.comb } ∧
      (∀ adr, adr ∉ ([COMB_SIGN_QUEUED.base] : List Nat) → t.word adr = s.word adr)) ∧
  (∀ (s : State), s.pwr.coreUp = true → (s.backlog = [] ∨ 32 ≤ s.comb.queue.length) →
    ∃ t, exec .signQueueEnter s = .next t ∧
      t = s) ∧
  -- completes: recordSigned
  (∀ (s : State) (i : Nat) (q : List Nat), regsWf s → s.pwr.coreUp = true → s.comb.queue = i :: q → s.en .comb = true → s.follows = false → i ∈ combSlots → s.pwr.mramBad = [] →
    ∃ t, exec .recordSigned s = .next t ∧
      (Config.verify (sha256 (s.combSt i).record) (signature (sha256 (s.combSt i).record)) (s.combSt i).tries = true → t.cst i = C_CLOSED ∧ t.comb.queue = q ∧ t.part.record = some (s.chdl i, (s.combSt i).record ++ slice (signature (sha256 (s.combSt i).record)) 0 64) ∧ t.flag ⟨ctrlAddr SRC_COMB_SIGNED.blk 0x04, 0, 0, SRC_COMB_SIGNED.s, 1⟩ = true) ∧
      (Config.verify (sha256 (s.combSt i).record) (signature (sha256 (s.combSt i).record)) (s.combSt i).tries = false → t.cst i = s.cst i ∧ t.comb.queue = (if (s.combSt i).tries = 0 then i :: q else q) ∧ t.comb.slots = s.comb.slots.set i { s.combSt i with tries := (s.combSt i).tries + 1 } ∧ t.flag ⟨ctrlAddr SRC_COMB_SIGN_FAIL.blk 0x04, 0, 0, SRC_COMB_SIGN_FAIL.s, 1⟩ = true) ∧
      (∀ adr, (adr < (MRAM + 192 * (s.chdl i % 2048)) ∨ (MRAM + 192 * (s.chdl i % 2048)) + ((s.combSt i).record ++ slice (signature (sha256 (s.combSt i).record)) 0 64).length ≤ adr) → t.byte adr = s.byte adr) ∧
      t = { s with regs := t.regs, comb := t.comb, part := t.part, mem := t.mem, poison := t.poison, pwr := { s.pwr with holdCopy := t.pwr.holdCopy }, cap := { s.cap with force := t.cap.force } } ∧
      (∀ adr, adr ∉ (COMB_SSTAT_STATE.addr i 0 :: COMB_SIGN_QUEUED.base :: (OUT_BSTAT_STATE.addr (s.cbus i) 0) :: evtRegs .comb SRC_COMB_SIGNED.s ++ evtRegs .comb SRC_COMB_SIGN_FAIL.s ++ evtRegs .comb SRC_COMB_LOG_FAIL.s ++ evtRegs .mem SRC_MEM_MRAM_FAIL.s : List Nat) → t.word adr = s.word adr)) ∧
  (∀ (s : State), s.pwr.coreUp = true → (s.comb.queue = [] ∨ s.en .comb = false ∨ s.follows = true) →
    ∃ t, exec .recordSigned s = .next t ∧
      t = s) ∧
  -- completes: combFetch
  (∀ (s : State) (h : BitVec 32), regsWf s → s.pwr.coreUp = true → s.en .comb = true →
    ∃ t, exec (.combFetch h) s = .next t ∧
      t.comb = { s.comb with fetch := some h.toNat } ∧
      t.flag COMB_FETCH_STAT_DONE = false ∧
      t.flag COMB_FETCH_STAT_FAIL = false ∧
      t = { s with regs := t.regs, comb := t.comb } ∧
      (∀ adr, adr ∉ ([COMB_FETCH_STAT_DONE.base] : List Nat) → t.word adr = s.word adr)) ∧
  (∀ (s : State) (h : BitVec 32), regsWf s → s.pwr.coreUp = true → s.en .comb = false →
    ∃ t, exec (.combFetch h) s = .next t ∧
      t.get (CHK_REASON .comb) = 0x1A0A ∧
      t.get (CHK_UNIT .comb) = 0 ∧
      t.get (CHK_OFFSET .comb) = 0x34 ∧
      RegsOnly s t ∧
      (∀ adr, adr ∉ (refuseRegs .comb : List Nat) → t.word adr = s.word adr)) ∧
  -- completes: combFetchDone
  (∀ (s : State) (h : Nat) (i : Nat), regsWf s → s.pwr.coreUp = true → s.comb.fetch = some h → combSlots.find? (fun k => (s.cst k == C_SIGNING || s.cst k == C_CLOSED) && s.chdl k == h) = some i → (s.combSt i).sig ≠ [] → memWf s →
    ∃ t, exec .combFetchDone s = .next t ∧
      t.comb = { s.comb with fetch := none } ∧
      t.flag COMB_FETCH_STAT_DONE = true ∧
      t.bytes (BANK_HOST + s.get COMB_FETCH_BASE_BASE) ((s.combSt i).record ++ (s.combSt i).sig).length = (s.combSt i).record ++ (s.combSt i).sig ∧
      (∀ adr, (adr < (BANK_HOST + s.get COMB_FETCH_BASE_BASE) ∨ (BANK_HOST + s.get COMB_FETCH_BASE_BASE) + ((s.combSt i).record ++ (s.combSt i).sig).length ≤ adr) → t.byte adr = s.byte adr) ∧
      t = { s with regs := t.regs, comb := t.comb, mem := t.mem, poison := t.poison } ∧
      (∀ adr, adr ∉ ([COMB_FETCH_STAT_DONE.base] : List Nat) → t.word adr = s.word adr)) ∧
  (∀ (s : State) (h : Nat) (i : Nat), regsWf s → s.pwr.coreUp = true → s.comb.fetch = some h → combSlots.find? (fun k => (s.cst k == C_SIGNING || s.cst k == C_CLOSED) && s.chdl k == h) = some i → (s.combSt i).sig = [] →
    ∃ t, exec .combFetchDone s = .next t ∧
      t.comb = { s.comb with fetch := none } ∧
      t.flag COMB_FETCH_STAT_FAIL = true ∧
      t.get (CHK_REASON .comb) = 0x1A28 ∧
      t.get (CHK_UNIT .comb) = 0 ∧
      t.get (CHK_OFFSET .comb) = 0x34 ∧
      t = { s with regs := t.regs, comb := t.comb } ∧
      (∀ adr, adr ∉ (COMB_FETCH_STAT_DONE.base :: refuseRegs .comb : List Nat) → t.word adr = s.word adr)) ∧
  (∀ (s : State), s.pwr.coreUp = true → s.comb.fetch = none →
    ∃ t, exec .combFetchDone s = .next t ∧
      t = s) ∧
  -- completes: checkpoint
  (∀ (s : State), regsWf s → s.pwr.coreUp = true → s.en .metr = true → s.comb.restored = true → s.pwr.mramBad = [] →
    ∃ t, exec .checkpoint s = .next t ∧
      t.comb = { s.comb with changed := false, ckpt := some ⟨s.get64 SYS_CYC_START_TAI, s.get TIME_SYNC_STAT_STATE, s.regs.filter (fun p => ckptReg p.1), s.comb.slots, s.meter.map (fun m => (m.remI, m.remE)), s.get METR_SEQ_NEXT, s.comb.prev⟩ } ∧
      t = { s with comb := t.comb, poison := t.poison }) ∧
  -- completes: checkpoint
  (∀ (s : State), regsWf s → s.pwr.coreUp = true → s.en .metr = true → s.comb.restored = true → s.copyBad 0x60000 = true → s.copyBad 0x64000 = true →
    ∃ t, exec .checkpoint s = .next t ∧
      t.comb = { s.comb with changed := false } ∧
      t.flag ⟨ctrlAddr SRC_METR_CKPT_FAIL.blk 0x04, 0, 0, SRC_METR_CKPT_FAIL.s, 1⟩ = true ∧
      t = { s with regs := t.regs, comb := t.comb, poison := t.poison, pwr := { s.pwr with holdCopy := t.pwr.holdCopy }, cap := { s.cap with force := t.cap.force } } ∧
      (∀ adr, adr ∉ (evtRegs SRC_METR_CKPT_FAIL.blk SRC_METR_CKPT_FAIL.s ++ evtRegs SRC_MEM_MRAM_FAIL.blk SRC_MEM_MRAM_FAIL.s : List Nat) → t.word adr = s.word adr)) ∧
  (∀ (s : State), s.pwr.coreUp = true → (s.en .metr = false ∨ s.comb.restored = false) →
    ∃ t, exec .checkpoint s = .next t ∧
      t = s)

/-- For every heartbeat that is valid, with PART enabled, PART_TOFS holds the arrival less the heartbeat's TAI, 36 ns and LINK_DLY, wherever that difference fits its 32 bits, in every role. It says of each of these that it completes with its own effect, exec answering the next state told, under hypotheses on the state and the operands alone: heartbeatRx. (R513) -/
def Obligations.TheTimeOffsetOfThePartner : Prop :=
  -- completes: heartbeatRx
  (∀ (s : State) (f : List (BitVec 8)) (at' : Nat) (d : Int), regsWf s → s.pwr.coreUp = true → s.en .part = true → f.length = 16 → (crc16 (f.take 14)).toNat = leAt f 14 2 → d = (at' : Int) - leAt f 4 8 - 36 - s.get PART_LINK_LINK_DLY → -(2 ^ 31) ≤ d → d < 2 ^ 31 →
    ∃ t, exec (.heartbeatRx f at') s = .next t ∧
      t.geti PART_TOFS_TOFS = d)

/-- An entry of a SAR table starts afresh. A conversion inside its entry shows its corrected code in SKIM, adds to the entry's sum and clears the open-wire count on a value below 98 %. A reference out of range shows in STATUS with REF_FAULT once and ends with the reference's return. A fine filter output is held with the stamp of its group delay, and FINE, TS and VALID show it; a skim output below OVR_LIM is held and shown in SKIM. STUCK shows with its event and ends validity; its end begins settling; the end of settling on good data makes the output valid again. With the block or the channel disabled nothing happens. It says of each of these that it completes with its own effect, exec answering the next state told, under hypotheses on the state and the operands alone: sarEntryStart, sarConversion, refFault, refFaultEnd, filOutput, dsmStuck, dsmStuckEnd, settlingEnd. (R373, R394, R395, R396, R397, R400, R401, R403, R404, R405) -/
def Obligations.ConvertersAndFiltersMeasure : Prop :=
  -- completes: sarEntryStart
  (∀ (s : State) (a : Fin 2), regsWf s → s.pwr.coreUp = true → s.en .adc = true →
    ∃ t, exec (.sarEntryStart a) s = .next t ∧
      t.meas = { s.meas with sar := s.meas.sar.set a.val ⟨0, 0, false, 0⟩ } ∧
      t.flag ADC_SEQ_STAT_PD a.val = false ∧
      t = { s with regs := t.regs, meas := t.meas } ∧
      (∀ adr, adr ∉ ([ADC_SEQ_STAT_PD.addr a.val 0] : List Nat) → t.word adr = s.word adr)) ∧
  (∀ (s : State) (a : Fin 2), s.pwr.coreUp = true → s.en .adc = false →
    ∃ t, exec (.sarEntryStart a) s = .next t ∧
      t = s) ∧
  -- completes: sarConversion
  (∀ (s : State) (a : Fin 2) (code : BitVec 16) (at' : Nat), regsWf s → s.pwr.coreUp = true → s.fieldUp = true → s.en .adc = true → (s.get ADC_SEQ_CH a.val (s.get ADC_SEQ_STAT_ENTRY a.val)) ≠ 23 → (s.sarSt a.val).conv + 1 < s.get ADC_SEQ_REPEAT a.val (s.get ADC_SEQ_STAT_ENTRY a.val) → (s.get ADC_SEQ_CH a.val (s.get ADC_SEQ_STAT_ENTRY a.val)) < 24 → s.sarLayer1 a.val code.toNat < 64226 * 2 ^ 39 - 2 ^ 38 → -(2 ^ 38) ≤ s.sarLayer1 a.val code.toNat →
    ∃ t, exec (.sarConversion a code at') s = .next t ∧
      t.get ADC_RES_SKIM (s.get ADC_SEQ_CH a.val (s.get ADC_SEQ_STAT_ENTRY a.val)) = (rdiv (s.sarLayer1 a.val code.toNat) (2 ^ 39)).toNat ∧
      t.meas.sar = s.meas.sar.set a.val ⟨(s.sarSt a.val).conv + 1, (s.sarSt a.val).sum + s.sarLayer1 a.val code.toNat, (s.sarSt a.val).bad || (s.refFault a.val || s.flag CAL_XSTAT_FAIL || (t.flag ADC_RSTAT_OPEN (s.get ADC_SEQ_CH a.val (s.get ADC_SEQ_STAT_ENTRY a.val)) && s.flag ADC_CHCFG_BURN_EN (s.get ADC_SEQ_CH a.val (s.get ADC_SEQ_STAT_ENTRY a.val)))), if (s.sarSt a.val).conv = 0 then at' else (s.sarSt a.val).t0⟩ ∧
      t.meas.ain = s.meas.ain.set (s.get ADC_SEQ_CH a.val (s.get ADC_SEQ_STAT_ENTRY a.val)) { s.ainSt (s.get ADC_SEQ_CH a.val (s.get ADC_SEQ_STAT_ENTRY a.val)) with high := 0, low := min 16 ((s.ainSt (s.get ADC_SEQ_CH a.val (s.get ADC_SEQ_STAT_ENTRY a.val))).low + 1) } ∧
      t = { s with regs := t.regs, meas := t.meas } ∧
      (∀ adr, adr ∉ ([ADC_RES_SKIM.addr (s.get ADC_SEQ_CH a.val (s.get ADC_SEQ_STAT_ENTRY a.val)) 0, ADC_RSTAT_OPEN.addr (s.get ADC_SEQ_CH a.val (s.get ADC_SEQ_STAT_ENTRY a.val)) 0] : List Nat) → t.word adr = s.word adr)) ∧
  (∀ (s : State) (a : Fin 2) (code : BitVec 16) (at' : Nat), s.pwr.coreUp = true → s.fieldUp = true → s.en .adc = false →
    ∃ t, exec (.sarConversion a code at') s = .next t ∧
      t = s) ∧
  -- completes: refFault
  (∀ (s : State) (a : Fin 2), regsWf s → s.pwr.coreUp = true → s.fieldUp = true → s.refFault a.val = false →
    ∃ t, exec (.refFault a) s = .next t ∧
      t.refFault a.val = true ∧
      t.flag ⟨ctrlAddr SRC_ADC_REF_FAULT.blk 0x04, 0, 0, SRC_ADC_REF_FAULT.s, 1⟩ = true ∧
      ∀ n ∈ List.range 24, s.get ADC_RSTAT_CONV n = a.val → t.flag ADC_RSTAT_VALID n = false ∧
      ∀ n ∈ List.range 24, s.get ADC_RSTAT_CONV n ≠ a.val → t.flag ADC_RSTAT_VALID n = s.flag ADC_RSTAT_VALID n ∧
      RegsHold s t ∧
      (∀ adr, adr ∉ (ADC_STATUS_REF.base :: (List.range 24).map (fun n => ADC_RSTAT_VALID.addr n 0) ++ evtRegs SRC_ADC_REF_FAULT.blk SRC_ADC_REF_FAULT.s : List Nat) → t.word adr = s.word adr)) ∧
  (∀ (s : State) (a : Fin 2), s.pwr.coreUp = true → s.fieldUp = true → s.refFault a.val = true →
    ∃ t, exec (.refFault a) s = .next t ∧
      t = s) ∧
  -- completes: refFaultEnd
  (∀ (s : State) (a : Fin 2), regsWf s → s.pwr.coreUp = true → s.fieldUp = true →
    ∃ t, exec (.refFaultEnd a) s = .next t ∧
      t.refFault a.val = false ∧
      RegsOnly s t ∧
      (∀ adr, adr ∉ ([ADC_STATUS_REF.base] : List Nat) → t.word adr = s.word adr)) ∧
  -- completes: filOutput
  (∀ (s : State) (n : Fin 36) (x : BitVec 32) (at' : Nat) (y : Sample), regsWf s → s.pwr.coreUp = true → s.dsmOn n.val = true → 24 ≤ n.val → y = ⟨(at' : Int) - s.get FIL_GD_GD n.val, s.layer1 (s.get FIL_DCFG_PRESET n.val) x.toInt, !s.dsmBad n.val && !(s.dsmSt n.val).settleFine⟩ →
    ∃ t, exec (.filOutput n true x at') s = .next t ∧
      t.meas = { s.meas with dsm := s.meas.dsm.set n.val { s.dsmSt n.val with fine := pushSample (s.dsmSt n.val).fine y } } ∧
      t.word (FIL_FINE_X.addr n.val 0) = BitVec.ofInt 32 y.x ∧
      t.word (FIL_TS_TS.addr n.val 0) = BitVec.ofInt 32 y.stamp ∧
      t = { s with regs := t.regs, meas := t.meas } ∧
      (∀ adr, adr ∉ ([FIL_FINE_X.addr n.val 0, FIL_TS_TS.addr n.val 0, FIL_DSTAT_VALID.addr n.val 0] : List Nat) → t.word adr = s.word adr)) ∧
  -- completes: filOutput
  (∀ (s : State) (n : Fin 36) (x : BitVec 32) (at' : Nat), regsWf s → s.pwr.coreUp = true → s.dsmOn n.val = true → (decide (n.val < 24) && s.metered (n.val / 2)) = false → s.flag FIL_DSTAT_OVR n.val = false → (s.layer1 2 x.toInt).natAbs < s.get FIL_CFG_OVR_LIM * 2 ^ 23 →
    ∃ t, exec (.filOutput n false x at') s = .next t ∧
      t.meas = { s.meas with dsm := s.meas.dsm.set n.val { s.dsmSt n.val with above := 0, skim := pushSample (s.dsmSt n.val).skim ⟨(at' : Int) - s.skimDelay n.val, s.layer1 2 x.toInt, !s.dsmBad n.val && !(s.dsmSt n.val).settleSkim⟩ } } ∧
      t.word (FIL_SKIM_X.addr n.val 0) = BitVec.ofInt 32 (s.layer1 2 x.toInt) ∧
      t = { s with regs := t.regs, meas := t.meas } ∧
      (∀ adr, adr ∉ ([FIL_SKIM_X.addr n.val 0] : List Nat) → t.word adr = s.word adr)) ∧
  (∀ (s : State) (n : Fin 36) (fine : Bool) (x : BitVec 32) (at' : Nat), s.pwr.coreUp = true → s.dsmOn n.val = false →
    ∃ t, exec (.filOutput n fine x at') s = .next t ∧
      t = s) ∧
  -- completes: dsmStuck
  (∀ (s : State) (n : Fin 36), regsWf s → s.pwr.coreUp = true → s.flag FIL_DCFG_EN n.val = true → s.flag FIL_CLK_EN (n.val / 6) = true → s.flag FIL_DSTAT_STUCK n.val = false → (decide (n.val < 24) && s.metered (n.val / 2)) = false →
    ∃ t, exec (.dsmStuck n) s = .next t ∧
      t.flag FIL_DSTAT_STUCK n.val = true ∧
      t.flag FIL_DSTAT_VALID n.val = false ∧
      t.flag ⟨ctrlAddr SRC_FIL_STUCK.blk 0x04, 0, 0, SRC_FIL_STUCK.s, 1⟩ = true ∧
      RegsHold s t ∧
      (∀ adr, adr ∉ ((FIL_DSTAT_VALID.addr n.val 0) :: evtRegs SRC_FIL_STUCK.blk SRC_FIL_STUCK.s : List Nat) → t.word adr = s.word adr)) ∧
  -- completes: dsmStuck
  (∀ (s : State) (n : Fin 36), regsWf s → s.pwr.coreUp = true → s.flag FIL_DCFG_EN n.val = true → s.flag FIL_CLK_EN (n.val / 6) = true → s.flag FIL_DSTAT_STUCK n.val = false → n.val < 24 → s.metered (n.val / 2) = true → s.flag METR_MSTAT_INVALID (n.val / 2) = false → s.flag METR_CFG_INV_SOD = false →
    ∃ t, exec (.dsmStuck n) s = .next t ∧
      t.flag FIL_DSTAT_STUCK n.val = true ∧
      t.flag FIL_DSTAT_VALID n.val = false ∧
      t.flag METR_MSTAT_INVALID (n.val / 2) = true ∧
      t.flag ⟨ctrlAddr SRC_FIL_STUCK.blk 0x04, 0, 0, SRC_FIL_STUCK.s, 1⟩ = true ∧
      t.flag ⟨ctrlAddr SRC_METR_METER_INVALID.blk 0x04, 0, 0, SRC_METR_METER_INVALID.s, 1⟩ = true ∧
      RegsHold s t ∧
      (∀ adr, adr ∉ ((FIL_DSTAT_VALID.addr n.val 0) :: METR_MSTAT_INVALID.addr (n.val / 2) 0 :: evtRegs SRC_FIL_STUCK.blk SRC_FIL_STUCK.s ++ evtRegs SRC_METR_METER_INVALID.blk SRC_METR_METER_INVALID.s : List Nat) → t.word adr = s.word adr)) ∧
  (∀ (s : State) (n : Fin 36), s.pwr.coreUp = true → (s.flag FIL_DCFG_EN n.val = false ∨ s.flag FIL_CLK_EN (n.val / 6) = false ∨ s.flag FIL_DSTAT_STUCK n.val = true) → (decide (n.val < 24) && s.metered (n.val / 2)) = false →
    ∃ t, exec (.dsmStuck n) s = .next t ∧
      t = s) ∧
  -- completes: dsmStuckEnd
  (∀ (s : State) (n : Fin 36), regsWf s → s.pwr.coreUp = true → s.flag FIL_DSTAT_STUCK n.val = true → (decide (n.val < 24) && s.metered (n.val / 2)) = false →
    ∃ t, exec (.dsmStuckEnd n) s = .next t ∧
      t.flag FIL_DSTAT_STUCK n.val = false ∧
      t.flag FIL_DSTAT_VALID n.val = false ∧
      t.meas = { s.meas with dsm := s.meas.dsm.set n.val { s.dsmSt n.val with settleFine := true, settleSkim := true } } ∧
      t = { s with regs := t.regs, meas := t.meas } ∧
      (∀ adr, adr ∉ ([FIL_DSTAT_VALID.addr n.val 0] : List Nat) → t.word adr = s.word adr)) ∧
  (∀ (s : State) (n : Fin 36), s.pwr.coreUp = true → s.flag FIL_DSTAT_STUCK n.val = false → (decide (n.val < 24) && s.metered (n.val / 2)) = false →
    ∃ t, exec (.dsmStuckEnd n) s = .next t ∧
      t = s) ∧
  -- completes: settlingEnd
  (∀ (s : State) (n : Fin 36) (fine : Bool), regsWf s → s.pwr.coreUp = true → s.dsmBad n.val = false → (decide (n.val < 24) && s.metered (n.val / 2)) = false →
    ∃ t, exec (.settlingEnd n fine) s = .next t ∧
      t.meas = { s.meas with dsm := s.meas.dsm.set n.val (if fine then { s.dsmSt n.val with settleFine := false } else { s.dsmSt n.val with settleSkim := false }) } ∧
      t.flag FIL_DSTAT_VALID n.val = !(t.dsmSt n.val).settleFine ∧
      t.flag FIL_DSTAT_SETTLING n.val = (t.dsmSt n.val).settleFine ∧
      t = { s with regs := t.regs, meas := t.meas } ∧
      (∀ adr, adr ∉ ([FIL_DSTAT_VALID.addr n.val 0] : List Nat) → t.word adr = s.word adr)) ∧
  (∀ (s : State) (n : Fin 36) (fine : Bool), s.pwr.coreUp = true → s.dsmBad n.val = true → (decide (n.val < 24) && s.metered (n.val / 2)) = false →
    ∃ t, exec (.settlingEnd n fine) s = .next t ∧
      t = s)

/-- APPLY behind a closed seal is refused with SEAL_CLOSED, a staged value that fails its check with the check's reason, and one that would change a metered channel with LOCKED. Accepted and logged outside the running states, every staged value is in force at once and APPLIED is raised; in a running state it is PENDING until a boundary. The estimator takes the oldest held cycle once its references have arrived: an equation of IAC whose reference is there projects the slot's estimates onto it and is counted, and one whose reference is not there is discarded with a count; until then, and with CAL disabled, nothing happens. It says of each of these that it completes with its own effect, exec answering the next state told, under hypotheses on the state and the operands alone: calApply, calEstimate. (R24, R375, R377, R378, R379, R380, R382, R391) -/
def Obligations.UserCalibrationAndTheEstimator : Prop :=
  -- completes: calApply
  (∀ (s : State), regsWf s → s.pwr.coreUp = true → s.get SEAL_SW_STATE = 1 → checkStaged s = none → (buses.any (fun b => s.en .metr && s.flag METR_MCFG_EN b && (s.staged (2 * b) || s.staged (2 * b + 1)))) = false → s.inRun = false → (s.logAppend 10 0 0x0C5210 (s.word 0x0C5210).toNat 2 []).1 = true →
    ∃ t, exec .calApply s = .next t ∧
      ∀ u ∈ calUnits, ∀ k ∈ List.range 4, t.word (CAL_UCFG_F_UNIT.addr u 0 + 4 * k) = s.word (CAL_UCFG_UNIT.addr u 0 + 4 * k) ∧
      t.flag CAL_UCMD_PENDING = false ∧
      t.flag ⟨ctrlAddr SRC_CAL_APPLIED.blk 0x04, 0, 0, SRC_CAL_APPLIED.s, 1⟩ = true ∧
      Logged s t) ∧
  -- completes: calApply
  (∀ (s : State), regsWf s → s.pwr.coreUp = true → s.get SEAL_SW_STATE = 1 → checkStaged s = none → (buses.any (fun b => s.en .metr && s.flag METR_MCFG_EN b && (s.staged (2 * b) || s.staged (2 * b + 1)))) = false → s.inRun = true → s.pastCut = false → (s.logAppend 10 0 0x0C5210 (s.word 0x0C5210).toNat 2 []).1 = true →
    ∃ t, exec .calApply s = .next t ∧
      t.flag CAL_UCMD_PENDING = true ∧
      t.cal = { s.cal with userLate := false } ∧
      Logged s t ∧
      ∀ u ∈ calUnits, ∀ k ∈ List.range 4, t.word (CAL_UCFG_F_UNIT.addr u 0 + 4 * k) = s.word (CAL_UCFG_F_UNIT.addr u 0 + 4 * k)) ∧
  (∀ (s : State), regsWf s → s.pwr.coreUp = true → s.get SEAL_SW_STATE ≠ 1 →
    ∃ t, exec .calApply s = .next t ∧
      t.get (CHK_REASON .cal) = 0x0C00 + SEAL_CLOSED ∧
      t.get (CHK_UNIT .cal) = 0x52 ∧
      t.get (CHK_OFFSET .cal) = 0x10 ∧
      RegsOnly s t ∧
      (∀ adr, adr ∉ (refuseRegs .cal : List Nat) → t.word adr = s.word adr)) ∧
  (∀ (s : State) (r : Nat × Nat × Nat), regsWf s → s.pwr.coreUp = true → s.get SEAL_SW_STATE = 1 → checkStaged s = some r → r.1 < 256 →
    ∃ t, exec .calApply s = .next t ∧
      t.get (CHK_REASON .cal) = 0x0C00 + r.1 ∧
      t.flag CAL_UCMD_PENDING = s.flag CAL_UCMD_PENDING ∧
      RegsOnly s t ∧
      (∀ adr, adr ∉ (refuseRegs .cal : List Nat) → t.word adr = s.word adr)) ∧
  (∀ (s : State), regsWf s → s.pwr.coreUp = true → s.get SEAL_SW_STATE = 1 → checkStaged s = none → (buses.any (fun b => s.en .metr && s.flag METR_MCFG_EN b && (s.staged (2 * b) || s.staged (2 * b + 1)))) = true →
    ∃ t, exec .calApply s = .next t ∧
      t.get (CHK_REASON .cal) = 0x0C00 + LOCKED ∧
      t.get (CHK_UNIT .cal) = 0x52 ∧
      t.get (CHK_OFFSET .cal) = 0x10 ∧
      RegsOnly s t ∧
      (∀ adr, adr ∉ (refuseRegs .cal : List Nat) → t.word adr = s.word adr)) ∧
  -- completes: calEstimate
  (∀ (s : State) (stamp : Nat) (i : Fin 192) (j : Nat) (v : Int) (rest : List CalSnap), regsWf s → s.pwr.coreUp = true → s.cal.snaps = ⟨stamp, [(i.val, j, v, true)], []⟩ :: rest → s.en .cal = true → s.pastCut = false → j < s.phases → s.dsmOn (ICONV + j) = false →
    ∃ t, exec .calEstimate s = .next t ∧
      t.cal = { s.cal with snaps := rest } ∧
      t.get CAL_ESTAT_REJ = min 65535 (s.get CAL_ESTAT_REJ + 1) ∧
      t = { s with regs := t.regs, cal := t.cal } ∧
      (∀ adr, adr ∉ ([CAL_ESTAT_REJ.base] : List Nat) → t.word adr = s.word adr)) ∧
  -- completes: calEstimate
  (∀ (s : State) (stamp : Nat) (i : Fin 192) (j : Nat) (v : Int) (rest : List CalSnap) (q : Int), regsWf s → s.pwr.coreUp = true → s.cal.snaps = ⟨stamp, [(i.val, j, v, true)], []⟩ :: rest → s.en .cal = true → s.pastCut = false → j < s.phases → s.calArrived stamp (ICONV + j) = true → s.calRef (ICONV + j) stamp = some q → s.flag CAL_EST_EN_IAC = true →
    ∃ t, exec .calEstimate s = .next t ∧
      t.cal = { s.cal with snaps := rest, slots := s.cal.slots.set i.val { s.calSlot i.val with est := (s.calSlot i.val).est.set 0 (clampInt (-trimBound) trimBound (((s.calSlot i.val).est.getD 0 (0, 0)).1 + rdiv ((((perUnit q s.ipk - v) * 1000000 * ppm - (((s.calSlot i.val).est.getD 0 (0, 0)).1 * v + ((s.calSlot i.val).est.getD 0 (0, 0)).2 * one)) * s.get CAL_EST_MU) * v) ((v * v + one * one) * 2 ^ 16)), clampInt (-trimBound) trimBound (((s.calSlot i.val).est.getD 0 (0, 0)).2 + rdiv ((((perUnit q s.ipk - v) * 1000000 * ppm - (((s.calSlot i.val).est.getD 0 (0, 0)).1 * v + ((s.calSlot i.val).est.getD 0 (0, 0)).2 * one)) * s.get CAL_EST_MU) * one) ((v * v + one * one) * 2 ^ 16))), tgt := (s.calSlot i.val).tgt.set 0 (clampInt (-trimBound) trimBound (((s.calSlot i.val).est.getD 0 (0, 0)).1 + rdiv ((((perUnit q s.ipk - v) * 1000000 * ppm - (((s.calSlot i.val).est.getD 0 (0, 0)).1 * v + ((s.calSlot i.val).est.getD 0 (0, 0)).2 * one)) * s.get CAL_EST_MU) * v) ((v * v + one * one) * 2 ^ 16)), clampInt (-trimBound) trimBound (((s.calSlot i.val).est.getD 0 (0, 0)).2 + rdiv ((((perUnit q s.ipk - v) * 1000000 * ppm - (((s.calSlot i.val).est.getD 0 (0, 0)).1 * v + ((s.calSlot i.val).est.getD 0 (0, 0)).2 * one)) * s.get CAL_EST_MU) * one) ((v * v + one * one) * 2 ^ 16))), spanI := widen (s.calSlot i.val).spanI (perUnit q s.ipk) } } ∧
      t.get CAL_ESTAT_ACC = min 65535 (s.get CAL_ESTAT_ACC + 1) ∧
      t.get CAL_T_STAT_NEQ i.val = min 65535 (s.get CAL_T_STAT_NEQ i.val + 1) ∧
      t = { s with regs := t.regs, cal := t.cal, pwr := { s.pwr with holdCopy := t.pwr.holdCopy }, cap := { s.cap with force := t.cap.force } } ∧
      (∀ adr, adr ∉ (CAL_ESTAT_ACC.base :: CAL_T_STAT_NEQ.addr i.val 0 :: evtRegs SRC_CAL_TRIM_LIMIT.blk SRC_CAL_TRIM_LIMIT.s : List Nat) → t.word adr = s.word adr)) ∧
  (∀ (s : State), s.pwr.coreUp = true → (s.cal.snaps = [] ∨ s.en .cal = false) →
    ∃ t, exec .calEstimate s = .next t ∧
      t = s) ∧
  (∀ (s : State) (c : CalSnap) (rest : List CalSnap), s.pwr.coreUp = true → s.cal.snaps = c :: rest → (s.calChannels c).any (fun n => s.dsmOn n && decide ((s.dsmSt n).fine = [])) = true →
    ∃ t, exec .calEstimate s = .next t ∧
      t = s)

/-- ARM in IDLE, or in DONE with nothing left to send, arms the capture with its counters at 0 and, in single mode, its header in the region; otherwise it is refused with STATE, and a stream that the link cannot carry with 0x0F20. FORCE fires at the next tick. STOP ends a capture with cause 3 at once when no tick waits, else when the ticks are stored. A tick falls at the next multiple of PER and takes the force with it. A record whose values can be formed is stored at its place with its codes and counted. A due START or END packet leaves with the capture header; the packet of a stream carries K records. It says of each of these that it completes with its own effect, exec answering the next state told, under hypotheses on the state and the operands alone: capArm, capForce, capStop, capTick, capRecordAssemble, capPacketSend, capEndPacket. (R408, R409, R410, R411, R412, R413, R416) -/
def Obligations.TheCaptureIsArmedRunsAndEnds : Prop :=
  -- completes: capArm
  (∀ (s : State), regsWf s → s.pwr.coreUp = true → s.en .cap = true → s.capStream = false → (s.capState = CAP_IDLE ∨ (s.capState = CAP_DONE ∧ s.cap.endDue = false)) →
    ∃ t, exec .capArm s = .next t ∧
      t.capState = CAP_ARMED ∧
      t.get CAP_STAT_END_CAUSE = 0 ∧
      t.get CAP_STAT_FILL_MAX = 0 ∧
      t.get CAP_RECORDS_N = 0 ∧
      t.get64 CAP_TRIG_TAI_TAI = 0 ∧
      t.cap.pend = [] ∧
      t.cap.stored = 0 ∧
      t.cap.trig = none ∧
      (∀ adr, (adr < s.capBase ∨ s.capBase + 128 ≤ adr) → t.byte adr = s.byte adr) ∧
      t = { s with regs := t.regs, cap := t.cap, mem := t.mem, poison := t.poison } ∧
      (∀ adr, adr ∉ ([CAP_STAT_STATE.base, CAP_RECORDS_N.base, CAP_TRIG_TAI_TAI.base, CAP_TRIG_TAI_TAI.base + 4, CAP_TRIG_FRAC_FRAC.base] : List Nat) → t.word adr = s.word adr)) ∧
  -- completes: capArm
  (∀ (s : State), regsWf s → s.pwr.coreUp = true → s.en .cap = true → s.follows = false → s.capStream = true → (s.capState = CAP_IDLE ∨ (s.capState = CAP_DONE ∧ s.cap.endDue = false)) → s.linkTooSlow = false → s.macSends false = true →
    ∃ t, exec .capArm s = .next t ∧
      t.capState = CAP_ARMED ∧
      t.get CAP_STAT_END_CAUSE = 0 ∧
      t.get CAP_RECORDS_N = 0 ∧
      t.cap.startDue = false ∧
      t.cap.seq = 1 ∧
      t = { s with regs := t.regs, cap := t.cap } ∧
      (∀ adr, adr ∉ ([CAP_STAT_STATE.base, CAP_RECORDS_N.base, CAP_TRIG_TAI_TAI.base, CAP_TRIG_TAI_TAI.base + 4, CAP_TRIG_FRAC_FRAC.base, CAP_SEQ_SEQ.base] : List Nat) → t.word adr = s.word adr)) ∧
  (∀ (s : State), regsWf s → s.pwr.coreUp = true → (s.en .cap = false ∨ (s.follows && s.capStream) = true ∨ (s.capState ≠ CAP_IDLE ∧ (s.capState ≠ CAP_DONE ∨ s.cap.endDue = true))) →
    ∃ t, exec .capArm s = .next t ∧
      t.get (CHK_REASON .cap) = 0x0F0A ∧
      t.get (CHK_UNIT .cap) = 2 ∧
      t.get (CHK_OFFSET .cap) = 0x24 ∧
      RegsOnly s t ∧
      (∀ adr, adr ∉ (refuseRegs .cap : List Nat) → t.word adr = s.word adr)) ∧
  (∀ (s : State), regsWf s → s.pwr.coreUp = true → s.en .cap = true → s.follows = false → s.capStream = true → s.capState = CAP_IDLE → s.linkTooSlow = true →
    ∃ t, exec .capArm s = .next t ∧
      t.get (CHK_REASON .cap) = 0x0F20 ∧
      t.get (CHK_UNIT .cap) = 2 ∧
      t.get (CHK_OFFSET .cap) = 0x24 ∧
      RegsOnly s t ∧
      (∀ adr, adr ∉ (refuseRegs .cap : List Nat) → t.word adr = s.word adr)) ∧
  -- completes: capForce
  (∀ (s : State), regsWf s → s.pwr.coreUp = true → s.en .cap = true → (s.follows && s.capStream) = false → s.capState = CAP_ARMED →
    ∃ t, exec .capForce s = .next t ∧
      t.cap = { s.cap with force := true } ∧
      t = { s with cap := t.cap }) ∧
  (∀ (s : State), regsWf s → s.pwr.coreUp = true → (s.en .cap = false ∨ (s.follows && s.capStream) = true ∨ s.capState ≠ CAP_ARMED) →
    ∃ t, exec .capForce s = .next t ∧
      t.get (CHK_REASON .cap) = 0x0F0A ∧
      t.get (CHK_UNIT .cap) = 2 ∧
      t.get (CHK_OFFSET .cap) = 0x24 ∧
      RegsOnly s t ∧
      (∀ adr, adr ∉ (refuseRegs .cap : List Nat) → t.word adr = s.word adr)) ∧
  -- completes: capStop
  (∀ (s : State), regsWf s → s.pwr.coreUp = true → s.en .cap = true → (s.follows && s.capStream) = false → s.capLive = true → s.cap.pend = [] →
    ∃ t, exec .capStop s = .next t ∧
      t.capState = CAP_DONE ∧
      t.flag ⟨ctrlAddr SRC_CAP_DONE.blk 0x04, 0, 0, SRC_CAP_DONE.s, 1⟩ = true ∧
      t.cap.pend = [] ∧
      t.cap.endDue = s.capStream ∧
      t.get CAP_STAT_END_CAUSE = 3 ∧
      (∀ adr, (adr < s.capBase ∨ s.capBase + 128 ≤ adr) → t.byte adr = s.byte adr) ∧
      t = { s with regs := t.regs, cap := t.cap, mem := t.mem, poison := t.poison, pwr := { s.pwr with holdCopy := t.pwr.holdCopy } } ∧
      (∀ adr, adr ∉ (CAP_STAT_STATE.base :: evtRegs SRC_CAP_DONE.blk SRC_CAP_DONE.s : List Nat) → t.word adr = s.word adr)) ∧
  -- completes: capStop
  (∀ (s : State), regsWf s → s.pwr.coreUp = true → s.en .cap = true → (s.follows && s.capStream) = false → s.capLive = true → s.cap.pend ≠ [] → s.cap.ending = 0 →
    ∃ t, exec .capStop s = .next t ∧
      t.cap = { s.cap with ending := 3 } ∧
      t = { s with cap := t.cap }) ∧
  (∀ (s : State), regsWf s → s.pwr.coreUp = true → (s.en .cap = false ∨ (s.follows && s.capStream) = true ∨ s.capLive = false) →
    ∃ t, exec .capStop s = .next t ∧
      t.get (CHK_REASON .cap) = 0x0F0A ∧
      t.get (CHK_UNIT .cap) = 2 ∧
      t.get (CHK_OFFSET .cap) = 0x24 ∧
      RegsOnly s t ∧
      (∀ adr, adr ∉ (refuseRegs .cap : List Nat) → t.word adr = s.word adr)) ∧
  -- completes: capTick
  (∀ (s : State), regsWf s → s.pwr.coreUp = true → s.en .cap = true → s.capLive = true → s.cap.ending = 0 →
    ∃ t, exec .capTick s = .next t ∧
      t.now = max s.now (if s.cap.ticks = 0 then (s.now + s.get CAP_PER_PER - 1) / s.get CAP_PER_PER * s.get CAP_PER_PER else s.cap.first + s.cap.ticks * s.get CAP_PER_PER) ∧
      t.cap = { s.cap with first := if s.cap.ticks = 0 then (if s.cap.ticks = 0 then (s.now + s.get CAP_PER_PER - 1) / s.get CAP_PER_PER * s.get CAP_PER_PER else s.cap.first + s.cap.ticks * s.get CAP_PER_PER) else s.cap.first, ticks := s.cap.ticks + 1, pend := s.cap.pend ++ [((if s.cap.ticks = 0 then (s.now + s.get CAP_PER_PER - 1) / s.get CAP_PER_PER * s.get CAP_PER_PER else s.cap.first + s.cap.ticks * s.get CAP_PER_PER), s.cap.force)], force := false } ∧
      t = { s with cap := t.cap, time := t.time, pwr := t.pwr }) ∧
  (∀ (s : State), s.pwr.coreUp = true → (s.en .cap = false ∨ s.capLive = false ∨ s.cap.ending ≠ 0) →
    ∃ t, exec .capTick s = .next t ∧
      t = s) ∧
  -- completes: capRecordAssemble
  (∀ (s : State) (i : Nat) (fire : Bool) (rest : List (Nat × Bool)), regsWf s → s.pwr.coreUp = true → s.cap.pend = (i, fire) :: rest → s.en .cap = true → s.capLive = true → s.capStream = false → s.capState = CAP_ARMED → s.get CAP_CFG_TRIG ≠ 0 → fire = false → s.cap.trig = none → s.cap.ending = 0 → 0 < s.get CAP_CFG_N_SIG → s.get CAP_CFG_N_SIG ≤ 64 → s.get CAP_REGION_LEN * 4096 ≥ 128 + 64 * 4 → (List.range (s.get CAP_CFG_N_SIG)).all (fun k => s.capReady i k) = true → memWf s →
    ∃ t, exec .capRecordAssemble s = .next t ∧
      t.cap.stored = s.cap.stored + 1 ∧
      t.cap.pend = rest ∧
      t.get CAP_RECORDS_N = (s.cap.stored + 1) % 2 ^ CAP_RECORDS_N.w ∧
      t.capState = CAP_ARMED ∧
      t.bytes (s.recAddr s.cap.stored) s.recSize = ((List.range (s.get CAP_CFG_N_SIG)).map (fun k => s.capValue i k)).flatMap (fun v => leBytes s.valSize (capCode (s.flag CAP_CFG_WIDTH) v)) ∧
      (∀ adr, (adr < s.capBase ∨ s.capBase + (s.get CAP_REGION_LEN * 4096) ≤ adr) → t.byte adr = s.byte adr) ∧
      t = { s with regs := t.regs, cap := t.cap, mem := t.mem, poison := t.poison } ∧
      (∀ adr, adr ∉ ([CAP_RECORDS_N.base, CAP_STAT_STATE.base] : List Nat) → t.word adr = s.word adr)) ∧
  (∀ (s : State), s.pwr.coreUp = true → s.cap.pend = [] →
    ∃ t, exec .capRecordAssemble s = .next t ∧
      t = s) ∧
  -- completes: capPacketSend
  (∀ (s : State), regsWf s → s.pwr.coreUp = true → s.en .cap = true → s.capStream = true → s.cap.startDue = true → s.macSends false = true →
    ∃ t, exec .capPacketSend s = .next t ∧
      t.cap.startDue = false ∧
      t.cap.seq = s.cap.seq + 1 ∧
      t.cap.packet.take 14 = s.capL2 ∧
      t.cap.packet.drop 38 = s.capHeader ∧
      t.cap.sent = s.cap.sent ∧
      t = { s with regs := t.regs, cap := t.cap } ∧
      (∀ adr, adr ∉ ([CAP_SEQ_SEQ.base] : List Nat) → t.word adr = s.word adr)) ∧
  -- completes: capPacketSend
  (∀ (s : State), regsWf s → s.pwr.coreUp = true → s.en .cap = true → s.capStream = true → s.cap.startDue = false → s.perPacket ≤ s.cap.stored - s.cap.sent → s.poison = [] → s.macSends false = true →
    ∃ t, exec .capPacketSend s = .next t ∧
      t.cap.sent = s.cap.sent + s.perPacket ∧
      t.cap.seq = s.cap.seq + 1 ∧
      t.cap.packet.drop 38 = (List.range s.perPacket).flatMap (fun k => s.bytes (s.recAddr (s.cap.sent + k)) s.recSize) ∧
      t = { s with regs := t.regs, cap := t.cap } ∧
      (∀ adr, adr ∉ ([CAP_SEQ_SEQ.base] : List Nat) → t.word adr = s.word adr)) ∧
  (∀ (s : State), s.pwr.coreUp = true → (s.en .cap = false ∨ s.capStream = false ∨ s.macSends false = false) →
    ∃ t, exec .capPacketSend s = .next t ∧
      t = s) ∧
  -- completes: capEndPacket
  (∀ (s : State), regsWf s → s.pwr.coreUp = true → s.en .cap = true → s.cap.endDue = true → s.cap.startDue = false → s.cap.sent = s.cap.stored → s.macSends false = true →
    ∃ t, exec .capEndPacket s = .next t ∧
      t.cap.endDue = false ∧
      t.cap.seq = s.cap.seq + 1 ∧
      t.cap.packet.take 14 = s.capL2 ∧
      t.cap.packet.drop 38 = s.capHeader ∧
      t = { s with regs := t.regs, cap := t.cap } ∧
      (∀ adr, adr ∉ ([CAP_SEQ_SEQ.base] : List Nat) → t.word adr = s.word adr)) ∧
  (∀ (s : State), s.pwr.coreUp = true → (s.en .cap = false ∨ s.cap.endDue = false ∨ s.cap.startDue = true ∨ s.cap.sent ≠ s.cap.stored) →
    ∃ t, exec .capEndPacket s = .next t ∧
      t = s)

/-- A pause frame on ETH0 holds transmission for its quanta; when the time has run out PAUSED clears and the time held is counted in microseconds. A received frame that is damaged or of a wrong length counts as an error with RX_ERR; a pause frame on ETH0 holds, PTP frames are left to their commands, and every other frame is discarded and counted. A poll shows the link of the PHY's register 1, with LINK_DOWN when it is lost. A management write or read stores its fields and shows BUSY, or is refused with STATE while one is in progress; its completion clears BUSY, and a read's result is shown. It says of each of these that it completes with its own effect, exec answering the next state told, under hypotheses on the state and the operands alone: pauseRx, pauseEnd, ethRx, mdioPoll, mdioWrite, mdioRead, mdioDone. (R413, R538, R539, R552) -/
def Obligations.TheEthernetPortsReceiveAndManage : Prop :=
  -- completes: pauseRx
  (∀ (s : State) (q : BitVec 16), regsWf s → s.pwr.coreUp = true → s.en .eth = true → s.flag ETH_MCFG_MAC_EN = true →
    ∃ t, exec (.pauseRx q) s = .next t ∧
      t.eth = { s.eth with pause := some ((match s.eth.pause with | some (a, _) => a | none => s.now), s.now + (q.toNat * (if s.flag ETH_MCFG_SPEED then 512 else 5120))) } ∧
      t.flag ETH_MSTAT_PAUSED = true ∧
      t = { s with regs := t.regs, eth := t.eth } ∧
      (∀ adr, adr ∉ ([ETH_MSTAT_PAUSED.base] : List Nat) → t.word adr = s.word adr)) ∧
  (∀ (s : State) (q : BitVec 16), s.pwr.coreUp = true → (s.en .eth = false ∨ s.flag ETH_MCFG_MAC_EN = false) →
    ∃ t, exec (.pauseRx q) s = .next t ∧
      t = s) ∧
  -- completes: pauseEnd
  (∀ (s : State) (x : Nat × Nat), regsWf s → s.pwr.coreUp = true → s.eth.pause = some x →
    ∃ t, exec .pauseEnd s = .next t ∧
      t.eth = { s.eth with pause := none, held := s.eth.held + (x.2 - x.1) } ∧
      t.flag ETH_MSTAT_PAUSED = false ∧
      t.get ETH_MCNT2_PAUSE_US = min 0xFFFFFFFF ((s.eth.held + (x.2 - x.1)) / 1000) ∧
      t.now = max s.now x.2 ∧
      t = { s with regs := t.regs, eth := t.eth, time := t.time, pwr := t.pwr } ∧
      (∀ adr, adr ∉ ([ETH_MSTAT_PAUSED.base, ETH_MCNT2_PAUSE_US.base] : List Nat) → t.word adr = s.word adr)) ∧
  (∀ (s : State), s.pwr.coreUp = true → s.eth.pause = none →
    ∃ t, exec .pauseEnd s = .next t ∧
      t = s) ∧
  -- completes: ethRx
  (∀ (s : State) (ok : Bool) (p : Bool) (f : List (BitVec 8)), regsWf s → s.pwr.coreUp = true → s.en .eth = true → s.flag ETH_MCFG_MAC_EN (b2n p) = true → (ok = false ∨ f.length < 60 ∨ 1518 < f.length) →
    ∃ t, exec (.ethRx p ok f) s = .next t ∧
      t.get ETH_MCNT_RX_ERR (b2n p) = satInc (2 ^ ETH_MCNT_RX_ERR.w - 1) (s.get ETH_MCNT_RX_ERR (b2n p)) ∧
      t.flag ⟨ctrlAddr SRC_ETH_RX_ERR.blk 0x04, 0, 0, SRC_ETH_RX_ERR.s, 1⟩ = true ∧
      RegsHold s t ∧
      (∀ adr, adr ∉ (ETH_MCNT_RX_ERR.addr (b2n p) 0 :: evtRegs SRC_ETH_RX_ERR.blk SRC_ETH_RX_ERR.s : List Nat) → t.word adr = s.word adr)) ∧
  -- completes: ethRx
  (∀ (s : State) (p : Bool) (f : List (BitVec 8)), regsWf s → s.pwr.coreUp = true → s.en .eth = true → s.flag ETH_MCFG_MAC_EN (b2n p) = true → 60 ≤ f.length → f.length ≤ 1518 → beNat (slice f 12 2) = 0x8808 → beNat (slice f 14 2) = 1 → p = false →
    ∃ t, exec (.ethRx p true f) s = .next t ∧
      t.flag ETH_MSTAT_PAUSED = true ∧
      t.eth = { s.eth with pause := some ((match s.eth.pause with | some (a, _) => a | none => s.now), s.now + beNat (slice f 16 2) * (if s.flag ETH_MCFG_SPEED then 512 else 5120)) } ∧
      t = { s with regs := t.regs, eth := t.eth } ∧
      (∀ adr, adr ∉ ([ETH_MSTAT_PAUSED.base] : List Nat) → t.word adr = s.word adr)) ∧
  (∀ (s : State) (p : Bool) (f : List (BitVec 8)), s.pwr.coreUp = true → s.en .eth = true → s.flag ETH_MCFG_MAC_EN (b2n p) = true → 60 ≤ f.length → f.length ≤ 1518 → (beNat (slice f 12 2) ≠ 0x8808 ∨ beNat (slice f 14 2) ≠ 1 ∨ p = true) → s.ptpFrame f = true →
    ∃ t, exec (.ethRx p true f) s = .next t ∧
      t = s) ∧
  -- completes: ethRx
  (∀ (s : State) (p : Bool) (f : List (BitVec 8)), regsWf s → s.pwr.coreUp = true → s.en .eth = true → s.flag ETH_MCFG_MAC_EN (b2n p) = true → 60 ≤ f.length → f.length ≤ 1518 → (beNat (slice f 12 2) ≠ 0x8808 ∨ beNat (slice f 14 2) ≠ 1 ∨ p = true) → s.ptpFrame f = false →
    ∃ t, exec (.ethRx p true f) s = .next t ∧
      t.get ETH_MCNT_RX_DISCARD (b2n p) = satInc (2 ^ ETH_MCNT_RX_DISCARD.w - 1) (s.get ETH_MCNT_RX_DISCARD (b2n p)) ∧
      RegsOnly s t ∧
      (∀ adr, adr ∉ ([ETH_MCNT_RX_DISCARD.addr (b2n p) 0] : List Nat) → t.word adr = s.word adr)) ∧
  (∀ (s : State) (ok : Bool) (p : Bool) (f : List (BitVec 8)), s.pwr.coreUp = true → (s.en .eth = false ∨ s.flag ETH_MCFG_MAC_EN (b2n p) = false) →
    ∃ t, exec (.ethRx p ok f) s = .next t ∧
      t = s) ∧
  -- completes: mdioPoll
  (∀ (s : State) (p : Bool) (r : BitVec 16), regsWf s → s.pwr.coreUp = true → s.en .eth = true → s.flag ETH_MCFG_MAC_EN (b2n p) = true → s.flag ETH_MCFG_POLL_EN (b2n p) = true → bitOf r.toNat 2 = true →
    ∃ t, exec (.mdioPoll p r) s = .next t ∧
      t.flag ETH_MSTAT_LINK (b2n p) = true ∧
      RegsOnly s t ∧
      (∀ adr, adr ∉ ([ETH_MSTAT_LINK.addr (b2n p) 0] : List Nat) → t.word adr = s.word adr)) ∧
  -- completes: mdioPoll
  (∀ (s : State) (p : Bool) (r : BitVec 16), regsWf s → s.pwr.coreUp = true → s.en .eth = true → s.flag ETH_MCFG_MAC_EN (b2n p) = true → s.flag ETH_MCFG_POLL_EN (b2n p) = true → bitOf r.toNat 2 = false → s.flag ETH_MSTAT_LINK (b2n p) = true →
    ∃ t, exec (.mdioPoll p r) s = .next t ∧
      t.flag ETH_MSTAT_LINK (b2n p) = false ∧
      t.flag ⟨ctrlAddr SRC_ETH_LINK_DOWN.blk 0x04, 0, 0, SRC_ETH_LINK_DOWN.s, 1⟩ = true ∧
      RegsHold s t ∧
      (∀ adr, adr ∉ (ETH_MSTAT_LINK.addr (b2n p) 0 :: evtRegs SRC_ETH_LINK_DOWN.blk SRC_ETH_LINK_DOWN.s : List Nat) → t.word adr = s.word adr)) ∧
  (∀ (s : State) (p : Bool) (r : BitVec 16), s.pwr.coreUp = true → (s.en .eth && s.flag ETH_MCFG_MAC_EN (b2n p) && s.flag ETH_MCFG_POLL_EN (b2n p)) = false →
    ∃ t, exec (.mdioPoll p r) s = .next t ∧
      t = s) ∧
  -- completes: mdioWrite
  (∀ (s : State) (a : BitVec 5) (r : BitVec 5) (d : BitVec 16), regsWf s → s.pwr.coreUp = true → s.flag ETH_MDIO_STAT_BUSY = false →
    ∃ t, exec (.mdioWrite a r d) s = .next t ∧
      t.flag ETH_MDIO_STAT_BUSY = true ∧
      t.get ETH_MDIO_PHY = a.toNat ∧
      t.get ETH_MDIO_REG = r.toNat ∧
      t.get ETH_MDIO_DATA = d.toNat ∧
      t.eth = { s.eth with mdio := (1, a.toNat, r.toNat, d.toNat) } ∧
      t = { s with regs := t.regs, eth := t.eth } ∧
      (∀ adr, adr ∉ ([ETH_MDIO_PHY.base, ETH_MDIO_STAT_BUSY.base] : List Nat) → t.word adr = s.word adr)) ∧
  (∀ (s : State) (a : BitVec 5) (r : BitVec 5) (d : BitVec 16), regsWf s → s.pwr.coreUp = true → s.flag ETH_MDIO_STAT_BUSY = true →
    ∃ t, exec (.mdioWrite a r d) s = .next t ∧
      t.get (CHK_REASON .eth) = 0x180A ∧
      t.get (CHK_UNIT .eth) = 0x11 ∧
      t.get (CHK_OFFSET .eth) = 0 ∧
      RegsOnly s t ∧
      (∀ adr, adr ∉ (ETH_MDIO_PHY.base :: refuseRegs .eth : List Nat) → t.word adr = s.word adr)) ∧
  -- completes: mdioRead
  (∀ (s : State) (a : BitVec 5) (r : BitVec 5), regsWf s → s.pwr.coreUp = true → s.flag ETH_MDIO_STAT_BUSY = false →
    ∃ t, exec (.mdioRead a r) s = .next t ∧
      t.flag ETH_MDIO_STAT_BUSY = true ∧
      t.get ETH_MDIO_PHY = a.toNat ∧
      t.get ETH_MDIO_REG = r.toNat ∧
      t.eth = { s.eth with mdio := (2, a.toNat, r.toNat, s.get ETH_MDIO_DATA) } ∧
      t = { s with regs := t.regs, eth := t.eth } ∧
      (∀ adr, adr ∉ ([ETH_MDIO_PHY.base, ETH_MDIO_STAT_BUSY.base] : List Nat) → t.word adr = s.word adr)) ∧
  (∀ (s : State) (a : BitVec 5) (r : BitVec 5), regsWf s → s.pwr.coreUp = true → s.flag ETH_MDIO_STAT_BUSY = true →
    ∃ t, exec (.mdioRead a r) s = .next t ∧
      t.get (CHK_REASON .eth) = 0x180A ∧
      t.get (CHK_UNIT .eth) = 0x11 ∧
      t.get (CHK_OFFSET .eth) = 0 ∧
      RegsOnly s t ∧
      (∀ adr, adr ∉ (ETH_MDIO_PHY.base :: refuseRegs .eth : List Nat) → t.word adr = s.word adr)) ∧
  -- completes: mdioDone
  (∀ (s : State) (d : BitVec 16), regsWf s → s.pwr.coreUp = true → s.flag ETH_MDIO_STAT_BUSY = true → s.eth.mdio.1 = 2 →
    ∃ t, exec (.mdioDone d) s = .next t ∧
      t.flag ETH_MDIO_STAT_BUSY = false ∧
      t.get ETH_MDIO_STAT_DATA = d.toNat ∧
      RegsOnly s t ∧
      (∀ adr, adr ∉ ([ETH_MDIO_STAT_BUSY.base] : List Nat) → t.word adr = s.word adr)) ∧
  -- completes: mdioDone
  (∀ (s : State) (d : BitVec 16), regsWf s → s.pwr.coreUp = true → s.flag ETH_MDIO_STAT_BUSY = true → s.eth.mdio.1 ≠ 2 →
    ∃ t, exec (.mdioDone d) s = .next t ∧
      t.flag ETH_MDIO_STAT_BUSY = false ∧
      t.get ETH_MDIO_STAT_DATA = s.get ETH_MDIO_STAT_DATA ∧
      RegsOnly s t ∧
      (∀ adr, adr ∉ ([ETH_MDIO_STAT_BUSY.base] : List Nat) → t.word adr = s.word adr)) ∧
  (∀ (s : State) (d : BitVec 16), s.pwr.coreUp = true → s.flag ETH_MDIO_STAT_BUSY = false →
    ∃ t, exec (.mdioDone d) s = .next t ∧
      t = s)

/-- With PART enabled and a lane in lock a heartbeat goes out with the next sequence number. A heartbeat that fails its CRC or length changes nothing; a good one shows the partner with its role and the time offset. A device in SEEKING becomes STANDBY or NOT_READY beside an active partner, by its readiness, and otherwise ACTIVE if it is the home device. Of two active devices the home device stays and the other leaves with DUAL_ACTIVE and cause 5. An active device takes over a standby partner's SGR and its request of a hand-back; a standby device plans a takeover when the partner's clock is lost. A lost partner is an event: STANDBY plans a takeover, NOT_READY seeks. A lane's lock shows and readiness is judged. PAIR_WAIT makes a lone or a home device ACTIVE. It says of each of these that it completes with its own effect, exec answering the next state told, under hypotheses on the state and the operands alone: heartbeatSend, heartbeatRx, partnerLost, partnerLaneLockChange, pairWaitExpiry. (R464, R512, R513, R514, R515, R518, R522, R523, R524) -/
def Obligations.RolesFollowTheHeartbeats : Prop :=
  -- completes: heartbeatSend
  (∀ (s : State), regsWf s → s.pwr.coreUp = true → s.en .part = true → s.get PART_STAT_LANES ≠ 0 → s.flag CLK_PLL_STAT_LOCKED 1 = true →
    ∃ t, exec .heartbeatSend s = .next t ∧
      t.part = { s.part with seq := (s.part.seq + 1) % 65536, beat := s.heartbeatFrame } ∧
      t = { s with part := t.part }) ∧
  (∀ (s : State), s.pwr.coreUp = true → (s.en .part = false ∨ s.get PART_STAT_LANES = 0 ∨ s.flag CLK_PLL_STAT_LOCKED 1 = false) →
    ∃ t, exec .heartbeatSend s = .next t ∧
      t = s) ∧
  (∀ (s : State) (f : List (BitVec 8)) (at' : Nat), s.pwr.coreUp = true → (s.en .part = false ∨ f.length ≠ 16 ∨ (crc16 (f.take 14)).toNat ≠ leAt f 14 2) →
    ∃ t, exec (.heartbeatRx f at') s = .next t ∧
      t = s) ∧
  -- completes: heartbeatRx
  (∀ (s : State) (f : List (BitVec 8)) (at' : Nat), regsWf s → s.pwr.coreUp = true → s.en .part = true → f.length = 16 → (crc16 (f.take 14)).toNat = leAt f 14 2 → s.role = SEEKING → (byteAt f 0 % 8) = ACTIVE →
    ∃ t, exec (.heartbeatRx f at') s = .next t ∧
      t.flag PART_STAT_PARTNER = true ∧
      t.get PART_STAT_PARTNER_ROLE = (byteAt f 0 % 8) ∧
      t.geti PART_TOFS_TOFS = clampInt (-(2 ^ 31)) (2 ^ 31 - 1) ((at' : Int) - leAt f 4 8 - 36 - s.get PART_LINK_LINK_DLY) ∧
      t.get PART_STAT_ROLE = (if t.get PART_STAT_NR_CAUSE = 0 then STANDBY else NOT_READY) ∧
      t.part = { s.part with take := none, swap := none, want := false } ∧
      t = { s with regs := t.regs, part := t.part, pwr := { s.pwr with holdCopy := t.pwr.holdCopy }, cap := { s.cap with force := t.cap.force } } ∧
      (∀ adr, adr ∉ ([PART_STAT_ROLE.base, PART_TOFS_TOFS.base, SYS_PWR_STATE_STATE.base, PART_LAST_TAI_TAI.base, PART_LAST_TAI_TAI.base + 4] ++ evtRegs SRC_PART_NOT_READY.blk SRC_PART_NOT_READY.s : List Nat) → t.word adr = s.word adr)) ∧
  -- completes: heartbeatRx
  (∀ (s : State) (f : List (BitVec 8)) (at' : Nat), regsWf s → s.pwr.coreUp = true → s.en .part = true → f.length = 16 → (crc16 (f.take 14)).toNat = leAt f 14 2 → s.role = SEEKING → (byteAt f 0 % 8) ≠ ACTIVE → s.home = true →
    ∃ t, exec (.heartbeatRx f at') s = .next t ∧
      t.flag PART_STAT_PARTNER = true ∧
      t.get PART_STAT_PARTNER_ROLE = (byteAt f 0 % 8) ∧
      t.geti PART_TOFS_TOFS = clampInt (-(2 ^ 31)) (2 ^ 31 - 1) ((at' : Int) - leAt f 4 8 - 36 - s.get PART_LINK_LINK_DLY) ∧
      t.role = ACTIVE ∧
      t.part = { s.part with take := none, swap := none, want := false } ∧
      t = { s with regs := t.regs, part := t.part } ∧
      (∀ adr, adr ∉ ([PART_STAT_ROLE.base, PART_TOFS_TOFS.base, SYS_PWR_STATE_STATE.base, PART_LAST_TAI_TAI.base, PART_LAST_TAI_TAI.base + 4] : List Nat) → t.word adr = s.word adr)) ∧
  -- completes: heartbeatRx
  (∀ (s : State) (f : List (BitVec 8)) (at' : Nat), regsWf s → s.pwr.coreUp = true → s.en .part = true → f.length = 16 → (crc16 (f.take 14)).toNat = leAt f 14 2 → s.role = SEEKING → (byteAt f 0 % 8) ≠ ACTIVE → s.home = false →
    ∃ t, exec (.heartbeatRx f at') s = .next t ∧
      t.flag PART_STAT_PARTNER = true ∧
      t.get PART_STAT_PARTNER_ROLE = (byteAt f 0 % 8) ∧
      t.geti PART_TOFS_TOFS = clampInt (-(2 ^ 31)) (2 ^ 31 - 1) ((at' : Int) - leAt f 4 8 - 36 - s.get PART_LINK_LINK_DLY) ∧
      t.role = SEEKING ∧
      RegsOnly s t ∧
      (∀ adr, adr ∉ ([PART_STAT_ROLE.base, PART_TOFS_TOFS.base] : List Nat) → t.word adr = s.word adr)) ∧
  -- completes: heartbeatRx
  (∀ (s : State) (f : List (BitVec 8)) (at' : Nat), regsWf s → s.pwr.coreUp = true → s.en .part = true → f.length = 16 → (crc16 (f.take 14)).toNat = leAt f 14 2 → s.role = ACTIVE → (byteAt f 0 % 8) = ACTIVE → bitOf (byteAt f 0) 4 = false → s.flag CLK_PLL_STAT_LOCKED 0 = true → s.home = true →
    ∃ t, exec (.heartbeatRx f at') s = .next t ∧
      t.flag PART_STAT_PARTNER = true ∧
      t.get PART_STAT_PARTNER_ROLE = (byteAt f 0 % 8) ∧
      t.geti PART_TOFS_TOFS = clampInt (-(2 ^ 31)) (2 ^ 31 - 1) ((at' : Int) - leAt f 4 8 - 36 - s.get PART_LINK_LINK_DLY) ∧
      t.role = ACTIVE ∧
      RegsOnly s t ∧
      (∀ adr, adr ∉ ([PART_STAT_ROLE.base, PART_TOFS_TOFS.base] : List Nat) → t.word adr = s.word adr)) ∧
  -- completes: heartbeatRx
  (∀ (s : State) (f : List (BitVec 8)) (at' : Nat), regsWf s → s.pwr.coreUp = true → s.en .part = true → f.length = 16 → (crc16 (f.take 14)).toNat = leAt f 14 2 → s.role = ACTIVE → (byteAt f 0 % 8) = ACTIVE → bitOf (byteAt f 0) 4 = true →
    ∃ t, exec (.heartbeatRx f at') s = .next t ∧
      t.flag PART_STAT_PARTNER = true ∧
      t.get PART_STAT_PARTNER_ROLE = (byteAt f 0 % 8) ∧
      t.geti PART_TOFS_TOFS = clampInt (-(2 ^ 31)) (2 ^ 31 - 1) ((at' : Int) - leAt f 4 8 - 36 - s.get PART_LINK_LINK_DLY) ∧
      t.role = ACTIVE ∧
      RegsOnly s t ∧
      (∀ adr, adr ∉ ([PART_STAT_ROLE.base, PART_TOFS_TOFS.base] : List Nat) → t.word adr = s.word adr)) ∧
  -- completes: heartbeatRx
  (∀ (s : State) (f : List (BitVec 8)) (at' : Nat), regsWf s → s.pwr.coreUp = true → s.en .part = true → f.length = 16 → (crc16 (f.take 14)).toNat = leAt f 14 2 → s.role = ACTIVE → (byteAt f 0 % 8) = ACTIVE → bitOf (byteAt f 0) 4 = false → s.flag CLK_PLL_STAT_LOCKED 0 = false →
    ∃ t, exec (.heartbeatRx f at') s = .next t ∧
      t.flag PART_STAT_PARTNER = true ∧
      t.get PART_STAT_PARTNER_ROLE = (byteAt f 0 % 8) ∧
      t.geti PART_TOFS_TOFS = clampInt (-(2 ^ 31)) (2 ^ 31 - 1) ((at' : Int) - leAt f 4 8 - 36 - s.get PART_LINK_LINK_DLY) ∧
      t.role = NOT_READY ∧
      t.get PART_LAST_CAUSE = 2 ∧
      t.part.energised = 0 ∧
      ∀ o ∈ coils, s.mirrored o = true → t.flag CTC_OSTAT_ENERGISED o = false) ∧
  -- completes: heartbeatRx
  (∀ (s : State) (f : List (BitVec 8)) (at' : Nat), regsWf s → s.pwr.coreUp = true → s.en .part = true → f.length = 16 → (crc16 (f.take 14)).toNat = leAt f 14 2 → s.role = ACTIVE → (byteAt f 0 % 8) = ACTIVE → bitOf (byteAt f 0) 4 = false → s.flag CLK_PLL_STAT_LOCKED 0 = true → s.home = false → s.hive.tx = [] →
    ∃ t, exec (.heartbeatRx f at') s = .next t ∧
      t.flag PART_STAT_PARTNER = true ∧
      t.get PART_STAT_PARTNER_ROLE = (byteAt f 0 % 8) ∧
      t.geti PART_TOFS_TOFS = clampInt (-(2 ^ 31)) (2 ^ 31 - 1) ((at' : Int) - leAt f 4 8 - 36 - s.get PART_LINK_LINK_DLY) ∧
      t.role = NOT_READY ∧
      t.get PART_LAST_CAUSE = 5 ∧
      t.flag ⟨ctrlAddr SRC_PART_DUAL_ACTIVE.blk 0x04, 0, 0, SRC_PART_DUAL_ACTIVE.s, 1⟩ = true ∧
      t.flag SYS_PWR_STATE_STANDBY = false ∧
      t.part.energised = 0 ∧
      ∀ o ∈ coils, s.mirrored o = true → t.flag CTC_OSTAT_ENERGISED o = false ∧
      (s.inRun = true → t.pstate = READY) ∧
      t = { s with regs := t.regs, part := t.part, form := t.form, hive := t.hive, pwr := { s.pwr with holdCopy := t.pwr.holdCopy }, cap := { s.cap with force := t.cap.force } } ∧
      (∀ adr, adr ∉ ([PART_STAT_ROLE.base, PART_TOFS_TOFS.base, SYS_PWR_STATE_STATE.base, PART_LAST_TAI_TAI.base, PART_LAST_TAI_TAI.base + 4] ++ [PART_LAST_CAUSE.base, FORM_MODE_STAT_MODE.base] ++ evtRegs SRC_PART_NOT_READY.blk SRC_PART_NOT_READY.s ++ evtRegs SRC_PART_DUAL_ACTIVE.blk SRC_PART_DUAL_ACTIVE.s ++ coils.map (fun (o : Nat) => CTC_OSTAT_ENERGISED.addr o 0) : List Nat) → t.word adr = s.word adr)) ∧
  -- completes: heartbeatRx
  (∀ (s : State) (f : List (BitVec 8)) (at' : Nat), regsWf s → s.pwr.coreUp = true → s.en .part = true → f.length = 16 → (crc16 (f.take 14)).toNat = leAt f 14 2 → s.role = ACTIVE → ((byteAt f 0 % 8) = STANDBY ∨ (byteAt f 0 % 8) = NOT_READY) → bitOf (byteAt f 0) 5 = true → bitOf (byteAt f 0) 6 = false → s.sgrActive = false →
    ∃ t, exec (.heartbeatRx f at') s = .next t ∧
      t.flag PART_STAT_PARTNER = true ∧
      t.get PART_STAT_PARTNER_ROLE = (byteAt f 0 % 8) ∧
      t.geti PART_TOFS_TOFS = clampInt (-(2 ^ 31)) (2 ^ 31 - 1) ((at' : Int) - leAt f 4 8 - 36 - s.get PART_LINK_LINK_DLY) ∧
      t.role = ACTIVE ∧
      t.sgrActive = true ∧
      t = { s with regs := t.regs, hive := t.hive, safe := t.safe, ctc := t.ctc, drive := t.drive, fes := t.fes, pwr := { s.pwr with holdCopy := t.pwr.holdCopy }, cap := { s.cap with force := t.cap.force } } ∧
      (∀ adr, adr ∉ ([PART_STAT_ROLE.base, PART_TOFS_TOFS.base] ++ sgrRegs : List Nat) → t.word adr = s.word adr)) ∧
  -- completes: heartbeatRx
  (∀ (s : State) (f : List (BitVec 8)) (at' : Nat), regsWf s → s.pwr.coreUp = true → s.en .part = true → f.length = 16 → (crc16 (f.take 14)).toNat = leAt f 14 2 → s.role = ACTIVE → (byteAt f 0 % 8) = STANDBY → bitOf (byteAt f 0) 5 = false → bitOf (byteAt f 0) 6 = true → s.sgrActive = false → s.get SAFE_FSTAT_SOD = 0 → s.get SAFE_FSTAT_SDS = 0 → s.get SAFE_FSTAT_STR = 0 → s.part.swap = none → s.pastCut = false →
    ∃ t, exec (.heartbeatRx f at') s = .next t ∧
      t.flag PART_STAT_PARTNER = true ∧
      t.get PART_STAT_PARTNER_ROLE = (byteAt f 0 % 8) ∧
      t.geti PART_TOFS_TOFS = clampInt (-(2 ^ 31)) (2 ^ 31 - 1) ((at' : Int) - leAt f 4 8 - 36 - s.get PART_LINK_LINK_DLY) ∧
      t.flag PART_STAT_HANDOVER_PEND = true ∧
      t.part = { s.part with swap := some (4, false) } ∧
      t = { s with regs := t.regs, part := t.part } ∧
      (∀ adr, adr ∉ ([PART_STAT_ROLE.base, PART_TOFS_TOFS.base] : List Nat) → t.word adr = s.word adr)) ∧
  -- completes: heartbeatRx
  (∀ (s : State) (f : List (BitVec 8)) (at' : Nat), regsWf s → s.pwr.coreUp = true → s.en .part = true → f.length = 16 → (crc16 (f.take 14)).toNat = leAt f 14 2 → s.role = STANDBY → bitOf (byteAt f 0) 4 = true → s.part.take = none → (byteAt f 0 % 8) = ACTIVE →
    ∃ t, exec (.heartbeatRx f at') s = .next t ∧
      t.flag PART_STAT_PARTNER = true ∧
      t.get PART_STAT_PARTNER_ROLE = (byteAt f 0 % 8) ∧
      t.geti PART_TOFS_TOFS = clampInt (-(2 ^ 31)) (2 ^ 31 - 1) ((at' : Int) - leAt f 4 8 - 36 - s.get PART_LINK_LINK_DLY) ∧
      t.role = STANDBY ∧
      t.part = { s.part with take := some (2, s.now) } ∧
      t = { s with regs := t.regs, part := t.part } ∧
      (∀ adr, adr ∉ ([PART_STAT_ROLE.base, PART_TOFS_TOFS.base] : List Nat) → t.word adr = s.word adr)) ∧
  -- completes: partnerLost
  (∀ (s : State), regsWf s → s.pwr.coreUp = true → s.en .part = true → s.flag PART_STAT_PARTNER = true → s.role = STANDBY → s.part.take = none →
    ∃ t, exec .partnerLost s = .next t ∧
      t.flag PART_STAT_PARTNER = false ∧
      t.role = STANDBY ∧
      t.part = { s.part with take := some (1, s.now) } ∧
      t.flag ⟨ctrlAddr SRC_PART_PARTNER_LOST.blk 0x04, 0, 0, SRC_PART_PARTNER_LOST.s, 1⟩ = true ∧
      t = { s with regs := t.regs, part := t.part, pwr := { s.pwr with holdCopy := t.pwr.holdCopy }, cap := { s.cap with force := t.cap.force } } ∧
      (∀ adr, adr ∉ (PART_STAT_ROLE.base :: evtRegs SRC_PART_PARTNER_LOST.blk SRC_PART_PARTNER_LOST.s : List Nat) → t.word adr = s.word adr)) ∧
  -- completes: partnerLost
  (∀ (s : State), regsWf s → s.pwr.coreUp = true → s.en .part = true → s.flag PART_STAT_PARTNER = true → s.role = NOT_READY →
    ∃ t, exec .partnerLost s = .next t ∧
      t.flag PART_STAT_PARTNER = false ∧
      t.role = SEEKING ∧
      t.flag ⟨ctrlAddr SRC_PART_PARTNER_LOST.blk 0x04, 0, 0, SRC_PART_PARTNER_LOST.s, 1⟩ = true ∧
      t = { s with regs := t.regs, part := t.part, ctc := t.ctc, pwr := { s.pwr with holdCopy := t.pwr.holdCopy }, cap := { s.cap with force := t.cap.force } } ∧
      (∀ adr, adr ∉ ([PART_STAT_ROLE.base, SYS_PWR_STATE_STATE.base, PART_LAST_TAI_TAI.base, PART_LAST_TAI_TAI.base + 4] ++ evtRegs SRC_PART_PARTNER_LOST.blk SRC_PART_PARTNER_LOST.s ++ coils.map (fun (o : Nat) => CTC_OSTAT_ENERGISED.addr o 0) : List Nat) → t.word adr = s.word adr)) ∧
  -- completes: partnerLost
  (∀ (s : State), regsWf s → s.pwr.coreUp = true → s.en .part = true → s.flag PART_STAT_PARTNER = true → s.role ≠ STANDBY → s.role ≠ NOT_READY →
    ∃ t, exec .partnerLost s = .next t ∧
      t.flag PART_STAT_PARTNER = false ∧
      t.flag ⟨ctrlAddr SRC_PART_PARTNER_LOST.blk 0x04, 0, 0, SRC_PART_PARTNER_LOST.s, 1⟩ = true ∧
      t.role = s.role ∧
      RegsHold s t ∧
      (∀ adr, adr ∉ (PART_STAT_ROLE.base :: evtRegs SRC_PART_PARTNER_LOST.blk SRC_PART_PARTNER_LOST.s : List Nat) → t.word adr = s.word adr)) ∧
  (∀ (s : State), s.pwr.coreUp = true → (s.en .part = false ∨ s.flag PART_STAT_PARTNER = false) →
    ∃ t, exec .partnerLost s = .next t ∧
      t = s) ∧
  -- completes: partnerLaneLockChange
  (∀ (s : State) (k : Fin 4) (on : Bool), regsWf s → s.pwr.coreUp = true → s.follows = false →
    ∃ t, exec (.partnerLaneLockChange k on) s = .next t ∧
      bitOf (t.get PART_STAT_LANES) k.val = on ∧
      RegsOnly s t ∧
      (∀ adr, adr ∉ ([PART_STAT_ROLE.base] : List Nat) → t.word adr = s.word adr)) ∧
  -- completes: partnerLaneLockChange
  (∀ (s : State) (k : Fin 4) (on : Bool), regsWf s → s.pwr.coreUp = true → s.follows = true → s.part.take = none →
    ∃ t, exec (.partnerLaneLockChange k on) s = .next t ∧
      bitOf (t.get PART_STAT_LANES) k.val = on ∧
      t.get PART_STAT_ROLE = (if t.get PART_STAT_NR_CAUSE = 0 then STANDBY else NOT_READY) ∧
      t = { s with regs := t.regs, part := t.part, pwr := { s.pwr with holdCopy := t.pwr.holdCopy }, cap := { s.cap with force := t.cap.force } } ∧
      (∀ adr, adr ∉ ([PART_STAT_ROLE.base, SYS_PWR_STATE_STATE.base, PART_LAST_TAI_TAI.base, PART_LAST_TAI_TAI.base + 4] ++ evtRegs SRC_PART_NOT_READY.blk SRC_PART_NOT_READY.s : List Nat) → t.word adr = s.word adr)) ∧
  -- completes: pairWaitExpiry
  (∀ (s : State), regsWf s → s.pwr.coreUp = true → s.en .part = true → s.role = SEEKING → (s.home = true ∨ s.flag PART_STAT_PARTNER = false) →
    ∃ t, exec .pairWaitExpiry s = .next t ∧
      t.role = ACTIVE ∧
      t.flag SYS_PWR_STATE_STANDBY = false ∧
      t.get64 PART_LAST_TAI_TAI = s.get64 SYS_CYC_START_TAI ∧
      t = { s with regs := t.regs, part := t.part } ∧
      (∀ adr, adr ∉ ([PART_STAT_ROLE.base, SYS_PWR_STATE_STATE.base, PART_LAST_TAI_TAI.base, PART_LAST_TAI_TAI.base + 4] : List Nat) → t.word adr = s.word adr)) ∧
  (∀ (s : State), s.pwr.coreUp = true → (s.en .part = false ∨ s.role ≠ SEEKING ∨ (s.home = false ∧ s.flag PART_STAT_PARTNER = true)) →
    ∃ t, exec .pairWaitExpiry s = .next t ∧
      t = s)

/-- A valid snapshot of the present cycle is kept with age 0; one that fails its CRC or names another cycle is discarded with its count and SNAP_BAD. At T_take a standby device becomes ACTIVE with the cause of the takeover, continues in the power state of the snapshot and raises SWITCHOVER; before it, nothing happens. SWITCH on an active device beside a standby partner plans the handover for the next boundary; it is refused with STATE elsewhere or while a stop stands, and with 0x1620 without a standby partner. REARM clears NO_RETURN. HOLDOFF lets the home device ask for a hand-back. It says of each of these that it completes with its own effect, exec answering the next state told, under hypotheses on the state and the operands alone: snapshotRx, takeover, partSwitch, partRearm, holdoffExpiry. (R24, R237, R516, R517, R518, R519, R521, R522, R523, R527) -/
def Obligations.ControlPassesBetweenTheDevices : Prop :=
  -- completes: snapshotRx
  (∀ (s : State) (x : Snapshot), regsWf s → s.pwr.coreUp = true → s.en .part = true → s.follows = true → s.part.take = none → s.part.adopt = false → x.cyc = s.get SYS_CYC_NUM_CYC → (s.poisoned (BANK_DP + 0x32000) 0x1300) = false →
    ∃ t, exec (.snapshotRx x true false) s = .next t ∧
      t.part.snap = some x ∧
      t.get PART_SNAP_AGE = 0 ∧
      t.part.energised = x.energised ∧
      t.get PART_STAT_ROLE = (if t.get PART_STAT_NR_CAUSE = 0 then STANDBY else NOT_READY)) ∧
  -- completes: snapshotRx
  (∀ (s : State) (x : Snapshot) (ok : Bool), regsWf s → s.pwr.coreUp = true → s.en .part = true → (s.follows || s.part.adopt) = true → (ok = false ∨ x.cyc ≠ s.get SYS_CYC_NUM_CYC) → (s.poisoned (BANK_DP + 0x32000) 0x1300) = false →
    ∃ t, exec (.snapshotRx x ok false) s = .next t ∧
      t.part.snap = s.part.snap ∧
      t.get PART_SNAP_BAD = satInc 0xFFFF (s.get PART_SNAP_BAD) ∧
      t.flag ⟨ctrlAddr SRC_PART_SNAP_BAD.blk 0x04, 0, 0, SRC_PART_SNAP_BAD.s, 1⟩ = true ∧
      t = { s with regs := t.regs, part := t.part, pwr := { s.pwr with holdCopy := t.pwr.holdCopy }, cap := { s.cap with force := t.cap.force } } ∧
      (∀ adr, adr ∉ ([PART_STAT_ROLE.base, SYS_PWR_STATE_STATE.base, PART_LAST_TAI_TAI.base, PART_LAST_TAI_TAI.base + 4] ++ evtRegs SRC_PART_NOT_READY.blk SRC_PART_NOT_READY.s ++ PART_SNAP_BAD.base :: evtRegs SRC_PART_SNAP_BAD.blk SRC_PART_SNAP_BAD.s : List Nat) → t.word adr = s.word adr)) ∧
  (∀ (s : State) (x : Snapshot) (ok : Bool) (lost : Bool), s.pwr.coreUp = true → (s.en .part = false ∨ (s.follows = false ∧ s.part.adopt = false)) →
    ∃ t, exec (.snapshotRx x ok lost) s = .next t ∧
      t = s) ∧
  -- completes: takeover
  (∀ (s : State) (c : Nat) (x : Snapshot), regsWf s → s.pwr.coreUp = true → s.en .part = true → s.role = STANDBY → s.takeDue = some (c, x) →
    ∃ t, exec .takeover s = .next t ∧
      t.role = ACTIVE ∧
      t.flag SYS_PWR_STATE_STANDBY = false ∧
      t.get PART_LAST_CAUSE = c % 16 ∧
      t.get PART_LAST_MAX_COAST = 0 ∧
      t.get PART_CNT_SWITCHOVERS = satInc 0xFFFF (s.get PART_CNT_SWITCHOVERS) ∧
      t.pstate = x.pwr % 16 ∧
      t.part.took = some (s.get SYS_CYC_NUM_CYC) ∧
      t.flag ⟨ctrlAddr SRC_PART_SWITCHOVER.blk 0x04, 0, 0, SRC_PART_SWITCHOVER.s, 1⟩ = true) ∧
  (∀ (s : State), s.pwr.coreUp = true → (s.en .part = false ∨ s.role ≠ STANDBY ∨ s.takeDue = none) →
    ∃ t, exec .takeover s = .next t ∧
      t = s) ∧
  -- completes: partSwitch
  (∀ (s : State), regsWf s → s.pwr.coreUp = true → s.en .part = true → s.role = ACTIVE → s.get PART_STAT_PARTNER_ROLE = STANDBY → s.flag PART_STAT_PARTNER = true → s.sgrActive = false → s.get SAFE_FSTAT_SOD = 0 → s.get SAFE_FSTAT_SDS = 0 → s.get SAFE_FSTAT_STR = 0 → s.part.swap = none → s.pastCut = false →
    ∃ t, exec .partSwitch s = .next t ∧
      t.flag PART_STAT_HANDOVER_PEND = true ∧
      t.part = { s.part with swap := some (3, false) } ∧
      t = { s with regs := t.regs, part := t.part } ∧
      (∀ adr, adr ∉ ([PART_STAT_ROLE.base] : List Nat) → t.word adr = s.word adr)) ∧
  (∀ (s : State), regsWf s → s.pwr.coreUp = true → s.en .part = true → s.role = ACTIVE → (s.get PART_STAT_PARTNER_ROLE ≠ STANDBY ∨ s.flag PART_STAT_PARTNER = false) →
    ∃ t, exec .partSwitch s = .next t ∧
      t.get (CHK_REASON .part) = 0x1620 ∧
      t.get (CHK_UNIT .part) = 2 ∧
      t.get (CHK_OFFSET .part) = 0 ∧
      RegsOnly s t ∧
      (∀ adr, adr ∉ (refuseRegs .part : List Nat) → t.word adr = s.word adr)) ∧
  (∀ (s : State), regsWf s → s.pwr.coreUp = true → s.en .part = true → s.role = ACTIVE → s.get PART_STAT_PARTNER_ROLE = STANDBY → s.flag PART_STAT_PARTNER = true → (s.sgrActive = true ∨ s.get SAFE_FSTAT_SOD ≠ 0 ∨ s.get SAFE_FSTAT_SDS ≠ 0 ∨ s.get SAFE_FSTAT_STR ≠ 0) →
    ∃ t, exec .partSwitch s = .next t ∧
      t.get (CHK_REASON .part) = 0x160A ∧
      t.get (CHK_UNIT .part) = 2 ∧
      t.get (CHK_OFFSET .part) = 0 ∧
      RegsOnly s t ∧
      (∀ adr, adr ∉ (refuseRegs .part : List Nat) → t.word adr = s.word adr)) ∧
  (∀ (s : State), regsWf s → s.pwr.coreUp = true → (s.en .part = false ∨ s.role ≠ ACTIVE) →
    ∃ t, exec .partSwitch s = .next t ∧
      t.get (CHK_REASON .part) = 0x160A ∧
      t.get (CHK_UNIT .part) = 2 ∧
      t.get (CHK_OFFSET .part) = 0 ∧
      RegsOnly s t ∧
      (∀ adr, adr ∉ (refuseRegs .part : List Nat) → t.word adr = s.word adr)) ∧
  -- completes: partRearm
  (∀ (s : State), regsWf s → s.pwr.coreUp = true →
    ∃ t, exec .partRearm s = .next t ∧
      t.flag PART_STAT_NO_RETURN = false ∧
      RegsOnly s t ∧
      (∀ adr, adr ∉ ([PART_STAT_ROLE.base] : List Nat) → t.word adr = s.word adr)) ∧
  -- completes: holdoffExpiry
  (∀ (s : State), regsWf s → s.pwr.coreUp = true → s.en .part = true → s.home = true → s.role = STANDBY → s.flag PART_CFG_AUTO_BACK = true → s.flag PART_STAT_NO_RETURN = false →
    ∃ t, exec .holdoffExpiry s = .next t ∧
      t.part = { s.part with want := true } ∧
      t = { s with part := t.part }) ∧
  (∀ (s : State), s.pwr.coreUp = true → (s.en .part = false ∨ s.home = false ∨ s.role ≠ STANDBY ∨ s.flag PART_CFG_AUTO_BACK = false ∨ s.flag PART_STAT_NO_RETURN = true) →
    ∃ t, exec .holdoffExpiry s = .next t ∧
      t = s)

/-- A scan shows its switches; two consecutive scans that agree on a state that differs from STATE change it: to open with OPENED, its count and entry, to a fault with SEAL_FAULT, from open to closed with CLOSED and its count, the renewal falling due while one is possible. A due renewal in such a state ends and the pending mark clears. The right passcode opens a session of PASS_TMO with no failures; a wrong one is refused with 0x1923, counted, and locks out with LOCKOUT at PASS_TRIES; during a lockout every attempt is refused with 0x1922. LOCK and expiry end the session, the lockout ends with its failures. SET needs a session or an open seal and a passcode that is not 0; it is logged and the new hash holds. It says of each of these that it completes with its own effect, exec answering the next state told, under hypotheses on the state and the operands alone: sealScan, sealRenewal, passAttempt, sessionExpiry, passLock, lockoutEnd, passSet. (R540, R541, R542, R543, R544, R545, R546, R547) -/
def Obligations.TheSealAndThePasscodeAreOperated : Prop :=
  -- completes: sealScan
  (∀ (s : State) (sample : BitVec 16) (fault : Bool), regsWf s → s.pwr.aonUp = true → ((match s.sealed.last with | some y => s.scanSays y == s.scanSays (fault, sample.toNat) | none => false) && s.scanSays (fault, sample.toNat) != s.get SEAL_SW_STATE) = false →
    ∃ t, exec (.sealScan sample fault) s = .next t ∧
      t.get SEAL_SW_WORD = sample.toNat ∧
      t.sealed = { s.sealed with last := some (fault, sample.toNat) } ∧
      t.get SEAL_SW_STATE = s.get SEAL_SW_STATE ∧
      t = { s with regs := t.regs, sealed := t.sealed } ∧
      (∀ adr, adr ∉ ([SEAL_SW_WORD.base] : List Nat) → t.word adr = s.word adr)) ∧
  -- completes: sealScan
  (∀ (s : State) (sample : BitVec 16) (fault : Bool) (y : Bool × Nat), regsWf s → s.pwr.aonUp = true → s.sealed.last = some y → s.scanSays y = s.scanSays (fault, sample.toNat) → s.scanSays (fault, sample.toNat) = SW_OPEN → s.get SEAL_SW_STATE ≠ SW_OPEN →
    ∃ t, exec (.sealScan sample fault) s = .next t ∧
      t.get SEAL_SW_STATE = SW_OPEN ∧
      t.get SEAL_SW_WORD = sample.toNat ∧
      t.get SEAL_CNT_OPENINGS = min 65535 (s.get SEAL_CNT_OPENINGS + 1) ∧
      t.flag ⟨ctrlAddr SRC_SEAL_OPENED.blk 0x04, 0, 0, SRC_SEAL_OPENED.s, 1⟩ = true ∧
      t.sealed.last = some (fault, sample.toNat)) ∧
  -- completes: sealScan
  (∀ (s : State) (sample : BitVec 16) (fault : Bool) (y : Bool × Nat), regsWf s → s.pwr.aonUp = true → s.sealed.last = some y → s.scanSays y = s.scanSays (fault, sample.toNat) → s.scanSays (fault, sample.toNat) = SW_FAULT → s.get SEAL_SW_STATE ≠ SW_FAULT →
    ∃ t, exec (.sealScan sample fault) s = .next t ∧
      t.get SEAL_SW_STATE = SW_FAULT ∧
      t.flag ⟨ctrlAddr SRC_SEAL_SEAL_FAULT.blk 0x04, 0, 0, SRC_SEAL_SEAL_FAULT.s, 1⟩ = true ∧
      t.sealed.last = some (fault, sample.toNat)) ∧
  -- completes: sealScan
  (∀ (s : State) (sample : BitVec 16) (fault : Bool) (y : Bool × Nat), regsWf s → s.pwr.aonUp = true → s.sealed.last = some y → s.scanSays y = s.scanSays (fault, sample.toNat) → s.scanSays (fault, sample.toNat) = SW_CLOSED → s.get SEAL_SW_STATE = SW_OPEN → s.canRenew = true →
    ∃ t, exec (.sealScan sample fault) s = .next t ∧
      t.get SEAL_SW_STATE = SW_CLOSED ∧
      t.get SEAL_CNT_CLOSURES = min 65535 (s.get SEAL_CNT_CLOSURES + 1) ∧
      t.flag ⟨ctrlAddr SRC_SEAL_CLOSED.blk 0x04, 0, 0, SRC_SEAL_CLOSED.s, 1⟩ = true ∧
      t.sealed = { s.sealed with due := true, last := some (fault, sample.toNat) } ∧
      t = { s with regs := t.regs, sealed := t.sealed, pwr := t.pwr } ∧
      (∀ adr, adr ∉ ([0x190100, 0x190108, 0x19010C] ++ evtRegs SRC_SEAL_CLOSED.blk SRC_SEAL_CLOSED.s : List Nat) → t.word adr = s.word adr)) ∧
  (∀ (s : State) (sample : BitVec 16) (fault : Bool), s.pwr.aonUp = false →
    ∃ t, exec (.sealScan sample fault) s = .next t ∧
      t = s) ∧
  -- completes: sealRenewal
  (∀ (s : State), regsWf s → s.pwr.coreUp = true → s.sealed.due = true → s.canRenew = true →
    ∃ t, exec .sealRenewal s = .next t ∧
      t.sealed.due = false ∧
      t.flag SEAL_SW_RENEW_PEND = false) ∧
  -- completes: sealRenewal
  (∀ (s : State), regsWf s → s.pwr.coreUp = true → s.sealed.due = true → s.canRenew = false →
    ∃ t, exec .sealRenewal s = .next t ∧
      t.sealed.due = false ∧
      t.flag SEAL_SW_RENEW_PEND = true ∧
      t.get SEAL_DIGEST_DIGEST = s.get SEAL_DIGEST_DIGEST) ∧
  (∀ (s : State), s.pwr.coreUp = true → s.sealed.due = false →
    ∃ t, exec .sealRenewal s = .next t ∧
      t = s) ∧
  -- completes: passAttempt
  (∀ (s : State) (v : BitVec 32), regsWf s → s.pwr.coreUp = true → s.flag SEAL_PSTAT_LOCKOUT = false → s.flag SEAL_PSTAT_PASS_SET = true → s.passHash (((sparseFind 0x190200 s.pairs.lowWritten).getD 0#32).toNat + 2 ^ 32 * v.toNat) = s.sealed.hash →
    ∃ t, exec (.passAttempt v) s = .next t ∧
      t.flag SEAL_PSTAT_SESSION = true ∧
      t.get SEAL_PSTAT_REMAIN = s.get SEAL_PCFG_PASS_TMO % 2 ^ SEAL_PSTAT_REMAIN.w ∧
      t.get SEAL_PSTAT_FAILS = 0 ∧
      RegsOnly s t ∧
      (∀ adr, adr ∉ ([SEAL_PSTAT_SESSION.base, SEAL_PSTAT_REMAIN.base, SEAL_PSTAT_FAILS.base] : List Nat) → t.word adr = s.word adr)) ∧
  (∀ (s : State) (v : BitVec 32), regsWf s → s.pwr.coreUp = true → s.flag SEAL_PSTAT_LOCKOUT = true →
    ∃ t, exec (.passAttempt v) s = .next t ∧
      t.get (CHK_REASON .seal) = 0x1922 ∧
      t.get (CHK_UNIT .seal) = 2 ∧
      t.get (CHK_OFFSET .seal) = 0 ∧
      RegsOnly s t ∧
      (∀ adr, adr ∉ (refuseRegs .seal : List Nat) → t.word adr = s.word adr)) ∧
  (∀ (s : State) (v : BitVec 32), regsWf s → s.pwr.coreUp = true → s.flag SEAL_PSTAT_LOCKOUT = false → (s.flag SEAL_PSTAT_PASS_SET = false ∨ s.passHash (((sparseFind 0x190200 s.pairs.lowWritten).getD 0#32).toNat + 2 ^ 32 * v.toNat) ≠ s.sealed.hash) → s.get SEAL_PSTAT_FAILS + 1 < s.get SEAL_PCFG_PASS_TRIES → s.get SEAL_PSTAT_FAILS + 1 < 2 ^ SEAL_PSTAT_FAILS.w →
    ∃ t, exec (.passAttempt v) s = .next t ∧
      t.get (CHK_REASON .seal) = 0x1923 ∧
      t.get (CHK_UNIT .seal) = 2 ∧
      t.get (CHK_OFFSET .seal) = 0 ∧
      t.get SEAL_PSTAT_FAILS = s.get SEAL_PSTAT_FAILS + 1 ∧
      t.flag ⟨ctrlAddr SRC_SEAL_WRONG_PASS.blk 0x04, 0, 0, SRC_SEAL_WRONG_PASS.s, 1⟩ = true ∧
      t.flag SEAL_PSTAT_LOCKOUT = false ∧
      RegsHold s t ∧
      (∀ adr, adr ∉ (SEAL_PSTAT_FAILS.base :: refuseRegs .seal ++ evtRegs SRC_SEAL_WRONG_PASS.blk SRC_SEAL_WRONG_PASS.s : List Nat) → t.word adr = s.word adr)) ∧
  (∀ (s : State) (v : BitVec 32), regsWf s → s.pwr.coreUp = true → s.flag SEAL_PSTAT_LOCKOUT = false → (s.flag SEAL_PSTAT_PASS_SET = false ∨ s.passHash (((sparseFind 0x190200 s.pairs.lowWritten).getD 0#32).toNat + 2 ^ 32 * v.toNat) ≠ s.sealed.hash) → s.get SEAL_PCFG_PASS_TRIES ≤ s.get SEAL_PSTAT_FAILS + 1 → s.get SEAL_PSTAT_FAILS + 1 < 2 ^ SEAL_PSTAT_FAILS.w →
    ∃ t, exec (.passAttempt v) s = .next t ∧
      t.get (CHK_REASON .seal) = 0x1923 ∧
      t.get (CHK_UNIT .seal) = 2 ∧
      t.get (CHK_OFFSET .seal) = 0 ∧
      t.flag SEAL_PSTAT_LOCKOUT = true ∧
      t.flag ⟨ctrlAddr SRC_SEAL_LOCKOUT.blk 0x04, 0, 0, SRC_SEAL_LOCKOUT.s, 1⟩ = true ∧
      t.flag ⟨ctrlAddr SRC_SEAL_WRONG_PASS.blk 0x04, 0, 0, SRC_SEAL_WRONG_PASS.s, 1⟩ = true) ∧
  -- completes: sessionExpiry
  (∀ (s : State), regsWf s → s.pwr.coreUp = true →
    ∃ t, exec .sessionExpiry s = .next t ∧
      t.flag SEAL_PSTAT_SESSION = false ∧
      (s.flag SEAL_PSTAT_SESSION = true → t.get SEAL_PSTAT_REMAIN = 0) ∧
      RegsOnly s t ∧
      (∀ adr, adr ∉ ([SEAL_PSTAT_SESSION.base, SEAL_PSTAT_REMAIN.base] : List Nat) → t.word adr = s.word adr)) ∧
  -- completes: passLock
  (∀ (s : State), regsWf s → s.pwr.coreUp = true →
    ∃ t, exec .passLock s = .next t ∧
      t.flag SEAL_PSTAT_SESSION = false ∧
      t.get SEAL_PSTAT_REMAIN = 0 ∧
      RegsOnly s t ∧
      (∀ adr, adr ∉ ([SEAL_PSTAT_SESSION.base, SEAL_PSTAT_REMAIN.base] : List Nat) → t.word adr = s.word adr)) ∧
  -- completes: lockoutEnd
  (∀ (s : State), regsWf s → s.flag SEAL_PSTAT_LOCKOUT = true →
    ∃ t, exec .lockoutEnd s = .next t ∧
      t.flag SEAL_PSTAT_LOCKOUT = false ∧
      t.get SEAL_PSTAT_FAILS = 0 ∧
      RegsOnly s t ∧
      (∀ adr, adr ∉ ([SEAL_PSTAT_LOCKOUT.base, SEAL_PSTAT_FAILS.base] : List Nat) → t.word adr = s.word adr)) ∧
  (∀ (s : State), s.flag SEAL_PSTAT_LOCKOUT = false →
    ∃ t, exec .lockoutEnd s = .next t ∧
      t = s) ∧
  -- completes: passSet
  (∀ (s : State), regsWf s → s.pwr.coreUp = true → (s.flag SEAL_PSTAT_SESSION = true ∨ s.get SEAL_SW_STATE = SW_OPEN) → s.get64 SEAL_PASS_NEW_PASS ≠ 0 → (s.logAppend 8 0 0 0 0 []).1 = true →
    ∃ t, exec .passSet s = .next t ∧
      t.flag SEAL_PSTAT_PASS_SET = true ∧
      t.sealed = { s.sealed with hash := s.passHash (s.get64 SEAL_PASS_NEW_PASS) } ∧
      Logged s t) ∧
  (∀ (s : State), regsWf s → s.pwr.coreUp = true → (s.flag SEAL_PSTAT_SESSION = true ∨ s.get SEAL_SW_STATE = SW_OPEN) → s.get64 SEAL_PASS_NEW_PASS = 0 →
    ∃ t, exec .passSet s = .next t ∧
      t.get (CHK_REASON .seal) = 0x1900 + RANGE ∧
      t.get (CHK_UNIT .seal) = 2 ∧
      t.get (CHK_OFFSET .seal) = 0x10 ∧
      RegsOnly s t ∧
      (∀ adr, adr ∉ (refuseRegs .seal : List Nat) → t.word adr = s.word adr)) ∧
  (∀ (s : State), regsWf s → s.pwr.coreUp = true → s.flag SEAL_PSTAT_SESSION = false → s.get SEAL_SW_STATE ≠ SW_OPEN →
    ∃ t, exec .passSet s = .next t ∧
      t.get (CHK_REASON .seal) = 0x1900 + NO_PASSCODE ∧
      t.get (CHK_UNIT .seal) = 2 ∧
      t.get (CHK_OFFSET .seal) = 0x10 ∧
      RegsOnly s t ∧
      (∀ adr, adr ∉ (refuseRegs .seal : List Nat) → t.word adr = s.word adr))

/-- A flash operation whose conditions hold shows BUSY: READ puts the flash's bytes from ADDR into BANK_HOST at BASE, PROGRAM writes the bytes at BASE to the flash at ADDR, and ERASE, after its log entry, writes the erase unit to ones. One whose conditions fail is refused in HOST_CHK with the reason of the first and changes nothing. Completion clears BUSY and shows DONE, or FAIL with 0x1721 and FLASH_FAIL. It says of each of these that it completes with its own effect, exec answering the next state told, under hypotheses on the state and the operands alone: flashRead, flashProgram, flashErase, flashOpDone. (R71, R537, R547) -/
def Obligations.TheFlashIsReadProgrammedAndErased : Prop :=
  -- completes: flashRead
  (∀ (s : State) (f : FlashImage), regsWf s → s.pwr.coreUp = true → s.flashRefused 1 = none → s.flash = some f → memWf s →
    ∃ t, exec .flashRead s = .next t ∧
      t.flag HOST_FL_STAT_BUSY = true ∧
      ∀ k ∈ List.range (s.get HOST_FL_BUF_LEN), t.byte ((BANK_HOST + s.get HOST_FL_BUF_BASE) + k) = flashByte f (s.get HOST_FL_ADDR_ADDR + k) ∧
      (∀ adr, (adr < (BANK_HOST + s.get HOST_FL_BUF_BASE) ∨ (BANK_HOST + s.get HOST_FL_BUF_BASE) + s.get HOST_FL_BUF_LEN ≤ adr) → t.byte adr = s.byte adr) ∧
      t = { s with regs := t.regs, mem := t.mem, poison := t.poison } ∧
      (∀ adr, adr ∉ ([HOST_FL_STAT_BUSY.base] : List Nat) → t.word adr = s.word adr)) ∧
  -- completes: flashRead
  (∀ (s : State), regsWf s → s.pwr.coreUp = true → s.flashRefused 1 = none → s.flash = none →
    ∃ t, exec .flashRead s = .next t ∧
      t.flag HOST_FL_STAT_BUSY = true ∧
      RegsOnly s t ∧
      (∀ adr, adr ∉ ([HOST_FL_STAT_BUSY.base] : List Nat) → t.word adr = s.word adr)) ∧
  (∀ (s : State) (r : Nat), regsWf s → s.pwr.coreUp = true → s.flashRefused 1 = some r → r < 0x10000 →
    ∃ t, exec .flashRead s = .next t ∧
      t.get (CHK_REASON .host) = r ∧
      t.get (CHK_UNIT .host) = 2 ∧
      t.get (CHK_OFFSET .host) = 0 ∧
      RegsOnly s t ∧
      (∀ adr, adr ∉ (refuseRegs .host : List Nat) → t.word adr = s.word adr)) ∧
  -- completes: flashProgram
  (∀ (s : State), regsWf s → s.pwr.coreUp = true → s.flashRefused 2 = none →
    ∃ t, exec .flashProgram s = .next t ∧
      t.flag HOST_FL_STAT_BUSY = true ∧
      t.flash = s.flash.map (fun f => flashWrite f (s.get HOST_FL_ADDR_ADDR) (s.flashBusy.load 0 (BANK_HOST + s.get HOST_FL_BUF_BASE) (s.get HOST_FL_BUF_LEN)).1)) ∧
  (∀ (s : State) (r : Nat), regsWf s → s.pwr.coreUp = true → s.flashRefused 2 = some r → r < 0x10000 →
    ∃ t, exec .flashProgram s = .next t ∧
      t.get (CHK_REASON .host) = r ∧
      t.get (CHK_UNIT .host) = 2 ∧
      t.get (CHK_OFFSET .host) = 0 ∧
      RegsOnly s t ∧
      (∀ adr, adr ∉ (refuseRegs .host : List Nat) → t.word adr = s.word adr)) ∧
  -- completes: flashErase
  (∀ (s : State), regsWf s → s.pwr.coreUp = true → s.flashRefused 3 = none → (s.logAppend 11 0 0 0 0 (leBytes 4 (s.get HOST_FL_ADDR_ADDR) ++ leBytes 4 (s.get HOST_FL_STAT_ERASE_KIB * 1024))).1 = true →
    ∃ t, exec .flashErase s = .next t ∧
      t.flag HOST_FL_STAT_BUSY = true ∧
      t.flash = s.flash.map (fun f => flashWrite f (s.get HOST_FL_ADDR_ADDR) (List.replicate (s.get HOST_FL_STAT_ERASE_KIB * 1024) 0xFF#8)) ∧
      Logged s t) ∧
  (∀ (s : State) (r : Nat), regsWf s → s.pwr.coreUp = true → s.flashRefused 3 = some r → r < 0x10000 →
    ∃ t, exec .flashErase s = .next t ∧
      t.get (CHK_REASON .host) = r ∧
      t.get (CHK_UNIT .host) = 2 ∧
      t.get (CHK_OFFSET .host) = 0 ∧
      RegsOnly s t ∧
      (∀ adr, adr ∉ (refuseRegs .host : List Nat) → t.word adr = s.word adr)) ∧
  -- completes: flashOpDone
  (∀ (s : State) (ok : Bool), regsWf s → s.pwr.coreUp = true → s.flag HOST_FL_STAT_BUSY = true → ok = true →
    ∃ t, exec (.flashOpDone ok) s = .next t ∧
      t.flag HOST_FL_STAT_BUSY = false ∧
      t.flag HOST_FL_STAT_DONE = true ∧
      RegsOnly s t ∧
      (∀ adr, adr ∉ ([HOST_FL_STAT_BUSY.base] : List Nat) → t.word adr = s.word adr)) ∧
  (∀ (s : State) (ok : Bool), regsWf s → s.pwr.coreUp = true → s.flag HOST_FL_STAT_BUSY = true → ok = false →
    ∃ t, exec (.flashOpDone ok) s = .next t ∧
      t.flag HOST_FL_STAT_BUSY = false ∧
      t.flag HOST_FL_STAT_FAIL = true ∧
      t.flag ⟨ctrlAddr SRC_HOST_FLASH_FAIL.blk 0x04, 0, 0, SRC_HOST_FLASH_FAIL.s, 1⟩ = true ∧
      t.get (CHK_REASON .host) = 0x1721 ∧
      t.get (CHK_UNIT .host) = 2 ∧
      t.get (CHK_OFFSET .host) = 0 ∧
      RegsHold s t ∧
      (∀ adr, adr ∉ (HOST_FL_STAT_BUSY.base :: refuseRegs .host ++ evtRegs SRC_HOST_FLASH_FAIL.blk SRC_HOST_FLASH_FAIL.s : List Nat) → t.word adr = s.word adr)) ∧
  (∀ (s : State) (ok : Bool), s.pwr.coreUp = true → s.flag HOST_FL_STAT_BUSY = false →
    ∃ t, exec (.flashOpDone ok) s = .next t ∧
      t = s)
end

