-- ==== Sys2Proof/Laws/Field.lean ====
section
/-! SUPPORT. The laws of fields in a word: a field written reads back, and a field that shares no bit stands. -/

namespace Sys2Proof.Machine

/-- The bits of a word with a field replaced. -/
theorem withField_testBit (v : Word) (lo w x i : Nat) (h : lo + w ≤ 32) :
    (withField v lo w x).toNat.testBit i = if lo ≤ i ∧ i < lo + w then x.testBit (i - lo) else v.toNat.testBit i := by
  by_cases hi : i < 32
  · have e : ∀ y : Word, y.toNat.testBit i = y.getLsbD i := fun y => rfl
    rw [e, e]
    simp only [withField, BitVec.getLsbD_or, BitVec.getLsbD_and, BitVec.getLsbD_not, BitVec.getLsbD_ofNat, hi, decide_true,
      Bool.true_and, Nat.testBit_shiftLeft, Nat.testBit_two_pow_sub_one, Nat.testBit_mod_two_pow]
    by_cases h1 : lo ≤ i
    · by_cases h2 : i < lo + w
      · simp [h1, h2, show i - lo < w by omega]
      · simp [h1, h2, show ¬ i - lo < w by omega]
    · simp [h1]
  · have h0 : ∀ y : Word, y.toNat.testBit i = false := fun y => Nat.testBit_lt_two_pow (lt_of_lt_of_le y.isLt (Nat.pow_le_pow_right (by omega) (by omega)))
    rw [h0, h0, if_neg (by omega)]

/-- A field written reads back, cut to its width. -/
theorem fieldOf_withField_same (v : Word) (lo w x : Nat) (h : lo + w ≤ 32) : fieldOf (withField v lo w x) lo w = x % 2 ^ w := by
  apply Nat.eq_of_testBit_eq
  intro i
  simp only [fieldOf, Nat.testBit_mod_two_pow, Nat.testBit_shiftRight, withField_testBit v lo w x _ h]
  by_cases hi : i < w
  · simp [hi]
  · simp [hi]

/-- A field that shares no bit with the one written stands. -/
theorem fieldOf_withField_other (v : Word) (lo w x lo' w' : Nat) (h : lo + w ≤ 32) (hd : lo' + w' ≤ lo ∨ lo + w ≤ lo') :
    fieldOf (withField v lo w x) lo' w' = fieldOf v lo' w' := by
  apply Nat.eq_of_testBit_eq
  intro i
  simp only [fieldOf, Nat.testBit_mod_two_pow, Nat.testBit_shiftRight, withField_testBit v lo w x _ h]
  by_cases hi : i < w'
  · rw [if_neg (by omega)]
  · simp [hi]

/-- A field fits its width. -/
theorem fieldOf_lt (v : Word) (lo w : Nat) : fieldOf v lo w < 2 ^ w := Nat.mod_lt _ (Nat.two_pow_pos w)

end Sys2Proof.Machine
end

