-- ==== Sys2Proof/Laws/Sparse.lean ====
section
/-! SUPPORT. The laws of sparse maps in canonical form: a put keeps the form, a find after a put answers the value put, and every other address stands. -/

namespace Sys2Proof.Machine

variable {α : Type} [DecidableEq α] {dflt : Nat → α}

/-- The canonical form, said of the head and the tail. -/
theorem sparseWf_cons (a : Nat) (v : α) (t : List (Nat × α)) :
    sparseWf dflt ((a, v) :: t) = true ↔ v ≠ dflt a ∧ (∀ p ∈ t, a < p.1) ∧ sparseWf dflt t = true := by
  induction t generalizing a v with
  | nil => simp [sparseWf]
  | cons q t ih =>
    obtain ⟨b, x⟩ := q
    simp only [sparseWf, Bool.and_eq_true, decide_eq_true_eq, List.mem_cons, forall_eq_or_imp]
    constructor
    · rintro ⟨⟨h1, h2⟩, h3⟩
      exact ⟨h1, ⟨h2, fun p hp => lt_trans h2 (((ih b x).1 h3).2.1 p hp)⟩, h3⟩
    · rintro ⟨h1, ⟨h2, _⟩, h3⟩
      exact ⟨⟨h1, h2⟩, h3⟩

/-- A key of the map after a put is the address put or was a key before. -/
theorem sparsePut_keys {a : Nat} {v d : α} {l : List (Nat × α)} {p : Nat × α} (h : p ∈ sparsePut a v d l) :
    p.1 = a ∨ p ∈ l := by
  induction l with
  | nil =>
    simp only [sparsePut] at h
    split at h <;> simp_all
  | cons q t ih =>
    obtain ⟨b, x⟩ := q
    simp only [sparsePut] at h
    split at h
    · split at h
      · exact .inr h
      · exact (List.mem_cons.1 h).imp (congrArg Prod.fst) id
    · split at h
      · split at h
        · exact .inr (List.mem_cons_of_mem _ h)
        · exact (List.mem_cons.1 h).imp (congrArg Prod.fst) (List.mem_cons_of_mem _)
      · rcases List.mem_cons.1 h with h | h
        · exact .inr (h ▸ List.mem_cons_self)
        · exact (ih h).imp_right (List.mem_cons_of_mem _)

/-- A put keeps the canonical form. -/
theorem sparsePut_wf {a : Nat} {v : α} {l : List (Nat × α)} (h : sparseWf dflt l = true) :
    sparseWf dflt (sparsePut a v (dflt a) l) = true := by
  induction l with
  | nil =>
    simp only [sparsePut]
    split <;> simp_all [sparseWf]
  | cons q t ih =>
    obtain ⟨b, x⟩ := q
    have hc := (sparseWf_cons b x t).1 h
    simp only [sparsePut]
    split
    · split
      · exact h
      · next hab hv =>
        refine (sparseWf_cons _ _ _).2 ⟨hv, fun p hp => ?_, h⟩
        rcases List.mem_cons.1 hp with hp | hp
        · rw [hp]; exact hab
        · exact lt_trans hab (hc.2.1 p hp)
    · split
      · split
        · exact hc.2.2
        · next hab hv =>
          subst hab
          exact (sparseWf_cons _ _ _).2 ⟨hv, hc.2.1, hc.2.2⟩
      · next h1 h2 =>
        refine (sparseWf_cons _ _ _).2 ⟨hc.1, fun p hp => ?_, ih hc.2.2⟩
        rcases sparsePut_keys hp with hp | hp
        · omega
        · exact hc.2.1 p hp

omit [DecidableEq α] in
/-- Nothing is found below every key. -/
theorem sparseFind_below {a : Nat} {l : List (Nat × α)} (h : ∀ p ∈ l, a < p.1) : sparseFind a l = none := by
  cases l with
  | nil => rfl
  | cons q t =>
    have hq := h q List.mem_cons_self
    simp [sparseFind, show a ≠ q.1 by omega, hq]

/-- After a put the address reads as the value put. -/
theorem sparseFind_put_same {a : Nat} {v : α} {l : List (Nat × α)} (h : sparseWf dflt l = true) :
    (sparseFind a (sparsePut a v (dflt a) l)).getD (dflt a) = v := by
  induction l with
  | nil =>
    simp only [sparsePut]
    split <;> simp_all [sparseFind]
  | cons q t ih =>
    obtain ⟨b, x⟩ := q
    have hc := (sparseWf_cons b x t).1 h
    simp only [sparsePut]
    split
    · split
      · next hab hv => simp [sparseFind, hab, show a ≠ b by omega, hv]
      · simp [sparseFind]
    · split
      · split
        · next hab hv =>
          subst hab
          rw [sparseFind_below hc.2.1, hv]; rfl
        · simp [sparseFind]
      · next h1 h2 => simpa [sparseFind, h1, h2] using ih hc.2.2

/-- A put leaves every other address as it was. -/
theorem sparseFind_put_other {a c : Nat} {v : α} {l : List (Nat × α)} (h : sparseWf dflt l = true) (hne : c ≠ a) :
    sparseFind c (sparsePut a v (dflt a) l) = sparseFind c l := by
  induction l with
  | nil =>
    simp only [sparsePut]
    split <;> simp [sparseFind, hne]
  | cons q t ih =>
    obtain ⟨b, x⟩ := q
    have hc := (sparseWf_cons b x t).1 h
    simp only [sparsePut]
    split
    · split
      · rfl
      · next hab _ =>
        by_cases hca : c < a
        · simp [sparseFind, hne, hca, show c ≠ b by omega, show c < b by omega]
        · simp [sparseFind, hne, hca]
    · split
      · next h1 hab =>
        subst hab
        split
        · by_cases hca : c < a
          · rw [sparseFind_below fun p hp => lt_trans hca (hc.2.1 p hp)]
            simp [sparseFind, hne, hca]
          · simp [sparseFind, hne, hca]
        · simp [sparseFind, hne]
      · by_cases hcb : c = b
        · simp [sparseFind, hcb]
        · simp [sparseFind, hcb, ih hc.2.2]

end Sys2Proof.Machine
end

