-- ==== Sys2Proof/Laws/State.lean ====
section
/-! SUPPORT. The laws of the state's plain updates: what each leaves, field by field, what a register or a field reads after it, and that each keeps the canonical form. -/

namespace Sys2Proof.Machine

open Sys2Proof.Safety

variable (s : State)

/-! What `putWord` leaves. -/

@[simp] theorem State.putWord_mem (a : Nat) (v : Word) : (s.putWord a v).mem = s.mem := rfl
@[simp] theorem State.putWord_poison (a : Nat) (v : Word) : (s.putWord a v).poison = s.poison := rfl
@[simp] theorem State.putWord_pairs (a : Nat) (v : Word) : (s.putWord a v).pairs = s.pairs := rfl
@[simp] theorem State.putWord_port (a : Nat) (v : Word) : (s.putWord a v).port = s.port := rfl
@[simp] theorem State.putWord_pins (a : Nat) (v : Word) : (s.putWord a v).pins = s.pins := rfl
@[simp] theorem State.putWord_pwr (a : Nat) (v : Word) : (s.putWord a v).pwr = s.pwr := rfl
@[simp] theorem State.putWord_pllA (a : Nat) (v : Word) : (s.putWord a v).pllA = s.pllA := rfl
@[simp] theorem State.putWord_pllB (a : Nat) (v : Word) : (s.putWord a v).pllB = s.pllB := rfl
@[simp] theorem State.putWord_time (a : Nat) (v : Word) : (s.putWord a v).time = s.time := rfl
@[simp] theorem State.putWord_memst (a : Nat) (v : Word) : (s.putWord a v).memst = s.memst := rfl
@[simp] theorem State.putWord_drive (a : Nat) (v : Word) : (s.putWord a v).drive = s.drive := rfl
@[simp] theorem State.putWord_ctc (a : Nat) (v : Word) : (s.putWord a v).ctc = s.ctc := rfl
@[simp] theorem State.putWord_hive (a : Nat) (v : Word) : (s.putWord a v).hive = s.hive := rfl
@[simp] theorem State.putWord_cell (a : Nat) (v : Word) : (s.putWord a v).cell = s.cell := rfl
@[simp] theorem State.putWord_out (a : Nat) (v : Word) : (s.putWord a v).out = s.out := rfl
@[simp] theorem State.putWord_safe (a : Nat) (v : Word) : (s.putWord a v).safe = s.safe := rfl
@[simp] theorem State.putWord_sealed (a : Nat) (v : Word) : (s.putWord a v).sealed = s.sealed := rfl
@[simp] theorem State.putWord_part (a : Nat) (v : Word) : (s.putWord a v).part = s.part := rfl
@[simp] theorem State.putWord_eth (a : Nat) (v : Word) : (s.putWord a v).eth = s.eth := rfl
@[simp] theorem State.putWord_cap (a : Nat) (v : Word) : (s.putWord a v).cap = s.cap := rfl
@[simp] theorem State.putWord_cal (a : Nat) (v : Word) : (s.putWord a v).cal = s.cal := rfl
@[simp] theorem State.putWord_comb (a : Nat) (v : Word) : (s.putWord a v).comb = s.comb := rfl
@[simp] theorem State.putWord_meter (a : Nat) (v : Word) : (s.putWord a v).meter = s.meter := rfl
@[simp] theorem State.putWord_mod (a : Nat) (v : Word) : (s.putWord a v).mod = s.mod := rfl
@[simp] theorem State.putWord_law (a : Nat) (v : Word) : (s.putWord a v).law = s.law := rfl
@[simp] theorem State.putWord_form (a : Nat) (v : Word) : (s.putWord a v).form = s.form := rfl
@[simp] theorem State.putWord_meas (a : Nat) (v : Word) : (s.putWord a v).meas = s.meas := rfl
@[simp] theorem State.putWord_fes (a : Nat) (v : Word) : (s.putWord a v).fes = s.fes := rfl
@[simp] theorem State.putWord_flash (a : Nat) (v : Word) : (s.putWord a v).flash = s.flash := rfl
@[simp] theorem State.putWord_cyc (a : Nat) (v : Word) : (s.putWord a v).cyc = s.cyc := rfl
@[simp] theorem State.putWord_fresh (a : Nat) (v : Word) : (s.putWord a v).fresh = s.fresh := rfl
@[simp] theorem State.putWord_pending (a : Nat) (v : Word) : (s.putWord a v).pending = s.pending := rfl

/-! What `set` leaves. -/

@[simp] theorem State.set_mem (f : Fld) (v u i : Nat) : (s.set f v u i).mem = s.mem := rfl
@[simp] theorem State.set_poison (f : Fld) (v u i : Nat) : (s.set f v u i).poison = s.poison := rfl
@[simp] theorem State.set_pairs (f : Fld) (v u i : Nat) : (s.set f v u i).pairs = s.pairs := rfl
@[simp] theorem State.set_port (f : Fld) (v u i : Nat) : (s.set f v u i).port = s.port := rfl
@[simp] theorem State.set_pins (f : Fld) (v u i : Nat) : (s.set f v u i).pins = s.pins := rfl
@[simp] theorem State.set_pwr (f : Fld) (v u i : Nat) : (s.set f v u i).pwr = s.pwr := rfl
@[simp] theorem State.set_pllA (f : Fld) (v u i : Nat) : (s.set f v u i).pllA = s.pllA := rfl
@[simp] theorem State.set_pllB (f : Fld) (v u i : Nat) : (s.set f v u i).pllB = s.pllB := rfl
@[simp] theorem State.set_time (f : Fld) (v u i : Nat) : (s.set f v u i).time = s.time := rfl
@[simp] theorem State.set_memst (f : Fld) (v u i : Nat) : (s.set f v u i).memst = s.memst := rfl
@[simp] theorem State.set_drive (f : Fld) (v u i : Nat) : (s.set f v u i).drive = s.drive := rfl
@[simp] theorem State.set_ctc (f : Fld) (v u i : Nat) : (s.set f v u i).ctc = s.ctc := rfl
@[simp] theorem State.set_hive (f : Fld) (v u i : Nat) : (s.set f v u i).hive = s.hive := rfl
@[simp] theorem State.set_cell (f : Fld) (v u i : Nat) : (s.set f v u i).cell = s.cell := rfl
@[simp] theorem State.set_out (f : Fld) (v u i : Nat) : (s.set f v u i).out = s.out := rfl
@[simp] theorem State.set_safe (f : Fld) (v u i : Nat) : (s.set f v u i).safe = s.safe := rfl
@[simp] theorem State.set_sealed (f : Fld) (v u i : Nat) : (s.set f v u i).sealed = s.sealed := rfl
@[simp] theorem State.set_part (f : Fld) (v u i : Nat) : (s.set f v u i).part = s.part := rfl
@[simp] theorem State.set_eth (f : Fld) (v u i : Nat) : (s.set f v u i).eth = s.eth := rfl
@[simp] theorem State.set_cap (f : Fld) (v u i : Nat) : (s.set f v u i).cap = s.cap := rfl
@[simp] theorem State.set_cal (f : Fld) (v u i : Nat) : (s.set f v u i).cal = s.cal := rfl
@[simp] theorem State.set_comb (f : Fld) (v u i : Nat) : (s.set f v u i).comb = s.comb := rfl
@[simp] theorem State.set_meter (f : Fld) (v u i : Nat) : (s.set f v u i).meter = s.meter := rfl
@[simp] theorem State.set_mod (f : Fld) (v u i : Nat) : (s.set f v u i).mod = s.mod := rfl
@[simp] theorem State.set_law (f : Fld) (v u i : Nat) : (s.set f v u i).law = s.law := rfl
@[simp] theorem State.set_form (f : Fld) (v u i : Nat) : (s.set f v u i).form = s.form := rfl
@[simp] theorem State.set_meas (f : Fld) (v u i : Nat) : (s.set f v u i).meas = s.meas := rfl
@[simp] theorem State.set_fes (f : Fld) (v u i : Nat) : (s.set f v u i).fes = s.fes := rfl
@[simp] theorem State.set_flash (f : Fld) (v u i : Nat) : (s.set f v u i).flash = s.flash := rfl
@[simp] theorem State.set_cyc (f : Fld) (v u i : Nat) : (s.set f v u i).cyc = s.cyc := rfl
@[simp] theorem State.set_fresh (f : Fld) (v u i : Nat) : (s.set f v u i).fresh = s.fresh := rfl
@[simp] theorem State.set_pending (f : Fld) (v u i : Nat) : (s.set f v u i).pending = s.pending := rfl

/-! What `setb` leaves. -/

@[simp] theorem State.setb_mem (f : Fld) (v : Bool) (u i : Nat) : (s.setb f v u i).mem = s.mem := rfl
@[simp] theorem State.setb_poison (f : Fld) (v : Bool) (u i : Nat) : (s.setb f v u i).poison = s.poison := rfl
@[simp] theorem State.setb_pairs (f : Fld) (v : Bool) (u i : Nat) : (s.setb f v u i).pairs = s.pairs := rfl
@[simp] theorem State.setb_port (f : Fld) (v : Bool) (u i : Nat) : (s.setb f v u i).port = s.port := rfl
@[simp] theorem State.setb_pins (f : Fld) (v : Bool) (u i : Nat) : (s.setb f v u i).pins = s.pins := rfl
@[simp] theorem State.setb_pwr (f : Fld) (v : Bool) (u i : Nat) : (s.setb f v u i).pwr = s.pwr := rfl
@[simp] theorem State.setb_pllA (f : Fld) (v : Bool) (u i : Nat) : (s.setb f v u i).pllA = s.pllA := rfl
@[simp] theorem State.setb_pllB (f : Fld) (v : Bool) (u i : Nat) : (s.setb f v u i).pllB = s.pllB := rfl
@[simp] theorem State.setb_time (f : Fld) (v : Bool) (u i : Nat) : (s.setb f v u i).time = s.time := rfl
@[simp] theorem State.setb_memst (f : Fld) (v : Bool) (u i : Nat) : (s.setb f v u i).memst = s.memst := rfl
@[simp] theorem State.setb_drive (f : Fld) (v : Bool) (u i : Nat) : (s.setb f v u i).drive = s.drive := rfl
@[simp] theorem State.setb_ctc (f : Fld) (v : Bool) (u i : Nat) : (s.setb f v u i).ctc = s.ctc := rfl
@[simp] theorem State.setb_hive (f : Fld) (v : Bool) (u i : Nat) : (s.setb f v u i).hive = s.hive := rfl
@[simp] theorem State.setb_cell (f : Fld) (v : Bool) (u i : Nat) : (s.setb f v u i).cell = s.cell := rfl
@[simp] theorem State.setb_out (f : Fld) (v : Bool) (u i : Nat) : (s.setb f v u i).out = s.out := rfl
@[simp] theorem State.setb_safe (f : Fld) (v : Bool) (u i : Nat) : (s.setb f v u i).safe = s.safe := rfl
@[simp] theorem State.setb_sealed (f : Fld) (v : Bool) (u i : Nat) : (s.setb f v u i).sealed = s.sealed := rfl
@[simp] theorem State.setb_part (f : Fld) (v : Bool) (u i : Nat) : (s.setb f v u i).part = s.part := rfl
@[simp] theorem State.setb_eth (f : Fld) (v : Bool) (u i : Nat) : (s.setb f v u i).eth = s.eth := rfl
@[simp] theorem State.setb_cap (f : Fld) (v : Bool) (u i : Nat) : (s.setb f v u i).cap = s.cap := rfl
@[simp] theorem State.setb_cal (f : Fld) (v : Bool) (u i : Nat) : (s.setb f v u i).cal = s.cal := rfl
@[simp] theorem State.setb_comb (f : Fld) (v : Bool) (u i : Nat) : (s.setb f v u i).comb = s.comb := rfl
@[simp] theorem State.setb_meter (f : Fld) (v : Bool) (u i : Nat) : (s.setb f v u i).meter = s.meter := rfl
@[simp] theorem State.setb_mod (f : Fld) (v : Bool) (u i : Nat) : (s.setb f v u i).mod = s.mod := rfl
@[simp] theorem State.setb_law (f : Fld) (v : Bool) (u i : Nat) : (s.setb f v u i).law = s.law := rfl
@[simp] theorem State.setb_form (f : Fld) (v : Bool) (u i : Nat) : (s.setb f v u i).form = s.form := rfl
@[simp] theorem State.setb_meas (f : Fld) (v : Bool) (u i : Nat) : (s.setb f v u i).meas = s.meas := rfl
@[simp] theorem State.setb_fes (f : Fld) (v : Bool) (u i : Nat) : (s.setb f v u i).fes = s.fes := rfl
@[simp] theorem State.setb_flash (f : Fld) (v : Bool) (u i : Nat) : (s.setb f v u i).flash = s.flash := rfl
@[simp] theorem State.setb_cyc (f : Fld) (v : Bool) (u i : Nat) : (s.setb f v u i).cyc = s.cyc := rfl
@[simp] theorem State.setb_fresh (f : Fld) (v : Bool) (u i : Nat) : (s.setb f v u i).fresh = s.fresh := rfl
@[simp] theorem State.setb_pending (f : Fld) (v : Bool) (u i : Nat) : (s.setb f v u i).pending = s.pending := rfl

/-! What `seti` leaves. -/

@[simp] theorem State.seti_mem (f : Fld) (v : Int) (u i : Nat) : (s.seti f v u i).mem = s.mem := rfl
@[simp] theorem State.seti_poison (f : Fld) (v : Int) (u i : Nat) : (s.seti f v u i).poison = s.poison := rfl
@[simp] theorem State.seti_pairs (f : Fld) (v : Int) (u i : Nat) : (s.seti f v u i).pairs = s.pairs := rfl
@[simp] theorem State.seti_port (f : Fld) (v : Int) (u i : Nat) : (s.seti f v u i).port = s.port := rfl
@[simp] theorem State.seti_pins (f : Fld) (v : Int) (u i : Nat) : (s.seti f v u i).pins = s.pins := rfl
@[simp] theorem State.seti_pwr (f : Fld) (v : Int) (u i : Nat) : (s.seti f v u i).pwr = s.pwr := rfl
@[simp] theorem State.seti_pllA (f : Fld) (v : Int) (u i : Nat) : (s.seti f v u i).pllA = s.pllA := rfl
@[simp] theorem State.seti_pllB (f : Fld) (v : Int) (u i : Nat) : (s.seti f v u i).pllB = s.pllB := rfl
@[simp] theorem State.seti_time (f : Fld) (v : Int) (u i : Nat) : (s.seti f v u i).time = s.time := rfl
@[simp] theorem State.seti_memst (f : Fld) (v : Int) (u i : Nat) : (s.seti f v u i).memst = s.memst := rfl
@[simp] theorem State.seti_drive (f : Fld) (v : Int) (u i : Nat) : (s.seti f v u i).drive = s.drive := rfl
@[simp] theorem State.seti_ctc (f : Fld) (v : Int) (u i : Nat) : (s.seti f v u i).ctc = s.ctc := rfl
@[simp] theorem State.seti_hive (f : Fld) (v : Int) (u i : Nat) : (s.seti f v u i).hive = s.hive := rfl
@[simp] theorem State.seti_cell (f : Fld) (v : Int) (u i : Nat) : (s.seti f v u i).cell = s.cell := rfl
@[simp] theorem State.seti_out (f : Fld) (v : Int) (u i : Nat) : (s.seti f v u i).out = s.out := rfl
@[simp] theorem State.seti_safe (f : Fld) (v : Int) (u i : Nat) : (s.seti f v u i).safe = s.safe := rfl
@[simp] theorem State.seti_sealed (f : Fld) (v : Int) (u i : Nat) : (s.seti f v u i).sealed = s.sealed := rfl
@[simp] theorem State.seti_part (f : Fld) (v : Int) (u i : Nat) : (s.seti f v u i).part = s.part := rfl
@[simp] theorem State.seti_eth (f : Fld) (v : Int) (u i : Nat) : (s.seti f v u i).eth = s.eth := rfl
@[simp] theorem State.seti_cap (f : Fld) (v : Int) (u i : Nat) : (s.seti f v u i).cap = s.cap := rfl
@[simp] theorem State.seti_cal (f : Fld) (v : Int) (u i : Nat) : (s.seti f v u i).cal = s.cal := rfl
@[simp] theorem State.seti_comb (f : Fld) (v : Int) (u i : Nat) : (s.seti f v u i).comb = s.comb := rfl
@[simp] theorem State.seti_meter (f : Fld) (v : Int) (u i : Nat) : (s.seti f v u i).meter = s.meter := rfl
@[simp] theorem State.seti_mod (f : Fld) (v : Int) (u i : Nat) : (s.seti f v u i).mod = s.mod := rfl
@[simp] theorem State.seti_law (f : Fld) (v : Int) (u i : Nat) : (s.seti f v u i).law = s.law := rfl
@[simp] theorem State.seti_form (f : Fld) (v : Int) (u i : Nat) : (s.seti f v u i).form = s.form := rfl
@[simp] theorem State.seti_meas (f : Fld) (v : Int) (u i : Nat) : (s.seti f v u i).meas = s.meas := rfl
@[simp] theorem State.seti_fes (f : Fld) (v : Int) (u i : Nat) : (s.seti f v u i).fes = s.fes := rfl
@[simp] theorem State.seti_flash (f : Fld) (v : Int) (u i : Nat) : (s.seti f v u i).flash = s.flash := rfl
@[simp] theorem State.seti_cyc (f : Fld) (v : Int) (u i : Nat) : (s.seti f v u i).cyc = s.cyc := rfl
@[simp] theorem State.seti_fresh (f : Fld) (v : Int) (u i : Nat) : (s.seti f v u i).fresh = s.fresh := rfl
@[simp] theorem State.seti_pending (f : Fld) (v : Int) (u i : Nat) : (s.seti f v u i).pending = s.pending := rfl

/-! What `inc` leaves. -/

@[simp] theorem State.inc_mem (f : Fld) (u i : Nat) : (s.inc f u i).mem = s.mem := rfl
@[simp] theorem State.inc_poison (f : Fld) (u i : Nat) : (s.inc f u i).poison = s.poison := rfl
@[simp] theorem State.inc_pairs (f : Fld) (u i : Nat) : (s.inc f u i).pairs = s.pairs := rfl
@[simp] theorem State.inc_port (f : Fld) (u i : Nat) : (s.inc f u i).port = s.port := rfl
@[simp] theorem State.inc_pins (f : Fld) (u i : Nat) : (s.inc f u i).pins = s.pins := rfl
@[simp] theorem State.inc_pwr (f : Fld) (u i : Nat) : (s.inc f u i).pwr = s.pwr := rfl
@[simp] theorem State.inc_pllA (f : Fld) (u i : Nat) : (s.inc f u i).pllA = s.pllA := rfl
@[simp] theorem State.inc_pllB (f : Fld) (u i : Nat) : (s.inc f u i).pllB = s.pllB := rfl
@[simp] theorem State.inc_time (f : Fld) (u i : Nat) : (s.inc f u i).time = s.time := rfl
@[simp] theorem State.inc_memst (f : Fld) (u i : Nat) : (s.inc f u i).memst = s.memst := rfl
@[simp] theorem State.inc_drive (f : Fld) (u i : Nat) : (s.inc f u i).drive = s.drive := rfl
@[simp] theorem State.inc_ctc (f : Fld) (u i : Nat) : (s.inc f u i).ctc = s.ctc := rfl
@[simp] theorem State.inc_hive (f : Fld) (u i : Nat) : (s.inc f u i).hive = s.hive := rfl
@[simp] theorem State.inc_cell (f : Fld) (u i : Nat) : (s.inc f u i).cell = s.cell := rfl
@[simp] theorem State.inc_out (f : Fld) (u i : Nat) : (s.inc f u i).out = s.out := rfl
@[simp] theorem State.inc_safe (f : Fld) (u i : Nat) : (s.inc f u i).safe = s.safe := rfl
@[simp] theorem State.inc_sealed (f : Fld) (u i : Nat) : (s.inc f u i).sealed = s.sealed := rfl
@[simp] theorem State.inc_part (f : Fld) (u i : Nat) : (s.inc f u i).part = s.part := rfl
@[simp] theorem State.inc_eth (f : Fld) (u i : Nat) : (s.inc f u i).eth = s.eth := rfl
@[simp] theorem State.inc_cap (f : Fld) (u i : Nat) : (s.inc f u i).cap = s.cap := rfl
@[simp] theorem State.inc_cal (f : Fld) (u i : Nat) : (s.inc f u i).cal = s.cal := rfl
@[simp] theorem State.inc_comb (f : Fld) (u i : Nat) : (s.inc f u i).comb = s.comb := rfl
@[simp] theorem State.inc_meter (f : Fld) (u i : Nat) : (s.inc f u i).meter = s.meter := rfl
@[simp] theorem State.inc_mod (f : Fld) (u i : Nat) : (s.inc f u i).mod = s.mod := rfl
@[simp] theorem State.inc_law (f : Fld) (u i : Nat) : (s.inc f u i).law = s.law := rfl
@[simp] theorem State.inc_form (f : Fld) (u i : Nat) : (s.inc f u i).form = s.form := rfl
@[simp] theorem State.inc_meas (f : Fld) (u i : Nat) : (s.inc f u i).meas = s.meas := rfl
@[simp] theorem State.inc_fes (f : Fld) (u i : Nat) : (s.inc f u i).fes = s.fes := rfl
@[simp] theorem State.inc_flash (f : Fld) (u i : Nat) : (s.inc f u i).flash = s.flash := rfl
@[simp] theorem State.inc_cyc (f : Fld) (u i : Nat) : (s.inc f u i).cyc = s.cyc := rfl
@[simp] theorem State.inc_fresh (f : Fld) (u i : Nat) : (s.inc f u i).fresh = s.fresh := rfl
@[simp] theorem State.inc_pending (f : Fld) (u i : Nat) : (s.inc f u i).pending = s.pending := rfl

/-! What `addSat` leaves. -/

@[simp] theorem State.addSat_mem (f : Fld) (k u i : Nat) : (s.addSat f k u i).mem = s.mem := rfl
@[simp] theorem State.addSat_poison (f : Fld) (k u i : Nat) : (s.addSat f k u i).poison = s.poison := rfl
@[simp] theorem State.addSat_pairs (f : Fld) (k u i : Nat) : (s.addSat f k u i).pairs = s.pairs := rfl
@[simp] theorem State.addSat_port (f : Fld) (k u i : Nat) : (s.addSat f k u i).port = s.port := rfl
@[simp] theorem State.addSat_pins (f : Fld) (k u i : Nat) : (s.addSat f k u i).pins = s.pins := rfl
@[simp] theorem State.addSat_pwr (f : Fld) (k u i : Nat) : (s.addSat f k u i).pwr = s.pwr := rfl
@[simp] theorem State.addSat_pllA (f : Fld) (k u i : Nat) : (s.addSat f k u i).pllA = s.pllA := rfl
@[simp] theorem State.addSat_pllB (f : Fld) (k u i : Nat) : (s.addSat f k u i).pllB = s.pllB := rfl
@[simp] theorem State.addSat_time (f : Fld) (k u i : Nat) : (s.addSat f k u i).time = s.time := rfl
@[simp] theorem State.addSat_memst (f : Fld) (k u i : Nat) : (s.addSat f k u i).memst = s.memst := rfl
@[simp] theorem State.addSat_drive (f : Fld) (k u i : Nat) : (s.addSat f k u i).drive = s.drive := rfl
@[simp] theorem State.addSat_ctc (f : Fld) (k u i : Nat) : (s.addSat f k u i).ctc = s.ctc := rfl
@[simp] theorem State.addSat_hive (f : Fld) (k u i : Nat) : (s.addSat f k u i).hive = s.hive := rfl
@[simp] theorem State.addSat_cell (f : Fld) (k u i : Nat) : (s.addSat f k u i).cell = s.cell := rfl
@[simp] theorem State.addSat_out (f : Fld) (k u i : Nat) : (s.addSat f k u i).out = s.out := rfl
@[simp] theorem State.addSat_safe (f : Fld) (k u i : Nat) : (s.addSat f k u i).safe = s.safe := rfl
@[simp] theorem State.addSat_sealed (f : Fld) (k u i : Nat) : (s.addSat f k u i).sealed = s.sealed := rfl
@[simp] theorem State.addSat_part (f : Fld) (k u i : Nat) : (s.addSat f k u i).part = s.part := rfl
@[simp] theorem State.addSat_eth (f : Fld) (k u i : Nat) : (s.addSat f k u i).eth = s.eth := rfl
@[simp] theorem State.addSat_cap (f : Fld) (k u i : Nat) : (s.addSat f k u i).cap = s.cap := rfl
@[simp] theorem State.addSat_cal (f : Fld) (k u i : Nat) : (s.addSat f k u i).cal = s.cal := rfl
@[simp] theorem State.addSat_comb (f : Fld) (k u i : Nat) : (s.addSat f k u i).comb = s.comb := rfl
@[simp] theorem State.addSat_meter (f : Fld) (k u i : Nat) : (s.addSat f k u i).meter = s.meter := rfl
@[simp] theorem State.addSat_mod (f : Fld) (k u i : Nat) : (s.addSat f k u i).mod = s.mod := rfl
@[simp] theorem State.addSat_law (f : Fld) (k u i : Nat) : (s.addSat f k u i).law = s.law := rfl
@[simp] theorem State.addSat_form (f : Fld) (k u i : Nat) : (s.addSat f k u i).form = s.form := rfl
@[simp] theorem State.addSat_meas (f : Fld) (k u i : Nat) : (s.addSat f k u i).meas = s.meas := rfl
@[simp] theorem State.addSat_fes (f : Fld) (k u i : Nat) : (s.addSat f k u i).fes = s.fes := rfl
@[simp] theorem State.addSat_flash (f : Fld) (k u i : Nat) : (s.addSat f k u i).flash = s.flash := rfl
@[simp] theorem State.addSat_cyc (f : Fld) (k u i : Nat) : (s.addSat f k u i).cyc = s.cyc := rfl
@[simp] theorem State.addSat_fresh (f : Fld) (k u i : Nat) : (s.addSat f k u i).fresh = s.fresh := rfl
@[simp] theorem State.addSat_pending (f : Fld) (k u i : Nat) : (s.addSat f k u i).pending = s.pending := rfl

/-! What `set64` leaves. -/

@[simp] theorem State.set64_mem (f : Fld) (v u i : Nat) : (s.set64 f v u i).mem = s.mem := rfl
@[simp] theorem State.set64_poison (f : Fld) (v u i : Nat) : (s.set64 f v u i).poison = s.poison := rfl
@[simp] theorem State.set64_pairs (f : Fld) (v u i : Nat) : (s.set64 f v u i).pairs = s.pairs := rfl
@[simp] theorem State.set64_port (f : Fld) (v u i : Nat) : (s.set64 f v u i).port = s.port := rfl
@[simp] theorem State.set64_pins (f : Fld) (v u i : Nat) : (s.set64 f v u i).pins = s.pins := rfl
@[simp] theorem State.set64_pwr (f : Fld) (v u i : Nat) : (s.set64 f v u i).pwr = s.pwr := rfl
@[simp] theorem State.set64_pllA (f : Fld) (v u i : Nat) : (s.set64 f v u i).pllA = s.pllA := rfl
@[simp] theorem State.set64_pllB (f : Fld) (v u i : Nat) : (s.set64 f v u i).pllB = s.pllB := rfl
@[simp] theorem State.set64_time (f : Fld) (v u i : Nat) : (s.set64 f v u i).time = s.time := rfl
@[simp] theorem State.set64_memst (f : Fld) (v u i : Nat) : (s.set64 f v u i).memst = s.memst := rfl
@[simp] theorem State.set64_drive (f : Fld) (v u i : Nat) : (s.set64 f v u i).drive = s.drive := rfl
@[simp] theorem State.set64_ctc (f : Fld) (v u i : Nat) : (s.set64 f v u i).ctc = s.ctc := rfl
@[simp] theorem State.set64_hive (f : Fld) (v u i : Nat) : (s.set64 f v u i).hive = s.hive := rfl
@[simp] theorem State.set64_cell (f : Fld) (v u i : Nat) : (s.set64 f v u i).cell = s.cell := rfl
@[simp] theorem State.set64_out (f : Fld) (v u i : Nat) : (s.set64 f v u i).out = s.out := rfl
@[simp] theorem State.set64_safe (f : Fld) (v u i : Nat) : (s.set64 f v u i).safe = s.safe := rfl
@[simp] theorem State.set64_sealed (f : Fld) (v u i : Nat) : (s.set64 f v u i).sealed = s.sealed := rfl
@[simp] theorem State.set64_part (f : Fld) (v u i : Nat) : (s.set64 f v u i).part = s.part := rfl
@[simp] theorem State.set64_eth (f : Fld) (v u i : Nat) : (s.set64 f v u i).eth = s.eth := rfl
@[simp] theorem State.set64_cap (f : Fld) (v u i : Nat) : (s.set64 f v u i).cap = s.cap := rfl
@[simp] theorem State.set64_cal (f : Fld) (v u i : Nat) : (s.set64 f v u i).cal = s.cal := rfl
@[simp] theorem State.set64_comb (f : Fld) (v u i : Nat) : (s.set64 f v u i).comb = s.comb := rfl
@[simp] theorem State.set64_meter (f : Fld) (v u i : Nat) : (s.set64 f v u i).meter = s.meter := rfl
@[simp] theorem State.set64_mod (f : Fld) (v u i : Nat) : (s.set64 f v u i).mod = s.mod := rfl
@[simp] theorem State.set64_law (f : Fld) (v u i : Nat) : (s.set64 f v u i).law = s.law := rfl
@[simp] theorem State.set64_form (f : Fld) (v u i : Nat) : (s.set64 f v u i).form = s.form := rfl
@[simp] theorem State.set64_meas (f : Fld) (v u i : Nat) : (s.set64 f v u i).meas = s.meas := rfl
@[simp] theorem State.set64_fes (f : Fld) (v u i : Nat) : (s.set64 f v u i).fes = s.fes := rfl
@[simp] theorem State.set64_flash (f : Fld) (v u i : Nat) : (s.set64 f v u i).flash = s.flash := rfl
@[simp] theorem State.set64_cyc (f : Fld) (v u i : Nat) : (s.set64 f v u i).cyc = s.cyc := rfl
@[simp] theorem State.set64_fresh (f : Fld) (v u i : Nat) : (s.set64 f v u i).fresh = s.fresh := rfl
@[simp] theorem State.set64_pending (f : Fld) (v u i : Nat) : (s.set64 f v u i).pending = s.pending := rfl

/-! What `setPk` leaves. -/

@[simp] theorem State.setPk_mem (f : Fld) (per step k v u : Nat) : (s.setPk f per step k v u).mem = s.mem := rfl
@[simp] theorem State.setPk_poison (f : Fld) (per step k v u : Nat) : (s.setPk f per step k v u).poison = s.poison := rfl
@[simp] theorem State.setPk_pairs (f : Fld) (per step k v u : Nat) : (s.setPk f per step k v u).pairs = s.pairs := rfl
@[simp] theorem State.setPk_port (f : Fld) (per step k v u : Nat) : (s.setPk f per step k v u).port = s.port := rfl
@[simp] theorem State.setPk_pins (f : Fld) (per step k v u : Nat) : (s.setPk f per step k v u).pins = s.pins := rfl
@[simp] theorem State.setPk_pwr (f : Fld) (per step k v u : Nat) : (s.setPk f per step k v u).pwr = s.pwr := rfl
@[simp] theorem State.setPk_pllA (f : Fld) (per step k v u : Nat) : (s.setPk f per step k v u).pllA = s.pllA := rfl
@[simp] theorem State.setPk_pllB (f : Fld) (per step k v u : Nat) : (s.setPk f per step k v u).pllB = s.pllB := rfl
@[simp] theorem State.setPk_time (f : Fld) (per step k v u : Nat) : (s.setPk f per step k v u).time = s.time := rfl
@[simp] theorem State.setPk_memst (f : Fld) (per step k v u : Nat) : (s.setPk f per step k v u).memst = s.memst := rfl
@[simp] theorem State.setPk_drive (f : Fld) (per step k v u : Nat) : (s.setPk f per step k v u).drive = s.drive := rfl
@[simp] theorem State.setPk_ctc (f : Fld) (per step k v u : Nat) : (s.setPk f per step k v u).ctc = s.ctc := rfl
@[simp] theorem State.setPk_hive (f : Fld) (per step k v u : Nat) : (s.setPk f per step k v u).hive = s.hive := rfl
@[simp] theorem State.setPk_cell (f : Fld) (per step k v u : Nat) : (s.setPk f per step k v u).cell = s.cell := rfl
@[simp] theorem State.setPk_out (f : Fld) (per step k v u : Nat) : (s.setPk f per step k v u).out = s.out := rfl
@[simp] theorem State.setPk_safe (f : Fld) (per step k v u : Nat) : (s.setPk f per step k v u).safe = s.safe := rfl
@[simp] theorem State.setPk_sealed (f : Fld) (per step k v u : Nat) : (s.setPk f per step k v u).sealed = s.sealed := rfl
@[simp] theorem State.setPk_part (f : Fld) (per step k v u : Nat) : (s.setPk f per step k v u).part = s.part := rfl
@[simp] theorem State.setPk_eth (f : Fld) (per step k v u : Nat) : (s.setPk f per step k v u).eth = s.eth := rfl
@[simp] theorem State.setPk_cap (f : Fld) (per step k v u : Nat) : (s.setPk f per step k v u).cap = s.cap := rfl
@[simp] theorem State.setPk_cal (f : Fld) (per step k v u : Nat) : (s.setPk f per step k v u).cal = s.cal := rfl
@[simp] theorem State.setPk_comb (f : Fld) (per step k v u : Nat) : (s.setPk f per step k v u).comb = s.comb := rfl
@[simp] theorem State.setPk_meter (f : Fld) (per step k v u : Nat) : (s.setPk f per step k v u).meter = s.meter := rfl
@[simp] theorem State.setPk_mod (f : Fld) (per step k v u : Nat) : (s.setPk f per step k v u).mod = s.mod := rfl
@[simp] theorem State.setPk_law (f : Fld) (per step k v u : Nat) : (s.setPk f per step k v u).law = s.law := rfl
@[simp] theorem State.setPk_form (f : Fld) (per step k v u : Nat) : (s.setPk f per step k v u).form = s.form := rfl
@[simp] theorem State.setPk_meas (f : Fld) (per step k v u : Nat) : (s.setPk f per step k v u).meas = s.meas := rfl
@[simp] theorem State.setPk_fes (f : Fld) (per step k v u : Nat) : (s.setPk f per step k v u).fes = s.fes := rfl
@[simp] theorem State.setPk_flash (f : Fld) (per step k v u : Nat) : (s.setPk f per step k v u).flash = s.flash := rfl
@[simp] theorem State.setPk_cyc (f : Fld) (per step k v u : Nat) : (s.setPk f per step k v u).cyc = s.cyc := rfl
@[simp] theorem State.setPk_fresh (f : Fld) (per step k v u : Nat) : (s.setPk f per step k v u).fresh = s.fresh := rfl
@[simp] theorem State.setPk_pending (f : Fld) (per step k v u : Nat) : (s.setPk f per step k v u).pending = s.pending := rfl

/-! What `putByte`, `saveHold`, `holdBit` and `draw` leave. -/

@[simp] theorem State.putByte_regs (a : Nat) (v : Byte) : (s.putByte a v).regs = s.regs := rfl
@[simp] theorem State.putByte_poison (a : Nat) (v : Byte) : (s.putByte a v).poison = s.poison := rfl
@[simp] theorem State.putByte_pairs (a : Nat) (v : Byte) : (s.putByte a v).pairs = s.pairs := rfl
@[simp] theorem State.putByte_port (a : Nat) (v : Byte) : (s.putByte a v).port = s.port := rfl
@[simp] theorem State.putByte_pins (a : Nat) (v : Byte) : (s.putByte a v).pins = s.pins := rfl
@[simp] theorem State.putByte_pwr (a : Nat) (v : Byte) : (s.putByte a v).pwr = s.pwr := rfl
@[simp] theorem State.putByte_pllA (a : Nat) (v : Byte) : (s.putByte a v).pllA = s.pllA := rfl
@[simp] theorem State.putByte_pllB (a : Nat) (v : Byte) : (s.putByte a v).pllB = s.pllB := rfl
@[simp] theorem State.putByte_time (a : Nat) (v : Byte) : (s.putByte a v).time = s.time := rfl
@[simp] theorem State.putByte_memst (a : Nat) (v : Byte) : (s.putByte a v).memst = s.memst := rfl
@[simp] theorem State.putByte_drive (a : Nat) (v : Byte) : (s.putByte a v).drive = s.drive := rfl
@[simp] theorem State.putByte_ctc (a : Nat) (v : Byte) : (s.putByte a v).ctc = s.ctc := rfl
@[simp] theorem State.putByte_hive (a : Nat) (v : Byte) : (s.putByte a v).hive = s.hive := rfl
@[simp] theorem State.putByte_cell (a : Nat) (v : Byte) : (s.putByte a v).cell = s.cell := rfl
@[simp] theorem State.putByte_out (a : Nat) (v : Byte) : (s.putByte a v).out = s.out := rfl
@[simp] theorem State.putByte_safe (a : Nat) (v : Byte) : (s.putByte a v).safe = s.safe := rfl
@[simp] theorem State.putByte_sealed (a : Nat) (v : Byte) : (s.putByte a v).sealed = s.sealed := rfl
@[simp] theorem State.putByte_part (a : Nat) (v : Byte) : (s.putByte a v).part = s.part := rfl
@[simp] theorem State.putByte_eth (a : Nat) (v : Byte) : (s.putByte a v).eth = s.eth := rfl
@[simp] theorem State.putByte_cap (a : Nat) (v : Byte) : (s.putByte a v).cap = s.cap := rfl
@[simp] theorem State.putByte_cal (a : Nat) (v : Byte) : (s.putByte a v).cal = s.cal := rfl
@[simp] theorem State.putByte_comb (a : Nat) (v : Byte) : (s.putByte a v).comb = s.comb := rfl
@[simp] theorem State.putByte_meter (a : Nat) (v : Byte) : (s.putByte a v).meter = s.meter := rfl
@[simp] theorem State.putByte_mod (a : Nat) (v : Byte) : (s.putByte a v).mod = s.mod := rfl
@[simp] theorem State.putByte_law (a : Nat) (v : Byte) : (s.putByte a v).law = s.law := rfl
@[simp] theorem State.putByte_form (a : Nat) (v : Byte) : (s.putByte a v).form = s.form := rfl
@[simp] theorem State.putByte_meas (a : Nat) (v : Byte) : (s.putByte a v).meas = s.meas := rfl
@[simp] theorem State.putByte_fes (a : Nat) (v : Byte) : (s.putByte a v).fes = s.fes := rfl
@[simp] theorem State.putByte_flash (a : Nat) (v : Byte) : (s.putByte a v).flash = s.flash := rfl
@[simp] theorem State.putByte_cyc (a : Nat) (v : Byte) : (s.putByte a v).cyc = s.cyc := rfl
@[simp] theorem State.putByte_fresh (a : Nat) (v : Byte) : (s.putByte a v).fresh = s.fresh := rfl
@[simp] theorem State.putByte_pending (a : Nat) (v : Byte) : (s.putByte a v).pending = s.pending := rfl
@[simp] theorem State.saveHold_regs  : (s.saveHold ).regs = s.regs := rfl
@[simp] theorem State.saveHold_mem  : (s.saveHold ).mem = s.mem := rfl
@[simp] theorem State.saveHold_poison  : (s.saveHold ).poison = s.poison := rfl
@[simp] theorem State.saveHold_pairs  : (s.saveHold ).pairs = s.pairs := rfl
@[simp] theorem State.saveHold_port  : (s.saveHold ).port = s.port := rfl
@[simp] theorem State.saveHold_pins  : (s.saveHold ).pins = s.pins := rfl
@[simp] theorem State.saveHold_pllA  : (s.saveHold ).pllA = s.pllA := rfl
@[simp] theorem State.saveHold_pllB  : (s.saveHold ).pllB = s.pllB := rfl
@[simp] theorem State.saveHold_time  : (s.saveHold ).time = s.time := rfl
@[simp] theorem State.saveHold_memst  : (s.saveHold ).memst = s.memst := rfl
@[simp] theorem State.saveHold_drive  : (s.saveHold ).drive = s.drive := rfl
@[simp] theorem State.saveHold_ctc  : (s.saveHold ).ctc = s.ctc := rfl
@[simp] theorem State.saveHold_hive  : (s.saveHold ).hive = s.hive := rfl
@[simp] theorem State.saveHold_cell  : (s.saveHold ).cell = s.cell := rfl
@[simp] theorem State.saveHold_out  : (s.saveHold ).out = s.out := rfl
@[simp] theorem State.saveHold_safe  : (s.saveHold ).safe = s.safe := rfl
@[simp] theorem State.saveHold_sealed  : (s.saveHold ).sealed = s.sealed := rfl
@[simp] theorem State.saveHold_part  : (s.saveHold ).part = s.part := rfl
@[simp] theorem State.saveHold_eth  : (s.saveHold ).eth = s.eth := rfl
@[simp] theorem State.saveHold_cap  : (s.saveHold ).cap = s.cap := rfl
@[simp] theorem State.saveHold_cal  : (s.saveHold ).cal = s.cal := rfl
@[simp] theorem State.saveHold_comb  : (s.saveHold ).comb = s.comb := rfl
@[simp] theorem State.saveHold_meter  : (s.saveHold ).meter = s.meter := rfl
@[simp] theorem State.saveHold_mod  : (s.saveHold ).mod = s.mod := rfl
@[simp] theorem State.saveHold_law  : (s.saveHold ).law = s.law := rfl
@[simp] theorem State.saveHold_form  : (s.saveHold ).form = s.form := rfl
@[simp] theorem State.saveHold_meas  : (s.saveHold ).meas = s.meas := rfl
@[simp] theorem State.saveHold_fes  : (s.saveHold ).fes = s.fes := rfl
@[simp] theorem State.saveHold_flash  : (s.saveHold ).flash = s.flash := rfl
@[simp] theorem State.saveHold_cyc  : (s.saveHold ).cyc = s.cyc := rfl
@[simp] theorem State.saveHold_fresh  : (s.saveHold ).fresh = s.fresh := rfl
@[simp] theorem State.saveHold_pending  : (s.saveHold ).pending = s.pending := rfl
@[simp] theorem State.holdBit_mem (b : Block) (v : Bool) : (s.holdBit b v).mem = s.mem := rfl
@[simp] theorem State.holdBit_poison (b : Block) (v : Bool) : (s.holdBit b v).poison = s.poison := rfl
@[simp] theorem State.holdBit_pairs (b : Block) (v : Bool) : (s.holdBit b v).pairs = s.pairs := rfl
@[simp] theorem State.holdBit_port (b : Block) (v : Bool) : (s.holdBit b v).port = s.port := rfl
@[simp] theorem State.holdBit_pins (b : Block) (v : Bool) : (s.holdBit b v).pins = s.pins := rfl
@[simp] theorem State.holdBit_pllA (b : Block) (v : Bool) : (s.holdBit b v).pllA = s.pllA := rfl
@[simp] theorem State.holdBit_pllB (b : Block) (v : Bool) : (s.holdBit b v).pllB = s.pllB := rfl
@[simp] theorem State.holdBit_time (b : Block) (v : Bool) : (s.holdBit b v).time = s.time := rfl
@[simp] theorem State.holdBit_memst (b : Block) (v : Bool) : (s.holdBit b v).memst = s.memst := rfl
@[simp] theorem State.holdBit_drive (b : Block) (v : Bool) : (s.holdBit b v).drive = s.drive := rfl
@[simp] theorem State.holdBit_ctc (b : Block) (v : Bool) : (s.holdBit b v).ctc = s.ctc := rfl
@[simp] theorem State.holdBit_hive (b : Block) (v : Bool) : (s.holdBit b v).hive = s.hive := rfl
@[simp] theorem State.holdBit_cell (b : Block) (v : Bool) : (s.holdBit b v).cell = s.cell := rfl
@[simp] theorem State.holdBit_out (b : Block) (v : Bool) : (s.holdBit b v).out = s.out := rfl
@[simp] theorem State.holdBit_safe (b : Block) (v : Bool) : (s.holdBit b v).safe = s.safe := rfl
@[simp] theorem State.holdBit_sealed (b : Block) (v : Bool) : (s.holdBit b v).sealed = s.sealed := rfl
@[simp] theorem State.holdBit_part (b : Block) (v : Bool) : (s.holdBit b v).part = s.part := rfl
@[simp] theorem State.holdBit_eth (b : Block) (v : Bool) : (s.holdBit b v).eth = s.eth := rfl
@[simp] theorem State.holdBit_cap (b : Block) (v : Bool) : (s.holdBit b v).cap = s.cap := rfl
@[simp] theorem State.holdBit_cal (b : Block) (v : Bool) : (s.holdBit b v).cal = s.cal := rfl
@[simp] theorem State.holdBit_comb (b : Block) (v : Bool) : (s.holdBit b v).comb = s.comb := rfl
@[simp] theorem State.holdBit_meter (b : Block) (v : Bool) : (s.holdBit b v).meter = s.meter := rfl
@[simp] theorem State.holdBit_mod (b : Block) (v : Bool) : (s.holdBit b v).mod = s.mod := rfl
@[simp] theorem State.holdBit_law (b : Block) (v : Bool) : (s.holdBit b v).law = s.law := rfl
@[simp] theorem State.holdBit_form (b : Block) (v : Bool) : (s.holdBit b v).form = s.form := rfl
@[simp] theorem State.holdBit_meas (b : Block) (v : Bool) : (s.holdBit b v).meas = s.meas := rfl
@[simp] theorem State.holdBit_fes (b : Block) (v : Bool) : (s.holdBit b v).fes = s.fes := rfl
@[simp] theorem State.holdBit_flash (b : Block) (v : Bool) : (s.holdBit b v).flash = s.flash := rfl
@[simp] theorem State.holdBit_cyc (b : Block) (v : Bool) : (s.holdBit b v).cyc = s.cyc := rfl
@[simp] theorem State.holdBit_fresh (b : Block) (v : Bool) : (s.holdBit b v).fresh = s.fresh := rfl
@[simp] theorem State.holdBit_pending (b : Block) (v : Bool) : (s.holdBit b v).pending = s.pending := rfl
@[simp] theorem State.draw_regs (n : Nat) : (s.draw n).2.regs = s.regs := rfl
@[simp] theorem State.draw_mem (n : Nat) : (s.draw n).2.mem = s.mem := rfl
@[simp] theorem State.draw_poison (n : Nat) : (s.draw n).2.poison = s.poison := rfl
@[simp] theorem State.draw_pairs (n : Nat) : (s.draw n).2.pairs = s.pairs := rfl
@[simp] theorem State.draw_port (n : Nat) : (s.draw n).2.port = s.port := rfl
@[simp] theorem State.draw_pins (n : Nat) : (s.draw n).2.pins = s.pins := rfl
@[simp] theorem State.draw_pwr (n : Nat) : (s.draw n).2.pwr = s.pwr := rfl
@[simp] theorem State.draw_pllA (n : Nat) : (s.draw n).2.pllA = s.pllA := rfl
@[simp] theorem State.draw_pllB (n : Nat) : (s.draw n).2.pllB = s.pllB := rfl
@[simp] theorem State.draw_time (n : Nat) : (s.draw n).2.time = s.time := rfl
@[simp] theorem State.draw_memst (n : Nat) : (s.draw n).2.memst = s.memst := rfl
@[simp] theorem State.draw_drive (n : Nat) : (s.draw n).2.drive = s.drive := rfl
@[simp] theorem State.draw_ctc (n : Nat) : (s.draw n).2.ctc = s.ctc := rfl
@[simp] theorem State.draw_hive (n : Nat) : (s.draw n).2.hive = s.hive := rfl
@[simp] theorem State.draw_cell (n : Nat) : (s.draw n).2.cell = s.cell := rfl
@[simp] theorem State.draw_out (n : Nat) : (s.draw n).2.out = s.out := rfl
@[simp] theorem State.draw_safe (n : Nat) : (s.draw n).2.safe = s.safe := rfl
@[simp] theorem State.draw_sealed (n : Nat) : (s.draw n).2.sealed = s.sealed := rfl
@[simp] theorem State.draw_part (n : Nat) : (s.draw n).2.part = s.part := rfl
@[simp] theorem State.draw_eth (n : Nat) : (s.draw n).2.eth = s.eth := rfl
@[simp] theorem State.draw_cap (n : Nat) : (s.draw n).2.cap = s.cap := rfl
@[simp] theorem State.draw_cal (n : Nat) : (s.draw n).2.cal = s.cal := rfl
@[simp] theorem State.draw_comb (n : Nat) : (s.draw n).2.comb = s.comb := rfl
@[simp] theorem State.draw_meter (n : Nat) : (s.draw n).2.meter = s.meter := rfl
@[simp] theorem State.draw_mod (n : Nat) : (s.draw n).2.mod = s.mod := rfl
@[simp] theorem State.draw_law (n : Nat) : (s.draw n).2.law = s.law := rfl
@[simp] theorem State.draw_form (n : Nat) : (s.draw n).2.form = s.form := rfl
@[simp] theorem State.draw_meas (n : Nat) : (s.draw n).2.meas = s.meas := rfl
@[simp] theorem State.draw_fes (n : Nat) : (s.draw n).2.fes = s.fes := rfl
@[simp] theorem State.draw_flash (n : Nat) : (s.draw n).2.flash = s.flash := rfl
@[simp] theorem State.draw_cyc (n : Nat) : (s.draw n).2.cyc = s.cyc := rfl
@[simp] theorem State.draw_fresh (n : Nat) : (s.draw n).2.fresh = s.fresh + 1 := rfl
@[simp] theorem State.draw_pending (n : Nat) : (s.draw n).2.pending = s.pending := rfl
@[simp] theorem State.draw_value (n : Nat) : (s.draw n).1 = Config.freeNat s.fresh % n := rfl

/-! The state after a register update is the state with other registers, and nothing else. -/

theorem State.putWord_eq (a : Nat) (v : Word) : s.putWord a v = { s with regs := (s.putWord a v).regs } := rfl
theorem State.set_eq (f : Fld) (v u i : Nat) : s.set f v u i = s.putWord (f.addr u i) (withField (s.word (f.addr u i)) f.lo f.w v) := rfl
theorem State.setb_eq (f : Fld) (v : Bool) (u i : Nat) : s.setb f v u i = s.set f (b2n v) u i := rfl
theorem State.seti_eq (f : Fld) (v : Int) (u i : Nat) : s.seti f v u i = s.set f (unsigned f.w v) u i := rfl
theorem State.inc_eq (f : Fld) (u i : Nat) : s.inc f u i = s.set f (satInc (2 ^ f.w - 1) (s.get f u i)) u i := rfl
theorem State.addSat_eq (f : Fld) (k u i : Nat) : s.addSat f k u i = s.set f (satAdd (2 ^ f.w - 1) (s.get f u i) k) u i := rfl

/-! Words. A record update that keeps the registers keeps every word. -/

theorem State.word_congr {s t : State} (h : t.regs = s.regs) (a : Nat) : t.word a = s.word a := by simp only [State.word, h]

theorem State.get_congr {s t : State} (h : t.regs = s.regs) (f : Fld) (u i : Nat) : t.get f u i = s.get f u i := by
  simp only [State.get, State.word_congr h]

theorem State.byte_congr {s t : State} (h : t.mem = s.mem) (a : Nat) : t.byte a = s.byte a := by simp only [State.byte, h]

variable {s}

theorem State.word_putWord_same (h : regsWf s) (a : Nat) (v : Word) : (s.putWord a v).word a = v :=
  sparseFind_put_same h

theorem State.word_putWord_other (h : regsWf s) {a c : Nat} (v : Word) (hne : c ≠ a) : (s.putWord a v).word c = s.word c := by
  simp only [State.word, State.putWord, sparseFind_put_other h hne]

theorem State.word_putWord (h : regsWf s) (a c : Nat) (v : Word) : (s.putWord a v).word c = if c = a then v else s.word c := by
  split
  · next e => rw [e, State.word_putWord_same h]
  · next e => exact State.word_putWord_other h v e

theorem State.word_set_other (h : regsWf s) (f : Fld) (v u i : Nat) {c : Nat} (hne : c ≠ f.addr u i) : (s.set f v u i).word c = s.word c :=
  State.word_putWord_other h _ hne

/-! Fields. -/

theorem State.get_set_same (h : regsWf s) (f : Fld) (v u i : Nat) (hf : f.lo + f.w ≤ 32) : (s.set f v u i).get f u i = v % 2 ^ f.w := by
  simp only [State.get, State.set, State.word_putWord_same h, fieldOf_withField_same _ _ _ _ hf]

theorem State.get_set_other (h : regsWf s) (f g : Fld) (v u i u' i' : Nat) (hf : f.lo + f.w ≤ 32)
    (hd : g.addr u' i' ≠ f.addr u i ∨ g.lo + g.w ≤ f.lo ∨ f.lo + f.w ≤ g.lo) :
    (s.set f v u i).get g u' i' = s.get g u' i' := by
  by_cases ha : g.addr u' i' = f.addr u i
  · simp only [State.get, State.set, ha, State.word_putWord_same h]
    exact fieldOf_withField_other _ _ _ _ _ _ hf (hd.resolve_left (fun hn => hn ha))
  · simp only [State.get, State.set, State.word_putWord_other h _ ha]

theorem State.get_lt (f : Fld) (u i : Nat) : s.get f u i < 2 ^ f.w := fieldOf_lt _ _ _

theorem State.flag_eq (f : Fld) (u i : Nat) : s.flag f u i = (s.get f u i != 0) := rfl

theorem State.get_putWord_other (h : regsWf s) (g : Fld) (a : Nat) (v : Word) (u i : Nat) (hne : g.addr u i ≠ a) :
    (s.putWord a v).get g u i = s.get g u i := by
  simp only [State.get, State.word_putWord_other h v hne]

theorem State.get_putWord_same (h : regsWf s) (g : Fld) (v : Word) (u i : Nat) :
    (s.putWord (g.addr u i) v).get g u i = fieldOf v g.lo g.w := by
  simp only [State.get, State.word_putWord_same h]

/-! The canonical form is kept. -/

theorem regsWf_putWord (h : regsWf s) (a : Nat) (v : Word) : regsWf (s.putWord a v) := sparsePut_wf h
theorem regsWf_set (h : regsWf s) (f : Fld) (v u i : Nat) : regsWf (s.set f v u i) := sparsePut_wf h
theorem regsWf_setb (h : regsWf s) (f : Fld) (v : Bool) (u i : Nat) : regsWf (s.setb f v u i) := sparsePut_wf h
theorem regsWf_seti (h : regsWf s) (f : Fld) (v : Int) (u i : Nat) : regsWf (s.seti f v u i) := sparsePut_wf h
theorem regsWf_inc (h : regsWf s) (f : Fld) (u i : Nat) : regsWf (s.inc f u i) := sparsePut_wf h
theorem regsWf_addSat (h : regsWf s) (f : Fld) (k u i : Nat) : regsWf (s.addSat f k u i) := sparsePut_wf h
theorem regsWf_set64 (h : regsWf s) (f : Fld) (v u i : Nat) : regsWf (s.set64 f v u i) := sparsePut_wf (sparsePut_wf h)
theorem regsWf_setPk (h : regsWf s) (f : Fld) (per step k v u : Nat) : regsWf (s.setPk f per step k v u) := sparsePut_wf h
theorem regsWf_holdBit (h : regsWf s) (b : Block) (v : Bool) : regsWf (s.holdBit b v) := sparsePut_wf h
theorem memWf_putByte (h : memWf s) (a : Nat) (v : Byte) : memWf (s.putByte a v) := sparsePut_wf (dflt := fun _ => unwritten) h

/-! Bytes of the host memory space. -/

theorem State.byte_putByte (h : memWf s) (a c : Nat) (v : Byte) : (s.putByte a v).byte c = if c = a then v else s.byte c := by
  split
  · next e => rw [e]; exact sparseFind_put_same (dflt := fun _ => unwritten) h
  · next e => simp only [State.byte, State.putByte, sparseFind_put_other (dflt := fun _ => unwritten) h e]

end Sys2Proof.Machine
end

