-- ==== Sys2Proof/Laws/Events.lean ====
section
/-! SUPPORT. What a refusal (R88), a fault event (R97 to R108) and a severe source do to the state, said once. -/

namespace Sys2Proof.Machine

open Sys2Proof.Safety

variable {s : State}

/-! Severe sources. -/

/-- A rise of HOST_SEV_SUM leaves the registers. -/
theorem State.severeTrigger_regs (s : State) : s.severeTrigger.regs = s.regs := by
  unfold State.severeTrigger
  split <;> rfl

theorem State.word_severeTrigger (s : State) (a : Nat) : s.severeTrigger.word a = s.word a := State.word_congr s.severeTrigger_regs a

theorem State.get_severeTrigger (s : State) (f : Fld) (u i : Nat) : s.severeTrigger.get f u i = s.get f u i := State.get_congr s.severeTrigger_regs f u i

theorem regsWf_severeTrigger (h : regsWf s) : regsWf s.severeTrigger := by
  unfold regsWf
  rw [State.severeTrigger_regs]
  exact h

theorem State.makeSevere_hold (b : Block) (n : Nat) : RegsHold s (s.makeSevere b n) := by
  unfold State.makeSevere
  dsimp only
  split
  · unfold State.severeTrigger
    split <;> rfl
  · rfl

theorem regsWf_makeSevere (h : regsWf s) (b : Block) (n : Nat) : regsWf (s.makeSevere b n) := by
  unfold State.makeSevere
  dsimp only
  split
  · exact regsWf_severeTrigger (regsWf_holdBit (regsWf_set (regsWf_set h _ _ _ _) _ _ _ _) _ _)
  · exact regsWf_set (regsWf_set h _ _ _ _) _ _ _ _

theorem State.word_holdBit_other (h : regsWf s) (b : Block) (v : Bool) {a : Nat} (ha : a ≠ 0x000214) : (s.holdBit b v).word a = s.word a :=
  State.word_putWord_other h _ ha

theorem State.get_holdBit_other (h : regsWf s) (b : Block) (v : Bool) (f : Fld) {u i : Nat} (ha : f.addr u i ≠ 0x000214) :
    (s.holdBit b v).get f u i = s.get f u i := by
  simp only [State.get, State.word_holdBit_other h b v ha]

theorem State.word_makeSevere_other (h : regsWf s) (b : Block) (n : Nat) {a : Nat} (ha : a ∉ evtRegs b n) :
    (s.makeSevere b n).word a = s.word a := by
  simp only [evtRegs, List.mem_cons, List.not_mem_nil, or_false, not_or] at ha
  have h1 := regsWf_set h ⟨ctrlAddr b 0x10, 0, 0, n, 1⟩ 1 0 0
  have h2 := regsWf_set h1 (FLT_N_WCNT b) 0 0 n
  have e1 : a ≠ Fld.addr ⟨ctrlAddr b 0x10, 0, 0, n, 1⟩ 0 0 := by simpa [Fld.addr] using ha.2.1
  have e2 : a ≠ (FLT_N_WCNT b).addr 0 n := by simpa [Fld.addr, FLT_N_WCNT] using ha.2.2.2.1
  unfold State.makeSevere
  dsimp only
  split
  · rw [State.word_severeTrigger, State.word_holdBit_other h2 _ _ ha.2.2.2.2.1, State.word_set_other h1 _ _ _ _ e2, State.word_set_other h _ _ _ _ e1]
  · rw [State.word_set_other h1 _ _ _ _ e2, State.word_set_other h _ _ _ _ e1]

/-! Events. -/

/-- The two registers every event writes. -/
def State.noted (s : State) (src : Source) (unit : Nat) : State :=
  (s.set ⟨ctrlAddr src.blk 0x04, 0, 0, src.s, 1⟩ 1).putWord (ctrlAddr src.blk 0x14)
    (BitVec.ofNat 32 (src.s + unit % 0x100 * 0x100
      + (if (s.set ⟨ctrlAddr src.blk 0x04, 0, 0, src.s, 1⟩ 1).running then (s.set ⟨ctrlAddr src.blk 0x04, 0, 0, src.s, 1⟩ 1).get SYS_CYC_NUM_CYC % 0x10000 else 0) * 0x10000))

/-- The event counted on its source's registers. -/
def State.tallied (s : State) (src : Source) (unit : Nat) : State := (s.noted src unit).inc (FLT_N_TOTAL src.blk) 0 src.s

/-- The window's N is latched when the event opens the window (R99). -/
def State.latched (s : State) (src : Source) (unit : Nat) : State :=
  if (s.tallied src unit).get (FLT_N_WCNT src.blk) 0 src.s = 0
    then (s.tallied src unit).set (FLT_WINDOW_N src.blk) ((s.tallied src unit).get (FLT_N_N src.blk) 0 src.s) 0 src.s
    else s.tallied src unit

theorem State.raise_eq (s : State) (src : Source) (unit : Nat) : s.raise src unit =
    if !src.counted then s.noted src unit
    else if (s.tallied src unit).flag ⟨ctrlAddr src.blk 0x10, 0, 0, src.s, 1⟩ then s.tallied src unit
    else if (s.tallied src unit).get (FLT_N_WCNT src.blk) 0 src.s + 1 ≥ (s.latched src unit).get (FLT_WINDOW_N src.blk) 0 src.s
      then (s.latched src unit).makeSevere src.blk src.s
      else (s.latched src unit).set (FLT_N_WCNT src.blk) (min 0xFF ((s.tallied src unit).get (FLT_N_WCNT src.blk) 0 src.s + 1)) 0 src.s := rfl

/-- What one event can do: it is noted, and a counted source is counted, becomes severe or moves on in its window. -/
theorem State.raise_cases (s : State) (src : Source) (unit : Nat) :
    (src.counted = false ∧ s.raise src unit = s.noted src unit) ∨
    (src.counted = true ∧ (s.raise src unit = s.tallied src unit ∨ s.raise src unit = (s.latched src unit).makeSevere src.blk src.s ∨
      ∃ k, s.raise src unit = (s.latched src unit).set (FLT_N_WCNT src.blk) k 0 src.s)) := by
  rw [State.raise_eq]
  by_cases hc : src.counted = true
  · refine .inr ⟨hc, ?_⟩
    rw [hc, if_neg (by decide)]
    split
    · exact .inl rfl
    · split
      · exact .inr (.inl rfl)
      · exact .inr (.inr ⟨_, rfl⟩)
  · rw [Bool.not_eq_true] at hc
    exact .inl ⟨hc, by rw [hc]; rfl⟩

theorem regsWf_noted (h : regsWf s) (src : Source) (unit : Nat) : regsWf (s.noted src unit) := regsWf_putWord (regsWf_set h _ _ _ _) _ _

theorem regsWf_tallied (h : regsWf s) (src : Source) (unit : Nat) : regsWf (s.tallied src unit) := regsWf_inc (regsWf_noted h src unit) _ _ _

theorem regsWf_latched (h : regsWf s) (src : Source) (unit : Nat) : regsWf (s.latched src unit) := by
  unfold State.latched
  split
  · exact regsWf_set (regsWf_tallied h src unit) _ _ _ _
  · exact regsWf_tallied h src unit

/-- The latch touches registers only. -/
theorem State.latched_regs (s : State) (src : Source) (unit : Nat) : RegsOnly s (s.latched src unit) := by
  unfold State.latched
  split <;> rfl

/-- The latch leaves every register but its own. -/
theorem State.word_latched_other (h : regsWf s) (src : Source) (unit : Nat) {a : Nat} (ha : a ≠ (FLT_WINDOW_N src.blk).addr 0 src.s) :
    (s.latched src unit).word a = (s.tallied src unit).word a := by
  unfold State.latched
  split
  · exact State.word_set_other (regsWf_tallied h src unit) _ _ _ _ ha
  · rfl

theorem regsWf_raise (h : regsWf s) (src : Source) (unit : Nat) : regsWf (s.raise src unit) := by
  have hn := regsWf_noted h src unit
  rcases s.raise_cases src unit with ⟨_, e⟩ | ⟨_, e | e | ⟨k, e⟩⟩ <;> rw [e]
  · exact hn
  · exact regsWf_tallied h src unit
  · exact regsWf_makeSevere (regsWf_latched h src unit) _ _
  · exact regsWf_set (regsWf_latched h src unit) _ _ _ _

/-- An event touches registers and the hold copy only. -/
theorem State.raise_hold (s : State) (src : Source) (unit : Nat) : RegsHold s (s.raise src unit) := by
  rcases s.raise_cases src unit with ⟨_, e⟩ | ⟨_, e | e | ⟨k, e⟩⟩ <;> rw [e]
  · rfl
  · rfl
  · have hl : RegsHold s (s.latched src unit) := by unfold State.latched; split <;> rfl
    exact (State.makeSevere_hold _ _).trans (by rw [hl])
  · unfold State.latched
    split <;> rfl

/-- An event leaves every register outside the source's own. -/
theorem State.word_raise_other (h : regsWf s) (src : Source) (unit : Nat) {a : Nat} (ha : a ∉ evtRegs src.blk src.s) :
    (s.raise src unit).word a = s.word a := by
  have hn := regsWf_noted h src unit
  have ha' := ha
  simp only [evtRegs, List.mem_cons, List.not_mem_nil, or_false, not_or] at ha
  have e1 : a ≠ Fld.addr ⟨ctrlAddr src.blk 0x04, 0, 0, src.s, 1⟩ 0 0 := by simpa [Fld.addr] using ha.1
  have e4 : a ≠ (FLT_N_TOTAL src.blk).addr 0 src.s := by simpa [Fld.addr, FLT_N_TOTAL] using ha.2.2.2.1
  have e5 : a ≠ (FLT_N_WCNT src.blk).addr 0 src.s := by simpa [Fld.addr, FLT_N_WCNT] using ha.2.2.2.1
  have e6 : a ≠ (FLT_WINDOW_N src.blk).addr 0 src.s := by simpa [Fld.addr, FLT_WINDOW_N] using ha.2.2.2.2.2
  have hw : (s.noted src unit).word a = s.word a := by
    unfold State.noted
    rw [State.word_putWord_other (regsWf_set h _ _ _ _) _ ha.2.2.1, State.word_set_other h _ _ _ _ e1]
  have hi : (s.tallied src unit).word a = s.word a := by
    unfold State.tallied
    rw [State.inc_eq, State.word_set_other hn _ _ _ _ e4, hw]
  rcases s.raise_cases src unit with ⟨_, e⟩ | ⟨_, e | e | ⟨k, e⟩⟩ <;> rw [e]
  · exact hw
  · exact hi
  · rw [State.word_makeSevere_other (regsWf_latched h src unit) _ _ ha', State.word_latched_other h src unit e6, hi]
  · rw [State.word_set_other (regsWf_latched h src unit) _ _ _ _ e5, State.word_latched_other h src unit e6, hi]

theorem State.mem_raise (s : State) (src : Source) (unit : Nat) : (s.raise src unit).mem = s.mem :=
  (congrArg State.mem (s.raise_hold src unit : _ = _)).trans rfl

theorem State.pending_raise (s : State) (src : Source) (unit : Nat) : (s.raise src unit).pending = s.pending :=
  (congrArg State.pending (s.raise_hold src unit : _ = _)).trans rfl

/-- An event leaves every field outside the source's own registers. -/
theorem State.get_raise_other (h : regsWf s) (src : Source) (unit : Nat) (f : Fld) (u i : Nat) (ha : f.addr u i ∉ evtRegs src.blk src.s) :
    (s.raise src unit).get f u i = s.get f u i := by
  simp only [State.get, State.word_raise_other h src unit ha]

theorem ctrlAddr_inj {b : Block} {m n : Nat} (h : ctrlAddr b m = ctrlAddr b n) : m = n := Nat.add_left_cancel h

/-- An event sets its STATUS bit (R97). -/
theorem State.raise_status (h : regsWf s) (src : Source) (unit : Nat) (hs : src.s < 16) :
    (s.raise src unit).get ⟨ctrlAddr src.blk 0x04, 0, 0, src.s, 1⟩ 0 0 = 1 := by
  have hn := regsWf_noted h src unit
  have hlo : ctrlAddr src.blk 0x04 < 0x1B0000 := by cases src.blk <;> decide
  have d : ∀ m, m ≠ 0x04 → ctrlAddr src.blk 0x04 ≠ ctrlAddr src.blk m := fun m hm e => hm (ctrlAddr_inj e).symm
  have dn : ctrlAddr src.blk 0x04 ≠ ctrlAddr src.blk 0x40 + 8 * src.s := by unfold ctrlAddr; omega
  have d214 : ctrlAddr src.blk 0x04 ≠ 0x000214 := by cases src.blk <;> decide
  have h0 : (s.noted src unit).get ⟨ctrlAddr src.blk 0x04, 0, 0, src.s, 1⟩ 0 0 = 1 := by
    unfold State.noted
    rw [State.get_putWord_other (regsWf_set h _ _ _ _) _ _ _ _ _ (by simpa [Fld.addr] using d 0x14 (by decide)),
      State.get_set_same h _ _ _ _ (by simpa using (by omega : src.s + 1 ≤ 32))]
    simp
  have hi : (s.tallied src unit).get ⟨ctrlAddr src.blk 0x04, 0, 0, src.s, 1⟩ 0 0 = 1 := by
    unfold State.tallied
    rw [State.inc_eq, State.get_set_other hn _ _ _ _ _ _ _ (by simp [FLT_N_TOTAL]) (.inl (by simpa [Fld.addr, FLT_N_TOTAL] using dn)), h0]
  have hl : (s.latched src unit).get ⟨ctrlAddr src.blk 0x04, 0, 0, src.s, 1⟩ 0 0 = 1 := by
    have e := State.word_latched_other h src unit (a := ctrlAddr src.blk 0x04)
      (by simp only [Fld.addr, FLT_WINDOW_N, Nat.mul_zero, Nat.add_zero]; omega)
    have key : ∀ w : State, w.get ⟨ctrlAddr src.blk 0x04, 0, 0, src.s, 1⟩ 0 0 = fieldOf (w.word (ctrlAddr src.blk 0x04)) src.s 1 :=
      fun w => by simp [State.get, Fld.addr]
    rw [key, e, ← key, hi]
  rcases s.raise_cases src unit with ⟨_, e⟩ | ⟨_, e | e | ⟨k, e⟩⟩ <;> rw [e]
  · exact h0
  · exact hi
  · unfold State.makeSevere
    dsimp only
    have w1 := regsWf_latched h src unit
    have w2 := regsWf_set w1 ⟨ctrlAddr src.blk 0x10, 0, 0, src.s, 1⟩ 1 0 0
    have w3 := regsWf_set w2 (FLT_N_WCNT src.blk) 0 0 src.s
    have g2 : ((s.latched src unit).set ⟨ctrlAddr src.blk 0x10, 0, 0, src.s, 1⟩ 1).get
        ⟨ctrlAddr src.blk 0x04, 0, 0, src.s, 1⟩ 0 0 = 1 := by
      rw [State.get_set_other w1 _ _ _ _ _ _ _ (by simpa using (by omega : src.s + 1 ≤ 32)) (.inl (by simpa [Fld.addr] using d 0x10 (by decide))), hl]
    have g3 := (State.get_set_other w2 (FLT_N_WCNT src.blk) ⟨ctrlAddr src.blk 0x04, 0, 0, src.s, 1⟩ 0 0 src.s 0 0 (by simp [FLT_N_WCNT])
      (.inl (by simpa [Fld.addr, FLT_N_WCNT] using dn))).trans g2
    split
    · rw [State.get_severeTrigger, State.get_holdBit_other w3 _ _ _ (by simpa [Fld.addr] using d214), g3]
    · exact g3
  · rw [State.get_set_other (regsWf_latched h src unit) _ _ _ _ _ _ _ (by simp [FLT_N_WCNT]) (.inl (by simpa [Fld.addr, FLT_N_WCNT] using dn)), hl]

theorem State.raiseIf_true (src : Source) (unit : Nat) : s.raiseIf true src unit = s.raise src unit := rfl
theorem State.raiseIf_false (src : Source) (unit : Nat) : s.raiseIf false src unit = s := rfl

theorem regsWf_raiseIf (h : regsWf s) (c : Bool) (src : Source) (unit : Nat) : regsWf (s.raiseIf c src unit) := by
  cases c
  · exact h
  · exact regsWf_raise h src unit

/-! Refusals. -/

theorem regsWf_refuse (h : regsWf s) (b : Block) (r u o : Nat) : regsWf (s.refuse b r u o) :=
  regsWf_inc (regsWf_putWord (regsWf_putWord h _ _) _ _) _ _ _

/-- A refusal touches registers only. -/
theorem State.refuse_regs (b : Block) (r u o : Nat) : RegsOnly s (s.refuse b r u o) := rfl

/-- A refusal leaves every register but CHK, CHK_LAST and CHK_CNT. -/
theorem State.word_refuse_other (h : regsWf s) (b : Block) (r u o : Nat) {a : Nat} (ha : a ∉ refuseRegs b) :
    (s.refuse b r u o).word a = s.word a := by
  simp only [refuseRegs, List.mem_cons, List.not_mem_nil, or_false, not_or] at ha
  have e3 : a ≠ CHK_CNT_CNT.addr 0 0 := by simpa [Fld.addr, CHK_CNT_CNT] using ha.2.2
  unfold State.refuse
  dsimp only
  rw [State.inc_eq, State.word_set_other (regsWf_putWord (regsWf_putWord h _ _) _ _) _ _ _ _ e3,
    State.word_putWord_other (regsWf_putWord h _ _) _ ha.2.1, State.word_putWord_other h _ ha.1]

/-- What a refusal records in the block's CHK (R88). -/
theorem State.word_refuse_chk (h : regsWf s) (b : Block) (r u o : Nat) :
    (s.refuse b r u o).word (ctrlAddr b 0x0C) = BitVec.ofNat 32 (r % 0x10000 + (u % 0x100) * 0x10000 + (o % 0x100) * 0x1000000) := by
  have e1 : ctrlAddr b 0x0C ≠ CHK_CNT_CNT.addr 0 0 := by cases b <;> decide
  have e2 : ctrlAddr b 0x0C ≠ 0x030100 := by cases b <;> decide
  unfold State.refuse
  dsimp only
  rw [State.inc_eq, State.word_set_other (regsWf_putWord (regsWf_putWord h _ _) _ _) _ _ _ _ e1,
    State.word_putWord_other (regsWf_putWord h _ _) _ e2, State.word_putWord_same h]

end Sys2Proof.Machine
end

