-- ==== Sys2Proof/Laws/Mem.lean ====
section
/-! SUPPORT. The laws of the host memory space: every operation on it keeps its canonical form, and a store writes its own bytes and leaves every other byte. -/

namespace Sys2Proof.Machine

open Sys2Proof.Safety

variable {s : State}

/-! Stores. -/

theorem memWf_putBytes (h : memWf s) (a : Nat) (bs : List Byte) : memWf (s.putBytes a bs) := by
  induction bs generalizing s a with
  | nil => exact h
  | cons b t ih => exact ih (memWf_putByte h a b) (a + 1)

theorem memWf_store (h : memWf s) (a : Nat) (bs : List Byte) : memWf (s.store a bs) := memWf_putBytes h a bs

/-- A run of bytes leaves every byte outside it. -/
theorem State.byte_putBytes_other (h : memWf s) {a c : Nat} {bs : List Byte} (hc : c < a ∨ a + bs.length ≤ c) :
    (s.putBytes a bs).byte c = s.byte c := by
  induction bs generalizing s a with
  | nil => rfl
  | cons b t ih =>
    have hlen : (b :: t).length = t.length + 1 := rfl
    rw [hlen] at hc
    refine (ih (memWf_putByte h a b) (by omega)).trans ?_
    rw [State.byte_putByte h, if_neg (by omega)]

/-- A run of bytes writes each of them at its place. -/
theorem State.byte_putBytes (h : memWf s) {a k : Nat} {bs : List Byte} (hk : k < bs.length) :
    (s.putBytes a bs).byte (a + k) = bs[k] := by
  induction bs generalizing s a k with
  | nil => exact absurd hk (Nat.not_lt_zero _)
  | cons b t ih =>
    cases k with
    | zero =>
      refine (State.byte_putBytes_other (memWf_putByte h a b) (.inl (by omega))).trans ?_
      rw [State.byte_putByte h]; simp
    | succ k =>
      have hk' : k < t.length := Nat.lt_of_succ_lt_succ hk
      have e := ih (memWf_putByte h a b) (a := a + 1) hk'
      rw [show a + (k + 1) = a + 1 + k by omega]
      exact e

/-- A store leaves every byte outside it (R494: a partial write of a tile keeps the tile's other bytes). -/
theorem State.byte_store_other (h : memWf s) {a c : Nat} {bs : List Byte} (hc : c < a ∨ a + bs.length ≤ c) : (s.store a bs).byte c = s.byte c :=
  State.byte_putBytes_other h hc

/-- A store writes each of its bytes. -/
theorem State.byte_store (h : memWf s) {a k : Nat} {bs : List Byte} (hk : k < bs.length) : (s.store a bs).byte (a + k) = bs[k] :=
  State.byte_putBytes h hk

/-- A store touches the host memory space and its poison, and nothing else. -/
theorem State.store_only (s : State) (a : Nat) (bs : List Byte) :
    s.store a bs = { s with mem := (s.store a bs).mem, poison := (s.store a bs).poison } := by
  have hp : ∀ (l : List Byte) (s : State) (a : Nat), s.putBytes a l = { s with mem := (s.putBytes a l).mem } := by
    intro l
    induction l with
    | nil => intro s a; rfl
    | cons b t ih =>
      intro s a
      have e := ih (s.putByte a b) (a + 1)
      simp only [State.putBytes]
      rw [e]
      rfl
  unfold State.store
  dsimp only
  rw [hp bs s a]

theorem State.regs_store (s : State) (a : Nat) (bs : List Byte) : (s.store a bs).regs = s.regs :=
  (congrArg State.regs (s.store_only a bs)).trans rfl

/-! Events, refusals and counters leave the memory. -/

theorem State.mem_raiseIf (s : State) (c : Bool) (src : Source) (unit : Nat) : (s.raiseIf c src unit).mem = s.mem := by
  cases c
  · rfl
  · exact State.mem_raise s src unit

theorem memWf_raise (h : memWf s) (src : Source) (unit : Nat) : memWf (s.raise src unit) := by
  unfold memWf
  rw [State.mem_raise]
  exact h

theorem memWf_raiseIf (h : memWf s) (c : Bool) (src : Source) (unit : Nat) : memWf (s.raiseIf c src unit) := by
  cases c
  · exact h
  · exact memWf_raise h src unit

theorem memWf_set (h : memWf s) (f : Fld) (v u i : Nat) : memWf (s.set f v u i) := h
theorem memWf_inc (h : memWf s) (f : Fld) (u i : Nat) : memWf (s.inc f u i) := h
theorem memWf_refuse (h : memWf s) (b : Block) (r u o : Nat) : memWf (s.refuse b r u o) := h
theorem memWf_poisonTile (h : memWf s) (t : Nat) : memWf (s.poisonTile t) := by
  unfold State.poisonTile
  split <;> exact h

/-! Reads. -/

/-- A checked read leaves the memory as it is (R495). -/
theorem State.mem_load (s : State) (m a n : Nat) : (s.load m a n).2.2.mem = s.mem := by
  unfold State.load
  dsimp only
  generalize (tilesOf a n).filter (s.poison.contains ·) = bad
  generalize hm : s.mem = x
  induction bad generalizing s with
  | nil => exact hm
  | cons t l ih =>
    rw [List.foldl_cons]
    split
    · exact ih s hm
    · exact ih _ ((State.mem_raiseIf _ _ _ _).trans ((State.mem_raise _ _ _).trans hm))

theorem memWf_load (h : memWf s) (m a n : Nat) : memWf (s.load m a n).2.2 := by
  unfold memWf
  rw [State.mem_load]
  exact h

/-- A read that meets no poisoned tile answers the bytes and changes nothing. -/
theorem State.load_clean {m a n : Nat} (h : s.poisoned a n = false) : s.load m a n = (s.bytes a n, false, s) := by
  have e : (tilesOf a n).filter (s.poison.contains ·) = [] := by
    rw [List.filter_eq_nil_iff]
    intro t ht
    have := List.any_eq_false.1 h t ht
    exact this
  unfold State.load
  simp only [e, List.foldl_nil, List.isEmpty_nil, Bool.not_true]

/-! MRAM, the change log and the dual-port bank. -/

theorem memWf_mramWrite (h : memWf s) (a : Nat) (bs : List Byte) : memWf (s.mramWrite a bs).2 := by
  unfold State.mramWrite
  dsimp only
  split
  · exact memWf_raise (memWf_store h a bs) _ _
  · exact memWf_store h a bs

/-- An MRAM write without a bad tile succeeds and only stores (R501). -/
theorem State.mramWrite_good (h : s.pwr.mramBad = []) (a : Nat) (bs : List Byte) : s.mramWrite a bs = (true, s.store a bs) := by
  have e : (tilesOf a bs.length).any (s.pwr.mramBad.contains ·) = false := by
    rw [List.any_eq_false, h]
    intro t _
    simp
  unfold State.mramWrite
  simp only [e, Bool.false_eq_true, if_false]

/-- The four hash words of the log leave the memory. -/
theorem memWf_foldSet (h : memWf s) (l : List Nat) (f : Fld) (v : Nat → Nat) : memWf (l.foldl (fun s k => s.set f (v k) 0 k) s) := by
  induction l generalizing s with
  | nil => exact h
  | cons k t ih => exact ih (memWf_set h f (v k) 0 k)

theorem memWf_logAppend (h : memWf s) (kind source addr old new : Nat) (detail : List Byte) :
    memWf (s.logAppend kind source addr old new detail).2 := by
  unfold State.logAppend
  extract_lets seq t body prev hash w s1 s2
  have hw : memWf w.2 := memWf_mramWrite h _ _
  split
  · exact memWf_foldSet (memWf_set (memWf_raiseIf hw _ _ _) _ _ _ _) _ _ _
  · exact memWf_raise hw _ _

/-- Where every MRAM tile reads back, an entry is appended (R547). -/
theorem State.logAppend_good (h : s.pwr.mramBad = []) (kind source addr old new : Nat) (detail : List Byte) :
    (s.logAppend kind source addr old new detail).1 = true := by
  unfold State.logAppend
  extract_lets seq t body prev hash w s1 s2
  have hw : w.1 = true := by simp only [w, State.mramWrite_good h]
  rw [if_pos hw]

theorem memWf_logged (h : memWf s) (kind source addr old new : Nat) (detail : List Byte) (act : State → State)
    (ha : ∀ s, memWf s → memWf (act s)) : memWf (s.logged kind source addr old new detail act).2 := by
  unfold State.logged
  dsimp only
  split
  · exact ha _ (memWf_logAppend h _ _ _ _ _ _)
  · exact memWf_refuse (memWf_logAppend h _ _ _ _ _ _) _ _ _ _

theorem memWf_portAWrite (h : memWf s) (off v : Nat) : memWf (s.portAWrite off v) := memWf_store h _ _

theorem memWf_collision (h : memWf s) (a : Nat) : memWf (s.collision a) := memWf_raise (memWf_set (memWf_inc h _ _ _) _ _ _ _) _ _

theorem memWf_portBWrite (same : Bool) : ∀ (bs : List Byte) (s : State) (a : Nat), memWf s → memWf (s.portBWrite same a bs).2
  | b0 :: b1 :: b2 :: b3 :: t, s, a, h => by
    unfold State.portBWrite
    dsimp only
    split
    · exact memWf_portBWrite same t _ _ (memWf_collision h a)
    · exact memWf_portBWrite same t _ _ (memWf_store h _ _)
  | [], s, a, h => memWf_store h a []
  | [b], s, a, h => memWf_store h a [b]
  | [b, c], s, a, h => memWf_store h a [b, c]
  | [b, c, d], s, a, h => memWf_store h a [b, c, d]

theorem memWf_foldPoison (h : memWf s) (l : List (Fin 128)) (n : Nat) : memWf (l.foldl (fun s f => s.poisonTile (n + f.val)) s) := by
  induction l generalizing s with
  | nil => exact h
  | cons f t ih => exact ih (memWf_poisonTile h _)

theorem memWf_bistAdvance (h : memWf s) (b g : Nat) : memWf (s.bistAdvance b g) := by
  unfold State.bistAdvance
  dsimp only
  split
  · exact h
  · split <;> exact h

theorem memWf_bistBorrow (h : memWf s) (faulty : List (Fin 128)) : memWf (opBistBorrow faulty s) := by
  unfold opBistBorrow
  split
  · split
    · exact h
    · dsimp only
      apply memWf_bistAdvance
      split
      · exact memWf_foldPoison h _ _
      · exact memWf_raise (memWf_set (memWf_set (memWf_foldPoison h _ _) _ _ _ _) _ _ _ _) _ _
  · exact h

theorem memWf_bistAbandon (h : memWf s) : memWf (opBistAbandon s) := by
  unfold opBistAbandon
  split
  · split
    · exact h
    · exact memWf_bistAdvance (memWf_raise (memWf_inc h _ _ _) _ _) _ _
  · exact h

/-- A command takes effect only on the running die: what its effect keeps, it keeps. -/
theorem memWf_live {t : State} (h : memWf s) (ht : memWf t) : memWf (s.live t) := by
  unfold State.live
  split
  · exact ht
  · exact h

theorem memWf_mramRefresh (h : memWf s) (tile : Fin 16384) : memWf (opMramRefresh tile s) := by
  unfold opMramRefresh
  split
  · exact memWf_live h (memWf_load h _ _ _)
  · exact h

/-- The memory right after reset lists nothing. -/
theorem memWf_reset : memWf State.reset := rfl

end Sys2Proof.Machine
end

