-- ==== Sys2Proof/Tests/Slice0.lean ====
section
/-! SUPPORT. The model's own tests: for every statement with hypotheses a concrete state and operands that meet those of each of its clauses, an ill-formed command for every check of well-formedness, and the check values of the CRCs and the hash. -/

open Sys2Proof Sys2Proof.Machine Sys2Proof.Safety

namespace Sys2Proof.Tests

set_option Elab.async false
set_option linter.unusedVariables false

/-! The states of the witnesses: a running device with the listed registers. -/

/-- The state after reset with every rail up and both dies out of reset (R38, R39). -/
def awake : State := { State.reset with pwr := { State.reset.pwr with coreUp := true }, pins := { State.reset.pins with rails := [.vdd08, .vddpll, .vdds10, .vio18, .vio33, .vaon, .v5a, .vdrv] } }

/-- That state with these register words. -/
def W (l : List (Nat × Nat)) : State := { awake with regs := l.map (fun p => (p.1, BitVec.ofNat 32 p.2)) }

/-- A word differs from the reset word of its register in a bit that no fuse sets. -/
def notReset (a : Nat) (v : Word) : Bool :=
  match regDefAt a with
  | none => decide (v ≠ 0#32)
  | some d => decide (v &&& ~~~BitVec.ofNat 32 d.fuse ≠ BitVec.ofNat 32 d.reset &&& ~~~BitVec.ofNat 32 d.fuse)

/-- Addresses rise and every word differs from the reset word. -/
def listed : List (Nat × Word) → Bool
  | [] => true
  | [(a, v)] => notReset a v
  | (a, v) :: (b, x) :: t => notReset a v && decide (a < b) && listed ((b, x) :: t)

theorem notReset_ne {a : Nat} {v : Word} (h : notReset a v = true) : v ≠ resetWord a := by
  intro e
  rw [e] at h
  unfold notReset resetWord at h
  cases hr : regDefAt a with
  | none => rw [hr] at h; simp at h
  | some d =>
    rw [hr] at h
    dsimp only at h
    split at h
    · simp at h
    · revert h
      rw [decide_eq_true_eq]
      intro h
      apply h
      ext i hi
      simp only [BitVec.getElem_and, BitVec.getElem_or, BitVec.getElem_not]
      cases (BitVec.ofNat 32 d.fuse)[i] <;> simp

theorem listed_wf : ∀ {l : List (Nat × Word)}, listed l = true → sparseWf resetWord l = true
  | [], _ => rfl
  | [(a, v)], h => by simpa [sparseWf] using notReset_ne h
  | (a, v) :: (b, x) :: t, h => by
    simp only [listed, Bool.and_eq_true] at h
    simp only [sparseWf, Bool.and_eq_true]
    exact ⟨⟨decide_eq_true (notReset_ne h.1.1), h.1.2⟩, listed_wf h.2⟩

/-- A state whose registers are listed so holds them in canonical form. -/
theorem wf {s : State} (h : listed s.regs = true) : regsWf s := listed_wf h

/-- Layer 1 of 0 is 0. -/
theorem layer1_zero (s : State) (p : Nat) : s.layer1 p 0 = 0 := by
  unfold State.layer1
  simp [rdiv, q29]

/-- A skim word of 0 stays below a comparator limit above 0. -/
theorem layer1_zero_lt {s : State} {n : Nat} (h : 0 < n) : (s.layer1 2 (0#32 : BitVec 32).toInt).natAbs < n := by
  have e : (0#32 : BitVec 32).toInt = 0 := by decide
  rw [e, layer1_zero]
  exact h

/-- `b` with the two fused calibration registers of SAR converter 1 all zero, whatever the fuses hold. -/
def zeroFuses (b : State) : State := (b.putWord (CAL_F_SAROFS_OFS.addr 0 1) 0#32).putWord (CAL_F_SAR_GAIN.addr 0 1) 0#32

theorem zeroFuses_wf {b : State} (h : regsWf b) : regsWf (zeroFuses b) := regsWf_putWord (regsWf_putWord h _ _) _ _

theorem zeroFuses_get {b : State} (h : regsWf b) (f : Fld) (u i : Nat) (h1 : f.addr u i ≠ CAL_F_SAROFS_OFS.addr 0 1) (h2 : f.addr u i ≠ CAL_F_SAR_GAIN.addr 0 1) : (zeroFuses b).get f u i = b.get f u i := by
  unfold State.get zeroFuses
  rw [State.word_putWord_other (regsWf_putWord h _ _) _ h2, State.word_putWord_other h _ h1]

theorem zeroFuses_sar {b : State} (h : regsWf b) (code : Nat) : (zeroFuses b).sarLayer1 1 code = (code : Int) * 256 * 2 ^ 31 := by
  have h1 : (zeroFuses b).geti CAL_F_SAROFS_OFS 0 1 = 0 := by
    unfold State.geti State.get zeroFuses
    rw [State.word_putWord_other (regsWf_putWord h _ _) _ (by decide), State.word_putWord_same h]
    decide
  have h2 : (zeroFuses b).geti CAL_F_SAR_GAIN 0 1 = 0 := by
    unfold State.geti State.get zeroFuses
    rw [State.word_putWord_same (regsWf_putWord h _ _)]
    decide
  unfold State.sarLayer1
  rw [h1, h2]
  simp

theorem pair_true {p : Bool × State} (h : p.1 = true) : p = (true, p.2) := by
  rw [← h]

theorem passHash_congr {s t : State} {m n : Nat} (h : s.regs = t.regs) (e : m = n) : s.passHash m = t.passHash n := by
  unfold State.passHash State.get64 State.word
  rw [h, e]

/-! The hypotheses of every statement are met. -/


theorem test_witness_AddressesWithoutARegister :
  (∃ (s : State) (a : BitVec 24), s.hostUp = true ∧ a.toNat % 4 = 0 ∧ regDefAt a.toNat = none ∧ s.pairs.captured = []) ∧
  (∃ (s : State) (a : BitVec 24) (v : BitVec 32), regsWf s ∧ s.hostUp = true ∧ regDefAt a.toNat = none) :=
  ⟨⟨awake, (0x000FFC#24 : BitVec 24), by decide +kernel⟩,
   ⟨awake, (0x2A34FC#24 : BitVec 24), (5#32 : BitVec 32), rfl, by decide +kernel⟩⟩

theorem test_witness_PairsAreReadAndWrittenWhole :
  (∃ (s : State) (a : BitVec 24), s.hostUp = true ∧ isPairLow a.toNat = true ∧ sparseFind a.toNat s.pairs.captured = none ∧ a.toNat ≠ 0x040100) ∧
  (∃ (s : State) (a : BitVec 24) (w : Word), s.hostUp = true ∧ sparseFind a.toNat s.pairs.captured = some w) ∧
  (∃ (s : State) (a : BitVec 24), s.hostUp = true ∧ isPairLow a.toNat = false ∧ sparseFind a.toNat s.pairs.captured = none) ∧
  (∃ (s : State), s.hostUp = true ∧ s.pairs.captured = []) ∧
  (∃ (s : State) (a : BitVec 24) (v : BitVec 32), s.hostUp = true ∧ isPairLow a.toNat = true ∧ (regDefAt a.toNat).isSome = true) ∧
  (∃ (s : State) (v : BitVec 32), regsWf s ∧ s.hostUp = true) :=
  ⟨⟨awake, (0x00010C#24 : BitVec 24), by decide +kernel⟩,
   ⟨({ awake with pairs := { awake.pairs with captured := [(272, 0x00000007#32)] } } : State), (0x000110#24 : BitVec 24), (7#32 : Word), by decide +kernel⟩,
   ⟨awake, (0x000110#24 : BitVec 24), by decide +kernel⟩,
   ⟨awake, by decide +kernel⟩,
   ⟨awake, (0x190208#24 : BitVec 24), (9#32 : BitVec 32), by decide +kernel⟩,
   ⟨awake, (5#32 : BitVec 32), rfl, by decide +kernel⟩⟩

theorem test_witness_QspiReadFramesAnswer :
  (∃ (s : State) (a : BitVec 24) (n : BitVec 8), s.hostUp = true ∧ 1 ≤ n.toNat ∧ n.toNat ≤ 64 ∧ a.toNat % 4 = 0) ∧
  (∃ (s : State) (a : BitVec 24) (n : BitVec 16), s.hostUp = true ∧ 4 ≤ n.toNat ∧ n.toNat ≤ 256 ∧ n.toNat % 4 = 0 ∧ a.toNat % 4 = 0 ∧ (bankOfRange a.toNat n.toNat).isSome = true ∧ s.poison = [] ∧ ∀ i, i < n.toNat → openByte (a.toNat + i) = false) ∧
  (∃ (s : State) (a : BitVec 24) (n : BitVec 16), s.hostUp = true ∧ 4 ≤ n.toNat ∧ n.toNat ≤ 256 ∧ n.toNat % 4 = 0 ∧ a.toNat % 4 = 0 ∧ bankOfRange a.toNat n.toNat = none) ∧
  (∃ (s : State), s.hostUp = true) :=
  ⟨⟨awake, (0x000100#24 : BitVec 24), (6#8 : BitVec 8), by decide +kernel⟩,
   ⟨awake, (0x500010#24 : BitVec 24), (12#16 : BitVec 16), by decide +kernel⟩,
   ⟨awake, (0x680000#24 : BitVec 24), (12#16 : BitVec 16), by decide +kernel⟩,
   ⟨awake, by decide +kernel⟩⟩

theorem test_witness_QspiWriteFramesAreJudgedWhole :
  (∃ (s : State) (q : BitVec 8) (a : BitVec 24) (n : BitVec 8) (d : List (BitVec 32)) (c : BitVec 16), regsWf s ∧ s.hostUp = true ∧ crc16 (writeRegBytes q a n d) ≠ c) ∧
  (∃ (s : State) (q : BitVec 8) (a : BitVec 24) (n : BitVec 8) (d : List (BitVec 32)), regsWf s ∧ s.hostUp = true ∧ d.length = n.toNat ∧ s.flag HOST_PORT_STAT_BUSY = true) ∧
  (∃ (s : State) (q : BitVec 8) (a : BitVec 24) (n : BitVec 8) (d : List (BitVec 32)), regsWf s ∧ s.hostUp = true ∧ d.length = n.toNat ∧ s.flag HOST_PORT_STAT_BUSY = false ∧ s.flag HOST_PORT_STAT_SEQ_VALID = true ∧ s.get HOST_PORT_STAT_LAST_SEQ = q.toNat) :=
  ⟨⟨awake, (3#8 : BitVec 8), (0x000104#24 : BitVec 24), (1#8 : BitVec 8), ([7#32] : List (BitVec 32)), (1#16 : BitVec 16), rfl, by decide +kernel⟩,
   ⟨(W [(0x170100, 0x200)]), (3#8 : BitVec 8), (0x000104#24 : BitVec 24), (1#8 : BitVec 8), ([7#32] : List (BitVec 32)), wf (by decide +kernel), by decide +kernel⟩,
   ⟨(W [(0x170100, 0x103)]), (3#8 : BitVec 8), (0x000104#24 : BitVec 24), (1#8 : BitVec 8), ([7#32] : List (BitVec 32)), wf (by decide +kernel), by decide +kernel⟩⟩

theorem test_witness_QspiWriteFramesAreExecuted :
  (∃ (s : State) (q : BitVec 8) (v : BitVec 32), regsWf s ∧ s.hostUp = true ∧ s.flag HOST_PORT_STAT_BUSY = false ∧ (s.flag HOST_PORT_STAT_SEQ_VALID = false ∨ s.get HOST_PORT_STAT_LAST_SEQ ≠ q.toNat)) ∧
  (∃ (s : State) (q : BitVec 8) (a : BitVec 24) (n : BitVec 16) (d : List (BitVec 8)), regsWf s ∧ memWf s ∧ s.hostUp = true ∧ d.length = n.toNat ∧ 4 ≤ n.toNat ∧ n.toNat ≤ 256 ∧ n.toNat % 4 = 0 ∧ a.toNat % 4 = 0 ∧ 0x500000 ≤ a.toNat ∧ a.toNat + n.toNat ≤ 0x5C0000 ∧ s.flag HOST_PORT_STAT_BUSY = false ∧ (s.flag HOST_PORT_STAT_SEQ_VALID = false ∨ s.get HOST_PORT_STAT_LAST_SEQ ≠ q.toNat)) ∧
  (∃ (s : State) (i : Nat), regsWf s ∧ s.hostUp = true ∧ s.flag HOST_PORT_STAT_BUSY = true ∧ s.port.waiting = none ∧ i < 64 ∧ (s.port.outcomes.find? (fun (o : Nat × Nat) => o.1 != ST_OK)).map Prod.snd = some i ∧ frameStatus s.port.outcomes = ST_REFUSED) ∧
  (∃ (s : State), regsWf s ∧ s.hostUp = true ∧ s.flag HOST_PORT_STAT_BUSY = true ∧ s.port.waiting = none ∧ s.port.outcomes.all (fun (o : Nat × Nat) => o.1 == ST_OK) = true) :=
  ⟨⟨awake, (3#8 : BitVec 8), (77#32 : BitVec 32), rfl, by decide +kernel⟩,
   ⟨awake, (3#8 : BitVec 8), (0x500100#24 : BitVec 24), (8#16 : BitVec 16), ([1#8, 2#8, 0#8, 4#8, 5#8, 6#8, 7#8, 8#8] : List (BitVec 8)), rfl, by decide +kernel⟩,
   ⟨({ W [(0x170100, 0x200)] with port := { awake.port with outcomes := [(0, 0), (2, 1)] } } : State), (1 : Nat), wf (by decide +kernel), by decide +kernel⟩,
   ⟨(W [(0x170100, 0x200)]), wf (by decide +kernel), by decide +kernel⟩⟩

theorem test_witness_RegisterWritesFollowTheAccessCodes :
  (∃ (s : State) (v : BitVec 32), regsWf s ∧ s.hostUp = true) ∧
  (∃ (s : State) (v : BitVec 32), regsWf s ∧ s.hostUp = true ∧ s.en .sys = false) ∧
  (∃ (s : State) (v : BitVec 32), regsWf s ∧ s.hostUp = true ∧ s.en .sys = true ∧ s.get SYS_CYC_TIMING_SAMPLE_OFS ≠ v.toNat % 0x10000 ∧ s.get SYS_CYC_TIMING_APPLY_LEAD ≠ v.toNat / 0x10000) ∧
  (∃ (s : State) (v : BitVec 32), regsWf s ∧ s.hostUp = true ∧ v = s.word 0x000104) ∧
  (∃ (s : State) (v : BitVec 32), regsWf s ∧ s.hostUp = true) ∧
  (∃ (s : State) (v : BitVec 32), regsWf s ∧ s.hostUp = true) ∧
  (∃ (s : State) (v : BitVec 32), regsWf s ∧ s.hostUp = true ∧ s.get SEAL_SW_STATE ≠ SW_OPEN ∧ fieldOf (s.word 0x0B1100) 0 16 ≠ v.toNat % 0x10000) :=
  ⟨⟨awake, (0x00030004#32 : BitVec 32), rfl, by decide +kernel⟩,
   ⟨awake, (0x00030004#32 : BitVec 32), rfl, by decide +kernel⟩,
   ⟨(W [(0x000000, 0x1)]), (0x00030004#32 : BitVec 32), wf (by decide +kernel), by decide +kernel⟩,
   ⟨awake, (resetWord 0x000104 : BitVec 32), rfl, by decide +kernel⟩,
   ⟨awake, (0x00030004#32 : BitVec 32), rfl, by decide +kernel⟩,
   ⟨awake, (0x00030004#32 : BitVec 32), rfl, by decide +kernel⟩,
   ⟨awake, (0x00030004#32 : BitVec 32), rfl, by decide +kernel⟩⟩

theorem test_witness_MemoryTestBorrowsGroups :
  (∃ (s : State) (f : Fin 128) (b : Nat) (g : Nat) (w : Bool), regsWf s ∧ s.pwr.coreUp = true ∧ s.bistRuns = true ∧ s.bistNext = some ((b, g), w) ∧ b < 4 ∧ g < 1024) ∧
  (∃ (s : State) (p : (Nat × Nat) × Bool), regsWf s ∧ s.pwr.coreUp = true ∧ s.bistRuns = true ∧ s.bistNext = some p) ∧
  (∃ (s : State) (p : (Nat × Nat) × Bool), regsWf s ∧ s.pwr.coreUp = true ∧ s.bistRuns = true ∧ s.bistNext = some p) ∧
  (∃ (s : State) (k : Fin 16384), regsWf s ∧ s.pwr.aonUp = true ∧ s.poison.contains (MRAM / 32 + k.val) = true) ∧
  (∃ (s : State) (k : Fin 16384), s.poison.contains (MRAM / 32 + k.val) = false) :=
  ⟨⟨(W [(0x151000, 0x1)]), (5 : Fin 128), (let s : State := (W [(0x151000, 0x1)]); (s.bistNext.elim 0 (·.1.1) : Nat)), (let s : State := (W [(0x151000, 0x1)]); (s.bistNext.elim 0 (·.1.2) : Nat)), (let s : State := (W [(0x151000, 0x1)]); (s.bistNext.elim false (·.2) : Bool)), wf (by decide +kernel), by decide +kernel⟩,
   ⟨(W [(0x151000, 0x1)]), (let s : State := (W [(0x151000, 0x1)]); (s.bistNext.getD ((0, 0), false) : (Nat × Nat) × Bool)), wf (by decide +kernel), by decide +kernel⟩,
   ⟨(W [(0x151000, 0x1)]), (let s : State := (W [(0x151000, 0x1)]); (s.bistNext.getD ((0, 0), false) : (Nat × Nat) × Bool)), wf (by decide +kernel), by decide +kernel⟩,
   ⟨({ awake with poison := [196615], pwr := { awake.pwr with aonUp := true } } : State), (7 : Fin 16384), rfl, by decide +kernel⟩,
   ⟨awake, (7 : Fin 16384), by decide +kernel⟩⟩

theorem test_witness_HostCorrectionsOfNetworkTime :
  (∃ (s : State) (v : BitVec 32), regsWf s ∧ s.pwr.coreUp = true ∧ s.gating = false ∧ s.pstate ≠ PRIME ∧ s.running = false ∧ s.capLive = false ∧ s.pwr.mramBad = [] ∧ s.get SEAL_LOG_NEXT_SEQ < 1024) ∧
  (∃ (s : State) (v : BitVec 32), regsWf s ∧ s.pwr.coreUp = true ∧ s.get TIME_SLEW_CFG_SRC = 2 ∧ v.toInt.natAbs ≤ s.get TIME_SLEW_CFG_JUMP_THR) ∧
  (∃ (s : State) (v : BitVec 32), regsWf s ∧ s.pwr.coreUp = true ∧ s.get TIME_SLEW_CFG_SRC = 2 ∧ s.get TIME_SLEW_CFG_JUMP_THR < v.toInt.natAbs) ∧
  (∃ (s : State) (v : BitVec 32), regsWf s ∧ s.pwr.coreUp = true ∧ s.get TIME_SLEW_CFG_SRC = 2) ∧
  (∃ (s : State), regsWf s ∧ s.pwr.coreUp = true ∧ s.get TIME_SLEW_CFG_SRC ≠ 0) ∧
  (∃ (s : State), s.pwr.coreUp = true ∧ (s.get TIME_SYNC_STAT_STATE = LOCKED_ST ∨ s.get TIME_SYNC_STAT_STATE = MASTER)) :=
  ⟨⟨awake, (5#32 : BitVec 32), rfl, by decide +kernel⟩,
   ⟨(W [(0x040118, 0x464003E8)]), (0xFFFFFF9C#32 : BitVec 32), wf (by decide +kernel), by decide +kernel⟩,
   ⟨(W [(0x040118, 0x464003E8)]), (0x7FFFFF9C#32 : BitVec 32), wf (by decide +kernel), by decide +kernel⟩,
   ⟨(W [(0x040118, 0x464003E8)]), (0xFFFFFF9C#32 : BitVec 32), wf (by decide +kernel), by decide +kernel⟩,
   ⟨awake, rfl, by decide +kernel⟩,
   ⟨(W [(0x040128, 0x5)]), by decide +kernel⟩⟩

theorem test_witness_PtpSlaveCorrectsItsClock :
  (∃ (s : State) (m : PtpSync) (o : Int), regsWf s ∧ s.pwr.coreUp = true ∧ s.slave = true ∧ s.ptpMine m.port m.domain m.udp m.plain = true ∧ s.time.master.map (·.src) = some m.src ∧ m.twoStep = false ∧ o = s.rxStamp m.port - m.origin.toNat - m.corr - (s.get TIME_MPD_MPD : Nat) ∧ o.natAbs ≤ s.get TIME_SLEW_CFG_JUMP_THR) ∧
  (∃ (s : State) (m : PtpSync), s.pwr.coreUp = true ∧ s.slave = true ∧ s.ptpMine m.port m.domain m.udp m.plain = true ∧ s.time.master.map (·.src) = some m.src ∧ m.twoStep = true) ∧
  (∃ (s : State) (m : PtpFollowUp) (t2 : Int) (c : Int) (o : Int), regsWf s ∧ s.pwr.coreUp = true ∧ s.slave = true ∧ s.ptpMine m.port m.domain m.udp m.plain = true ∧ s.time.sync = some (m.src.toNat, m.seq.toNat, t2, c) ∧ o = t2 - m.origin.toNat - c - m.corr - (s.get TIME_MPD_MPD : Nat) ∧ o.natAbs ≤ s.get TIME_SLEW_CFG_JUMP_THR) ∧
  (∃ (s : State) (m : PtpDelayResp) (t3 : Int) (d : Int), regsWf s ∧ s.pwr.coreUp = true ∧ s.slave = true ∧ s.ptpMine m.port m.domain m.udp m.plain = true ∧ m.toUs = true ∧ s.time.master.map (·.src) = some m.src ∧ s.time.lastT21 = some d ∧ s.flag TIME_PTP_CFG_DELAY = false ∧ s.time.req = some (m.seq.toNat, t3)) ∧
  (∃ (s : State) (m : PtpPdelayResp) (t1 : Int), regsWf s ∧ s.pwr.coreUp = true ∧ s.ptpMine m.port m.domain m.udp m.plain = true ∧ m.toUs = true ∧ s.flag TIME_PTP_CFG_DELAY = true ∧ s.time.req = some (m.seq.toNat, t1)) :=
  ⟨⟨({ W [(0x040000, 0x1), (0x040118, 0x264186A0)] with time := { awake.time with master := some { port := false, domain := 0x00#8, src := 0x0000000000000005#64, gm := 0x0000000000000005#64, priority1 := 0x01#8, clockClass := 0x01#8, accuracy := 0x01#8, variance := 0x0001#16, priority2 := 0x01#8, steps := 0x0001#16, ptpScale := true, utcOffset := 0x0025#16, utcValid := true, udp := false, plain := true } } } : State), ((⟨false, 0#8, 5#64, 9#16, false, 4000#64, 0, false, true⟩ : PtpSync) : PtpSync), (let s : State := ({ W [(0x040000, 0x1), (0x040118, 0x264186A0)] with time := { awake.time with master := some { port := false, domain := 0x00#8, src := 0x0000000000000005#64, gm := 0x0000000000000005#64, priority1 := 0x01#8, clockClass := 0x01#8, accuracy := 0x01#8, variance := 0x0001#16, priority2 := 0x01#8, steps := 0x0001#16, ptpScale := true, utcOffset := 0x0025#16, utcValid := true, udp := false, plain := true } } } : State); let m : PtpSync := (⟨false, 0#8, 5#64, 9#16, false, 4000#64, 0, false, true⟩ : PtpSync); (s.rxStamp m.port - m.origin.toNat - m.corr - (s.get TIME_MPD_MPD : Nat) : Int)), wf (by decide +kernel), by decide +kernel⟩,
   ⟨({ W [(0x040000, 0x1)] with time := { awake.time with master := some { port := false, domain := 0x00#8, src := 0x0000000000000005#64, gm := 0x0000000000000005#64, priority1 := 0x01#8, clockClass := 0x01#8, accuracy := 0x01#8, variance := 0x0001#16, priority2 := 0x01#8, steps := 0x0001#16, ptpScale := true, utcOffset := 0x0025#16, utcValid := true, udp := false, plain := true } } } : State), ((⟨false, 0#8, 5#64, 9#16, true, 4000#64, 0, false, true⟩ : PtpSync) : PtpSync), by decide +kernel⟩,
   ⟨({ W [(0x040000, 0x1)] with time := { awake.time with sync := some (5, 9, 4990, 1), master := some { port := false, domain := 0x00#8, src := 0x0000000000000005#64, gm := 0x0000000000000005#64, priority1 := 0x01#8, clockClass := 0x01#8, accuracy := 0x01#8, variance := 0x0001#16, priority2 := 0x01#8, steps := 0x0001#16, ptpScale := true, utcOffset := 0x0025#16, utcValid := true, udp := false, plain := true } } } : State), (⟨false, 0#8, 5#64, 9#16, 4000#64, 2, false, true⟩ : PtpFollowUp), (4990 : Int), (1 : Int), (let s : State := ({ W [(0x040000, 0x1)] with time := { awake.time with sync := some (5, 9, 4990, 1), master := some { port := false, domain := 0x00#8, src := 0x0000000000000005#64, gm := 0x0000000000000005#64, priority1 := 0x01#8, clockClass := 0x01#8, accuracy := 0x01#8, variance := 0x0001#16, priority2 := 0x01#8, steps := 0x0001#16, ptpScale := true, utcOffset := 0x0025#16, utcValid := true, udp := false, plain := true } } } : State); let m : PtpFollowUp := ⟨false, 0#8, 5#64, 9#16, 4000#64, 2, false, true⟩; let t2 : Int := 4990; let c : Int := 1; (t2 - m.origin.toNat - c - m.corr - (s.get TIME_MPD_MPD : Nat) : Int)), wf (by decide +kernel), by decide +kernel⟩,
   ⟨({ W [(0x040000, 0x1)] with time := { awake.time with lastT21 := some 40, req := some (9, 4990), master := some { port := false, domain := 0x00#8, src := 0x0000000000000005#64, gm := 0x0000000000000005#64, priority1 := 0x01#8, clockClass := 0x01#8, accuracy := 0x01#8, variance := 0x0001#16, priority2 := 0x01#8, steps := 0x0001#16, ptpScale := true, utcOffset := 0x0025#16, utcValid := true, udp := false, plain := true } } } : State), (⟨false, 0#8, 5#64, 9#16, 5000#64, 2, false, true, true⟩ : PtpDelayResp), (4990 : Int), (40 : Int), wf (by decide +kernel), by decide +kernel⟩,
   ⟨({ W [(0x040000, 0x1), (0x040200, 0x44008A)] with time := { awake.time with req := some (9, 4000) } } : State), (⟨false, 0#8, 9#16, 4500#64, 4600#64, 2, false, true, true⟩ : PtpPdelayResp), (4000 : Int), wf (by decide +kernel), by decide +kernel⟩⟩

theorem test_witness_PtpMessagesAreAnsweredAndSent :
  (∃ (s : State) (m : PtpReq), s.pwr.coreUp = true ∧ s.isMaster = true ∧ s.ptpMine m.port m.domain m.udp m.plain = true ∧ s.macSends m.port = true ∧ s.flag TIME_PTP_CFG_DELAY = false) ∧
  (∃ (s : State) (m : PtpReq), s.pwr.coreUp = true ∧ s.ptpMine m.port m.domain m.udp m.plain = true ∧ s.macSends m.port = true ∧ s.flag TIME_PTP_CFG_DELAY = true ∧ s.get TIME_PTP_CFG_ROLE ≠ 0) ∧
  (∃ (s : State), s.pwr.coreUp = true ∧ s.isMaster = true ∧ s.macSends (s.flag TIME_SYNC_STAT_PORT_ACT) = true) ∧
  (∃ (s : State), s.pwr.coreUp = true ∧ s.isMaster = true ∧ s.macSends (s.flag TIME_SYNC_STAT_PORT_ACT) = true) ∧
  (∃ (s : State), s.pwr.coreUp = true ∧ s.slave = true ∧ s.macSends (s.flag TIME_SYNC_STAT_PORT_ACT) = true ∧ s.flag TIME_PTP_CFG_DELAY = false) ∧
  (∃ (s : State) (a : PtpAnnounce), regsWf s ∧ s.pwr.coreUp = true ∧ s.ptpTaken a.domain a.udp a.plain = true ∧ s.get TIME_SLEW_CFG_SRC = 1 ∧ s.get TIME_PTP_CFG_ROLE = 1 ∧ a.ptpScale = true ∧ a.port = s.flag TIME_SYNC_STAT_PORT_ACT ∧ s.time.master = none) ∧
  (∃ (s : State), regsWf s ∧ s.pwr.coreUp = true ∧ s.en .time = true ∧ s.get TIME_SLEW_CFG_SRC = 1 ∧ s.get TIME_PTP_CFG_ROLE = 1 ∧ s.get TIME_SYNC_STAT_STATE ≠ MASTER ∧ s.flag TIME_PTP_CFG_BACKUP = false ∧ s.get TIME_SYNC_STAT_STATE ≠ HOLDOVER) :=
  ⟨⟨(W [(0x040000, 0x1), (0x040128, 0x5), (0x180000, 0x203), (0x180010, 0x1), (0x181000, 0x1)]), (⟨false, 0#8, 5#64, 9#16, 0, false, true⟩ : PtpReq), by decide +kernel⟩,
   ⟨(W [(0x040000, 0x1), (0x040200, 0x44008A), (0x180000, 0x203), (0x180010, 0x1), (0x181000, 0x1)]), (⟨false, 0#8, 5#64, 9#16, 0, false, true⟩ : PtpReq), by decide +kernel⟩,
   ⟨(W [(0x040000, 0x1), (0x040128, 0x5), (0x180000, 0x203), (0x180010, 0x1), (0x181000, 0x1)]), by decide +kernel⟩,
   ⟨(W [(0x040000, 0x1), (0x040128, 0x5), (0x180000, 0x203), (0x180010, 0x1), (0x181000, 0x1)]), by decide +kernel⟩,
   ⟨({ W [(0x040000, 0x1), (0x180000, 0x203), (0x180010, 0x1), (0x181000, 0x1)] with time := { awake.time with master := some { port := false, domain := 0x00#8, src := 0x0000000000000005#64, gm := 0x0000000000000005#64, priority1 := 0x01#8, clockClass := 0x01#8, accuracy := 0x01#8, variance := 0x0001#16, priority2 := 0x01#8, steps := 0x0001#16, ptpScale := true, utcOffset := 0x0025#16, utcValid := true, udp := false, plain := true } } } : State), by decide +kernel⟩,
   ⟨(W [(0x040000, 0x1)]), (⟨false, 0#8, 5#64, 0xA000000012345678#64, 1#8, 1#8, 1#8, 1#16, 1#8, 1#16, true, 37#16, true, false, true⟩ : PtpAnnounce), wf (by decide +kernel), by decide +kernel⟩,
   ⟨(W [(0x040000, 0x1)]), wf (by decide +kernel), by decide +kernel⟩⟩

theorem test_witness_ResetsReturnTheDevice :
  (∃ (s : State), regsWf s ∧ s.pwr.aonUp = false ∧ s.pins.rails.contains .vaon = true) ∧
  (∃ (s : State), regsWf s ∧ s.pwr.faultForced = true) ∧
  (∃ (s : State), regsWf s ∧ s.pwr.faultForced = true) ∧
  (∃ (s : State), regsWf s ∧ s.pwr.coreUp = false ∧ s.pwr.dormant = false ∧ s.coreReady = true ∧ s.pwr.heartbeat = false) ∧
  (∃ (s : State), regsWf s ∧ s.pwr.aonUp = true ∧ s.coreReady = true) :=
  ⟨⟨awake, rfl, by decide +kernel⟩,
   ⟨({ awake with pwr := { awake.pwr with faultForced := true } } : State), rfl, by decide +kernel⟩,
   ⟨({ awake with pwr := { awake.pwr with faultForced := true } } : State), rfl, by decide +kernel⟩,
   ⟨({ awake with pwr := { awake.pwr with aonUp := true, coreUp := false } } : State), rfl, by decide +kernel⟩,
   ⟨({ awake with pwr := { awake.pwr with aonUp := true } } : State), rfl, by decide +kernel⟩⟩

theorem test_witness_RailsClockAndPinsAct :
  (∃ (s : State) (r : Rail), regsWf s ∧ coreRails.contains r = true ∧ s.pins.rails.contains r = true ∧ s.pwr.coreUp = true) ∧
  (∃ (s : State), regsWf s ∧ s.pins.rails.contains .v5a = true) ∧
  (∃ (s : State) (r : Rail), s.pins.rails.contains r = false ∧ r ≠ .vio18 ∧ r ≠ .v5a ∧ r ≠ .vdrv) ∧
  (∃ (s : State), regsWf s ∧ s.pins.rails.contains .vdrv = false ∧ s.fieldUp = true) ∧
  (∃ (s : State), regsWf s ∧ s.pwr.coreUp = true ∧ s.pwr.aonUp = true ∧ s.flag SYS_AON_STAT_ON_RC = false) ∧
  (∃ (s : State), regsWf s ∧ s.flag SYS_AON_STAT_ON_RC = true) ∧
  (∃ (s : State), regsWf s ∧ s.pins.testEn = false) ∧
  (∃ (s : State), regsWf s ∧ s.pwr.heartbeat = true) ∧
  (∃ (s : State) (o : Fin 40), regsWf s ∧ s.ctc.lossPulse.contains o.val = true ∧ s.pwr.heartbeat = false) :=
  ⟨⟨awake, (.vddpll : Rail), rfl, by decide +kernel⟩,
   ⟨awake, rfl, by decide +kernel⟩,
   ⟨({ awake with pins := { awake.pins with rails := [Sys2Proof.Rail.vaon] } } : State), (.vddpll : Rail), by decide +kernel⟩,
   ⟨({ awake with pins := { awake.pins with rails := [Sys2Proof.Rail.v5a] } } : State), rfl, by decide +kernel⟩,
   ⟨({ awake with pwr := { awake.pwr with aonUp := true } } : State), rfl, by decide +kernel⟩,
   ⟨(W [(0x000208, 0x2)]), wf (by decide +kernel), by decide +kernel⟩,
   ⟨awake, rfl, by decide +kernel⟩,
   ⟨({ awake with pwr := { awake.pwr with heartbeat := true } } : State), rfl, by decide +kernel⟩,
   ⟨({ awake with ctc := { awake.ctc with lossPulse := [7, 8] } } : State), (7 : Fin 40), rfl, by decide +kernel⟩⟩

theorem test_witness_PowerStatesAreEntered :
  (∃ (s : State), regsWf s ∧ s.pwr.dormant = true ∧ s.coreReady = true ∧ s.pwr.heartbeat = false) ∧
  (∃ (s : State), regsWf s ∧ s.pwr.dormant = true ∧ s.alarmDue = true ∧ s.coreReady = true ∧ s.pwr.heartbeat = false) ∧
  (∃ (s : State), regsWf s ∧ s.pwr.coreUp = true ∧ s.pstate = SAFE ∧ s.get SYS_PWR_STATE_SAFE_CAUSE = 3 ∧ s.anySevere = false ∧ s.flag SYS_FAULT_HOLD_RESTORE_ERR = false ∧ s.functionActive = false ∧ s.pwr.safeDue = false) ∧
  (∃ (s : State), regsWf s ∧ s.pwr.coreUp = true ∧ (s.pstate ≠ SAFE ∨ s.get SYS_PWR_STATE_SAFE_CAUSE = 1 ∨ s.anySevere = true ∨ s.flag SYS_FAULT_HOLD_RESTORE_ERR = true ∨ s.functionActive = true)) ∧
  (∃ (s : State), regsWf s ∧ s.pwr.coreUp = true ∧ s.pstate = SAFE ∧ s.flag HOST_FL_STAT_BUSY = false) ∧
  (∃ (s : State), regsWf s ∧ s.pwr.coreUp = true ∧ s.pstate = READY ∧ s.flag HOST_FL_STAT_BUSY = false ∧ s.alarmDue = false) :=
  ⟨⟨({ awake with pwr := { awake.pwr with aonUp := true, dormant := true } } : State), rfl, by decide +kernel⟩,
   ⟨({ W [(0x00020C, 0x5A)] with pwr := { awake.pwr with aonUp := true, dormant := true, rtc := 429496729600000000000 } } : State), wf (by decide +kernel), by decide +kernel⟩,
   ⟨(W [(0x000200, 0x309)]), wf (by decide +kernel), by decide +kernel⟩,
   ⟨awake, rfl, by decide +kernel⟩,
   ⟨(W [(0x000200, 0x9)]), wf (by decide +kernel), by decide +kernel⟩,
   ⟨(W [(0x000200, 0x4)]), wf (by decide +kernel), by decide +kernel⟩⟩

theorem test_witness_PllsAreSetAndTried :
  (∃ (s : State) (p : Fin 2) (v : BitVec 32) (b : Nat), regsWf s ∧ s.pwr.coreUp = true ∧ s.clientOn p.val = false ∧ pllBad p.val (bitsOf v.toNat 0 8) (bitsOf v.toNat 8 4) = none ∧ bitsOf v.toNat 13 1 = 1 ∧ (s.storePll p.val v.toNat).bands p.val = b :: ((s.storePll p.val v.toNat).bands p.val).tail ∧ s.pwr.heartbeat = false) ∧
  (∃ (s : State) (p : Fin 2) (v : BitVec 32), regsWf s ∧ s.pwr.coreUp = true ∧ s.clientOn p.val = true) ∧
  (∃ (s : State) (p : Fin 2) (b : Nat), regsWf s ∧ s.pwr.coreUp = true ∧ s.clientOn p.val = false ∧ pllBad p.val (s.get CLK_PLL_CTRL_FBDIV p.val) (s.get CLK_PLL_CTRL_POSTDIV p.val) = none ∧ s.flag CLK_PLL_CTRL_PWR p.val = true ∧ s.bands p.val = b :: (s.bands p.val).tail ∧ s.pwr.heartbeat = false) ∧
  (∃ (s : State) (p : Fin 2) (b : Fin 16) (v : BitVec 32), regsWf s ∧ s.pwr.coreUp = true ∧ s.clientOn p.val = false ∧ bandBad v.toNat = none ∧ s.flag CLK_PLL_CTRL_PWR p.val = false) ∧
  (∃ (s : State) (p : Fin 2), regsWf s ∧ s.pwr.coreUp = true ∧ s.flag CLK_PLL_STAT_LOCKED p.val = true) ∧
  (∃ (s : State) (b : Nat), regsWf s ∧ s.pwr.coreUp = true ∧ s.pwr.dormant = false ∧ s.flag CLK_PLL_CTRL_PWR 1 = true ∧ s.flag CLK_PLL_STAT_LOCKED 1 = false ∧ s.pllB.trying = some b) ∧
  (∃ (s : State), regsWf s ∧ s.pwr.coreUp = true ∧ s.pwr.dormant = false ∧ s.flag CLK_PLL_CTRL_PWR 0 = true ∧ s.flag CLK_PLL_STAT_LOCKED 0 = false ∧ s.pstate = WAKE) ∧
  (∃ (s : State) (p : Fin 2) (b : Nat) (c : Nat), s.pwr.coreUp = true ∧ (s.pll p.val).trying = some b ∧ (s.pll p.val).acquiring = true ∧ (s.bands p.val).find? (fun c => decide (b < c)) = some c) :=
  ⟨⟨(W [(0x010240, 0x80226384)]), (1 : Fin 2), (0x2214#32 : BitVec 32), (0 : Nat), wf (by decide +kernel), by decide +kernel⟩,
   ⟨(W [(0x051000, 0x1)]), (1 : Fin 2), (0x2214#32 : BitVec 32), wf (by decide +kernel), by decide +kernel⟩,
   ⟨(W [(0x010200, 0x2214), (0x010240, 0x80226384)]), (1 : Fin 2), (0 : Nat), wf (by decide +kernel), by decide +kernel⟩,
   ⟨awake, (1 : Fin 2), (3 : Fin 16), (0x80226384#32 : BitVec 32), rfl, by decide +kernel⟩,
   ⟨(W [(0x010204, 0x1)]), (1 : Fin 2), wf (by decide +kernel), by decide +kernel⟩,
   ⟨({ W [(0x010200, 0x2214)] with pllB := { awake.pllB with trying := some 3 } } : State), (3 : Nat), wf (by decide +kernel), by decide +kernel⟩,
   ⟨(W [(0x010104, 0x2)]), wf (by decide +kernel), by decide +kernel⟩,
   ⟨({ W [(0x010250, 0x80226384)] with pllB := { awake.pllB with acquiring := true, trying := some 3 } } : State), (1 : Fin 2), (3 : Nat), (let s : State := ({ W [(0x010250, 0x80226384)] with pllB := { awake.pllB with acquiring := true, trying := some 3 } } : State); ((s.bands 1).find? (fun c => decide (3 < c)) |>.getD 0 : Nat)), by decide +kernel⟩⟩

theorem test_witness_LoadPrimerAndLossOfLock :
  (∃ (s : State) (f : FlashImage) (slot : Nat) (s1 : State) (b : Nat), regsWf s ∧ s.pstate = LOAD ∧ s.pwr.coreUp = true ∧ s.pwr.dormant = false ∧ s.pwr.loadWait = none ∧ chooseSlot f = some slot ∧ State.loadSlot ((((((({ s with flash := some f } : State).set BOOT_STAT_FALLBACK 0).set BOOT_STAT_FAIL_SECTION 0).set BOOT_FLASH_SCK_MHZ 26).set BOOT_FLASH_WIDTH 0).set BOOT_FLASH_SCK_MHZ (min 104 f.sckMhz)).set BOOT_FLASH_WIDTH f.width |>.set HOST_FL_STAT_ERASE_KIB f.eraseKib) f slot = (true, s1) ∧ s1.pllSatisfied = some b ∧ s.pwr.safeDue = false) ∧
  (∃ (s : State), regsWf s ∧ s.pstate = LOAD ∧ s.pwr.coreUp = true ∧ s.pwr.dormant = false ∧ s.pwr.loadWait = none) ∧
  (∃ (s : State) (o : PrimerObs) (p1 : State) (s1 : State) (s2 : State) (s3 : State) (s4 : State) (s5 : State) (s6 : State) (dead : List Nat), regsWf s ∧ s.pstate = PRIME ∧ s.pwr.coreUp = true ∧ ((s.putWord 0x000300 0#32).set SYS_PRIMER_STAT_DURATION (min 0xFFFF o.duration)).primer1 o = (true, p1) ∧ (p1.primerPass 1).enableAll (p1.bootBlocks false) = (true, s1) ∧ ((s1.primer2 o).primerPass 2).primer3 o = (true, s2) ∧ (s2.primerPass 3).primer4 o = (true, s3) ∧ (s3.primerPass 4).primer5 o = (true, s4) ∧ (s4.primerPass 5).primer6 o = (true, dead, s5) ∧ s5.enableAll (s5.bootBlocks true) = (true, s6) ∧ s6.pwr.safeDue = false ∧ s6.get FORM_MODE_STAT_START_MODE = 0 ∧ regsWf s6) ∧
  (∃ (s : State), regsWf s ∧ s.pwr.coreUp = true ∧ s.flag CLK_PLL_STAT_LOCKED 1 = true ∧ s.pstate = READY) :=
  ⟨⟨({ W [(0x000200, 0x2), (0x010104, 0x1), (0x010140, 0x8028A44C), (0x190100, 0x1FFFF)] with pllA := { awake.pllA with bootBand := true } } : State), (⟨4, 64, 50, 0, (let sec := leBytes 4 0x01010008 ++ leBytes 4 0; let sec2 := leBytes 4 0x01000210 ++ leBytes 4 0x12;
 let hd := leBytes 4 0x494D485A ++ leBytes 2 2 ++ leBytes 1 2 ++ leBytes 1 0 ++ leBytes 4 112 ++ leBytes 4 7 ++ leBytes 2 2 ++ leBytes 1 0 ++ leBytes 1 0 ++ List.replicate 40 0#8;
 let hd := hd ++ leBytes 4 (crc32 hd).toNat;
 hd ++ (leBytes 2 1 ++ leBytes 2 0 ++ leBytes 4 96 ++ leBytes 4 8 ++ leBytes 4 (crc32 sec).toNat) ++ (leBytes 2 2 ++ leBytes 2 0 ++ leBytes 4 104 ++ leBytes 4 8 ++ leBytes 4 (crc32 sec2).toNat) ++ sec ++ sec2), []⟩ : FlashImage), (0 : Nat), (let s : State := ({ W [(0x000200, 0x2), (0x010104, 0x1), (0x010140, 0x8028A44C), (0x190100, 0x1FFFF)] with pllA := { awake.pllA with bootBand := true } } : State); let f : FlashImage := ⟨4, 64, 50, 0, (let sec := leBytes 4 0x01010008 ++ leBytes 4 0; let sec2 := leBytes 4 0x01000210 ++ leBytes 4 0x12;
 let hd := leBytes 4 0x494D485A ++ leBytes 2 2 ++ leBytes 1 2 ++ leBytes 1 0 ++ leBytes 4 112 ++ leBytes 4 7 ++ leBytes 2 2 ++ leBytes 1 0 ++ leBytes 1 0 ++ List.replicate 40 0#8;
 let hd := hd ++ leBytes 4 (crc32 hd).toNat;
 hd ++ (leBytes 2 1 ++ leBytes 2 0 ++ leBytes 4 96 ++ leBytes 4 8 ++ leBytes 4 (crc32 sec).toNat) ++ (leBytes 2 2 ++ leBytes 2 0 ++ leBytes 4 104 ++ leBytes 4 8 ++ leBytes 4 (crc32 sec2).toNat) ++ sec ++ sec2), []⟩; let slot : Nat := 0; ((State.loadSlot ((((((({ s with flash := some f } : State).set BOOT_STAT_FALLBACK 0).set BOOT_STAT_FAIL_SECTION 0).set BOOT_FLASH_SCK_MHZ 26).set BOOT_FLASH_WIDTH 0).set BOOT_FLASH_SCK_MHZ (min 104 f.sckMhz)).set BOOT_FLASH_WIDTH f.width |>.set HOST_FL_STAT_ERASE_KIB f.eraseKib) f slot).2 : State)), (let s : State := ({ W [(0x000200, 0x2), (0x010104, 0x1), (0x010140, 0x8028A44C), (0x190100, 0x1FFFF)] with pllA := { awake.pllA with bootBand := true } } : State); let f : FlashImage := ⟨4, 64, 50, 0, (let sec := leBytes 4 0x01010008 ++ leBytes 4 0; let sec2 := leBytes 4 0x01000210 ++ leBytes 4 0x12;
 let hd := leBytes 4 0x494D485A ++ leBytes 2 2 ++ leBytes 1 2 ++ leBytes 1 0 ++ leBytes 4 112 ++ leBytes 4 7 ++ leBytes 2 2 ++ leBytes 1 0 ++ leBytes 1 0 ++ List.replicate 40 0#8;
 let hd := hd ++ leBytes 4 (crc32 hd).toNat;
 hd ++ (leBytes 2 1 ++ leBytes 2 0 ++ leBytes 4 96 ++ leBytes 4 8 ++ leBytes 4 (crc32 sec).toNat) ++ (leBytes 2 2 ++ leBytes 2 0 ++ leBytes 4 104 ++ leBytes 4 8 ++ leBytes 4 (crc32 sec2).toNat) ++ sec ++ sec2), []⟩; let slot : Nat := 0; let s1 : State := (State.loadSlot ((((((({ s with flash := some f } : State).set BOOT_STAT_FALLBACK 0).set BOOT_STAT_FAIL_SECTION 0).set BOOT_FLASH_SCK_MHZ 26).set BOOT_FLASH_WIDTH 0).set BOOT_FLASH_SCK_MHZ (min 104 f.sckMhz)).set BOOT_FLASH_WIDTH f.width |>.set HOST_FL_STAT_ERASE_KIB f.eraseKib) f slot).2; (s1.pllSatisfied.getD 0 : Nat)), wf (by decide +kernel), by decide +kernel, by decide +kernel, by decide +kernel, by decide +kernel, by decide +kernel, pair_true (by decide +kernel), by decide +kernel, by decide +kernel⟩,
   ⟨(W [(0x000200, 0x2)]), wf (by decide +kernel), by decide +kernel⟩,
   ⟨(W [(0x000200, 0x3)]), (⟨none, List.replicate 12 (4800, 0, 0), [], 0, true, [], [], [], [], none, 310⟩ : PrimerObs), (let s : State := (W [(0x000200, 0x3)]); let o : PrimerObs := ⟨none, List.replicate 12 (4800, 0, 0), [], 0, true, [], [], [], [], none, 310⟩; ((((s.putWord 0x000300 0#32).set SYS_PRIMER_STAT_DURATION (min 0xFFFF o.duration)).primer1 o).2 : State)), (let s : State := (W [(0x000200, 0x3)]); let o : PrimerObs := ⟨none, List.replicate 12 (4800, 0, 0), [], 0, true, [], [], [], [], none, 310⟩; let p1 : State := (((s.putWord 0x000300 0#32).set SYS_PRIMER_STAT_DURATION (min 0xFFFF o.duration)).primer1 o).2; (((p1.primerPass 1).enableAll (p1.bootBlocks false)).2 : State)), (let s : State := (W [(0x000200, 0x3)]); let o : PrimerObs := ⟨none, List.replicate 12 (4800, 0, 0), [], 0, true, [], [], [], [], none, 310⟩; let p1 : State := (((s.putWord 0x000300 0#32).set SYS_PRIMER_STAT_DURATION (min 0xFFFF o.duration)).primer1 o).2; let s1 : State := ((p1.primerPass 1).enableAll (p1.bootBlocks false)).2; ((((s1.primer2 o).primerPass 2).primer3 o).2 : State)), (let s : State := (W [(0x000200, 0x3)]); let o : PrimerObs := ⟨none, List.replicate 12 (4800, 0, 0), [], 0, true, [], [], [], [], none, 310⟩; let p1 : State := (((s.putWord 0x000300 0#32).set SYS_PRIMER_STAT_DURATION (min 0xFFFF o.duration)).primer1 o).2; let s1 : State := ((p1.primerPass 1).enableAll (p1.bootBlocks false)).2; let s2 : State := (((s1.primer2 o).primerPass 2).primer3 o).2; (((s2.primerPass 3).primer4 o).2 : State)), (let s : State := (W [(0x000200, 0x3)]); let o : PrimerObs := ⟨none, List.replicate 12 (4800, 0, 0), [], 0, true, [], [], [], [], none, 310⟩; let p1 : State := (((s.putWord 0x000300 0#32).set SYS_PRIMER_STAT_DURATION (min 0xFFFF o.duration)).primer1 o).2; let s1 : State := ((p1.primerPass 1).enableAll (p1.bootBlocks false)).2; let s2 : State := (((s1.primer2 o).primerPass 2).primer3 o).2; let s3 : State := ((s2.primerPass 3).primer4 o).2; (((s3.primerPass 4).primer5 o).2 : State)), (let s : State := (W [(0x000200, 0x3)]); let o : PrimerObs := ⟨none, List.replicate 12 (4800, 0, 0), [], 0, true, [], [], [], [], none, 310⟩; let p1 : State := (((s.putWord 0x000300 0#32).set SYS_PRIMER_STAT_DURATION (min 0xFFFF o.duration)).primer1 o).2; let s1 : State := ((p1.primerPass 1).enableAll (p1.bootBlocks false)).2; let s2 : State := (((s1.primer2 o).primerPass 2).primer3 o).2; let s3 : State := ((s2.primerPass 3).primer4 o).2; let s4 : State := ((s3.primerPass 4).primer5 o).2; (((s4.primerPass 5).primer6 o).2.2 : State)), (let s : State := (W [(0x000200, 0x3)]); let o : PrimerObs := ⟨none, List.replicate 12 (4800, 0, 0), [], 0, true, [], [], [], [], none, 310⟩; let p1 : State := (((s.putWord 0x000300 0#32).set SYS_PRIMER_STAT_DURATION (min 0xFFFF o.duration)).primer1 o).2; let s1 : State := ((p1.primerPass 1).enableAll (p1.bootBlocks false)).2; let s2 : State := (((s1.primer2 o).primerPass 2).primer3 o).2; let s3 : State := ((s2.primerPass 3).primer4 o).2; let s4 : State := ((s3.primerPass 4).primer5 o).2; let s5 : State := ((s4.primerPass 5).primer6 o).2.2; ((s5.enableAll (s5.bootBlocks true)).2 : State)), (let s : State := (W [(0x000200, 0x3)]); let o : PrimerObs := ⟨none, List.replicate 12 (4800, 0, 0), [], 0, true, [], [], [], [], none, 310⟩; let p1 : State := (((s.putWord 0x000300 0#32).set SYS_PRIMER_STAT_DURATION (min 0xFFFF o.duration)).primer1 o).2; let s1 : State := ((p1.primerPass 1).enableAll (p1.bootBlocks false)).2; let s2 : State := (((s1.primer2 o).primerPass 2).primer3 o).2; let s3 : State := ((s2.primerPass 3).primer4 o).2; let s4 : State := ((s3.primerPass 4).primer5 o).2; (((s4.primerPass 5).primer6 o).2.1 : List Nat)), wf (by decide +kernel), by decide +kernel⟩,
   ⟨(W [(0x000200, 0x4), (0x010204, 0x1)]), wf (by decide +kernel), by decide +kernel⟩⟩

theorem test_witness_BlocksAreEnabledAndDisabled :
  (∃ (s : State) (b : Block), regsWf s ∧ s.pwr.coreUp = true ∧ s.heldInReset b = false ∧ s.en b = false ∧ s.cyc.checking.contains b = false ∧ (requires b).all (fun x => s.en x) = true) ∧
  (∃ (s : State) (b : Block), regsWf s ∧ s.pwr.coreUp = true ∧ s.heldInReset b = false ∧ s.en b = false ∧ s.cyc.checking.contains b = false ∧ (requires b).any (fun x => !s.en x) = true) ∧
  (∃ (s : State) (b : Block), regsWf s ∧ s.pwr.coreUp = true ∧ s.cyc.checking.contains b = true ∧ s.port.waiting = none ∧ enableRefused b { s with cyc := { s.cyc with checking := s.cyc.checking.filter (· != b) } } = none) ∧
  (∃ (s : State) (b : Block) (r : Nat × Nat × Nat), regsWf s ∧ s.pwr.coreUp = true ∧ s.cyc.checking.contains b = true ∧ s.port.waiting = none ∧ enableRefused b { s with cyc := { s.cyc with checking := s.cyc.checking.filter (· != b) } } = some r ∧ s.en b = false) ∧
  (∃ (s : State) (b : Block), regsWf s ∧ s.pwr.coreUp = true ∧ (dependents b).any (fun x => s.en x) = false ∧ (alwaysOn.contains b && s.en b) = false) ∧
  (∃ (s : State) (b : Block), regsWf s ∧ s.pwr.coreUp = true ∧ (dependents b).any (fun x => s.en x) = true) ∧
  (∃ (s : State) (b : Block), regsWf s ∧ s.pwr.coreUp = true ∧ alwaysOn.contains b = true ∧ s.en b = true) :=
  ⟨⟨(W [(0x010000, 0x1)]), (.time : Block), wf (by decide +kernel), by decide +kernel⟩,
   ⟨awake, (.cell : Block), rfl, by decide +kernel⟩,
   ⟨({ W [(0x010000, 0x1), (0x010104, 0x1)] with cyc := { awake.cyc with checking := [Sys2Proof.Block.sys, Sys2Proof.Block.time] } } : State), (.time : Block), wf (by decide +kernel), by decide +kernel⟩,
   ⟨({ W [(0x010000, 0x1), (0x010104, 0x2)] with cyc := { awake.cyc with checking := [Sys2Proof.Block.sys, Sys2Proof.Block.time] } } : State), (.time : Block), ((NO_CLOCK, 0, 0) : Nat × Nat × Nat), wf (by decide +kernel), by decide +kernel⟩,
   ⟨awake, (.fil : Block), rfl, by decide +kernel⟩,
   ⟨(W [(0x0E4000, 0x1)]), (.adc : Block), wf (by decide +kernel), by decide +kernel⟩,
   ⟨(W [(0x170000, 0x1)]), (.host : Block), wf (by decide +kernel), by decide +kernel⟩⟩

theorem test_witness_FaultNoticesAreCleared :
  (∃ (s : State) (b : Block) (m : BitVec 16), regsWf s ∧ s.pwr.coreUp = true) ∧
  (∃ (s : State) (x : Source), regsWf s ∧ s.pwr.coreUp = true ∧ x ∈ allSources ∧ x.counted = true ∧ s.get (FLT_SEV x.blk) = 2 ^ x.s ∧ (x.level && s.condPresent x.blk x.s) = false) ∧
  (∃ (s : State) (x : Source), regsWf s ∧ s.pwr.coreUp = true ∧ x ∈ allSources ∧ x.counted = true ∧ s.flag ⟨ctrlAddr x.blk 0x10, 0, 0, x.s, 1⟩ = true ∧ x.level = true ∧ s.condPresent x.blk x.s = true) ∧
  (∃ (s : State) (x : Source), regsWf s ∧ s.pwr.coreUp = true ∧ x ∈ allSources ∧ x.counted = true) ∧
  (∃ (s : State) (b : Block), regsWf s ∧ s.pwr.coreUp = true ∧ s.severe b = false) ∧
  (∃ (s : State) (b : Block), regsWf s ∧ s.pwr.coreUp = true ∧ s.severe b = true) :=
  ⟨⟨awake, (.hive : Block), (0xFF#16 : BitVec 16), rfl, by decide +kernel⟩,
   ⟨(W [(0x151010, 0x4)]), (SRC_MEM_MRAM_FAIL : Source), wf (by decide +kernel), by decide +kernel⟩,
   ⟨(W [(0x190010, 0x1), (0x190100, 0x2FFFF)]), (SRC_SEAL_SEAL_FAULT : Source), wf (by decide +kernel), by decide +kernel⟩,
   ⟨awake, (SRC_MEM_MRAM_FAIL : Source), rfl, by decide +kernel⟩,
   ⟨awake, (.time : Block), rfl, by decide +kernel⟩,
   ⟨(W [(0x040010, 0x2)]), (.time : Block), wf (by decide +kernel), by decide +kernel⟩⟩

theorem test_witness_FaultEventsAreCounted :
  (∃ (s : State) (x : Source) (u : Nat), regsWf s ∧ x ∈ allSources ∧ x.counted = false) ∧
  (∃ (s : State) (x : Source) (u : Nat), regsWf s ∧ x ∈ allSources ∧ x.counted = true ∧ s.flag ⟨ctrlAddr x.blk 0x10, 0, 0, x.s, 1⟩ = false ∧ s.get (FLT_N_WCNT x.blk) 0 x.s + 1 < (if s.get (FLT_N_WCNT x.blk) 0 x.s = 0 then s.get (FLT_N_N x.blk) 0 x.s else s.get (FLT_WINDOW_N x.blk) 0 x.s)) ∧
  (∃ (s : State) (x : Source) (u : Nat), regsWf s ∧ x ∈ allSources ∧ x.counted = true ∧ s.severe x.blk = false ∧ (if s.get (FLT_N_WCNT x.blk) 0 x.s = 0 then s.get (FLT_N_N x.blk) 0 x.s else s.get (FLT_WINDOW_N x.blk) 0 x.s) ≤ s.get (FLT_N_WCNT x.blk) 0 x.s + 1) ∧
  (∃ (s : State) (x : Source) (u : Nat), regsWf s ∧ x ∈ allSources ∧ x.counted = true ∧ s.flag ⟨ctrlAddr x.blk 0x10, 0, 0, x.s, 1⟩ = true) :=
  ⟨⟨awake, (SRC_AXIS_INHIBITED : Source), (3 : Nat), rfl, by decide +kernel⟩,
   ⟨(W [(0x151050, 0x102), (0x1151050, 0x5)]), (SRC_MEM_MRAM_FAIL : Source), (4 : Nat), wf (by decide +kernel), by decide +kernel⟩,
   ⟨awake, (SRC_MEM_MRAM_FAIL : Source), (4 : Nat), rfl, by decide +kernel⟩,
   ⟨(W [(0x151010, 0x4)]), (SRC_MEM_MRAM_FAIL : Source), (300 : Nat), wf (by decide +kernel), by decide +kernel⟩⟩

theorem test_witness_MailboxQueuesMove :
  (∃ (s : State) (v : BitVec 9), regsWf s ∧ s.pwr.coreUp = true ∧ v.toNat % 256 < s.get HIVE_MBX_SQ_QLEN ∧ ptrAhead (s.get HIVE_MBX_SQ_PTR_HEAD) v.toNat = true) ∧
  (∃ (s : State) (v : BitVec 9), regsWf s ∧ s.pwr.coreUp = true ∧ s.get HIVE_MBX_SQ_QLEN ≤ v.toNat % 256) ∧
  (∃ (s : State) (v : BitVec 9), regsWf s ∧ s.pwr.coreUp = true ∧ v.toNat % 256 < s.get HIVE_MBX_SQ_QLEN ∧ ptrAhead (s.get HIVE_MBX_SQ_PTR_HEAD) v.toNat = false) ∧
  (∃ (s : State) (v : BitVec 9), regsWf s ∧ s.pwr.coreUp = true ∧ v.toNat % 256 < s.get HIVE_MBX_CQ_QLEN) ∧
  (∃ (s : State) (v : BitVec 9), regsWf s ∧ s.pwr.coreUp = true ∧ s.get HIVE_MBX_CQ_QLEN ≤ v.toNat % 256) ∧
  (∃ (s : State) (tag : Nat) (x : MbxTx), regsWf s ∧ s.pwr.coreUp = true ∧ s.en .hive = true ∧ 0 < s.cqFree ∧ s.freeTag true = some tag ∧ s.hive.taken = [] ∧ s.poison = [] ∧ s.sqPick (ptrsFrom (s.get HIVE_MBX_SQ_QLEN) (ptrDist (s.get HIVE_MBX_SQ_QLEN) (s.get HIVE_MBX_SQ_PTR_HEAD) (s.get HIVE_MBX_SQ_PTR_TAIL)) (s.get HIVE_MBX_SQ_PTR_HEAD)) [] = some (s.get HIVE_MBX_SQ_PTR_HEAD, x) ∧ s.en .part = false ∧ s.sqJudge x = none) ∧
  (∃ (s : State) (tag : Nat) (x : MbxTx) (st : Nat), regsWf s ∧ s.pwr.coreUp = true ∧ s.en .hive = true ∧ 0 < s.cqFree ∧ s.freeTag true = some tag ∧ s.hive.taken = [] ∧ s.poison = [] ∧ s.sqPick (ptrsFrom (s.get HIVE_MBX_SQ_QLEN) (ptrDist (s.get HIVE_MBX_SQ_QLEN) (s.get HIVE_MBX_SQ_PTR_HEAD) (s.get HIVE_MBX_SQ_PTR_TAIL)) (s.get HIVE_MBX_SQ_PTR_HEAD)) [] = some (s.get HIVE_MBX_SQ_PTR_HEAD, x) ∧ s.en .part = false ∧ s.sqJudge x = some st ∧ x.owner = 0 ∧ s.hive.waiting = []) :=
  ⟨⟨(W [(0x051208, 0x6)]), (0x101#9 : BitVec 9), wf (by decide +kernel), by decide +kernel⟩,
   ⟨(W [(0x051204, 0x800000)]), (8#9 : BitVec 9), wf (by decide +kernel), by decide +kernel⟩,
   ⟨(W [(0x051208, 0x6)]), (5#9 : BitVec 9), wf (by decide +kernel), by decide +kernel⟩,
   ⟨awake, (7#9 : BitVec 9), rfl, by decide +kernel⟩,
   ⟨(W [(0x05120C, 0x804000)]), (8#9 : BitVec 9), wf (by decide +kernel), by decide +kernel⟩,
   ⟨({ W [(0x010104, 0x1), (0x050200, 0x49), (0x051000, 0x1), (0x051204, 0x800400), (0x051208, 0x1000007)] with mem := [(5244352, 0x02#8), (5244353, 0x01#8), (5244354, 0x01#8), (5244355, 0x08#8), (5244357, 0x02#8)] } : State), (0 : Nat), (let s : State := ({ W [(0x010104, 0x1), (0x050200, 0x49), (0x051000, 0x1), (0x051204, 0x800400), (0x051208, 0x1000007)] with mem := [(5244352, 0x02#8), (5244353, 0x01#8), (5244354, 0x01#8), (5244355, 0x08#8), (5244357, 0x02#8)] } : State); (sqEntry (s.bytes (entryAt (s.get HIVE_MBX_SQ_BASE) 7) 64) : MbxTx)), wf (by decide +kernel), by decide +kernel⟩,
   ⟨(W [(0x010104, 0x1), (0x051000, 0x1), (0x051208, 0x1000007)]), (0 : Nat), (let s : State := (W [(0x010104, 0x1), (0x051000, 0x1), (0x051208, 0x1000007)]); (sqEntry (s.bytes (entryAt (s.get HIVE_MBX_SQ_BASE) 7) 64) : MbxTx)), (0x82 : Nat), wf (by decide +kernel), by decide +kernel⟩⟩

theorem test_witness_MailboxFramesAreSentAndAnswered :
  (∃ (s : State) (r : Fin 12) (e : Bool) (at' : Nat) (x : MbxTx), s.pwr.coreUp = true ∧ s.hiveDrives = true ∧ s.ringOn r.val = true ∧ s.hive.tx = [x] ∧ x.queued = true ∧ x.ring = r.val ∧ s.mbxEnd r.val x.pos = some e ∧ s.mbxMayStart r.val at' = true ∧ s.unreachable x = false ∧ s.roomFor x = true ∧ isSync x = false ∧ x.notBefore ≤ s.samp + at') ∧
  (∃ (s : State) (i : Fin 192) (at' : Nat) (x : MbxTx) (e : Bool), s.pwr.coreUp = true ∧ s.hive.tx = [x] ∧ x.queued = true ∧ isSync x = true ∧ x.ring = s.get CELL_SCFG_RING i.val ∧ x.pos = s.get CELL_SCFG_POS i.val ∧ s.mbxEnd x.ring x.pos = some e ∧ s.hiveDrives = true ∧ s.ringOn x.ring = true ∧ s.mbxMayStart x.ring at' = true ∧ s.roomFor x = true ∧ 16 * (s.get SYS_CYC_TIMING_SAMPLE_OFS + at' + 2 * 880) + s.pathDelay x.ring x.pos e < 16 * s.period ∧ s.fes.length = 192) ∧
  (∃ (s : State) (r : Fin 12) (f : List (BitVec 8)) (x : MbxTx), regsWf s ∧ s.pwr.coreUp = true ∧ s.ringOn r.val = true ∧ validFrame 0xFB 44 f = true ∧ s.hive.tx = [x] ∧ x.tag = byteAt f 2 % 64 ∧ x.gen = byteAt f 2 / 64 ∧ x.ring = r.val ∧ 0 < x.tries ∧ x.owner = 0 ∧ s.hive.waiting = []) ∧
  (∃ (s : State) (r : Fin 12) (f : List (BitVec 8)) (x : MbxTx) (i : Nat), regsWf s ∧ s.pwr.coreUp = true ∧ s.ringOn r.val = true ∧ validFrame 0xFB 44 f = true ∧ byteAt f 9 = 0 ∧ s.hive.tx = [x] ∧ x.tag = byteAt f 2 % 64 ∧ x.gen = byteAt f 2 / 64 ∧ x.ring = r.val ∧ 0 < x.tries ∧ x.owner = 0 ∧ s.hive.waiting = [] ∧ x.op = 2 ∧ x.addr = 0x108 ∧ s.slotAt x.ring x.pos = some i ∧ s.fes.length = 192) ∧
  (∃ (s : State) (r : Fin 12) (f : List (BitVec 8)) (x : MbxTx) (i : Nat), regsWf s ∧ s.pwr.coreUp = true ∧ s.ringOn r.val = true ∧ validFrame 0xFB 44 f = true ∧ byteAt f 9 = 0 ∧ s.hive.tx = [x] ∧ x.tag = byteAt f 2 % 64 ∧ x.gen = byteAt f 2 / 64 ∧ x.ring = r.val ∧ 0 < x.tries ∧ x.owner = 0 ∧ s.hive.waiting = [] ∧ x.op = 3 ∧ x.addr = 2 ∧ s.slotAt x.ring x.pos = some i ∧ ((s.fe i).st = 2 ∨ (s.fe i).st = 3) ∧ s.fes.length = 192) ∧
  (∃ (s : State) (r : Fin 12) (f : List (BitVec 8)), regsWf s ∧ s.pwr.coreUp = true ∧ s.ringOn r.val = true ∧ validFrame 0xFB 44 f = false) ∧
  (∃ (s : State) (r : Fin 12) (f : List (BitVec 8)), regsWf s ∧ s.pwr.coreUp = true ∧ s.ringOn r.val = true ∧ validFrame 0xFB 44 f = true ∧ s.hive.tx.all (fun x => !(x.tag == byteAt f 2 % 64 && x.gen == byteAt f 2 / 64 && x.ring == r.val && decide (0 < x.tries))) = true) ∧
  (∃ (s : State) (tag : Fin 64) (x : MbxTx), s.pwr.coreUp = true ∧ s.en .hive = true ∧ s.hive.tx = [x] ∧ x.tag = tag.val ∧ x.queued = false ∧ 0 < x.tries ∧ s.get HIVE_MBX_CFG_RSP_TMO ≤ (s.get SYS_CYC_NUM_CYC + 2 ^ 32 - x.lastCyc) % 2 ^ 32 ∧ (s.get SYS_CYC_NUM_CYC + 2 ^ 32 - x.lastCyc) % 2 ^ 32 < 2 ^ 31 ∧ s.unreachable x = false ∧ x.tries ≤ s.get HIVE_MBX_CFG_RETRIES) ∧
  (∃ (s : State) (tag : Fin 64) (x : MbxTx), regsWf s ∧ s.pwr.coreUp = true ∧ s.en .hive = true ∧ s.hive.tx = [x] ∧ x.tag = tag.val ∧ x.queued = false ∧ 0 < x.tries ∧ s.get HIVE_MBX_CFG_RSP_TMO ≤ (s.get SYS_CYC_NUM_CYC + 2 ^ 32 - x.lastCyc) % 2 ^ 32 ∧ (s.get SYS_CYC_NUM_CYC + 2 ^ 32 - x.lastCyc) % 2 ^ 32 < 2 ^ 31 ∧ s.unreachable x = false ∧ x.owner = 0 ∧ s.get HIVE_MBX_CFG_RETRIES < x.tries ∧ s.hive.waiting = []) :=
  ⟨⟨({ W [(0x010104, 0x1), (0x010204, 0x1), (0x050200, 0x49), (0x051000, 0x1)] with hive := { awake.hive with tx := [{ tag := 3, gen := 1, ring := 2, pos := 1, op := 1, addr := 512, len := 8, data := [], user := [], owner := 0, tries := 0, queued := true, lastCyc := 0, sentAt := 0, notBefore := 0 }] } } : State), (2 : Fin 12), (true : Bool), (15000 : Nat), (({ tag := 3, gen := 1, ring := 2, pos := 1, op := 1, addr := 0x200, len := 8, data := [], user := [], owner := 0, tries := 0, queued := true, lastCyc := 0, sentAt := 0, notBefore := 0 } : MbxTx) : MbxTx), by decide +kernel⟩,
   ⟨({ W [(0x010104, 0x1), (0x010204, 0x1), (0x050200, 0x49), (0x051000, 0x1), (0x060500, 0x25)] with hive := { awake.hive with tx := [{ tag := 3, gen := 1, ring := 2, pos := 1, op := 3, addr := 1, len := 8, data := [], user := [], owner := 1, tries := 0, queued := true, lastCyc := 0, sentAt := 0, notBefore := 0 }] } } : State), (5 : Fin 192), (15000 : Nat), (( { tag := 3, gen := 1, ring := 2, pos := 1, op := 3, addr := 1, len := 8, data := [], user := [], owner := 1, tries := 0, queued := true, lastCyc := 0, sentAt := 0, notBefore := 0 } : MbxTx) : MbxTx), (true : Bool), by decide +kernel⟩,
   ⟨({ W [(0x010104, 0x1), (0x050200, 0x49), (0x051000, 0x1)] with hive := { awake.hive with tx := [{ tag := 3, gen := 1, ring := 2, pos := 1, op := 1, addr := 512, len := 8, data := [], user := [], owner := 0, tries := 1, queued := false, lastCyc := 0, sentAt := 0, notBefore := 0 }] } } : State), (2 : Fin 12), (withCrc ([0xFB#8, 1#8, 0x43#8, 1#8, 0#8, 2#8, 0#8, 0#8, 8#8, 0#8] ++ List.replicate 32 0x5A#8) : List (BitVec 8)), (({ tag := 3, gen := 1, ring := 2, pos := 1, op := 1, addr := 0x200, len := 8, data := [], user := [], owner := 0, tries := 1, queued := false, lastCyc := 0, sentAt := 0, notBefore := 0 } : MbxTx) : MbxTx), wf (by decide +kernel), by decide +kernel⟩,
   ⟨({ W [(0x010104, 0x1), (0x050200, 0x49), (0x051000, 0x1), (0x060500, 0x25)] with hive := { awake.hive with tx := [{ tag := 3, gen := 1, ring := 2, pos := 1, op := 2, addr := 264, len := 4, data := [0x04#8, 0x03#8, 0x02#8, 0x01#8], user := [], owner := 0, tries := 1, queued := false, lastCyc := 0, sentAt := 0, notBefore := 0 }] } } : State), (2 : Fin 12), (withCrc ([0xFB#8, 1#8, 0x43#8, 1#8, 0#8, 2#8, 0#8, 0#8, 8#8, 0#8] ++ List.replicate 32 0x5A#8) : List (BitVec 8)), (({ tag := 3, gen := 1, ring := 2, pos := 1, op := 2, addr := 0x108, len := 4, data := [4#8, 3#8, 2#8, 1#8], user := [], owner := 0, tries := 1, queued := false, lastCyc := 0, sentAt := 0, notBefore := 0 } : MbxTx) : MbxTx), (5 : Nat), wf (by decide +kernel), by decide +kernel⟩,
   ⟨({ W [(0x010104, 0x1), (0x050200, 0x49), (0x051000, 0x1), (0x060500, 0x25)] with hive := { awake.hive with tx := [{ tag := 3, gen := 1, ring := 2, pos := 1, op := 3, addr := 2, len := 4, data := [0x00#8, 0x00#8, 0x00#8, 0x00#8], user := [], owner := 0, tries := 1, queued := false, lastCyc := 0, sentAt := 0, notBefore := 0 }] }, fes := (awake.fes).set 5 ({ st := 3, coast := 0, blocked := true, dabBlocked := false, byp := true, la := false, lb := false, last := [], prevDab := false, sel := 0, flt := 0, frame := none, pend := 0, sync := none, cyc := none, applied := 0, wait := none, timing := 0, timing2 := 0, pulse := 0 }) } : State), (2 : Fin 12), (withCrc ([0xFB#8, 1#8, 0x43#8, 1#8, 0#8, 2#8, 0#8, 0#8, 8#8, 0#8] ++ List.replicate 32 0x5A#8) : List (BitVec 8)), (({ tag := 3, gen := 1, ring := 2, pos := 1, op := 3, addr := 2, len := 4, data := [0#8, 0#8, 0#8, 0#8], user := [], owner := 0, tries := 1, queued := false, lastCyc := 0, sentAt := 0, notBefore := 0 } : MbxTx) : MbxTx), (5 : Nat), wf (by decide +kernel), by decide +kernel⟩,
   ⟨(W [(0x010104, 0x1), (0x050200, 0x49), (0x051000, 0x1)]), (2 : Fin 12), (List.replicate 44 0#8 : List (BitVec 8)), wf (by decide +kernel), by decide +kernel⟩,
   ⟨(W [(0x010104, 0x1), (0x050200, 0x49), (0x051000, 0x1)]), (2 : Fin 12), (withCrc ([0xFB#8, 1#8, 0x43#8, 1#8, 0#8, 2#8, 0#8, 0#8, 8#8, 0#8] ++ List.replicate 32 0x5A#8) : List (BitVec 8)), wf (by decide +kernel), by decide +kernel⟩,
   ⟨({ W [(0x000108, 0x9), (0x010104, 0x1), (0x051000, 0x1)] with hive := { awake.hive with tx := [{ tag := 3, gen := 1, ring := 2, pos := 1, op := 1, addr := 512, len := 8, data := [], user := [], owner := 2, tries := 1, queued := false, lastCyc := 0, sentAt := 0, notBefore := 0 }] } } : State), (3 : Fin 64), (let tag : Fin 64 := 3; (({ tag := 3, gen := 1, ring := 2, pos := 1, op := 1, addr := 0x200, len := 8, data := [], user := [], owner := 2, tries := 1, queued := false, lastCyc := 0, sentAt := 0, notBefore := 0 } : MbxTx) : MbxTx)), by decide +kernel⟩,
   ⟨({ W [(0x000108, 0x9), (0x010104, 0x1), (0x051000, 0x1), (0x051200, 0x102)] with hive := { awake.hive with tx := [{ tag := 3, gen := 1, ring := 2, pos := 1, op := 1, addr := 512, len := 8, data := [], user := [], owner := 0, tries := 1, queued := false, lastCyc := 0, sentAt := 0, notBefore := 0 }] } } : State), (3 : Fin 64), (let tag : Fin 64 := 3; (({ tag := 3, gen := 1, ring := 2, pos := 1, op := 1, addr := 0x200, len := 8, data := [], user := [], owner := 0, tries := 1, queued := false, lastCyc := 0, sentAt := 0, notBefore := 0 } : MbxTx) : MbxTx)), wf (by decide +kernel), by decide +kernel⟩⟩

theorem test_witness_ReportsAreTakenAndMissed :
  (∃ (s : State) (r : Fin 12) (f : List (BitVec 8)) (i : Nat), s.pwr.coreUp = true ∧ s.ringOn r.val = true ∧ validFrame 0x5C 36 f = true ∧ framePos f < s.ncell r.val ∧ s.slotAt r.val (framePos f) = some i ∧ s.hive.rings.length = 12 ∧ repCyc f = s.get SYS_CYC_NUM_CYC ∧ (s.hive.windowOver = false ∨ s.get HIVE_RSTAT_MODE r.val = 3) ∧ (s.ringSt r.val).last.contains (framePos f, repCyc f) = false ∧ (s.ringSt r.val).judged = false ∧ repSkew f = false) ∧
  (∃ (s : State) (r : Fin 12) (f : List (BitVec 8)) (i : Nat), regsWf s ∧ s.pwr.coreUp = true ∧ s.ringOn r.val = true ∧ validFrame 0x5C 36 f = true ∧ framePos f < s.ncell r.val ∧ s.slotAt r.val (framePos f) = some i ∧ s.hive.rings.length = 12 ∧ (s.ringSt r.val).last.contains (framePos f, repCyc f) = true) ∧
  (∃ (s : State) (r : Fin 12) (f : List (BitVec 8)) (i : Nat), regsWf s ∧ s.pwr.coreUp = true ∧ s.ringOn r.val = true ∧ validFrame 0x5C 36 f = true ∧ framePos f < s.ncell r.val ∧ s.slotAt r.val (framePos f) = some i ∧ s.hive.rings.length = 12 ∧ repCyc f ≠ s.get SYS_CYC_NUM_CYC ∧ (s.ringSt r.val).last.contains (framePos f, repCyc f) = false) ∧
  (∃ (s : State) (r : Fin 12) (p : Fin 16) (at' : Nat) (e : Bool), regsWf s ∧ s.pwr.coreUp = true ∧ s.serveEnd r.val p.val = some e ∧ s.hiveDrives = true ∧ s.ringOn r.val = true ∧ p.val < s.ncell r.val ∧ (s.ringSt r.val).delivered.contains p.val = false ∧ s.get HIVE_RSTAT_MODE r.val ≠ 3 ∧ (if e then (s.ringSt r.val).recallB else (s.ringSt r.val).recallA) < s.get HIVE_CFG_RPT_RETRY ∧ 16 * (at' + 160 + 100 + 1440) + 2 * s.pathDelay r.val p.val e ≤ 16 * s.tReports ∧ s.hive.rings.length = 12) ∧
  (∃ (s : State) (r : Fin 12) (i : Nat), regsWf s ∧ s.pwr.coreUp = true ∧ s.en .hive = true ∧ s.running = true ∧ s.cyc.suspended = false ∧ s.cyc.sampled = true ∧ s.hive.windowOver = false ∧ s.enRings = [r.val] ∧ s.get HIVE_RSTAT_MODE r.val ≠ 3 ∧ s.ncell r.val = 1 ∧ s.slotAt r.val 0 = some i ∧ (s.ringSt r.val).judged = false ∧ s.hive.rings.length = 12 ∧ (s.ringSt r.val).delivered.contains 0 = true ∧ s.poison = []) ∧
  (∃ (s : State) (r : Fin 12) (i : Nat), regsWf s ∧ s.pwr.coreUp = true ∧ s.en .hive = true ∧ s.running = true ∧ s.cyc.suspended = false ∧ s.cyc.sampled = true ∧ s.hive.windowOver = false ∧ s.enRings = [r.val] ∧ s.get HIVE_RSTAT_MODE r.val ≠ 3 ∧ s.ncell r.val = 1 ∧ s.slotAt r.val 0 = some i ∧ (s.ringSt r.val).judged = false ∧ s.hive.rings.length = 12 ∧ (s.ringSt r.val).delivered.contains 0 = false ∧ s.countsMisses i = true ∧ s.getPk HIVE_RMISS_MISS_RUN 8 4 0 r.val + 1 < s.get HIVE_CFG_CELL_TMO) ∧
  (∃ (s : State) (r : Fin 12) (i : Nat), regsWf s ∧ s.pwr.coreUp = true ∧ s.en .hive = true ∧ s.running = true ∧ s.cyc.suspended = false ∧ s.cyc.sampled = true ∧ s.hive.windowOver = false ∧ s.enRings = [r.val] ∧ s.get HIVE_RSTAT_MODE r.val ≠ 3 ∧ s.ncell r.val = 1 ∧ s.slotAt r.val 0 = some i ∧ (s.ringSt r.val).judged = false ∧ s.hive.rings.length = 12 ∧ (s.ringSt r.val).delivered.contains 0 = false ∧ s.countsMisses i = true ∧ s.getPk HIVE_RMISS_MISS_RUN 8 4 0 r.val + 1 = s.get HIVE_CFG_CELL_TMO ∧ s.slotState i = 4 ∧ s.inRun = false) :=
  ⟨⟨(W [(0x000108, 0x4D), (0x010104, 0x1), (0x050200, 0x49), (0x051000, 0x1), (0x060500, 0x25)]), (2 : Fin 12), (withCrc ([0x5C#8, 1#8] ++ leBytes 4 77 ++ List.replicate 18 0x12#8 ++ [0x24#8, 3#8, 0#8, 0#8, 0#8, 0#8, 0#8, 0#8, 0#8, 0#8]) : List (BitVec 8)), (5 : Nat), by decide +kernel⟩,
   ⟨({ W [(0x010104, 0x1), (0x050200, 0x49), (0x051000, 0x1), (0x060500, 0x25)] with hive := { awake.hive with rings := (awake.hive.rings).set 2 ({ breaks := [], served := [], healed := [], lastBreak := 0, rekey := 0, restore := false, naks := [], nakCnt := 0, resA := (0, 0), resB := (0, 0), recallA := 0, recallB := 0, echo := [], keyA := [], keyB := [], keyEnd := [], delivered := [], late := [], taken := [], last := [(1, 77)], judged := false }) } } : State), (2 : Fin 12), (withCrc ([0x5C#8, 1#8] ++ leBytes 4 77 ++ List.replicate 18 0x12#8 ++ [0x24#8, 3#8, 0#8, 0#8, 0#8, 0#8, 0#8, 0#8, 0#8, 0#8]) : List (BitVec 8)), (5 : Nat), wf (by decide +kernel), by decide +kernel⟩,
   ⟨(W [(0x010104, 0x1), (0x050200, 0x49), (0x051000, 0x1), (0x060500, 0x25)]), (2 : Fin 12), (withCrc ([0x5C#8, 1#8] ++ leBytes 4 77 ++ List.replicate 18 0x12#8 ++ [0x24#8, 3#8, 0#8, 0#8, 0#8, 0#8, 0#8, 0#8, 0#8, 0#8]) : List (BitVec 8)), (5 : Nat), wf (by decide +kernel), by decide +kernel⟩,
   ⟨(W [(0x010104, 0x1), (0x010204, 0x1), (0x050200, 0x49), (0x051000, 0x1)]), (2 : Fin 12), (1 : Fin 16), (5000 : Nat), (false : Bool), wf (by decide +kernel), by decide +kernel⟩,
   ⟨({ W [(0x000114, 0x1), (0x010104, 0x1), (0x050200, 0x43), (0x051000, 0x1), (0x060500, 0x5)] with hive := { awake.hive with rings := (awake.hive.rings).set 2 ({ breaks := [], served := [], healed := [], lastBreak := 0, rekey := 0, restore := false, naks := [], nakCnt := 0, resA := (0, 0), resB := (0, 0), recallA := 0, recallB := 0, echo := [], keyA := [], keyB := [], keyEnd := [], delivered := [0], late := [], taken := [], last := [], judged := false }) }, cyc := { awake.cyc with sampled := true } } : State), (2 : Fin 12), (5 : Nat), wf (by decide +kernel), by decide +kernel⟩,
   ⟨({ W [(0x000114, 0x1), (0x010104, 0x1), (0x050200, 0x43), (0x051000, 0x1), (0x060500, 0x5), (0x060508, 0x4)] with cyc := { awake.cyc with sampled := true } } : State), (2 : Fin 12), (5 : Nat), wf (by decide +kernel), by decide +kernel⟩,
   ⟨({ W [(0x000114, 0x1), (0x010104, 0x1), (0x050200, 0x43), (0x050210, 0x2), (0x051000, 0x1), (0x060500, 0x5), (0x060508, 0x4)] with cyc := { awake.cyc with sampled := true } } : State), (2 : Fin 12), (5 : Nat), wf (by decide +kernel), by decide +kernel⟩⟩

theorem test_witness_WaggleTrainsAndResends :
  (∃ (s : State) (r : Nat) (p : Nat) (i : Nat) (e : Bool), s.pwr.coreUp = true ∧ s.hiveDrives = true ∧ s.running = true ∧ s.cyc.suspended = false ∧ s.poison = [] ∧ r ∈ s.enRings ∧ p < s.ncell r ∧ s.serveEnd r p = some e ∧ s.slotAt r p = some i ∧ s.hive.frames.contains i = true ∧ (s.fe i).frame = none ∧ s.fes.length = 192) ∧
  (∃ (s : State) (r : Fin 12) (e : Bool) (f : List (BitVec 8)) (i : Nat), s.pwr.coreUp = true ∧ s.ringOn r.val = true ∧ validFrame 0x9C 4 f = true ∧ framePos f < s.ncell r.val ∧ s.slotAt r.val (framePos f) = some i ∧ s.get HIVE_RSTAT_MODE r.val ≠ 3 ∧ s.hive.resends = false ∧ s.hive.rings.length = 12 ∧ s.fes.length = 192) ∧
  (∃ (s : State) (r : Fin 12) (e : Bool) (f : List (BitVec 8)) (i : Nat), s.pwr.coreUp = true ∧ s.ringOn r.val = true ∧ validFrame 0x9C 4 f = true ∧ framePos f < s.ncell r.val ∧ s.slotAt r.val (framePos f) = some i ∧ s.get HIVE_RSTAT_MODE r.val = 3 ∧ s.hive.rings.length = 12 ∧ s.fes.length = 192) ∧
  (∃ (s : State) (r : Fin 12) (e : Bool) (f : List (BitVec 8)) (i : Nat), regsWf s ∧ s.pwr.coreUp = true ∧ s.ringOn r.val = true ∧ validFrame 0x9C 4 f = true ∧ framePos f < s.ncell r.val ∧ s.slotAt r.val (framePos f) = some i ∧ s.hive.resends = true ∧ s.hiveDrives = true ∧ s.running = true ∧ s.cyc.suspended = false ∧ s.poison = [] ∧ s.hive.frames.contains i = true ∧ (if e then (s.ringSt r.val).resB else (s.ringSt r.val).resA).1 < s.get HIVE_CFG_WAG_RETRY ∧ (if e then (s.ringSt r.val).resB else (s.ringSt r.val).resA).2 ≤ s.tResend ∧ s.now ≤ s.samp + s.tResend ∧ 16 * (s.tResend + 500) + s.pathDelay r.val (framePos f) e ≤ 16 * s.applyAt ∧ s.get HIVE_RSTAT_MODE r.val ≠ 3 ∧ s.hive.rings.length = 12 ∧ s.fes.length = 192) ∧
  (∃ (s : State) (r : Nat) (p : Nat) (i : Nat) (e : Bool), regsWf s ∧ s.pwr.coreUp = true ∧ s.hiveDrives = true ∧ s.running = true ∧ s.cyc.suspended = false ∧ s.poison = [] ∧ s.enRings = [r] ∧ (s.ringSt r).naks = [(p, e)] ∧ s.slotAt r p = some i ∧ s.hive.frames.contains i = true ∧ (if e then (s.ringSt r).resB else (s.ringSt r).resA).1 < s.get HIVE_CFG_WAG_RETRY ∧ (if e then (s.ringSt r).resB else (s.ringSt r).resA).2 ≤ s.tResend ∧ s.now ≤ s.samp + s.tResend ∧ 16 * (s.tResend + 500) + s.pathDelay r p e ≤ 16 * s.applyAt ∧ s.get HIVE_RSTAT_MODE r ≠ 3 ∧ (s.fe i).frame = none ∧ s.fes.length = 192 ∧ s.hive.rings.length = 12) :=
  ⟨⟨({ W [(0x000114, 0x1), (0x010104, 0x1), (0x010204, 0x1), (0x050200, 0x49), (0x051000, 0x1), (0x060500, 0x25)] with hive := { awake.hive with frames := [5] } } : State), (2 : Nat), (1 : Nat), (5 : Nat), (false : Bool), by decide +kernel⟩,
   ⟨(W [(0x010104, 0x1), (0x050200, 0x49), (0x051000, 0x1), (0x060500, 0x25)]), (2 : Fin 12), (false : Bool), (withCrc [0x9C#8, 1#8] : List (BitVec 8)), (5 : Nat), by decide +kernel⟩,
   ⟨(W [(0x010104, 0x1), (0x050200, 0x49), (0x050204, 0x3), (0x051000, 0x1), (0x060500, 0x25)]), (2 : Fin 12), (false : Bool), (withCrc [0x9C#8, 1#8] : List (BitVec 8)), (5 : Nat), by decide +kernel⟩,
   ⟨({ W [(0x000114, 0x1), (0x010104, 0x1), (0x010204, 0x1), (0x050200, 0x49), (0x051000, 0x1), (0x060500, 0x25)] with hive := { awake.hive with frames := [5], resends := true } } : State), (2 : Fin 12), (false : Bool), (withCrc [0x9C#8, 1#8] : List (BitVec 8)), (5 : Nat), wf (by decide +kernel), by decide +kernel⟩,
   ⟨({ W [(0x000114, 0x1), (0x010104, 0x1), (0x010204, 0x1), (0x050200, 0x49), (0x051000, 0x1), (0x060500, 0x25)] with hive := { awake.hive with rings := (awake.hive.rings).set 2 ({ breaks := [], served := [], healed := [], lastBreak := 0, rekey := 0, restore := false, naks := [(1, false)], nakCnt := 0, resA := (0, 0), resB := (0, 0), recallA := 0, recallB := 0, echo := [], keyA := [], keyB := [], keyEnd := [], delivered := [], late := [], taken := [], last := [], judged := false }), frames := [5] } } : State), (2 : Nat), (1 : Nat), (5 : Nat), (false : Bool), wf (by decide +kernel), by decide +kernel⟩⟩

theorem test_witness_BlockFramesAndTheirEcho :
  (∃ (s : State), s.pwr.coreUp = true ∧ s.flag HIVE_BLOCK_ACTIVE = true ∧ s.hiveDrives = true ∧ s.fes.length = 192) ∧
  (∃ (s : State), s.pwr.coreUp = true ∧ s.flag HIVE_BLOCK_ACTIVE = false) ∧
  (∃ (s : State) (r : Fin 12) (e : Bool) (f : List (BitVec 8)), s.pwr.coreUp = true ∧ s.ringOn r.val = true ∧ validFrame 0xDC 8 f = true ∧ leAt f 4 2 = s.get HIVE_BLOCK_SEQ ∧ frameEnd f ≠ e ∧ s.hive.rings.length = 12) ∧
  (∃ (s : State) (r : Fin 12) (e : Bool), regsWf s ∧ s.pwr.coreUp = true ∧ s.ringOn r.val = true ∧ (s.ringSt r.val).echo.contains e = true ∧ (s.ringSt r.val).breaks = [] ∧ s.hive.rings.length = 12) ∧
  (∃ (s : State) (r : Fin 12) (e : Bool), s.pwr.coreUp = true ∧ s.ringOn r.val = true ∧ (s.ringSt r.val).echo.contains e = true ∧ (s.ringSt r.val).breaks ≠ [] ∧ s.hive.rings.length = 12) :=
  ⟨⟨(W [(0x010104, 0x1), (0x010204, 0x1), (0x051000, 0x1), (0x051108, 0x1)]), by decide +kernel⟩,
   ⟨(W [(0x010104, 0x1)]), by decide +kernel⟩,
   ⟨(W [(0x010104, 0x1), (0x050200, 0x49), (0x051000, 0x1), (0x051108, 0x90000)]), (2 : Fin 12), (false : Bool), (blockFrame true 4 9 : List (BitVec 8)), by decide +kernel⟩,
   ⟨({ W [(0x010104, 0x1), (0x050200, 0x49), (0x051000, 0x1)] with hive := { awake.hive with rings := (awake.hive.rings).set 2 ({ breaks := [], served := [], healed := [], lastBreak := 0, rekey := 0, restore := false, naks := [], nakCnt := 0, resA := (0, 0), resB := (0, 0), recallA := 0, recallB := 0, echo := [false, true], keyA := [], keyB := [], keyEnd := [], delivered := [], late := [], taken := [], last := [], judged := false }) } } : State), (2 : Fin 12), (false : Bool), wf (by decide +kernel), by decide +kernel⟩,
   ⟨({ W [(0x010104, 0x1), (0x050200, 0x49), (0x051000, 0x1)] with hive := { awake.hive with rings := (awake.hive.rings).set 2 ({ breaks := [3], served := [], healed := [], lastBreak := 0, rekey := 0, restore := false, naks := [], nakCnt := 0, resA := (0, 0), resB := (0, 0), recallA := 0, recallB := 0, echo := [false, true], keyA := [], keyB := [], keyEnd := [], delivered := [], late := [], taken := [], last := [], judged := false }) } } : State), (2 : Fin 12), (false : Bool), by decide +kernel⟩⟩

theorem test_witness_BreaksAreDeclaredServedAndHealed :
  (∃ (s : State) (r : Fin 12) (f : List (BitVec 8)), regsWf s ∧ s.pwr.coreUp = true ∧ s.ringOn r.val = true ∧ validFrame 0xFC 8 f = true ∧ bitOf (byteAt f 2) 5 = false ∧ (s.ringSt r.val).breaks = [] ∧ s.tight = false ∧ s.hive.tx = [] ∧ s.hive.waiting = [] ∧ s.hive.rings.length = 12) ∧
  (∃ (s : State) (r : Fin 12) (f : List (BitVec 8)), regsWf s ∧ s.pwr.coreUp = true ∧ s.ringOn r.val = true ∧ validFrame 0xFC 8 f = true ∧ bitOf (byteAt f 2) 5 = false ∧ (s.ringSt r.val).breaks ≠ [] ∧ (s.ringSt r.val).breaks.contains (byteAt f 2 % 16 + b2n (bitOf (byteAt f 2) 4)) = false ∧ s.tight = false ∧ s.hive.tx = [] ∧ s.hive.waiting = [] ∧ s.hive.rings.length = 12) ∧
  (∃ (s : State) (r : Fin 12) (f : List (BitVec 8)), s.pwr.coreUp = true ∧ s.ringOn r.val = true ∧ validFrame 0xFC 8 f = true ∧ bitOf (byteAt f 2) 5 = true ∧ (s.ringSt r.val).breaks.contains (byteAt f 2 % 16 + b2n (bitOf (byteAt f 2) 4)) = true ∧ s.hive.rings.length = 12) ∧
  (∃ (s : State) (r : Fin 12) (f : List (BitVec 8)), regsWf s ∧ s.pwr.coreUp = true ∧ s.ringOn r.val = true ∧ validFrame 0xFC 8 f = true ∧ bitOf (byteAt f 2) 5 = false ∧ (s.ringSt r.val).breaks.contains (byteAt f 2 % 16 + b2n (bitOf (byteAt f 2) 4)) = true ∧ (s.ringSt r.val).healed.contains (byteAt f 2 % 16 + b2n (bitOf (byteAt f 2) 4)) = true ∧ s.hive.rings.length = 12) ∧
  (∃ (s : State) (r : Fin 12) (e : Bool), regsWf s ∧ s.pwr.coreUp = true ∧ s.ringOn r.val = true ∧ (s.ringSt r.val).breaks = [] ∧ s.tight = false ∧ s.hive.tx = [] ∧ s.hive.waiting = [] ∧ s.hive.rings.length = 12) ∧
  (∃ (s : State) (r : Fin 12) (e : Bool), regsWf s ∧ s.pwr.coreUp = true ∧ s.ringOn r.val = true ∧ (s.ringSt r.val).breaks.contains (if e then s.ncell r.val else 0) = true ∧ s.hive.rings.length = 12) ∧
  (∃ (s : State) (r : Fin 12), s.pwr.coreUp = true ∧ s.hive.rings.length = 12) ∧
  (∃ (s : State) (r : Fin 12), s.pwr.coreUp = true ∧ s.healable r.val = true ∧ s.hive.rings.length = 12) ∧
  (∃ (s : State) (r : Fin 12), regsWf s ∧ s.pwr.coreUp = true ∧ s.healable r.val = false) ∧
  (∃ (s : State) (r : Fin 12), regsWf s ∧ s.pwr.coreUp = true ∧ s.healable r.val = true ∧ (s.flag HIVE_RCTL_AUTO_HEAL r.val = true ∨ (s.ringSt r.val).restore = true) ∧ s.hive.rings.length = 12) ∧
  (∃ (s : State) (r : Fin 12), s.pwr.coreUp = true ∧ s.healable r.val = false) :=
  ⟨⟨(W [(0x010104, 0x1), (0x050200, 0x49), (0x051000, 0x1)]), (2 : Fin 12), (withCrc [0xFC#8, 1#8, 0x11#8, 0#8, 0#8, 0#8] : List (BitVec 8)), wf (by decide +kernel), by decide +kernel⟩,
   ⟨({ W [(0x010104, 0x1), (0x050200, 0x49), (0x051000, 0x1)] with hive := { awake.hive with rings := (awake.hive.rings).set 2 ({ breaks := [4], served := [], healed := [], lastBreak := 0, rekey := 0, restore := false, naks := [], nakCnt := 0, resA := (0, 0), resB := (0, 0), recallA := 0, recallB := 0, echo := [], keyA := [], keyB := [], keyEnd := [], delivered := [], late := [], taken := [], last := [], judged := false }) } } : State), (2 : Fin 12), (withCrc [0xFC#8, 1#8, 0x11#8, 0#8, 0#8, 0#8] : List (BitVec 8)), wf (by decide +kernel), by decide +kernel⟩,
   ⟨({ W [(0x010104, 0x1), (0x050200, 0x49), (0x051000, 0x1)] with hive := { awake.hive with rings := (awake.hive.rings).set 2 ({ breaks := [2], served := [], healed := [], lastBreak := 0, rekey := 0, restore := false, naks := [], nakCnt := 0, resA := (0, 0), resB := (0, 0), recallA := 0, recallB := 0, echo := [], keyA := [], keyB := [], keyEnd := [], delivered := [], late := [], taken := [], last := [], judged := false }) } } : State), (2 : Fin 12), (withCrc [0xFC#8, 1#8, 0x31#8, 0#8, 0#8, 0#8] : List (BitVec 8)), by decide +kernel⟩,
   ⟨({ W [(0x010104, 0x1), (0x050200, 0x49), (0x051000, 0x1)] with hive := { awake.hive with rings := (awake.hive.rings).set 2 ({ breaks := [2], served := [], healed := [2], lastBreak := 0, rekey := 2, restore := false, naks := [], nakCnt := 0, resA := (0, 0), resB := (0, 0), recallA := 0, recallB := 0, echo := [], keyA := [], keyB := [], keyEnd := [], delivered := [], late := [], taken := [], last := [], judged := false }) } } : State), (2 : Fin 12), (withCrc [0xFC#8, 1#8, 0x11#8, 0#8, 0#8, 0#8] : List (BitVec 8)), wf (by decide +kernel), by decide +kernel⟩,
   ⟨(W [(0x010104, 0x1), (0x050200, 0x49), (0x051000, 0x1)]), (2 : Fin 12), (true : Bool), wf (by decide +kernel), by decide +kernel⟩,
   ⟨({ W [(0x010104, 0x1), (0x050200, 0x49), (0x051000, 0x1)] with hive := { awake.hive with rings := (awake.hive.rings).set 2 ({ breaks := [4], served := [], healed := [], lastBreak := 0, rekey := 0, restore := false, naks := [], nakCnt := 0, resA := (0, 0), resB := (0, 0), recallA := 0, recallB := 0, echo := [], keyA := [], keyB := [], keyEnd := [], delivered := [], late := [], taken := [], last := [], judged := false }) } } : State), (2 : Fin 12), (true : Bool), wf (by decide +kernel), by decide +kernel⟩,
   ⟨(W [(0x010104, 0x1)]), (2 : Fin 12), by decide +kernel⟩,
   ⟨({ W [(0x010104, 0x1), (0x050204, 0x2), (0x051104, 0x1040)] with hive := { awake.hive with rings := (awake.hive.rings).set 2 ({ breaks := [2], served := [2], healed := [2], lastBreak := 0, rekey := 2, restore := false, naks := [], nakCnt := 0, resA := (0, 0), resB := (0, 0), recallA := 0, recallB := 0, echo := [], keyA := [], keyB := [], keyEnd := [], delivered := [], late := [], taken := [], last := [], judged := false }) } } : State), (2 : Fin 12), by decide +kernel⟩,
   ⟨(W [(0x010104, 0x1)]), (2 : Fin 12), wf (by decide +kernel), by decide +kernel⟩,
   ⟨({ W [(0x010104, 0x1), (0x050204, 0x2), (0x051104, 0x1040)] with hive := { awake.hive with rings := (awake.hive.rings).set 2 ({ breaks := [2], served := [2], healed := [2], lastBreak := 0, rekey := 2, restore := false, naks := [], nakCnt := 0, resA := (0, 0), resB := (0, 0), recallA := 0, recallB := 0, echo := [], keyA := [], keyB := [], keyEnd := [], delivered := [], late := [], taken := [], last := [], judged := false }) } } : State), (2 : Fin 12), wf (by decide +kernel), by decide +kernel⟩,
   ⟨(W [(0x010104, 0x1)]), (2 : Fin 12), by decide +kernel⟩⟩

theorem test_witness_KeyingAndEnumeration :
  (∃ (s : State) (r : Fin 12) (e : Bool) (f : List (BitVec 8)) (trip : Nat), s.pwr.coreUp = true ∧ s.ringOn r.val = true ∧ validFrame 0xFD 8 f = true ∧ bitOf (byteAt f 3) 0 = true ∧ (s.ringSt r.val).keyEnd.contains e = false ∧ s.hive.rings.length = 12) ∧
  (∃ (s : State) (r : Fin 12) (e : Bool) (f : List (BitVec 8)) (trip : Nat), s.pwr.coreUp = true ∧ s.ringOn r.val = true ∧ validFrame 0xFD 8 f = true ∧ bitOf (byteAt f 3) 0 = false ∧ s.hive.rings.length = 12) ∧
  (∃ (s : State) (r : Fin 12) (m : List Int × List Int), regsWf s ∧ s.pwr.coreUp = true ∧ s.ringOn r.val = true ∧ s.keyed r.val = m ∧ m.1.length = s.ncell r.val ∧ 0 < s.ncell r.val ∧ s.ncell r.val ≤ 16 ∧ (s.ringSt r.val).breaks = [] ∧ (hopDelays m.1 ++ hopDelays m.2).any (fun h => decide (640 < h)) = false ∧ hopsAgree (s.get HIVE_KEY_CFG_KEY_TOL) m.1 m.2 = true ∧ m.2.length = s.ncell r.val ∧ s.hive.rings.length = 12) ∧
  (∃ (s : State) (r : Fin 12) (m : List Int × List Int), regsWf s ∧ s.pwr.coreUp = true ∧ s.ringOn r.val = true ∧ s.keyed r.val = m ∧ m.1.length = s.ncell r.val ∧ 0 < s.ncell r.val ∧ s.ncell r.val ≤ 16 ∧ (hopDelays m.1 ++ hopDelays m.2).any (fun h => decide (640 < h)) = true ∧ (s.ringSt r.val).breaks = []) ∧
  (∃ (s : State) (r : Fin 12) (m : List Int × List Int), s.pwr.coreUp = true ∧ s.ringOn r.val = true ∧ (s.ringSt r.val).rekey = 1 ∧ (s.ringSt r.val).breaks.all (fun h => (s.ringSt r.val).healed.contains h) = true ∧ s.keyed r.val = m ∧ s.hive.rings.length = 12 ∧ m.1.length = s.ncell r.val ∧ m.2.length = s.ncell r.val ∧ ((hopDelays m.1).zip (hopDelays ((List.range (s.ncell r.val)).map (fun p => (s.get HIVE_RDLY_DLY_A r.val p : Int))))).all (fun q => decide ((q.1 - q.2).natAbs ≤ s.get HIVE_KEY_CFG_KEY_TOL)) = true ∧ ((hopDelays m.2).zip (hopDelays ((List.range (s.ncell r.val)).map (fun p => (s.get HIVE_RDLY_DLY_B r.val (s.ncell r.val - 1 - p) : Int))))).all (fun q => decide ((q.1 - q.2).natAbs ≤ s.get HIVE_KEY_CFG_KEY_TOL)) = true) ∧
  (∃ (s : State) (r : Fin 12) (m : List Int × List Int), regsWf s ∧ s.pwr.coreUp = true ∧ s.ringOn r.val = true ∧ (s.ringSt r.val).rekey = 1 ∧ (s.ringSt r.val).breaks.all (fun h => (s.ringSt r.val).healed.contains h) = true ∧ s.keyed r.val = m ∧ s.hive.rings.length = 12 ∧ ((hopDelays m.1).zip (hopDelays ((List.range (s.ncell r.val)).map (fun p => (s.get HIVE_RDLY_DLY_A r.val p : Int))))).all (fun q => decide ((q.1 - q.2).natAbs ≤ s.get HIVE_KEY_CFG_KEY_TOL)) = false) ∧
  (∃ (s : State) (r : Fin 12) (p : Fin 16) (i : Nat) (tag : Nat), regsWf s ∧ s.pwr.coreUp = true ∧ s.ringOn r.val = true ∧ s.flag HIVE_RSTAT_KEYED r.val = true ∧ p.val < s.ncell r.val ∧ s.en .cell = true ∧ s.slotAt r.val p.val = some i ∧ s.cutOff r.val p.val = false ∧ s.endPlace r.val p.val = true ∧ (List.range p.val).all (fun q => s.handedOver r.val q) = true ∧ s.get CELL_SSTAT_STATE i = 0 ∧ s.hiveDrives = true ∧ (s.ringSt r.val).breaks = [] ∧ s.hive.waiting = [] ∧ s.freeTag false = some tag ∧ s.perCellOk r.val p.val = true ∧ s.en .part = false ∧ s.fes.length = 192) :=
  ⟨⟨(W [(0x010104, 0x1), (0x050200, 0x49), (0x051000, 0x1)]), (2 : Fin 12), (true : Bool), (withCrc [0xFD#8, 1#8, 0#8, 1#8, 0x10#8, 0#8] : List (BitVec 8)), (2416 : Nat), by decide +kernel⟩,
   ⟨(W [(0x010104, 0x1), (0x050200, 0x49), (0x051000, 0x1)]), (2 : Fin 12), (true : Bool), (withCrc [0xFD#8, 2#8, 2#8, 0#8, 0#8, 0#8] : List (BitVec 8)), (0 : Nat), by decide +kernel⟩,
   ⟨({ W [(0x010104, 0x1), (0x050200, 0x45), (0x051000, 0x1), (0x051104, 0x640801)] with hive := { awake.hive with rings := (awake.hive.rings).set 2 ({ breaks := [], served := [], healed := [], lastBreak := 0, rekey := 1, restore := false, naks := [], nakCnt := 0, resA := (0, 0), resB := (0, 0), recallA := 0, recallB := 0, echo := [], keyA := [(0, 2432), (1, 3072)], keyB := [(0, 2432), (1, 3072)], keyEnd := [], delivered := [], late := [], taken := [], last := [], judged := false }) } } : State), (2 : Fin 12), (let s : State := ({ W [(0x010104, 0x1), (0x050200, 0x45), (0x051000, 0x1), (0x051104, 0x640801)] with hive := { awake.hive with rings := (awake.hive.rings).set 2 ({ breaks := [], served := [], healed := [], lastBreak := 0, rekey := 1, restore := false, naks := [], nakCnt := 0, resA := (0, 0), resB := (0, 0), recallA := 0, recallB := 0, echo := [], keyA := [(0, 2432), (1, 3072)], keyB := [(0, 2432), (1, 3072)], keyEnd := [], delivered := [], late := [], taken := [], last := [], judged := false }) } } : State); (s.keyed 2 : List Int × List Int)), wf (by decide +kernel), by decide +kernel⟩,
   ⟨({ W [(0x010104, 0x1), (0x050200, 0x45), (0x051000, 0x1), (0x051104, 0x640801)] with hive := { awake.hive with rings := (awake.hive.rings).set 2 ({ breaks := [], served := [], healed := [], lastBreak := 0, rekey := 1, restore := false, naks := [], nakCnt := 0, resA := (0, 0), resB := (0, 0), recallA := 0, recallB := 0, echo := [], keyA := [(0, 2432), (1, 5072)], keyB := [(0, 2432), (1, 3072)], keyEnd := [], delivered := [], late := [], taken := [], last := [], judged := false }) } } : State), (2 : Fin 12), (let s : State := ({ W [(0x010104, 0x1), (0x050200, 0x45), (0x051000, 0x1), (0x051104, 0x640801)] with hive := { awake.hive with rings := (awake.hive.rings).set 2 ({ breaks := [], served := [], healed := [], lastBreak := 0, rekey := 1, restore := false, naks := [], nakCnt := 0, resA := (0, 0), resB := (0, 0), recallA := 0, recallB := 0, echo := [], keyA := [(0, 2432), (1, 5072)], keyB := [(0, 2432), (1, 3072)], keyEnd := [], delivered := [], late := [], taken := [], last := [], judged := false }) } } : State); (s.keyed 2 : List Int × List Int)), wf (by decide +kernel), by decide +kernel⟩,
   ⟨({ W [(0x010104, 0x1), (0x050200, 0x45), (0x050240, 0x2800140), (0x050244, 0x1400280), (0x051000, 0x1), (0x051104, 0x640801)] with hive := { awake.hive with rings := (awake.hive.rings).set 2 ({ breaks := [], served := [], healed := [], lastBreak := 0, rekey := 1, restore := false, naks := [], nakCnt := 0, resA := (0, 0), resB := (0, 0), recallA := 0, recallB := 0, echo := [], keyA := [(0, 2432), (1, 3072)], keyB := [(0, 2432), (1, 3072)], keyEnd := [], delivered := [], late := [], taken := [], last := [], judged := false }) } } : State), (2 : Fin 12), (let s : State := ({ W [(0x010104, 0x1), (0x050200, 0x45), (0x050240, 0x2800140), (0x050244, 0x1400280), (0x051000, 0x1), (0x051104, 0x640801)] with hive := { awake.hive with rings := (awake.hive.rings).set 2 ({ breaks := [], served := [], healed := [], lastBreak := 0, rekey := 1, restore := false, naks := [], nakCnt := 0, resA := (0, 0), resB := (0, 0), recallA := 0, recallB := 0, echo := [], keyA := [(0, 2432), (1, 3072)], keyB := [(0, 2432), (1, 3072)], keyEnd := [], delivered := [], late := [], taken := [], last := [], judged := false }) } } : State); (s.keyed 2 : List Int × List Int)), by decide +kernel⟩,
   ⟨({ W [(0x010104, 0x1), (0x050200, 0x45), (0x051000, 0x1), (0x051104, 0x640801)] with hive := { awake.hive with rings := (awake.hive.rings).set 2 ({ breaks := [], served := [], healed := [], lastBreak := 0, rekey := 1, restore := false, naks := [], nakCnt := 0, resA := (0, 0), resB := (0, 0), recallA := 0, recallB := 0, echo := [], keyA := [(0, 2432), (1, 3072)], keyB := [(0, 2432), (1, 3072)], keyEnd := [], delivered := [], late := [], taken := [], last := [], judged := false }) } } : State), (2 : Fin 12), (let s : State := ({ W [(0x010104, 0x1), (0x050200, 0x45), (0x051000, 0x1), (0x051104, 0x640801)] with hive := { awake.hive with rings := (awake.hive.rings).set 2 ({ breaks := [], served := [], healed := [], lastBreak := 0, rekey := 1, restore := false, naks := [], nakCnt := 0, resA := (0, 0), resB := (0, 0), recallA := 0, recallB := 0, echo := [], keyA := [(0, 2432), (1, 3072)], keyB := [(0, 2432), (1, 3072)], keyEnd := [], delivered := [], late := [], taken := [], last := [], judged := false }) } } : State); (s.keyed 2 : List Int × List Int)), wf (by decide +kernel), by decide +kernel⟩,
   ⟨(W [(0x010104, 0x1), (0x010204, 0x1), (0x050200, 0x49), (0x050204, 0x2001), (0x051000, 0x1), (0x060500, 0x25), (0x06C000, 0x10001)]), (2 : Fin 12), (1 : Fin 16), (5 : Nat), (56 : Nat), wf (by decide +kernel), by decide +kernel⟩⟩

theorem test_witness_CellCommandsWaitAndSlotsTimeOut :
  (∃ (s : State) (i : Fin 192), s.pwr.coreUp = true ∧ s.follows = false) ∧
  (∃ (s : State) (i : Fin 192), s.pwr.coreUp = true ∧ s.follows = false) ∧
  (∃ (s : State) (i : Fin 192), s.pwr.coreUp = true ∧ s.follows = false) ∧
  (∃ (s : State) (i : Fin 192), regsWf s ∧ s.pwr.coreUp = true ∧ s.follows = true) ∧
  (∃ (s : State) (i : Fin 192), regsWf s ∧ s.pwr.coreUp = true ∧ s.follows = true) ∧
  (∃ (s : State) (i : Fin 192), regsWf s ∧ s.pwr.coreUp = true ∧ s.follows = true) ∧
  (∃ (s : State) (i : Fin 192), regsWf s ∧ s.pwr.coreUp = true ∧ s.en .cell = true ∧ s.cell.left.any (fun p => p.1 == i.val) = true ∧ s.flag CELL_SSTAT_BYP_CONF i.val = false ∧ s.reportsArrive i.val = true ∧ s.cell.unconf.contains i.val = false) ∧
  (∃ (s : State) (i : Fin 192), regsWf s ∧ s.pwr.coreUp = true ∧ s.slotState i.val = 1) ∧
  (∃ (s : State) (i : Fin 192), s.pwr.coreUp = true ∧ s.slotState i.val ≠ 1) :=
  ⟨⟨(W [(0x010104, 0x1)]), (5 : Fin 192), by decide +kernel⟩,
   ⟨(W [(0x010104, 0x1)]), (5 : Fin 192), by decide +kernel⟩,
   ⟨(W [(0x010104, 0x1)]), (5 : Fin 192), by decide +kernel⟩,
   ⟨(W [(0x160000, 0x1), (0x160204, 0x2)]), (9 : Fin 192), wf (by decide +kernel), by decide +kernel⟩,
   ⟨(W [(0x160000, 0x1), (0x160204, 0x2)]), (9 : Fin 192), wf (by decide +kernel), by decide +kernel⟩,
   ⟨(W [(0x160000, 0x1), (0x160204, 0x2)]), (9 : Fin 192), wf (by decide +kernel), by decide +kernel⟩,
   ⟨({ W [(0x000108, 0xA), (0x010104, 0x1), (0x060500, 0x25), (0x06C000, 0x10001)] with hive := { awake.hive with rings := (awake.hive.rings).set 2 ({ breaks := [], served := [], healed := [], lastBreak := 0, rekey := 0, restore := false, naks := [], nakCnt := 0, resA := (0, 0), resB := (0, 0), recallA := 0, recallB := 0, echo := [], keyA := [], keyB := [], keyEnd := [], delivered := [], late := [], taken := [], last := [(1, 9)], judged := false }) }, cell := { awake.cell with left := [(5, 0)] } } : State), (5 : Fin 192), wf (by decide +kernel), by decide +kernel⟩,
   ⟨(W [(0x010104, 0x1), (0x060508, 0x1)]), (5 : Fin 192), wf (by decide +kernel), by decide +kernel⟩,
   ⟨(W [(0x010104, 0x1)]), (5 : Fin 192), by decide +kernel⟩⟩

theorem test_witness_FrontEndsActAtTheApplyPoint :
  (∃ (s : State) (i : Fin 192) (f : List (BitVec 8)) (came : Nat), s.pwr.coreUp = true ∧ s.running = true ∧ s.cyc.suspended = false ∧ s.flag SYS_PWR_STATE_STANDBY = false ∧ s.flag CELL_SCFG_SLOT_EN i.val = true ∧ s.fes.length = 192 ∧ (s.fe i.val).pend = 0 ∧ (s.fe i.val).st = 4 ∧ (s.fe i.val).frame = some (f, came) ∧ s.frameFits (s.fe i.val) f came = true ∧ frLaInit f = (s.fe i.val).la ∧ frLbInit f = (s.fe i.val).lb) ∧
  (∃ (s : State) (i : Fin 192), s.pwr.coreUp = true ∧ s.running = true ∧ s.cyc.suspended = false ∧ s.flag SYS_PWR_STATE_STANDBY = false ∧ s.flag CELL_SCFG_SLOT_EN i.val = true ∧ s.fes.length = 192 ∧ (s.fe i.val).pend = 0 ∧ (s.fe i.val).st = 4 ∧ (s.fe i.val).frame = none ∧ (s.fe i.val).coast < bitsOf (s.fe i.val).pulse 20 2) ∧
  (∃ (s : State) (i : Fin 192), s.pwr.coreUp = true ∧ s.running = true ∧ s.cyc.suspended = false ∧ s.flag SYS_PWR_STATE_STANDBY = false ∧ s.flag CELL_SCFG_SLOT_EN i.val = true ∧ s.fes.length = 192 ∧ (s.fe i.val).pend = 0 ∧ (s.fe i.val).st = 4 ∧ (s.fe i.val).frame = none ∧ bitsOf (s.fe i.val).pulse 20 2 ≤ (s.fe i.val).coast) ∧
  (∃ (s : State) (i : Fin 192), s.pwr.coreUp = true ∧ s.running = true ∧ s.cyc.suspended = false ∧ s.flag SYS_PWR_STATE_STANDBY = false ∧ s.flag CELL_SCFG_SLOT_EN i.val = true ∧ s.fes.length = 192 ∧ (s.fe i.val).pend = 1 ∧ (s.fe i.val).st = 4) ∧
  (∃ (s : State) (i : Fin 192), s.pwr.coreUp = true ∧ s.running = true ∧ s.cyc.suspended = false ∧ s.flag SYS_PWR_STATE_STANDBY = false ∧ s.flag CELL_SCFG_SLOT_EN i.val = true ∧ s.fes.length = 192 ∧ (s.fe i.val).pend = 2 ∧ (s.fe i.val).st = 4) :=
  ⟨⟨({ W [(0x000114, 0x1), (0x010104, 0x1), (0x060500, 0x25)] with fes := (awake.fes).set 5 ({ st := 4, coast := 1, blocked := false, dabBlocked := false, byp := true, la := false, lb := true, last := [], prevDab := false, sel := 0, flt := 0, frame := some ([0x1c#8, 0x01#8, 0xe8#8, 0x03#8, 0x00#8, 0x00#8, 0xd0#8, 0x07#8, 0xb8#8, 0x0b#8, 0x00#8, 0x00#8, 0x26#8, 0x00#8, 0x4d#8, 0x00#8, 0x00#8, 0x00#8, 0x33#8, 0x17#8], 342400), pend := 0, sync := none, cyc := some 77, applied := 0, wait := none, timing := 50000, timing2 := 0, pulse := 2102272 }) } : State), (5 : Fin 192), (waggleFrame ([0#8, 0#8] ++ leBytes 2 1000 ++ leBytes 2 0 ++ leBytes 2 2000 ++ leBytes 2 3000 ++ leBytes 2 0 ++ [0x26#8, 0#8] ++ leBytes 4 77) 1 false false : List (BitVec 8)), (16 * 21400 : Nat), by decide +kernel⟩,
   ⟨({ W [(0x000114, 0x1), (0x010104, 0x1), (0x060500, 0x25)] with fes := (awake.fes).set 5 ({ st := 4, coast := 1, blocked := false, dabBlocked := false, byp := true, la := false, lb := true, last := [], prevDab := false, sel := 0, flt := 0, frame := none, pend := 0, sync := none, cyc := some 77, applied := 0, wait := none, timing := 50000, timing2 := 0, pulse := 2102272 }) } : State), (5 : Fin 192), by decide +kernel⟩,
   ⟨({ W [(0x000114, 0x1), (0x010104, 0x1), (0x060500, 0x25)] with fes := (awake.fes).set 5 ({ st := 4, coast := 2, blocked := false, dabBlocked := false, byp := true, la := false, lb := true, last := [], prevDab := false, sel := 0, flt := 0, frame := none, pend := 0, sync := none, cyc := some 77, applied := 0, wait := none, timing := 50000, timing2 := 0, pulse := 2102272 }) } : State), (5 : Fin 192), by decide +kernel⟩,
   ⟨({ W [(0x000114, 0x1), (0x010104, 0x1), (0x060500, 0x25)] with fes := (awake.fes).set 5 ({ st := 4, coast := 1, blocked := false, dabBlocked := false, byp := true, la := false, lb := true, last := [], prevDab := false, sel := 0, flt := 0, frame := none, pend := 1, sync := none, cyc := some 77, applied := 0, wait := none, timing := 50000, timing2 := 0, pulse := 2102272 }) } : State), (5 : Fin 192), by decide +kernel⟩,
   ⟨({ W [(0x000114, 0x1), (0x010104, 0x1), (0x060500, 0x25)] with fes := (awake.fes).set 5 ({ st := 4, coast := 1, blocked := false, dabBlocked := false, byp := true, la := false, lb := true, last := [], prevDab := false, sel := 0, flt := 0, frame := none, pend := 2, sync := none, cyc := some 77, applied := 0, wait := none, timing := 50000, timing2 := 0, pulse := 2102272 }) } : State), (5 : Fin 192), by decide +kernel⟩⟩

theorem test_witness_CoilOutputsObeyTheirOwner :
  (∃ (s : State) (o : Fin 40), regsWf s ∧ s.pwr.coreUp = true ∧ s.en .ctc = true ∧ s.flag CTC_OCFG_EN o.val = true ∧ s.get CTC_OCFG_OWNER o.val = 0 ∧ s.pins.rails.contains .v5a = true ∧ s.pwr.heartbeat = true ∧ s.forcedOff o.val = false ∧ s.flag CTC_OSTAT_SHORT o.val = false ∧ s.flag CTC_OSTAT_OPEN o.val = false ∧ s.flag CTC_OSTAT_REVERSE o.val = false ∧ s.flag CTC_OCFG_FOLLOW_EN o.val = false ∧ s.en .part = false) ∧
  (∃ (s : State) (o : Fin 40), regsWf s ∧ s.pwr.coreUp = true ∧ s.en .ctc = true ∧ s.flag CTC_OCFG_EN o.val = true ∧ s.get CTC_OCFG_OWNER o.val = 0 ∧ s.pwr.heartbeat = true ∧ s.flag CTC_OCFG_FOLLOW_EN o.val = false ∧ s.en .part = false) ∧
  (∃ (s : State) (o : Fin 40), regsWf s ∧ s.pwr.coreUp = true ∧ s.en .ctc = true ∧ s.flag CTC_OCFG_EN o.val = true ∧ s.get CTC_OCFG_OWNER o.val ≠ 0) ∧
  (∃ (s : State) (o : Fin 40), regsWf s ∧ s.pwr.coreUp = true ∧ s.en .ctc = true ∧ s.flag CTC_OCFG_EN o.val = true ∧ s.get CTC_OCFG_OWNER o.val ≠ 0) ∧
  (∃ (s : State) (o : Fin 40), regsWf s ∧ s.pwr.coreUp = true ∧ (s.en .ctc = false ∨ s.flag CTC_OCFG_EN o.val = false)) ∧
  (∃ (s : State) (o : Fin 40), regsWf s ∧ s.pwr.coreUp = true ∧ (s.en .ctc = false ∨ s.flag CTC_OCFG_EN o.val = false)) ∧
  (∃ (s : State) (o : Fin 40), regsWf s ∧ s.pwr.coreUp = true ∧ s.fieldUp = true ∧ s.coilOn o.val = true ∧ s.pwr.heartbeat = true ∧ s.flag CTC_OCFG_EN o.val = true ∧ s.flag CTC_OCFG_FOLLOW_EN o.val = false ∧ ∀ b ∈ buses, s.busEn b = false ∨ s.get OUT_BCFG_CTC b ≠ o.val) ∧
  (∃ (s : State) (o : Fin 40), s.pwr.coreUp = true ∧ s.fieldUp = true) ∧
  (∃ (s : State) (o : Fin 40), regsWf s ∧ s.pwr.coreUp = true ∧ s.fieldUp = true ∧ s.coilOn o.val = false ∧ s.pwr.heartbeat = true ∧ s.flag CTC_OCFG_EN o.val = true ∧ s.flag CTC_OCFG_FOLLOW_EN o.val = false ∧ ∀ b ∈ buses, s.busEn b = false ∨ s.get OUT_BCFG_CTC b ≠ o.val) ∧
  (∃ (s : State) (o : Fin 40), s.pwr.coreUp = true ∧ s.fieldUp = true) ∧
  (∃ (s : State) (o : Fin 40), regsWf s ∧ s.pwr.coreUp = true ∧ s.fieldUp = true ∧ s.coilOn o.val = true ∧ s.pwr.heartbeat = true ∧ s.flag CTC_OCFG_EN o.val = true ∧ s.flag CTC_OCFG_FOLLOW_EN o.val = false ∧ ∀ b ∈ buses, s.busEn b = false ∨ s.get OUT_BCFG_CTC b ≠ o.val) ∧
  (∃ (s : State) (o : Fin 40), s.pwr.coreUp = true ∧ s.fieldUp = true) ∧
  (∃ (s : State) (o : Fin 40), regsWf s ∧ s.pwr.coreUp = true ∧ s.pwr.heartbeat = true ∧ s.ctc.short.contains o.val = false ∧ s.ctc.openLoad.contains o.val = false ∧ s.ctc.reverse.contains o.val = false) ∧
  (∃ (s : State) (o : Fin 40), regsWf s ∧ s.pwr.coreUp = true ∧ s.ctc.short.contains o.val = true ∧ s.flag CTC_OSTAT_SHORT o.val = true ∧ s.pwr.heartbeat = true ∧ s.ctc.openLoad.contains o.val = false ∧ s.ctc.reverse.contains o.val = false) ∧
  (∃ (s : State) (o : Fin 40), regsWf s ∧ s.pwr.coreUp = true ∧ s.ctc.openLoad.contains o.val = true ∧ s.flag CTC_OSTAT_OPEN o.val = true ∧ s.pwr.heartbeat = true ∧ s.ctc.short.contains o.val = false ∧ s.ctc.reverse.contains o.val = false) ∧
  (∃ (s : State) (o : Fin 40), regsWf s ∧ s.pwr.coreUp = true ∧ s.ctc.reverse.contains o.val = true ∧ s.flag CTC_OSTAT_REVERSE o.val = true ∧ s.pwr.heartbeat = true ∧ s.ctc.short.contains o.val = false ∧ s.ctc.openLoad.contains o.val = false) :=
  ⟨⟨({ W [(0x140700, 0x1), (0x143000, 0x1)] with pwr := { awake.pwr with heartbeat := true } } : State), (7 : Fin 40), wf (by decide +kernel), by decide +kernel⟩,
   ⟨({ W [(0x140700, 0x1), (0x143000, 0x1)] with pwr := { awake.pwr with heartbeat := true } } : State), (7 : Fin 40), wf (by decide +kernel), by decide +kernel⟩,
   ⟨(W [(0x140700, 0x3), (0x143000, 0x1)]), (7 : Fin 40), wf (by decide +kernel), by decide +kernel⟩,
   ⟨(W [(0x140700, 0x3), (0x143000, 0x1)]), (7 : Fin 40), wf (by decide +kernel), by decide +kernel⟩,
   ⟨awake, (7 : Fin 40), rfl, by decide +kernel⟩,
   ⟨awake, (7 : Fin 40), rfl, by decide +kernel⟩,
   ⟨({ W [(0x140700, 0x1), (0x14070C, 0x3)] with pwr := { awake.pwr with heartbeat := true } } : State), (7 : Fin 40), wf (by decide +kernel), by decide +kernel⟩,
   ⟨awake, (7 : Fin 40), by decide +kernel⟩,
   ⟨({ W [(0x140700, 0x1)] with pwr := { awake.pwr with heartbeat := true } } : State), (7 : Fin 40), wf (by decide +kernel), by decide +kernel⟩,
   ⟨awake, (7 : Fin 40), by decide +kernel⟩,
   ⟨({ W [(0x140700, 0x1), (0x14070C, 0x3)] with pwr := { awake.pwr with heartbeat := true } } : State), (7 : Fin 40), wf (by decide +kernel), by decide +kernel⟩,
   ⟨awake, (7 : Fin 40), by decide +kernel⟩,
   ⟨({ awake with pwr := { awake.pwr with heartbeat := true } } : State), (7 : Fin 40), rfl, by decide +kernel⟩,
   ⟨({ W [(0x14070C, 0x70)] with pwr := { awake.pwr with heartbeat := true }, ctc := { awake.ctc with short := [7] } } : State), (7 : Fin 40), wf (by decide +kernel), by decide +kernel⟩,
   ⟨({ W [(0x14070C, 0x70)] with pwr := { awake.pwr with heartbeat := true }, ctc := { awake.ctc with openLoad := [7] } } : State), (7 : Fin 40), wf (by decide +kernel), by decide +kernel⟩,
   ⟨({ W [(0x14070C, 0x70)] with pwr := { awake.pwr with heartbeat := true }, ctc := { awake.ctc with reverse := [7] } } : State), (7 : Fin 40), wf (by decide +kernel), by decide +kernel⟩⟩

theorem test_witness_CoilFeedbackIsSupervised :
  (∃ (s : State) (k : Fin 40) (v : Bool), regsWf s ∧ s.pwr.coreUp = true ∧ s.fieldUp = true ∧ s.fbHigh k.val = !v ∧ s.ctc.fbRev.contains k.val = false ∧ ∀ b ∈ buses, s.busEn b = false ∧ k.val ≠ s.get FORM_BKR_FB ∧ s.inRun = false ∧ ∀ a ∈ List.range 4, s.ilkOn a = false) ∧
  (∃ (s : State) (k : Fin 40) (v : Bool), regsWf s ∧ s.pwr.coreUp = true ∧ s.fieldUp = true ∧ s.fbHigh k.val = (v && !s.ctc.fbRev.contains k.val)) ∧
  (∃ (s : State) (v : Bool), regsWf s ∧ s.pwr.coreUp = true ∧ s.fieldUp = true ∧ s.get FORM_BKR_FB < 40 ∧ s.fbHigh (s.get FORM_BKR_FB) = !v ∧ s.ctc.fbRev.contains (s.get FORM_BKR_FB) = false ∧ s.en .form = false ∧ ∀ b ∈ buses, s.busEn b = false ∧ s.inRun = false ∧ ∀ a ∈ List.range 4, s.ilkOn a = false) ∧
  (∃ (s : State) (o : Fin 40), regsWf s ∧ s.pwr.coreUp = true ∧ s.en .ctc = true ∧ s.fbAgrees o.val = false ∧ s.get CTC_OCFG_OWNER o.val = 0 ∧ s.ctc.transit.contains o.val = true) ∧
  (∃ (s : State) (o : Fin 40), s.pwr.coreUp = true ∧ (s.ctc.transit.contains o.val = false ∨ s.fbAgrees o.val = true)) ∧
  (∃ (s : State) (o : Fin 40), regsWf s ∧ s.pwr.coreUp = true ∧ s.en .ctc = true ∧ s.fbAgrees o.val = false ∧ s.get CTC_OCFG_OWNER o.val = 0 ∧ s.flag CTC_OCFG_EN o.val = true ∧ s.flag CTC_OCFG_FB_EN o.val = true ∧ s.en .part = false ∧ s.ctc.transit.contains o.val = false ∧ s.coilOn o.val = false ∧ s.flag CTC_OSTAT_WELDED o.val = false) ∧
  (∃ (s : State) (o : Fin 40), s.pwr.coreUp = true ∧ s.fbAgrees o.val = true) :=
  ⟨⟨awake, (33 : Fin 40), (true : Bool), rfl, by decide +kernel⟩,
   ⟨(W [(0x143104, 0xFF)]), (33 : Fin 40), (true : Bool), wf (by decide +kernel), by decide +kernel⟩,
   ⟨awake, (true : Bool), rfl, by decide +kernel⟩,
   ⟨({ W [(0x14070C, 0x2), (0x143000, 0x1)] with ctc := { awake.ctc with transit := [7] } } : State), (7 : Fin 40), wf (by decide +kernel), by decide +kernel⟩,
   ⟨awake, (7 : Fin 40), by decide +kernel⟩,
   ⟨(W [(0x140700, 0x309), (0x143000, 0x1), (0x143104, 0xFF)]), (7 : Fin 40), wf (by decide +kernel), by decide +kernel⟩,
   ⟨awake, (7 : Fin 40), by decide +kernel⟩⟩

theorem test_witness_PwmSetsAreCommittedAndRun :
  (∃ (s : State) (n : Fin 4), regsWf s ∧ s.pwr.coreUp = true ∧ (s.sdsActive n.val && s.flag SAFE_AXCFG_SDS_MODE n.val) = false ∧ (List.range 3).any (fun p => (decide (s.get AXIS_CFG_PRD n.val ≤ s.get AXIS_DUTY_CMP n.val p) && decide (s.get AXIS_DUTY_CMP n.val p ≠ 0xFFFF)) || decide (5 ≤ s.get AXIS_DUTY_OVR n.val p)) = false) ∧
  (∃ (s : State) (n : Fin 4), regsWf s ∧ s.pwr.coreUp = true ∧ (s.sdsActive n.val && s.flag SAFE_AXCFG_SDS_MODE n.val) = false ∧ (List.range 3).any (fun p => (decide (s.get AXIS_CFG_PRD n.val ≤ s.get AXIS_DUTY_CMP n.val p) && decide (s.get AXIS_DUTY_CMP n.val p ≠ 0xFFFF)) || decide (5 ≤ s.get AXIS_DUTY_OVR n.val p)) = true) ∧
  (∃ (s : State) (n : Fin 4), regsWf s ∧ s.pwr.coreUp = true ∧ s.sdsActive n.val = true ∧ s.flag SAFE_AXCFG_SDS_MODE n.val = true) ∧
  (∃ (s : State) (n : Fin 4), regsWf s ∧ s.pwr.coreUp = true ∧ s.axisEn n.val = true ∧ s.get AXIS_STAT_STATE n.val = AX_RUN ∧ s.sdsActive n.val = false ∧ s.inhibited n.val = false ∧ s.drive.axes.length = 4 ∧ s.flag AXIS_COMMIT_PENDING n.val = true) ∧
  (∃ (s : State) (n : Fin 4) (p : Fin 3) (o : PhaseOut), regsWf s ∧ s.pwr.coreUp = true ∧ s.axisEn n.val = true ∧ s.get AXIS_STAT_STATE n.val = AX_RUN ∧ s.sdsActive n.val = false ∧ s.inhibited n.val = false ∧ s.drive.axes.length = 4 ∧ s.flag AXIS_COMMIT_PENDING n.val = false ∧ (s.axisSt n.val).force.contains p.val = false ∧ (s.axisSt n.val).hold.getD p.val 0 < s.get AXIS_CFG_BST_HOLD n.val ∧ phasePeriod (s.get AXIS_CFG_PRD n.val) (s.get AXIS_PULSE_MINP n.val) (s.get AXIS_APPLIED_SET n.val p.val) ((s.axisSt n.val).last.getD p.val 0) = o) ∧
  (∃ (s : State) (n : Fin 4), regsWf s ∧ s.pwr.coreUp = true ∧ s.axisEn n.val = true ∧ s.get AXIS_STAT_STATE n.val = AX_RUN ∧ s.sdsActive n.val = true ∧ s.inhibited n.val = false ∧ s.flag SAFE_AXCFG_SDS_MODE n.val = true) ∧
  (∃ (s : State) (n : Fin 4), regsWf s ∧ s.pwr.coreUp = true ∧ s.inhibited n.val = true) ∧
  (∃ (s : State) (n : Fin 4), s.pwr.coreUp = true ∧ s.axisEn n.val = false ∧ s.inhibited n.val = false) ∧
  (∃ (s : State) (h : Fin 12), regsWf s ∧ s.pwr.coreUp = true ∧ s.get AXIS_STAT_STATE (h.val / 3) = AX_RUN ∧ s.drive.axes.length = 4) :=
  ⟨⟨awake, (2 : Fin 4), rfl, by decide +kernel⟩,
   ⟨(W [(0x100200, 0x3E81001), (0x100210, 0x3E8)]), (2 : Fin 4), wf (by decide +kernel), by decide +kernel⟩,
   ⟨(W [(0x131110, 0x40000)]), (2 : Fin 4), wf (by decide +kernel), by decide +kernel⟩,
   ⟨({ W [(0x100200, 0x3E81001), (0x10021C, 0x2), (0x100224, 0x3), (0x101000, 0x1)] with pwr := { awake.pwr with heartbeat := true } } : State), (2 : Fin 4), wf (by decide +kernel), by decide +kernel⟩,
   ⟨({ W [(0x100200, 0x3E80901), (0x100224, 0x3), (0x101000, 0x1)] with pwr := { awake.pwr with heartbeat := true } } : State), (2 : Fin 4), (1 : Fin 3), (let s : State := ({ W [(0x100200, 0x3E80901), (0x100224, 0x3), (0x101000, 0x1)] with pwr := { awake.pwr with heartbeat := true } } : State); (phasePeriod (s.get AXIS_CFG_PRD 2) (s.get AXIS_PULSE_MINP 2) (s.get AXIS_APPLIED_SET 2 1) ((s.axisSt 2).last.getD 1 0) : PhaseOut)), wf (by decide +kernel), by decide +kernel⟩,
   ⟨({ W [(0x100200, 0x3E81001), (0x100224, 0x3), (0x101000, 0x1), (0x131110, 0x40000)] with pwr := { awake.pwr with heartbeat := true } } : State), (2 : Fin 4), wf (by decide +kernel), by decide +kernel⟩,
   ⟨awake, (2 : Fin 4), rfl, by decide +kernel⟩,
   ⟨({ awake with pwr := { awake.pwr with heartbeat := true } } : State), (2 : Fin 4), by decide +kernel⟩,
   ⟨(W [(0x100224, 0x3)]), (7 : Fin 12), wf (by decide +kernel), by decide +kernel⟩⟩

theorem test_witness_AxisStatesMove :
  (∃ (s : State) (n : Fin 4), regsWf s ∧ s.pwr.coreUp = true ∧ s.axisEn n.val = true ∧ s.get AXIS_STAT_STATE n.val = AX_IDLE ∧ (s.pstate == READY || s.inRun) = true ∧ (List.range 3).any (fun p => s.flag GDRV_HSTAT_SC (3 * n.val + p)) = false ∧ s.get GDRV_TRIP_STAT_LATCH = 0 ∧ s.sdsActive n.val = false ∧ s.strActive n.val = false ∧ s.ilkRefusesRun n.val = false ∧ s.vbrOk n.val = true ∧ s.inhibited n.val = false ∧ s.drive.axes.length = 4) ∧
  (∃ (s : State) (n : Fin 4), regsWf s ∧ s.pwr.coreUp = true ∧ s.axisEn n.val = true ∧ s.get AXIS_STAT_STATE n.val = AX_IDLE ∧ (s.pstate == READY || s.inRun) = true ∧ (List.range 3).any (fun p => s.flag GDRV_HSTAT_SC (3 * n.val + p)) = false ∧ s.get GDRV_TRIP_STAT_LATCH = 0 ∧ s.sdsActive n.val = false ∧ s.strActive n.val = false ∧ s.ilkRefusesRun n.val = false ∧ s.vbrOk n.val = true ∧ s.inhibited n.val = true ∧ s.drive.axes.length = 4) ∧
  (∃ (s : State) (n : Fin 4), regsWf s ∧ s.pwr.coreUp = true ∧ s.axisEn n.val = true ∧ s.get AXIS_STAT_STATE n.val = AX_IDLE ∧ (s.pstate == READY || s.inRun) = true ∧ (List.range 3).any (fun p => s.flag GDRV_HSTAT_SC (3 * n.val + p)) = false ∧ (s.get GDRV_TRIP_STAT_LATCH ≠ 0 ∨ s.sdsActive n.val = true ∨ s.strActive n.val = true ∨ s.ilkRefusesRun n.val = true)) ∧
  (∃ (s : State) (n : Fin 4), regsWf s ∧ s.pwr.coreUp = true ∧ s.axisEn n.val = true ∧ s.get AXIS_STAT_STATE n.val = AX_IDLE ∧ (s.pstate == READY || s.inRun) = true ∧ (List.range 3).any (fun p => s.flag GDRV_HSTAT_SC (3 * n.val + p)) = true) ∧
  (∃ (s : State) (n : Fin 4), regsWf s ∧ s.pwr.coreUp = true ∧ s.axisEn n.val = true ∧ s.get AXIS_STAT_STATE n.val = AX_IDLE ∧ (s.pstate == READY || s.inRun) = true ∧ (List.range 3).any (fun p => s.flag GDRV_HSTAT_SC (3 * n.val + p)) = false ∧ s.get GDRV_TRIP_STAT_LATCH = 0 ∧ s.sdsActive n.val = false ∧ s.strActive n.val = false ∧ s.ilkRefusesRun n.val = false ∧ s.vbrOk n.val = false) ∧
  (∃ (s : State) (n : Fin 4), regsWf s ∧ s.pwr.coreUp = true ∧ (s.axisEn n.val = false ∨ s.get AXIS_STAT_STATE n.val ≠ AX_IDLE ∨ (s.pstate == READY || s.inRun) = false)) ∧
  (∃ (s : State) (n : Fin 4), regsWf s ∧ s.pwr.coreUp = true ∧ s.axisEn n.val = true ∧ s.get AXIS_STAT_STATE n.val = AX_IDLE ∧ s.vbrOk n.val = true ∧ s.inhibited n.val = false ∧ s.drive.axes.length = 4) ∧
  (∃ (s : State) (n : Fin 4), regsWf s ∧ s.pwr.coreUp = true ∧ s.axisEn n.val = true ∧ s.get AXIS_STAT_STATE n.val = AX_IDLE ∧ s.vbrOk n.val = false) ∧
  (∃ (s : State) (n : Fin 4), regsWf s ∧ s.pwr.coreUp = true ∧ (s.axisEn n.val = false ∨ s.get AXIS_STAT_STATE n.val ≠ AX_IDLE)) ∧
  (∃ (s : State) (n : Fin 4), regsWf s ∧ s.pwr.coreUp = true ∧ driving s n.val = true) ∧
  (∃ (s : State) (n : Fin 4), s.pwr.coreUp = true ∧ driving s n.val = false) ∧
  (∃ (s : State) (n : Fin 4) (sh : List (Int × Int × Int)), regsWf s ∧ s.pwr.coreUp = true ∧ s.vbrOk n.val = true ∧ s.get AXIS_STAT_STATE n.val = AX_TEST ∧ sh.length = 3) ∧
  (∃ (s : State) (n : Fin 4), regsWf s ∧ s.pwr.coreUp = true ∧ s.get AXIS_STAT_STATE n.val = AX_TEST ∧ (List.range 3).all (fun p => s.get GDRV_HSTAT_OSTEST (3 * n.val + p) == 1) = true ∧ (s.axisSt n.val).testOnly = false ∧ s.inhibited n.val = false ∧ s.drive.axes.length = 4) ∧
  (∃ (s : State) (n : Fin 4), regsWf s ∧ s.pwr.coreUp = true ∧ s.get AXIS_STAT_STATE n.val = AX_TEST ∧ (List.range 3).all (fun p => s.get GDRV_HSTAT_OSTEST (3 * n.val + p) == 1) = true ∧ (s.axisSt n.val).testOnly = true) ∧
  (∃ (s : State) (n : Fin 4), regsWf s ∧ s.pwr.coreUp = true ∧ s.get AXIS_STAT_STATE n.val = AX_TEST ∧ (List.range 3).all (fun p => s.get GDRV_HSTAT_OSTEST (3 * n.val + p) == 1) = false) ∧
  (∃ (s : State) (n : Fin 4), regsWf s ∧ s.pwr.coreUp = true ∧ s.get AXIS_STAT_STATE n.val = AX_CHARGE ∧ (s.axisSt n.val).inhTest = true ∧ s.inhibited n.val = false ∧ s.drive.axes.length = 4) ∧
  (∃ (s : State) (n : Fin 4) (gl : BitVec 3), regsWf s ∧ s.pwr.coreUp = true ∧ s.get AXIS_STAT_STATE n.val = AX_CHARGE ∧ (s.axisSt n.val).inhTest = true ∧ gl ≠ 0) ∧
  (∃ (s : State) (n : Fin 4), regsWf s ∧ s.pwr.coreUp = true ∧ s.get AXIS_STAT_STATE n.val = AX_CHARGE ∧ (s.axisSt n.val).inhTest = false ∧ s.inhibited n.val = false ∧ s.drive.axes.length = 4) ∧
  (∃ (s : State) (n : Fin 4), regsWf s ∧ s.pwr.coreUp = true ∧ s.get AXIS_STAT_STATE n.val = AX_CHARGE ∧ (s.axisSt n.val).inhTest = false ∧ s.inhibited n.val = true ∧ s.drive.axes.length = 4) ∧
  (∃ (s : State) (n : Fin 4) (ok : BitVec 3), regsWf s ∧ s.pwr.coreUp = true ∧ s.get AXIS_STAT_STATE n.val = AX_CHARGE ∧ (s.axisSt n.val).inhTest = false ∧ ok ≠ 7) ∧
  (∃ (s : State) (n : Fin 4), regsWf s ∧ s.pwr.coreUp = true ∧ s.get AXIS_STAT_STATE n.val = AX_INHIBITED ∧ s.inhibited n.val = false) ∧
  (∃ (s : State) (n : Fin 4), s.pwr.coreUp = true ∧ s.inhibited n.val = true) ∧
  (∃ (s : State) (h : Fin 12), regsWf s ∧ s.pwr.coreUp = true ∧ s.en .gdrv = true ∧ s.flag GDRV_HCFG_DDT_EN h.val = true ∧ s.get AXIS_STAT_STATE (h.val / 3) ≠ AX_INHIBITED) ∧
  (∃ (s : State) (h : Fin 12), regsWf s ∧ s.pwr.coreUp = true ∧ s.get AXIS_STAT_STATE (h.val / 3) = AX_IDLE) ∧
  (∃ (s : State) (h : Fin 12), regsWf s ∧ s.pwr.coreUp = true ∧ s.get AXIS_STAT_STATE (h.val / 3) ≠ AX_IDLE) :=
  ⟨⟨({ W [(0x000200, 0x4), (0x100200, 0xEA61001), (0x101000, 0x1), (0x111208, 0x12C0)] with pwr := { awake.pwr with heartbeat := true } } : State), (2 : Fin 4), wf (by decide +kernel), by decide +kernel⟩,
   ⟨(W [(0x000200, 0x4), (0x100200, 0xEA61001), (0x101000, 0x1), (0x111208, 0x12C0)]), (2 : Fin 4), wf (by decide +kernel), by decide +kernel⟩,
   ⟨(W [(0x000200, 0x4), (0x100200, 0xEA61001), (0x101000, 0x1), (0x111104, 0x1)]), (2 : Fin 4), wf (by decide +kernel), by decide +kernel⟩,
   ⟨(W [(0x000200, 0x4), (0x100200, 0xEA61001), (0x101000, 0x1), (0x110704, 0x8)]), (2 : Fin 4), wf (by decide +kernel), by decide +kernel⟩,
   ⟨(W [(0x000200, 0x4), (0x100200, 0xEA61001), (0x101000, 0x1)]), (2 : Fin 4), wf (by decide +kernel), by decide +kernel⟩,
   ⟨awake, (2 : Fin 4), rfl, by decide +kernel⟩,
   ⟨({ W [(0x100200, 0xEA61001), (0x101000, 0x1), (0x111208, 0x12C0)] with pwr := { awake.pwr with heartbeat := true } } : State), (2 : Fin 4), wf (by decide +kernel), by decide +kernel⟩,
   ⟨(W [(0x100200, 0xEA61001), (0x101000, 0x1)]), (2 : Fin 4), wf (by decide +kernel), by decide +kernel⟩,
   ⟨awake, (2 : Fin 4), rfl, by decide +kernel⟩,
   ⟨(W [(0x100224, 0x3)]), (2 : Fin 4), wf (by decide +kernel), by decide +kernel⟩,
   ⟨awake, (2 : Fin 4), by decide +kernel⟩,
   ⟨(W [(0x100224, 0x1), (0x111208, 0x12C0)]), (2 : Fin 4), ([(4800, 0, 0), (4000, 0, 0), (4800, 0, 300)] : List (Int × Int × Int)), wf (by decide +kernel), by decide +kernel⟩,
   ⟨({ W [(0x100224, 0x1), (0x110604, 0x1), (0x110704, 0x1), (0x110804, 0x1)] with pwr := { awake.pwr with heartbeat := true } } : State), (2 : Fin 4), wf (by decide +kernel), by decide +kernel⟩,
   ⟨({ W [(0x100224, 0x1), (0x110604, 0x1), (0x110704, 0x1), (0x110804, 0x1)] with drive := { awake.drive with axes := (awake.drive.axes).set 2 ({ hold := [0, 0, 0], force := [], last := [0, 0, 0], testOnly := true, inhTest := false, sdsTicks := 0 }) } } : State), (2 : Fin 4), wf (by decide +kernel), by decide +kernel⟩,
   ⟨(W [(0x100224, 0x1)]), (2 : Fin 4), wf (by decide +kernel), by decide +kernel⟩,
   ⟨({ W [(0x100224, 0x2)] with pwr := { awake.pwr with heartbeat := true }, drive := { awake.drive with axes := (awake.drive.axes).set 2 ({ hold := [0, 0, 0], force := [], last := [0, 0, 0], testOnly := false, inhTest := true, sdsTicks := 0 }) } } : State), (2 : Fin 4), wf (by decide +kernel), by decide +kernel⟩,
   ⟨({ W [(0x100224, 0x2)] with drive := { awake.drive with axes := (awake.drive.axes).set 2 ({ hold := [0, 0, 0], force := [], last := [0, 0, 0], testOnly := false, inhTest := true, sdsTicks := 0 }) } } : State), (2 : Fin 4), (2#3 : BitVec 3), wf (by decide +kernel), by decide +kernel⟩,
   ⟨({ W [(0x100224, 0x2)] with pwr := { awake.pwr with heartbeat := true } } : State), (2 : Fin 4), wf (by decide +kernel), by decide +kernel⟩,
   ⟨(W [(0x100224, 0x2)]), (2 : Fin 4), wf (by decide +kernel), by decide +kernel⟩,
   ⟨(W [(0x100224, 0x2)]), (2 : Fin 4), (5#3 : BitVec 3), wf (by decide +kernel), by decide +kernel⟩,
   ⟨({ W [(0x100224, 0x4)] with pwr := { awake.pwr with heartbeat := true } } : State), (2 : Fin 4), wf (by decide +kernel), by decide +kernel⟩,
   ⟨awake, (2 : Fin 4), by decide +kernel⟩,
   ⟨(W [(0x111000, 0x1)]), (7 : Fin 12), wf (by decide +kernel), by decide +kernel⟩,
   ⟨awake, (7 : Fin 12), rfl, by decide +kernel⟩,
   ⟨(W [(0x100224, 0x3)]), (7 : Fin 12), wf (by decide +kernel), by decide +kernel⟩⟩

theorem test_witness_SuppliesAndTripInputsInhibitTheDrives :
  (∃ (s : State) (n : Fin 4) (v : BitVec 16), regsWf s ∧ s.pwr.coreUp = true ∧ s.fieldUp = true ∧ signed 16 v.toNat < (s.get GDRV_VBRMIN_VBR_MIN : Int)) ∧
  (∃ (s : State) (n : Fin 4) (v : BitVec 16), regsWf s ∧ s.pwr.coreUp = true ∧ s.fieldUp = true ∧ (s.get GDRV_VBRMIN_VBR_MIN : Int) ≤ signed 16 v.toNat) ∧
  (∃ (s : State) (n : Fin 4) (v : BitVec 16), regsWf s ∧ s.pwr.coreUp = true ∧ s.fieldUp = true ∧ signed 16 v.toNat < -100) ∧
  (∃ (s : State) (n : Fin 4) (v : BitVec 16), regsWf s ∧ s.pwr.coreUp = true ∧ s.fieldUp = true ∧ -100 ≤ signed 16 v.toNat) ∧
  (∃ (s : State) (v : BitVec 16), regsWf s ∧ s.pwr.coreUp = true ∧ s.fieldUp = true ∧ signed 16 v.toNat < 950) ∧
  (∃ (s : State) (v : BitVec 16), regsWf s ∧ s.pwr.coreUp = true ∧ s.fieldUp = true ∧ 1000 < signed 16 v.toNat) ∧
  (∃ (s : State) (v : BitVec 16), regsWf s ∧ s.pwr.coreUp = true ∧ s.fieldUp = true ∧ 950 ≤ signed 16 v.toNat ∧ signed 16 v.toNat ≤ 1000) ∧
  (∃ (s : State) (i : Fin 8), regsWf s ∧ s.pwr.coreUp = true ∧ s.fieldUp = true ∧ bitOf (s.get GDRV_TRIP_CFG_TRIP_EN) i.val = false) ∧
  (∃ (s : State) (i : Fin 8), regsWf s ∧ s.pwr.coreUp = true ∧ s.fieldUp = true ∧ bitOf (s.get GDRV_TRIP_CFG_TRIP_EN) i.val = true ∧ bitOf (s.get GDRV_TRIP_STAT_LATCH) i.val = false ∧ s.sgrActive = true) ∧
  (∃ (s : State) (i : Fin 8), regsWf s ∧ s.pwr.coreUp = true ∧ s.fieldUp = true ∧ bitOf (s.get GDRV_TRIP_CFG_TRIP_EN) i.val = true ∧ bitOf (s.get GDRV_TRIP_STAT_LATCH) i.val = false ∧ s.sgrActive = false) ∧
  (∃ (s : State) (i : Fin 8), regsWf s ∧ s.fieldUp = true ∧ s.drive.siRev.contains (8 + i.val) = false) ∧
  (∃ (s : State) (i : Fin 8), s.fieldUp = true ∧ s.drive.siRev.contains (8 + i.val) = true) ∧
  (∃ (s : State) (i : Fin 8), regsWf s ∧ s.fieldUp = true ∧ bitOf (s.get GDRV_TRIP_STAT_INPUT) i.val = false ∧ bitOf (s.get GDRV_TRIP_STAT_CLR_PEND) i.val = true) ∧
  (∃ (s : State) (i : Fin 8), s.fieldUp = true ∧ bitOf (s.get GDRV_TRIP_STAT_INPUT) i.val = true) ∧
  (∃ (s : State) (i : Fin 8), regsWf s ∧ s.pwr.coreUp = true ∧ bitOf (s.get GDRV_TRIP_STAT_INPUT) i.val = true) ∧
  (∃ (s : State) (i : Fin 8), regsWf s ∧ s.pwr.coreUp = true ∧ bitOf (s.get GDRV_TRIP_STAT_INPUT) i.val = false ∧ s.drive.quiet.contains i.val = true) ∧
  (∃ (s : State) (i : Fin 8), regsWf s ∧ s.pwr.coreUp = true ∧ bitOf (s.get GDRV_TRIP_STAT_INPUT) i.val = false ∧ bitOf (s.get GDRV_TRIP_STAT_LATCH) i.val = true ∧ s.drive.quiet.contains i.val = false ∧ s.get GDRV_TRIP_CFG_TRIP_QUIET ≠ 0) :=
  ⟨⟨awake, (2 : Fin 4), (799#16 : BitVec 16), rfl, by decide +kernel⟩,
   ⟨awake, (2 : Fin 4), (800#16 : BitVec 16), rfl, by decide +kernel⟩,
   ⟨awake, (2 : Fin 4), (0xFF9B#16 : BitVec 16), rfl, by decide +kernel⟩,
   ⟨awake, (2 : Fin 4), (0xFF9C#16 : BitVec 16), rfl, by decide +kernel⟩,
   ⟨awake, (949#16 : BitVec 16), rfl, by decide +kernel⟩,
   ⟨awake, (1001#16 : BitVec 16), rfl, by decide +kernel⟩,
   ⟨awake, (1000#16 : BitVec 16), rfl, by decide +kernel⟩,
   ⟨(W [(0x111100, 0x64F7)]), (3 : Fin 8), wf (by decide +kernel), by decide +kernel⟩,
   ⟨(W [(0x131110, 0x1)]), (3 : Fin 8), wf (by decide +kernel), by decide +kernel⟩,
   ⟨awake, (3 : Fin 8), rfl, by decide +kernel⟩,
   ⟨awake, (3 : Fin 8), rfl, by decide +kernel⟩,
   ⟨({ awake with drive := { awake.drive with siRev := [11] } } : State), (3 : Fin 8), by decide +kernel⟩,
   ⟨(W [(0x111104, 0x80008)]), (3 : Fin 8), wf (by decide +kernel), by decide +kernel⟩,
   ⟨(W [(0x111104, 0x800)]), (3 : Fin 8), by decide +kernel⟩,
   ⟨(W [(0x111104, 0x800)]), (3 : Fin 8), wf (by decide +kernel), by decide +kernel⟩,
   ⟨({ awake with drive := { awake.drive with quiet := [3] } } : State), (3 : Fin 8), rfl, by decide +kernel⟩,
   ⟨(W [(0x111104, 0xFF)]), (3 : Fin 8), wf (by decide +kernel), by decide +kernel⟩⟩

theorem test_witness_EncodersCountAndSensorsAreWatched :
  (∃ (s : State) (n : Fin 4) (a : Bool) (b : Bool) (dt : Nat) (q : Nat), regsWf s ∧ s.pwr.coreUp = true ∧ s.fieldUp = true ∧ s.en .enc = true ∧ s.flag ENC_CFG_EN_CH n.val = true ∧ quadIndex (s.encSt n.val).a (s.encSt n.val).b = q ∧ (decide (quadIndex a b = (q + 1) % 4) != s.flag ENC_CFG_INV_DIR n.val) = true ∧ quadIndex a b ≠ q ∧ quadIndex a b ≠ (q + 2) % 4 ∧ s.drive.encRev.contains (6 * n.val) = false ∧ s.drive.encRev.contains (6 * n.val + 1) = false ∧ s.en .safe = false ∧ s.drive.encs.length = 4 ∧ s.get ENC_POS_POS n.val + 1 < s.get ENC_CPR_CPR n.val) ∧
  (∃ (s : State) (n : Fin 4) (a : Bool) (b : Bool) (dt : Nat) (q : Nat), regsWf s ∧ s.pwr.coreUp = true ∧ s.fieldUp = true ∧ s.en .enc = true ∧ s.flag ENC_CFG_EN_CH n.val = true ∧ quadIndex (s.encSt n.val).a (s.encSt n.val).b = q ∧ (decide (quadIndex a b = (q + 1) % 4) != s.flag ENC_CFG_INV_DIR n.val) = true ∧ quadIndex a b ≠ q ∧ quadIndex a b ≠ (q + 2) % 4 ∧ s.drive.encRev.contains (6 * n.val) = false ∧ s.drive.encRev.contains (6 * n.val + 1) = false ∧ s.en .safe = false ∧ s.drive.encs.length = 4 ∧ s.get ENC_CPR_CPR n.val ≤ s.get ENC_POS_POS n.val + 1) ∧
  (∃ (s : State) (n : Fin 4) (a : Bool) (b : Bool) (dt : Nat) (q : Nat), regsWf s ∧ s.pwr.coreUp = true ∧ s.fieldUp = true ∧ s.en .enc = true ∧ s.flag ENC_CFG_EN_CH n.val = true ∧ s.drive.encRev.contains (6 * n.val) = false ∧ s.drive.encRev.contains (6 * n.val + 1) = false ∧ s.en .safe = false ∧ s.drive.encs.length = 4 ∧ quadIndex (s.encSt n.val).a (s.encSt n.val).b = q ∧ quadIndex a b = (q + 2) % 4) ∧
  (∃ (s : State) (n : Fin 4) (a : Bool) (b : Bool) (dt : Nat) (q : Nat), regsWf s ∧ s.pwr.coreUp = true ∧ s.fieldUp = true ∧ s.en .enc = true ∧ s.flag ENC_CFG_EN_CH n.val = true ∧ s.drive.encRev.contains (6 * n.val) = false ∧ s.drive.encRev.contains (6 * n.val + 1) = false ∧ s.en .safe = false ∧ s.drive.encs.length = 4 ∧ quadIndex (s.encSt n.val).a (s.encSt n.val).b = q ∧ quadIndex a b = q) ∧
  (∃ (s : State) (n : Fin 4), regsWf s ∧ s.pwr.coreUp = true ∧ s.fieldUp = true ∧ s.en .enc = true ∧ s.flag ENC_CFG_EN_CH n.val = true ∧ s.drive.encRev.contains (6 * n.val + 2) = false ∧ s.get ENC_CFG_IDX_MODE n.val = 1) ∧
  (∃ (s : State) (n : Fin 4), regsWf s ∧ s.pwr.coreUp = true ∧ s.fieldUp = true ∧ s.en .enc = true ∧ s.flag ENC_CFG_EN_CH n.val = true ∧ s.drive.encRev.contains (6 * n.val + 2) = false ∧ s.get ENC_CFG_IDX_MODE n.val = 3) ∧
  (∃ (s : State) (n : Fin 4), regsWf s ∧ s.pwr.coreUp = true ∧ s.en .enc = true ∧ s.flag ENC_CFG_EN_CH n.val = true ∧ s.drive.encs.length = 4) ∧
  (∃ (s : State) (n : Fin 4) (u : Bool) (v : Bool) (w : Bool), regsWf s ∧ s.pwr.coreUp = true ∧ s.fieldUp = true ∧ s.en .enc = true ∧ s.flag ENC_CFG_EN_CH n.val = true ∧ s.flag SAFE_AXCFG_HALL_EN n.val = false ∧ s.drive.encs.length = 4) ∧
  (∃ (s : State) (a : Fin 4), regsWf s ∧ s.pwr.coreUp = true ∧ s.plausOn a.val = true ∧ s.strActive a.val = false) ∧
  (∃ (s : State) (a : Fin 4), regsWf s ∧ s.pwr.coreUp = true ∧ s.plausOn a.val = true ∧ s.flag SAFE_AXCFG_HALL_EN a.val = false) ∧
  (∃ (s : State) (m : Fin 8), s.pwr.coreUp = true) ∧
  (∃ (s : State) (n : Fin 4), regsWf s ∧ s.pwr.coreUp = true ∧ s.fieldUp = true) ∧
  (∃ (s : State) (n : Fin 4), s.pwr.coreUp = true ∧ s.fieldUp = true) ∧
  (∃ (s : State) (n : Fin 4), regsWf s ∧ s.pwr.coreUp = true ∧ s.fieldUp = true) ∧
  (∃ (s : State) (n : Fin 4), regsWf s ∧ s.pwr.coreUp = true ∧ s.drive.ssupShort.contains n.val = false ∧ s.drive.ssupBack.contains n.val = false) ∧
  (∃ (s : State) (n : Fin 4), regsWf s ∧ s.pwr.coreUp = true ∧ (s.drive.ssupShort.contains n.val = true ∨ s.drive.ssupBack.contains n.val = true)) ∧
  (∃ (s : State) (n : Fin 4) (line : Fin 6), regsWf s ∧ s.pwr.coreUp = true ∧ s.fieldUp = true) ∧
  (∃ (s : State) (n : Fin 4), regsWf s ∧ s.pwr.coreUp = true ∧ s.fieldUp = true) ∧
  (∃ (s : State) (n : Fin 4) (line : Fin 6), s.pwr.coreUp = true ∧ s.fieldUp = true) ∧
  (∃ (s : State) (i : Fin 8), s.pwr.coreUp = true ∧ s.fieldUp = true) ∧
  (∃ (s : State) (i : Fin 8), regsWf s ∧ s.pwr.coreUp = true ∧ s.fieldUp = true) ∧
  (∃ (s : State) (i : Fin 4) (c : Bool), regsWf s ∧ s.pwr.coreUp = true ∧ s.fieldUp = true) ∧
  (∃ (s : State) (i : Fin 4) (c : Bool), s.pwr.coreUp = true ∧ s.fieldUp = true) ∧
  (∃ (s : State) (k : Fin 40), regsWf s ∧ s.pwr.coreUp = true ∧ s.fieldUp = true) ∧
  (∃ (s : State) (k : Fin 40), s.pwr.coreUp = true ∧ s.fieldUp = true) :=
  ⟨⟨(W [(0x120100, 0x640001), (0x121000, 0x1)]), (1 : Fin 4), (true : Bool), (false : Bool), (100 : Nat), (0 : Nat), wf (by decide +kernel), by decide +kernel⟩,
   ⟨(W [(0x120100, 0x640001), (0x120104, 0x3E8), (0x120108, 0x3E7), (0x121000, 0x1)]), (1 : Fin 4), (true : Bool), (false : Bool), (100 : Nat), (0 : Nat), wf (by decide +kernel), by decide +kernel⟩,
   ⟨(W [(0x120100, 0x640001), (0x121000, 0x1)]), (1 : Fin 4), (true : Bool), (true : Bool), (100 : Nat), (0 : Nat), wf (by decide +kernel), by decide +kernel⟩,
   ⟨(W [(0x120100, 0x640001), (0x121000, 0x1)]), (1 : Fin 4), (false : Bool), (false : Bool), (100 : Nat), (0 : Nat), wf (by decide +kernel), by decide +kernel⟩,
   ⟨(W [(0x120100, 0x640005), (0x121000, 0x1)]), (1 : Fin 4), wf (by decide +kernel), by decide +kernel⟩,
   ⟨(W [(0x120100, 0x64000D), (0x121000, 0x1)]), (1 : Fin 4), wf (by decide +kernel), by decide +kernel⟩,
   ⟨(W [(0x120100, 0x640001), (0x121000, 0x1)]), (1 : Fin 4), wf (by decide +kernel), by decide +kernel⟩,
   ⟨(W [(0x120100, 0x640001), (0x121000, 0x1)]), (1 : Fin 4), (true : Bool), (false : Bool), (true : Bool), wf (by decide +kernel), by decide +kernel⟩,
   ⟨(W [(0x131000, 0x1)]), (2 : Fin 4), wf (by decide +kernel), by decide +kernel⟩,
   ⟨(W [(0x131000, 0x1)]), (2 : Fin 4), wf (by decide +kernel), by decide +kernel⟩,
   ⟨awake, (3 : Fin 8), by decide +kernel⟩,
   ⟨awake, (1 : Fin 4), rfl, by decide +kernel⟩,
   ⟨awake, (1 : Fin 4), by decide +kernel⟩,
   ⟨awake, (1 : Fin 4), rfl, by decide +kernel⟩,
   ⟨awake, (1 : Fin 4), rfl, by decide +kernel⟩,
   ⟨({ awake with drive := { awake.drive with ssupBack := [1] } } : State), (1 : Fin 4), rfl, by decide +kernel⟩,
   ⟨awake, (1 : Fin 4), (0 : Fin 6), rfl, by decide +kernel⟩,
   ⟨awake, (1 : Fin 4), rfl, by decide +kernel⟩,
   ⟨awake, (1 : Fin 4), (2 : Fin 6), by decide +kernel⟩,
   ⟨awake, (3 : Fin 8), by decide +kernel⟩,
   ⟨awake, (3 : Fin 8), rfl, by decide +kernel⟩,
   ⟨awake, (2 : Fin 4), (true : Bool), rfl, by decide +kernel⟩,
   ⟨awake, (2 : Fin 4), (true : Bool), by decide +kernel⟩,
   ⟨awake, (34 : Fin 40), rfl, by decide +kernel⟩,
   ⟨awake, (34 : Fin 40), by decide +kernel⟩⟩

theorem test_witness_SafetyFunctionsAreRequestedByTheHost :
  (∃ (s : State), regsWf s ∧ s.pwr.coreUp = true ∧ s.sgrActive = false) ∧
  (∃ (s : State), s.pwr.coreUp = true ∧ s.sgrActive = true) ∧
  (∃ (s : State) (b : Fin 12), regsWf s ∧ s.pwr.coreUp = true ∧ s.en .safe = true ∧ s.sodActive b.val = false ∧ s.sgrActive = false ∧ s.busEn b.val = true ∧ s.bst b.val = B_SERVING ∧ s.holders b.val ≠ [] ∧ s.out.buses.length = 12) ∧
  (∃ (s : State) (b : Fin 12), regsWf s ∧ s.pwr.coreUp = true ∧ s.en .safe = true ∧ s.sodActive b.val = false ∧ s.busEn b.val = true ∧ s.bst b.val = B_OFF ∧ s.busClosed b.val = false ∧ s.out.buses.length = 12 ∧ s.pwr.heartbeat = true ∧ s.get OUT_BCFG_CTC b.val < 40) ∧
  (∃ (s : State) (b : Fin 12), s.pwr.coreUp = true ∧ (s.en .safe = false ∨ s.sodActive b.val = true)) ∧
  (∃ (s : State) (a : Fin 4), regsWf s ∧ s.pwr.coreUp = true ∧ s.en .safe = true ∧ s.strActive a.val = false ∧ s.sdsActive a.val = false ∧ s.get AXIS_STAT_STATE a.val = AX_RUN ∧ s.flag ENC_STAT_STILL a.val = false ∧ s.drive.axes.length = 4) ∧
  (∃ (s : State) (a : Fin 4), regsWf s ∧ s.pwr.coreUp = true ∧ s.en .safe = true ∧ s.strActive a.val = false ∧ s.sdsActive a.val = false ∧ s.get AXIS_STAT_STATE a.val ≠ AX_RUN) ∧
  (∃ (s : State) (a : Fin 4), regsWf s ∧ s.pwr.coreUp = true ∧ s.en .safe = true ∧ s.strActive a.val = false) ∧
  (∃ (s : State) (a : Fin 4), s.pwr.coreUp = true ∧ (s.en .safe = false ∨ s.strActive a.val = true)) ∧
  (∃ (s : State) (a : Fin 4), s.pwr.coreUp = true ∧ (s.en .safe = false ∨ s.strActive a.val = true)) :=
  ⟨⟨awake, rfl, by decide +kernel⟩,
   ⟨(W [(0x131110, 0x1)]), by decide +kernel⟩,
   ⟨(W [(0x060500, 0x1), (0x060508, 0x4), (0x0A0300, 0x1004011), (0x0A031C, 0x3), (0x0A1000, 0x1), (0x0A1300, 0xFF4FFFFF), (0x131000, 0x1)]), (3 : Fin 12), wf (by decide +kernel), by decide +kernel⟩,
   ⟨({ W [(0x0A0300, 0x1004011), (0x0A1000, 0x1), (0x131000, 0x1)] with pwr := { awake.pwr with heartbeat := true } } : State), (3 : Fin 12), wf (by decide +kernel), by decide +kernel⟩,
   ⟨awake, (3 : Fin 12), by decide +kernel⟩,
   ⟨(W [(0x100224, 0x3), (0x120214, 0x1), (0x131000, 0x1)]), (2 : Fin 4), wf (by decide +kernel), by decide +kernel⟩,
   ⟨(W [(0x131000, 0x1)]), (2 : Fin 4), wf (by decide +kernel), by decide +kernel⟩,
   ⟨(W [(0x131000, 0x1)]), (2 : Fin 4), wf (by decide +kernel), by decide +kernel⟩,
   ⟨awake, (2 : Fin 4), by decide +kernel⟩,
   ⟨awake, (2 : Fin 4), by decide +kernel⟩⟩

theorem test_witness_SafetyFunctionsRunToTheirEnd :
  (∃ (s : State), regsWf s ∧ s.pwr.coreUp = true ∧ s.sgrActive = true ∧ s.flag SAFE_FSTAT_SGR_DONE = false ∧ s.safe.sgrSlots.all (fun i => s.sgrConfirmed i) = true ∧ READY ≤ s.pstate ∧ s.pstate ≠ SAFE) ∧
  (∃ (s : State), regsWf s ∧ s.pwr.coreUp = true ∧ s.sgrActive = true ∧ s.flag SAFE_FSTAT_SGR_DONE = false ∧ s.safe.sgrSlots.all (fun i => s.sgrConfirmed i) = true ∧ s.pstate < READY) ∧
  (∃ (s : State), s.pwr.coreUp = true ∧ s.sgrActive = true ∧ s.safe.sgrSlots.all (fun i => s.sgrConfirmed i) = false) ∧
  (∃ (s : State) (i : Nat), regsWf s ∧ s.pwr.coreUp = true ∧ s.sgrActive = true ∧ s.flag SAFE_FSTAT_SGR_DONE = false ∧ s.safe.sgrSlots.min? = some i ∧ i < 256 ∧ READY ≤ s.pstate ∧ s.pstate ≠ SAFE) ∧
  (∃ (s : State), s.pwr.coreUp = true ∧ (s.sgrActive = false ∨ s.flag SAFE_FSTAT_SGR_DONE = true)) ∧
  (∃ (s : State), regsWf s ∧ s.pwr.coreUp = true ∧ s.safe.sgrBkr = true ∧ s.bkrClosed = true) ∧
  (∃ (s : State), s.pwr.coreUp = true ∧ s.safe.sgrBkr = true ∧ s.bkrClosed = false) ∧
  (∃ (s : State) (b : Fin 12), regsWf s ∧ s.pwr.coreUp = true ∧ s.sodActive b.val = true ∧ s.get SAFE_SODSTAT_STEP 0 b.val = 1 ∧ s.holders b.val ≠ [] ∧ s.out.buses.length = 12) ∧
  (∃ (s : State) (b : Fin 12), s.pwr.coreUp = true ∧ (s.sodActive b.val = false ∨ s.get SAFE_SODSTAT_STEP 0 b.val ≠ 1)) ∧
  (∃ (s : State) (b : Fin 12), regsWf s ∧ s.pwr.coreUp = true ∧ s.sodActive b.val = true ∧ s.get SAFE_SODSTAT_STEP 0 b.val = 2 ∧ s.flag SAFE_SODCFG2_SOD_ESC = false ∧ s.out.buses.length = 12 ∧ s.pwr.heartbeat = true ∧ s.get OUT_BCFG_CTC b.val < 40) ∧
  (∃ (s : State) (b : Fin 12), regsWf s ∧ s.pwr.coreUp = true ∧ s.sodActive b.val = true ∧ s.get SAFE_SODSTAT_STEP 0 b.val = 2 ∧ s.flag SAFE_SODCFG2_SOD_ESC = true) ∧
  (∃ (s : State) (a : Fin 4), regsWf s ∧ s.pwr.coreUp = true ∧ s.sdsActive a.val = true ∧ s.drive.axes.length = 4 ∧ (10 * s.get SAFE_AXV0_V0 a.val - s.get SAFE_AXDEC_DEC a.val * ((s.axisSt a.val).sdsTicks + 1)) + 10 * s.get SAFE_AXTOL_TOL a.val < 10 * (s.geti ENC_SPD_SPEED a.val).natAbs ∧ s.strActive a.val = false) ∧
  (∃ (s : State) (a : Fin 4), regsWf s ∧ s.pwr.coreUp = true ∧ s.sdsActive a.val = true ∧ s.drive.axes.length = 4 ∧ 10 * (s.geti ENC_SPD_SPEED a.val).natAbs ≤ (10 * s.get SAFE_AXV0_V0 a.val - s.get SAFE_AXDEC_DEC a.val * ((s.axisSt a.val).sdsTicks + 1)) + 10 * s.get SAFE_AXTOL_TOL a.val ∧ s.get SAFE_AXSTILL_STILL_SPD a.val < (s.geti ENC_SPD_SPEED a.val).natAbs ∧ s.flag ENC_STAT_STILL a.val = false) ∧
  (∃ (s : State) (a : Fin 4), regsWf s ∧ s.pwr.coreUp = true ∧ s.sdsActive a.val = true ∧ s.drive.axes.length = 4 ∧ 10 * (s.geti ENC_SPD_SPEED a.val).natAbs ≤ (10 * s.get SAFE_AXV0_V0 a.val - s.get SAFE_AXDEC_DEC a.val * ((s.axisSt a.val).sdsTicks + 1)) + 10 * s.get SAFE_AXTOL_TOL a.val ∧ ((s.geti ENC_SPD_SPEED a.val).natAbs ≤ s.get SAFE_AXSTILL_STILL_SPD a.val ∨ s.flag ENC_STAT_STILL a.val = true) ∧ s.strActive a.val = false) ∧
  (∃ (s : State) (a : Fin 4), regsWf s ∧ s.pwr.coreUp = true ∧ s.sdsActive a.val = true ∧ s.strActive a.val = false) ∧
  (∃ (s : State) (a : Fin 4), s.pwr.coreUp = true ∧ s.sdsActive a.val = false) :=
  ⟨⟨(W [(0x000200, 0x4), (0x131110, 0x1)]), wf (by decide +kernel), by decide +kernel⟩,
   ⟨(W [(0x131110, 0x1)]), wf (by decide +kernel), by decide +kernel⟩,
   ⟨({ W [(0x060500, 0x1), (0x060508, 0x4), (0x131110, 0x1)] with safe := { awake.safe with sgrSlots := [4, 5] } } : State), by decide +kernel⟩,
   ⟨({ W [(0x000200, 0x4), (0x131110, 0x1)] with safe := { awake.safe with sgrSlots := [7, 5] } } : State), (5 : Nat), wf (by decide +kernel), by decide +kernel⟩,
   ⟨awake, by decide +kernel⟩,
   ⟨({ W [(0x080220, 0x21040), (0x143104, 0xFF)] with safe := { awake.safe with sgrBkr := true } } : State), wf (by decide +kernel), by decide +kernel⟩,
   ⟨({ awake with safe := { awake.safe with sgrBkr := true } } : State), by decide +kernel⟩,
   ⟨(W [(0x060500, 0x1), (0x060508, 0x4), (0x0A0300, 0x1004011), (0x0A031C, 0x4), (0x0A1000, 0x1), (0x0A1300, 0xFF4FFFFF), (0x13081C, 0x1), (0x131110, 0x80)]), (3 : Fin 12), wf (by decide +kernel), by decide +kernel⟩,
   ⟨awake, (3 : Fin 12), by decide +kernel⟩,
   ⟨({ W [(0x130804, 0xA), (0x13081C, 0x2), (0x131110, 0x80)] with pwr := { awake.pwr with heartbeat := true } } : State), (3 : Fin 12), wf (by decide +kernel), by decide +kernel⟩,
   ⟨(W [(0x13081C, 0x2), (0x131110, 0x80)]), (3 : Fin 12), wf (by decide +kernel), by decide +kernel⟩,
   ⟨(W [(0x120210, 0x38F), (0x130608, 0xA), (0x131110, 0x40000)]), (2 : Fin 4), wf (by decide +kernel), by decide +kernel⟩,
   ⟨(W [(0x120210, 0x38E), (0x120214, 0x0), (0x131110, 0x40000)]), (2 : Fin 4), wf (by decide +kernel), by decide +kernel⟩,
   ⟨(W [(0x131110, 0x40000)]), (2 : Fin 4), wf (by decide +kernel), by decide +kernel⟩,
   ⟨(W [(0x131110, 0x40000)]), (2 : Fin 4), wf (by decide +kernel), by decide +kernel⟩,
   ⟨awake, (2 : Fin 4), by decide +kernel⟩⟩

theorem test_witness_SafetyInputsAndResets :
  (∃ (s : State) (i : Fin 4) (ch : Bool) (v : Bool), regsWf s ∧ s.pwr.coreUp = true ∧ s.fieldUp = true ∧ s.flag SAFE_SICFG_EN i.val = true ∧ s.flag SAFE_SISTAT_A i.val = true ∧ s.flag SAFE_SISTAT_B i.val = true ∧ s.flag SAFE_SISTAT_DEMAND i.val = false ∧ v = false ∧ s.flag SAFE_SICFG_DIRECT i.val = false ∧ ∀ n ∈ List.range 4, s.inhibited n = false ∧ s.flag SAFE_SISTAT_DISC i.val = false ∧ s.flag SAFE_SICFG_SGR i.val = false ∧ s.flag SAFE_SICFG_SOD i.val = false ∧ s.flag SAFE_SICFG_SDS i.val = false ∧ s.flag SAFE_SICFG_STR i.val = false) ∧
  (∃ (s : State) (i : Fin 4), regsWf s ∧ s.pwr.coreUp = true ∧ s.fieldUp = true ∧ s.flag SAFE_SICFG_EN i.val = true ∧ s.flag SAFE_SISTAT_A i.val = true ∧ s.drive.siRev.contains (2 * i.val + 1) = false ∧ s.flag SAFE_SICFG_DIRECT i.val = false ∧ ∀ n ∈ List.range 4, s.inhibited n = false ∧ s.safe.bothLow.contains i.val = false) ∧
  (∃ (s : State) (i : Fin 4), regsWf s ∧ s.pwr.coreUp = true ∧ s.fieldUp = true ∧ s.flag SAFE_SICFG_EN i.val = true ∧ s.flag SAFE_SISTAT_A i.val = true ∧ s.drive.siRev.contains (2 * i.val + 1) = false ∧ s.flag SAFE_SICFG_DIRECT i.val = false ∧ ∀ n ∈ List.range 4, s.inhibited n = false ∧ s.safe.bothLow.contains i.val = true) ∧
  (∃ (s : State) (i : Fin 4), regsWf s ∧ s.pwr.coreUp = true ∧ s.flag SAFE_SICFG_EN i.val = true ∧ s.flag SAFE_SISTAT_A i.val ≠ s.flag SAFE_SISTAT_B i.val ∧ s.flag SAFE_SISTAT_DISC i.val = false) ∧
  (∃ (s : State), regsWf s ∧ s.pwr.coreUp = true ∧ s.sgrAsked = false ∧ (List.range 4).any (fun i => s.mapsSgr i && s.pairDisc i) = false ∧ s.pstate = SAFE ∧ s.flag SAFE_FSTAT_SGR_DONE = true) ∧
  (∃ (s : State), regsWf s ∧ s.pwr.coreUp = true ∧ s.sgrAsked = true) ∧
  (∃ (s : State), regsWf s ∧ s.pwr.coreUp = true ∧ s.sgrAsked = false ∧ (List.range 4).any (fun i => s.mapsSgr i && s.pairDisc i) = true) ∧
  (∃ (s : State), regsWf s ∧ s.pwr.coreUp = true ∧ s.sgrAsked = false ∧ (List.range 4).any (fun i => s.mapsSgr i && s.pairDisc i) = false ∧ (s.pstate ≠ SAFE ∨ s.flag SAFE_FSTAT_SGR_DONE = false)) ∧
  (∃ (s : State) (b : Fin 12), regsWf s ∧ s.pwr.coreUp = true ∧ s.sodAsked b.val = false ∧ (List.range 4).any (fun i => s.mapsSod b.val i && s.pairDisc i) = false ∧ s.sodActive b.val = true ∧ s.out.buses.length = 12) ∧
  (∃ (s : State) (b : Fin 12), regsWf s ∧ s.pwr.coreUp = true ∧ s.sodAsked b.val = true) ∧
  (∃ (s : State) (a : Fin 4), regsWf s ∧ s.pwr.coreUp = true ∧ s.axisAsked a.val = false ∧ (List.range 4).any (fun i => s.mapsAxis a.val i && s.pairDisc i) = false ∧ (s.sdsActive a.val = true ∨ s.strActive a.val = true)) ∧
  (∃ (s : State) (a : Fin 4), regsWf s ∧ s.pwr.coreUp = true ∧ s.axisAsked a.val = true) :=
  ⟨⟨({ W [(0x130100, 0x1), (0x130108, 0x3)] with pwr := { awake.pwr with heartbeat := true } } : State), (1 : Fin 4), (true : Bool), (false : Bool), wf (by decide +kernel), by decide +kernel⟩,
   ⟨({ W [(0x130100, 0x1), (0x130108, 0xD)] with pwr := { awake.pwr with heartbeat := true } } : State), (1 : Fin 4), wf (by decide +kernel), by decide +kernel⟩,
   ⟨({ W [(0x130100, 0x1), (0x130108, 0xD)] with pwr := { awake.pwr with heartbeat := true }, safe := { awake.safe with bothLow := [1] } } : State), (1 : Fin 4), wf (by decide +kernel), by decide +kernel⟩,
   ⟨(W [(0x130100, 0x1), (0x130108, 0x5)]), (1 : Fin 4), wf (by decide +kernel), by decide +kernel⟩,
   ⟨(W [(0x000200, 0x9), (0x131110, 0x2)]), wf (by decide +kernel), by decide +kernel⟩,
   ⟨(W [(0x111104, 0x1)]), wf (by decide +kernel), by decide +kernel⟩,
   ⟨(W [(0x130100, 0x3), (0x130108, 0xF), (0x131000, 0x1)]), wf (by decide +kernel), by decide +kernel⟩,
   ⟨awake, rfl, by decide +kernel⟩,
   ⟨(W [(0x131110, 0x80)]), (3 : Fin 12), wf (by decide +kernel), by decide +kernel⟩,
   ⟨({ awake with out := { awake.out with openCur := [3] } } : State), (3 : Fin 12), rfl, by decide +kernel⟩,
   ⟨(W [(0x131110, 0x400000)]), (2 : Fin 4), wf (by decide +kernel), by decide +kernel⟩,
   ⟨(W [(0x130614, 0x8)]), (2 : Fin 4), wf (by decide +kernel), by decide +kernel⟩⟩

theorem test_witness_RunRequestsAreHeldForJudgement :
  (∃ (s : State), regsWf s ∧ s.pwr.coreUp = true ∧ s.en .form = true ∧ s.follows = false) ∧
  (∃ (s : State), regsWf s ∧ s.pwr.coreUp = true ∧ s.en .form = true ∧ s.follows = false) ∧
  (∃ (s : State), regsWf s ∧ s.pwr.coreUp = true ∧ s.en .form = true ∧ s.follows = false) ∧
  (∃ (s : State), regsWf s ∧ s.pwr.coreUp = true ∧ s.en .form = true ∧ s.follows = false) ∧
  (∃ (s : State), regsWf s ∧ s.pwr.coreUp = true ∧ s.en .form = true ∧ s.follows = false) ∧
  (∃ (s : State), regsWf s ∧ s.pwr.coreUp = true ∧ s.en .form = true ∧ s.follows = false) ∧
  (∃ (s : State), regsWf s ∧ s.pwr.coreUp = true ∧ s.en .form = true ∧ s.follows = false) ∧
  (∃ (s : State), regsWf s ∧ s.pwr.coreUp = true ∧ (s.en .form = false ∨ s.follows = true)) ∧
  (∃ (s : State), regsWf s ∧ s.pwr.coreUp = true ∧ (s.en .form = false ∨ s.follows = true)) ∧
  (∃ (s : State), regsWf s ∧ s.pwr.coreUp = true ∧ (s.en .form = false ∨ s.follows = true)) ∧
  (∃ (s : State), regsWf s ∧ s.pwr.coreUp = true ∧ (s.en .form = false ∨ s.follows = true)) ∧
  (∃ (s : State), regsWf s ∧ s.pwr.coreUp = true ∧ (s.en .form = false ∨ s.follows = true)) ∧
  (∃ (s : State), regsWf s ∧ s.pwr.coreUp = true ∧ (s.en .form = false ∨ s.follows = true)) ∧
  (∃ (s : State), regsWf s ∧ s.pwr.coreUp = true ∧ (s.en .form = false ∨ s.follows = true)) ∧
  (∃ (s : State), regsWf s ∧ s.pwr.coreUp = true ∧ s.pstate = READY ∧ s.get FORM_MODE_STAT_START_MODE ≠ 0 ∧ s.en .form = true ∧ s.anySevere = false ∧ s.silent = false ∧ s.stringShort = false) ∧
  (∃ (s : State), regsWf s ∧ s.pwr.coreUp = true ∧ s.pstate = READY ∧ s.get FORM_MODE_STAT_START_MODE ≠ 0 ∧ s.en .form = true ∧ s.anySevere = false ∧ s.silent = false ∧ s.stringShort = true) ∧
  (∃ (s : State), regsWf s ∧ s.pwr.coreUp = true ∧ (s.pstate ≠ READY ∨ s.get FORM_MODE_STAT_START_MODE = 0 ∨ s.en .form = false ∨ s.anySevere = true ∨ s.silent = true)) ∧
  (∃ (s : State), regsWf s ∧ s.pwr.coreUp = true ∧ s.cyc.startReq = true ∧ s.en .form = true ∧ s.follows = false) ∧
  (∃ (s : State), s.pwr.coreUp = true ∧ s.cyc.startReq = false) ∧
  (∃ (s : State), regsWf s ∧ s.pwr.coreUp = true ∧ (s.pstate == READY || s.inRun) = true ∧ s.sgrActive = false) ∧
  (∃ (s : State), regsWf s ∧ s.pwr.coreUp = true ∧ (s.pstate == READY || s.inRun) = false) :=
  ⟨⟨(W [(0x080000, 0x1)]), wf (by decide +kernel), by decide +kernel⟩,
   ⟨(W [(0x080000, 0x1)]), wf (by decide +kernel), by decide +kernel⟩,
   ⟨(W [(0x080000, 0x1)]), wf (by decide +kernel), by decide +kernel⟩,
   ⟨(W [(0x080000, 0x1)]), wf (by decide +kernel), by decide +kernel⟩,
   ⟨(W [(0x080000, 0x1)]), wf (by decide +kernel), by decide +kernel⟩,
   ⟨(W [(0x080000, 0x1)]), wf (by decide +kernel), by decide +kernel⟩,
   ⟨(W [(0x080000, 0x1)]), wf (by decide +kernel), by decide +kernel⟩,
   ⟨awake, rfl, by decide +kernel⟩,
   ⟨awake, rfl, by decide +kernel⟩,
   ⟨awake, rfl, by decide +kernel⟩,
   ⟨awake, rfl, by decide +kernel⟩,
   ⟨awake, rfl, by decide +kernel⟩,
   ⟨awake, rfl, by decide +kernel⟩,
   ⟨awake, rfl, by decide +kernel⟩,
   ⟨(W [(0x000200, 0x4), (0x080000, 0x1), (0x080304, 0x20004)]), wf (by decide +kernel), by decide +kernel⟩,
   ⟨(W [(0x000200, 0x4), (0x06C120, 0x1C8), (0x080000, 0x1), (0x080304, 0x20004)]), wf (by decide +kernel), by decide +kernel⟩,
   ⟨awake, rfl, by decide +kernel⟩,
   ⟨({ W [(0x080000, 0x1)] with cyc := { awake.cyc with startReq := true } } : State), wf (by decide +kernel), by decide +kernel⟩,
   ⟨awake, by decide +kernel⟩,
   ⟨(W [(0x000200, 0x4)]), wf (by decide +kernel), by decide +kernel⟩,
   ⟨awake, rfl, by decide +kernel⟩⟩

theorem test_witness_RunningStatesEndAndTheBreakerIsDriven :
  (∃ (s : State), regsWf s ∧ s.pwr.coreUp = true ∧ s.synchronising = true ∧ s.phase = 3 ∧ s.form.permit = true ∧ s.get FORM_SYNC2_SYNC_HOLD ≤ s.form.holdRun ∧ s.flag FORM_BKR_BKR_EN = true) ∧
  (∃ (s : State), s.pwr.coreUp = true ∧ (s.form.permit = false ∨ s.form.holdRun < s.get FORM_SYNC2_SYNC_HOLD)) ∧
  (∃ (s : State), regsWf s ∧ s.pwr.coreUp = true ∧ s.flag FORM_BKR_BKR_EN = true) ∧
  (∃ (s : State), regsWf s ∧ s.pwr.coreUp = true ∧ s.flag FORM_BKR_BKR_EN = true) ∧
  (∃ (s : State), regsWf s ∧ s.pwr.coreUp = true ∧ s.fieldUp = true ∧ s.en .form = true ∧ s.flag FORM_BKR_BKR_EN = true ∧ s.get FORM_BKR_FB < 40 ∧ s.bkrClosed = false ∧ s.ctc.fbRev.contains (s.get FORM_BKR_FB) = false ∧ (s.pstate = SYNC ∨ s.pstate = RESYNC) ∧ s.phase = 4 ∧ ∀ b ∈ buses, s.busEn b = false ∧ ∀ a ∈ List.range 4, s.ilkOn a = false) ∧
  (∃ (s : State), regsWf s ∧ s.pwr.coreUp = true ∧ s.pstate = SYNC ∧ s.phase = 1 ∧ s.flag LAW_PRE_FEED_EN = false ∧ s.flag LAW_PRE_STORE_EN = false) ∧
  (∃ (s : State), regsWf s ∧ s.pwr.coreUp = true ∧ s.pstate = SYNC ∧ s.phase = 2) ∧
  (∃ (s : State), regsWf s ∧ s.pwr.coreUp = true ∧ s.pstate = RESYNC ∧ s.phase = 3) ∧
  (∃ (s : State), regsWf s ∧ s.pwr.coreUp = true ∧ s.pstate = BLACKSTART ∧ s.phase = 1 ∧ s.flag LAW_PRE_FEED_EN = false ∧ s.flag LAW_PRE_STORE_EN = false) ∧
  (∃ (s : State), regsWf s ∧ s.pwr.coreUp = true ∧ s.pstate = BLACKSTART ∧ s.phase = 2) ∧
  (∃ (s : State), regsWf s ∧ s.pwr.coreUp = true ∧ s.inRun = true ∧ s.phase = 7 ∧ s.flag FORM_BKR_BKR_EN = true ∧ s.bkrClosed = true ∧ s.form.trip = false ∧ (s.get FORM_BKR_CLOSE_CTC) ≠ (s.get FORM_BKR_TRIP_CTC)) ∧
  (∃ (s : State), regsWf s ∧ s.pwr.coreUp = true ∧ s.en .form = true ∧ s.flag FORM_BKR_BKR_EN = true ∧ s.pstate = SYNC ∧ s.phase = 4 ∧ s.bkrClosed = false ∧ (s.get FORM_BKR_CLOSE_CTC) ≠ (s.get FORM_BKR_TRIP_CTC)) ∧
  (∃ (s : State), regsWf s ∧ s.pwr.coreUp = true ∧ s.en .form = true ∧ s.flag FORM_BKR_BKR_EN = true ∧ s.phase ≠ 4 ∧ s.form.trip = true ∧ s.bkrClosed = true ∧ s.sgrActive = false) ∧
  (∃ (s : State), regsWf s ∧ s.pwr.coreUp = true ∧ s.en .form = true ∧ 3 ≤ s.form.mismatch ∧ s.sgrActive = false) ∧
  (∃ (s : State), s.pwr.coreUp = true ∧ s.form.mismatch < 3) ∧
  (∃ (s : State) (l : Bool), s.pwr.coreUp = true ∧ s.en .form = true ∧ (if l then (s.get FORM_LIVE_LIVE_V : Int) * one ≤ s.form.magV * 1000 else s.form.magV * 1000 < (s.get FORM_LIVE_DEAD_V : Int) * one)) ∧
  (∃ (s : State) (l : Bool), regsWf s ∧ s.pwr.coreUp = true ∧ s.en .form = true ∧ (if l then (s.get FORM_LIVE_LIVE_V : Int) * one ≤ s.form.magF * 1000 else s.form.magF * 1000 < (s.get FORM_LIVE_DEAD_V : Int) * one) ∧ s.pstate = READY) ∧
  (∃ (s : State), regsWf s ∧ s.pwr.coreUp = true ∧ s.en .form = true ∧ s.form.magF * 1000 < (s.get FORM_LIVE_DEAD_V : Int) * one ∧ s.pstate = SYNC ∧ s.phase = 3) :=
  ⟨⟨({ W [(0x000200, 0x6), (0x08020C, 0x3C0005), (0x080220, 0x62248), (0x080304, 0x34)] with form := { awake.form with holdRun := 5, permit := true } } : State), wf (by decide +kernel), by decide +kernel⟩,
   ⟨awake, by decide +kernel⟩,
   ⟨(W [(0x080220, 0x62248)]), wf (by decide +kernel), by decide +kernel⟩,
   ⟨(W [(0x080220, 0x62248)]), wf (by decide +kernel), by decide +kernel⟩,
   ⟨(W [(0x000200, 0x6), (0x080000, 0x1), (0x080220, 0x62248), (0x080304, 0x44)]), wf (by decide +kernel), by decide +kernel⟩,
   ⟨(W [(0x000200, 0x6), (0x080304, 0x14)]), wf (by decide +kernel), by decide +kernel⟩,
   ⟨(W [(0x000200, 0x6), (0x080304, 0x24)]), wf (by decide +kernel), by decide +kernel⟩,
   ⟨(W [(0x000200, 0x8), (0x080304, 0x34)]), wf (by decide +kernel), by decide +kernel⟩,
   ⟨(W [(0x000200, 0x7), (0x080304, 0x14)]), wf (by decide +kernel), by decide +kernel⟩,
   ⟨(W [(0x000200, 0x7), (0x080304, 0x24)]), wf (by decide +kernel), by decide +kernel⟩,
   ⟨(W [(0x000200, 0x5), (0x080220, 0x62248), (0x080304, 0x74), (0x143104, 0xFF)]), wf (by decide +kernel), by decide +kernel⟩,
   ⟨(W [(0x000200, 0x6), (0x080000, 0x1), (0x080220, 0x62248), (0x080304, 0x44)]), wf (by decide +kernel), by decide +kernel⟩,
   ⟨({ W [(0x080000, 0x1), (0x080220, 0x62248), (0x143104, 0xFF)] with form := { awake.form with trip := true } } : State), wf (by decide +kernel), by decide +kernel⟩,
   ⟨({ W [(0x080000, 0x1)] with form := { awake.form with mismatch := 3 } } : State), wf (by decide +kernel), by decide +kernel⟩,
   ⟨awake, by decide +kernel⟩,
   ⟨({ W [(0x080000, 0x1)] with form := { awake.form with magV := 536870912 } } : State), (true : Bool), by decide +kernel⟩,
   ⟨({ W [(0x000200, 0x4), (0x080000, 0x1)] with form := { awake.form with magF := 536870912 } } : State), (true : Bool), wf (by decide +kernel), by decide +kernel⟩,
   ⟨(W [(0x000200, 0x6), (0x080000, 0x1), (0x080304, 0x34)]), wf (by decide +kernel), by decide +kernel⟩⟩

theorem test_witness_LawSlotsAndBanksAreOperated :
  (∃ (s : State) (k : Fin 19) (v : BitVec 32), regsWf s ∧ s.pwr.coreUp = true ∧ bitOf v.toNat 0 = true ∧ manualOk k.val = true) ∧
  (∃ (s : State) (k : Fin 19) (v : BitVec 32), regsWf s ∧ s.pwr.coreUp = true ∧ bitOf v.toNat 0 = true ∧ manualOk k.val = false) ∧
  (∃ (s : State) (k : Fin 19) (v : BitVec 32), regsWf s ∧ s.pwr.coreUp = true ∧ bitOf v.toNat 0 = false) ∧
  (∃ (s : State) (k : Fin 19), regsWf s ∧ s.pwr.coreUp = true ∧ s.flag LAW_SCFG_FE_EN k.val = true ∧ s.get LAW_SCFG_FE_TMO k.val ≤ s.get LAW_SSTAT_FE_CNT k.val ∧ s.flag LAW_SSTAT_FE_TRIP k.val = false ∧ (s.get LAW_SCFG_FE_ACT k.val = 0 ∨ s.get LAW_SCFG_FE_ACT k.val = 3)) ∧
  (∃ (s : State) (k : Fin 19), regsWf s ∧ s.pwr.coreUp = true ∧ s.flag LAW_SCFG_FE_EN k.val = true ∧ s.get LAW_SCFG_FE_TMO k.val ≤ s.get LAW_SSTAT_FE_CNT k.val ∧ s.flag LAW_SSTAT_FE_TRIP k.val = false ∧ s.get LAW_SCFG_FE_ACT k.val = 1) ∧
  (∃ (s : State) (k : Fin 19), regsWf s ∧ s.pwr.coreUp = true ∧ s.flag LAW_SCFG_FE_EN k.val = true ∧ s.get LAW_SCFG_FE_TMO k.val ≤ s.get LAW_SSTAT_FE_CNT k.val ∧ s.flag LAW_SSTAT_FE_TRIP k.val = false ∧ s.get LAW_SCFG_FE_ACT k.val = 2 ∧ k.val < 7 ∧ s.sgrActive = false) ∧
  (∃ (s : State) (k : Fin 19), regsWf s ∧ s.pwr.coreUp = true ∧ s.flag LAW_SCFG_FE_EN k.val = true ∧ s.get LAW_SCFG_FE_TMO k.val ≤ s.get LAW_SSTAT_FE_CNT k.val ∧ s.flag LAW_SSTAT_FE_TRIP k.val = false ∧ s.get LAW_SCFG_FE_ACT k.val = 2 ∧ 7 ≤ k.val ∧ s.en .safe = true) ∧
  (∃ (s : State) (k : Fin 19), s.pwr.coreUp = true ∧ s.flag LAW_SSTAT_FE_TRIP k.val = true) ∧
  (∃ (s : State) (x : Nat), regsWf s ∧ s.pwr.coreUp = true ∧ s.law.recSince = some x ∧ s.flag LAW_RT_STAT_RIDE = true ∧ s.get LAW_RT_V_RT_REC * 1000000 ≤ s.samp - x) ∧
  (∃ (s : State), s.pwr.coreUp = true ∧ s.law.recSince = none) ∧
  (∃ (s : State) (k : Fin 8) (p : Nat × Nat), regsWf s ∧ s.pwr.coreUp = true ∧ s.law.stages.find? (fun p => p.1 == k.val) = some p ∧ s.connected = true ∧ s.get LAW_RT_F_TIME 0 k.val * 10000000 ≤ s.samp - p.2 ∧ s.law.exited = false ∧ s.get LAW_CFG_RT_ACT = 0) ∧
  (∃ (s : State), regsWf s ∧ s.pwr.coreUp = true ∧ s.en .law = true ∧ s.flag LAW_BANK_SWAP_PENDING = false ∧ checkLawBank (1 - s.get LAW_BANK_ACTIVE) s = none ∧ s.pastCut = false) ∧
  (∃ (s : State), regsWf s ∧ s.pwr.coreUp = true ∧ (s.en .law = false ∨ s.flag LAW_BANK_SWAP_PENDING = true)) ∧
  (∃ (s : State) (r : Nat × Nat × Nat), regsWf s ∧ s.pwr.coreUp = true ∧ s.en .law = true ∧ s.flag LAW_BANK_SWAP_PENDING = false ∧ checkLawBank (1 - s.get LAW_BANK_ACTIVE) s = some r ∧ r.1 < 256) ∧
  (∃ (s : State), regsWf s ∧ s.pwr.coreUp = true ∧ s.en .form = true ∧ s.flag FORM_BANK_SWAP_PENDING = false ∧ checkFormBank (1 - s.get FORM_BANK_ACTIVE) s = none ∧ s.pastCut = false) ∧
  (∃ (s : State), regsWf s ∧ s.pwr.coreUp = true ∧ (s.en .form = false ∨ s.flag FORM_BANK_SWAP_PENDING = true)) ∧
  (∃ (s : State) (r : Nat × Nat × Nat), regsWf s ∧ s.pwr.coreUp = true ∧ s.en .form = true ∧ s.flag FORM_BANK_SWAP_PENDING = false ∧ checkFormBank (1 - s.get FORM_BANK_ACTIVE) s = some r ∧ r.1 < 256) :=
  ⟨⟨awake, (7 : Fin 19), (0x1230001#32 : BitVec 32), rfl, by decide +kernel⟩,
   ⟨awake, (6 : Fin 19), (0x1230001#32 : BitVec 32), rfl, by decide +kernel⟩,
   ⟨awake, (6 : Fin 19), (0x1230000#32 : BitVec 32), rfl, by decide +kernel⟩,
   ⟨(W [(0x090900, 0x30005), (0x090918, 0x30000)]), (9 : Fin 19), wf (by decide +kernel), by decide +kernel⟩,
   ⟨(W [(0x090900, 0x3000D), (0x090918, 0x30000)]), (9 : Fin 19), wf (by decide +kernel), by decide +kernel⟩,
   ⟨(W [(0x090300, 0x30015), (0x090318, 0x30000)]), (3 : Fin 19), wf (by decide +kernel), by decide +kernel⟩,
   ⟨(W [(0x090900, 0x30015), (0x090918, 0x30000), (0x131000, 0x1)]), (9 : Fin 19), wf (by decide +kernel), by decide +kernel⟩,
   ⟨(W [(0x090918, 0x8)]), (9 : Fin 19), by decide +kernel⟩,
   ⟨({ W [(0x00010C, 0x4C4B40), (0x092204, 0x1E1352), (0x092280, 0x1)] with law := { awake.law with recSince := some 1000 } } : State), (1000 : Nat), wf (by decide +kernel), by decide +kernel⟩,
   ⟨awake, by decide +kernel⟩,
   ⟨({ W [(0x00010C, 0x2FAF080), (0x000200, 0x5), (0x080304, 0x54), (0x092200, 0x130)] with law := { awake.law with stages := [(6, 1000)] } } : State), (6 : Fin 8), ((6, 1000) : Nat × Nat), wf (by decide +kernel), by decide +kernel⟩,
   ⟨(W [(0x092000, 0x1)]), wf (by decide +kernel), by decide +kernel⟩,
   ⟨awake, rfl, by decide +kernel⟩,
   ⟨(W [(0x092000, 0x1), (0x092158, 0x3E80000)]), (let s : State := (W [(0x092000, 0x1), (0x092158, 0x3E80000)]); ((checkLawBank (1 - s.get LAW_BANK_ACTIVE) s).getD (0, 0, 0) : Nat × Nat × Nat)), wf (by decide +kernel), by decide +kernel⟩,
   ⟨(W [(0x080000, 0x1)]), wf (by decide +kernel), by decide +kernel⟩,
   ⟨awake, rfl, by decide +kernel⟩,
   ⟨(W [(0x080000, 0x1), (0x080500, 0x1F40000)]), (let s : State := (W [(0x080000, 0x1), (0x080500, 0x1F40000)]); ((checkFormBank (1 - s.get FORM_BANK_ACTIVE) s).getD (0, 0, 0) : Nat × Nat × Nat)), wf (by decide +kernel), by decide +kernel⟩⟩

theorem test_witness_PrechargeEndsOrFails :
  (∃ (s : State), regsWf s ∧ s.pwr.coreUp = true ∧ s.preIn [3] = true ∧ s.preDone = true ∧ s.sgrActive = false ∧ s.pwr.heartbeat = true) ∧
  (∃ (s : State), s.pwr.coreUp = true ∧ (s.preIn [3] && s.preDone) = false) ∧
  (∃ (s : State), regsWf s ∧ s.pwr.coreUp = true ∧ s.inRun = true ∧ s.precharging = true ∧ s.flag LAW_PRE_FEED_EN = false ∧ s.flag LAW_PRE_STORE_EN = false ∧ s.pstate ≠ RESYNC ∧ s.preIn [1, 2, 3] = true ∧ s.sgrActive = false ∧ (s.preIn [3] && s.preDone) = false) ∧
  (∃ (s : State), s.pwr.coreUp = true ∧ s.preIn [1, 2, 3] = false) ∧
  (∃ (s : State), regsWf s ∧ s.pwr.coreUp = true ∧ s.inRun = true ∧ s.precharging = true ∧ s.flag LAW_PRE_FEED_EN = false ∧ s.flag LAW_PRE_STORE_EN = false ∧ s.pstate ≠ RESYNC ∧ s.preEnding = false ∧ ((s.preIn [2] && !s.preClosed) || (s.preIn [4] && s.preClosed)) = true) ∧
  (∃ (s : State), regsWf s ∧ s.pwr.coreUp = true ∧ s.preEnding = true) ∧
  (∃ (s : State), s.pwr.coreUp = true ∧ s.preEnding = false ∧ ((s.preIn [2] && !s.preClosed) || (s.preIn [4] && s.preClosed)) = false) :=
  ⟨⟨({ W [(0x000200, 0x6), (0x080304, 0x14), (0x092320, 0x3)] with pwr := { awake.pwr with heartbeat := true } } : State), wf (by decide +kernel), by decide +kernel⟩,
   ⟨awake, by decide +kernel⟩,
   ⟨(W [(0x000200, 0x6), (0x080304, 0x14), (0x092320, 0x2)]), wf (by decide +kernel), by decide +kernel⟩,
   ⟨awake, by decide +kernel⟩,
   ⟨(W [(0x000200, 0x6), (0x080304, 0x14), (0x092320, 0x2)]), wf (by decide +kernel), by decide +kernel⟩,
   ⟨(W [(0x000200, 0x6), (0x080304, 0x14), (0x092320, 0x4), (0x131110, 0x1)]), wf (by decide +kernel), by decide +kernel⟩,
   ⟨awake, by decide +kernel⟩⟩

theorem test_witness_OutletBusesAreCommandedAndSwitched :
  (∃ (s : State) (b : Fin 12), regsWf s ∧ s.pwr.coreUp = true ∧ s.follows = false ∧ s.onRefusal b.val = none ∧ s.out.buses.length = 12) ∧
  (∃ (s : State) (b : Fin 12) (r : Nat), regsWf s ∧ s.pwr.coreUp = true ∧ s.follows = false ∧ s.onRefusal b.val = some r ∧ r < 0x10000) ∧
  (∃ (s : State) (b : Fin 12), regsWf s ∧ s.pwr.coreUp = true ∧ s.follows = false ∧ s.busEn b.val = true ∧ s.bst b.val = B_MATCHING) ∧
  (∃ (s : State) (b : Fin 12), regsWf s ∧ s.pwr.coreUp = true ∧ s.follows = false ∧ s.busEn b.val = true ∧ s.bst b.val = B_SERVING ∧ s.out.buses.length = 12) ∧
  (∃ (s : State) (b : Fin 12), regsWf s ∧ s.pwr.coreUp = true ∧ (s.follows = true ∨ s.busEn b.val = false ∨ s.bst b.val = B_CLOSING ∨ s.bst b.val = B_UNAVAILABLE)) ∧
  (∃ (s : State) (b : Fin 12), regsWf s ∧ s.pwr.coreUp = true ∧ s.follows = false ∧ s.busEn b.val = true ∧ s.bst b.val = B_UNAVAILABLE ∧ (s.pstate == READY || s.pstate == SAFE) = true ∧ s.busClosed b.val = false ∧ (s.flag CTC_OSTAT_SHORT (s.get OUT_BCFG_CTC b.val) || s.flag CTC_OSTAT_OPEN (s.get OUT_BCFG_CTC b.val) || s.flag CTC_OSTAT_REVERSE (s.get OUT_BCFG_CTC b.val)) = false) ∧
  (∃ (s : State) (b : Fin 12), regsWf s ∧ s.pwr.coreUp = true ∧ s.follows = false ∧ s.busEn b.val = true ∧ s.bst b.val = B_UNAVAILABLE ∧ (s.pstate == READY || s.pstate == SAFE) = true ∧ s.busClosed b.val = true) ∧
  (∃ (s : State) (b : Fin 12) (v : BitVec 32), regsWf s ∧ s.pwr.coreUp = true ∧ s.follows = false) ∧
  (∃ (s : State) (b : Fin 12) (v : BitVec 32), regsWf s ∧ s.pwr.coreUp = true ∧ s.follows = false ∧ (let out := fun (x : Nat) => x != 0 && (decide (x < 1500) || decide (s.get OUT_BCFG2_V_MAX b.val < x)); out (bitsOf v.toNat 0 16) || out (bitsOf v.toNat 16 16)) = false) ∧
  (∃ (s : State) (b : Fin 12) (v : BitVec 32), regsWf s ∧ s.pwr.coreUp = true ∧ s.follows = false ∧ (let out := fun (x : Nat) => x != 0 && (decide (x < 1500) || decide (s.get OUT_BCFG2_V_MAX b.val < x)); out (bitsOf v.toNat 0 16) || out (bitsOf v.toNat 16 16)) = true) ∧
  (∃ (s : State) (b : Fin 12), regsWf s ∧ s.pwr.coreUp = true ∧ s.busEn b.val = true ∧ s.bst b.val = B_MATCHING ∧ s.get OUT_MATCH_MATCH_HOLD ≤ (s.busSt b.val).matchRun ∧ s.busClosed b.val = false) ∧
  (∃ (s : State) (b : Fin 12), regsWf s ∧ s.pwr.coreUp = true ∧ s.busEn b.val = true ∧ s.bst b.val = B_MATCHING ∧ s.get OUT_MATCH_MATCH_HOLD ≤ (s.busSt b.val).matchRun ∧ s.busClosed b.val = true ∧ s.out.buses.length = 12) ∧
  (∃ (s : State) (b : Fin 12), regsWf s ∧ s.pwr.coreUp = true ∧ s.busEn b.val = true ∧ s.bst b.val = B_MATCHING) ∧
  (∃ (s : State) (b : Fin 12), regsWf s ∧ s.pwr.coreUp = true ∧ s.busEn b.val = true ∧ s.bst b.val = B_CLOSING ∧ s.busClosed b.val = false) ∧
  (∃ (s : State) (b : Fin 12), regsWf s ∧ s.pwr.coreUp = true ∧ s.busEn b.val = true ∧ s.bst b.val = B_OPENING ∧ s.busClosed b.val = true ∧ s.sodActive b.val = false) ∧
  (∃ (s : State) (b : Fin 12), regsWf s ∧ s.pwr.coreUp = true ∧ s.busEn b.val = true ∧ s.bst b.val = B_RAMPDOWN ∧ s.sodActive b.val = true) ∧
  (∃ (s : State) (b : Fin 12), s.pwr.coreUp = true ∧ s.busEn b.val = true ∧ s.bst b.val ≠ B_RAMPDOWN) :=
  ⟨⟨(W [(0x000200, 0x5), (0x0A0300, 0x1004001), (0x0A030C, 0xFA00FA0), (0x0A1000, 0x1)]), (3 : Fin 12), wf (by decide +kernel), by decide +kernel⟩,
   ⟨(W [(0x0A0300, 0x1004011), (0x0A031C, 0x6), (0x0A1000, 0x1)]), (3 : Fin 12), (0x0A20 : Nat), wf (by decide +kernel), by decide +kernel⟩,
   ⟨(W [(0x0A0300, 0x1004011), (0x0A031C, 0x1), (0x0A1000, 0x1)]), (3 : Fin 12), wf (by decide +kernel), by decide +kernel⟩,
   ⟨(W [(0x0A0300, 0x1004011), (0x0A031C, 0x3), (0x0A1000, 0x1)]), (3 : Fin 12), wf (by decide +kernel), by decide +kernel⟩,
   ⟨awake, (3 : Fin 12), rfl, by decide +kernel⟩,
   ⟨(W [(0x000200, 0x4), (0x0A0300, 0x1004011), (0x0A031C, 0x6), (0x0A1000, 0x1)]), (3 : Fin 12), wf (by decide +kernel), by decide +kernel⟩,
   ⟨(W [(0x000200, 0x4), (0x0A0300, 0x1844011), (0x0A031C, 0x6), (0x0A1000, 0x1), (0x143104, 0xFF)]), (3 : Fin 12), wf (by decide +kernel), by decide +kernel⟩,
   ⟨awake, (3 : Fin 12), (0x12345678#32 : BitVec 32), rfl, by decide +kernel⟩,
   ⟨awake, (3 : Fin 12), ((BitVec.ofNat 32 (5000 + 65536 * 1500)) : BitVec 32), rfl, by decide +kernel⟩,
   ⟨(W [(0x0A0304, 0x7D1388)]), (3 : Fin 12), ((BitVec.ofNat 32 5001) : BitVec 32), wf (by decide +kernel), by decide +kernel⟩,
   ⟨(W [(0x0A0300, 0x1004011), (0x0A031C, 0x1), (0x0A1000, 0x1), (0x0A1104, 0x1F400032)]), (3 : Fin 12), wf (by decide +kernel), by decide +kernel⟩,
   ⟨(W [(0x0A0300, 0x1844011), (0x0A031C, 0x1), (0x0A1000, 0x1), (0x0A1104, 0x1F400032), (0x143104, 0xFF)]), (3 : Fin 12), wf (by decide +kernel), by decide +kernel⟩,
   ⟨(W [(0x0A0300, 0x1004011), (0x0A031C, 0x1), (0x0A1000, 0x1)]), (3 : Fin 12), wf (by decide +kernel), by decide +kernel⟩,
   ⟨(W [(0x0A0300, 0x1004011), (0x0A031C, 0x2), (0x0A1000, 0x1)]), (3 : Fin 12), wf (by decide +kernel), by decide +kernel⟩,
   ⟨(W [(0x0A0300, 0x1844011), (0x0A031C, 0x5), (0x0A1000, 0x1), (0x143104, 0xFF)]), (3 : Fin 12), wf (by decide +kernel), by decide +kernel⟩,
   ⟨(W [(0x0A0300, 0x1004011), (0x0A031C, 0x4), (0x0A1000, 0x1), (0x131110, 0x80)]), (3 : Fin 12), wf (by decide +kernel), by decide +kernel⟩,
   ⟨(W [(0x0A0300, 0x1004011), (0x0A1000, 0x1)]), (3 : Fin 12), by decide +kernel⟩⟩

theorem test_witness_AllocationTargetsAndStuckMoves :
  (∃ (s : State) (m : Fin 24) (v : BitVec 32), regsWf s ∧ s.pwr.coreUp = true ∧ s.follows = false ∧ (List.range 8).all (fun k => decide (bitsOf v.toNat (4 * k) 4 ≤ 12) && (decide (bitsOf v.toNat (4 * k) 4 = 0 ∨ bitsOf v.toNat (4 * k) 4 = s.getPk OUT_ALLOC_TGT_TGT 8 4 (8 * m.val + k)) || (s.flag OUT_BCFG_EN (bitsOf v.toNat (4 * k) 4 - 1) && s.bst (bitsOf v.toNat (4 * k) 4 - 1) != B_UNAVAILABLE && s.flag CELL_SCFG_SLOT_EN (8 * m.val + k)))) = true ∧ s.pastCut = false) ∧
  (∃ (s : State) (m : Fin 24) (v : BitVec 32), regsWf s ∧ s.pwr.coreUp = true ∧ s.follows = false ∧ (List.range 8).any (fun k => decide (12 < bitsOf v.toNat (4 * k) 4)) = true) ∧
  (∃ (s : State) (i : Fin 192), regsWf s ∧ s.pwr.coreUp = true ∧ s.en .out = true ∧ (s.allocStep i.val = 2 ∨ s.allocStep i.val = 4) ∧ (s.moveSt i.val).seen = false ∧ s.out.moves.length = 192) ∧
  (∃ (s : State) (i : Fin 192), s.pwr.coreUp = true ∧ s.allocStep i.val ≠ 2 ∧ s.allocStep i.val ≠ 4) :=
  ⟨⟨(W [(0x061000, 0x1), (0x0A0300, 0x1004011)]), (2 : Fin 24), (4#32 : BitVec 32), wf (by decide +kernel), by decide +kernel⟩,
   ⟨awake, (2 : Fin 24), (0xD0#32 : BitVec 32), rfl, by decide +kernel⟩,
   ⟨(W [(0x0A1000, 0x1), (0x0A1368, 0x400000)]), (21 : Fin 192), wf (by decide +kernel), by decide +kernel⟩,
   ⟨awake, (21 : Fin 192), by decide +kernel⟩⟩

theorem test_witness_TheCycleStartsSamplesAndComputes :
  (∃ (s : State), regsWf s ∧ s.pwr.coreUp = true ∧ s.en .sys = true ∧ s.running = false) ∧
  (∃ (s : State), s.pwr.coreUp = true ∧ (s.en .sys = false ∨ s.running = true)) ∧
  (∃ (s : State), regsWf s ∧ s.pwr.coreUp = true ∧ s.running = true ∧ s.cyc.suspended = false ∧ s.cyc.sampled = false) ∧
  (∃ (s : State), s.pwr.coreUp = true ∧ (s.running = false ∨ s.cyc.suspended = true ∨ s.cyc.sampled = true)) ∧
  (∃ (s : State), regsWf s ∧ s.pwr.coreUp = true ∧ s.running = true ∧ s.cyc.suspended = false ∧ s.cyc.sampled = true ∧ s.cyc.computed = false ∧ s.en .form = false ∧ s.en .cell = false ∧ s.en .safe = false ∧ s.en .out = false ∧ s.en .law = false ∧ s.en .cal = false ∧ s.poison = [] ∧ s.sgrActive = false ∧ s.get SAFE_FSTAT_SOD = 0) ∧
  (∃ (s : State), regsWf s ∧ s.pwr.coreUp = true ∧ s.running = true ∧ s.cyc.suspended = false ∧ s.cyc.sampled = true ∧ s.cyc.computed = false ∧ s.en .form = true ∧ s.form.req = none ∧ s.pstate = READY ∧ s.en .cell = false ∧ s.en .safe = false ∧ s.en .out = false ∧ s.en .law = false ∧ s.en .cal = false ∧ s.poison = [] ∧ s.sgrActive = false ∧ s.get SAFE_FSTAT_SOD = 0) ∧
  (∃ (s : State), s.pwr.coreUp = true ∧ (s.running = false ∨ s.cyc.suspended = true ∨ s.cyc.sampled = false ∨ s.cyc.computed = true)) ∧
  (∃ (s : State), regsWf s ∧ s.pwr.coreUp = true ∧ s.running = true ∧ s.cyc.suspended = false ∧ s.cyc.computed = true ∧ s.cyc.modulated = false ∧ s.sgrActive = false ∧ (s.en .mod = false ∨ s.inRun = false)) ∧
  (∃ (s : State), regsWf s ∧ s.pwr.coreUp = true ∧ s.running = true ∧ s.cyc.suspended = false ∧ s.cyc.computed = true ∧ s.cyc.modulated = false ∧ s.sgrActive = true ∧ s.out.buses.length = 12) ∧
  (∃ (s : State), regsWf s ∧ s.pwr.coreUp = true ∧ s.running = true ∧ s.cyc.suspended = false ∧ s.cyc.computed = true ∧ s.cyc.modulated = false ∧ s.sgrActive = false ∧ s.en .mod = true ∧ s.inRun = true ∧ s.precharging = false) ∧
  (∃ (s : State), regsWf s ∧ s.pwr.coreUp = true ∧ s.running = true ∧ s.cyc.suspended = false ∧ s.cyc.computed = true ∧ s.cyc.modulated = false ∧ s.sgrActive = false ∧ s.hive.frames = [] ∧ s.en .mod = true ∧ s.inRun = true ∧ s.precharging = true ∧ s.form.entered = true) ∧
  (∃ (s : State), s.pwr.coreUp = true ∧ (s.running = false ∨ s.cyc.suspended = true ∨ s.cyc.computed = false ∨ s.cyc.modulated = true)) :=
  ⟨⟨(W [(0x000000, 0x1)]), wf (by decide +kernel), by decide +kernel⟩,
   ⟨awake, by decide +kernel⟩,
   ⟨(W [(0x000114, 0x1)]), wf (by decide +kernel), by decide +kernel⟩,
   ⟨awake, by decide +kernel⟩,
   ⟨({ W [(0x000114, 0x1)] with cyc := { awake.cyc with sampled := true } } : State), wf (by decide +kernel), by decide +kernel⟩,
   ⟨({ W [(0x000114, 0x1), (0x000200, 0x4), (0x080000, 0x1)] with cyc := { awake.cyc with sampled := true } } : State), wf (by decide +kernel), by decide +kernel⟩,
   ⟨awake, by decide +kernel⟩,
   ⟨({ W [(0x000114, 0x1)] with cyc := { awake.cyc with computed := true } } : State), wf (by decide +kernel), by decide +kernel⟩,
   ⟨({ W [(0x000114, 0x1), (0x131110, 0x1)] with cyc := { awake.cyc with computed := true } } : State), wf (by decide +kernel), by decide +kernel⟩,
   ⟨({ W [(0x000114, 0x1), (0x000200, 0x5), (0x071000, 0x1)] with cyc := { awake.cyc with computed := true } } : State), wf (by decide +kernel), by decide +kernel⟩,
   ⟨({ W [(0x000114, 0x1), (0x000200, 0x6), (0x071000, 0x1), (0x080304, 0x14)] with form := { awake.form with entered := true }, cyc := { awake.cyc with computed := true } } : State), wf (by decide +kernel), by decide +kernel⟩,
   ⟨awake, by decide +kernel⟩⟩

theorem test_witness_ACycleOpensAtItsBoundary :
  (∃ (s : State), regsWf s ∧ s.pwr.coreUp = true ∧ s.running = true ∧ s.cyc.resync = false) ∧
  (∃ (s : State), s.pwr.coreUp = true ∧ s.running = false) :=
  ⟨⟨(W [(0x000114, 0x1)]), wf (by decide +kernel), by decide +kernel⟩,
   ⟨awake, by decide +kernel⟩⟩

theorem test_witness_SessionCommandsAreSubmittedAndJudged :
  (∃ (s : State) (bus : BitVec 4) (cid : BitVec 16), regsWf s ∧ s.pwr.coreUp = true ∧ s.flag COMB_RSP_BUSY = false ∧ s.en .comb = true ∧ s.follows = false ∧ s.pastCut = false) ∧
  (∃ (s : State) (bus : BitVec 4) (cid : BitVec 16), regsWf s ∧ s.pwr.coreUp = true ∧ s.flag COMB_RSP_BUSY = true) ∧
  (∃ (s : State) (bus : BitVec 4) (cid : BitVec 16), regsWf s ∧ s.pwr.coreUp = true ∧ s.flag COMB_RSP_BUSY = false ∧ (s.en .comb = false ∨ s.follows = true)) ∧
  (∃ (s : State) (bus : BitVec 4) (cid : BitVec 16), regsWf s ∧ s.pwr.coreUp = true ∧ s.flag COMB_RSP_BUSY = false ∧ s.en .comb = true ∧ s.follows = false ∧ s.pastCut = false) ∧
  (∃ (s : State) (bus : BitVec 4) (cid : BitVec 16), regsWf s ∧ s.pwr.coreUp = true ∧ s.flag COMB_RSP_BUSY = true) ∧
  (∃ (s : State) (bus : BitVec 4) (cid : BitVec 16), regsWf s ∧ s.pwr.coreUp = true ∧ s.flag COMB_RSP_BUSY = false ∧ (s.en .comb = false ∨ s.follows = true)) ∧
  (∃ (s : State) (cid : BitVec 16), regsWf s ∧ s.pwr.coreUp = true ∧ s.flag COMB_RSP_BUSY = false ∧ s.en .comb = true ∧ s.follows = false ∧ s.pastCut = false) ∧
  (∃ (s : State) (cid : BitVec 16), regsWf s ∧ s.pwr.coreUp = true ∧ s.flag COMB_RSP_BUSY = true) ∧
  (∃ (s : State) (cid : BitVec 16), regsWf s ∧ s.pwr.coreUp = true ∧ s.flag COMB_RSP_BUSY = false ∧ (s.en .comb = false ∨ s.follows = true)) ∧
  (∃ (s : State), regsWf s ∧ s.pwr.coreUp = true ∧ s.flag COMB_RSP_BUSY = false ∧ s.en .comb = true ∧ s.follows = false ∧ s.pastCut = false) ∧
  (∃ (s : State), regsWf s ∧ s.pwr.coreUp = true ∧ s.flag COMB_RSP_BUSY = true) ∧
  (∃ (s : State), regsWf s ∧ s.pwr.coreUp = true ∧ s.flag COMB_RSP_BUSY = false ∧ (s.en .comb = false ∨ s.follows = true)) ∧
  (∃ (s : State), regsWf s ∧ s.pwr.coreUp = true ∧ s.flag COMB_RSP_BUSY = false ∧ s.en .comb = true ∧ s.follows = false ∧ s.pastCut = false) ∧
  (∃ (s : State), regsWf s ∧ s.pwr.coreUp = true ∧ s.flag COMB_RSP_BUSY = true) ∧
  (∃ (s : State), regsWf s ∧ s.pwr.coreUp = true ∧ s.flag COMB_RSP_BUSY = false ∧ (s.en .comb = false ∨ s.follows = true)) ∧
  (∃ (s : State) (at' : Nat) (i : Nat) (sid : Nat) (hdl : Nat) (b : Nat) (c : Nat), regsWf s ∧ sid < 2 ^ 64 ∧ s.comb.cmd = some ⟨1, b, c, sid, hdl, false⟩ ∧ i ∈ combSlots ∧ s.combPick = some i ∧ (combSlots.any (fun k => s.cst k != C_FREE && s.csid k == sid)) = false ∧ s.sessionBus b = true ∧ (combSlots.any (fun k => s.cst k == C_RESERVED && s.cbus k == b)) = false ∧ c < 65536) ∧
  (∃ (s : State) (at' : Nat) (i : Nat) (sid : Nat) (hdl : Nat) (b : Nat) (c : Nat), regsWf s ∧ sid < 2 ^ 64 ∧ s.comb.cmd = some ⟨1, b, c, sid, hdl, false⟩ ∧ i ∈ combSlots ∧ s.cst i = C_ACTIVE ∧ s.csid i = sid ∧ (combSlots.any (fun k => s.cst k == C_RESERVED && s.csid k == sid)) = false) ∧
  (∃ (s : State) (at' : Nat) (i : Nat) (sid : Nat) (hdl : Nat) (b : Nat) (c : Nat), regsWf s ∧ sid < 2 ^ 64 ∧ s.comb.cmd = some ⟨2, b, c, sid, hdl, false⟩ ∧ i ∈ combSlots ∧ s.cst i = C_RESERVED ∧ s.csid i = sid ∧ s.cbus i = b ∧ s.sessionBus b = true ∧ ∀ k ∈ combSlots, k ≠ i → s.csid k ≠ sid ∧ (combSlots.any (fun k => s.cst k == C_ACTIVE && s.cbus k == b)) = false ∧ c < 65536) ∧
  (∃ (s : State) (at' : Nat) (i : Nat) (sid : Nat) (hdl : Nat) (b : Nat) (c : Nat), regsWf s ∧ sid < 2 ^ 64 ∧ s.comb.cmd = some ⟨3, b, c, sid, hdl, false⟩ ∧ i ∈ combSlots ∧ s.cst i = C_ACTIVE ∧ s.csid i = sid ∧ ∀ k ∈ combSlots, k ≠ i → s.csid k ≠ sid ∧ c < 65536) ∧
  (∃ (s : State) (at' : Nat) (i : Nat) (sid : Nat) (hdl : Nat) (b : Nat) (c : Nat), regsWf s ∧ sid < 2 ^ 64 ∧ s.comb.cmd = some ⟨4, b, c, sid, hdl, false⟩ ∧ i ∈ combSlots ∧ s.cst i = C_RESERVED ∧ s.csid i = sid ∧ ∀ k ∈ combSlots, k ≠ i → s.csid k ≠ sid) ∧
  (∃ (s : State) (at' : Nat) (i : Nat) (sid : Nat) (hdl : Nat) (b : Nat) (c : Nat), regsWf s ∧ sid < 2 ^ 64 ∧ s.comb.cmd = some ⟨5, b, c, sid, hdl, false⟩ ∧ i ∈ combSlots ∧ s.cst i = C_CLOSED ∧ s.csid i = sid ∧ s.chdl i = hdl ∧ ∀ k ∈ combSlots, k ≠ i → s.csid k ≠ sid) ∧
  (∃ (s : State) (at' : Nat) (b : Nat) (c : Nat) (op : Nat) (sid : Nat) (hdl : Nat), regsWf s ∧ s.comb.cmd = some ⟨op, b, c, sid, hdl, true⟩) :=
  ⟨⟨(W [(0x1A0000, 0x1)]), (3#4 : BitVec 4), (77#16 : BitVec 16), wf (by decide +kernel), by decide +kernel⟩,
   ⟨(W [(0x1A0028, 0x1)]), (3#4 : BitVec 4), (77#16 : BitVec 16), wf (by decide +kernel), by decide +kernel⟩,
   ⟨awake, (3#4 : BitVec 4), (77#16 : BitVec 16), rfl, by decide +kernel⟩,
   ⟨(W [(0x1A0000, 0x1)]), (3#4 : BitVec 4), (77#16 : BitVec 16), wf (by decide +kernel), by decide +kernel⟩,
   ⟨(W [(0x1A0028, 0x1)]), (3#4 : BitVec 4), (77#16 : BitVec 16), wf (by decide +kernel), by decide +kernel⟩,
   ⟨awake, (3#4 : BitVec 4), (77#16 : BitVec 16), rfl, by decide +kernel⟩,
   ⟨(W [(0x1A0000, 0x1)]), (77#16 : BitVec 16), wf (by decide +kernel), by decide +kernel⟩,
   ⟨(W [(0x1A0028, 0x1)]), (77#16 : BitVec 16), wf (by decide +kernel), by decide +kernel⟩,
   ⟨awake, (77#16 : BitVec 16), rfl, by decide +kernel⟩,
   ⟨(W [(0x1A0000, 0x1)]), wf (by decide +kernel), by decide +kernel⟩,
   ⟨(W [(0x1A0028, 0x1)]), wf (by decide +kernel), by decide +kernel⟩,
   ⟨awake, rfl, by decide +kernel⟩,
   ⟨(W [(0x1A0000, 0x1)]), wf (by decide +kernel), by decide +kernel⟩,
   ⟨(W [(0x1A0028, 0x1)]), wf (by decide +kernel), by decide +kernel⟩,
   ⟨awake, rfl, by decide +kernel⟩,
   ⟨({ W [(0x0A0300, 0x1004011), (0x0A1000, 0x1), (0x0B0300, 0x1), (0x0B1000, 0x1)] with comb := { awake.comb with cmd := some { op := 1, bus := 3, cid := 77, sid := 78187493520, hdl := 12, late := false } } } : State), (777000 : Nat), (let s : State := ({ W [(0x0A0300, 0x1004011), (0x0A1000, 0x1), (0x0B0300, 0x1), (0x0B1000, 0x1)] with comb := { awake.comb with cmd := some { op := 1, bus := 3, cid := 77, sid := 78187493520, hdl := 12, late := false } } } : State); ((s.combPick).getD 0 : Nat)), (0x1234567890 : Nat), (12 : Nat), (3 : Nat), (77 : Nat), wf (by decide +kernel), by decide +kernel⟩,
   ⟨({ W [(0x1A09C0, 0x2), (0x1A09C4, 0x34567890), (0x1A09C8, 0x12)] with comb := { awake.comb with cmd := some { op := 1, bus := 3, cid := 77, sid := 78187493520, hdl := 12, late := false } } } : State), (777000 : Nat), (9 : Nat), (0x1234567890 : Nat), (12 : Nat), (3 : Nat), (77 : Nat), wf (by decide +kernel), by decide +kernel⟩,
   ⟨({ W [(0x0A0300, 0x1004011), (0x0A1000, 0x1), (0x0B0300, 0x1), (0x0B1000, 0x1), (0x1A09C0, 0x31), (0x1A09C4, 0x34567890), (0x1A09C8, 0x12)] with comb := { awake.comb with cmd := some { op := 2, bus := 3, cid := 77, sid := 78187493520, hdl := 12, late := false } } } : State), (777000 : Nat), (9 : Nat), (0x1234567890 : Nat), (12 : Nat), (3 : Nat), (77 : Nat), wf (by decide +kernel), by decide +kernel⟩,
   ⟨({ W [(0x1A09C0, 0x2), (0x1A09C4, 0x34567890), (0x1A09C8, 0x12)] with comb := { awake.comb with cmd := some { op := 3, bus := 0, cid := 77, sid := 78187493520, hdl := 12, late := false } } } : State), (777000 : Nat), (9 : Nat), (0x1234567890 : Nat), (12 : Nat), (0 : Nat), (77 : Nat), wf (by decide +kernel), by decide +kernel⟩,
   ⟨({ W [(0x1A09C0, 0x1), (0x1A09C4, 0x34567890), (0x1A09C8, 0x12)] with comb := { awake.comb with cmd := some { op := 4, bus := 0, cid := 0, sid := 78187493520, hdl := 12, late := false } } } : State), (777000 : Nat), (9 : Nat), (0x1234567890 : Nat), (12 : Nat), (0 : Nat), (0 : Nat), wf (by decide +kernel), by decide +kernel⟩,
   ⟨({ W [(0x1A09C0, 0x4), (0x1A09C4, 0x34567890), (0x1A09C8, 0x12), (0x1A09FC, 0xC)] with comb := { awake.comb with cmd := some { op := 5, bus := 0, cid := 0, sid := 78187493520, hdl := 12, late := false } } } : State), (777000 : Nat), (9 : Nat), (0x1234567890 : Nat), (12 : Nat), (0 : Nat), (0 : Nat), wf (by decide +kernel), by decide +kernel⟩,
   ⟨({ awake with comb := { awake.comb with cmd := some { op := 1, bus := 3, cid := 77, sid := 78187493520, hdl := 12, late := true } } } : State), (777000 : Nat), (3 : Nat), (77 : Nat), (1 : Nat), (0x1234567890 : Nat), (12 : Nat), rfl, by decide +kernel⟩⟩

theorem test_witness_ClosingRecordsAreSignedFetchedAndCheckpointed :
  (∃ (s : State) (i : Nat) (rest : List Nat), regsWf s ∧ s.pwr.coreUp = true ∧ s.backlog = i :: rest ∧ s.comb.queue.length < 32) ∧
  (∃ (s : State), s.pwr.coreUp = true ∧ (s.backlog = [] ∨ 32 ≤ s.comb.queue.length)) ∧
  (∃ (s : State) (i : Nat) (q : List Nat), regsWf s ∧ s.pwr.coreUp = true ∧ s.comb.queue = i :: q ∧ s.en .comb = true ∧ s.follows = false ∧ i ∈ combSlots ∧ s.pwr.mramBad = []) ∧
  (∃ (s : State), s.pwr.coreUp = true ∧ (s.comb.queue = [] ∨ s.en .comb = false ∨ s.follows = true)) ∧
  (∃ (s : State) (h : BitVec 32), regsWf s ∧ s.pwr.coreUp = true ∧ s.en .comb = true) ∧
  (∃ (s : State) (h : BitVec 32), regsWf s ∧ s.pwr.coreUp = true ∧ s.en .comb = false) ∧
  (∃ (s : State) (h : Nat) (i : Nat), regsWf s ∧ s.pwr.coreUp = true ∧ s.comb.fetch = some h ∧ combSlots.find? (fun k => (s.cst k == C_SIGNING || s.cst k == C_CLOSED) && s.chdl k == h) = some i ∧ (s.combSt i).sig ≠ [] ∧ memWf s) ∧
  (∃ (s : State) (h : Nat) (i : Nat), regsWf s ∧ s.pwr.coreUp = true ∧ s.comb.fetch = some h ∧ combSlots.find? (fun k => (s.cst k == C_SIGNING || s.cst k == C_CLOSED) && s.chdl k == h) = some i ∧ (s.combSt i).sig = []) ∧
  (∃ (s : State), s.pwr.coreUp = true ∧ s.comb.fetch = none) ∧
  (∃ (s : State), regsWf s ∧ s.pwr.coreUp = true ∧ s.en .metr = true ∧ s.comb.restored = true ∧ s.pwr.mramBad = []) ∧
  (∃ (s : State), regsWf s ∧ s.pwr.coreUp = true ∧ s.en .metr = true ∧ s.comb.restored = true ∧ s.copyBad 0x60000 = true ∧ s.copyBad 0x64000 = true) ∧
  (∃ (s : State), s.pwr.coreUp = true ∧ (s.en .metr = false ∨ s.comb.restored = false)) :=
  ⟨⟨({ W [(0x1A09C0, 0x3)] with comb := { awake.comb with slots := (awake.comb.slots).set 9 ({ tomb := false, freed := 0, frac := 0, cur := false, inval := 0, sync := 0, record := [0x01#8], sig := [], tries := 0 }) } } : State), (let s : State := ({ W [(0x1A09C0, 0x3)] with comb := { awake.comb with slots := (awake.comb.slots).set 9 ({ tomb := false, freed := 0, frac := 0, cur := false, inval := 0, sync := 0, record := [0x01#8], sig := [], tries := 0 }) } } : State); ((s.backlog).headD 0 : Nat)), (let s : State := ({ W [(0x1A09C0, 0x3)] with comb := { awake.comb with slots := (awake.comb.slots).set 9 ({ tomb := false, freed := 0, frac := 0, cur := false, inval := 0, sync := 0, record := [0x01#8], sig := [], tries := 0 }) } } : State); ((s.backlog).tail : List Nat)), wf (by decide +kernel), by decide +kernel⟩,
   ⟨awake, by decide +kernel⟩,
   ⟨({ W [(0x1A0000, 0x1)] with comb := { awake.comb with queue := [9] } } : State), (9 : Nat), ([] : List Nat), wf (by decide +kernel), by decide +kernel⟩,
   ⟨awake, by decide +kernel⟩,
   ⟨(W [(0x1A0000, 0x1)]), (12#32 : BitVec 32), wf (by decide +kernel), by decide +kernel⟩,
   ⟨awake, (12#32 : BitVec 32), rfl, by decide +kernel⟩,
   ⟨({ W [(0x1A09C0, 0x4), (0x1A09FC, 0xC)] with comb := { awake.comb with slots := (awake.comb.slots).set 9 ({ tomb := false, freed := 0, frac := 0, cur := false, inval := 0, sync := 0, record := [0x01#8, 0x01#8, 0x01#8, 0x01#8, 0x01#8, 0x01#8, 0x01#8, 0x01#8], sig := [0x07#8], tries := 0 }), fetch := some 12 } } : State), (12 : Nat), (9 : Nat), wf (by decide +kernel), by decide +kernel⟩,
   ⟨({ W [(0x1A09C0, 0x3), (0x1A09FC, 0xC)] with comb := { awake.comb with fetch := some 12 } } : State), (12 : Nat), (let s : State := ({ W [(0x1A09C0, 0x3), (0x1A09FC, 0xC)] with comb := { awake.comb with fetch := some 12 } } : State); ((combSlots.find? (fun k => (s.cst k == C_SIGNING || s.cst k == C_CLOSED) && s.chdl k == 12)).getD 0 : Nat)), wf (by decide +kernel), by decide +kernel⟩,
   ⟨awake, by decide +kernel⟩,
   ⟨({ W [(0x0B1000, 0x1)] with comb := { awake.comb with restored := true } } : State), wf (by decide +kernel), by decide +kernel⟩,
   ⟨({ W [(0x0B1000, 0x1)] with pwr := { awake.pwr with mramBad := [208896, 209408] }, comb := { awake.comb with restored := true } } : State), wf (by decide +kernel), by decide +kernel⟩,
   ⟨awake, by decide +kernel⟩⟩

theorem test_witness_TheTimeOffsetOfThePartner : ∃ (s : State) (f : List (BitVec 8)) (at' : Nat) (d : Int), regsWf s ∧ s.pwr.coreUp = true ∧ s.en .part = true ∧ f.length = 16 ∧ (crc16 (f.take 14)).toNat = leAt f 14 2 ∧ d = (at' : Int) - leAt f 4 8 - 36 - s.get PART_LINK_LINK_DLY ∧ -(2 ^ 31) ≤ d ∧ d < 2 ^ 31 :=
  ⟨(W [(0x160000, 0x1)]), (withCrc ([0#8, 4#8, 1#8, 0#8] ++ leBytes 8 1000000 ++ [0#8, 0#8]) : List (BitVec 8)), (1000100 : Nat), (let s : State := (W [(0x160000, 0x1)]); (((1000100 : Int) - 1000000 - 36 - (s.get PART_LINK_LINK_DLY)) : Int)), wf (by decide +kernel), by decide +kernel⟩

theorem test_witness_ConvertersAndFiltersMeasure :
  (∃ (s : State) (a : Fin 2), regsWf s ∧ s.pwr.coreUp = true ∧ s.en .adc = true) ∧
  (∃ (s : State) (a : Fin 2), s.pwr.coreUp = true ∧ s.en .adc = false) ∧
  (∃ (s : State) (a : Fin 2) (code : BitVec 16) (at' : Nat), regsWf s ∧ s.pwr.coreUp = true ∧ s.fieldUp = true ∧ s.en .adc = true ∧ (s.get ADC_SEQ_CH a.val (s.get ADC_SEQ_STAT_ENTRY a.val)) ≠ 23 ∧ (s.sarSt a.val).conv + 1 < s.get ADC_SEQ_REPEAT a.val (s.get ADC_SEQ_STAT_ENTRY a.val) ∧ (s.get ADC_SEQ_CH a.val (s.get ADC_SEQ_STAT_ENTRY a.val)) < 24 ∧ s.sarLayer1 a.val code.toNat < 64226 * 2 ^ 39 - 2 ^ 38 ∧ -(2 ^ 38) ≤ s.sarLayer1 a.val code.toNat) ∧
  (∃ (s : State) (a : Fin 2) (code : BitVec 16) (at' : Nat), s.pwr.coreUp = true ∧ s.fieldUp = true ∧ s.en .adc = false) ∧
  (∃ (s : State) (a : Fin 2), regsWf s ∧ s.pwr.coreUp = true ∧ s.fieldUp = true ∧ s.refFault a.val = false) ∧
  (∃ (s : State) (a : Fin 2), s.pwr.coreUp = true ∧ s.fieldUp = true ∧ s.refFault a.val = true) ∧
  (∃ (s : State) (a : Fin 2), regsWf s ∧ s.pwr.coreUp = true ∧ s.fieldUp = true) ∧
  (∃ (s : State) (n : Fin 36) (x : BitVec 32) (at' : Nat) (y : Sample), regsWf s ∧ s.pwr.coreUp = true ∧ s.dsmOn n.val = true ∧ 24 ≤ n.val ∧ y = ⟨(at' : Int) - s.get FIL_GD_GD n.val, s.layer1 (s.get FIL_DCFG_PRESET n.val) x.toInt, !s.dsmBad n.val && !(s.dsmSt n.val).settleFine⟩) ∧
  (∃ (s : State) (n : Fin 36) (x : BitVec 32) (at' : Nat), regsWf s ∧ s.pwr.coreUp = true ∧ s.dsmOn n.val = true ∧ (decide (n.val < 24) && s.metered (n.val / 2)) = false ∧ s.flag FIL_DSTAT_OVR n.val = false ∧ (s.layer1 2 x.toInt).natAbs < s.get FIL_CFG_OVR_LIM * 2 ^ 23) ∧
  (∃ (s : State) (n : Fin 36) (fine : Bool) (x : BitVec 32) (at' : Nat), s.pwr.coreUp = true ∧ s.dsmOn n.val = false) ∧
  (∃ (s : State) (n : Fin 36), regsWf s ∧ s.pwr.coreUp = true ∧ s.flag FIL_DCFG_EN n.val = true ∧ s.flag FIL_CLK_EN (n.val / 6) = true ∧ s.flag FIL_DSTAT_STUCK n.val = false ∧ (decide (n.val < 24) && s.metered (n.val / 2)) = false) ∧
  (∃ (s : State) (n : Fin 36), regsWf s ∧ s.pwr.coreUp = true ∧ s.flag FIL_DCFG_EN n.val = true ∧ s.flag FIL_CLK_EN (n.val / 6) = true ∧ s.flag FIL_DSTAT_STUCK n.val = false ∧ n.val < 24 ∧ s.metered (n.val / 2) = true ∧ s.flag METR_MSTAT_INVALID (n.val / 2) = false ∧ s.flag METR_CFG_INV_SOD = false) ∧
  (∃ (s : State) (n : Fin 36), s.pwr.coreUp = true ∧ (s.flag FIL_DCFG_EN n.val = false ∨ s.flag FIL_CLK_EN (n.val / 6) = false ∨ s.flag FIL_DSTAT_STUCK n.val = true) ∧ (decide (n.val < 24) && s.metered (n.val / 2)) = false) ∧
  (∃ (s : State) (n : Fin 36), regsWf s ∧ s.pwr.coreUp = true ∧ s.flag FIL_DSTAT_STUCK n.val = true ∧ (decide (n.val < 24) && s.metered (n.val / 2)) = false) ∧
  (∃ (s : State) (n : Fin 36), s.pwr.coreUp = true ∧ s.flag FIL_DSTAT_STUCK n.val = false ∧ (decide (n.val < 24) && s.metered (n.val / 2)) = false) ∧
  (∃ (s : State) (n : Fin 36) (fine : Bool), regsWf s ∧ s.pwr.coreUp = true ∧ s.dsmBad n.val = false ∧ (decide (n.val < 24) && s.metered (n.val / 2)) = false) ∧
  (∃ (s : State) (n : Fin 36) (fine : Bool), s.pwr.coreUp = true ∧ s.dsmBad n.val = true ∧ (decide (n.val < 24) && s.metered (n.val / 2)) = false) :=
  ⟨⟨(W [(0x0D3000, 0x1)]), (1 : Fin 2), wf (by decide +kernel), by decide +kernel⟩,
   ⟨awake, (1 : Fin 2), by decide +kernel⟩,
   by
    have hb : regsWf (W [(0x0D2104, 0x3), (0x0D214C, 0x407), (0x0D3000, 0x1)]) := wf (by decide +kernel)
    have he : (zeroFuses (W [(0x0D2104, 0x3), (0x0D214C, 0x407), (0x0D3000, 0x1)])).get ADC_SEQ_STAT_ENTRY 1 = 3 := by rw [zeroFuses_get hb _ _ _ (by decide) (by decide)]; decide +kernel
    have hc : (zeroFuses (W [(0x0D2104, 0x3), (0x0D214C, 0x407), (0x0D3000, 0x1)])).get ADC_SEQ_CH 1 3 = 7 := by rw [zeroFuses_get hb _ _ _ (by decide) (by decide)]; decide +kernel
    have hr : (zeroFuses (W [(0x0D2104, 0x3), (0x0D214C, 0x407), (0x0D3000, 0x1)])).get ADC_SEQ_REPEAT 1 3 = 4 := by rw [zeroFuses_get hb _ _ _ (by decide) (by decide)]; decide +kernel
    have hen : (zeroFuses (W [(0x0D2104, 0x3), (0x0D214C, 0x407), (0x0D3000, 0x1)])).en .adc = true := by
      have h0 : (zeroFuses (W [(0x0D2104, 0x3), (0x0D214C, 0x407), (0x0D3000, 0x1)])).get (CTRL_EN .adc) = 1 := by rw [zeroFuses_get hb _ _ _ (by decide) (by decide)]; decide +kernel
      unfold State.en State.flag
      rw [h0]
      rfl
    refine ⟨zeroFuses (W [(0x0D2104, 0x3), (0x0D214C, 0x407), (0x0D3000, 0x1)]), 1, 0x1234#16, 77, zeroFuses_wf hb, rfl, rfl, hen, ?_, ?_, ?_, ?_, ?_⟩
    · show (zeroFuses (W [(0x0D2104, 0x3), (0x0D214C, 0x407), (0x0D3000, 0x1)])).get ADC_SEQ_CH 1 ((zeroFuses (W [(0x0D2104, 0x3), (0x0D214C, 0x407), (0x0D3000, 0x1)])).get ADC_SEQ_STAT_ENTRY 1) ≠ 23
      rw [he, hc]; decide
    · show _ < (zeroFuses (W [(0x0D2104, 0x3), (0x0D214C, 0x407), (0x0D3000, 0x1)])).get ADC_SEQ_REPEAT 1 ((zeroFuses (W [(0x0D2104, 0x3), (0x0D214C, 0x407), (0x0D3000, 0x1)])).get ADC_SEQ_STAT_ENTRY 1)
      rw [he, hr]; decide
    · show (zeroFuses (W [(0x0D2104, 0x3), (0x0D214C, 0x407), (0x0D3000, 0x1)])).get ADC_SEQ_CH 1 ((zeroFuses (W [(0x0D2104, 0x3), (0x0D214C, 0x407), (0x0D3000, 0x1)])).get ADC_SEQ_STAT_ENTRY 1) < 24
      rw [he, hc]; decide
    · rw [show ((1 : Fin 2) : Nat) = 1 from rfl, zeroFuses_sar hb]; decide
    · rw [show ((1 : Fin 2) : Nat) = 1 from rfl, zeroFuses_sar hb]; decide,
   ⟨awake, (1 : Fin 2), (0#16 : BitVec 16), (77 : Nat), by decide +kernel⟩,
   ⟨awake, (1 : Fin 2), rfl, by decide +kernel⟩,
   ⟨(W [(0x0D3004, 0x40000)]), (1 : Fin 2), by decide +kernel⟩,
   ⟨awake, (1 : Fin 2), rfl, by decide +kernel⟩,
   ⟨(W [(0x0E1E00, 0x5), (0x0E4000, 0x1)]), (30 : Fin 36), (0x12345#32 : BitVec 32), (1000000 : Nat), (let s : State := (W [(0x0E1E00, 0x5), (0x0E4000, 0x1)]); ⟨(1000000 : Int) - s.get FIL_GD_GD 30, s.layer1 (s.get FIL_DCFG_PRESET 30) (BitVec.toInt 0x12345#32), !s.dsmBad 30 && !(s.dsmSt 30).settleFine⟩), wf (by decide +kernel), by decide +kernel, by decide +kernel, by decide +kernel, rfl⟩,
   ⟨(W [(0x0E0500, 0x3), (0x0E4000, 0x1)]), (5 : Fin 36), 0#32, (1000000 : Nat), wf (by decide +kernel), by decide +kernel, by decide +kernel, by decide +kernel, by decide +kernel, layer1_zero_lt (by decide +kernel)⟩,
   ⟨awake, (5 : Fin 36), (true : Bool), (0#32 : BitVec 32), (0 : Nat), by decide +kernel⟩,
   ⟨(W [(0x0E0500, 0x3), (0x0E3000, 0x3D)]), (5 : Fin 36), wf (by decide +kernel), by decide +kernel⟩,
   ⟨(W [(0x0B0200, 0x1), (0x0B1000, 0x1), (0x0B1100, 0x3E8), (0x0E0500, 0x3), (0x0E3000, 0x3D)]), (5 : Fin 36), wf (by decide +kernel), by decide +kernel⟩,
   ⟨awake, (5 : Fin 36), by decide +kernel⟩,
   ⟨(W [(0x0E0504, 0x2)]), (5 : Fin 36), wf (by decide +kernel), by decide +kernel⟩,
   ⟨awake, (5 : Fin 36), by decide +kernel⟩,
   ⟨awake, (5 : Fin 36), (true : Bool), rfl, by decide +kernel⟩,
   ⟨(W [(0x0E0504, 0x4)]), (5 : Fin 36), (true : Bool), by decide +kernel⟩⟩

theorem test_witness_UserCalibrationAndTheEstimator :
  (∃ (s : State), regsWf s ∧ s.pwr.coreUp = true ∧ s.get SEAL_SW_STATE = 1 ∧ checkStaged s = none ∧ (buses.any (fun b => s.en .metr && s.flag METR_MCFG_EN b && (s.staged (2 * b) || s.staged (2 * b + 1)))) = false ∧ s.inRun = false ∧ (s.logAppend 10 0 0x0C5210 (s.word 0x0C5210).toNat 2 []).1 = true) ∧
  (∃ (s : State), regsWf s ∧ s.pwr.coreUp = true ∧ s.get SEAL_SW_STATE = 1 ∧ checkStaged s = none ∧ (buses.any (fun b => s.en .metr && s.flag METR_MCFG_EN b && (s.staged (2 * b) || s.staged (2 * b + 1)))) = false ∧ s.inRun = true ∧ s.pastCut = false ∧ (s.logAppend 10 0 0x0C5210 (s.word 0x0C5210).toNat 2 []).1 = true) ∧
  (∃ (s : State), regsWf s ∧ s.pwr.coreUp = true ∧ s.get SEAL_SW_STATE ≠ 1) ∧
  (∃ (s : State) (r : Nat × Nat × Nat), regsWf s ∧ s.pwr.coreUp = true ∧ s.get SEAL_SW_STATE = 1 ∧ checkStaged s = some r ∧ r.1 < 256) ∧
  (∃ (s : State), regsWf s ∧ s.pwr.coreUp = true ∧ s.get SEAL_SW_STATE = 1 ∧ checkStaged s = none ∧ (buses.any (fun b => s.en .metr && s.flag METR_MCFG_EN b && (s.staged (2 * b) || s.staged (2 * b + 1)))) = true) ∧
  (∃ (s : State) (stamp : Nat) (i : Fin 192) (j : Nat) (v : Int) (rest : List CalSnap), regsWf s ∧ s.pwr.coreUp = true ∧ s.cal.snaps = ⟨stamp, [(i.val, j, v, true)], []⟩ :: rest ∧ s.en .cal = true ∧ s.pastCut = false ∧ j < s.phases ∧ s.dsmOn (ICONV + j) = false) ∧
  (∃ (s : State) (stamp : Nat) (i : Fin 192) (j : Nat) (v : Int) (rest : List CalSnap) (q : Int), regsWf s ∧ s.pwr.coreUp = true ∧ s.cal.snaps = ⟨stamp, [(i.val, j, v, true)], []⟩ :: rest ∧ s.en .cal = true ∧ s.pastCut = false ∧ j < s.phases ∧ s.calArrived stamp (ICONV + j) = true ∧ s.calRef (ICONV + j) stamp = some q ∧ s.flag CAL_EST_EN_IAC = true) ∧
  (∃ (s : State), s.pwr.coreUp = true ∧ (s.cal.snaps = [] ∨ s.en .cal = false)) ∧
  (∃ (s : State) (c : CalSnap) (rest : List CalSnap), s.pwr.coreUp = true ∧ s.cal.snaps = c :: rest ∧ (s.calChannels c).any (fun n => s.dsmOn n && decide ((s.dsmSt n).fine = [])) = true) :=
  ⟨⟨(W [(0x190100, 0x1FFFF)]), wf (by decide +kernel), by decide +kernel, by decide +kernel, by decide +kernel, by decide +kernel, by decide +kernel, State.logAppend_good rfl _ _ _ _ _ _⟩,
   ⟨(W [(0x000200, 0x5), (0x190100, 0x1FFFF)]), wf (by decide +kernel), by decide +kernel, by decide +kernel, by decide +kernel, by decide +kernel, by decide +kernel, by decide +kernel, State.logAppend_good rfl _ _ _ _ _ _⟩,
   ⟨awake, rfl, by decide +kernel⟩,
   ⟨(W [(0x0C0000, 0x0), (0x190100, 0x1FFFF)]), (let s : State := (W [(0x0C0000, 0x0), (0x190100, 0x1FFFF)]); ((checkStaged s).getD (0, 0, 0) : Nat × Nat × Nat)), wf (by decide +kernel), by decide +kernel⟩,
   ⟨(W [(0x0B0300, 0x1), (0x0B1000, 0x1), (0x0C0600, 0x0), (0x0C0604, 0x3E8), (0x0C0700, 0x1), (0x0C0704, 0x3E8), (0x190100, 0x1FFFF)]), wf (by decide +kernel), by decide +kernel⟩,
   ⟨({ W [(0x0C5000, 0x1)] with cal := { awake.cal with snaps := [{ stamp := 500, iac := [(7, 0, 1000, true)], bus := [] }] } } : State), (500 : Nat), (7 : Fin 192), (0 : Nat), (1000 : Int), ([] : List CalSnap), wf (by decide +kernel), by decide +kernel⟩,
   ⟨({ W [(0x0C5000, 0x1), (0x0E1E00, 0x3), (0x0E4000, 0x1)] with cal := { awake.cal with snaps := [{ stamp := 500, iac := [(7, 0, 536870, true)], bus := [] }] }, meas := { awake.meas with dsm := (awake.meas.dsm).set 30 (⟨[{ stamp := 400, x := 1000000, ok := true }, { stamp := 600, x := 1500000, ok := true }], [], 0, false, false⟩) } } : State), (500 : Nat), (7 : Fin 192), (0 : Nat), (536870 : Int), ([] : List CalSnap), (let s : State := ({ W [(0x0C5000, 0x1), (0x0E1E00, 0x3), (0x0E4000, 0x1)] with cal := { awake.cal with snaps := [{ stamp := 500, iac := [(7, 0, 536870, true)], bus := [] }] }, meas := { awake.meas with dsm := (awake.meas.dsm).set 30 (⟨[{ stamp := 400, x := 1000000, ok := true }, { stamp := 600, x := 1500000, ok := true }], [], 0, false, false⟩) } } : State); ((s.calRef 30 500).getD 0 : Int)), wf (by decide +kernel), by decide +kernel⟩,
   ⟨awake, by decide +kernel⟩,
   ⟨({ W [(0x0E1E00, 0x3), (0x0E4000, 0x1)] with cal := { awake.cal with snaps := [{ stamp := 500, iac := [(7, 0, 1000, true)], bus := [] }] } } : State), (⟨500, [(7, 0, 1000, true)], []⟩ : CalSnap), ([] : List CalSnap), by decide +kernel⟩⟩

theorem test_witness_TheCaptureIsArmedRunsAndEnds :
  (∃ (s : State), regsWf s ∧ s.pwr.coreUp = true ∧ s.en .cap = true ∧ s.capStream = false ∧ (s.capState = CAP_IDLE ∨ (s.capState = CAP_DONE ∧ s.cap.endDue = false))) ∧
  (∃ (s : State), regsWf s ∧ s.pwr.coreUp = true ∧ s.en .cap = true ∧ s.follows = false ∧ s.capStream = true ∧ (s.capState = CAP_IDLE ∨ (s.capState = CAP_DONE ∧ s.cap.endDue = false)) ∧ s.linkTooSlow = false ∧ s.macSends false = true) ∧
  (∃ (s : State), regsWf s ∧ s.pwr.coreUp = true ∧ (s.en .cap = false ∨ (s.follows && s.capStream) = true ∨ (s.capState ≠ CAP_IDLE ∧ (s.capState ≠ CAP_DONE ∨ s.cap.endDue = true)))) ∧
  (∃ (s : State), regsWf s ∧ s.pwr.coreUp = true ∧ s.en .cap = true ∧ s.follows = false ∧ s.capStream = true ∧ s.capState = CAP_IDLE ∧ s.linkTooSlow = true) ∧
  (∃ (s : State), regsWf s ∧ s.pwr.coreUp = true ∧ s.en .cap = true ∧ (s.follows && s.capStream) = false ∧ s.capState = CAP_ARMED) ∧
  (∃ (s : State), regsWf s ∧ s.pwr.coreUp = true ∧ (s.en .cap = false ∨ (s.follows && s.capStream) = true ∨ s.capState ≠ CAP_ARMED)) ∧
  (∃ (s : State), regsWf s ∧ s.pwr.coreUp = true ∧ s.en .cap = true ∧ (s.follows && s.capStream) = false ∧ s.capLive = true ∧ s.cap.pend = []) ∧
  (∃ (s : State), regsWf s ∧ s.pwr.coreUp = true ∧ s.en .cap = true ∧ (s.follows && s.capStream) = false ∧ s.capLive = true ∧ s.cap.pend ≠ [] ∧ s.cap.ending = 0) ∧
  (∃ (s : State), regsWf s ∧ s.pwr.coreUp = true ∧ (s.en .cap = false ∨ (s.follows && s.capStream) = true ∨ s.capLive = false)) ∧
  (∃ (s : State), regsWf s ∧ s.pwr.coreUp = true ∧ s.en .cap = true ∧ s.capLive = true ∧ s.cap.ending = 0) ∧
  (∃ (s : State), s.pwr.coreUp = true ∧ (s.en .cap = false ∨ s.capLive = false ∨ s.cap.ending ≠ 0)) ∧
  (∃ (s : State) (i : Nat) (fire : Bool) (rest : List (Nat × Bool)), regsWf s ∧ s.pwr.coreUp = true ∧ s.cap.pend = (i, fire) :: rest ∧ s.en .cap = true ∧ s.capLive = true ∧ s.capStream = false ∧ s.capState = CAP_ARMED ∧ s.get CAP_CFG_TRIG ≠ 0 ∧ fire = false ∧ s.cap.trig = none ∧ s.cap.ending = 0 ∧ 0 < s.get CAP_CFG_N_SIG ∧ s.get CAP_CFG_N_SIG ≤ 64 ∧ s.get CAP_REGION_LEN * 4096 ≥ 128 + 64 * 4 ∧ (List.range (s.get CAP_CFG_N_SIG)).all (fun k => s.capReady i k) = true ∧ memWf s) ∧
  (∃ (s : State), s.pwr.coreUp = true ∧ s.cap.pend = []) ∧
  (∃ (s : State), regsWf s ∧ s.pwr.coreUp = true ∧ s.en .cap = true ∧ s.capStream = true ∧ s.cap.startDue = true ∧ s.macSends false = true) ∧
  (∃ (s : State), regsWf s ∧ s.pwr.coreUp = true ∧ s.en .cap = true ∧ s.capStream = true ∧ s.cap.startDue = false ∧ s.perPacket ≤ s.cap.stored - s.cap.sent ∧ s.poison = [] ∧ s.macSends false = true) ∧
  (∃ (s : State), s.pwr.coreUp = true ∧ (s.en .cap = false ∨ s.capStream = false ∨ s.macSends false = false)) ∧
  (∃ (s : State), regsWf s ∧ s.pwr.coreUp = true ∧ s.en .cap = true ∧ s.cap.endDue = true ∧ s.cap.startDue = false ∧ s.cap.sent = s.cap.stored ∧ s.macSends false = true) ∧
  (∃ (s : State), s.pwr.coreUp = true ∧ (s.en .cap = false ∨ s.cap.endDue = false ∨ s.cap.startDue = true ∨ s.cap.sent ≠ s.cap.stored)) :=
  ⟨⟨(W [(0x0F0000, 0x1)]), wf (by decide +kernel), by decide +kernel⟩,
   ⟨(W [(0x0F0000, 0x1), (0x0F0200, 0x10201), (0x180000, 0x203), (0x180010, 0x1), (0x181000, 0x1)]), wf (by decide +kernel), by decide +kernel⟩,
   ⟨awake, rfl, by decide +kernel⟩,
   ⟨(W [(0x0F0000, 0x1), (0x0F0200, 0x10201)]), wf (by decide +kernel), by decide +kernel⟩,
   ⟨(W [(0x0F0000, 0x1), (0x0F0300, 0x1)]), wf (by decide +kernel), by decide +kernel⟩,
   ⟨awake, rfl, by decide +kernel⟩,
   ⟨(W [(0x0F0000, 0x1), (0x0F0300, 0x1)]), wf (by decide +kernel), by decide +kernel⟩,
   ⟨({ W [(0x0F0000, 0x1), (0x0F0300, 0x1)] with cap := { awake.cap with pend := [(5, false)] } } : State), wf (by decide +kernel), by decide +kernel⟩,
   ⟨awake, rfl, by decide +kernel⟩,
   ⟨(W [(0x0F0000, 0x1), (0x0F0300, 0x1)]), wf (by decide +kernel), by decide +kernel⟩,
   ⟨awake, by decide +kernel⟩,
   ⟨({ W [(0x0F0000, 0x1), (0x0F0200, 0x10200), (0x0F0300, 0x1)] with cap := { awake.cap with pend := [(20000, false)] } } : State), (20000 : Nat), (false : Bool), ([] : List (Nat × Bool)), wf (by decide +kernel), by decide +kernel⟩,
   ⟨awake, by decide +kernel⟩,
   ⟨({ W [(0x0F0000, 0x1), (0x0F0200, 0x10201), (0x180000, 0x203), (0x180010, 0x1), (0x181000, 0x1)] with cap := { awake.cap with startDue := true } } : State), wf (by decide +kernel), by decide +kernel⟩,
   ⟨({ W [(0x0F0000, 0x1), (0x0F0200, 0x14003), (0x180000, 0x203), (0x180010, 0x1), (0x181000, 0x1)] with cap := { awake.cap with stored := 12 } } : State), wf (by decide +kernel), by decide +kernel⟩,
   ⟨awake, by decide +kernel⟩,
   ⟨({ W [(0x0F0000, 0x1), (0x180000, 0x203), (0x180010, 0x1), (0x181000, 0x1)] with cap := { awake.cap with endDue := true } } : State), wf (by decide +kernel), by decide +kernel⟩,
   ⟨awake, by decide +kernel⟩⟩

theorem test_witness_TheEthernetPortsReceiveAndManage :
  (∃ (s : State) (q : BitVec 16), regsWf s ∧ s.pwr.coreUp = true ∧ s.en .eth = true ∧ s.flag ETH_MCFG_MAC_EN = true) ∧
  (∃ (s : State) (q : BitVec 16), s.pwr.coreUp = true ∧ (s.en .eth = false ∨ s.flag ETH_MCFG_MAC_EN = false)) ∧
  (∃ (s : State) (x : Nat × Nat), regsWf s ∧ s.pwr.coreUp = true ∧ s.eth.pause = some x) ∧
  (∃ (s : State), s.pwr.coreUp = true ∧ s.eth.pause = none) ∧
  (∃ (s : State) (ok : Bool) (p : Bool) (f : List (BitVec 8)), regsWf s ∧ s.pwr.coreUp = true ∧ s.en .eth = true ∧ s.flag ETH_MCFG_MAC_EN (b2n p) = true ∧ (ok = false ∨ f.length < 60 ∨ 1518 < f.length)) ∧
  (∃ (s : State) (p : Bool) (f : List (BitVec 8)), regsWf s ∧ s.pwr.coreUp = true ∧ s.en .eth = true ∧ s.flag ETH_MCFG_MAC_EN (b2n p) = true ∧ 60 ≤ f.length ∧ f.length ≤ 1518 ∧ beNat (slice f 12 2) = 0x8808 ∧ beNat (slice f 14 2) = 1 ∧ p = false) ∧
  (∃ (s : State) (p : Bool) (f : List (BitVec 8)), s.pwr.coreUp = true ∧ s.en .eth = true ∧ s.flag ETH_MCFG_MAC_EN (b2n p) = true ∧ 60 ≤ f.length ∧ f.length ≤ 1518 ∧ (beNat (slice f 12 2) ≠ 0x8808 ∨ beNat (slice f 14 2) ≠ 1 ∨ p = true) ∧ s.ptpFrame f = true) ∧
  (∃ (s : State) (p : Bool) (f : List (BitVec 8)), regsWf s ∧ s.pwr.coreUp = true ∧ s.en .eth = true ∧ s.flag ETH_MCFG_MAC_EN (b2n p) = true ∧ 60 ≤ f.length ∧ f.length ≤ 1518 ∧ (beNat (slice f 12 2) ≠ 0x8808 ∨ beNat (slice f 14 2) ≠ 1 ∨ p = true) ∧ s.ptpFrame f = false) ∧
  (∃ (s : State) (ok : Bool) (p : Bool) (f : List (BitVec 8)), s.pwr.coreUp = true ∧ (s.en .eth = false ∨ s.flag ETH_MCFG_MAC_EN (b2n p) = false)) ∧
  (∃ (s : State) (p : Bool) (r : BitVec 16), regsWf s ∧ s.pwr.coreUp = true ∧ s.en .eth = true ∧ s.flag ETH_MCFG_MAC_EN (b2n p) = true ∧ s.flag ETH_MCFG_POLL_EN (b2n p) = true ∧ bitOf r.toNat 2 = true) ∧
  (∃ (s : State) (p : Bool) (r : BitVec 16), regsWf s ∧ s.pwr.coreUp = true ∧ s.en .eth = true ∧ s.flag ETH_MCFG_MAC_EN (b2n p) = true ∧ s.flag ETH_MCFG_POLL_EN (b2n p) = true ∧ bitOf r.toNat 2 = false ∧ s.flag ETH_MSTAT_LINK (b2n p) = true) ∧
  (∃ (s : State) (p : Bool) (r : BitVec 16), s.pwr.coreUp = true ∧ (s.en .eth && s.flag ETH_MCFG_MAC_EN (b2n p) && s.flag ETH_MCFG_POLL_EN (b2n p)) = false) ∧
  (∃ (s : State) (a : BitVec 5) (r : BitVec 5) (d : BitVec 16), regsWf s ∧ s.pwr.coreUp = true ∧ s.flag ETH_MDIO_STAT_BUSY = false) ∧
  (∃ (s : State) (a : BitVec 5) (r : BitVec 5) (d : BitVec 16), regsWf s ∧ s.pwr.coreUp = true ∧ s.flag ETH_MDIO_STAT_BUSY = true) ∧
  (∃ (s : State) (a : BitVec 5) (r : BitVec 5), regsWf s ∧ s.pwr.coreUp = true ∧ s.flag ETH_MDIO_STAT_BUSY = false) ∧
  (∃ (s : State) (a : BitVec 5) (r : BitVec 5), regsWf s ∧ s.pwr.coreUp = true ∧ s.flag ETH_MDIO_STAT_BUSY = true) ∧
  (∃ (s : State) (d : BitVec 16), regsWf s ∧ s.pwr.coreUp = true ∧ s.flag ETH_MDIO_STAT_BUSY = true ∧ s.eth.mdio.1 = 2) ∧
  (∃ (s : State) (d : BitVec 16), regsWf s ∧ s.pwr.coreUp = true ∧ s.flag ETH_MDIO_STAT_BUSY = true ∧ s.eth.mdio.1 ≠ 2) ∧
  (∃ (s : State) (d : BitVec 16), s.pwr.coreUp = true ∧ s.flag ETH_MDIO_STAT_BUSY = false) :=
  ⟨⟨(W [(0x180000, 0x203), (0x181000, 0x1)]), (100#16 : BitVec 16), wf (by decide +kernel), by decide +kernel⟩,
   ⟨awake, (100#16 : BitVec 16), by decide +kernel⟩,
   ⟨({ awake with eth := { awake.eth with pause := some (100, 5100) } } : State), ((100, 5100) : Nat × Nat), rfl, by decide +kernel⟩,
   ⟨awake, by decide +kernel⟩,
   ⟨(W [(0x180000, 0x203), (0x181000, 0x1)]), (true : Bool), (false : Bool), (List.replicate 59 0#8 : List (BitVec 8)), wf (by decide +kernel), by decide +kernel⟩,
   ⟨(W [(0x180000, 0x203), (0x181000, 0x1)]), (false : Bool), (List.replicate 12 0#8 ++ [0x88#8, 8#8, 0#8, 1#8, 0#8, 9#8] ++ List.replicate 42 0#8 : List (BitVec 8)), wf (by decide +kernel), by decide +kernel⟩,
   ⟨(W [(0x180000, 0x203), (0x181000, 0x1)]), (false : Bool), (List.replicate 12 0#8 ++ [0x88#8, 0xF7#8] ++ List.replicate 46 0#8 : List (BitVec 8)), by decide +kernel⟩,
   ⟨(W [(0x180000, 0x203), (0x181000, 0x1)]), (false : Bool), (List.replicate 60 0#8 : List (BitVec 8)), wf (by decide +kernel), by decide +kernel⟩,
   ⟨awake, (true : Bool), (false : Bool), ([] : List (BitVec 8)), by decide +kernel⟩,
   ⟨(W [(0x180000, 0x203), (0x181000, 0x1)]), (false : Bool), (4#16 : BitVec 16), wf (by decide +kernel), by decide +kernel⟩,
   ⟨(W [(0x180000, 0x203), (0x180010, 0x1), (0x181000, 0x1)]), (false : Bool), (0#16 : BitVec 16), wf (by decide +kernel), by decide +kernel⟩,
   ⟨awake, (false : Bool), (0#16 : BitVec 16), by decide +kernel⟩,
   ⟨awake, (3#5 : BitVec 5), (1#5 : BitVec 5), (0x1234#16 : BitVec 16), rfl, by decide +kernel⟩,
   ⟨(W [(0x181104, 0x1)]), (3#5 : BitVec 5), (1#5 : BitVec 5), (0x1234#16 : BitVec 16), wf (by decide +kernel), by decide +kernel⟩,
   ⟨awake, (3#5 : BitVec 5), (1#5 : BitVec 5), rfl, by decide +kernel⟩,
   ⟨(W [(0x181104, 0x1)]), (3#5 : BitVec 5), (1#5 : BitVec 5), wf (by decide +kernel), by decide +kernel⟩,
   ⟨({ W [(0x181104, 0x1)] with eth := { awake.eth with mdio := (2, 3, 1, 0) } } : State), (0x4321#16 : BitVec 16), wf (by decide +kernel), by decide +kernel⟩,
   ⟨(W [(0x181104, 0x1)]), (0x4321#16 : BitVec 16), wf (by decide +kernel), by decide +kernel⟩,
   ⟨awake, (0#16 : BitVec 16), by decide +kernel⟩⟩

theorem test_witness_RolesFollowTheHeartbeats :
  (∃ (s : State), regsWf s ∧ s.pwr.coreUp = true ∧ s.en .part = true ∧ s.get PART_STAT_LANES ≠ 0 ∧ s.flag CLK_PLL_STAT_LOCKED 1 = true) ∧
  (∃ (s : State), s.pwr.coreUp = true ∧ (s.en .part = false ∨ s.get PART_STAT_LANES = 0 ∨ s.flag CLK_PLL_STAT_LOCKED 1 = false)) ∧
  (∃ (s : State) (f : List (BitVec 8)) (at' : Nat), s.pwr.coreUp = true ∧ (s.en .part = false ∨ f.length ≠ 16 ∨ (crc16 (f.take 14)).toNat ≠ leAt f 14 2)) ∧
  (∃ (s : State) (f : List (BitVec 8)) (at' : Nat), regsWf s ∧ s.pwr.coreUp = true ∧ s.en .part = true ∧ f.length = 16 ∧ (crc16 (f.take 14)).toNat = leAt f 14 2 ∧ s.role = SEEKING ∧ (byteAt f 0 % 8) = ACTIVE) ∧
  (∃ (s : State) (f : List (BitVec 8)) (at' : Nat), regsWf s ∧ s.pwr.coreUp = true ∧ s.en .part = true ∧ f.length = 16 ∧ (crc16 (f.take 14)).toNat = leAt f 14 2 ∧ s.role = SEEKING ∧ (byteAt f 0 % 8) ≠ ACTIVE ∧ s.home = true) ∧
  (∃ (s : State) (f : List (BitVec 8)) (at' : Nat), regsWf s ∧ s.pwr.coreUp = true ∧ s.en .part = true ∧ f.length = 16 ∧ (crc16 (f.take 14)).toNat = leAt f 14 2 ∧ s.role = SEEKING ∧ (byteAt f 0 % 8) ≠ ACTIVE ∧ s.home = false) ∧
  (∃ (s : State) (f : List (BitVec 8)) (at' : Nat), regsWf s ∧ s.pwr.coreUp = true ∧ s.en .part = true ∧ f.length = 16 ∧ (crc16 (f.take 14)).toNat = leAt f 14 2 ∧ s.role = ACTIVE ∧ (byteAt f 0 % 8) = ACTIVE ∧ bitOf (byteAt f 0) 4 = false ∧ s.flag CLK_PLL_STAT_LOCKED 0 = true ∧ s.home = true) ∧
  (∃ (s : State) (f : List (BitVec 8)) (at' : Nat), regsWf s ∧ s.pwr.coreUp = true ∧ s.en .part = true ∧ f.length = 16 ∧ (crc16 (f.take 14)).toNat = leAt f 14 2 ∧ s.role = ACTIVE ∧ (byteAt f 0 % 8) = ACTIVE ∧ bitOf (byteAt f 0) 4 = true) ∧
  (∃ (s : State) (f : List (BitVec 8)) (at' : Nat), regsWf s ∧ s.pwr.coreUp = true ∧ s.en .part = true ∧ f.length = 16 ∧ (crc16 (f.take 14)).toNat = leAt f 14 2 ∧ s.role = ACTIVE ∧ (byteAt f 0 % 8) = ACTIVE ∧ bitOf (byteAt f 0) 4 = false ∧ s.flag CLK_PLL_STAT_LOCKED 0 = false) ∧
  (∃ (s : State) (f : List (BitVec 8)) (at' : Nat), regsWf s ∧ s.pwr.coreUp = true ∧ s.en .part = true ∧ f.length = 16 ∧ (crc16 (f.take 14)).toNat = leAt f 14 2 ∧ s.role = ACTIVE ∧ (byteAt f 0 % 8) = ACTIVE ∧ bitOf (byteAt f 0) 4 = false ∧ s.flag CLK_PLL_STAT_LOCKED 0 = true ∧ s.home = false ∧ s.hive.tx = []) ∧
  (∃ (s : State) (f : List (BitVec 8)) (at' : Nat), regsWf s ∧ s.pwr.coreUp = true ∧ s.en .part = true ∧ f.length = 16 ∧ (crc16 (f.take 14)).toNat = leAt f 14 2 ∧ s.role = ACTIVE ∧ ((byteAt f 0 % 8) = STANDBY ∨ (byteAt f 0 % 8) = NOT_READY) ∧ bitOf (byteAt f 0) 5 = true ∧ bitOf (byteAt f 0) 6 = false ∧ s.sgrActive = false) ∧
  (∃ (s : State) (f : List (BitVec 8)) (at' : Nat), regsWf s ∧ s.pwr.coreUp = true ∧ s.en .part = true ∧ f.length = 16 ∧ (crc16 (f.take 14)).toNat = leAt f 14 2 ∧ s.role = ACTIVE ∧ (byteAt f 0 % 8) = STANDBY ∧ bitOf (byteAt f 0) 5 = false ∧ bitOf (byteAt f 0) 6 = true ∧ s.sgrActive = false ∧ s.get SAFE_FSTAT_SOD = 0 ∧ s.get SAFE_FSTAT_SDS = 0 ∧ s.get SAFE_FSTAT_STR = 0 ∧ s.part.swap = none ∧ s.pastCut = false) ∧
  (∃ (s : State) (f : List (BitVec 8)) (at' : Nat), regsWf s ∧ s.pwr.coreUp = true ∧ s.en .part = true ∧ f.length = 16 ∧ (crc16 (f.take 14)).toNat = leAt f 14 2 ∧ s.role = STANDBY ∧ bitOf (byteAt f 0) 4 = true ∧ s.part.take = none ∧ (byteAt f 0 % 8) = ACTIVE) ∧
  (∃ (s : State), regsWf s ∧ s.pwr.coreUp = true ∧ s.en .part = true ∧ s.flag PART_STAT_PARTNER = true ∧ s.role = STANDBY ∧ s.part.take = none) ∧
  (∃ (s : State), regsWf s ∧ s.pwr.coreUp = true ∧ s.en .part = true ∧ s.flag PART_STAT_PARTNER = true ∧ s.role = NOT_READY) ∧
  (∃ (s : State), regsWf s ∧ s.pwr.coreUp = true ∧ s.en .part = true ∧ s.flag PART_STAT_PARTNER = true ∧ s.role ≠ STANDBY ∧ s.role ≠ NOT_READY) ∧
  (∃ (s : State), s.pwr.coreUp = true ∧ (s.en .part = false ∨ s.flag PART_STAT_PARTNER = false)) ∧
  (∃ (s : State) (k : Fin 4) (on : Bool), regsWf s ∧ s.pwr.coreUp = true ∧ s.follows = false) ∧
  (∃ (s : State) (k : Fin 4) (on : Bool), regsWf s ∧ s.pwr.coreUp = true ∧ s.follows = true ∧ s.part.take = none) ∧
  (∃ (s : State), regsWf s ∧ s.pwr.coreUp = true ∧ s.en .part = true ∧ s.role = SEEKING ∧ (s.home = true ∨ s.flag PART_STAT_PARTNER = false)) ∧
  (∃ (s : State), s.pwr.coreUp = true ∧ (s.en .part = false ∨ s.role ≠ SEEKING ∨ (s.home = false ∧ s.flag PART_STAT_PARTNER = true))) :=
  ⟨⟨(W [(0x010104, 0x1), (0x010204, 0x1), (0x160000, 0x1), (0x160204, 0x20F11)]), wf (by decide +kernel), by decide +kernel⟩,
   ⟨(W [(0x010104, 0x1)]), by decide +kernel⟩,
   ⟨(W [(0x010104, 0x1)]), ([] : List (BitVec 8)), (0 : Nat), by decide +kernel⟩,
   ⟨(W [(0x010104, 0x1), (0x160000, 0x1)]), (withCrc ([1#8, 4#8, 1#8, 0#8] ++ leBytes 8 1000000 ++ [0#8, 0#8]) : List (BitVec 8)), (1000100 : Nat), wf (by decide +kernel), by decide +kernel⟩,
   ⟨(W [(0x010104, 0x1), (0x160000, 0x1)]), (withCrc ([0#8, 4#8, 1#8, 0#8] ++ leBytes 8 1000000 ++ [0#8, 0#8]) : List (BitVec 8)), (1000100 : Nat), wf (by decide +kernel), by decide +kernel⟩,
   ⟨(W [(0x010104, 0x1), (0x160000, 0x1), (0x160204, 0x20F18)]), (withCrc ([0#8, 4#8, 1#8, 0#8] ++ leBytes 8 1000000 ++ [0#8, 0#8]) : List (BitVec 8)), (1000100 : Nat), wf (by decide +kernel), by decide +kernel⟩,
   ⟨(W [(0x010104, 0x1), (0x160000, 0x1), (0x160204, 0x20F11)]), (withCrc ([1#8, 4#8, 1#8, 0#8] ++ leBytes 8 1000000 ++ [0#8, 0#8]) : List (BitVec 8)), (1000100 : Nat), wf (by decide +kernel), by decide +kernel⟩,
   ⟨(W [(0x010104, 0x1), (0x160000, 0x1), (0x160204, 0x20F19)]), (withCrc ([17#8, 4#8, 1#8, 0#8] ++ leBytes 8 1000000 ++ [0#8, 0#8]) : List (BitVec 8)), (1000100 : Nat), wf (by decide +kernel), by decide +kernel⟩,
   ⟨(W [(0x010104, 0x2), (0x160000, 0x1), (0x160204, 0x20F11)]), (withCrc ([1#8, 4#8, 1#8, 0#8] ++ leBytes 8 1000000 ++ [0#8, 0#8]) : List (BitVec 8)), (1000100 : Nat), wf (by decide +kernel), by decide +kernel⟩,
   ⟨(W [(0x010104, 0x1), (0x160000, 0x1), (0x160204, 0x20F19)]), (withCrc ([1#8, 4#8, 1#8, 0#8] ++ leBytes 8 1000000 ++ [0#8, 0#8]) : List (BitVec 8)), (1000100 : Nat), wf (by decide +kernel), by decide +kernel⟩,
   ⟨(W [(0x010104, 0x1), (0x160000, 0x1), (0x160204, 0x20F11)]), (withCrc ([34#8, 4#8, 1#8, 0#8] ++ leBytes 8 1000000 ++ [0#8, 0#8]) : List (BitVec 8)), (1000100 : Nat), wf (by decide +kernel), by decide +kernel⟩,
   ⟨(W [(0x010104, 0x1), (0x160000, 0x1), (0x160204, 0x20F11)]), (withCrc ([66#8, 4#8, 1#8, 0#8] ++ leBytes 8 1000000 ++ [0#8, 0#8]) : List (BitVec 8)), (1000100 : Nat), wf (by decide +kernel), by decide +kernel⟩,
   ⟨(W [(0x010104, 0x1), (0x160000, 0x1), (0x160204, 0x20F12)]), (withCrc ([17#8, 4#8, 1#8, 0#8] ++ leBytes 8 1000000 ++ [0#8, 0#8]) : List (BitVec 8)), (1000100 : Nat), wf (by decide +kernel), by decide +kernel⟩,
   ⟨(W [(0x010104, 0x1), (0x160000, 0x1), (0x160204, 0x20F12)]), wf (by decide +kernel), by decide +kernel⟩,
   ⟨(W [(0x010104, 0x1), (0x160000, 0x1), (0x160204, 0x20F13)]), wf (by decide +kernel), by decide +kernel⟩,
   ⟨(W [(0x010104, 0x1), (0x160000, 0x1), (0x160204, 0x20F11)]), wf (by decide +kernel), by decide +kernel⟩,
   ⟨(W [(0x010104, 0x1)]), by decide +kernel⟩,
   ⟨(W [(0x010104, 0x1)]), (2 : Fin 4), (false : Bool), wf (by decide +kernel), by decide +kernel⟩,
   ⟨(W [(0x010104, 0x1), (0x160000, 0x1), (0x160204, 0x20F13)]), (2 : Fin 4), (true : Bool), wf (by decide +kernel), by decide +kernel⟩,
   ⟨(W [(0x010104, 0x1), (0x160000, 0x1)]), wf (by decide +kernel), by decide +kernel⟩,
   ⟨(W [(0x010104, 0x1)]), by decide +kernel⟩⟩

theorem test_witness_ControlPassesBetweenTheDevices :
  (∃ (s : State) (x : Snapshot), regsWf s ∧ s.pwr.coreUp = true ∧ s.en .part = true ∧ s.follows = true ∧ s.part.take = none ∧ s.part.adopt = false ∧ x.cyc = s.get SYS_CYC_NUM_CYC ∧ (s.poisoned (BANK_DP + 0x32000) 0x1300) = false) ∧
  (∃ (s : State) (x : Snapshot) (ok : Bool), regsWf s ∧ s.pwr.coreUp = true ∧ s.en .part = true ∧ (s.follows || s.part.adopt) = true ∧ (ok = false ∨ x.cyc ≠ s.get SYS_CYC_NUM_CYC) ∧ (s.poisoned (BANK_DP + 0x32000) 0x1300) = false) ∧
  (∃ (s : State) (x : Snapshot) (ok : Bool) (lost : Bool), s.pwr.coreUp = true ∧ (s.en .part = false ∨ (s.follows = false ∧ s.part.adopt = false))) ∧
  (∃ (s : State) (c : Nat) (x : Snapshot), regsWf s ∧ s.pwr.coreUp = true ∧ s.en .part = true ∧ s.role = STANDBY ∧ s.takeDue = some (c, x)) ∧
  (∃ (s : State), s.pwr.coreUp = true ∧ (s.en .part = false ∨ s.role ≠ STANDBY ∨ s.takeDue = none)) ∧
  (∃ (s : State), regsWf s ∧ s.pwr.coreUp = true ∧ s.en .part = true ∧ s.role = ACTIVE ∧ s.get PART_STAT_PARTNER_ROLE = STANDBY ∧ s.flag PART_STAT_PARTNER = true ∧ s.sgrActive = false ∧ s.get SAFE_FSTAT_SOD = 0 ∧ s.get SAFE_FSTAT_SDS = 0 ∧ s.get SAFE_FSTAT_STR = 0 ∧ s.part.swap = none ∧ s.pastCut = false) ∧
  (∃ (s : State), regsWf s ∧ s.pwr.coreUp = true ∧ s.en .part = true ∧ s.role = ACTIVE ∧ (s.get PART_STAT_PARTNER_ROLE ≠ STANDBY ∨ s.flag PART_STAT_PARTNER = false)) ∧
  (∃ (s : State), regsWf s ∧ s.pwr.coreUp = true ∧ s.en .part = true ∧ s.role = ACTIVE ∧ s.get PART_STAT_PARTNER_ROLE = STANDBY ∧ s.flag PART_STAT_PARTNER = true ∧ (s.sgrActive = true ∨ s.get SAFE_FSTAT_SOD ≠ 0 ∨ s.get SAFE_FSTAT_SDS ≠ 0 ∨ s.get SAFE_FSTAT_STR ≠ 0)) ∧
  (∃ (s : State), regsWf s ∧ s.pwr.coreUp = true ∧ (s.en .part = false ∨ s.role ≠ ACTIVE)) ∧
  (∃ (s : State), regsWf s ∧ s.pwr.coreUp = true) ∧
  (∃ (s : State), regsWf s ∧ s.pwr.coreUp = true ∧ s.en .part = true ∧ s.home = true ∧ s.role = STANDBY ∧ s.flag PART_CFG_AUTO_BACK = true ∧ s.flag PART_STAT_NO_RETURN = false) ∧
  (∃ (s : State), s.pwr.coreUp = true ∧ (s.en .part = false ∨ s.home = false ∨ s.role ≠ STANDBY ∨ s.flag PART_CFG_AUTO_BACK = false ∨ s.flag PART_STAT_NO_RETURN = true)) :=
  ⟨⟨(W [(0x010104, 0x1), (0x160000, 0x1), (0x160204, 0x20F12)]), (let s : State := (W [(0x010104, 0x1), (0x160000, 0x1), (0x160204, 0x20F12)]); ({ (State.snapshot s) with cyc := s.get SYS_CYC_NUM_CYC, pwr := 5, cause := 0, combs := [], regs := [], energised := 9 } : Snapshot)), wf (by decide +kernel), by decide +kernel⟩,
   ⟨(W [(0x010104, 0x1), (0x160000, 0x1), (0x160204, 0x20F12)]), (let s : State := (W [(0x010104, 0x1), (0x160000, 0x1), (0x160204, 0x20F12)]); ({ (State.snapshot s) with cyc := s.get SYS_CYC_NUM_CYC, pwr := 5, cause := 0, combs := [], regs := [], energised := 9 } : Snapshot)), (false : Bool), wf (by decide +kernel), by decide +kernel⟩,
   ⟨(W [(0x010104, 0x1)]), (let s : State := (W [(0x010104, 0x1)]); ({ (State.snapshot s) with cyc := s.get SYS_CYC_NUM_CYC, pwr := 5, cause := 0, combs := [], regs := [], energised := 9 } : Snapshot)), (true : Bool), (false : Bool), by decide +kernel⟩,
   ⟨({ W [(0x00010C, 0xC350), (0x000114, 0x1), (0x160000, 0x1), (0x160204, 0x20F12)] with part := { awake.part with snap := some { awake.snapshot with pwr := 5 }, take := some (1, 1000) } } : State), (1 : Nat), ({ awake.snapshot with pwr := 5 } : Snapshot), wf (by decide +kernel), by decide +kernel, by decide +kernel, by decide +kernel, rfl⟩,
   ⟨(W [(0x010104, 0x1)]), by decide +kernel⟩,
   ⟨(W [(0x010104, 0x1), (0x160000, 0x1), (0x160204, 0x20F11)]), wf (by decide +kernel), by decide +kernel⟩,
   ⟨(W [(0x010104, 0x1), (0x160000, 0x1), (0x160204, 0x20F01)]), wf (by decide +kernel), by decide +kernel⟩,
   ⟨(W [(0x010104, 0x1), (0x131110, 0x20), (0x160000, 0x1), (0x160204, 0x20F11)]), wf (by decide +kernel), by decide +kernel⟩,
   ⟨(W [(0x010104, 0x1)]), wf (by decide +kernel), by decide +kernel⟩,
   ⟨(W [(0x010104, 0x1)]), wf (by decide +kernel), by decide +kernel⟩,
   ⟨(W [(0x010104, 0x1), (0x160000, 0x1), (0x160204, 0x20F12)]), wf (by decide +kernel), by decide +kernel⟩,
   ⟨(W [(0x010104, 0x1)]), by decide +kernel⟩⟩

theorem test_witness_TheSealAndThePasscodeAreOperated :
  (∃ (s : State) (sample : BitVec 16) (fault : Bool), regsWf s ∧ s.pwr.aonUp = true ∧ ((match s.sealed.last with | some y => s.scanSays y == s.scanSays (fault, sample.toNat) | none => false) && s.scanSays (fault, sample.toNat) != s.get SEAL_SW_STATE) = false) ∧
  (∃ (s : State) (sample : BitVec 16) (fault : Bool) (y : Bool × Nat), regsWf s ∧ s.pwr.aonUp = true ∧ s.sealed.last = some y ∧ s.scanSays y = s.scanSays (fault, sample.toNat) ∧ s.scanSays (fault, sample.toNat) = SW_OPEN ∧ s.get SEAL_SW_STATE ≠ SW_OPEN) ∧
  (∃ (s : State) (sample : BitVec 16) (fault : Bool) (y : Bool × Nat), regsWf s ∧ s.pwr.aonUp = true ∧ s.sealed.last = some y ∧ s.scanSays y = s.scanSays (fault, sample.toNat) ∧ s.scanSays (fault, sample.toNat) = SW_FAULT ∧ s.get SEAL_SW_STATE ≠ SW_FAULT) ∧
  (∃ (s : State) (sample : BitVec 16) (fault : Bool) (y : Bool × Nat), regsWf s ∧ s.pwr.aonUp = true ∧ s.sealed.last = some y ∧ s.scanSays y = s.scanSays (fault, sample.toNat) ∧ s.scanSays (fault, sample.toNat) = SW_CLOSED ∧ s.get SEAL_SW_STATE = SW_OPEN ∧ s.canRenew = true) ∧
  (∃ (s : State) (sample : BitVec 16) (fault : Bool), s.pwr.aonUp = false) ∧
  (∃ (s : State), regsWf s ∧ s.pwr.coreUp = true ∧ s.sealed.due = true ∧ s.canRenew = true) ∧
  (∃ (s : State), regsWf s ∧ s.pwr.coreUp = true ∧ s.sealed.due = true ∧ s.canRenew = false) ∧
  (∃ (s : State), s.pwr.coreUp = true ∧ s.sealed.due = false) ∧
  (∃ (s : State) (v : BitVec 32), regsWf s ∧ s.pwr.coreUp = true ∧ s.flag SEAL_PSTAT_LOCKOUT = false ∧ s.flag SEAL_PSTAT_PASS_SET = true ∧ s.passHash (((sparseFind 0x190200 s.pairs.lowWritten).getD 0#32).toNat + 2 ^ 32 * v.toNat) = s.sealed.hash) ∧
  (∃ (s : State) (v : BitVec 32), regsWf s ∧ s.pwr.coreUp = true ∧ s.flag SEAL_PSTAT_LOCKOUT = true) ∧
  (∃ (s : State) (v : BitVec 32), regsWf s ∧ s.pwr.coreUp = true ∧ s.flag SEAL_PSTAT_LOCKOUT = false ∧ (s.flag SEAL_PSTAT_PASS_SET = false ∨ s.passHash (((sparseFind 0x190200 s.pairs.lowWritten).getD 0#32).toNat + 2 ^ 32 * v.toNat) ≠ s.sealed.hash) ∧ s.get SEAL_PSTAT_FAILS + 1 < s.get SEAL_PCFG_PASS_TRIES ∧ s.get SEAL_PSTAT_FAILS + 1 < 2 ^ SEAL_PSTAT_FAILS.w) ∧
  (∃ (s : State) (v : BitVec 32), regsWf s ∧ s.pwr.coreUp = true ∧ s.flag SEAL_PSTAT_LOCKOUT = false ∧ (s.flag SEAL_PSTAT_PASS_SET = false ∨ s.passHash (((sparseFind 0x190200 s.pairs.lowWritten).getD 0#32).toNat + 2 ^ 32 * v.toNat) ≠ s.sealed.hash) ∧ s.get SEAL_PCFG_PASS_TRIES ≤ s.get SEAL_PSTAT_FAILS + 1 ∧ s.get SEAL_PSTAT_FAILS + 1 < 2 ^ SEAL_PSTAT_FAILS.w) ∧
  (∃ (s : State), regsWf s ∧ s.pwr.coreUp = true) ∧
  (∃ (s : State), regsWf s ∧ s.pwr.coreUp = true) ∧
  (∃ (s : State), regsWf s ∧ s.flag SEAL_PSTAT_LOCKOUT = true) ∧
  (∃ (s : State), s.flag SEAL_PSTAT_LOCKOUT = false) ∧
  (∃ (s : State), regsWf s ∧ s.pwr.coreUp = true ∧ (s.flag SEAL_PSTAT_SESSION = true ∨ s.get SEAL_SW_STATE = SW_OPEN) ∧ s.get64 SEAL_PASS_NEW_PASS ≠ 0 ∧ (s.logAppend 8 0 0 0 0 []).1 = true) ∧
  (∃ (s : State), regsWf s ∧ s.pwr.coreUp = true ∧ (s.flag SEAL_PSTAT_SESSION = true ∨ s.get SEAL_SW_STATE = SW_OPEN) ∧ s.get64 SEAL_PASS_NEW_PASS = 0) ∧
  (∃ (s : State), regsWf s ∧ s.pwr.coreUp = true ∧ s.flag SEAL_PSTAT_SESSION = false ∧ s.get SEAL_SW_STATE ≠ SW_OPEN) :=
  ⟨⟨({ awake with pwr := { awake.pwr with aonUp := true } } : State), (0xFFFF#16 : BitVec 16), (false : Bool), rfl, by decide +kernel⟩,
   ⟨({ awake with pwr := { awake.pwr with aonUp := true }, sealed := { awake.sealed with last := some (false, 3) } } : State), (5#16 : BitVec 16), (false : Bool), ((false, 3) : Bool × Nat), rfl, by decide +kernel⟩,
   ⟨({ awake with pwr := { awake.pwr with aonUp := true }, sealed := { awake.sealed with last := some (true, 3) } } : State), (5#16 : BitVec 16), (true : Bool), ((true, 3) : Bool × Nat), rfl, by decide +kernel⟩,
   ⟨({ W [(0x000200, 0x4), (0x190100, 0x1FFFF), (0x190104, 0x7)] with pwr := { awake.pwr with aonUp := true }, sealed := { awake.sealed with last := some (false, 15) } } : State), (7#16 : BitVec 16), (false : Bool), ((false, 15) : Bool × Nat), wf (by decide +kernel), by decide +kernel⟩,
   ⟨awake, (0#16 : BitVec 16), (false : Bool), by decide +kernel⟩,
   ⟨({ W [(0x000200, 0x4)] with sealed := { awake.sealed with due := true } } : State), wf (by decide +kernel), by decide +kernel⟩,
   ⟨({ awake with sealed := { awake.sealed with due := true } } : State), rfl, by decide +kernel⟩,
   ⟨awake, by decide +kernel⟩,
   ⟨({ W [(0x190214, 0x3)] with pairs := { awake.pairs with lowWritten := [(0x190200, 7#32)] }, sealed := { awake.sealed with hash := (W [(0x190214, 0x3)]).passHash (7 + 2 ^ 32 * 9) } } : State), (9#32 : BitVec 32), wf (by decide +kernel), by decide +kernel, by decide +kernel, by decide +kernel, passHash_congr rfl (by decide +kernel)⟩,
   ⟨(W [(0x190214, 0x5)]), (9#32 : BitVec 32), wf (by decide +kernel), by decide +kernel⟩,
   ⟨awake, (9#32 : BitVec 32), rfl, by decide +kernel⟩,
   ⟨(W [(0x190214, 0x401)]), (9#32 : BitVec 32), wf (by decide +kernel), by decide +kernel⟩,
   ⟨awake, rfl, by decide +kernel⟩,
   ⟨awake, rfl, by decide +kernel⟩,
   ⟨(W [(0x190214, 0x5)]), wf (by decide +kernel), by decide +kernel⟩,
   ⟨awake, by decide +kernel⟩,
   ⟨(W [(0x190208, 0x4D), (0x190214, 0x1)]), wf (by decide +kernel), by decide +kernel, by decide +kernel, by decide +kernel, State.logAppend_good rfl _ _ _ _ _ _⟩,
   ⟨(W [(0x190214, 0x1)]), wf (by decide +kernel), by decide +kernel⟩,
   ⟨awake, rfl, by decide +kernel⟩⟩

theorem test_witness_TheFlashIsReadProgrammedAndErased :
  (∃ (s : State) (f : FlashImage), regsWf s ∧ s.pwr.coreUp = true ∧ s.flashRefused 1 = none ∧ s.flash = some f ∧ memWf s) ∧
  (∃ (s : State), regsWf s ∧ s.pwr.coreUp = true ∧ s.flashRefused 1 = none ∧ s.flash = none) ∧
  (∃ (s : State) (r : Nat), regsWf s ∧ s.pwr.coreUp = true ∧ s.flashRefused 1 = some r ∧ r < 0x10000) ∧
  (∃ (s : State), regsWf s ∧ s.pwr.coreUp = true ∧ s.flashRefused 2 = none) ∧
  (∃ (s : State) (r : Nat), regsWf s ∧ s.pwr.coreUp = true ∧ s.flashRefused 2 = some r ∧ r < 0x10000) ∧
  (∃ (s : State), regsWf s ∧ s.pwr.coreUp = true ∧ s.flashRefused 3 = none ∧ (s.logAppend 11 0 0 0 0 (leBytes 4 (s.get HOST_FL_ADDR_ADDR) ++ leBytes 4 (s.get HOST_FL_STAT_ERASE_KIB * 1024))).1 = true) ∧
  (∃ (s : State) (r : Nat), regsWf s ∧ s.pwr.coreUp = true ∧ s.flashRefused 3 = some r ∧ r < 0x10000) ∧
  (∃ (s : State) (ok : Bool), regsWf s ∧ s.pwr.coreUp = true ∧ s.flag HOST_FL_STAT_BUSY = true ∧ ok = true) ∧
  (∃ (s : State) (ok : Bool), regsWf s ∧ s.pwr.coreUp = true ∧ s.flag HOST_FL_STAT_BUSY = true ∧ ok = false) ∧
  (∃ (s : State) (ok : Bool), s.pwr.coreUp = true ∧ s.flag HOST_FL_STAT_BUSY = false) :=
  ⟨⟨({ W [(0x000200, 0x4)] with flash := some { mib := 4, eraseKib := 1, sckMhz := 50, width := 1, slotA := [0x01#8, 0x02#8], slotB := [0x03#8, 0x04#8] } } : State), (⟨4, 1, 50, 1, [1#8, 2#8], [3#8, 4#8]⟩ : FlashImage), wf (by decide +kernel), by decide +kernel⟩,
   ⟨(W [(0x000200, 0x4)]), wf (by decide +kernel), by decide +kernel⟩,
   ⟨awake, (0x170A : Nat), rfl, by decide +kernel⟩,
   ⟨(W [(0x000200, 0x4), (0x170204, 0x200400), (0x190214, 0x1)]), wf (by decide +kernel), by decide +kernel⟩,
   ⟨awake, (0x170A : Nat), rfl, by decide +kernel⟩,
   ⟨(W [(0x000200, 0x4), (0x170204, 0x200400), (0x17020C, 0x100), (0x190214, 0x1)]), wf (by decide +kernel), by decide +kernel, by decide +kernel, State.logAppend_good rfl _ _ _ _ _ _⟩,
   ⟨awake, (0x170A : Nat), rfl, by decide +kernel⟩,
   ⟨(W [(0x17020C, 0x101)]), (true : Bool), wf (by decide +kernel), by decide +kernel⟩,
   ⟨(W [(0x17020C, 0x101)]), (false : Bool), wf (by decide +kernel), by decide +kernel⟩,
   ⟨awake, (false : Bool), by decide +kernel⟩⟩

theorem test_witness_QspiWriteOfAnyLength : ∃ (s : State) (q : BitVec 8) (a : BitVec 24) (n : BitVec 8) (d : List (BitVec 32)), s.hostUp = true ∧ d.length = n.toNat ∧
    1 ≤ n.toNat ∧ n.toNat ≤ 64 ∧ a.toNat % 4 = 0 ∧ s.flag HOST_PORT_STAT_BUSY = false ∧
    (s.flag HOST_PORT_STAT_SEQ_VALID = false ∨ s.get HOST_PORT_STAT_LAST_SEQ ≠ q.toNat) :=
  ⟨{ State.reset with pwr := { State.reset.pwr with coreUp := true } }, 3#8, 0x170400#24, 64#8, List.replicate 64 7#32, by decide +kernel⟩

/-! The premises of the statements about every step. -/

/-- A state with one command in its queue. -/
def queued (c : Instr) : State := { State.reset with pending := [c] }

theorem test_witness_RailsClockAndPinsAct_inReset : ∃ (s : State) (c : Instr), s.pwr.coreUp = false ∧ coreClocked c = true :=
  ⟨State.reset, .axisRun 0, rfl, rfl⟩

theorem test_witness_EveryStepKeepsItsRecords : ∃ (s t : State), Sized s ∧ (∀ c ∈ s.pending, Instr.wf c = true) ∧ step s = .next t :=
  ⟨queued (.registerWrite 0x170400#24 5#32), _, ⟨rfl, rfl, rfl, rfl, rfl, rfl, fun _ h => nomatch h⟩, by decide +kernel, rfl⟩

theorem test_witness_EveryStepKeepsTheCanonicalForm : ∃ (s t : State), Canonical s ∧ step s = .next t :=
  ⟨queued (.registerWrite 0x170400#24 5#32), _, ⟨rfl, rfl⟩, rfl⟩

/-! Well-formedness refuses each kind of ill-formed command. -/

theorem test_wf_writeReg_length : Instr.wf (.writeReg 0#8 0x170400#24 2#8 [7#32] 0#16 true) = false := by decide
theorem test_wf_writeReg_address : Instr.wf (.writeReg 0#8 0x170401#24 1#8 [7#32] 0#16 true) = false := by decide
theorem test_wf_readReg : Instr.wf (.readReg 0x000002#24 1#8) = false := by decide
theorem test_wf_writeMem : Instr.wf (.writeMem 0#8 0x200000#24 2#16 [1#8] 0#16 true false) = false := by decide
theorem test_wf_readMem : Instr.wf (.readMem 0x200003#24 4#16) = false := by decide
theorem test_wf_registerWrite : Instr.wf (.registerWrite 0x000101#24 0#32) = false := by decide
theorem test_wf_pairs : [Instr.pairLowRead 1#24, .pairHighRead 2#24, .pairLowWrite 3#24 0#32, .pairHighWrite 5#24 0#32].map Instr.wf = [false, false, false, false] := by decide
theorem test_wf_flash : Instr.wf (.loadSequence (some ⟨2, 64, 50, 0, [], [1#8]⟩)) = false := by decide
theorem test_wf_reportRx : Instr.wf (.reportRx 0 [0x5C#8]) = false := by decide
theorem test_wf_mbxRspRx : Instr.wf (.mbxRspRx 0 (List.replicate 44 0#8)) = false := by decide +kernel
theorem test_wf_nakRx : Instr.wf (.nakRx 0 false [0x9C#8, 0#8, 0#8]) = false := by decide
theorem test_wf_breakRx : Instr.wf (.breakRx 0 [0xFC#8]) = false := by decide
theorem test_wf_keyEchoRx : Instr.wf (.keyEchoRx 0 false (List.replicate 8 0#8) 0) = false := by decide
theorem test_wf_blockEchoRx : Instr.wf (.blockEchoRx 0 false (List.replicate 8 0#8)) = false := by decide
theorem test_wf_heartbeatRx : Instr.wf (.heartbeatRx [] 0) = false := by decide
theorem test_wf_snapshotRx : Instr.wf (.snapshotRx { State.reset.snapshot with out := { State.reset.out with buses := [] } } true false) = false := by decide +kernel
/-- Primer's observations on which nothing is wrong. -/
def quietObs : PrimerObs := ⟨none, List.replicate 12 (0, 0, 0), [], 0, true, [], [], [], [], none, 0⟩

theorem test_wf_primerRun_accepts : Instr.wf (.primerRun quietObs) = true := by decide
theorem test_wf_primerRun_bridges : Instr.wf (.primerRun { quietObs with bridges := [] }) = false := by decide
theorem test_wf_primerRun_gates : Instr.wf (.primerRun { quietObs with glOn := [12] }) = false := by decide
theorem test_wf_primerRun_streams : Instr.wf (.primerRun { quietObs with stuck := [36] }) = false := by decide
theorem test_wf_primerRun_breaks : [(12, 0), (0, 17)].map (fun q => Instr.wf (.primerRun { quietObs with breaks := [q] })) = [false, false] := by decide
theorem test_wf_primerRun_rings : Instr.wf (.primerRun { quietObs with keyed := [(12, [], [])] }) = false := by decide
theorem test_wf_primerRun_slots : Instr.wf (.primerRun { quietObs with slots := [⟨192, 0, 0, [], true⟩] }) = false := by decide
theorem test_wf_primerRun_partner : Instr.wf (.primerRun { quietObs with partner := some { State.reset.snapshot with tai := 2 ^ 64 } }) = false := by decide +kernel
theorem test_wf_offStateTest : Instr.wf (.offStateTest 0 []) = false := by decide
theorem test_wf_accepts : Instr.wf (.writeReg 0#8 0x170400#24 1#8 [7#32] 0#16 true) = true := by decide

/-! The check value of the spec. -/

/-- R136 gives 0x29B1 for "123456789". -/
theorem test_crc16_check : crc16 [0x31#8, 0x32#8, 0x33#8, 0x34#8, 0x35#8, 0x36#8, 0x37#8, 0x38#8, 0x39#8] = 0x29B1#16 := by decide +kernel

end Sys2Proof.Tests
end

section
/-! SUPPORT. What the host port does with one word (R3, R5, R7): the register map, a read, a plain write under the access codes, and what a refusal shows. -/

namespace Sys2Proof.Machine

open Sys2Proof.Safety

/-! The register map. -/

/-- A row that covers an address gives it a register (R5). -/
theorem regDefAt_isSome_of_covers {a : Nat} {d : RegDef} (hd : d ∈ regsOf (a / 0x10000)) (hc : d.covers a = true) :
    (regDefAt a).isSome = true := by
  rw [regDefAt, List.find?_isSome]
  exact ⟨d, hd, hc⟩

/-- A row with one register in each unit covers it at every unit. -/
theorem RegDef.covers_unit {d : RegDef} {a u : Nat} (hst : d.st = 0) (hus : 0 < d.us) (hu : u < d.nu) (ha : a = d.base + d.us * u) :
    d.covers a = true := by
  subst ha
  simp [RegDef.covers, hst, hu, Nat.mul_div_cancel_left u hus]

/-- A row of array elements in its lowest unit covers each of them. -/
theorem RegDef.covers_element {d : RegDef} {a i : Nat} (hst : 0 < d.st) (hnu : 0 < d.nu) (hi : i < d.n) (hfit : d.st * i < d.us)
    (ha : a = d.base + d.st * i) : d.covers a = true := by
  subst ha
  simp [RegDef.covers, hst.ne', hnu, hi, Nat.mod_eq_of_lt hfit, Nat.div_eq_of_lt hfit, Nat.mul_div_cancel_left i hst]

/-- Every low word of a pair is a register (R3). -/
theorem regDefAt_isSome_of_isPairLow {a : Nat} (h : isPairLow a = true) : (regDefAt a).isSome = true := by
  simp only [isPairLow, Bool.or_eq_true, Bool.and_eq_true, beq_iff_eq, decide_eq_true_eq] at h
  obtain (hl | ⟨⟨hb, hu⟩, ho⟩) | ⟨hb, ho⟩ := h
  · simp only [List.contains_iff_mem] at hl
    revert a
    decide +kernel
  · obtain ho | ho := ho
    · exact regDefAt_isSome_of_covers (d := ⟨0x0B0008, 12, 256, 1, 0, [⟨0, 32, .ro⟩], 0x0, 0x0⟩) (by rw [hb]; decide)
        (RegDef.covers_unit (u := a / 0x100 % 0x100) rfl (by decide) hu (by dsimp only; omega))
    · exact regDefAt_isSome_of_covers (d := ⟨0x0B0010, 12, 256, 1, 0, [⟨0, 32, .ro⟩], 0x0, 0x0⟩) (by rw [hb]; decide)
        (RegDef.covers_unit (u := a / 0x100 % 0x100) rfl (by decide) hu (by dsimp only; omega))
  · have hrow : ⟨0x1A0000 + a % 0x100, 256, 256, 1, 0, [⟨0, 32, .ro⟩], 0x0, 0x0⟩ ∈ regsOf (a / 0x10000) := by
      rw [hb]
      simp only [List.contains_iff_mem] at ho
      generalize a % 0x100 = o at ho
      revert o
      decide +kernel
    exact regDefAt_isSome_of_covers hrow
      (RegDef.covers_unit (u := a / 0x100 % 0x100) rfl (Nat.succ_pos 255) (Nat.mod_lt _ (Nat.succ_pos 255)) (by dsimp only; omega))

/-- The counters of MEM's masters are registers, at every aligned address (R507). -/
theorem regDefAt_isSome_of_timingCount {a : Nat} (h : timingCount a = true) (ha : a % 4 = 0) : (regDefAt a).isSome = true := by
  simp only [timingCount, Bool.and_eq_true, decide_eq_true_eq] at h
  obtain ⟨hlo, hhi⟩ := h
  have hb : a / 0x10000 = 0x15 := by omega
  by_cases h8 : a % 8 = 0
  · exact regDefAt_isSome_of_covers (d := ⟨0x151200, 1, 256, 10, 8, [⟨0, 32, .ro⟩], 0x0, 0x0⟩) (by rw [hb]; decide)
      (RegDef.covers_element (i := (a - 0x151200) / 8) (by decide) (by decide) (by dsimp only; omega) (by dsimp only; omega) (by dsimp only; omega))
  · exact regDefAt_isSome_of_covers (d := ⟨0x151204, 1, 256, 10, 8, [⟨0, 16, .ro⟩, ⟨16, 16, .ro⟩], 0x0, 0x0⟩) (by rw [hb]; decide)
      (RegDef.covers_element (i := (a - 0x151204) / 8) (by decide) (by decide) (by dsimp only; omega) (by dsimp only; omega) (by dsimp only; omega))

/-! The read of one word. -/

variable {s : State} {a : Nat} {b : Block} {d : RegDef}

/-- An address with no register shows zero (R5). -/
theorem State.shown_noRegister (h : regDefAt a = none) : s.shown a = 0#32 := by
  simp only [State.shown, h]

/-- With nothing captured, a word that is neither a pair's low word nor a count of MEM's timing reads as it is shown, and the read leaves the state. -/
theorem State.readWord_shown (hc : sparseFind a s.pairs.captured = none) (ht : timingCount a = false) (hp : isPairLow a = false) :
    s.readWord a = (s.shown a, s) := by
  simp [State.readWord, hc, ht, hp]

/-- With nothing captured, the read of a count of MEM's timing draws a free value. -/
theorem State.readWord_timingCount (hc : sparseFind a s.pairs.captured = none) (ht : timingCount a = true) :
    (s.readWord a).2 = (s.draw (2 ^ 32)).2 := by
  simp [State.readWord, hc, ht]

/-- Where no register lies and nothing is captured, an aligned read answers zero and leaves the state (R5). -/
theorem State.readWord_noRegister (hd : regDefAt a = none) (ha : a % 4 = 0) (hc : s.pairs.captured = []) :
    s.readWord a = (0#32, s) := by
  have hno : (regDefAt a).isSome ≠ true := by simp [hd]
  rw [State.readWord_shown (by rw [hc]; rfl) (Bool.eq_false_iff.2 fun h => hno (regDefAt_isSome_of_timingCount h ha))
    (Bool.eq_false_iff.2 fun h => hno (regDefAt_isSome_of_isPairLow h)), State.shown_noRegister hd]

/-- A register read of one word answers that word (R532). -/
theorem exec_readReg_one (a : BitVec 24) (hup : s.hostUp = true) (ha : a.toNat % 4 = 0) :
    exec (.readReg a 1#8) s = .next ((s.readWord a.toNat).2.respond ST_OK (wordBytes [(s.readWord a.toNat).1])) := by
  show Host.Outcome.next (opReadReg a 1#8 s) = _
  simp [opReadReg, hup, ha, State.readWords, Nat.mod_eq_of_lt a.isLt]

/-- A read of a pair's high word answers its word (R3). -/
theorem exec_pairHighRead (a : BitVec 24) (hup : s.hostUp = true) :
    exec (.pairHighRead a) s = .next ((s.readWord a.toNat).2.respond ST_OK (wordBytes [(s.readWord a.toNat).1])) := by
  show Host.Outcome.next (s.readOne a.toNat) = _
  rw [State.readOne, if_pos hup]

/-! What a refusal shows. -/

/-- The reason that a refusal leaves in the block's CHK (R88). -/
theorem State.get_refuse_reason (h : regsWf s) (b : Block) (r u o : Nat) : (s.refuse b r u o).get (CHK_REASON b) = r % 0x10000 := by
  simp only [State.get, CHK_REASON, Fld.addr, Nat.mul_zero, Nat.add_zero, State.word_refuse_chk h, fieldOf, BitVec.toNat_ofNat]
  omega

/-- The unit it leaves there. -/
theorem State.get_refuse_unit (h : regsWf s) (b : Block) (r u o : Nat) : (s.refuse b r u o).get (CHK_UNIT b) = u % 0x100 := by
  simp only [State.get, CHK_UNIT, Fld.addr, Nat.mul_zero, Nat.add_zero, State.word_refuse_chk h, fieldOf, BitVec.toNat_ofNat, Nat.shiftRight_eq_div_pow]
  omega

/-- The offset it leaves there. -/
theorem State.get_refuse_offset (h : regsWf s) (b : Block) (r u o : Nat) : (s.refuse b r u o).get (CHK_OFFSET b) = o % 0x100 := by
  simp only [State.get, CHK_OFFSET, Fld.addr, Nat.mul_zero, Nat.add_zero, State.word_refuse_chk h, fieldOf, BitVec.toNat_ofNat, Nat.shiftRight_eq_div_pow]
  omega

/-! The write of one word. -/

/-- A single register write is the write of its word. -/
theorem exec_registerWrite (hup : s.hostUp = true) (a : BitVec 24) (v : Word) :
    exec (.registerWrite a v) s = .next (s.writeWord a.toNat v).2 := by
  show Host.Outcome.next (s.writeOne a v) = _
  rw [State.writeOne, if_pos hup]

/-- A write where no register lies is recorded in HOST_CHK and does nothing else (R5). -/
theorem State.writeWord_noRegister (h : regDefAt a = none) (v : Word) :
    s.writeWord a v = (ST_RANGE, s.refuse .host 0x1702 (a / 0x100 % 0x100) (a % 0x100)) := by
  simp only [State.writeWord, h]

/-! The word after a write (R7). -/

/-- Why the access code of a field refuses the write of `v` over the word `w`, if it does. -/
abbrev State.fieldRefusal (s : State) (b : Block) (w : Word) (v : Nat) (f : FieldDef) : Option Nat :=
  s.fieldNo b f (fieldOf w f.lo f.w) (bitsOf v f.lo f.w)

/-- The bits of a field after an admitted write of `v` over the word `w`. -/
abbrev fieldWritten (w : Word) (v : Nat) (f : FieldDef) : Nat := fieldAfter f (fieldOf w f.lo f.w) (bitsOf v f.lo f.w)

/-- A field written with its own bits leaves the word. -/
theorem withField_fieldOf (w : Word) {lo n : Nat} (h : lo + n ≤ 32) : withField w lo n (fieldOf w lo n) = w := by
  refine BitVec.eq_of_toNat_eq (Nat.eq_of_testBit_eq fun i => ?_)
  rw [withField_testBit _ _ _ _ _ h]
  split
  · next hi =>
    have hlt : i - lo < n := by omega
    simp [fieldOf, Nat.testBit_mod_two_pow, Nat.testBit_shiftRight, hlt, Nat.add_sub_cancel' hi.1]
  · rfl

/-- The word after a write, field by field. -/
theorem State.wordAfter_eq (w : Word) (v : Nat) : s.wordAfter b d w v =
    d.fields.foldl (fun r f => if (s.fieldRefusal b w v f).isSome then r else withField r f.lo f.w (fieldWritten w v f)) w := rfl

/-- A word all of whose fields refuse the write or keep their bits stands. -/
theorem State.wordAfter_kept {w : Word} {v : Nat}
    (h : ∀ f ∈ d.fields, f.lo + f.w ≤ 32 ∧ ((s.fieldRefusal b w v f).isSome = true ∨
      fieldWritten w v f = fieldOf w f.lo f.w)) :
    s.wordAfter b d w v = w := by
  rw [State.wordAfter_eq]
  refine List.foldlRecOn (motive := (· = w)) d.fields _ rfl fun r hr f hf => ?_
  obtain ⟨hfit, hkeep⟩ := h f hf
  subst hr
  split
  · rfl
  · next hadm => rw [hkeep.resolve_left hadm, withField_fieldOf _ hfit]

/-- Fields written with the bits that a number has at their places give a word with those bits. -/
theorem foldl_withField_testBit (v i : Nat) (l : List FieldDef) (hfit : ∀ f ∈ l, f.lo + f.w ≤ 32) (r : Word) :
    (l.foldl (fun r f => withField r f.lo f.w (bitsOf v f.lo f.w)) r).toNat.testBit i =
      if ∃ f ∈ l, f.lo ≤ i ∧ i < f.lo + f.w then v.testBit i else r.toNat.testBit i := by
  induction l generalizing r with
  | nil => simp
  | cons f t ih =>
    rw [List.foldl_cons, ih fun g hg => hfit g (List.mem_cons_of_mem _ hg), withField_testBit _ _ _ _ _ (hfit f List.mem_cons_self)]
    simp only [List.mem_cons, exists_eq_or_imp]
    by_cases hi : f.lo ≤ i ∧ i < f.lo + f.w
    · have hlt : i - f.lo < f.w := by omega
      simp [hi, bitsOf, Nat.testBit_mod_two_pow, Nat.testBit_shiftRight, hlt, Nat.add_sub_cancel' hi.1]
    · simp [hi]

/-- A word whose fields cover it, all admitted and taking what is written, becomes the written word. -/
theorem State.wordAfter_written {w v : Word}
    (h : ∀ f ∈ d.fields, f.lo + f.w ≤ 32 ∧ s.fieldRefusal b w v.toNat f = none ∧
      fieldWritten w v.toNat f = bitsOf v.toNat f.lo f.w)
    (hcover : ∀ i < 32, ∃ f ∈ d.fields, f.lo ≤ i ∧ i < f.lo + f.w) :
    s.wordAfter b d w v.toNat = v := by
  have hfold : s.wordAfter b d w v.toNat = d.fields.foldl (fun r f => withField r f.lo f.w (bitsOf v.toNat f.lo f.w)) w := by
    rw [State.wordAfter_eq]
    refine List.foldl_ext _ _ _ fun r f hf => ?_
    obtain ⟨-, hadm, htake⟩ := h f hf
    simp only [hadm, htake, Option.isSome_none, Bool.false_eq_true, if_false]
  rw [hfold]
  refine BitVec.eq_of_getLsbD_eq fun i hi => ?_
  have hbit := foldl_withField_testBit v.toNat i d.fields (fun f hf => (h f hf).1) w
  rwa [if_pos (hcover i hi)] at hbit

/-- In a STATUS word the written ones clear in EVT (R98). -/
theorem State.wordAfter_status_evt (hd : d.fields = [⟨0, 16, .w1c⟩, ⟨16, 1, .ro⟩]) (w : Word) (v : Nat) :
    fieldOf (s.wordAfter b d w v) 0 16 = fieldOf w 0 16 &&& (0xFFFF - v % 0x10000) := by
  have hafter : s.wordAfter b d w v = withField (withField w 0 16 (fieldOf w 0 16 &&& (0xFFFF - v % 0x10000))) 16 1 (fieldOf w 16 1) := by
    rw [State.wordAfter, hd]
    rfl
  rw [hafter, fieldOf_withField_other _ _ _ _ _ _ (by decide) (.inl (by decide)), fieldOf_withField_same _ _ _ _ (by decide)]
  exact Nat.mod_eq_of_lt (lt_of_le_of_lt Nat.and_le_left (fieldOf_lt _ _ _))

/-! The write of the fields of a word. -/

/-- No reason is found where every candidate gives none. -/
theorem firstSome_eq_none {α β : Type} {f : α → Option β} {l : List α} (h : ∀ x ∈ l, f x = none) : firstSome f l = none := by
  induction l with
  | nil => rfl
  | cons x t ih =>
    rw [firstSome, h x List.mem_cons_self]
    exact ih fun y hy => h y (List.mem_cons_of_mem _ hy)

/-- A word none of whose fields refuses, and that no seal or passcode guards, takes effect. -/
theorem State.writeFields_admitted {v : Nat} (hno : s.wordNo b d (s.word a) v = none) (hseal : d.has (· == .rws) = false)
    (hpass : d.has (· == .rwp) = false) : (s.writeFields b d a v).2 = s.putWord a (s.wordAfter b d (s.word a) v) := by
  simp [State.writeFields, hno, hseal, hpass]

/-- A word with a field that refuses: the others take effect, and the first reason is recorded. -/
theorem State.writeFields_refused {v r : Nat} (hno : s.wordNo b d (s.word a) v = some r) :
    (s.writeFields b d a v).2 = (s.putWord a (s.wordAfter b d (s.word a) v)).refuseC b r (a / 0x100 % 0x100) (a % 0x100) := by
  simp [State.writeFields, hno]

/-- A register whose write sets its fields and does nothing more: no control or severity register, no part of a pair, of a bank or of a block that a rail holds in reset, and none that acts. -/
structure SetsFieldsOnly (n : BitVec 24) (b : Block) (d : RegDef) : Prop where
  row : regDefAt n.toNat = some d
  block : blockOf n.toNat = some b
  plain : (b == .eth || isPairLow n.toNat || (decide (4 ≤ n.toNat) && isPairLow (n.toNat - 4)) || n.toNat == ctrlAddr b 0x00
    || n.toNat == ctrlAddr b 0x10) = false
  neverShut : ∀ s : State, s.regShut n.toNat = false
  idle : ∀ v s, writeCore d n.toNat v s = none ∧ writeGrid d n.toNat v s = none ∧ writePower n.toNat v s = none ∧
    writeSafety n.toNat v s = none

/-- The write of such a register is the write of its fields (R7). -/
theorem SetsFieldsOnly.exec_registerWrite {n : BitVec 24} (h : SetsFieldsOnly n b d) (hup : s.hostUp = true) (v : Word) :
    exec (.registerWrite n v) s = .next (s.writeFields b d n.toNat v.toNat).2 := by
  obtain ⟨hrow, hblock, hplain, hshut, hidle⟩ := h
  simp only [Bool.or_eq_false_iff, beq_eq_false_iff_ne] at hplain
  obtain ⟨⟨⟨⟨heth, hlow⟩, hhigh⟩, hctrl⟩, hsev⟩ := hplain
  obtain ⟨hcore, hgrid, hpower, hsafety⟩ := hidle v.toNat s
  have hreset : s.heldInReset b = false := by simp [State.heldInReset, heth]
  rw [Machine.exec_registerWrite hup]
  simp only [State.writeWord, State.writePlain, hrow, hblock, hreset, hlow, hhigh, hshut, hctrl, hsev, hcore, hgrid, hpower, hsafety,
    Bool.false_eq_true, if_false]

/-- HOST_IRQ_MAP of the blocks below 16: RW (R112). -/
theorem setsFieldsOnly_irqMap : SetsFieldsOnly 0x170400#24 .host ⟨0x170400, 1, 256, 1, 0, [⟨0, 32, .rw⟩], 0x0, 0x0⟩ :=
  ⟨rfl, rfl, rfl, fun _ => rfl, fun _ _ => ⟨rfl, rfl, rfl, rfl⟩⟩

/-- SYS_CYC_TIMING: RWL. -/
theorem setsFieldsOnly_cycTiming : SetsFieldsOnly 0x000104#24 .sys ⟨0x000104, 1, 256, 1, 0, [⟨0, 16, .rwl⟩, ⟨16, 16, .rwl⟩], 0x4E200000, 0x0⟩ :=
  ⟨rfl, rfl, rfl, fun _ => rfl, fun _ _ => ⟨rfl, rfl, rfl, rfl⟩⟩

/-- SYS_CYC_NUM: RO. -/
theorem setsFieldsOnly_cycNum : SetsFieldsOnly 0x000108#24 .sys ⟨0x000108, 1, 256, 1, 0, [⟨0, 32, .ro⟩], 0x0, 0x0⟩ :=
  ⟨rfl, rfl, rfl, fun _ => rfl, fun _ _ => ⟨rfl, rfl, rfl, rfl⟩⟩

/-- SYS_STATUS: W1C beside the read-only SEVERE (R98). -/
theorem setsFieldsOnly_sysStatus : SetsFieldsOnly 0x000004#24 .sys ⟨0x000004, 1, 256, 1, 0, [⟨0, 16, .w1c⟩, ⟨16, 1, .ro⟩], 0x0, 0x0⟩ :=
  ⟨rfl, rfl, rfl, fun _ => rfl, fun _ _ => ⟨rfl, rfl, rfl, rfl⟩⟩

/-- METR_CFG: RWS. -/
theorem setsFieldsOnly_metrCfg : SetsFieldsOnly 0x0B1100#24 .metr ⟨0x0B1100, 1, 256, 1, 0, [⟨0, 16, .rws⟩, ⟨16, 1, .rws⟩], 0x103E8, 0x0⟩ :=
  ⟨rfl, rfl, rfl, fun _ => rfl, fun _ _ => ⟨rfl, rfl, rfl, rfl⟩⟩

/-- A register written with its own word reads as before. -/
theorem State.word_putWord_self (h : regsWf s) (a c : Nat) : (s.putWord a (s.word a)).word c = s.word c := by
  rw [State.word_putWord h]
  split
  · next e => rw [e]
  · rfl

section
variable {n : BitVec 24} {v : Word} (h : SetsFieldsOnly n b d) (hwf : regsWf s) (hup : s.hostUp = true)
include h hup

/-- A write that no field refuses, of a word that no seal or passcode guards, stores the word after it. -/
theorem SetsFieldsOnly.exec_admitted
    (hadm : ∀ f ∈ d.fields, s.fieldRefusal b (s.word n.toNat) v.toNat f = none)
    (hseal : d.has (· == .rws) = false) (hpass : d.has (· == .rwp) = false) :
    exec (.registerWrite n v) s = .next (s.putWord n.toNat (s.wordAfter b d (s.word n.toNat) v.toNat)) := by
  rw [h.exec_registerWrite hup, State.writeFields_admitted (firstSome_eq_none hadm) hseal hpass]

include hwf

/-- Fields that cover the word, all admitted and taking what is written: the register reads the written word, and nothing else changes. -/
theorem SetsFieldsOnly.exec_written
    (hf : ∀ f ∈ d.fields, f.lo + f.w ≤ 32 ∧ s.fieldRefusal b (s.word n.toNat) v.toNat f = none ∧
      fieldWritten (s.word n.toNat) v.toNat f = bitsOf v.toNat f.lo f.w)
    (hcover : ∀ i < 32, ∃ f ∈ d.fields, f.lo ≤ i ∧ i < f.lo + f.w)
    (hseal : d.has (· == .rws) = false) (hpass : d.has (· == .rwp) = false) :
    ∃ t, exec (.registerWrite n v) s = .next t ∧ t.word n.toNat = v ∧ RegsOnly s t ∧
      ∀ adr, adr ∉ [n.toNat] → t.word adr = s.word adr := by
  have hexec := h.exec_admitted hup (fun f hm => (hf f hm).2.1) hseal hpass
  rw [State.wordAfter_written hf hcover] at hexec
  exact ⟨_, hexec, State.word_putWord_same hwf _ _, rfl, fun adr hadr => State.word_putWord_other hwf _ (List.ne_of_not_mem_cons hadr)⟩

/-- Fields all admitted and keeping their bits: no register changes. -/
theorem SetsFieldsOnly.exec_kept
    (hf : ∀ f ∈ d.fields, f.lo + f.w ≤ 32 ∧ s.fieldRefusal b (s.word n.toNat) v.toNat f = none ∧
      fieldWritten (s.word n.toNat) v.toNat f = fieldOf (s.word n.toNat) f.lo f.w)
    (hseal : d.has (· == .rws) = false) (hpass : d.has (· == .rwp) = false) :
    ∃ t, exec (.registerWrite n v) s = .next t ∧ RegsOnly s t ∧ ∀ adr, t.word adr = s.word adr := by
  have hexec := h.exec_admitted hup (fun f hm => (hf f hm).2.1) hseal hpass
  rw [State.wordAfter_kept fun f hm => ⟨(hf f hm).1, .inr (hf f hm).2.2⟩] at hexec
  exact ⟨_, hexec, rfl, State.word_putWord_self hwf _⟩

/-- Fields that all refuse: the word stands, and the block's CHK records the first reason at the register's place. -/
theorem SetsFieldsOnly.exec_refused {r : Nat} (hno : s.wordNo b d (s.word n.toNat) v.toNat = some r)
    (hf : ∀ f ∈ d.fields, f.lo + f.w ≤ 32 ∧ (s.fieldRefusal b (s.word n.toNat) v.toNat f).isSome = true) :
    ∃ t, exec (.registerWrite n v) s = .next t ∧
      t.get (CHK_REASON b) = (b.no * 0x100 + r) % 0x10000 ∧
      t.get (CHK_UNIT b) = n.toNat / 0x100 % 0x100 ∧
      t.get (CHK_OFFSET b) = n.toNat % 0x100 ∧
      RegsOnly s t ∧ ∀ adr, adr ∉ refuseRegs b → t.word adr = s.word adr := by
  have hexec := h.exec_registerWrite hup v
  rw [State.writeFields_refused hno, State.wordAfter_kept fun f hm => ⟨(hf f hm).1, .inl (hf f hm).2⟩] at hexec
  have hput := regsWf_putWord hwf n.toNat (s.word n.toNat)
  refine ⟨_, hexec, State.get_refuse_reason hput .., ?_, ?_, rfl, fun adr hadr => ?_⟩
  · rw [State.refuseC, State.get_refuse_unit hput, Nat.mod_mod]
  · rw [State.refuseC, State.get_refuse_offset hput, Nat.mod_mod]
  · rw [State.refuseC, State.word_refuse_other hput _ _ _ _ hadr, State.word_putWord_self hwf]

end

end Sys2Proof.Machine
end

section
/-! CERTIFICATE. The statements about addresses, pairs and access codes (R3, R5, R7), settled. -/

namespace Sys2Proof.Machine

open Sys2Proof.Safety

/-- Settles O6: every pair's low word and every count of MEM's timing is a register, so the read shows zero, and the write is a refusal of HOST. -/
theorem addressesWithoutARegister : Obligations.AddressesWithoutARegister := by
  unfold Obligations.AddressesWithoutARegister
  refine ⟨fun s a hup ha hno hcap => ?_, fun s a v hwf hup hno => ?_⟩
  · refine ⟨s.respond ST_OK (wordBytes [0#32]), ?_, rfl, rfl, rfl⟩
    rw [exec_readReg_one a hup ha, State.readWord_noRegister hno ha hcap]
  · refine ⟨s.refuse .host 0x1702 (a.toNat / 0x100 % 0x100) (a.toNat % 0x100), ?_, State.get_refuse_reason hwf .., ?_, ?_, rfl,
      fun adr hadr => State.word_refuse_other hwf _ _ _ _ hadr⟩
    · rw [exec_registerWrite hup, State.writeWord_noRegister hno]
    · rw [State.get_refuse_unit hwf, Nat.mod_mod]
    · rw [State.get_refuse_offset hwf, Nat.mod_mod]

/-- The host port works and nothing is captured. -/
def hostAwake : State := { State.reset with pwr := { State.reset.pwr with coreUp := true } }

/-- Refutes O7 by its third clause: the read of MEM_CONFL of master 0 (0x151200), a register that is no pair's low word, with nothing captured, draws a free value (log entry 73), so the next state is not the given one with another response. -/
theorem not_pairsAreReadAndWrittenWhole : ¬ Obligations.PairsAreReadAndWrittenWhole := by
  unfold Obligations.PairsAreReadAndWrittenWhole
  rintro ⟨_, _, hread, _⟩
  obtain ⟨t, hexec, _, _, hframe⟩ := hread hostAwake 0x151200#24 rfl (by decide) rfl
  rw [exec_pairHighRead _ rfl] at hexec
  have hdraw : t.fresh = hostAwake.fresh + 1 := by
    rw [← Host.Outcome.next.inj hexec]
    show (hostAwake.readWord 0x151200).2.fresh = _
    rw [State.readWord_timingCount rfl (by decide), State.draw_fresh]
  have hsame : t.fresh = hostAwake.fresh := (congrArg State.fresh hframe).trans rfl
  omega

/-- Settles O11: the write of each of the five registers sets fields and nothing more, so it is what the access codes of the fields make of the word: RW, and RWL while SYS is disabled or the value stays, admit it; RO keeps it; W1C clears; RWL of a changed field and RWS behind closed switches refuse it. -/
theorem registerWritesFollowTheAccessCodes : Obligations.RegisterWritesFollowTheAccessCodes := by
  unfold Obligations.RegisterWritesFollowTheAccessCodes
  refine ⟨fun s v hwf hup => ?irqMap, fun s v hwf hup hdis => ?timingDisabled, fun s v hwf hup hen hofs hlead => ?timingLocked,
    fun s v hwf hup hsame => ?timingUnchanged, fun s v hwf hup => ?cycNum, fun s v hwf hup => ?status, fun s v hwf hup hsw hckpt => ?metrCfg⟩
  case irqMap =>
    exact setsFieldsOnly_irqMap.exec_written hwf hup (by simp [State.fieldNo, fieldAfter]) (by decide) rfl rfl
  case timingDisabled =>
    exact setsFieldsOnly_cycTiming.exec_written hwf hup (by simp [State.fieldNo, fieldAfter, hdis]) (by decide) rfl rfl
  case timingLocked =>
    have hofs' : bitsOf v.toNat 0 16 ≠ fieldOf (s.word 0x000104) 0 16 := Ne.symm hofs
    have hlead' : bitsOf v.toNat 16 16 ≠ fieldOf (s.word 0x000104) 16 16 := by
      have hv : bitsOf v.toNat 16 16 = v.toNat / 0x10000 := by
        rw [bitsOf, Nat.shiftRight_eq_div_pow]
        omega
      rw [hv]
      exact Ne.symm hlead
    exact setsFieldsOnly_cycTiming.exec_refused hwf hup (r := LOCKED)
      (by simp [State.wordNo, firstSome, State.fieldNo, hen, hofs'])
      (by simp [State.fieldNo, hen, hofs', hlead'])
  case timingUnchanged =>
    subst hsame
    exact setsFieldsOnly_cycTiming.exec_kept hwf hup (by simp [State.fieldNo, fieldAfter, bitsOf, fieldOf]) rfl rfl
  case cycNum =>
    exact setsFieldsOnly_cycNum.exec_kept hwf hup (by simp [State.fieldNo, fieldAfter]) rfl rfl
  case status =>
    refine ⟨_, setsFieldsOnly_sysStatus.exec_admitted hup (by simp [State.fieldNo]) rfl rfl, ?_, rfl,
      fun adr hadr => State.word_putWord_other hwf _ (List.ne_of_not_mem_cons hadr)⟩
    exact (State.get_putWord_same hwf (STATUS_EVT .sys) _ 0 0).trans (State.wordAfter_status_evt rfl _ _)
  case metrCfg =>
    obtain ⟨t, hexec, hreason, -, -, hframe⟩ := setsFieldsOnly_metrCfg.exec_refused (v := v) hwf hup (r := SEAL_CLOSED)
      (by simp [State.wordNo, firstSome, State.fieldNo, hsw]) (by simp [State.fieldNo, hsw])
    exact ⟨t, hexec, hreason, hframe⟩

end Sys2Proof.Machine
end

section
/-! SUPPORT. What the statements of this part share: a command on the running die, a one-bit field after its write, and what a refusal leaves. -/

namespace Sys2Proof.Machine

open Sys2Proof.Safety

variable {s : State}

/-- On the running die a command has its effect (R37). -/
theorem State.live_up (hup : s.pwr.coreUp = true) (t : State) : s.live t = t := if_pos hup

/-- A one-bit field written with 1 reads 1. -/
theorem State.flag_set_one (h : regsWf s) (f : Fld) (u i : Nat) (hf : f.lo + f.w ≤ 32) (hw : f.w = 1) : (s.set f 1 u i).flag f u i = true := by
  rw [State.flag_eq, State.get_set_same h f 1 u i hf, hw]
  rfl

/-- A field written with 0 reads 0. -/
theorem State.flag_set_zero (h : regsWf s) (f : Fld) (u i : Nat) (hf : f.lo + f.w ≤ 32) : (s.set f 0 u i).flag f u i = false := by
  rw [State.flag_eq, State.get_set_same h f 0 u i hf, Nat.zero_mod]
  rfl

/-- What a refusal leaves: its reason, unit and offset in the block's CHK, and every other register (R88). -/
theorem State.refuse_shows (h : regsWf s) (b : Block) (r u o : Nat) :
    (s.refuse b r u o).get (CHK_REASON b) = r % 0x10000 ∧ (s.refuse b r u o).get (CHK_UNIT b) = u % 0x100 ∧
      (s.refuse b r u o).get (CHK_OFFSET b) = o % 0x100 ∧ RegsOnly s (s.refuse b r u o) ∧
      ∀ adr, adr ∉ refuseRegs b → (s.refuse b r u o).word adr = s.word adr :=
  ⟨State.get_refuse_reason h .., State.get_refuse_unit h .., State.get_refuse_offset h .., rfl,
    fun _ hadr => State.word_refuse_other h _ _ _ _ hadr⟩

/-- A device beside an active partner is silent (R511). -/
theorem State.follows_eq_false_of_silent (h : s.silent = false) : s.follows = false := by
  simp only [State.silent, State.follows, Bool.and_eq_false_iff, bne_eq_false_iff_eq] at *
  refine h.imp id fun hrole => ?_
  rw [hrole]
  rfl

end Sys2Proof.Machine
end

section
/-! SUPPORT. The requests of a running state: the mode commands, START and START_MODE (R83, R91, R224). -/

namespace Sys2Proof.Machine

open Sys2Proof.Safety

variable {s : State}

/-- The state with a request of FORM held. -/
def State.withRequest (s : State) (code : Nat) : State :=
  ({ s with form := { s.form with req := some code } } : State).set FORM_MODE_STAT_PENDING 1

/-- A held request shows in PENDING and changes FORM_MODE_STAT alone. -/
theorem State.withRequest_shows (h : regsWf s) (code : Nat) :
    (s.withRequest code).form = { s.form with req := some code } ∧ (s.withRequest code).flag FORM_MODE_STAT_PENDING = true ∧
      s.withRequest code = { s with regs := (s.withRequest code).regs, form := (s.withRequest code).form } ∧
      ∀ adr, adr ∉ [0x080304] → (s.withRequest code).word adr = s.word adr :=
  ⟨rfl, State.flag_set_one (s := { s with form := { s.form with req := some code } }) h FORM_MODE_STAT_PENDING 0 0 (by decide) rfl, rfl, fun _ hadr =>
    State.word_set_other (s := { s with form := { s.form with req := some code } }) h _ _ _ _ (List.ne_of_not_mem_cons hadr)⟩

/-- With FORM enabled and no active partner a mode command is held with its code (R224). -/
theorem opModeCmd_held {code : Nat} (hcode : 1 ≤ code ∧ code ≤ 7) (hen : s.en .form = true) (hfol : s.follows = false) :
    opModeCmd code s = (true, s.withRequest (code + 8)) := by
  rw [opModeCmd, if_neg (by simp [hen, hfol]), if_neg (by omega), State.withRequest]

/-- With FORM disabled or beside an active partner it is refused with STATE. -/
theorem opModeCmd_refused (code : Nat) (h : s.en .form = false ∨ s.follows = true) :
    opModeCmd code s = (false, s.refuseC .form STATE 0x03 0x00) := by
  rw [opModeCmd, if_pos (by simpa using h)]

/-- A mode command that is held, as its clause says it. -/
theorem modeCmd_completes {code : Nat} (hcode : 1 ≤ code ∧ code ≤ 7) (hwf : regsWf s) (hup : s.pwr.coreUp = true) (hen : s.en .form = true)
    (hfol : s.follows = false) :
    ∃ t, (Host.Outcome.next (s.live (opModeCmd code s).2) : Host.Outcome State Fault Refusal) = .next t ∧ t.form = { s.form with req := some (code + 8) } ∧
      t.flag FORM_MODE_STAT_PENDING = true ∧ t = { s with regs := t.regs, form := t.form } ∧ ∀ adr, adr ∉ [0x080304] → t.word adr = s.word adr :=
  ⟨s.withRequest (code + 8), by rw [State.live_up hup, opModeCmd_held hcode hen hfol], State.withRequest_shows hwf _⟩

/-- A mode command that is refused, as its clause says it. -/
theorem modeCmd_isRefused (code : Nat) (hwf : regsWf s) (hup : s.pwr.coreUp = true) (h : s.en .form = false ∨ s.follows = true) :
    ∃ t, (Host.Outcome.next (s.live (opModeCmd code s).2) : Host.Outcome State Fault Refusal) = .next t ∧ t.get (CHK_REASON .form) = 0x080A ∧
      t.get (CHK_UNIT .form) = 3 ∧ t.get (CHK_OFFSET .form) = 0 ∧ RegsOnly s t ∧ ∀ adr, adr ∉ refuseRegs .form → t.word adr = s.word adr :=
  ⟨s.refuseC .form STATE 0x03 0x00, by rw [State.live_up hup, opModeCmd_refused code h], State.refuse_shows hwf ..⟩

/-- START holds the mode that START_MODE names (R91). -/
theorem opStart_held (hready : s.pstate = READY) (hmode : s.get FORM_MODE_STAT_START_MODE ≠ 0) (hen : s.en .form = true) (hsev : s.anySevere = false)
    (hsil : s.silent = false) (hlong : s.stringShort = false) :
    (opStart s).2 = s.withRequest (s.get FORM_MODE_STAT_START_MODE + 8) := by
  have hlt : s.get FORM_MODE_STAT_START_MODE < 4 := s.get_lt FORM_MODE_STAT_START_MODE 0 0
  have hfol := State.follows_eq_false_of_silent hsil
  rw [opStart, if_neg (by simp [hready, hmode, hen, hsev, hsil]), if_neg (by simp [hlong])]
  generalize s.get FORM_MODE_STAT_START_MODE = m at *
  have hm : (if m = 1 then M_SYNC else if m = 2 then M_FORM else M_BLACKSTART) = m := by
    unfold M_SYNC M_FORM M_BLACKSTART
    split
    · omega
    · split <;> omega
  rw [hm, opModeCmd_held (by omega) hen hfol]

/-- A string below its limit refuses START with 0x0620. -/
theorem opStart_short (hready : s.pstate = READY) (hmode : s.get FORM_MODE_STAT_START_MODE ≠ 0) (hen : s.en .form = true) (hsev : s.anySevere = false)
    (hsil : s.silent = false) (hshort : s.stringShort = true) : (opStart s).2 = s.refuse .sys 0x0620 0x02 0x04 := by
  rw [opStart, if_neg (by simp [hready, hmode, hen, hsev, hsil]), if_pos hshort]

/-- Any other obstacle refuses START with STATE. -/
theorem opStart_refused (h : s.pstate ≠ READY ∨ s.get FORM_MODE_STAT_START_MODE = 0 ∨ s.en .form = false ∨ s.anySevere = true ∨ s.silent = true) :
    (opStart s).2 = s.refuseC .sys STATE 0x02 0x04 := by
  rw [opStart, if_pos h, State.pwrNo]

/-- The request of START_MODE at the boundary is held (R83). -/
theorem opStartMode_held (hreq : s.cyc.startReq = true) (hen : s.en .form = true) (hfol : s.follows = false) :
    opStartMode s = ({ s with cyc := { s.cyc with startReq := false } } : State).withRequest (s.get FORM_MODE_STAT_START_MODE) := by
  have hen' : ({ s with cyc := { s.cyc with startReq := false } } : State).en .form = true := hen
  have hfol' : ({ s with cyc := { s.cyc with startReq := false } } : State).follows = false := hfol
  rw [opStartMode, if_pos hreq]
  simp only [hen', hfol', Bool.not_true, Bool.or_self, Bool.false_eq_true, if_false]
  rfl

end Sys2Proof.Machine
end

section
/-! SUPPORT. Where an operation writes: the registers it may write, while the cycle's record and PART's state stand. One rule for each plain update; an operation's own rule follows its definition step by step. -/

namespace Sys2Proof.Machine

open Sys2Proof.Safety

/-- Every register outside `W`, the cycle's record and PART's state are in `t` as in `s`, and the registers of `t` are in canonical form. -/
structure Confined (W : Nat → Prop) (s t : State) : Prop where
  wf : regsWf t
  word : ∀ a, ¬ W a → t.word a = s.word a
  cyc : t.cyc = s.cyc
  part : t.part = s.part

variable {W : Nat → Prop} {s t u : State}

theorem Confined.refl (h : regsWf s) : Confined W s s := ⟨h, fun _ _ => rfl, rfl, rfl⟩

theorem Confined.mono {W' : Nat → Prop} (h : Confined W s t) (hW : ∀ a, W a → W' a) : Confined W' s t :=
  ⟨h.wf, fun a ha => h.word a (mt (hW a) ha), h.cyc, h.part⟩

theorem Confined.trans (h : Confined W s t) (h' : Confined W t u) : Confined W s u :=
  ⟨h'.wf, fun a ha => (h'.word a ha).trans (h.word a ha), h'.cyc.trans h.cyc, h'.part.trans h.part⟩

/-- A field whose register lies outside `W` stands. -/
theorem Confined.get (h : Confined W s t) (f : Fld) (u i : Nat) (ha : ¬ W (f.addr u i)) : t.get f u i = s.get f u i := by
  simp only [State.get, h.word _ ha]

theorem Confined.flag (h : Confined W s t) (f : Fld) (u i : Nat) (ha : ¬ W (f.addr u i)) : t.flag f u i = s.flag f u i := by
  simp only [State.flag_eq, h.get f u i ha]

/-- An update of other parts of the state. -/
theorem Confined.keep (h : Confined W s t) (hr : u.regs = t.regs) (hc : u.cyc = t.cyc) (hp : u.part = t.part) :
    Confined W s u :=
  ⟨by unfold regsWf; rw [hr]; exact h.wf, fun a ha => (State.word_congr hr a).trans (h.word a ha), hc.trans h.cyc, hp.trans h.part⟩

theorem Confined.putWord (h : Confined W s t) {a : Nat} {v : Word} (ha : W a) : Confined W s (t.putWord a v) :=
  ⟨regsWf_putWord h.wf a v, fun c hc => (State.word_putWord_other h.wf v fun e => hc (by rw [e]; exact ha)).trans (h.word c hc), h.cyc, h.part⟩

section
variable {f : Fld} {u i : Nat}

theorem Confined.set {v : Nat} (h : Confined W s t) (ha : W (f.addr u i)) : Confined W s (t.set f v u i) := h.putWord ha
theorem Confined.setb {v : Bool} (h : Confined W s t) (ha : W (f.addr u i)) : Confined W s (t.setb f v u i) := h.putWord ha
theorem Confined.seti {v : Int} (h : Confined W s t) (ha : W (f.addr u i)) : Confined W s (t.seti f v u i) := h.putWord ha
theorem Confined.inc (h : Confined W s t) (ha : W (f.addr u i)) : Confined W s (t.inc f u i) := h.putWord ha
theorem Confined.addSat {k : Nat} (h : Confined W s t) (ha : W (f.addr u i)) : Confined W s (t.addSat f k u i) := h.putWord ha
theorem Confined.set64 {v : Nat} (h : Confined W s t) (ha : W (f.addr u i)) (ha4 : W (f.addr u i + 4)) : Confined W s (t.set64 f v u i) :=
  (h.putWord ha).putWord ha4
theorem Confined.setPk {per step k v : Nat} (h : Confined W s t) (ha : W (f.addr u (k / per))) : Confined W s (t.setPk f per step k v u) :=
  h.putWord ha

end

theorem Confined.ite {c : Prop} [Decidable c] {a b : State} (ha : Confined W s a) (hb : Confined W s b) : Confined W s (if c then a else b) := by
  split
  · exact ha
  · exact hb

theorem Confined.foldl {α : Type} {l : List α} {f : State → α → State} (h : Confined W s t)
    (hf : ∀ u, ∀ x ∈ l, Confined W s u → Confined W s (f u x)) : Confined W s (l.foldl f t) :=
  List.foldlRecOn (motive := Confined W s) l f h fun u hu x hx => hf u x hx hu

theorem Confined.raise {src : Source} {unit : Nat} (h : Confined W s t) (hW : ∀ a ∈ evtRegs src.blk src.s, W a) : Confined W s (t.raise src unit) := by
  have hold := t.raise_hold src unit
  refine ⟨regsWf_raise h.wf src unit, fun a ha => ?_, (congrArg State.cyc hold).trans h.cyc, (congrArg State.part hold).trans h.part⟩
  rw [State.word_raise_other h.wf src unit fun hm => ha (hW a hm), h.word a ha]

theorem Confined.raiseC {src : Source} (h : Confined W s t) (hW : ∀ a ∈ evtRegs src.blk src.s, W a) : Confined W s (t.raiseC src) := h.raise hW

theorem Confined.raiseIf {src : Source} {c : Bool} {unit : Nat} (h : Confined W s t) (hW : ∀ a ∈ evtRegs src.blk src.s, W a) :
    Confined W s (t.raiseIf c src unit) :=
  Confined.ite (h.raise hW) h

theorem Confined.raiseAll {src : Source} {units : List Nat} (h : Confined W s t) (hW : ∀ a ∈ evtRegs src.blk src.s, W a) :
    Confined W s (t.raiseAll src units) := by
  have hfold : Confined W s (units.foldl (fun s u => s.raise src u) t) := h.foldl fun _ _ _ hu => hu.raise hW
  exact Confined.ite hfold (hfold.set (hW _ (by simp [evtRegs, EVT_LAST_UNIT, Fld.addr])))

theorem Confined.refuse {b : Block} {r u o : Nat} (h : Confined W s t) (hW : ∀ a ∈ refuseRegs b, W a) : Confined W s (t.refuse b r u o) :=
  ⟨regsWf_refuse h.wf b r u o, fun a ha => (State.word_refuse_other h.wf b r u o fun hm => ha (hW a hm)).trans (h.word a ha), h.cyc, h.part⟩

end Sys2Proof.Machine
end

section
/-! SUPPORT. What SGR and the operations under it write (R441, R464, R473, R480): the coils, the axes, the BLOCK. -/

namespace Sys2Proof.Machine

open Sys2Proof.Safety

variable {W : Nat → Prop} {s t : State}

/-! Coils. -/

/-- The status register of an output. -/
abbrev coilWord (o : Nat) : Nat := 0x14000C + 0x100 * o

theorem Confined.settleFb {o : Nat} (h : Confined W s t) (ho : W (coilWord o)) : Confined W s (t.settleFb o) := by
  have h1 : Confined W s ((t.set CTC_OSTAT_STUCK 0 o).set CTC_OSTAT_WELDED 0 o) := .set (.set h ho) ho
  exact .ite (h1.keep rfl rfl rfl) h

theorem Confined.applyCoil1 {o : Nat} (h : Confined W s t) (ho : W (coilWord o)) : Confined W s (t.applyCoil1 o) := by
  unfold State.applyCoil1
  extract_lets s1 on s2 s3
  have h1 : Confined W s s1 := h.setb ho
  have h2 : Confined W s s2 := h1.setb ho
  have h3 : Confined W s s3 := .ite (h2.inc ho) h2
  exact .ite (.ite h1 (h1.set ho)) (.ite h1 (.ite (.settleFb (h3.keep rfl rfl rfl) ho) h3))

/-- An output and those that follow it. -/
theorem Confined.applyCoil {o : Nat} (h : Confined W s t) (hW : ∀ o < 64, W (coilWord o)) (ho : o < 64) : Confined W s (t.applyCoil o) :=
  (h.applyCoil1 (hW o ho)).foldl fun _ f hf hu => hu.applyCoil1 (hW f (by
    have := List.mem_range.1 (List.mem_filter.1 hf).1
    omega))

theorem Confined.applyCoils (h : Confined W s t) (hW : ∀ o < 64, W (coilWord o)) : Confined W s t.applyCoils := by
  refine h.foldl fun u o ho hu => hu.applyCoil1 (hW o ?_)
  have hmem : o ∈ coils := (List.mem_append.1 ho).elim (fun h => (List.mem_filter.1 h).1) fun h => (List.mem_filter.1 h).1
  have := List.mem_range.1 hmem
  omega

theorem Confined.coilCmd {o : Nat} {on : Bool} (h : Confined W s t) (hW : ∀ o < 64, W (coilWord o)) (ho : o < 64) : Confined W s (t.coilCmd o on) :=
  .applyCoil (.setb h (hW o ho)) hW ho

theorem Confined.forceSgr (h : Confined W s t) (hW : ∀ o < 64, W (coilWord o)) : Confined W s t.forceSgr :=
  .applyCoils (h.keep rfl rfl rfl) hW

/-! The BLOCK (R161). -/

theorem Confined.setRingSt {r : Nat} {x : RingSt} (h : Confined W s t) : Confined W s (t.setRingSt r x) := h.keep rfl rfl rfl
theorem Confined.setFe {i : Nat} {e : FeSt} (h : Confined W s t) : Confined W s (t.setFe i e) := h.keep rfl rfl rfl
theorem Confined.feBlock {i : Nat} (h : Confined W s t) : Confined W s (t.feBlock i) := h.setFe
theorem Confined.sends {fs : List (Nat × Bool × List Byte)} (h : Confined W s t) : Confined W s (t.sends fs) := .ite (h.keep rfl rfl rfl) h

theorem Confined.blockOut (h : Confined W s t) : Confined W s t.blockOut :=
  .ite (.foldl (.foldl h.sends fun _ _ _ hu => hu.setRingSt) fun _ _ _ hu => .ite hu.feBlock hu) h

theorem Confined.block {cause : Nat} (h : Confined W s t) (hW : W 0x051108) : Confined W s (t.block cause) :=
  .blockOut (.set (.set (.set h hW) hW) hW)

/-! The axes (R441, R468, R480). -/

theorem Confined.setAxisSt {n : Nat} {x : AxisSt} (h : Confined W s t) : Confined W s (t.setAxisSt n x) := h.keep rfl rfl rfl

theorem Confined.phasesOff {n : Nat} (h : Confined W s t) (hW : ∀ a ∈ Safety.axisRegs n, W a) : Confined W s (t.phasesOff n) := by
  refine h.foldl fun u p hp hu => ?_
  have hword : W (0x110004 + 0x100 * (3 * n + p)) := hW _ (List.mem_cons_of_mem _ (List.mem_map.2 ⟨p, hp, rfl⟩))
  exact .setb (.setb hu hword) hword

theorem Confined.axisTo {n st : Nat} (h : Confined W s t) (hW : ∀ a ∈ Safety.axisRegs n, W a) : Confined W s (t.axisTo n st) :=
  .phasesOff (.set h (hW _ List.mem_cons_self)) hW

theorem safetyAxisRegs_subset_inhibitRegs {n : Nat} (hn : n < 4) : ∀ a ∈ Safety.axisRegs n, a ∈ inhibitRegs := by decide +revert
theorem axisFunc_mem_inhibitRegs {n : Nat} (hn : n < 4) : 0x130414 + 0x100 * n ∈ inhibitRegs := by decide +revert
theorem evtRegs_axis_subset_inhibitRegs : ∀ a ∈ evtRegs .axis SRC_AXIS_INHIBITED.s, a ∈ inhibitRegs := by decide

section
variable {n : Nat} (h : Confined W s t) (hW : ∀ a ∈ inhibitRegs, W a) (hn : n < 4)
include h hW hn

theorem Confined.inhibitAxis : Confined W s (t.inhibitAxis n) := by
  have haxis : ∀ a ∈ Safety.axisRegs n, W a := fun a ha => hW a (safetyAxisRegs_subset_inhibitRegs hn a ha)
  have hstat : W 0x131110 := hW _ (by decide)
  unfold State.inhibitAxis
  extract_lets st s1
  have h1 : Confined W s s1 := .ite (.set (.set (.set h hstat) hstat) (hW _ (axisFunc_mem_inhibitRegs hn))) h
  exact .ite (.ite (.raise (.axisTo h1 haxis) fun a ha => hW a (evtRegs_axis_subset_inhibitRegs a ha)) (.phasesOff h1 haxis)) h

theorem Confined.strStart : Confined W s (t.strStart n) := by
  have hstat : W 0x131110 := hW _ (by decide)
  exact .ite h (.inhibitAxis (.set (.set (.set h hstat) hstat) (hW _ (axisFunc_mem_inhibitRegs hn))) hW hn)

theorem Confined.sdsStart (hspeed : W (0x130418 + 0x100 * n)) : Confined W s (t.sdsStart n) := by
  have hstat : W 0x131110 := hW _ (by decide)
  have hfunc := hW _ (axisFunc_mem_inhibitRegs hn)
  exact .ite h (.ite (.strStart h hW hn) (.setAxisSt (.set (.set (.set (.set (.set h hstat) hfunc) hfunc) hfunc) hspeed)))

end

/-! The three parts of an SGR: it is noted, its BLOCK and its coils go out, and the axes react. -/

/-- An SGR as noted, with the slots that it waits for (R464, R465). -/
def State.sgrNoted (s : State) : State :=
  let s := ((s.withdrawClose.set SAFE_FSTAT_SGR_ACTIVE 1).set SAFE_FSTAT_SGR_DONE 0).raiseC SRC_SAFE_SGR
  { s with safe := { s.safe with sgrSlots := slots.filter (fun i => s.inService i) } }

/-- The outputs that an SGR forces off, and the breaker that it trips. -/
def State.sgrCoils (s : State) : State :=
  let s := s.forceSgr
  if s.flag SAFE_SGRCFG_SGR_BKR && s.flag FORM_BKR_BKR_EN then { s.bkrTrip with safe := { s.bkrTrip.safe with sgrBkr := true } } else s

/-- What an SGR requests of each axis. -/
def State.sgrAxes (s : State) : State :=
  (List.range 4).reverse.foldl (fun s a =>
    let m := s.get SAFE_AXCFG_SGR_AX a
    if !s.axisEn a then s else if m = 1 then s.sdsStart a else if m = 2 then s.strStart a else s) s

theorem State.sgr_eq (s : State) (cause : Nat) : s.sgr cause = if s.sgrActive then s else ((s.sgrNoted.block cause).sgrCoils).sgrAxes := by
  unfold State.sgr State.sgrAxes State.sgrCoils State.sgrNoted
  with_reducible rfl

/-- The breaker's coils are named in six bits. -/
theorem Confined.withdrawClose (h : Confined W s t) (hW : ∀ o < 64, W (coilWord o)) (hmode : W 0x080304) : Confined W s t.withdrawClose :=
  .ite (.set (.coilCmd h hW (t.get_lt FORM_BKR_CLOSE_CTC 0 0)) hmode) h

theorem Confined.bkrTrip (h : Confined W s t) (hW : ∀ o < 64, W (coilWord o)) (hmode : W 0x080304) : Confined W s t.bkrTrip :=
  .ite (.coilCmd (.coilCmd (.set h hmode) hW (State.get_lt FORM_BKR_CLOSE_CTC 0 0)) hW (State.get_lt FORM_BKR_TRIP_CTC 0 0)) h

theorem Confined.sgrNoted (h : Confined W s t) (hcoil : ∀ o < 64, W (coilWord o)) (hmode : W 0x080304) (hstat : W 0x131110)
    (hevt : ∀ a ∈ evtRegs .safe SRC_SAFE_SGR.s, W a) : Confined W s t.sgrNoted := by
  unfold State.sgrNoted
  extract_lets s1
  have h1 : Confined W s s1 := .raiseC (.set (.set (.withdrawClose h hcoil hmode) hstat) hstat) hevt
  exact h1.keep rfl rfl rfl

theorem Confined.sgrCoils (h : Confined W s t) (hcoil : ∀ o < 64, W (coilWord o)) (hmode : W 0x080304) : Confined W s t.sgrCoils := by
  have h1 : Confined W s t.forceSgr := h.forceSgr hcoil
  exact .ite (.keep (h1.bkrTrip hcoil hmode) rfl rfl rfl) h1

theorem Confined.sgrAxes (h : Confined W s t) (hW : ∀ a ∈ inhibitRegs, W a) (hspeed : ∀ n < 4, W (0x130418 + 0x100 * n)) :
    Confined W s t.sgrAxes := by
  refine h.foldl fun u n hn hu => ?_
  have hn : n < 4 := List.mem_range.1 (List.mem_reverse.1 hn)
  exact .ite hu (.ite (.sdsStart hu hW hn (hspeed n hn)) (.ite (.strStart hu hW hn) hu))

theorem coilWord_mem_sgrRegs : ∀ o < 64, coilWord o ∈ sgrRegs := by decide
theorem inhibitRegs_subset_sgrRegs : ∀ a ∈ inhibitRegs, a ∈ sgrRegs := by decide

/-- The start of an SGR writes the registers that `sgrRegs` lists, and no others (R464). -/
theorem Confined.sgr {cause : Nat} (h : Confined W s t) (hW : ∀ a ∈ sgrRegs, W a) : Confined W s (t.sgr cause) := by
  have hcoil : ∀ o < 64, W (coilWord o) := fun o ho => hW _ (coilWord_mem_sgrRegs o ho)
  have hmode : W 0x080304 := hW _ (by decide)
  have hnoted : Confined W s t.sgrNoted := h.sgrNoted hcoil hmode (hW _ (by decide)) fun a ha => hW a (by revert a; decide)
  rw [State.sgr_eq]
  exact .ite h (.sgrAxes (.sgrCoils (.block hnoted (hW _ (by decide))) hcoil hmode) (fun a ha => hW a (inhibitRegs_subset_sgrRegs a ha))
    fun n hn => hW _ (by decide +revert))

/-! What an SGR leaves of the state's other parts. -/

/-- The state without what an SGR may change. -/
def State.sgrErased (s : State) : State :=
  { s with regs := [], hive := State.reset.hive, safe := State.reset.safe, ctc := State.reset.ctc, drive := State.reset.drive, fes := [],
           pwr := { s.pwr with holdCopy := 0 }, cap := { s.cap with force := false } }

theorem eq_of_sgrErased (h : t.sgrErased = s.sgrErased) :
    t = { s with regs := t.regs, hive := t.hive, safe := t.safe, ctc := t.ctc, drive := t.drive, fes := t.fes, pwr := t.pwr,
                 cap := { s.cap with force := t.cap.force } } := by
  have hcap : t.cap = { s.cap with force := t.cap.force } := by
    have h' : ({ t.cap with force := false } : CapState) = { s.cap with force := false } := congrArg State.cap h
    exact (congrArg (fun c : CapState => { c with force := t.cap.force }) h').trans rfl
  have hall := congrArg (fun x : State => ({ x with regs := t.regs, hive := t.hive, safe := t.safe, ctc := t.ctc, drive := t.drive, fes := t.fes,
                                                     pwr := t.pwr, cap := t.cap } : State)) h
  rw [← hcap]
  exact hall

theorem State.foldl_sgrErased {α : Type} {l : List α} {f : State → α → State} (hf : ∀ u x, (f u x).sgrErased = u.sgrErased) (s : State) :
    (l.foldl f s).sgrErased = s.sgrErased :=
  List.foldlRecOn (motive := fun u => u.sgrErased = s.sgrErased) l f rfl fun u hu x _ => (hf u x).trans hu

/-! Each plain update. The proofs are in brackets so that `simp` takes them as rewrites and leaves the states folded. -/

@[simp] theorem State.set_sgrErased (s : State) (f : Fld) (v u i : Nat) : (s.set f v u i).sgrErased = s.sgrErased := (rfl)
@[simp] theorem State.setb_sgrErased (s : State) (f : Fld) (v : Bool) (u i : Nat) : (s.setb f v u i).sgrErased = s.sgrErased := (rfl)
@[simp] theorem State.inc_sgrErased (s : State) (f : Fld) (u i : Nat) : (s.inc f u i).sgrErased = s.sgrErased := (rfl)
@[simp] theorem State.safe_sgrErased (s : State) (x : SafeState) : ({ s with safe := x } : State).sgrErased = s.sgrErased := (rfl)
@[simp] theorem State.ctc_sgrErased (s : State) (x : CtcState) : ({ s with ctc := x } : State).sgrErased = s.sgrErased := (rfl)
@[simp] theorem State.setAxisSt_sgrErased (s : State) (n : Nat) (x : AxisSt) : (s.setAxisSt n x).sgrErased = s.sgrErased := (rfl)
@[simp] theorem State.setRingSt_sgrErased (s : State) (r : Nat) (x : RingSt) : (s.setRingSt r x).sgrErased = s.sgrErased := (rfl)
@[simp] theorem State.feBlock_sgrErased (s : State) (i : Nat) : (s.feBlock i).sgrErased = s.sgrErased := (rfl)

@[simp] theorem State.sends_sgrErased (s : State) (fs : List (Nat × Bool × List Byte)) : (s.sends fs).sgrErased = s.sgrErased := by
  unfold State.sends
  split <;> rfl

@[simp] theorem State.raise_sgrErased (s : State) (src : Source) (unit : Nat) : (s.raise src unit).sgrErased = s.sgrErased :=
  (congrArg State.sgrErased (s.raise_hold src unit)).trans rfl

/-! Each operation under it. -/

@[simp] theorem State.settleFb_sgrErased (s : State) (o : Nat) : (s.settleFb o).sgrErased = s.sgrErased := by
  unfold State.settleFb
  split <;> rfl

@[simp] theorem State.applyCoil1_sgrErased (s : State) (o : Nat) : (s.applyCoil1 o).sgrErased = s.sgrErased := by
  unfold State.applyCoil1
  extract_lets s1 on s2 s3
  have h1 : s1.sgrErased = s.sgrErased := State.setb_sgrErased ..
  have h2 : s2.sgrErased = s.sgrErased := (State.setb_sgrErased ..).trans h1
  have h3 : s3.sgrErased = s.sgrErased := by
    unfold s3
    split <;> simp [h2]
  split
  · split <;> simp [h1]
  · split
    · exact h1
    · split <;> simp [h3]

@[simp] theorem State.applyCoil_sgrErased (s : State) (o : Nat) : (s.applyCoil o).sgrErased = s.sgrErased := by
  unfold State.applyCoil
  rw [State.foldl_sgrErased (fun u f => u.applyCoil1_sgrErased f), State.applyCoil1_sgrErased]

@[simp] theorem State.applyCoils_sgrErased (s : State) : s.applyCoils.sgrErased = s.sgrErased :=
  State.foldl_sgrErased (fun u o => u.applyCoil1_sgrErased o) s

@[simp] theorem State.coilCmd_sgrErased (s : State) (o : Nat) (on : Bool) : (s.coilCmd o on).sgrErased = s.sgrErased := by
  simp [State.coilCmd]

@[simp] theorem State.withdrawClose_sgrErased (s : State) : s.withdrawClose.sgrErased = s.sgrErased := by
  unfold State.withdrawClose
  split <;> simp

@[simp] theorem State.bkrTrip_sgrErased (s : State) : s.bkrTrip.sgrErased = s.sgrErased := by
  unfold State.bkrTrip
  split <;> simp

@[simp] theorem State.blockOut_sgrErased (s : State) : s.blockOut.sgrErased = s.sgrErased := by
  unfold State.blockOut
  split
  · dsimp only
    rw [State.foldl_sgrErased, State.foldl_sgrErased, State.sends_sgrErased]
    · exact fun u r => State.setRingSt_sgrErased ..
    · intro u i
      split <;> simp
  · rfl

@[simp] theorem State.block_sgrErased (s : State) (cause : Nat) : (s.block cause).sgrErased = s.sgrErased := by
  simp [State.block]

@[simp] theorem State.phasesOff_sgrErased (s : State) (n : Nat) : (s.phasesOff n).sgrErased = s.sgrErased := by
  unfold State.phasesOff
  rw [State.foldl_sgrErased]
  exact fun u p => by simp [State.gates]

@[simp] theorem State.inhibitAxis_sgrErased (s : State) (n : Nat) : (s.inhibitAxis n).sgrErased = s.sgrErased := by
  unfold State.inhibitAxis
  extract_lets st s1
  have h1 : s1.sgrErased = s.sgrErased := by
    unfold s1
    split <;> simp
  split
  · split <;> simp [State.axisTo, h1]
  · rfl

@[simp] theorem State.strStart_sgrErased (s : State) (n : Nat) : (s.strStart n).sgrErased = s.sgrErased := by
  unfold State.strStart
  split <;> simp

@[simp] theorem State.sdsStart_sgrErased (s : State) (n : Nat) : (s.sdsStart n).sgrErased = s.sgrErased := by
  unfold State.sdsStart
  split
  · rfl
  · split <;> simp

@[simp] theorem State.sgrNoted_sgrErased (s : State) : s.sgrNoted.sgrErased = s.sgrErased := by
  simp [State.sgrNoted, State.raiseC]

@[simp] theorem State.sgrCoils_sgrErased (s : State) : s.sgrCoils.sgrErased = s.sgrErased := by
  have hforce : s.forceSgr.sgrErased = s.sgrErased := State.applyCoils_sgrErased _
  unfold State.sgrCoils
  dsimp only
  split
  · exact (State.safe_sgrErased _ _).trans ((State.bkrTrip_sgrErased _).trans hforce)
  · exact hforce

@[simp] theorem State.sgrAxes_sgrErased (s : State) : s.sgrAxes.sgrErased = s.sgrErased := by
  refine State.foldl_sgrErased (fun u n => ?_) s
  dsimp only
  split
  · rfl
  · split
    · simp
    · split <;> simp

/-- An SGR changes registers, the BLOCK, coils, axes and the hold copy, and nothing else. -/
theorem State.sgr_sgrErased (s : State) (cause : Nat) : (s.sgr cause).sgrErased = s.sgrErased := by
  rw [State.sgr_eq]
  split <;> simp

end Sys2Proof.Machine
end

section
/-! SUPPORT. What an SGR shows: SGR_ACTIVE, its event and the BLOCK with its cause stand through the reactions of coils and axes (R464, R480). -/

namespace Sys2Proof.Machine

open Sys2Proof.Safety

variable {s t u : State}

/-! The lower half of SAFE_FSTAT, with SGR_ACTIVE and SGR_DONE: the axes' reactions write STR and SDS above it. -/

/-- The lower half of SAFE_FSTAT is in `t` as in `s`. -/
def KeepsFstatLow (s t : State) : Prop := ∀ lo w, lo + w ≤ 16 → fieldOf (t.word 0x131110) lo w = fieldOf (s.word 0x131110) lo w

theorem KeepsFstatLow.confined (h : KeepsFstatLow s t) (hc : Confined (· ≠ 0x131110) t u) : KeepsFstatLow s u := by
  intro lo w hw
  rw [hc.word _ (by simp)]
  exact h lo w hw

/-- A field in the upper half of the register is written. -/
theorem KeepsFstatLow.set (h : KeepsFstatLow s t) (hwf : regsWf t) (lo w v : Nat) (hlo : 16 ≤ lo) (hf : lo + w ≤ 32) :
    KeepsFstatLow s (t.set ⟨0x131110, 256, 0, lo, w⟩ v) := fun lo' w' hw' =>
  (State.get_set_other hwf ⟨0x131110, 256, 0, lo, w⟩ ⟨0x131110, 256, 0, lo', w'⟩ v 0 0 0 0 hf (.inr (.inl (hw'.trans hlo)))).trans (h lo' w' hw')

theorem KeepsFstatLow.inhibitAxis (h : KeepsFstatLow s t) (hwf : regsWf t) {n : Nat} (hn : n < 4) : KeepsFstatLow s (t.inhibitAxis n) := by
  have haxis : ∀ a ∈ Safety.axisRegs n, a ≠ 0x131110 := by decide +revert
  unfold State.inhibitAxis
  extract_lets st s1
  have h1 : KeepsFstatLow s s1 ∧ regsWf s1 := by
    unfold s1
    split
    · have hsds := h.set hwf 16 4 (t.get SAFE_FSTAT_SDS &&& (15 - 1 <<< n)) (by decide) (by decide)
      have hstr := hsds.set (regsWf_set hwf _ _ _ _) 20 4 (t.get SAFE_FSTAT_STR ||| 1 <<< n) (by decide) (by decide)
      have hwf2 := regsWf_set (regsWf_set hwf SAFE_FSTAT_SDS (t.get SAFE_FSTAT_SDS &&& (15 - 1 <<< n)) 0 0) SAFE_FSTAT_STR
        (t.get SAFE_FSTAT_STR ||| 1 <<< n) 0 0
      exact ⟨hstr.confined (.set (.refl hwf2) (show 0x130414 + 0x100 * n + 0 * 0 ≠ 0x131110 by omega)), regsWf_set hwf2 _ _ _ _⟩
    · exact ⟨h, hwf⟩
  have hto := Confined.axisTo (st := AX_INHIBITED) (Confined.refl h1.2) haxis
  split
  · split
    · exact h1.1.confined (.raise hto (by decide))
    · exact h1.1.confined (.phasesOff (.refl h1.2) haxis)
  · exact h

theorem KeepsFstatLow.strStart (h : KeepsFstatLow s t) (hwf : regsWf t) {n : Nat} (hn : n < 4) : KeepsFstatLow s (t.strStart n) := by
  unfold State.strStart
  split
  · exact h
  · have hstr := h.set hwf 20 4 (t.get SAFE_FSTAT_STR ||| 1 <<< n) (by decide) (by decide)
    have hwf1 := regsWf_set hwf SAFE_FSTAT_STR (t.get SAFE_FSTAT_STR ||| 1 <<< n) 0 0
    have hsds := hstr.set hwf1 16 4 ((t.set SAFE_FSTAT_STR (t.get SAFE_FSTAT_STR ||| 1 <<< n)).get SAFE_FSTAT_SDS &&& (15 - 1 <<< n))
      (by decide) (by decide)
    have hwf2 := regsWf_set hwf1 SAFE_FSTAT_SDS
      ((t.set SAFE_FSTAT_STR (t.get SAFE_FSTAT_STR ||| 1 <<< n)).get SAFE_FSTAT_SDS &&& (15 - 1 <<< n)) 0 0
    exact (hsds.confined (.set (f := SAFE_AXSTAT_FUNC) (.refl hwf2) (show 0x130414 + 0x100 * n + 0 * 0 ≠ 0x131110 by omega))).inhibitAxis
      (regsWf_set hwf2 _ _ _ _) hn

theorem KeepsFstatLow.sdsStart (h : KeepsFstatLow s t) (hwf : regsWf t) {n : Nat} (hn : n < 4) : KeepsFstatLow s (t.sdsStart n) := by
  have hfunc : 0x130414 + 0x100 * n + 0 * 0 ≠ 0x131110 := by omega
  have hspeed : 0x130418 + 0x100 * n + 0 * 0 ≠ 0x131110 := by omega
  unfold State.sdsStart
  split
  · exact h
  · split
    · exact h.strStart hwf hn
    · have hsds := h.set hwf 16 4 (t.get SAFE_FSTAT_SDS ||| 1 <<< n) (by decide) (by decide)
      have hwf1 := regsWf_set hwf SAFE_FSTAT_SDS (t.get SAFE_FSTAT_SDS ||| 1 <<< n) 0 0
      exact hsds.confined (.setAxisSt (.set (.set (.set (.set (.refl hwf1) hfunc) hfunc) hfunc) hspeed))

theorem KeepsFstatLow.sgrAxes (hwf : regsWf s) : KeepsFstatLow s s.sgrAxes := by
  refine (List.foldlRecOn (motive := fun u => KeepsFstatLow s u ∧ Confined (fun _ => True) s u) (List.range 4).reverse _
    ⟨fun _ _ _ => rfl, .refl hwf⟩ fun u hu n hn => ?_).1
  obtain ⟨hlow, hwfu⟩ := hu
  have hn : n < 4 := List.mem_range.1 (List.mem_reverse.1 hn)
  have hall : ∀ a ∈ inhibitRegs, True := fun _ _ => trivial
  dsimp only
  split
  · exact ⟨hlow, hwfu⟩
  · split
    · exact ⟨hlow.sdsStart hwfu.wf hn, hwfu.sdsStart hall hn trivial⟩
    · split
      · exact ⟨hlow.strStart hwfu.wf hn, hwfu.strStart hall hn⟩
      · exact ⟨hlow, hwfu⟩

/-! The SGR. -/

/-- An SGR as noted shows SGR_ACTIVE and its event. -/
theorem State.sgrNoted_shows (hwf : regsWf s) :
    s.sgrNoted.get SAFE_FSTAT_SGR_ACTIVE = 1 ∧ s.sgrNoted.get SAFE_FSTAT_SGR_DONE = 0 ∧
      s.sgrNoted.get ⟨ctrlAddr SRC_SAFE_SGR.blk 0x04, 0, 0, SRC_SAFE_SGR.s, 1⟩ = 1 := by
  have h0 := (Confined.withdrawClose (W := fun _ => True) (Confined.refl hwf) (fun _ _ => trivial) trivial).wf
  have h1 := regsWf_set h0 SAFE_FSTAT_SGR_ACTIVE 1 0 0
  have h2 := regsWf_set h1 SAFE_FSTAT_SGR_DONE 0 0 0
  have hregs : s.sgrNoted.regs = (((s.withdrawClose.set SAFE_FSTAT_SGR_ACTIVE 1).set SAFE_FSTAT_SGR_DONE 0).raiseC SRC_SAFE_SGR).regs := by
    unfold State.sgrNoted
    rfl
  refine ⟨?_, ?_, ?_⟩
  · rw [State.get_congr hregs, State.raiseC, State.get_raise_other h2 _ _ _ _ _ (by decide),
      State.get_set_other h1 _ _ _ _ _ _ _ (by decide) (.inr (by decide)), State.get_set_same h0 _ _ _ _ (by decide)]
    rfl
  · rw [State.get_congr hregs, State.raiseC, State.get_raise_other h2 _ _ _ _ _ (by decide), State.get_set_same h1 _ _ _ _ (by decide)]
    rfl
  · rw [State.get_congr hregs, State.raiseC, State.raise_status h2 _ _ (by decide)]

/-- A BLOCK shows its cause. -/
theorem State.block_shows (hwf : regsWf s) (cause : Nat) :
    (s.block cause).get HIVE_BLOCK_ACTIVE = 1 ∧ (s.block cause).get HIVE_BLOCK_CAUSE = cause % 2 ^ 8 := by
  have h1 := regsWf_set hwf HIVE_BLOCK_ACTIVE 1 0 0
  have h2 := regsWf_set h1 HIVE_BLOCK_CAUSE cause 0 0
  have hout : ∀ {x : State}, regsWf x → ∀ f u i, x.blockOut.get f u i = x.get f u i := fun hx f u i =>
    (Confined.blockOut (W := fun _ => False) (Confined.refl hx)).get f u i id
  rw [State.block, hout (regsWf_set h2 _ _ _ _), hout (regsWf_set h2 _ _ _ _),
    State.get_set_other h2 _ _ _ _ _ _ _ (by decide) (.inr (by decide)), State.get_set_other h1 _ _ _ _ _ _ _ (by decide) (.inr (by decide)),
    State.get_set_same hwf _ _ _ _ (by decide), State.get_set_other h2 _ _ _ _ _ _ _ (by decide) (.inr (by decide)),
    State.get_set_same h1 _ _ _ _ (by decide)]
  exact ⟨rfl, rfl⟩

/-- What an SGR that starts shows (R464). -/
theorem State.sgr_shows (hwf : regsWf s) (hoff : s.sgrActive = false) (cause : Nat) :
    (s.sgr cause).sgrActive = true ∧ (s.sgr cause).flag SAFE_FSTAT_SGR_DONE = false ∧
      (s.sgr cause).flag ⟨ctrlAddr SRC_SAFE_SGR.blk 0x04, 0, 0, SRC_SAFE_SGR.s, 1⟩ = true ∧ (s.sgr cause).flag HIVE_BLOCK_ACTIVE = true ∧
      (s.sgr cause).get HIVE_BLOCK_CAUSE = cause % 2 ^ 8 := by
  have hnoted := Confined.sgrNoted (W := fun _ => True) (Confined.refl hwf) (fun _ _ => trivial) trivial trivial fun _ _ => trivial
  have hblock : Confined (· = 0x051108) s.sgrNoted (s.sgrNoted.block cause) := .block (.refl hnoted.wf) rfl
  have hcoils : Confined (fun a => a ≠ 0x131110 ∧ a ≠ 0x131004 ∧ a ≠ 0x051108) (s.sgrNoted.block cause) (s.sgrNoted.block cause).sgrCoils :=
    .sgrCoils (.refl hblock.wf) (fun o ho => by unfold coilWord; omega) (by decide)
  have haxes : Confined (fun a => a ≠ 0x131004 ∧ a ≠ 0x051108) (s.sgrNoted.block cause).sgrCoils (s.sgrNoted.block cause).sgrCoils.sgrAxes :=
    .sgrAxes (.refl hcoils.wf) (by decide) fun n hn => by omega
  have hlow : KeepsFstatLow (s.sgrNoted.block cause).sgrCoils (s.sgrNoted.block cause).sgrCoils.sgrAxes := .sgrAxes hcoils.wf
  obtain ⟨hactive, hdone, hevt⟩ := State.sgrNoted_shows hwf
  obtain ⟨hblk, hcause⟩ := State.block_shows hnoted.wf cause
  have hfstat : ∀ f : Fld, f.addr 0 0 = 0x131110 → f.lo + f.w ≤ 16 →
      (s.sgrNoted.block cause).sgrCoils.sgrAxes.get f = s.sgrNoted.get f := by
    intro f hf hlow16
    rw [State.get, hf, hlow _ _ hlow16, hcoils.word _ (by decide), hblock.word _ (by decide), ← hf]
    rfl
  rw [State.sgr_eq, if_neg (by simp [hoff])]
  simp only [State.sgrActive, State.flag_eq]
  rw [hfstat SAFE_FSTAT_SGR_ACTIVE rfl (by decide), hfstat SAFE_FSTAT_SGR_DONE rfl (by decide), hactive, hdone,
    haxes.get ⟨ctrlAddr SRC_SAFE_SGR.blk 0x04, 0, 0, SRC_SAFE_SGR.s, 1⟩ 0 0 (by decide),
    hcoils.get ⟨ctrlAddr SRC_SAFE_SGR.blk 0x04, 0, 0, SRC_SAFE_SGR.s, 1⟩ 0 0 (by decide),
    hblock.get ⟨ctrlAddr SRC_SAFE_SGR.blk 0x04, 0, 0, SRC_SAFE_SGR.s, 1⟩ 0 0 (by decide), hevt,
    haxes.get HIVE_BLOCK_ACTIVE 0 0 (by decide), hcoils.get HIVE_BLOCK_ACTIVE 0 0 (by decide), hblk,
    haxes.get HIVE_BLOCK_CAUSE 0 0 (by decide), hcoils.get HIVE_BLOCK_CAUSE 0 0 (by decide), hcause]
  exact ⟨rfl, rfl, rfl, rfl, rfl⟩

/-! ENTER_SAFE (R464). -/

/-- The state with ENTER_SAFE noted. -/
def State.enterSafeNoted (s : State) : State := { s with pwr := { s.pwr with enterSafe := true } }

/-- ENTER_SAFE in READY or a running state starts an SGR with the host cause. -/
theorem opEnterSafe_starts (hstate : (s.pstate == READY || s.inRun) = true) (hoff : s.sgrActive = false) :
    (opEnterSafe s).2 = s.enterSafeNoted.sgr C_HOST := by
  rw [opEnterSafe, if_neg (by simp only [hstate]; decide), if_neg (by simp [hoff]), State.enterSafeNoted]

/-- In any other state it is refused with STATE. -/
theorem opEnterSafe_refused (hstate : (s.pstate == READY || s.inRun) = false) : (opEnterSafe s).2 = s.refuseC .sys STATE 0x02 0x04 := by
  rw [opEnterSafe, if_pos (by simp only [hstate]; decide), State.pwrNo]

end Sys2Proof.Machine
end

section
/-! CERTIFICATE. The requests of a running state, settled. -/

namespace Sys2Proof.Machine

open Sys2Proof.Safety

/-- Settles O42: a request is held in FORM's state and in PENDING, a refusal is the refusal of one block, and ENTER_SAFE is an SGR with the host cause. Which code START_MODE's request holds is the model's choice (log entry 70). -/
theorem runRequestsAreHeldForJudgement : Obligations.RunRequestsAreHeldForJudgement := by
  unfold Obligations.RunRequestsAreHeldForJudgement
  have held : ∀ code, 1 ≤ code ∧ code ≤ 7 → ∀ (s : State), regsWf s → s.pwr.coreUp = true → s.en .form = true → s.follows = false → _ :=
    fun code hcode s => modeCmd_completes (s := s) hcode
  have refused : ∀ code (s : State), regsWf s → s.pwr.coreUp = true → (s.en .form = false ∨ s.follows = true) → _ :=
    fun code s => modeCmd_isRefused (s := s) code
  refine ⟨held M_SYNC (by decide), held M_FORM (by decide), held M_BLACKSTART (by decide), held M_RESYNC (by decide), held M_CLOSE (by decide),
    held M_ISLAND (by decide), held M_STOP (by decide), refused M_SYNC, refused M_FORM, refused M_BLACKSTART, refused M_RESYNC, refused M_CLOSE,
    refused M_ISLAND, refused M_STOP, ?start, ?startShort, ?startRefused, ?startMode, ?noStartMode, ?enterSafe, ?enterSafeRefused⟩
  case start =>
    intro s hwf hup hready hmode hen hsev hsil hlong
    obtain ⟨hform, hpend, honly, hframe⟩ := State.withRequest_shows hwf (s.get FORM_MODE_STAT_START_MODE + 8)
    refine ⟨_, congrArg Host.Outcome.next ((s.live_up hup _).trans (opStart_held hready hmode hen hsev hsil hlong)), hform, hpend, ?_, honly, hframe⟩
    rw [State.pstate, State.get, hframe _ (by decide)]
    exact hready
  case startShort =>
    intro s hwf hup hready hmode hen hsev hsil hshort
    exact ⟨_, congrArg Host.Outcome.next ((s.live_up hup _).trans (opStart_short hready hmode hen hsev hsil hshort)), State.refuse_shows hwf ..⟩
  case startRefused =>
    intro s hwf hup h
    exact ⟨_, congrArg Host.Outcome.next ((s.live_up hup _).trans (opStart_refused h)), State.refuse_shows hwf ..⟩
  case startMode =>
    intro s hwf hup hreq hen hfol
    obtain ⟨hform, hpend, honly, hframe⟩ := State.withRequest_shows (s := { s with cyc := { s.cyc with startReq := false } }) hwf
      (s.get FORM_MODE_STAT_START_MODE)
    exact ⟨_, congrArg Host.Outcome.next ((s.live_up hup _).trans (opStartMode_held hreq hen hfol)), hform, hpend, rfl, rfl, hframe⟩
  case noStartMode =>
    intro s hup hreq
    refine ⟨s, congrArg Host.Outcome.next ((s.live_up hup _).trans ?_), rfl⟩
    rw [opStartMode, if_neg (by simp [hreq])]
  case enterSafe =>
    intro s hwf hup hstate hoff
    have hwf0 : regsWf s.enterSafeNoted := hwf
    have hsgr := Confined.sgr (W := (· ∈ sgrRegs)) (cause := C_HOST) (Confined.refl hwf0) fun _ ha => ha
    obtain ⟨hactive, hdone, hevt, hblk, hcause⟩ := State.sgr_shows hwf0 hoff C_HOST
    have herased := s.enterSafeNoted.sgr_sgrErased C_HOST
    have hpwr : (s.enterSafeNoted.sgr C_HOST).pwr.enterSafe = true := congrArg (fun x : State => x.pwr.enterSafe) herased
    exact ⟨_, congrArg Host.Outcome.next ((s.live_up hup _).trans (opEnterSafe_starts hstate hoff)), hpwr, hactive, hdone, hevt, hblk, hcause,
      (eq_of_sgrErased herased).trans rfl, hsgr.word⟩
  case enterSafeRefused =>
    intro s hwf hup hstate
    exact ⟨_, congrArg Host.Outcome.next ((s.live_up hup _).trans (opEnterSafe_refused hstate)), State.refuse_shows hwf ..⟩

end Sys2Proof.Machine
end

section
/-! CERTIFICATE. The enable of a block, refuted: the enable of COMB takes the registers of a checkpoint as they stand in it (R359). -/

namespace Sys2Proof.Machine

open Sys2Proof.Safety

/-- COMB's check in progress with METR enabled and PLL_A locked, beside a checkpoint that lists COMB's own EN register with EN 0. -/
def enInCheckpoint : State :=
  { State.reset with
    pwr := { State.reset.pwr with coreUp := true }
    regs := [(0x010104, 1#32), (0x0B1000, 1#32)]
    cyc := { State.reset.cyc with checking := [.comb] }
    comb := { State.reset.comb with ckpt := some ⟨0, 0, [(0x1A0000, 0#32)], [], [], 0, []⟩ } }

/-- LOCKED of PLL_A is 0 at reset, whatever the fuses hold of its other bits. -/
theorem resetWord_pllStat_ne_one : 1#32 ≠ resetWord 0x010104 := by
  intro h
  have hbit := congrArg (fun w : Word => w.getLsbD 0) h
  revert hbit
  show (1#32 : Word).getLsbD 0 = (BitVec.ofNat 32 _ ||| (Config.fuse 0x010104 &&& BitVec.ofNat 32 _)).getLsbD 0 → False
  rw [BitVec.getLsbD_or, BitVec.getLsbD_and]
  simp

theorem enInCheckpoint_wf : regsWf enInCheckpoint :=
  (sparseWf_cons _ _ _).2 ⟨resetWord_pllStat_ne_one, by simp, by decide +kernel⟩

/-- Its check passes. -/
theorem enableRefused_enInCheckpoint :
    enableRefused .comb { enInCheckpoint with cyc := { enInCheckpoint.cyc with checking := enInCheckpoint.cyc.checking.filter (· != .comb) } } = none := by
  decide +kernel

/-- The restored registers clear the EN that the check has set. -/
theorem opConfigCheckDone_enInCheckpoint : (opConfigCheckDone .comb enInCheckpoint).en .comb = false := by
  decide +kernel

/-- Refutes O21 by its third clause: nothing bounds the registers that a checkpoint in the state lists, and one that lists COMB's EN with 0 leaves EN 0 after a check that nothing refuses. -/
theorem not_blocksAreEnabledAndDisabled : ¬ Obligations.BlocksAreEnabledAndDisabled := by
  unfold Obligations.BlocksAreEnabledAndDisabled
  rintro ⟨_, _, hdone, _⟩
  obtain ⟨t, hexec, hen, _⟩ := hdone enInCheckpoint .comb enInCheckpoint_wf rfl rfl rfl enableRefused_enInCheckpoint
  have ht : opConfigCheckDone .comb enInCheckpoint = t := Host.Outcome.next.inj hexec
  rw [← ht, opConfigCheckDone_enInCheckpoint] at hen
  exact Bool.false_ne_true hen

end Sys2Proof.Machine
end

section
/-! SUPPORT. The cut point (R24), and registers that pack several items. -/

namespace Sys2Proof.Machine

open Sys2Proof.Safety

variable {s t : State}

/-- The cut point depends on network time, on SYS's EN and on SYS_CYC_STAT. -/
theorem State.pastCut_congr (hen : t.word 0x000000 = s.word 0x000000) (hstat : t.word 0x000114 = s.word 0x000114) (htime : t.time = s.time) :
    t.pastCut = s.pastCut := by
  have hflag : ∀ f : Fld, f.addr 0 0 = 0x000114 → t.flag f = s.flag f := fun f hf => by simp only [State.flag, State.get, hf, hstat]
  have hsys : t.en .sys = s.en .sys := by simp only [State.en, State.flag, State.get, show (CTRL_EN .sys).addr 0 0 = 0x000000 from rfl, hen]
  have hrun : t.running = s.running := hflag SYS_CYC_STAT_RUNNING rfl
  have hperiod : t.period = s.period := congrArg (fun b : Bool => if b then 25000 else 50000) (hflag SYS_CYC_STAT_PROFILE_ACT rfl)
  have hnow : t.now = s.now := congrArg (fun x : TimeState => x.tai / 2 ^ 32) htime
  have hnext : t.nextBoundary = s.nextBoundary := by rw [State.nextBoundary, State.nextBoundary, hnow, hperiod]
  rw [State.pastCut, State.pastCut, hrun, hsys, hnow, hnext]

/-- A request before the cut point is not deferred. -/
theorem State.deferral_inTime (h : s.pastCut = false) : s.deferral = s := by
  rw [State.deferral, if_neg (by simp [h])]

section
variable {f : Fld} {per step k : Nat}

/-- An item written reads back. -/
theorem State.getPk_setPk_same (h : regsWf s) (hper : 0 < per) (hw : f.w ≤ step) (hfit : step * per ≤ 32) (v u : Nat) :
    (s.setPk f per step k v u).getPk f per step k u = v % 2 ^ f.w := by
  have hbit : step * (k % per) + f.w ≤ 32 := by
    have := Nat.mul_le_mul_left step (Nat.succ_le_of_lt (Nat.mod_lt k hper))
    rw [Nat.mul_succ] at this
    omega
  rw [State.getPk, State.setPk, State.word_putWord_same h, fieldOf_withField_same _ _ _ _ hbit]

/-- An item in another register, or in another place of the register, stands. -/
theorem State.getPk_setPk_other (h : regsWf s) (hper : 0 < per) (hw : f.w ≤ step) (hfit : step * per ≤ 32) (hst : 0 < f.st) (v u : Nat) {j : Nat} (hne : j ≠ k) :
    (s.setPk f per step k v u).getPk f per step j u = s.getPk f per step j u := by
  have hplace : ∀ m n : Nat, m < n → step * m + f.w ≤ step * n := fun m n hmn => by
    have := Nat.mul_le_mul_left step (Nat.succ_le_of_lt hmn)
    rw [Nat.mul_succ] at this
    omega
  have hbit := hplace _ _ (Nat.mod_lt k hper)
  simp only [State.getPk, State.setPk]
  by_cases hreg : j / per = k / per
  · have hmod : j % per ≠ k % per := fun e => hne (by rw [← Nat.div_add_mod j per, ← Nat.div_add_mod k per, hreg, e])
    rw [hreg, State.word_putWord_same h, fieldOf_withField_other _ _ _ _ _ _ (by omega)]
    rcases Nat.lt_or_gt_of_ne hmod with hlt | hgt
    · exact .inl (hplace _ _ hlt)
    · exact .inr (hplace _ _ hgt)
  · have haddr : f.addr u (j / per) ≠ f.addr u (k / per) := fun e =>
      hreg (Nat.eq_of_mul_eq_mul_left hst (Nat.add_left_cancel e))
    rw [State.word_putWord_other h _ haddr]

end

end Sys2Proof.Machine
end

section
/-! CERTIFICATE. Allocation targets and stuck moves (R326 to R335), settled. -/

namespace Sys2Proof.Machine

open Sys2Proof.Safety

variable {s : State}

/-- An item of the target word that the block accepts: 0, as it is, or a usable bus of an enabled slot (R326). -/
abbrev targetFits (s : State) (m v k : Nat) : Bool :=
  decide (bitsOf v (4 * k) 4 ≤ 12) &&
    (decide (bitsOf v (4 * k) 4 = 0 ∨ bitsOf v (4 * k) 4 = s.getPk OUT_ALLOC_TGT_TGT 8 4 (8 * m + k)) ||
      (s.flag OUT_BCFG_EN (bitsOf v (4 * k) 4 - 1) && s.bst (bitsOf v (4 * k) 4 - 1) != B_UNAVAILABLE && s.flag CELL_SCFG_SLOT_EN (8 * m + k)))

/-- A word of such targets, before the cut point, is stored whole. -/
theorem opAllocTarget_stored (hwf : regsWf s) {m v : Nat} (hfol : s.follows = false) (hfits : (List.range 8).all (targetFits s m v) = true)
    (hcut : s.pastCut = false) : (opAllocTarget m v s).2 = s.putWord (0x0A1200 + 4 * m) (BitVec.ofNat 32 v) := by
  have hall := List.all_eq_true.1 hfits
  have hrange : ((List.range 8).any fun k => decide (12 < bitsOf v (4 * k) 4)) = false := by
    rw [List.any_eq_false]
    intro k hk
    have := hall k hk
    simp only [targetFits, Bool.and_eq_true, decide_eq_true_eq] at this
    simpa using this.1
  unfold opAllocTarget
  extract_lets ks off bad1 field held _ s1
  have hnone : firstSome field ks = none := firstSome_eq_none fun k hk => by
    have hfit := hall k hk
    simp only [targetFits, Bool.and_eq_true, Bool.or_eq_true, decide_eq_true_eq, bne_iff_ne] at hfit
    obtain ⟨-, hsame | ⟨⟨hen, hst⟩, hslot⟩⟩ := hfit
    · simp only [field]
      rw [if_pos hsame.symm]
    · simp only [field, hen, hst, hslot]
      simp
  have hheld : held = [] := if_neg (by simp [hcut])
  have hs1 : s1 = s := by
    simp only [s1, hheld, List.append_nil]
    rfl
  rw [if_neg (by simp [hfol]), if_neg (by simp [bad1, ks, hrange]), hnone, hs1]
  refine State.deferral_inTime ((State.pastCut_congr (State.word_putWord_other hwf _ ?_) (State.word_putWord_other hwf _ ?_) rfl).trans hcut)
  · show 0x000000 ≠ 0x0A1200 + 0 + 4 * m
    omega
  · show 0x000114 ≠ 0x0A1200 + 0 + 4 * m
    omega

/-- A code above 12 refuses the word with RANGE. -/
theorem opAllocTarget_range {m v : Nat} (hfol : s.follows = false) (hbad : ((List.range 8).any fun k => decide (12 < bitsOf v (4 * k) 4)) = true) :
    (opAllocTarget m v s).2 = s.refuseC .out RANGE 0x12 (4 * m) := by
  unfold opAllocTarget
  extract_lets ks off bad1 field
  rw [if_neg (by simp [hfol]), if_pos hbad]

/-- A move whose selector did not answer, in the step that it remembers. -/
def State.stuck (s : State) (i : Nat) : State := (s.setMoveSt i { s.moveSt i with under := s.allocStep i }).setStep i 7

/-- Settles O47: an accepted word is one register write, a refused one the refusal of OUT, and a stuck move writes its own item of OUT_ALLOC_STEP beside the event. -/
theorem allocationTargetsAndStuckMoves : Obligations.AllocationTargetsAndStuckMoves := by
  unfold Obligations.AllocationTargetsAndStuckMoves
  refine ⟨?stored, ?range, ?stuck, ?other⟩
  case stored =>
    intro s m v hwf hup hfol hfits hcut
    refine ⟨_, congrArg Host.Outcome.next ((s.live_up hup _).trans (opAllocTarget_stored hwf hfol hfits hcut)), ?_, rfl, fun adr hadr =>
      State.word_putWord_other hwf _ (List.ne_of_not_mem_cons hadr)⟩
    rw [State.word_putWord_same hwf, BitVec.ofNat_toNat, BitVec.setWidth_eq]
  case range =>
    intro s m v hwf hup hfol hbad
    obtain ⟨hreason, hunit, hoffset, honly, hframe⟩ := State.refuse_shows hwf .out (Block.out.no * 0x100 + RANGE) 0x12 (4 * m.val)
    exact ⟨_, congrArg Host.Outcome.next ((s.live_up hup _).trans (opAllocTarget_range hfol hbad)), hreason, hunit,
      hoffset.trans (Nat.mod_eq_of_lt (by omega)), honly, hframe⟩
  case stuck =>
    intro s i hwf hup hen hstep hseen hlen
    have hwf1 : regsWf (s.stuck i) := regsWf_setPk (s := s.setMoveSt i { s.moveSt i with under := s.allocStep i }) hwf ..
    have hold := (s.stuck i).raise_hold SRC_OUT_ALLOC_STUCK 0x13
    have haddr : ∀ m < 24, OUT_ALLOC_STEP_STEP.addr 0 m ∉ evtRegs SRC_OUT_ALLOC_STUCK.blk SRC_OUT_ALLOC_STUCK.s := by decide
    have hout : ((s.stuck i).raise SRC_OUT_ALLOC_STUCK 0x13).out = (s.stuck i).out :=
      (congrArg State.out (hold : _ = _)).trans rfl
    have hstepOf : ∀ j < 192, ((s.stuck i).raise SRC_OUT_ALLOC_STUCK 0x13).allocStep j = (s.stuck i).allocStep j := fun j hj => by
      simp only [State.allocStep, State.getPk, State.word_raise_other hwf1 _ _ (haddr (j / 8) (by omega))]
    refine ⟨(s.stuck i).raise SRC_OUT_ALLOC_STUCK 0x13, congrArg Host.Outcome.next ((s.live_up hup _).trans ?_), ?_, ?_, ?_, fun j hj hne => ⟨?_, ?_, ?_⟩⟩
    · rw [opAllocStuck, if_pos ⟨hen, hstep, hseen⟩, State.stuck]
    · rw [hstepOf i i.isLt]
      exact State.getPk_setPk_same (s := s.setMoveSt i { s.moveSt i with under := s.allocStep i }) hwf (by decide) (by decide) (by decide) ..
    · have hmoves : (s.stuck i).out.moves = s.out.moves.set i { s.moveSt i with under := s.allocStep i } := rfl
      rw [State.moveSt, hout, hmoves, List.getD_eq_getElem?_getD, List.getElem?_set_self (by omega)]
      rfl
    · rw [State.flag_eq, State.raise_status hwf1 _ _ (by decide)]
      rfl
    · rw [hstepOf j (List.mem_range.1 hj)]
      exact State.getPk_setPk_other (s := s.setMoveSt i { s.moveSt i with under := s.allocStep i }) hwf (by decide) (by decide) (by decide) (by decide) _ _ hne
    · rw [hout]
      exact hold.trans rfl
    · intro adr hadr
      rw [List.mem_cons, not_or] at hadr
      rw [State.word_raise_other hwf1 _ _ hadr.2]
      exact State.word_putWord_other (s := s.setMoveSt i { s.moveSt i with under := s.allocStep i }) hwf _ hadr.1
  case other =>
    intro s i hup h2 h4
    refine ⟨s, congrArg Host.Outcome.next ((s.live_up hup _).trans ?_), rfl⟩
    rw [opAllocStuck, if_neg]
    rintro ⟨-, h | h, -⟩
    · exact h2 h
    · exact h4 h

end Sys2Proof.Machine
end

section
/-! SUPPORT. The security log's entry (R547, R548): what an append that succeeds writes, and what it leaves. -/

namespace Sys2Proof.Machine

open Sys2Proof.Safety

variable {W : Nat → Prop} {s t : State}

theorem Confined.store {a : Nat} {bs : List Byte} (h : Confined W s t) : Confined W s (t.store a bs) := by
  have hs := State.store_only t a bs
  exact h.keep (State.regs_store t a bs) ((congrArg State.cyc hs).trans rfl) ((congrArg State.part hs).trans rfl)

theorem Confined.mramWrite {a : Nat} {bs : List Byte} (h : Confined W s t) (hW : ∀ a ∈ evtRegs .mem SRC_MEM_MRAM_FAIL.s, W a) :
    Confined W s (t.mramWrite a bs).2 := by
  unfold State.mramWrite
  extract_lets bad s1
  have h1 : Confined W s s1 := h.store
  split
  · show Confined W s (s1.raise SRC_MEM_MRAM_FAIL 4)
    exact .raise h1 hW
  · exact h1

/-- A write that every tile takes is the store alone. -/
theorem State.mramWrite_snd_of_true {a : Nat} {bs : List Byte} (h : (s.mramWrite a bs).1 = true) : (s.mramWrite a bs).2 = s.store a bs := by
  unfold State.mramWrite at *
  dsimp only at *
  split at h
  · exact absurd h Bool.false_ne_true
  · rw [if_neg ‹_›]

/-- The registers of an appended entry: the overrun event, the next sequence number and the four hash words. -/
abbrev logRegs : List Nat := 0x190300 :: (List.range 4).map (0x190310 + 4 * ·) ++ evtRegs .seal SRC_SEAL_LOG_OVERRUN.s

/-- The log's registers after entry `seq` with hash `h`. -/
def State.logNoted (s : State) (overrun : Bool) (seq : Nat) (h : List Byte) : State :=
  (List.range 4).foldl (fun s k => s.set SEAL_LOG_HASH_HASH (leAt h (4 * k) 4) 0 k)
    ((s.raiseIf overrun SRC_SEAL_LOG_OVERRUN 0x03).set SEAL_LOG_NEXT_SEQ (seq + 1))

/-- An append that succeeds is one store and the log's registers. -/
theorem State.logAppend_snd_of_true {kind source addr old new : Nat} {detail : List Byte} (h : (s.logAppend kind source addr old new detail).1 = true) :
    ∃ a bs overrun hash, (s.logAppend kind source addr old new detail).2 = (s.store a bs).logNoted overrun (s.get SEAL_LOG_NEXT_SEQ) hash := by
  unfold State.logAppend
  extract_lets seq time body prev hash w s1 s2
  by_cases hw : w.1 = true
  · refine ⟨MRAM + 0x68000 + 64 * (seq % 1024), body ++ hash, decide (1024 ≤ seq) && decide (w.2.get SEAL_LOG_ACK_SEQ < seq - 1024), hash, ?_⟩
    rw [if_pos hw, ← State.mramWrite_snd_of_true hw]
    rfl
  · have hfail : (s.logAppend kind source addr old new detail).1 = false := by
      unfold State.logAppend
      extract_lets
      rw [if_neg hw]
    exact absurd (hfail.symm.trans h) Bool.false_ne_true

theorem Confined.logNoted {overrun : Bool} {seq : Nat} {hash : List Byte} (h : Confined W s t) (hW : ∀ a ∈ logRegs, W a) :
    Confined W s (t.logNoted overrun seq hash) := by
  have hevt : ∀ a ∈ evtRegs .seal SRC_SEAL_LOG_OVERRUN.s, W a := fun a ha => hW a (List.mem_append_right _ ha)
  refine .foldl (.set (.raiseIf h hevt) (hW _ (by decide))) fun u k hk hu => hu.set (hW _ ?_)
  rw [List.mem_range] at hk
  interval_cases k <;> decide

/-- The sequence number goes up by one. -/
theorem State.get_logNoted (h : regsWf s) (overrun : Bool) (seq : Nat) (hash : List Byte) :
    (s.logNoted overrun seq hash).get SEAL_LOG_NEXT_SEQ = (seq + 1) % 2 ^ 32 := by
  have hwf := regsWf_set (regsWf_raiseIf h overrun SRC_SEAL_LOG_OVERRUN 0x03) SEAL_LOG_NEXT_SEQ (seq + 1) 0 0
  have hhash : Confined (0x190300 < ·) _ (s.logNoted overrun seq hash) :=
    (Confined.refl hwf).foldl fun u k _ hu => hu.set (by
      show 0x190300 < 0x190310 + 256 * 0 + 4 * k
      omega)
  rw [hhash.get SEAL_LOG_NEXT_SEQ 0 0 (by decide), State.get_set_same (regsWf_raiseIf h ..) _ _ _ _ (by decide)]
  rfl

/-- The state without what an entry may touch. -/
def State.logErased (s : State) : State :=
  { s with regs := [], mem := [], poison := [], pwr := { s.pwr with holdCopy := 0 }, cap := { s.cap with force := false } }

theorem State.raiseIf_logErased (s : State) (c : Bool) (src : Source) (unit : Nat) : (s.raiseIf c src unit).logErased = s.logErased := by
  unfold State.raiseIf
  split
  · exact (congrArg State.logErased (s.raise_hold src unit)).trans rfl
  · rfl

theorem State.logNoted_logErased (s : State) (overrun : Bool) (seq : Nat) (hash : List Byte) : (s.logNoted overrun seq hash).logErased = s.logErased :=
  List.foldlRecOn (motive := fun u : State => u.logErased = s.logErased) _ _ (s.raiseIf_logErased overrun SRC_SEAL_LOG_OVERRUN 0x03) fun _ hu _ _ => hu

/-- An append that succeeds: where it writes, the next sequence number, and what stands. -/
theorem State.logAppend_shows (hwf : regsWf s) {kind source addr old new : Nat} {detail : List Byte}
    (h : (s.logAppend kind source addr old new detail).1 = true) :
    Confined (· ∈ logRegs) s (s.logAppend kind source addr old new detail).2 ∧ Logged s (s.logAppend kind source addr old new detail).2 ∧
      (s.logAppend kind source addr old new detail).2.logErased = s.logErased := by
  obtain ⟨a, bs, overrun, hash, heq⟩ := State.logAppend_snd_of_true h
  have hstore : Confined (· ∈ logRegs) s (s.store a bs) := (Confined.refl hwf).store
  rw [heq]
  refine ⟨hstore.logNoted fun _ ha => ha, State.get_logNoted hstore.wf .., ?_⟩
  rw [State.logNoted_logErased, State.store_only]
  rfl

end Sys2Proof.Machine
end

section
/-! SUPPORT. The user layer (R375): every staged value put in force. -/

namespace Sys2Proof.Machine

open Sys2Proof.Safety

variable {W : Nat → Prop} {s t : State}

/-- Words copied from places that the copy does not write: each target holds its source, and the other registers stand. -/
theorem State.foldl_copy {α : Type} (src dst : α → Nat) (h : regsWf s) (l : List α) (hinj : ∀ x ∈ l, ∀ y ∈ l, dst x = dst y → src x = src y)
    (hapart : ∀ x ∈ l, ∀ y ∈ l, src x ≠ dst y) :
    Confined (fun a => ∃ x ∈ l, a = dst x) s (l.foldl (fun s x => s.putWord (dst x) (s.word (src x))) s) ∧
      ∀ x ∈ l, (l.foldl (fun s x => s.putWord (dst x) (s.word (src x))) s).word (dst x) = s.word (src x) := by
  induction l using List.reverseRecOn with
  | nil => exact ⟨Confined.refl h, by simp⟩
  | append_singleton l y ih =>
    have hsub : ∀ x ∈ l, x ∈ l ++ [y] := fun x => List.mem_append_left _
    have hy : y ∈ l ++ [y] := by simp
    obtain ⟨hconf, hval⟩ := ih (fun x hx z hz => hinj x (hsub x hx) z (hsub z hz)) fun x hx z hz => hapart x (hsub x hx) z (hsub z hz)
    simp only [List.foldl_append, List.foldl_cons, List.foldl_nil]
    have hsrc := hconf.word (src y) fun ⟨z, hz, e⟩ => hapart y hy z (hsub z hz) e
    refine ⟨(hconf.mono fun a ⟨z, hz, e⟩ => ⟨z, hsub z hz, e⟩).putWord ⟨y, hy, rfl⟩, fun x hx => ?_⟩
    rw [State.word_putWord hconf.wf]
    split
    · rw [hsrc, hinj x hx y hy ‹_›]
    · rcases List.mem_append.1 hx with hx | hx
      · exact hval x hx
      · exact absurd (congrArg dst (List.mem_singleton.1 hx)) ‹_›

theorem calUnits_lt : ∀ u ∈ calUnits, u < 0x48 := by decide

/-- The word `k` of the staged values of a channel, and of its values in force. -/
abbrev stagedWord (u k : Nat) : Nat := CAL_UCFG_UNIT.addr u 0 + 4 * k
abbrev forceWord (u k : Nat) : Nat := CAL_UCFG_F_UNIT.addr u 0 + 4 * k

theorem State.putInForce_shows (h : regsWf s) :
    Confined (fun a => ∃ u < 0x48, ∃ k < 4, a = forceWord u k) s s.putInForce ∧
      ∀ u ∈ calUnits, ∀ k ∈ List.range 4, s.putInForce.word (forceWord u k) = s.word (stagedWord u k) := by
  have heq : s.putInForce = (calUnits.flatMap fun u => (List.range 4).map fun k => (u, k)).foldl
      (fun s p => s.putWord (forceWord p.1 p.2) (s.word (stagedWord p.1 p.2))) s := by
    rw [List.foldl_flatMap]
    simp only [List.foldl_map]
    rfl
  have hmem : ∀ p : Nat × Nat, p ∈ (calUnits.flatMap fun u => (List.range 4).map fun k => (u, k)) ↔ p.1 ∈ calUnits ∧ p.2 ∈ List.range 4 := fun p => by
    simp only [List.mem_flatMap, List.mem_map, Prod.ext_iff]
    exact ⟨fun ⟨u, hu, k, hk, e1, e2⟩ => ⟨e1 ▸ hu, e2 ▸ hk⟩, fun ⟨hu, hk⟩ => ⟨p.1, hu, p.2, hk, rfl, rfl⟩⟩
  have hbound : ∀ p ∈ (calUnits.flatMap fun u => (List.range 4).map fun k => (u, k)), p.1 < 0x48 ∧ p.2 < 4 := fun p hp =>
    ⟨calUnits_lt _ ((hmem p).1 hp).1, List.mem_range.1 ((hmem p).1 hp).2⟩
  have hcopy := State.foldl_copy (fun p : Nat × Nat => stagedWord p.1 p.2) (fun p => forceWord p.1 p.2) h _
    (fun x hx y hy e => by
      have := hbound x hx
      have := hbound y hy
      simp only [forceWord, stagedWord, Fld.addr, CAL_UCFG_F_UNIT, CAL_UCFG_UNIT] at *
      omega)
    (fun x hx y hy => by
      have := hbound x hx
      have := hbound y hy
      simp only [forceWord, stagedWord, Fld.addr, CAL_UCFG_F_UNIT, CAL_UCFG_UNIT] at *
      omega)
  rw [heq]
  exact ⟨hcopy.1.mono fun a ⟨p, hp, e⟩ => ⟨p.1, (hbound p hp).1, p.2, (hbound p hp).2, e⟩,
    fun u hu k hk => hcopy.2 (u, k) ((hmem _).2 ⟨hu, hk⟩)⟩

/-- The user values take effect: each value in force is the staged one, PENDING is clear and APPLIED raised; other registers stand. -/
theorem State.applyUser_shows (h : regsWf s) :
    Confined (fun a => (0x0C0000 ≤ a ∧ a < 0x0D0000) ∨ a ∈ evtRegs .cal SRC_CAL_APPLIED.s) s s.applyUser ∧
      (∀ u ∈ calUnits, ∀ k ∈ List.range 4, s.applyUser.word (forceWord u k) = s.word (stagedWord u k)) ∧
      s.applyUser.flag CAL_UCMD_PENDING = false ∧
      s.applyUser.flag ⟨ctrlAddr SRC_CAL_APPLIED.blk 0x04, 0, 0, SRC_CAL_APPLIED.s, 1⟩ = true := by
  obtain ⟨hconf, hval⟩ := State.putInForce_shows h
  have hset := regsWf_set hconf.wf CAL_UCMD_PENDING 0 0 0
  have hpage : ∀ u < 0x48, ∀ k < 4, 0x0C0010 ≤ forceWord u k ∧ forceWord u k < 0x0C4810 := fun u hu k hk => by
    simp only [forceWord, Fld.addr, CAL_UCFG_F_UNIT]
    omega
  have hevt : ∀ a ∈ evtRegs SRC_CAL_APPLIED.blk SRC_CAL_APPLIED.s, ¬ (0x0C0010 ≤ a ∧ a < 0x0C4810) := by decide
  refine ⟨?_, fun u hu k hk => ?_, ?_, ?_⟩
  · refine .raiseC (.set (hconf.mono ?_) (.inl (by decide))) fun a ha => .inr ha
    rintro a ⟨u, hu, k, hk, rfl⟩
    have := hpage u hu k hk
    exact .inl (by omega)
  · have hplace := hpage u (calUnits_lt u hu) k (List.mem_range.1 hk)
    rw [State.applyUser, State.raiseC, State.word_raise_other hset _ _ fun hm => hevt _ hm hplace, State.word_set_other hconf.wf, hval u hu k hk]
    show forceWord u k ≠ 0x0C5210
    omega
  · rw [State.applyUser, State.raiseC, State.flag_eq, State.get_raise_other hset _ _ _ _ _ (by decide)]
    exact State.flag_set_zero hconf.wf CAL_UCMD_PENDING 0 0 (by decide)
  · rw [State.applyUser, State.raiseC, State.flag_eq, State.raise_status hset _ _ (by decide)]
    rfl

end Sys2Proof.Machine
end

section
/-! SUPPORT. APPLY of the user layer (R375, R391). -/

namespace Sys2Proof.Machine

open Sys2Proof.Safety

variable {s : State}

/-- Whether an APPLY would change a metered channel (R391). -/
abbrev State.meterLocks (s : State) : Bool :=
  buses.any (fun b => s.en .metr && s.flag METR_MCFG_EN b && (s.staged (2 * b) || s.staged (2 * b + 1)))

theorem opCalApply_closed (h : s.get SEAL_SW_STATE ≠ 1) : opCalApply s = (false, s.refuseC .cal SEAL_CLOSED 0x52 0x10) := by
  rw [opCalApply, if_pos h]

section
variable (hopen : s.get SEAL_SW_STATE = 1)
include hopen

theorem opCalApply_unchecked {r : Nat × Nat × Nat} (h : checkStaged s = some r) : opCalApply s = (false, s.refuseC .cal r.1 r.2.1 r.2.2) := by
  rw [opCalApply, if_neg (by simp [hopen]), h]

variable (hcheck : checkStaged s = none)
include hcheck

theorem opCalApply_locked (h : s.meterLocks = true) : opCalApply s = (false, s.refuseC .cal LOCKED 0x52 0x10) := by
  rw [opCalApply, if_neg (by simp [hopen]), hcheck]
  dsimp only
  split
  · rfl
  · next hnone => exact absurd h (by simpa [State.meterLocks] using hnone)

/-- An APPLY that is accepted and logged: PENDING behind the log's entry, and the values in force at once outside the running states. -/
theorem opCalApply_accepted {w : Bool × State} (hw : s.logAppend 10 0 0x0C5210 (s.word 0x0C5210).toNat 2 [] = w) (hlock : s.meterLocks = false)
    (hlog : w.1 = true) :
    opCalApply s = if (w.2.set CAL_UCMD_PENDING 1).inRun then
        (true, { (w.2.set CAL_UCMD_PENDING 1).deferral with
                 cal := { (w.2.set CAL_UCMD_PENDING 1).deferral.cal with userLate := (w.2.set CAL_UCMD_PENDING 1).pastCut } })
      else (true, (w.2.set CAL_UCMD_PENDING 1).applyUser) := by
  have hnone : buses.find? (fun b => s.en .metr && s.flag METR_MCFG_EN b && (s.staged (2 * b) || s.staged (2 * b + 1))) = none := by
    simpa [State.meterLocks] using hlock
  rw [opCalApply, if_neg (by simp [hopen]), hcheck, hnone]
  dsimp only
  rw [hw, if_pos hlog]

end

end Sys2Proof.Machine
end

section
/-! SUPPORT. The live estimator (R378, R379): one equation of the inverter current, and an equation without its reference. -/

namespace Sys2Proof.Machine

open Sys2Proof.Safety

variable {W : Nat → Prop} {s : State}

/-- A counter goes up by one and stops at its last value. -/
theorem State.get_inc_same (h : regsWf s) (f : Fld) (u i : Nat) (hf : f.lo + f.w ≤ 32) :
    (s.inc f u i).get f u i = min (2 ^ f.w - 1) (s.get f u i + 1) := by
  have hlt := s.get_lt f u i
  have hmin : satInc (2 ^ f.w - 1) (s.get f u i) = min (2 ^ f.w - 1) (s.get f u i + 1) := by
    unfold satInc
    split <;> omega
  rw [State.inc_eq, State.get_set_same h f _ u i hf, hmin]
  exact Nat.mod_eq_of_lt (by omega)

/-- A state whose estimates are `slots`, and whose registers, hold copy and capture force may differ. -/
def State.estimated (s : State) (slots : List CalSlot) (regs : List (Nat × Word)) (hold : Nat) (force : Bool) : State :=
  { s with regs := regs, cal := { s.cal with slots := slots }, pwr := { s.pwr with holdCopy := hold }, cap := { s.cap with force := force } }

/-- `t` is `s` with the estimates `slots`, but for registers, the hold copy and the capture's force. -/
def Estimated (s t : State) (slots : List CalSlot) : Prop := ∃ regs hold force, t = s.estimated slots regs hold force

section
variable {t : State} {slots : List CalSlot} (h : Estimated s t slots)
include h

theorem Estimated.set (f : Fld) (v u i : Nat) : Estimated s (t.set f v u i) slots := by
  obtain ⟨r, hold, force, rfl⟩ := h
  exact ⟨_, hold, force, rfl⟩

theorem Estimated.setCalSlot (i : Nat) (x : CalSlot) : Estimated s (t.setCalSlot i x) (slots.set i x) := by
  obtain ⟨r, hold, force, rfl⟩ := h
  exact ⟨r, hold, force, rfl⟩

theorem Estimated.raiseIf (c : Bool) (src : Source) (unit : Nat) : Estimated s (t.raiseIf c src unit) slots := by
  obtain ⟨r, hold, force, rfl⟩ := h
  unfold State.raiseIf
  split
  · exact ⟨_, _, _, (State.raise_hold _ src unit).trans rfl⟩
  · exact ⟨r, hold, force, rfl⟩

theorem Estimated.calSlot (i : Nat) : t.calSlot i = slots.getD i ⟨[], [], none, none, []⟩ := by
  obtain ⟨r, hold, force, rfl⟩ := h
  rfl

theorem Estimated.cal : t.cal = { s.cal with slots := slots } := by
  obtain ⟨r, hold, force, rfl⟩ := h
  rfl

theorem Estimated.frame : t = { s with regs := t.regs, cal := t.cal, pwr := { s.pwr with holdCopy := t.pwr.holdCopy },
                                        cap := { s.cap with force := t.cap.force } } := by
  obtain ⟨r, hold, force, rfl⟩ := h
  rfl

end

/-- A slot's record after the projection of one equation on channel `k`, in time for the boundary (R379). -/
abbrev CalSlot.project (c : CalSlot) (k : Nat) (v1 err den : Int) : CalSlot :=
  let e := c.est.getD k (0, 0)
  let e' := (clampInt (-trimBound) trimBound (e.1 + rdiv (err * v1) den), clampInt (-trimBound) trimBound (e.2 + rdiv (err * one) den))
  { c with est := c.est.set k e', tgt := c.tgt.set k e' }

/-- The registers of one projection on slot `i`, and of one equation of it. -/
abbrev trimRegs (i : Nat) : List Nat := CAL_T_STAT_NEQ.addr i 0 :: evtRegs SRC_CAL_TRIM_LIMIT.blk SRC_CAL_TRIM_LIMIT.s
abbrev estRegs (i : Nat) : List Nat := CAL_ESTAT_ACC.base :: trimRegs i

theorem Estimated.calUpdate {t : State} {slots : List CalSlot} (h : Estimated s t slots) (k i : Nat) (v1 err den : Int) :
    Estimated s (t.calUpdate false k i v1 err den) (slots.set i ((t.calSlot i).project k v1 err den)) := by
  unfold State.calUpdate
  extract_lets c e g o e' hit s1 was s2
  have h1 : Estimated s s1 _ := h.setCalSlot i _
  have h2 : Estimated s s2 _ := h1.set ..
  exact (h2.raiseIf ..).set ..

/-- A second write of a slot's record replaces the first; a slot outside the list has none. -/
theorem State.calSlot_set_set {l : List CalSlot} {i : Nat} {x dflt : CalSlot} (g : CalSlot → CalSlot) :
    (l.set i x).set i (g ((l.set i x).getD i dflt)) = l.set i (g x) := by
  by_cases hi : i < l.length
  · rw [List.set_set, List.getD_eq_getElem?_getD, List.getElem?_set_self hi, Option.getD_some]
  · have hlen := Nat.le_of_not_lt hi
    rw [List.set_eq_of_length_le hlen, List.set_eq_of_length_le hlen, List.set_eq_of_length_le hlen]

/-- An accepted equation of the inverter current: the slot's estimates and span, and nothing else beside registers. -/
theorem State.calOne_estimated (s : State) (i : Nat) (ref v1 : Int) :
    let e := (s.calSlot i).est.getD 0 (0, 0)
    let err := ((ref - v1) * 1000000 * ppm - (e.1 * v1 + e.2 * one)) * ((s.inc CAL_ESTAT_ACC).get CAL_EST_MU : Nat)
    let c := (s.calSlot i).project 0 v1 err ((v1 * v1 + one * one) * 2 ^ 16)
    Estimated s (s.calOne false 0 i ref v1) (s.cal.slots.set i { c with spanI := widen (s.calSlot i).spanI ref }) := by
  intro e err c
  unfold State.calOne
  extract_lets err0 s1 s2 c2 s3
  have h1 : Estimated s s1 s.cal.slots := .set ⟨s.regs, s.pwr.holdCopy, s.cap.force, rfl⟩ ..
  have h2 : Estimated s s2 (s.cal.slots.set i c) := h1.calUpdate 0 i v1 err _
  have h3 : Estimated s s3 ((s.cal.slots.set i c).set i { c2 with spanI := widen c2.spanI ref }) := h2.setCalSlot i _
  have hc2 : c2 = (s.cal.slots.set i c).getD i ⟨[], [], none, none, []⟩ := h2.calSlot i
  rw [hc2, State.calSlot_set_set fun c => { c with spanI := widen c.spanI ref }] at h3
  exact h3.set ..

theorem Confined.calUpdate {t : State} {late : Bool} {k i : Nat} {v1 err den : Int} (h : Confined W s t) (hW : ∀ a ∈ trimRegs i, W a) :
    Confined W s (t.calUpdate late k i v1 err den) := by
  have hstat : W (CAL_T_STAT_NEQ.addr i 0) := hW _ (by simp)
  have hevt : ∀ a ∈ evtRegs SRC_CAL_TRIM_LIMIT.blk SRC_CAL_TRIM_LIMIT.s, W a := fun a ha => hW a (by simp [ha])
  unfold State.calUpdate
  extract_lets c e g o e' hit s1 was s2
  have h1 : Confined W s s1 := h.keep rfl rfl rfl
  have h2 : Confined W s s2 := h1.setb hstat
  exact .inc (.raiseIf h2 hevt) hstat

/-- An equation of slot `i` writes the estimator's registers and those of the slot. -/
theorem State.calOne_confined (h : regsWf s) (late : Bool) (k i : Nat) (ref v1 : Int) : Confined (· ∈ estRegs i) s (s.calOne late k i ref v1) := by
  have hstat : CAL_T_STAT_NEQ.addr i 0 ∈ estRegs i := by simp
  unfold State.calOne
  extract_lets e err s1 s2 c s3
  have h1 : Confined (· ∈ estRegs i) s s1 := (Confined.refl h).inc List.mem_cons_self
  have h2 : Confined (· ∈ estRegs i) s s2 := h1.calUpdate fun a ha => List.mem_cons_of_mem _ ha
  have h3 : Confined (· ∈ estRegs i) s s3 := h2.keep rfl rfl rfl
  exact h3.setb hstat

theorem trimStat_not_mem_evtRegs {i : Nat} (hi : i < 192) : CAL_T_STAT_NEQ.addr i 0 ∉ evtRegs SRC_CAL_TRIM_LIMIT.blk SRC_CAL_TRIM_LIMIT.s := by
  have hevt : ∀ a ∈ evtRegs SRC_CAL_TRIM_LIMIT.blk SRC_CAL_TRIM_LIMIT.s, a < 0x0C600C ∨ 0x1000000 ≤ a := by decide
  intro hm
  have := hevt _ hm
  simp only [Fld.addr, CAL_T_STAT_NEQ] at this
  omega

/-- The number of equations of a slot goes up by one. -/
theorem State.get_calUpdate_neq (h : regsWf s) (late : Bool) (k i : Nat) (hk : k < 3) (hi : i < 192) (v1 err den : Int) :
    (s.calUpdate late k i v1 err den).get CAL_T_STAT_NEQ i = min 65535 (s.get CAL_T_STAT_NEQ i + 1) := by
  unfold State.calUpdate
  extract_lets c e g o e' hit s1 was s2
  have h1 : regsWf s1 := h
  have h2 : s2.get CAL_T_STAT_NEQ i = s.get CAL_T_STAT_NEQ i := by
    refine State.get_set_other (s := s1) h1 _ _ _ _ _ _ _ ?_ ?_
    · show 11 + k + 1 ≤ 32
      omega
    · refine .inr (.inr ?_)
      show 11 + k + 1 ≤ 16
      omega
  have h3 : Confined (· ∈ evtRegs SRC_CAL_TRIM_LIMIT.blk SRC_CAL_TRIM_LIMIT.s) s2 (s2.raiseIf (hit && !was) SRC_CAL_TRIM_LIMIT (0x60 + i / 16)) :=
    .raiseIf (.refl (regsWf_setb h1 _ _ _ _)) fun _ ha => ha
  rw [State.get_inc_same h3.wf _ _ _ (by decide), h3.get _ _ _ (trimStat_not_mem_evtRegs hi), h2]
  rfl

/-- QUAL of a slot leaves its count of equations, and other registers. -/
theorem State.get_qualify (h : regsWf s) {k : Nat} (hk : k < 3) (i : Nat) (g : Fld) (u : Nat) (hd : g.addr u 0 ≠ CAL_T_STAT_NEQ.addr i 0 ∨ 16 ≤ g.lo) :
    (s.qualify k i).get g u = s.get g u := by
  refine State.get_set_other h _ g _ _ _ _ _ ?_ (hd.imp id fun hlo => .inr ?_)
  · show 8 + k + 1 ≤ 32
    omega
  · show 8 + k + 1 ≤ g.lo
    omega

/-- One equation more is counted, for the block and for the slot. -/
theorem State.calOne_counts (h : regsWf s) (late : Bool) (k i : Nat) (hk : k < 3) (hi : i < 192) (ref v1 : Int) :
    (s.calOne late k i ref v1).get CAL_ESTAT_ACC = min 65535 (s.get CAL_ESTAT_ACC + 1) ∧
      (s.calOne late k i ref v1).get CAL_T_STAT_NEQ i = min 65535 (s.get CAL_T_STAT_NEQ i + 1) := by
  have hne : CAL_ESTAT_ACC.addr 0 0 ≠ CAL_T_STAT_NEQ.addr i 0 := by
    simp only [Fld.addr, CAL_T_STAT_NEQ, CAL_ESTAT_ACC]
    omega
  unfold State.calOne
  extract_lets e err s1 s2 c s3
  have h1 : regsWf s1 := regsWf_inc h _ _ _
  have h2 : Confined (· ∈ trimRegs i) s1 s2 := (Confined.refl h1).calUpdate fun a ha => ha
  have h3 : regsWf s3 := h2.wf
  have hacc : CAL_ESTAT_ACC.addr 0 0 ∉ trimRegs i := fun hm => (List.mem_cons.1 hm).elim hne fun hm => absurd hm (by decide)
  have hneq : s1.get CAL_T_STAT_NEQ i = s.get CAL_T_STAT_NEQ i := State.get_set_other h _ _ _ _ _ _ _ (by decide) (.inl hne.symm)
  constructor
  · rw [State.get_qualify h3 hk i _ _ (.inl hne)]
    exact (h2.get _ _ _ hacc).trans (State.get_inc_same h _ _ _ (by decide))
  · rw [State.get_qualify h3 hk i _ _ (.inr (by decide)), ← hneq]
    exact State.get_calUpdate_neq h1 late k i hk hi v1 _ _

/-- The estimator with its oldest held cycle taken. -/
def State.afterSnap (s : State) (rest : List CalSnap) : State := { s with cal := { s.cal with snaps := rest } }

/-- The oldest held cycle is taken once its references have arrived, before the cut point. -/
theorem opCalEstimate_takes {c : CalSnap} {rest : List CalSnap} (hsnaps : s.cal.snaps = c :: rest) (hen : s.en .cal = true) (hcut : s.pastCut = false)
    (harr : ∀ n ∈ s.calChannels c, s.calArrived c.stamp n = true) :
    opCalEstimate s = (s.afterSnap rest).calCycle false c := by
  have hall : (s.calChannels c).all (fun n => s.calArrived c.stamp n) = true := List.all_eq_true.2 harr
  unfold opCalEstimate
  rw [hsnaps]
  dsimp only
  rw [if_pos (by simp [hen, hall]), State.deferral_inTime hcut, hcut, Bool.or_false]
  rfl

/-- A cycle that holds one equation of the inverter current. -/
abbrev CalSnap.ofIac (stamp i j : Nat) (v : Int) : CalSnap := ⟨stamp, [(i, j, v, true)], []⟩

theorem State.calCycle_ofIac (late : Bool) (stamp i : Nat) {j : Nat} (v : Int) (hj : j < s.phases) :
    s.calCycle late (.ofIac stamp i j v) =
      s.calJudge late (s.flag CAL_EST_EN_IAC) 0 i ((s.calRef (ICONV + j) stamp).map fun q => perUnit q s.ipk) v true := by
  have href : s.strRef j = some (ICONV + j) := if_pos hj
  show s.calJudge late (s.flag CAL_EST_EN_IAC) 0 i (match s.strRef j with
    | some n => (s.calRef n stamp).map (fun q => perUnit q s.ipk)
    | none => none) v true = _
  rw [href]

theorem State.calChannels_ofIac {stamp i j : Nat} {v : Int} (hj : j < s.phases) : ∀ n ∈ s.calChannels (.ofIac stamp i j v), n = ICONV + j := by
  intro n hn
  simp only [State.calChannels, List.flatMap_nil, List.append_nil, List.mem_filterMap] at hn
  obtain ⟨j', -, h⟩ := hn
  by_cases hjj : j = j'
  · subst hjj
    simpa [State.strRef, hj, eq_comm] using h
  · simp [hjj] at h

end Sys2Proof.Machine
end

section
/-! CERTIFICATE. APPLY of the user layer and one cycle of the estimator (R375 to R380), settled. -/

namespace Sys2Proof.Machine

open Sys2Proof.Safety

variable {s : State}

/-- An APPLY that is accepted and logged: up to its effect, PENDING behind the log's entry. -/
theorem opCalApply_pending (hwf : regsWf s) (hopen : s.get SEAL_SW_STATE = 1) (hcheck : checkStaged s = none) (hlock : s.meterLocks = false)
    (hlog : (s.logAppend 10 0 0x0C5210 (s.word 0x0C5210).toNat 2 []).1 = true) :
    ∃ u, Confined (· ∈ 0x0C5210 :: logRegs) s u ∧ Logged s u ∧ u.logErased = s.logErased ∧ u.flag CAL_UCMD_PENDING = true ∧
      opCalApply s = if u.inRun then (true, { u.deferral with cal := { u.deferral.cal with userLate := u.pastCut } }) else (true, u.applyUser) := by
  have heq := opCalApply_accepted hopen hcheck rfl hlock hlog
  obtain ⟨hconf, hseq, hrest⟩ := State.logAppend_shows hwf hlog
  generalize s.logAppend 10 0 0x0C5210 (s.word 0x0C5210).toNat 2 [] = w at heq hconf hseq hrest
  exact ⟨w.2.set CAL_UCMD_PENDING 1, .set (hconf.mono fun a ha => List.mem_cons_of_mem _ ha) List.mem_cons_self,
    (State.get_set_other hconf.wf _ SEAL_LOG_NEXT_SEQ _ _ _ _ _ (by decide) (.inl (by decide))).trans hseq, hrest,
    State.flag_set_one hconf.wf CAL_UCMD_PENDING 0 0 (by decide) rfl, heq⟩

/-- An entry in the log leaves the staged values and the values in force. -/
theorem userWord_not_mem {a : Nat} (h : 0x0C0000 ≤ a ∧ a < 0x0C4810) : a ∉ 0x0C5210 :: logRegs := by
  have hout : ∀ a ∈ 0x0C5210 :: logRegs, ¬ (0x0C0000 ≤ a ∧ a < 0x0C4810) := by decide
  exact fun hm => hout a hm h

theorem stagedWord_mem_page {u k : Nat} (hu : u ∈ calUnits) (hk : k ∈ List.range 4) : 0x0C0000 ≤ stagedWord u k ∧ stagedWord u k < 0x0C4810 := by
  have := calUnits_lt u hu
  have := List.mem_range.1 hk
  simp only [stagedWord, Fld.addr, CAL_UCFG_UNIT]
  omega

theorem forceWord_mem_page {u k : Nat} (hu : u ∈ calUnits) (hk : k ∈ List.range 4) : 0x0C0000 ≤ forceWord u k ∧ forceWord u k < 0x0C4810 := by
  have := calUnits_lt u hu
  have := List.mem_range.1 hk
  simp only [forceWord, Fld.addr, CAL_UCFG_F_UNIT]
  omega

/-- An append leaves the cut point, and whether the device is in a running state. -/
theorem Confined.inRun_of_logged {t : State} (h : Confined (· ∈ 0x0C5210 :: logRegs) s t) : t.inRun = s.inRun := by
  have hstate : t.pstate = s.pstate := h.get SYS_PWR_STATE_STATE 0 0 (by decide)
  simp only [State.inRun, hstate]

theorem Confined.pastCut_of_logged {t : State} (h : Confined (· ∈ 0x0C5210 :: logRegs) s t) (hrest : t.logErased = s.logErased) :
    t.pastCut = s.pastCut := by
  have htime : t.logErased.time = s.logErased.time := congrArg State.time hrest
  exact State.pastCut_congr (h.word _ (by decide)) (h.word _ (by decide)) htime

/-- Settles O54: an accepted APPLY is the log's entry and then either PENDING or the copy of the staged words; an equation of one slot is one projection, and every other case of the two commands is a refusal or the state itself. -/
theorem userCalibrationAndTheEstimator : Obligations.UserCalibrationAndTheEstimator := by
  unfold Obligations.UserCalibrationAndTheEstimator
  refine ⟨?atOnce, ?pending, ?closed, ?unchecked, ?locked, ?discarded, ?taken, ?idle, ?waits⟩
  case atOnce =>
    intro s hwf hup hopen hcheck hlock hrun hlog
    obtain ⟨u, hu, hseq, -, -, heq⟩ := opCalApply_pending hwf hopen hcheck hlock hlog
    obtain ⟨hconf, hval, hpend, happlied⟩ := State.applyUser_shows hu.wf
    refine ⟨u.applyUser, congrArg Host.Outcome.next ((s.live_up hup _).trans ?_), fun n hn k hk => ⟨?_, hpend, happlied, ?_⟩⟩
    · rw [heq, hu.inRun_of_logged, hrun]
      rfl
    · exact (hval n hn k hk).trans (hu.word _ (userWord_not_mem (stagedWord_mem_page hn hk)))
    · exact (hconf.get SEAL_LOG_NEXT_SEQ 0 0 (by decide)).trans hseq
  case pending =>
    intro s hwf hup hopen hcheck hlock hrun hcut hlog
    obtain ⟨u, hu, hseq, hrest, hpend, heq⟩ := opCalApply_pending hwf hopen hcheck hlock hlog
    have hcut' : u.pastCut = false := (hu.pastCut_of_logged hrest).trans hcut
    have hcal : u.logErased.cal = s.logErased.cal := congrArg State.cal hrest
    refine ⟨{ u with cal := { u.cal with userLate := false } }, congrArg Host.Outcome.next ((s.live_up hup _).trans ?_), hpend, ?_, hseq,
      fun n hn k hk => hu.word _ (userWord_not_mem (forceWord_mem_page hn hk))⟩
    · rw [heq, hu.inRun_of_logged, hrun, if_pos rfl, State.deferral_inTime hcut', hcut']
    · exact congrArg (fun c : CalState => { c with userLate := false }) hcal
  case closed =>
    intro s hwf hup hclosed
    exact ⟨_, congrArg Host.Outcome.next ((s.live_up hup _).trans (congrArg Prod.snd (opCalApply_closed hclosed))), State.refuse_shows hwf ..⟩
  case unchecked =>
    intro s r hwf hup hopen hcheck hr
    obtain ⟨hreason, -, -, honly, hframe⟩ := State.refuse_shows hwf .cal (Block.cal.no * 0x100 + r.1) r.2.1 r.2.2
    refine ⟨_, congrArg Host.Outcome.next ((s.live_up hup _).trans (congrArg Prod.snd (opCalApply_unchecked hopen hcheck))), ?_, ?_, honly, hframe⟩
    · refine hreason.trans (Nat.mod_eq_of_lt ?_)
      show 0x0C * 0x100 + r.1 < 0x10000
      omega
    · simp only [State.flag, State.get]
      rw [State.refuseC, hframe _ (by decide)]
  case locked =>
    intro s hwf hup hopen hcheck hlock
    exact ⟨_, congrArg Host.Outcome.next ((s.live_up hup _).trans (congrArg Prod.snd (opCalApply_locked hopen hcheck hlock))), State.refuse_shows hwf ..⟩
  case discarded =>
    intro s stamp i j v rest hwf hup hsnaps hen hcut hj hoff
    have harr : ∀ n ∈ s.calChannels (.ofIac stamp i j v), s.calArrived stamp n = true := fun n hn => by
      rw [State.calChannels_ofIac hj n hn, State.calArrived, hoff]
      rfl
    have href : (s.afterSnap rest).calRef (ICONV + j) stamp = none := if_neg (by
      show ¬ ((s.dsmOn (ICONV + j) && _) = true)
      simp [hoff])
    refine ⟨(s.afterSnap rest).inc CAL_ESTAT_REJ, congrArg Host.Outcome.next ((s.live_up hup _).trans ?_), rfl,
      State.get_inc_same (s := s.afterSnap rest) hwf _ _ _ (by decide), rfl, fun adr hadr =>
      State.word_set_other (s := s.afterSnap rest) hwf _ _ _ _ (List.ne_of_not_mem_cons hadr)⟩
    rw [opCalEstimate_takes hsnaps hen hcut harr, State.calCycle_ofIac (s := s.afterSnap rest) _ _ _ _ hj, href]
    rfl
  case taken =>
    intro s stamp i j v rest q hwf hup hsnaps hen hcut hj harr href hiac
    have hall : ∀ n ∈ s.calChannels (.ofIac stamp i j v), s.calArrived stamp n = true := fun n hn => by
      rw [State.calChannels_ofIac hj n hn]
      exact harr
    have href0 : (s.afterSnap rest).calRef (ICONV + j) stamp = some q := href
    have hmu : ((s.afterSnap rest).inc CAL_ESTAT_ACC).get CAL_EST_MU = s.get CAL_EST_MU :=
      State.get_set_other (s := s.afterSnap rest) hwf _ _ _ _ _ _ _ (by decide) (.inl (by decide))
    have hest := (s.afterSnap rest).calOne_estimated i.val (perUnit q s.ipk) v
    obtain ⟨hacc, hneq⟩ := State.calOne_counts (s := s.afterSnap rest) hwf false 0 i.val (by decide) i.isLt (perUnit q s.ipk) v
    refine ⟨(s.afterSnap rest).calOne false 0 i.val (perUnit q s.ipk) v, congrArg Host.Outcome.next ((s.live_up hup _).trans ?_), ?_, hacc, hneq, hest.frame,
      (State.calOne_confined (s := s.afterSnap rest) hwf ..).word⟩
    · have hiac' : (s.afterSnap rest).flag CAL_EST_EN_IAC = true := hiac
      rw [opCalEstimate_takes hsnaps hen hcut hall, State.calCycle_ofIac (s := s.afterSnap rest) _ _ _ _ hj, href0, hiac']
      rfl
    · rw [hest.cal, hmu]
      rfl
  case idle =>
    intro s hup h
    refine ⟨s, congrArg Host.Outcome.next ((s.live_up hup _).trans ?_), rfl⟩
    unfold opCalEstimate
    split
    · rfl
    · next c rest hsnaps =>
      rcases h with h | h
      · exact absurd (hsnaps.symm.trans h) (List.cons_ne_nil _ _)
      · rw [if_neg (by simp [h])]
  case waits =>
    intro s c rest hup hsnaps hany
    obtain ⟨n, hn, hwait⟩ := List.any_eq_true.1 hany
    simp only [Bool.and_eq_true, decide_eq_true_eq] at hwait
    have harr : s.calArrived c.stamp n = false := by simp [State.calArrived, hwait.1, hwait.2]
    refine ⟨s, congrArg Host.Outcome.next ((s.live_up hup _).trans ?_), rfl⟩
    unfold opCalEstimate
    rw [hsnaps]
    dsimp only
    rw [if_neg]
    intro h
    have hall := List.all_eq_true.1 (Bool.and_eq_true_iff.1 h).2 n hn
    exact absurd (harr.symm.trans hall) Bool.false_ne_true

end Sys2Proof.Machine
end

section
/-! SUPPORT. What a snapshot brings (R517): the registers and the parts that a follower takes, and those that a device takes that goes on from it. -/

namespace Sys2Proof.Machine

open Sys2Proof.Safety

variable {W : Nat → Prop} {s t : State}

theorem Confined.setCombSt {i : Nat} {c : CombSlot} (h : Confined W s t) : Confined W s (t.setCombSt i c) := h.keep rfl rfl rfl
theorem Confined.setModSlot {i : Nat} {m : ModSlot} (h : Confined W s t) : Confined W s (t.setModSlot i m) := h.keep rfl rfl rfl

theorem Confined.adoptReg {p : Nat × Word} (h : Confined W s t) (hp : W p.1) : Confined W s (t.adoptReg p) :=
  .ite (h.putWord hp) (h.putWord hp)

theorem Confined.adoptRegs {x : Snapshot} {blks : List Nat} (h : Confined W s t) (hW : ∀ a, a / 0x10000 ∈ blks → W a) :
    Confined W s (t.adoptRegs x blks) :=
  h.foldl fun _ p hp hu => hu.adoptReg (hW p.1 (by simpa using (List.mem_filter.1 hp).2))

theorem Confined.countStrings (h : Confined W s t) (hW : ∀ j < 3, W (0x06C120 + 4 * j)) : Confined W s t.countStrings := by
  refine h.foldl fun u j hj hu => ?_
  have hword : W (0x06C120 + 4 * j) := hW j (by
    revert j
    decide)
  exact .set (hu.set hword) hword

theorem Confined.outShow (h : Confined W s t) (hbus : ∀ b < 12, W (0x0A001C + 0x100 * b)) (hstat : W 0x0A1110) : Confined W s t.outShow := by
  refine .set (.foldl h fun u b hb hu => ?_) hstat
  have hword := hbus b (List.mem_range.1 hb)
  exact .set (.set (.set hu hword) hword) hword

theorem Confined.stepFix {i : Nat} (h : Confined W s t) : Confined W s (t.stepFix i) := by
  unfold State.stepFix
  extract_lets m
  split
  · exact h.setModSlot
  · exact h

theorem Confined.missSets (h : Confined W s t) (n : Nat) : Confined W s (t.missSets n) := by
  induction n generalizing t with
  | zero => exact h
  | succ n ih => exact ih (h.foldl fun _ _ _ hu => .ite hu.setModSlot hu.stepFix)

theorem Confined.combFlag {i k : Nat} {v : Bool} (h : Confined W s t) (hi : W (COMB_SSTAT_FLAGS.addr i 0)) : Confined W s (t.combFlag i k v) :=
  .ite (h.set hi) h

theorem Confined.combCounts (h : Confined W s t) (hW : W 0x1A0030) : Confined W s t.combCounts := .set (.set h hW) hW

theorem Confined.opSignQueueEnter (h : Confined W s t) (hW : W 0x1A0030) : Confined W s (opSignQueueEnter t) := by
  unfold Machine.opSignQueueEnter
  split
  · exact .ite (.combCounts (h.keep rfl rfl rfl) hW) h
  · exact h

theorem Confined.reissue {i : Nat} (h : Confined W s t) : Confined W s (t.reissue i) := h.keep rfl rfl rfl

theorem Confined.resign (h : Confined W s t) (hW : W 0x1A0030) : Confined W s t.resign := by
  unfold State.resign
  split
  · exact h
  · exact .foldl (.foldl (h.keep rfl rfl rfl) fun _ _ _ hu => hu.reissue) fun _ _ _ hu => hu.opSignQueueEnter hW

theorem Confined.markSessions (h : Confined W s t) (hW : ∀ i < 256, W (COMB_SSTAT_FLAGS.addr i 0)) : Confined W s t.markSessions :=
  h.foldl fun _ i hi hu => hu.combFlag (hW i (List.mem_range.1 (List.mem_filter.1 hi).1))

theorem Confined.adoptCoils {x : Snapshot} (h : Confined W s t) (hW : ∀ o < 64, W (coilWord o)) : Confined W s (t.adoptCoils x) :=
  .applyCoils (h.foldl fun _ o ho hu => .ite (hu.setb (hW o (by
    have := List.mem_range.1 ho
    omega))) hu) hW

theorem Confined.adoptMod {x : Snapshot} (h : Confined W s t) : Confined W s (t.adoptMod x) := by
  unfold State.adoptMod
  extract_lets gap s1
  have h1 : Confined W s s1 := h.keep rfl rfl rfl
  exact .ite (h1.missSets _) h1

theorem Confined.followHash {x : Snapshot} (h : Confined W s t) : Confined W s (t.followHash x) := by
  unfold State.followHash
  extract_lets last shown
  split
  · exact h.keep rfl rfl rfl
  · exact h

/-! Adopting a snapshot leaves PART's registers and SYS_PWR_STATE, up to the state that it carries. -/

/-- Registers outside PART's page and SYS_PWR_STATE. -/
abbrev outsidePart (a : Nat) : Prop := a / 0x10000 ≠ 0x16 ∧ a ≠ 0x000200

theorem outsidePart_coilWord : ∀ o < 64, outsidePart (coilWord o) := by decide

/-- The outputs that the partner shows energised. -/
def State.withEnergised (s : State) (m : Nat) : State := { s with part := { s.part with energised := m } }

/-- The follower's part of a snapshot: beside PART's energised mask nothing of PART. -/
theorem State.followSnapshot_confined (h : regsWf s) (x : Snapshot) :
    Confined outsidePart (s.withEnergised x.energised) (s.followSnapshot x) := by
  unfold State.followSnapshot
  extract_lets delays s1 s2 s3 part s4 s5 s6
  have h1 : Confined outsidePart s s1 := (Confined.refl h).adoptRegs fun a ha => by
    simp only [List.mem_cons, List.not_mem_nil, or_false] at ha
    exact ⟨by omega, by omega⟩
  have h2 : Confined outsidePart s s2 := h1.foldl fun u p hp hu => hu.adoptReg (by
    have hp := (List.mem_filter.1 hp).2
    simp only [Bool.and_eq_true, decide_eq_true_eq, HIVE_RDLY_DLY_A] at hp
    exact ⟨by omega, by omega⟩)
  have h3 : Confined outsidePart s s3 := h2.foldl fun _ _ _ hu => hu.setCombSt
  have h4 : Confined outsidePart (s.withEnergised x.energised) s4 :=
    ⟨h3.wf, h3.word, h3.cyc, congrArg (fun p : PartState => { p with energised := x.energised }) h3.part⟩
  have h5 : Confined outsidePart (s.withEnergised x.energised) s5 := h4.set (by decide)
  have h6 : Confined outsidePart (s.withEnergised x.energised) s6 := by
    unfold s6
    split
    · exact h5.mramWrite (by decide)
    · exact h5
  exact .applyCoils (.outShow (.countStrings h6.followHash (by decide)) (by decide) (by decide)) outsidePart_coilWord

end Sys2Proof.Machine
end

section
/-! SUPPORT. Going on from a snapshot, and the role of a device (R514, R515, R518). -/

namespace Sys2Proof.Machine

open Sys2Proof.Safety

variable {s t : State}

/-- The registers that a snapshot carries, and its power state with the cause. -/
def State.adoptPwr (s : State) (x : Snapshot) : State :=
  (((s.followSnapshot x).adoptRegs x [0x05, 0x07, 0x08, 0x09, 0x13]).set SYS_PWR_STATE_STATE x.pwr).set SYS_PWR_STATE_SAFE_CAUSE x.cause

/-- The other blocks, from what the snapshot carries of them. -/
def State.adoptBlocks (s : State) (x : Snapshot) : State :=
  let s := { s.adoptForm x with law := x.law, safe := x.safe }
  let s := (s.adoptMod x).setb FORM_MODE_STAT_PENDING s.form.req.isSome
  let s := (s.adoptCoils x).markSessions.resign
  if s.flag HIVE_BLOCK_ACTIVE then s.block (s.get HIVE_BLOCK_CAUSE) else s

theorem State.adoptAll_eq (s : State) (x : Snapshot) : s.adoptAll x = (s.adoptPwr x).adoptBlocks x := by
  unfold State.adoptAll State.adoptBlocks State.adoptPwr
  with_reducible rfl

theorem State.adoptBlocks_confined (h : regsWf s) (x : Snapshot) : Confined outsidePart s (s.adoptBlocks x) := by
  have hflags : ∀ i < 256, outsidePart (COMB_SSTAT_FLAGS.addr i 0) := fun i hi => by
    simp only [outsidePart, Fld.addr, COMB_SSTAT_FLAGS]
    omega
  unfold State.adoptBlocks
  extract_lets form s1 s2 s3
  have h1 : Confined outsidePart s s1 := (Confined.refl h).keep rfl rfl rfl
  have h2 : Confined outsidePart s s2 := .setb h1.adoptMod (by decide)
  have h3 : Confined outsidePart s s3 := .resign (.markSessions (.adoptCoils h2 outsidePart_coilWord) hflags) (by decide)
  exact .ite (h3.block (by decide)) h3

/-- A device that goes on from a snapshot: PART's registers stand, and its power state is the snapshot's. -/
theorem State.adoptAll_shows (h : regsWf s) (x : Snapshot) :
    regsWf (s.adoptAll x) ∧ (∀ a, a / 0x10000 = 0x16 → (s.adoptAll x).word a = s.word a) ∧
      (s.adoptAll x).part = { s.part with energised := x.energised } ∧ (s.adoptAll x).pstate = x.pwr % 16 ∧
      (s.adoptAll x).flag SYS_PWR_STATE_STANDBY = s.flag SYS_PWR_STATE_STANDBY := by
  have h1 : Confined outsidePart (s.withEnergised x.energised) ((s.followSnapshot x).adoptRegs x [0x05, 0x07, 0x08, 0x09, 0x13]) :=
    (State.followSnapshot_confined h x).adoptRegs fun a ha => by
      simp only [List.mem_cons, List.not_mem_nil, or_false] at ha
      exact ⟨by omega, by omega⟩
  have hset := regsWf_set h1.wf SYS_PWR_STATE_STATE x.pwr 0 0
  have h2 : Confined (fun a => a / 0x10000 ≠ 0x16) (s.withEnergised x.energised) (s.adoptPwr x) :=
    .set (.set (h1.mono fun _ ha => ha.1) (by decide)) (by decide)
  have h3 := State.adoptBlocks_confined h2.wf x
  rw [State.adoptAll_eq]
  refine ⟨h3.wf, fun a ha => (h3.word a fun hm => hm.1 ha).trans (h2.word a fun hm => hm ha), h3.part.trans h2.part, ?_, ?_⟩
  · refine (h3.get SYS_PWR_STATE_STATE 0 0 (by decide)).trans ?_
    rw [State.adoptPwr, State.get_set_other hset _ _ _ _ _ _ _ (by decide) (.inr (.inl (by decide))), State.get_set_same h1.wf _ _ _ _ (by decide)]
    rfl
  · refine (h3.flag SYS_PWR_STATE_STANDBY 0 0 (by decide)).trans ?_
    rw [State.flag_eq, State.adoptPwr, State.get_set_other hset _ _ _ _ _ _ _ (by decide) (.inr (.inl (by decide))),
      State.get_set_other h1.wf _ _ _ _ _ _ _ (by decide) (.inr (.inr (by decide))), h1.get _ _ _ (by decide)]
    rfl

/-! Roles. -/

/-- The registers of a change of role. -/
abbrev roleRegs : List Nat :=
  [PART_STAT_ROLE.base, SYS_PWR_STATE_STATE.base, PART_LAST_TAI_TAI.base, PART_LAST_TAI_TAI.base + 4] ++ evtRegs SRC_PART_NOT_READY.blk SRC_PART_NOT_READY.s

/-- `t` is `s` but for registers, PART's state, the hold copy and the capture's force. -/
def PartHold (s t : State) : Prop :=
  ∃ regs part hold force, t = { s with regs := regs, part := part, pwr := { s.pwr with holdCopy := hold }, cap := { s.cap with force := force } }

theorem PartHold.refl (s : State) : PartHold s s := ⟨s.regs, s.part, s.pwr.holdCopy, s.cap.force, rfl⟩

theorem PartHold.frame (h : PartHold s t) :
    t = { s with regs := t.regs, part := t.part, pwr := { s.pwr with holdCopy := t.pwr.holdCopy }, cap := { s.cap with force := t.cap.force } } := by
  obtain ⟨r, p, hold, force, rfl⟩ := h
  rfl

theorem PartHold.set (h : PartHold s t) (f : Fld) (v u i : Nat) : PartHold s (t.set f v u i) := by
  obtain ⟨r, p, hold, force, rfl⟩ := h
  exact ⟨_, p, hold, force, rfl⟩

theorem PartHold.raise (h : PartHold s t) (src : Source) (unit : Nat) : PartHold s (t.raise src unit) := by
  obtain ⟨r, p, hold, force, rfl⟩ := h
  exact ⟨_, p, _, _, (State.raise_hold _ src unit).trans rfl⟩

theorem PartHold.toRole (h : PartHold s t) (r : Nat) : PartHold s (t.toRole r) := by
  unfold State.toRole
  split
  · exact h
  · obtain ⟨regs, p, hold, force, rfl⟩ := h
    unfold State.raiseIf
    split
    · exact .raise ⟨_, _, hold, force, rfl⟩ _ _
    · exact ⟨_, _, hold, force, rfl⟩

theorem PartHold.judgeReady (h : PartHold s t) : PartHold s t.judgeReady := by
  unfold State.judgeReady
  split
  · exact (h.set ..).toRole _
  · exact h

/-- What a change of role leaves of PART's state: the snapshot and the energised mask. -/
theorem State.toRole_part (s : State) (r : Nat) : (s.toRole r).part = if s.role = r then s.part else { s.part with take := none, swap := none, want := false } := by
  unfold State.toRole
  split
  · rfl
  · unfold State.raiseIf
    split
    · exact (congrArg State.part (State.raise_hold _ _ _ : _ = _)).trans rfl
    · rfl

theorem State.toRole_snap (s : State) (r : Nat) : (s.toRole r).part.snap = s.part.snap ∧ (s.toRole r).part.energised = s.part.energised := by
  rw [State.toRole_part]
  split <;> exact ⟨rfl, rfl⟩

/-- A role as taken, without its event. -/
def State.roleTaken (s : State) (r : Nat) : State :=
  let s := (s.set PART_STAT_ROLE r).setb SYS_PWR_STATE_STANDBY (r == STANDBY)
  let s := s.set64 PART_LAST_TAI_TAI (s.get64 SYS_CYC_START_TAI)
  let s := { s with part := { s.part with take := none, swap := none, want := false } }
  s.set PART_STAT_HANDOVER_PEND 0

theorem State.toRole_eq (s : State) (r : Nat) :
    s.toRole r = if s.role = r then s else (s.roleTaken r).raiseIf (r == NOT_READY) SRC_PART_NOT_READY 0x02 := by
  unfold State.toRole State.roleTaken
  with_reducible rfl

section
variable (h : regsWf s) (r : Nat)
include h

theorem State.roleTaken_wf : regsWf (s.roleTaken r) :=
  regsWf_set (s := { (((s.set PART_STAT_ROLE r).setb SYS_PWR_STATE_STANDBY (r == STANDBY)).set64 PART_LAST_TAI_TAI _) with part := _ })
    (regsWf_set64 (regsWf_setb (regsWf_set h _ _ _ _) _ _ _ _) _ _ _ _) _ _ _ _

theorem State.word_roleTaken {a : Nat}
    (ha : a ∉ [PART_STAT_ROLE.base, SYS_PWR_STATE_STATE.base, PART_LAST_TAI_TAI.base, PART_LAST_TAI_TAI.base + 4]) :
    (s.roleTaken r).word a = s.word a := by
  have hconf : Confined (· ∈ [PART_STAT_ROLE.base, SYS_PWR_STATE_STATE.base, PART_LAST_TAI_TAI.base, PART_LAST_TAI_TAI.base + 4]) s
      ((((s.set PART_STAT_ROLE r).setb SYS_PWR_STATE_STANDBY (r == STANDBY)).set64 PART_LAST_TAI_TAI
        (((s.set PART_STAT_ROLE r).setb SYS_PWR_STATE_STANDBY (r == STANDBY)).get64 SYS_CYC_START_TAI)).set PART_STAT_HANDOVER_PEND 0) :=
    .set (.set64 (.setb (.set (.refl h) (by decide)) (by decide)) (by decide) (by decide)) (by decide)
  exact hconf.word a ha

/-- Beside the time of the change and HANDOVER_PEND a change of role writes ROLE and STANDBY. -/
theorem State.get_roleTaken (g : Fld) (ha : g.addr 0 0 ≠ 0x160218 ∧ g.addr 0 0 ≠ 0x16021C)
    (hpend : g.addr 0 0 ≠ 0x160204 ∨ g.lo + g.w ≤ 6 ∨ 7 ≤ g.lo) :
    (s.roleTaken r).get g = ((s.set PART_STAT_ROLE r).setb SYS_PWR_STATE_STANDBY (r == STANDBY)).get g := by
  have w2 := regsWf_setb (regsWf_set h PART_STAT_ROLE r 0 0) SYS_PWR_STATE_STANDBY (r == STANDBY) 0 0
  have w3 := regsWf_set64 w2 PART_LAST_TAI_TAI (((s.set PART_STAT_ROLE r).setb SYS_PWR_STATE_STANDBY (r == STANDBY)).get64 SYS_CYC_START_TAI) 0 0
  have h4 := State.get_set_other w3 PART_STAT_HANDOVER_PEND g 0 0 0 0 0 (by decide) hpend
  exact h4.trans ((State.get_putWord_other (regsWf_putWord w2 _ _) g _ _ 0 0 ha.2).trans (State.get_putWord_other w2 g _ _ 0 0 ha.1))

theorem State.roleTaken_role (hr : r < 8) : (s.roleTaken r).role = r := by
  have w1 := regsWf_set h PART_STAT_ROLE r 0 0
  rw [State.role, State.get_roleTaken h r _ (by decide) (.inr (.inl (by decide))), State.setb_eq,
    State.get_set_other w1 _ _ _ _ _ _ _ (by decide) (.inl (by decide)), State.get_set_same h _ _ _ _ (by decide)]
  exact Nat.mod_eq_of_lt hr

theorem State.roleTaken_nrCause : (s.roleTaken r).get PART_STAT_NR_CAUSE = s.get PART_STAT_NR_CAUSE := by
  have w1 := regsWf_set h PART_STAT_ROLE r 0 0
  rw [State.get_roleTaken h r _ (by decide) (.inr (.inr (by decide))), State.setb_eq,
    State.get_set_other w1 _ _ _ _ _ _ _ (by decide) (.inl (by decide)), State.get_set_other h _ _ _ _ _ _ _ (by decide) (.inr (.inr (by decide)))]

theorem State.roleTaken_standby : (s.roleTaken r).flag SYS_PWR_STATE_STANDBY = (r == STANDBY) := by
  have w1 := regsWf_set h PART_STAT_ROLE r 0 0
  rw [State.flag_eq, State.get_roleTaken h r _ (by decide) (.inl (by decide)), State.setb_eq, State.get_set_same w1 _ _ _ _ (by decide)]
  cases r == STANDBY <;> rfl

/-- A change of role: the role shows, the readiness cause stands, and only the registers of a change of role are written. -/
theorem State.toRole_shows (hr : r < 8) :
    regsWf (s.toRole r) ∧ (s.toRole r).role = r ∧ (s.toRole r).get PART_STAT_NR_CAUSE = s.get PART_STAT_NR_CAUSE ∧
      ∀ a, a ∉ roleRegs → (s.toRole r).word a = s.word a := by
  rw [State.toRole_eq]
  split
  · next hrole => exact ⟨h, hrole, rfl, fun _ _ => rfl⟩
  · have hconf : Confined (· ∈ evtRegs .part SRC_PART_NOT_READY.s) (s.roleTaken r)
        ((s.roleTaken r).raiseIf (r == NOT_READY) SRC_PART_NOT_READY 0x02) := .raiseIf (.refl (State.roleTaken_wf h r)) fun _ ha => ha
    refine ⟨hconf.wf, (hconf.get _ _ _ (by decide)).trans (State.roleTaken_role h r hr),
      (hconf.get _ _ _ (by decide)).trans (State.roleTaken_nrCause h r), fun a ha => ?_⟩
    rw [List.mem_append, not_or] at ha
    exact (hconf.word a ha.2).trans (State.word_roleTaken h r ha.1)

end

/-- The cause of an unready device is a code of R515. -/
theorem State.nrCause_lt (s : State) : s.nrCause < 16 := by
  unfold State.nrCause
  extract_lets lanes
  split
  · decide
  · split
    · decide
    · split_ifs <;> decide

/-- A follower's readiness judged: its role is STANDBY with no cause, else NOT_READY. -/
theorem State.judgeReady_role (h : regsWf s) (hfol : s.follows = true) (htake : s.part.take = none) :
    s.judgeReady.role = if s.judgeReady.get PART_STAT_NR_CAUSE = 0 then STANDBY else NOT_READY := by
  have hset := regsWf_set h PART_STAT_NR_CAUSE s.nrCause 0 0
  have hcause : (s.set PART_STAT_NR_CAUSE s.nrCause).get PART_STAT_NR_CAUSE = s.nrCause :=
    (State.get_set_same h _ _ _ _ (by decide)).trans (Nat.mod_eq_of_lt s.nrCause_lt)
  have hr : (if s.nrCause = 0 then STANDBY else NOT_READY) < 8 := by split <;> decide
  obtain ⟨-, hrole, hnr, -⟩ := State.toRole_shows hset _ hr
  unfold State.judgeReady
  rw [if_pos (by simp [hfol, htake])]
  dsimp only
  rw [hrole, hnr, hcause]

/-- What a judgement of readiness writes, and what it leaves of PART's state. -/
theorem State.judgeReady_shows (h : regsWf s) :
    regsWf s.judgeReady ∧ (∀ a, a ∉ roleRegs → s.judgeReady.word a = s.word a) ∧ s.judgeReady.part.snap = s.part.snap ∧
      s.judgeReady.part.energised = s.part.energised := by
  unfold State.judgeReady
  split
  · extract_lets c
    have hr : (if c = 0 then STANDBY else NOT_READY) < 8 := by split <;> decide
    obtain ⟨hwf, -, -, hword⟩ := State.toRole_shows (regsWf_set h PART_STAT_NR_CAUSE c 0 0) _ hr
    refine ⟨hwf, fun a ha => (hword a ha).trans (State.word_set_other h _ _ _ _ (List.ne_of_not_mem_cons ha)), State.toRole_snap ..⟩
  · exact ⟨h, fun _ _ => rfl, rfl, rfl⟩

theorem Confined.makeSevere {W : Nat → Prop} {b : Block} {n : Nat} (h : Confined W s t) (hsev : W (Fld.addr ⟨ctrlAddr b 0x10, 0, 0, n, 1⟩ 0 0)) (hcount : W ((FLT_N_WCNT b).addr 0 n))
    (hhold : W 0x000214) : Confined W s (t.makeSevere b n) := by
  have hold := t.makeSevere_hold b n
  have w1 := regsWf_set h.wf ⟨ctrlAddr b 0x10, 0, 0, n, 1⟩ 1 0 0
  have w2 := regsWf_set w1 (FLT_N_WCNT b) 0 0 n
  refine ⟨regsWf_makeSevere h.wf b n, fun a ha => ?_, (congrArg State.cyc hold).trans h.cyc, (congrArg State.part hold).trans h.part⟩
  have hne : ∀ c, W c → a ≠ c := fun c hc e => ha (e ▸ hc)
  have hset : (((t.set ⟨ctrlAddr b 0x10, 0, 0, n, 1⟩ 1).set (FLT_N_WCNT b) 0 0 n).word a) = s.word a := by
    rw [State.word_set_other w1 _ _ _ _ (hne _ hcount), State.word_set_other h.wf _ _ _ _ (hne _ hsev), h.word a ha]
  unfold State.makeSevere
  dsimp only
  split
  · rw [State.word_severeTrigger, State.word_holdBit_other w2 _ _ (hne _ hhold), hset]
  · exact hset

/-- After the STATUS bit an event leaves the STATUS register. -/
theorem State.raise_status_confined (h : regsWf s) (src : Source) (unit : Nat) :
    Confined (· ≠ ctrlAddr src.blk 0x04) (s.set ⟨ctrlAddr src.blk 0x04, 0, 0, src.s, 1⟩ 1) (s.raise src unit) := by
  have hne : ∀ m, m ≠ 0x04 → ctrlAddr src.blk m ≠ ctrlAddr src.blk 0x04 := fun m hm e => hm (ctrlAddr_inj e)
  have hcount : ctrlAddr src.blk 0x40 + 0 * 0 + 8 * src.s ≠ ctrlAddr src.blk 0x04 := by
    unfold ctrlAddr
    omega
  have hwindow : 0x1000000 + ctrlAddr src.blk 0x40 + 0 * 0 + 8 * src.s ≠ ctrlAddr src.blk 0x04 := by
    unfold ctrlAddr
    omega
  have hhold : 0x000214 ≠ ctrlAddr src.blk 0x04 := by cases src.blk <;> decide
  have h1 : Confined (· ≠ ctrlAddr src.blk 0x04) (s.set ⟨ctrlAddr src.blk 0x04, 0, 0, src.s, 1⟩ 1) (s.noted src unit) :=
    (Confined.refl (regsWf_set h _ _ _ _)).putWord (hne _ (by decide))
  have h2 : Confined (· ≠ ctrlAddr src.blk 0x04) (s.set ⟨ctrlAddr src.blk 0x04, 0, 0, src.s, 1⟩ 1) (s.tallied src unit) := h1.inc hcount
  have h3 : Confined (· ≠ ctrlAddr src.blk 0x04) (s.set ⟨ctrlAddr src.blk 0x04, 0, 0, src.s, 1⟩ 1) (s.latched src unit) := .ite (h2.set hwindow) h2
  rcases s.raise_cases src unit with ⟨_, e⟩ | ⟨_, e | e | ⟨k, e⟩⟩ <;> rw [e]
  · exact h1
  · exact h2
  · exact h3.makeSevere (by simpa [Fld.addr] using hne 0x10 (by decide)) hcount hhold
  · exact h3.set hcount

/-- Another event of the block leaves a STATUS bit (R97). -/
theorem State.raise_status_other (h : regsWf s) (src : Source) (unit : Nat) (hs : src.s < 16) {n : Nat} (hne : n ≠ src.s) :
    (s.raise src unit).get ⟨ctrlAddr src.blk 0x04, 0, 0, n, 1⟩ = s.get ⟨ctrlAddr src.blk 0x04, 0, 0, n, 1⟩ := by
  have hstatus : (⟨ctrlAddr src.blk 0x04, 0, 0, n, 1⟩ : Fld).addr 0 0 = ctrlAddr src.blk 0x04 := by simp [Fld.addr]
  have hw := State.raise_status_confined h src unit
  refine (hw.get _ 0 0 (not_not.2 hstatus)).trans (State.get_set_other h _ _ _ _ _ _ _ ?_ (.inr ?_))
  · show src.s + 1 ≤ 32
    omega
  · show n + 1 ≤ src.s ∨ src.s + 1 ≤ n
    omega

end Sys2Proof.Machine
end

section
/-! CERTIFICATE. Control passes between the devices of a pair (R517 to R523), settled. -/

namespace Sys2Proof.Machine

open Sys2Proof.Safety

variable {s t : State}

theorem State.en_part_congr (h : t.word 0x160000 = s.word 0x160000) : t.en .part = s.en .part := by
  simp only [State.en, State.flag, State.get, show (CTRL_EN .part).addr 0 0 = 0x160000 from rfl, h]

theorem State.role_congr (h : t.word 0x160204 = s.word 0x160204) : t.role = s.role := by
  simp only [State.role, State.get, show PART_STAT_ROLE.addr 0 0 = 0x160204 from rfl, h]

/-- A counter goes up by one, and saturates. -/
theorem State.get_inc_satInc (h : regsWf s) (f : Fld) (u i : Nat) (hf : f.lo + f.w ≤ 32) :
    (s.inc f u i).get f u i = satInc (2 ^ f.w - 1) (s.get f u i) := by
  rw [State.get_inc_same h f u i hf, satInc]
  have hlt := s.get_lt f u i
  split <;> omega

/-- A snapshot kept, with age 0. -/
def State.withSnap (s : State) (x : Snapshot) : State := ({ s with part := { s.part with snap := some x } } : State).set PART_SNAP_AGE 0

/-- A device that hears snapshots. -/
abbrev State.hears (s : State) : Bool := s.en .part && (s.follows || s.part.adopt)

theorem opSnapshotRx_kept {x : Snapshot} (hhear : s.hears = true) (hadopt : s.part.adopt = false) (hcyc : x.cyc = s.get SYS_CYC_NUM_CYC)
    (hclean : s.poisoned (BANK_DP + 0x32000) 0x1300 = false) :
    opSnapshotRx x true false s = ((s.withSnap x).followSnapshot x).judgeReady := by
  have hadopt' : (s.withSnap x).part.adopt = false := hadopt
  unfold opSnapshotRx
  rw [if_pos hhear]
  dsimp only
  rw [if_neg Bool.false_ne_true, if_neg (ne_true_of_eq_false hclean), hclean, if_pos (by simp [hcyc])]
  show (if (s.withSnap x).part.adopt then _ else _) = _
  rw [if_neg (ne_true_of_eq_false hadopt')]
  rfl

theorem opSnapshotRx_discarded {x : Snapshot} {ok : Bool} (hhear : s.hears = true) (hbad : ok = false ∨ x.cyc ≠ s.get SYS_CYC_NUM_CYC)
    (hclean : s.poisoned (BANK_DP + 0x32000) 0x1300 = false) :
    opSnapshotRx x ok false s = ((s.inc PART_SNAP_BAD).raise SRC_PART_SNAP_BAD 0x02).judgeReady := by
  unfold opSnapshotRx
  rw [if_pos hhear]
  dsimp only
  rw [if_neg Bool.false_ne_true, if_neg (ne_true_of_eq_false hclean), hclean, if_neg]
  rcases hbad with h | h <;> simp [h]

theorem opSnapshotRx_unheard {x : Snapshot} {ok lost : Bool} (h : s.hears = false) : opSnapshotRx x ok lost s = s := by
  unfold opSnapshotRx
  rw [if_neg (ne_true_of_eq_false h)]

/-- A takeover before the blocks go on: ACTIVE, with its cause and its count. -/
def State.takenOver (s : State) (c : Nat) : State :=
  let s := ((s.toRole ACTIVE).set PART_LAST_CAUSE c).inc PART_CNT_SWITCHOVERS
  { s.set PART_LAST_MAX_COAST 0 with part := { (s.set PART_LAST_MAX_COAST 0).part with took := some (s.get SYS_CYC_NUM_CYC) } }

theorem opTakeover_due {c : Nat} {x : Snapshot} (hen : s.en .part = true) (hrole : s.role = STANDBY) (hdue : s.takeDue = some (c, x)) :
    opTakeover s = (((s.takenOver c).adoptAll x).raise SRC_PART_SWITCHOVER 0x02).beats := by
  unfold opTakeover State.takenOver
  rw [if_pos (by simp [hen, hrole]), hdue]

/-- A takeover in PART's registers. -/
theorem State.takenOver_shows (h : regsWf s) (hrole : s.role ≠ ACTIVE) (c : Nat) :
    regsWf (s.takenOver c) ∧ (s.takenOver c).role = ACTIVE ∧ (s.takenOver c).flag SYS_PWR_STATE_STANDBY = false ∧ (s.takenOver c).get PART_LAST_CAUSE = c % 16 ∧
      (s.takenOver c).get PART_LAST_MAX_COAST = 0 ∧ (s.takenOver c).get PART_CNT_SWITCHOVERS = satInc 0xFFFF (s.get PART_CNT_SWITCHOVERS) ∧
      (s.takenOver c).part.took = some (s.get SYS_CYC_NUM_CYC) := by
  have htake : s.toRole ACTIVE = s.roleTaken ACTIVE := by
    rw [State.toRole_eq, if_neg hrole]
    rfl
  have w1 := State.roleTaken_wf h ACTIVE
  have w2 := regsWf_set w1 PART_LAST_CAUSE c 0 0
  have w3 := regsWf_inc w2 PART_CNT_SWITCHOVERS 0 0
  have w4 := regsWf_set w3 PART_LAST_MAX_COAST 0 0 0
  have hcount : ((s.roleTaken ACTIVE).set PART_LAST_CAUSE c).get PART_CNT_SWITCHOVERS = s.get PART_CNT_SWITCHOVERS := by
    rw [State.get_set_other w1 _ _ _ _ _ _ _ (by decide) (.inl (by decide))]
    exact congrArg (fun w => fieldOf w 0 16) (State.word_roleTaken h ACTIVE (by decide))
  have hnum : (((s.roleTaken ACTIVE).set PART_LAST_CAUSE c).inc PART_CNT_SWITCHOVERS).word 0x000108 = s.word 0x000108 := by
    rw [State.inc_eq, State.word_set_other w2 _ _ _ _ (by decide), State.word_set_other w1 _ _ _ _ (by decide), State.word_roleTaken h ACTIVE (by decide)]
  have hrole0 : ∀ a, a ≠ 0x160210 → a ≠ 0x160214 →
      ((((s.roleTaken ACTIVE).set PART_LAST_CAUSE c).inc PART_CNT_SWITCHOVERS).set PART_LAST_MAX_COAST 0).word a = (s.roleTaken ACTIVE).word a := fun a h0 h4 => by
    rw [State.word_set_other w3 _ _ _ _ h4, State.inc_eq, State.word_set_other w2 _ _ _ _ h0, State.word_set_other w1 _ _ _ _ h4]
  have hregs : (s.takenOver c).regs = ((((s.roleTaken ACTIVE).set PART_LAST_CAUSE c).inc PART_CNT_SWITCHOVERS).set PART_LAST_MAX_COAST 0).regs := by
    rw [State.takenOver, htake]
  have htook : (s.takenOver c).part.took = some ((((s.roleTaken ACTIVE).set PART_LAST_CAUSE c).inc PART_CNT_SWITCHOVERS).get SYS_CYC_NUM_CYC) := by
    rw [State.takenOver, htake]
  refine ⟨?_, ?_, ?_, ?_, ?_, ?_, ?_⟩
  · unfold regsWf
    rw [hregs]
    exact w4
  · rw [State.role, State.get_congr hregs, State.get, hrole0 _ (by decide) (by decide)]
    exact State.roleTaken_role h ACTIVE (by decide)
  · rw [State.flag_eq, State.get_congr hregs, State.get, hrole0 _ (by decide) (by decide)]
    exact State.roleTaken_standby h ACTIVE
  · rw [State.get_congr hregs, State.get_set_other w3 _ _ _ _ _ _ _ (by decide) (.inr (.inl (by decide))), State.inc_eq,
      State.get_set_other w2 _ _ _ _ _ _ _ (by decide) (.inl (by decide)), State.get_set_same w1 _ _ _ _ (by decide)]
    rfl
  · rw [State.get_congr hregs, State.get_set_same w3 _ _ _ _ (by decide)]
    rfl
  · rw [State.get_congr hregs, State.get_set_other w3 _ _ _ _ _ _ _ (by decide) (.inl (by decide)), State.get_inc_satInc w2 _ _ _ (by decide), hcount]
    rfl
  · rw [htook]
    simp only [State.get, show SYS_CYC_NUM_CYC.addr 0 0 = 0x000108 from rfl, hnum]

/-- A judgement of readiness leaves the STATUS bits of the other events. -/
theorem State.judgeReady_status (h : regsWf s) {n : Nat} (hne : n ≠ SRC_PART_NOT_READY.s) :
    s.judgeReady.get ⟨ctrlAddr .part 0x04, 0, 0, n, 1⟩ = s.get ⟨ctrlAddr .part 0x04, 0, 0, n, 1⟩ := by
  unfold State.judgeReady
  split
  · extract_lets c
    have w1 := regsWf_set h PART_STAT_NR_CAUSE c 0 0
    have h1 := State.get_set_other h PART_STAT_NR_CAUSE ⟨ctrlAddr .part 0x04, 0, 0, n, 1⟩ c 0 0 0 0 (by decide) (.inl (by
      show 0x160004 ≠ 0x160204
      decide))
    generalize (if c = 0 then STANDBY else NOT_READY) = r
    rw [State.toRole_eq]
    split
    · exact h1
    · have h2 : ((s.set PART_STAT_NR_CAUSE c).roleTaken r).get ⟨ctrlAddr .part 0x04, 0, 0, n, 1⟩ = (s.set PART_STAT_NR_CAUSE c).get ⟨ctrlAddr .part 0x04, 0, 0, n, 1⟩ :=
        congrArg (fun w => fieldOf w n 1) (State.word_roleTaken w1 r (a := 0x160004) (by decide))
      refine Eq.trans ?_ (h2.trans h1)
      unfold State.raiseIf
      split
      · exact State.raise_status_other (State.roleTaken_wf w1 r) SRC_PART_NOT_READY 0x02 (by decide) hne
      · rfl
  · rfl

/-- The beats write no register. -/
theorem Confined.beats {W : Nat → Prop} (h : Confined W s t) : Confined W s t.beats :=
  .ite (.foldl h.sends fun _ _ _ hu => hu.setFe) h

/-- Settles O58: a kept snapshot reaches no register of PART, so the judgement of readiness alone writes them; a takeover is a change of role, the snapshot and one event; each other case writes one register or refuses. -/
theorem controlPassesBetweenTheDevices : Obligations.ControlPassesBetweenTheDevices := by
  unfold Obligations.ControlPassesBetweenTheDevices
  refine ⟨?kept, ?discarded, ?unheard, ?taken, ?notDue, ?planned, ?alone, ?stopping, ?elsewhere, ?rearmed, ?wanted, ?unwanted⟩
  case kept =>
    intro s x hwf hup hen hfol htake hadopt hcyc hclean
    have hwf1 : regsWf (s.withSnap x) := regsWf_set (s := { s with part := { s.part with snap := some x } }) hwf ..
    have hconf := State.followSnapshot_confined hwf1 x
    have hpage : ∀ a, a / 0x10000 = 0x16 → ((s.withSnap x).followSnapshot x).word a = (s.withSnap x).word a := fun a ha => hconf.word a fun hm => hm.1 ha
    have hsnap : ∀ a, a ≠ 0x16020C → (s.withSnap x).word a = s.word a := fun a ha =>
      State.word_set_other (s := { s with part := { s.part with snap := some x } }) hwf _ _ _ _ ha
    have hfol' : ((s.withSnap x).followSnapshot x).follows = true := by
      rw [← hfol, State.follows, State.follows, State.en_part_congr ((hpage _ (by decide)).trans (hsnap _ (by decide))),
        State.role_congr ((hpage _ (by decide)).trans (hsnap _ (by decide)))]
    have hpart := hconf.part
    obtain ⟨-, hword, hkeep, henerg⟩ := State.judgeReady_shows hconf.wf
    refine ⟨_, congrArg Host.Outcome.next ((s.live_up hup _).trans (opSnapshotRx_kept (by simp [hen, hfol]) hadopt hcyc hclean)), ?_, ?_, ?_,
      State.judgeReady_role hconf.wf hfol' (by rw [hpart]; exact htake)⟩
    · rw [hkeep, hpart]
      rfl
    · have hage : ((s.withSnap x).followSnapshot x).judgeReady.word 0x16020C = (s.withSnap x).word 0x16020C :=
        (hword _ (by decide)).trans (hpage _ (by decide))
      refine (congrArg (fun w => fieldOf w 0 8) hage).trans ?_
      exact State.get_set_same (s := { s with part := { s.part with snap := some x } }) hwf PART_SNAP_AGE 0 0 0 (by decide)
    · rw [henerg, hpart]
      rfl
  case discarded =>
    intro s x ok hwf hup hen hhear hbad hclean
    have w1 := regsWf_inc hwf PART_SNAP_BAD 0 0
    have w2 := regsWf_raise w1 SRC_PART_SNAP_BAD 0x02
    obtain ⟨-, hword, hkeep, -⟩ := State.judgeReady_shows w2
    have hpart : ((s.inc PART_SNAP_BAD).raise SRC_PART_SNAP_BAD 0x02).part = s.part :=
      (congrArg State.part (State.raise_hold _ SRC_PART_SNAP_BAD 0x02 : _ = _)).trans rfl
    have hhold : PartHold s ((s.inc PART_SNAP_BAD).raise SRC_PART_SNAP_BAD 0x02).judgeReady := (((PartHold.refl s).set ..).raise ..).judgeReady
    refine ⟨_, congrArg Host.Outcome.next ((s.live_up hup _).trans (opSnapshotRx_discarded (by simpa [hen] using hhear) hbad hclean)), ?_, ?_, ?_, hhold.frame,
      fun adr hadr => ?_⟩
    · rw [hkeep, hpart]
    · have hcount := (hword 0x16020C (by decide)).trans (State.word_raise_other w1 SRC_PART_SNAP_BAD 0x02 (by decide))
      exact (congrArg (fun w => fieldOf w 16 16) hcount).trans (State.get_inc_satInc hwf PART_SNAP_BAD 0 0 (by decide))
    · have hstatus := (State.judgeReady_status w2 (by decide)).trans (State.raise_status w1 SRC_PART_SNAP_BAD 0x02 (by decide))
      exact (congrArg (· != 0) hstatus).trans rfl
    · rw [List.mem_append, List.mem_cons, not_or, not_or] at hadr
      obtain ⟨hrole, hcount, hevt⟩ := hadr
      rw [hword adr hrole, State.word_raise_other w1 _ _ hevt]
      exact State.word_set_other hwf _ _ _ _ hcount
  case unheard =>
    intro s x ok lost hup h
    refine ⟨s, congrArg Host.Outcome.next ((s.live_up hup _).trans (opSnapshotRx_unheard ?_)), rfl⟩
    rcases h with h | ⟨h, h'⟩
    · simp [h]
    · simp [h, h']
  case taken =>
    intro s c x hwf hup hen hrole hdue
    obtain ⟨hwf1, hact, hstand, hcause, hcoast, hcount, htook⟩ := State.takenOver_shows hwf (by rw [hrole]; decide) c
    obtain ⟨hwf2, hpage, hpart, hpwr, hstand2⟩ := State.adoptAll_shows hwf1 x
    have hbeats : Confined (fun _ => False) (((s.takenOver c).adoptAll x).raise SRC_PART_SWITCHOVER 0x02)
        (((s.takenOver c).adoptAll x).raise SRC_PART_SWITCHOVER 0x02).beats := .beats (.refl (regsWf_raise hwf2 _ _))
    have hlast : Confined (· ∈ evtRegs .part SRC_PART_SWITCHOVER.s) ((s.takenOver c).adoptAll x)
        (((s.takenOver c).adoptAll x).raise SRC_PART_SWITCHOVER 0x02).beats := .beats (.raise (.refl hwf2) fun _ ha => ha)
    have hfld : ∀ a, a / 0x10000 = 0x16 → a ∉ evtRegs .part SRC_PART_SWITCHOVER.s →
        (((s.takenOver c).adoptAll x).raise SRC_PART_SWITCHOVER 0x02).beats.word a = (s.takenOver c).word a := fun a ha hevt =>
      (hlast.word a hevt).trans (hpage a ha)
    refine ⟨_, congrArg Host.Outcome.next ((s.live_up hup _).trans (opTakeover_due hen hrole hdue)), ?_, ?_, ?_, ?_, ?_, ?_, ?_, ?_⟩
    · exact (State.role_congr (hfld _ (by decide) (by decide))).trans hact
    · exact (hlast.flag SYS_PWR_STATE_STANDBY 0 0 (by decide)).trans (hstand2.trans hstand)
    · exact (congrArg (fun w => fieldOf w 0 4) (hfld 0x160214 (by decide) (by decide))).trans hcause
    · exact (congrArg (fun w => fieldOf w 4 4) (hfld 0x160214 (by decide) (by decide))).trans hcoast
    · exact (congrArg (fun w => fieldOf w 0 16) (hfld 0x160210 (by decide) (by decide))).trans hcount
    · exact (hlast.get SYS_PWR_STATE_STATE 0 0 (by decide)).trans hpwr
    · rw [hlast.part, hpart]
      exact htook
    · refine (hbeats.flag _ 0 0 id).trans ?_
      rw [State.flag_eq, State.raise_status hwf2 _ _ (by decide)]
      rfl
  case notDue =>
    intro s hup h
    refine ⟨s, congrArg Host.Outcome.next ((s.live_up hup _).trans ?_), rfl⟩
    unfold opTakeover
    split
    · next hstand =>
      simp only [Bool.and_eq_true, beq_iff_eq] at hstand
      rw [(h.resolve_left (by simp [hstand.1])).resolve_left (by simp [hstand.2])]
    · rfl
  case planned =>
    intro s hwf hup hen hrole hpartner hlink hsgr hsod hsds hstr hswap hcut
    have hcut' : ({ s with part := { s.part with swap := some (3, false) } } : State).pastCut = false := (State.pastCut_congr rfl rfl rfl).trans hcut
    refine ⟨({ s with part := { s.part with swap := some (3, false) } } : State).set PART_STAT_HANDOVER_PEND 1,
      congrArg Host.Outcome.next ((s.live_up hup _).trans ?_),
      State.flag_set_one (s := { s with part := { s.part with swap := some (3, false) } }) hwf _ 0 0 (by decide) rfl, rfl, rfl, fun adr hadr =>
      State.word_set_other (s := { s with part := { s.part with swap := some (3, false) } }) hwf _ _ _ _ (List.ne_of_not_mem_cons hadr)⟩
    rw [opPartSwitch, if_neg (by simp [hen, hrole]), State.askHandover, if_neg (by simp [hpartner, hlink]), if_neg (by simp [hsgr, hsod, hsds, hstr]),
      if_neg (by simp [hswap])]
    dsimp only
    rw [hcut, State.deferral_inTime hcut']
  case alone =>
    intro s hwf hup hen hrole h
    refine ⟨_, congrArg Host.Outcome.next ((s.live_up hup _).trans ?_), State.refuse_shows hwf .part 0x1620 0x02 0x00⟩
    rw [opPartSwitch, if_neg (by simp [hen, hrole]), State.askHandover, if_pos h]
  case stopping =>
    intro s hwf hup hen hrole hpartner hlink h
    refine ⟨s.refuseC .part STATE 0x02 0x00, congrArg Host.Outcome.next ((s.live_up hup _).trans ?_), State.refuse_shows hwf ..⟩
    rw [opPartSwitch, if_neg (by simp [hen, hrole]), State.askHandover, if_neg (by simp [hpartner, hlink]), if_pos]
    rcases h with h | h | h | h <;> simp [h]
  case elsewhere =>
    intro s hwf hup h
    refine ⟨s.refuseC .part STATE 0x02 0x00, congrArg Host.Outcome.next ((s.live_up hup _).trans ?_), State.refuse_shows hwf ..⟩
    rw [opPartSwitch, if_pos (by simpa using h)]
  case rearmed =>
    intro s hwf hup
    exact ⟨s.set PART_STAT_NO_RETURN 0, congrArg Host.Outcome.next (s.live_up hup _), State.flag_set_zero hwf _ 0 0 (by decide), rfl, fun adr hadr =>
      State.word_set_other hwf _ _ _ _ (List.ne_of_not_mem_cons hadr)⟩
  case wanted =>
    intro s hwf hup hen hhome hrole hauto hreturn
    refine ⟨{ s with part := { s.part with want := true } }, congrArg Host.Outcome.next ((s.live_up hup _).trans ?_), rfl, rfl⟩
    rw [opHoldoffExpiry, if_pos (by simp [hen, hhome, hrole, hauto, hreturn])]
  case unwanted =>
    intro s hup h
    refine ⟨s, congrArg Host.Outcome.next ((s.live_up hup _).trans ?_), rfl⟩
    rw [opHoldoffExpiry, if_neg]
    simp only [Bool.and_eq_true, beq_iff_eq, Bool.not_eq_true', not_and]
    rintro ⟨⟨⟨hen, hhome⟩, hrole⟩, hauto⟩
    simp_all

end Sys2Proof.Machine
end

section
/-! SUPPORT. What the boundary leaves (R25): the registers below 0x200, SYS_CYC among them, the cycle's record and PART's state. One rule for each operation under it; this part holds the plain updates and those of HIVE and CELL. -/

namespace Sys2Proof.Machine

open Sys2Proof.Safety

/-- The registers below SYS_PWR_STATE, the cycle's record and PART's state are in `t` as in `s`. -/
abbrev Above (s t : State) : Prop := Confined (0x200 ≤ ·) s t

variable {s t : State}

theorem above_addr (f : Fld) (u i : Nat) (hf : 0x200 ≤ f.base) : 0x200 ≤ f.addr u i :=
  Nat.le_trans hf (Nat.le_trans (Nat.le_add_right _ _) (Nat.le_add_right _ _))

section
variable {f : Fld} {u i : Nat} (h : Above s t) (hf : 0x200 ≤ f.base)
include h hf

theorem Confined.setAbove {v : Nat} : Above s (t.set f v u i) := Confined.set h (above_addr f u i hf)
theorem Confined.setbAbove {v : Bool} : Above s (t.setb f v u i) := Confined.setb h (above_addr f u i hf)
theorem Confined.setiAbove {v : Int} : Above s (t.seti f v u i) := Confined.seti h (above_addr f u i hf)
theorem Confined.incAbove : Above s (t.inc f u i) := Confined.inc h (above_addr f u i hf)
theorem Confined.addSatAbove {k : Nat} : Above s (t.addSat f k u i) := Confined.addSat h (above_addr f u i hf)
theorem Confined.set64Above {v : Nat} : Above s (t.set64 f v u i) :=
  Confined.set64 h (above_addr f u i hf) (Nat.le_trans (above_addr f u i hf) (Nat.le_add_right _ _))
theorem Confined.setPkAbove {per step k v : Nat} : Above s (t.setPk f per step k v u) := Confined.setPk h (above_addr f u _ hf)

end

section
variable {src : Source} {unit : Nat} (h : Above s t) (hW : ∀ a ∈ evtRegs src.blk src.s, 0x200 ≤ a)
include h hW

theorem Confined.raiseAbove : Above s (t.raise src unit) := Confined.raise h hW
theorem Confined.raiseCAbove : Above s (t.raiseC src) := Confined.raiseC h hW
theorem Confined.raiseIfAbove {c : Bool} : Above s (t.raiseIf c src unit) := Confined.raiseIf h hW
theorem Confined.raiseAllAbove {units : List Nat} : Above s (t.raiseAll src units) := Confined.raiseAll h hW

end

/-! Reads that find a bad tile, and the mailbox (R152 to R175). -/

theorem Confined.load (h : Above s t) (m a n : Nat) : Above s (t.load m a n).2.2 := by
  unfold State.load
  refine Confined.foldl h fun u x _ hu => ?_
  split
  · exact hu
  · exact .raiseIfAbove (.raiseAbove (.setAbove (.setAbove (.incAbove hu (by decide)) (by decide)) (by decide)) (by decide)) (by decide)

theorem Confined.countTx (h : Above s t) : Above s t.countTx := .setAbove h (by decide)

theorem Confined.issue (h : Above s t) (tag : Nat) (x : MbxTx) : Above s (t.issue tag x) := by
  unfold State.issue
  extract_lets g g' hive
  refine .countTx ?_
  exact Confined.keep h rfl rfl rfl

theorem Confined.pumpGo (n : Nat) (h : Above s t) : Above s (t.pumpGo n) := by
  induction n generalizing t with
  | zero => exact h
  | succ n ih =>
    unfold State.pumpGo
    split
    · refine ih (.issue ?_ _ _)
      exact Confined.keep h rfl rfl rfl
    · exact h

theorem Confined.pump (h : Above s t) : Above s t.pump := by
  unfold State.pump
  extract_lets lost hive
  refine .pumpGo 8 (.addSatAbove ?_ (by decide))
  exact Confined.keep h rfl rfl rfl

theorem Confined.request (h : Above s t) (owner r p op addr : Nat) (data : List Byte) (len notBefore : Nat) :
    Above s (t.request owner r p op addr data len notBefore) := by
  unfold State.request
  extract_lets x hive
  refine .pump ?_
  exact Confined.keep h rfl rfl rfl

theorem Confined.feCommand (h : Above s t) (i code notBefore : Nat) : Above s (t.feCommand i code notBefore) := h.request ..

theorem Confined.writeCompletion (h : Above s t) (x : MbxTx) (status : Nat) (data : List Byte) : Above s (t.writeCompletion x status data) := by
  unfold State.writeCompletion
  extract_lets p e
  exact .setAbove h.store (by decide)

theorem Confined.complete (h : Above s t) (x : MbxTx) (status : Nat) (data : List Byte) : Above s (t.complete x status data) := by
  unfold State.complete
  extract_lets hive s1 s2
  have h1 : Above s s1 := Confined.keep h rfl rfl rfl
  have h2 : Above s s2 := Confined.ite (h1.writeCompletion ..) h1
  exact .pump (.countTx (.incAbove h2 (by decide)))

/-! The report window, and a slot that leaves service (R155 to R175, R212 to R215). -/

theorem Confined.windowPos (h : Above s t) (r p : Nat) : Above s (t.windowPos r p).2 := by
  unfold State.windowPos
  split
  · exact h
  · extract_lets got l s1 run old s2 ring s3
    have h1 : Above s s1 := by
      unfold s1 l
      split
      · exact h.load ..
      · exact h
    have h3 : Above s s3 := Confined.setRingSt (.setAbove (.setPkAbove h1 (by decide)) (by decide))
    split
    · exact .setPkAbove h1 (by decide)
    · split
      · split
        · show Above s (s3.raise SRC_HIVE_CELL_TIMEOUT r)
          exact .raiseAbove h3 (by decide)
        · exact h3
      · exact h1

theorem foldl_snd_above {α β : Type} {f : β × State → α → β × State} (hf : ∀ a x, Above s a.2 → Above s (f a x).2) {l : List α} {a : β × State}
    (h : Above s a.2) : Above s (l.foldl f a).2 :=
  List.foldlRecOn (motive := fun a : β × State => Above s a.2) l f h fun _ ha x _ => hf _ x ha

theorem Confined.windowRing (h : Above s t) (r : Nat) : Above s (t.windowRing r).2 := by
  unfold State.windowRing
  split
  · exact h
  · extract_lets ring s1
    have h1 : Above s (s1.set HIVE_RSTAT_MISS 0 r) := .setAbove h.setRingSt (by decide)
    refine foldl_snd_above (fun a p ha => ?_) ?_
    · exact ha.windowPos r p
    · exact h1

theorem above_coilWord : ∀ o < 64, 0x200 ≤ coilWord o := fun o _ => by
  show 0x200 ≤ 0x14000C + 0x100 * o
  omega

theorem Confined.countStringsAbove (h : Above s t) : Above s t.countStrings := Confined.countStrings h fun j _ => by omega

theorem Confined.preCoilsOff (h : Above s t) : Above s t.preCoilsOff := by
  unfold State.preCoilsOff
  extract_lets s1
  have h1 : Above s s1 := Confined.ite (Confined.coilCmd h above_coilWord (t.get_lt LAW_PRE_FEED_CTC 0 0)) h
  exact Confined.ite (Confined.coilCmd h1 above_coilWord (s1.get_lt LAW_PRE_STORE_CTC 0 0)) h1

theorem Confined.prechargeEnds (h : Above s t) : Above s t.prechargeEnds := .setAbove h.preCoilsOff (by decide)

theorem Confined.sgrAbove (h : Above s t) (cause : Nat) : Above s (t.sgr cause) := Confined.sgr h (by decide)

theorem Confined.checkString (h : Above s t) (i : Nat) : Above s (t.checkString i) := by
  unfold State.checkString
  extract_lets s1 j s2
  have h1 : Above s s1 := h.countStringsAbove
  have h2 : Above s s2 := .sgrAbove (.raiseCAbove h1 (by decide)) _
  exact Confined.ite (Confined.ite h2.prechargeEnds h2) h1

theorem Confined.slotLeaves (h : Above s t) (i st cause : Nat) : Above s (t.slotLeaves i st cause) := by
  unfold State.slotLeaves
  extract_lets was out s1 s2 left cell s3 stp s4
  have h1 : Above s s1 := .setAbove (.setAbove h (by decide)) (by decide)
  have h2 : Above s s2 := Confined.ite h1 (.setAbove h1 (by decide))
  have h3 : Above s s3 := Confined.keep h2 rfl rfl rfl
  have h4 : Above s s4 := Confined.ite (.raiseAbove (.setPkAbove h3 (by decide)) (by decide)) h3
  exact Confined.ite (h4.checkString i) h3.countStringsAbove

theorem Confined.slotTimeout (h : Above s t) (i : Nat) : Above s (t.slotTimeout i) := by
  unfold State.slotTimeout
  extract_lets st s1 s2
  have h1 : Above s s1 := Confined.ite (.raiseAbove h (by decide)) h
  have h2 : Above s s2 := (h1.slotLeaves i 6 3).feCommand i 4 0
  exact Confined.ite (.slotLeaves (.raiseAbove h (by decide)) i 6 3) (Confined.ite (Confined.keep h2 rfl rfl rfl) h)

theorem Confined.judgeRings (h : Above s t) (rs : List Nat) : Above s (t.judgeRings rs) := by
  unfold State.judgeRings
  extract_lets w
  have hw : Above s w.2 := by
    refine foldl_snd_above (fun a r ha => ?_) h
    exact ha.windowRing r
  exact Confined.foldl hw fun _ i _ hu => hu.slotTimeout i

end Sys2Proof.Machine
end

section
/-! SUPPORT. What the boundary leaves: the operations of OUT, MOD and CAL under it (R326 to R335, R380). -/

namespace Sys2Proof.Machine

open Sys2Proof.Safety

variable {s t : State}

/-! Allocation moves. -/

theorem Confined.setMoveSt (h : Above s t) (i : Nat) (m : MoveSt) : Above s (t.setMoveSt i m) := Confined.keep h rfl rfl rfl
theorem Confined.setPos (h : Above s t) (i p : Nat) : Above s (t.setPos i p) := .setPkAbove h (by decide)
theorem Confined.setStep (h : Above s t) (i st : Nat) : Above s (t.setStep i st) := .setPkAbove h (by decide)

theorem Confined.enterStep (h : Above s t) (i st : Nat) : Above s (t.enterStep i st) := (h.setMoveSt ..).setStep i st

theorem Confined.enterClose (h : Above s t) (i : Nat) : Above s (t.enterClose i) := (h.setMoveSt ..).enterStep i 4

theorem Confined.startMove (h : Above s t) (i : Nat) : Above s (t.startMove i) := by
  unfold State.startMove
  extract_lets p s1 s2
  have h1 : Above s s1 := h.setMoveSt ..
  have h2 : Above s s2 := Confined.ite (.incAbove h1 (by decide)) h1
  exact Confined.ite (h2.enterClose i) (h2.enterStep i 1)

theorem Confined.moveBoundary (h : Above s t) (i : Nat) : Above s (t.moveBoundary i) := by
  unfold State.moveBoundary
  extract_lets st m target confirm unblock s1
  have hconfirm : Above s confirm := (h.setPos ..).enterStep ..
  have hunblock : Above s unblock := (h.setPos ..).enterStep ..
  have h1 : Above s s1 := h.setStep ..
  split_ifs
  · exact h.setStep ..
  · exact h.startMove i
  · exact .incAbove (h.setStep ..) (by decide)
  · exact h
  · exact (h.setMoveSt ..).enterStep ..
  · exact (h.setMoveSt ..).enterStep ..
  · exact hconfirm
  · exact h
  · exact h.setStep ..
  · exact h.enterClose i
  · exact hunblock
  · exact h
  · exact .incAbove h1 (by decide)
  · exact h1
  · exact hconfirm
  · exact hunblock
  · exact h

theorem Confined.moveAll (h : Above s t) : Above s t.moveAll := by
  unfold State.moveAll
  extract_lets r
  have hr : Above s r.1 :=
    List.foldlRecOn (motive := fun a : State × List Nat => Above s a.1) _ _ h fun a ha i _ => Confined.moveBoundary ha i
  exact .raiseAllAbove hr (by decide)

theorem Confined.setBusSt (h : Above s t) (b : Nat) (x : BusSt) : Above s (t.setBusSt b x) := Confined.keep h rfl rfl rfl

theorem Confined.showCurt (h : Above s t) (b : Nat) : Above s (t.showCurt b) := .setbAbove (.setiAbove h (by decide)) (by decide)

theorem Confined.outShowAbove (h : Above s t) : Above s t.outShow := Confined.outShow h (fun b _ => by omega) (by decide)

theorem Confined.outBoundary (h : Above s t) : Above s t.outBoundary := by
  unfold State.outBoundary
  extract_lets s1 live out s2
  have h1 : Above s s1 := h.moveAll
  have h2 : Above s s2 := Confined.keep h1 rfl rfl rfl
  refine Confined.ite (.outShowAbove (Confined.foldl h2 fun u b _ hu => ?_)) h
  exact (hu.setBusSt ..).showCurt b

theorem Confined.missedStep5 (h : Above s t) : Above s t.missedStep5 := Confined.ite (h.missSets 1) h

/-! Trims and user values. -/

theorem Confined.trimToward {f : Fld} (h : Above s t) (hf : 0x200 ≤ f.base) (i : Nat) (e : Int) : Above s (t.trimToward f i e) := .setiAbove h hf

theorem Confined.applyUserAbove (h : Above s t) : Above s t.applyUser :=
  Confined.trans h ((State.applyUser_shows h.wf).1.mono fun a ha => by
    have hevt : ∀ a ∈ evtRegs .cal SRC_CAL_APPLIED.s, 0x200 ≤ a := by decide
    rcases ha with ha | ha
    · omega
    · exact hevt a ha)

theorem Confined.calBoundary (h : Above s t) : Above s t.calBoundary := by
  have hG : ∀ k < 3, 0x200 ≤ (trimG k).base := by decide
  have hO : ∀ k < 3, 0x200 ≤ (trimO k).base := by decide
  unfold State.calBoundary
  extract_lets s1 cal s2 s3
  have h1 : Above s s1 := by
    refine Confined.ite (Confined.foldl h fun u i _ hu => Confined.foldl hu fun v k hk hv => ?_) h
    have hk := List.mem_range.1 hk
    exact Confined.ite ((hv.trimToward (hG k hk) i _).trimToward (hO k hk) i _) hv
  have h2 : Above s s2 := Confined.ite (Confined.keep h1 rfl rfl rfl) h1
  exact Confined.ite (Confined.ite (Confined.keep h2 rfl rfl rfl) h2.applyUserAbove) h2

end Sys2Proof.Machine
end

section
/-! SUPPORT. What the boundary leaves: the operations of METR and COMB under it (R345 to R361, R495). -/

namespace Sys2Proof.Machine

open Sys2Proof.Safety

variable {s t : State}

theorem Confined.setMeterSt (h : Above s t) (b : Nat) (m : MeterSt) : Above s (t.setMeterSt b m) := Confined.keep h rfl rfl rfl

theorem Confined.meterWindow (h : Above s t) (b tai : Nat) : Above s (t.meterWindow b tai) := by
  unfold State.meterWindow
  extract_lets m lim win rest imp exp i e s1 s2 s3
  have h1 : Above s s1 := h.setMeterSt ..
  have h2 : Above s s2 := .set64Above h1 (by decide)
  have h3 : Above s s3 := .set64Above h2 (by decide)
  exact Confined.ite (.setiAbove h3 (by decide)) (.setAbove (.incAbove (h.setMeterSt ..) (by decide)) (by decide))

theorem Confined.combCountsAbove (h : Above s t) : Above s t.combCounts := Confined.combCounts h (by decide)

theorem Confined.combFlagAbove (h : Above s t) (i k : Nat) (v : Bool) : Above s (t.combFlag i k v) :=
  Confined.combFlag h (above_addr _ _ _ (by decide))

theorem Confined.combTo (h : Above s t) (i st : Nat) : Above s (t.combTo i st) := by
  unfold State.combTo
  extract_lets s1 b comb s2
  have h1 : Above s s1 := .combCountsAbove (.setAbove h (by decide))
  have h2 : Above s s2 := Confined.keep h1 rfl rfl rfl
  exact Confined.ite (.setbAbove h2 (by decide)) h2

theorem Confined.postSlot (h : Above s t) (i : Nat) : Above s (t.postSlot i) := by
  unfold State.postSlot State.portAWrite
  extract_lets bs s1
  have h1 : Above s s1 := h.store
  exact Confined.keep h1 rfl rfl rfl

theorem Confined.putWords {v : Nat → Word} (h : Above s t) (l : List Nat) (a : Nat) (ha : 0x200 ≤ a) :
    Above s (l.foldl (fun s k => s.putWord (a + 4 * k) (v k)) t) :=
  Confined.foldl h fun _ _ _ hu => hu.putWord (Nat.le_trans ha (Nat.le_add_right _ _))

theorem Confined.combTake (h : Above s t) (i sid bus cid st : Nat) : Above s (t.combTake i sid bus cid st) := by
  unfold State.combTake
  extract_lets s1 s2
  have h1 : Above s s1 := h.putWords (v := fun _ => 0#32) _ _ (above_addr COMB_SSTAT_STATE i 0 (by decide))
  have h2 : Above s s2 := .setAbove (.setAbove (.set64Above h1 (by decide)) (by decide)) (by decide)
  exact .combTo h2.setCombSt i st

theorem Confined.combFree (h : Above s t) (i hdl : Nat) : Above s (t.combFree i hdl) := by
  unfold State.combFree
  extract_lets n comb s1
  have h1 : Above s s1 := Confined.keep h rfl rfl rfl
  exact .combTo (.setAbove h1.setCombSt (by decide)) i C_FREE

theorem Confined.combAccount (h : Above s t) (stepped : Bool) (i : Nat) : Above s (t.combAccount stepped i) := by
  unfold State.combAccount
  extract_lets b m c cb f s1 s2 s3 s4 s5 s6
  have h1 : Above s s1 := .set64Above h (by decide)
  have h2 : Above s s2 := .set64Above h1 (by decide)
  have h3 : Above s s3 := .set64Above h2 (by decide)
  have h4 : Above s s4 := Confined.ite (.incAbove h3 (by decide)) h3
  have h5 : Above s s5 := h4.setCombSt
  have h6 : Above s s6 := .setAbove h5 (by decide)
  exact .combFlagAbove (.combFlagAbove (.combFlagAbove (.combFlagAbove h6 _ _ _) _ _ _) _ _ _) _ _ _

theorem Confined.buildRecord (h : Above s t) (i sync1 gap : Nat) (tot : Nat × Nat) : Above s (t.buildRecord i sync1 gap tot) := by
  unfold State.buildRecord
  extract_lets was r slot s1 comb s2
  have h1 : Above s s1 := h.setCombSt
  have h2 : Above s s2 := Confined.opSignQueueEnter (Confined.keep h1 rfl rfl rfl) (by decide)
  exact .raiseIfAbove h2 (by decide)

theorem Confined.combStop (h : Above s t) (i cid tai : Nat) : Above s (t.combStop i cid tai) := by
  unfold State.combStop
  extract_lets st n s1 s2
  have h1 : Above s s1 := .setAbove (.setAbove (.setAbove (.set64Above h (by decide)) (by decide)) (by decide)) (by decide)
  have h2 : Above s s2 := .combTo (.combFlagAbove (.setAbove h1 (by decide)) _ _ _) i C_SIGNING
  exact h2.buildRecord ..

theorem Confined.combStart (h : Above s t) (i sid bus cid tai : Nat) : Above s (t.combStart i sid bus cid tai) := by
  unfold State.combStart
  extract_lets st s1
  have h1 : Above s s1 := .set64Above (h.combTake ..) (by decide)
  exact .postSlot (.combFlagAbove h1.setCombSt _ _ _) i

/-! The five session commands (R350 to R354). -/

theorem ite_snd_above {β : Type} {c : Prop} [Decidable c] {a b : β × State} (ha : Above s a.2) (hb : Above s b.2) :
    Above s (if c then a else b).2 := by
  split
  · exact ha
  · exact hb

theorem Confined.judgeReserve (h : Above s t) (sid bus cid : Nat) : Above s (t.judgeReserve sid bus cid).2 := by
  unfold State.judgeReserve
  split
  · exact h
  · split_ifs
    · exact h
    · exact h
    · exact h
    · split
      · exact h
      · exact (h.combTake ..).postSlot _

theorem Confined.judgeStart (h : Above s t) (sid bus cid tai : Nat) : Above s (t.judgeStart sid bus cid tai).2 := by
  unfold State.judgeStart
  extract_lets late r
  split
  · exact h
  · refine ite_snd_above h (ite_snd_above h (ite_snd_above h (ite_snd_above h ?_)))
    clear_value r
    cases r with
    | some i => exact h.combStart ..
    | none =>
      refine ite_snd_above h ?_
      split
      · exact h
      · exact h.combStart ..

theorem Confined.judgeStop (h : Above s t) (sid cid tai : Nat) : Above s (t.judgeStop sid cid tai).2 := by
  unfold State.judgeStop
  split
  · exact (h.combStop ..).postSlot _
  · split
    · exact h
    · exact h

theorem Confined.judgeCancel (h : Above s t) (sid : Nat) : Above s (t.judgeCancel sid).2 := by
  unfold State.judgeCancel
  split
  · exact (h.combFree ..).postSlot _
  · split
    · exact h
    · exact h

theorem Confined.judgeAck (h : Above s t) (sid hdl : Nat) : Above s (t.judgeAck sid hdl).2 := by
  unfold State.judgeAck
  split
  · exact (h.combFree ..).postSlot _
  · split
    · exact h
    · exact h

theorem Confined.combJudge (h : Above s t) (tai : Nat) : Above s (t.combJudge tai) := by
  unfold State.combJudge
  split
  · exact h
  · next c _ =>
    extract_lets cmd r a judged comb s1 s2 s3
    have hr : Above s r.2 := by
      unfold r
      split
      · exact h.judgeReserve ..
      · exact h.judgeStart ..
      · exact h.judgeStop ..
      · exact h.judgeCancel _
      · exact h.judgeAck ..
      · exact h
    have h1 : Above s s1 := Confined.keep hr rfl rfl rfl
    have h2 : Above s s2 := Confined.ite h1 (.raiseIfAbove (Confined.refuse h1 (by decide)) (by decide))
    have h3 : Above s s3 := .setAbove (.setAbove (.setAbove h2 (by decide)) (by decide)) (by decide)
    exact Confined.ite (Confined.keep h rfl rfl rfl) (.raiseAbove (.setAbove (.setAbove h3 (by decide)) (by decide)) (by decide))

/-! Steps 1 and 2 of the boundary. -/

theorem Confined.closeGaps (h : Above s t) (tai : Nat) : Above s (t.closeGaps tai) := by
  unfold State.closeGaps
  extract_lets gap s1 comb
  have h1 : Above s s1 := Confined.foldl h fun _ _ _ hu => hu.buildRecord ..
  exact Confined.keep h1 rfl rfl rfl

theorem Confined.combStep (h : Above s t) (tai : Nat) : Above s (t.combStep tai) := Confined.ite ((h.closeGaps tai).combJudge tai) h

theorem Confined.accountStep (h : Above s t) (tai : Nat) : Above s (t.accountStep tai) := by
  unfold State.accountStep
  extract_lets s1 stepped s2 comb
  have h1 : Above s s1 := Confined.foldl h fun _ _ _ hu => Confined.ite (hu.meterWindow ..) (hu.setMeterSt ..)
  have h2 : Above s s2 := Confined.ite (Confined.foldl h1 fun _ _ _ hu => hu.combAccount ..) h1
  clear_value s2
  exact Confined.keep h2 rfl rfl rfl

theorem Confined.closeFromCkpt (h : Above s t) (tai i : Nat) : Above s (t.closeFromCkpt tai i) := by
  unfold State.closeFromCkpt
  split
  · exact h
  · next c _ =>
    extract_lets words s1 s2 s3 n s4 s5 tot
    have h1 : Above s s1 := h.putWords (v := fun _ => 0#32) _ _ (above_addr COMB_SSTAT_STATE i 0 (by decide))
    have h2 : Above s s2 := Confined.foldl h1 fun u p hp hu => hu.putWord (by
      have hp := (List.mem_filter.1 hp).2
      simp only [Bool.and_eq_true, decide_eq_true_eq] at hp
      omega)
    have h3 : Above s s3 := by
      unfold s3
      split
      · exact h2.setCombSt
      · exact h2
    have h4 : Above s s4 := .setAbove (.setAbove (.set64Above h3 (by decide)) (by decide)) (by decide)
    have h5 : Above s s5 := .combTo (.combFlagAbove (.combFlagAbove h4 _ _ _) _ _ _) i C_SIGNING
    exact h5.buildRecord ..

theorem Confined.draw (h : Above s t) (n : Nat) : Above s (t.draw n).2 := Confined.keep h rfl rfl rfl

theorem Confined.combPoison (h : Above s t) (tai tile : Nat) : Above s (t.combPoison tai tile) := by
  unfold State.combPoison
  extract_lets s1 s2 d
  have h1 : Above s s1 := h.load ..
  have h2 : Above s s2 := Confined.keep h1 rfl rfl rfl
  have hd : Above s d.2 := h2.draw _
  exact .combCountsAbove (Confined.foldl hd fun _ i _ hu => hu.closeFromCkpt tai i)

theorem Confined.combPoisons (h : Above s t) (tai : Nat) : Above s (t.combPoisons tai) :=
  Confined.ite (Confined.foldl h fun _ tile _ hu => hu.combPoison tai tile) h

theorem Confined.boundarySessions (h : Above s t) (tai : Nat) (ends : Bool) : Above s (t.boundarySessions tai ends) := by
  have h1 := h.combPoisons tai
  exact .combStep (Confined.ite (h1.accountStep tai) h1) tai

theorem Confined.checkpoint (h : Above s t) (tai : Nat) : Above s (t.checkpoint tai) := by
  unfold State.checkpoint
  extract_lets c a b comb s1
  have h1 : Above s s1 := Confined.keep h rfl rfl rfl
  exact Confined.ite h (.raiseIfAbove (.raiseIfAbove h1 (by decide)) (by decide))

theorem Confined.changeCheckpoint (h : Above s t) (tai : Nat) : Above s (t.changeCheckpoint tai) := Confined.ite (h.checkpoint tai) h

end Sys2Proof.Machine
end

section
/-! SUPPORT. A cycle that has opened, through the last steps of the boundary (R25): SYS_CYC and the cycle's record stand, while PART's state may change. -/

namespace Sys2Proof.Machine

open Sys2Proof.Safety

variable {s t u : State}

/-- The registers below SYS_PWR_STATE stand. -/
structure LowStands (s t : State) : Prop where
  wf : regsWf t
  word : ∀ a, a < 0x200 → t.word a = s.word a

/-- The registers below SYS_PWR_STATE and the cycle's record stand. -/
structure CycleStands (s t : State) : Prop extends LowStands s t where
  cyc : t.cyc = s.cyc

theorem LowStands.refl (h : regsWf s) : LowStands s s := ⟨h, fun _ _ => rfl⟩
theorem LowStands.trans (h : LowStands s t) (h' : LowStands t u) : LowStands s u := ⟨h'.wf, fun a ha => (h'.word a ha).trans (h.word a ha)⟩
theorem CycleStands.trans (h : CycleStands s t) (h' : CycleStands t u) : CycleStands s u := ⟨h.toLowStands.trans h'.toLowStands, h'.cyc.trans h.cyc⟩

theorem Confined.cycleStands (h : Above s t) : CycleStands s t := ⟨⟨h.wf, fun a ha => h.word a (Nat.not_le_of_lt ha)⟩, h.cyc⟩

theorem LowStands.keep (h : LowStands s t) (hr : u.regs = t.regs) : LowStands s u :=
  ⟨by unfold regsWf; rw [hr]; exact h.wf, fun a ha => (State.word_congr hr a).trans (h.word a ha)⟩

theorem LowStands.ite {c : Prop} [Decidable c] {a b : State} (ha : LowStands s a) (hb : LowStands s b) : LowStands s (if c then a else b) := by
  split
  · exact ha
  · exact hb

/-- What a state with another record of the cycle goes on to. -/
theorem LowStands.andCyc {c : CycleState} (h : LowStands s t) (hc : t.cyc = c) (h' : CycleStands t u) : LowStands s u ∧ u.cyc = c :=
  ⟨h.trans h'.toLowStands, h'.cyc.trans hc⟩

/-- An update of other parts of the state. -/
theorem CycleStands.of_regs (h : regsWf s) (hr : t.regs = s.regs) (hc : t.cyc = s.cyc) : CycleStands s t :=
  ⟨⟨by unfold regsWf; rw [hr]; exact h, fun a _ => State.word_congr hr a⟩, hc⟩

/-! Before the new cycle: the banks (R289). -/

theorem State.swapBank_lowStands (h : regsWf s) (law : Bool) : LowStands s (s.swapBank law) := by
  unfold State.swapBank
  extract_lets act pend cyc s1 lawSt
  have hact : 0x200 ≤ act.base := by cases law <;> decide
  have hpend : 0x200 ≤ pend.base := by cases law <;> decide
  have h1 : LowStands s s1 := (Confined.cycleStands (.setAbove (.setAbove (.refl h) hact) hpend)).toLowStands
  have h2 := LowStands.refl h
  clear_value s1
  exact .ite (h2.keep rfl) (.ite (.ite (h1.keep rfl) h1) h2)

/-! The new cycle (R16, R17). -/

/-- A new cycle starts with nothing of the old one. -/
theorem State.newCycle_shows (s : State) :
    s.newCycle.regs = s.regs ∧ s.newCycle.cyc.suspended = false ∧ s.newCycle.cyc.sampled = false ∧ s.newCycle.cyc.computed = false ∧
      s.newCycle.cyc.modulated = false := by
  unfold State.newCycle
  exact ⟨rfl, rfl, rfl, rfl, rfl⟩

theorem State.period_congr (h : t.word 0x000114 = s.word 0x000114) : t.period = s.period := by
  simp only [State.period, State.tight, State.flag, State.get, show SYS_CYC_STAT_PROFILE_ACT.addr 0 0 = 0x000114 from rfl, h]

theorem State.running_congr (h : t.word 0x000114 = s.word 0x000114) : t.running = s.running := by
  simp only [State.running, State.flag, State.get, show SYS_CYC_STAT_RUNNING.addr 0 0 = 0x000114 from rfl, h]

/-- The number and the start of the cycle that opens. -/
theorem State.numberCycle_shows (h : regsWf s) (tai : Nat) :
    regsWf (s.numberCycle tai) ∧ (s.numberCycle tai).word 0x000114 = s.word 0x000114 ∧ (s.numberCycle tai).cyc = s.cyc ∧
      (s.numberCycle tai).get64 SYS_CYC_START_TAI = tai % 2 ^ 64 ∧ (s.numberCycle tai).get SYS_CYC_NUM_CYC = tai / s.period % 2 ^ 32 := by
  have w1 := regsWf_set h SYS_CYC_NUM_CYC (tai / s.period) 0 0
  have w2 := regsWf_putWord w1 0x00010C (BitVec.ofNat 32 tai)
  have hconf : Confined (· ∈ [0x000108, 0x00010C, 0x000110]) s (s.numberCycle tai) := .set64 (.set (.refl h) (by decide)) (by decide) (by decide)
  have hnum : s.numberCycle tai = ((s.set SYS_CYC_NUM_CYC (tai / s.period)).putWord 0x00010C (BitVec.ofNat 32 tai)).putWord (0x00010C + 4)
      (BitVec.ofNat 32 (tai / 2 ^ 32)) := rfl
  refine ⟨hconf.wf, hconf.word _ (by decide), hconf.cyc, ?_, ?_⟩
  · rw [State.get64, show SYS_CYC_START_TAI.addr 0 0 = 0x00010C from rfl, hnum, State.word_putWord_other w2 _ (by decide), State.word_putWord_same w1,
      State.word_putWord_same w2, BitVec.toNat_ofNat, BitVec.toNat_ofNat]
    omega
  · rw [hnum, State.get_putWord_other w2 _ _ _ _ _ (by decide), State.get_putWord_other w1 _ _ _ _ _ (by decide), State.get_set_same h _ _ _ _ (by decide)]
    rfl

/-! After it: the snapshot, the beats, a handover, and SYNC after a step of time. -/

/-- The image of a snapshot takes free bytes, and nothing else of the state. -/
theorem State.snapshotImage_snd (s : State) : ∃ n, s.snapshotImage.2 = (s.draw n).2 := by
  unfold State.snapshotImage
  exact ⟨2 ^ (8 * 4824), rfl⟩

theorem State.snapshotSend_cycleStands (h : regsWf s) : CycleStands s s.snapshotSend := by
  obtain ⟨n, hn⟩ := s.snapshotImage_snd
  have hr : s.snapshotImage.2.regs = s.regs := by rw [hn, State.draw_regs]
  have hc : s.snapshotImage.2.cyc = s.cyc := by rw [hn, State.draw_cyc]
  unfold State.snapshotSend
  generalize s.snapshotImage = m at hr hc
  split
  · exact .of_regs h hr hc
  · exact .of_regs h rfl rfl

theorem PartHold.cyc (h : PartHold s t) : t.cyc = s.cyc := by
  obtain ⟨r, p, hold, force, rfl⟩ := h
  rfl

theorem roleRegs_above : ∀ a ∈ roleRegs, 0x200 ≤ a := by decide

theorem State.toRole_cycleStands (h : regsWf s) {r : Nat} (hr : r < 8) : CycleStands s (s.toRole r) := by
  obtain ⟨hwf, -, -, hword⟩ := State.toRole_shows h r hr
  exact ⟨⟨hwf, fun a ha => hword a fun hm => absurd (roleRegs_above a hm) (Nat.not_le_of_lt ha)⟩, ((PartHold.refl s).toRole r).cyc⟩

theorem State.judgeReady_cycleStands (h : regsWf s) : CycleStands s s.judgeReady := by
  obtain ⟨hwf, hword, -, -⟩ := State.judgeReady_shows h
  exact ⟨⟨hwf, fun a ha => hword a fun hm => absurd (roleRegs_above a hm) (Nat.not_le_of_lt ha)⟩, (PartHold.refl s).judgeReady.cyc⟩

theorem Confined.dropFlight (h : Above s t) : Above s t.dropFlight := Confined.foldl h fun _ x _ hu => hu.complete x _ _

theorem Confined.rideClear (h : Above s t) : Above s t.rideClear := by
  unfold State.rideClear
  extract_lets s1 law
  have h1 : Above s s1 := .setAbove (.setAbove h (by decide)) (by decide)
  exact Confined.keep h1 rfl rfl rfl

theorem Confined.endRun (h : Above s t) : Above s t.endRun := by
  unfold State.endRun
  extract_lets s1 s2 form hive
  have h1 : Above s s1 := .rideClear (.setAbove (.setAbove h (by decide)) (by decide))
  have h2 : Above s s2 := .setAbove (.setAbove (.setAbove h1 (by decide)) (by decide)) (by decide)
  exact Confined.ite (Confined.keep h2 rfl rfl rfl) h

/-- PART at the boundary leaves the cycle that has opened (R517, R522). -/
theorem State.partBoundary_cycleStands (h : regsWf s) : CycleStands s s.partBoundary := by
  unfold State.partBoundary
  extract_lets s1 part s2 s3
  split
  · have h1 : Above s s1 := .incAbove (.refl h) (by decide)
    clear_value s1
    split
    · exact h1.cycleStands.trans (State.judgeReady_cycleStands h1.wf)
    · exact h1.cycleStands.trans (.of_regs h1.wf rfl rfl)
    · have h2 : CycleStands s1 s2 := .of_regs h1.wf rfl rfl
      have h3 : Above s2 s2.dropFlight.endRun := .endRun (.dropFlight (.refl h2.wf))
      have h4 := State.toRole_cycleStands h3.wf (r := STANDBY) (by decide)
      have h5 : Above (s2.dropFlight.endRun.toRole STANDBY) s3 := .incAbove (.refl h4.wf) (by decide)
      have h6 := h1.cycleStands.trans (h2.trans (h3.cycleStands.trans (h4.trans h5.cycleStands)))
      exact h6.trans (Confined.raiseAbove (.setAbove (.refl h6.wf) (by decide)) (by decide)).cycleStands
  · exact .of_regs h rfl rfl

/-- SYNC after a step of network time goes out by commands; without one nothing happens (R560). -/
theorem State.resyncSlots_stands (h : regsWf s) : LowStands s s.resyncSlots ∧ s.resyncSlots.cyc = { s.cyc with resync := false } := by
  unfold State.resyncSlots
  split
  · extract_lets cyc s1
    have h1 : regsWf s1 := h
    have hcyc : s1.cyc = { s.cyc with resync := false } := rfl
    have hlow : LowStands s s1 := (LowStands.refl h).keep rfl
    clear_value s1
    refine hlow.andCyc hcyc (Confined.cycleStands ?_)
    exact Confined.ite (Confined.foldl (.refl h1) fun u i _ hu => Confined.ite (.feCommand hu.setFe i 1 0) hu) (.refl h1)
  · next hoff =>
    rw [Bool.not_eq_true] at hoff
    refine ⟨.refl h, ?_⟩
    rw [← hoff]

/-! The boundary of a running cycle. -/

theorem Confined.advanceTo (h : Above s t) (tai : Nat) : Above s (t.advanceTo tai) := Confined.ite (Confined.keep h rfl rfl rfl) h

theorem Confined.stretchedEnd (h : Above s t) : Above s t.stretchedEnd := Confined.ite (h.judgeRings _) h

/-- Steps 1 to 5 (R25) leave SYS_CYC. -/
theorem State.boundaryOpens_lowStands (h : regsWf s) : LowStands s s.boundaryOpens := by
  have h1 : Above s s.outBoundary := .outBoundary (.refl h)
  have h2 := h1.cycleStands.toLowStands.trans (State.swapBank_lowStands h1.wf false)
  have h3 := h2.trans (State.swapBank_lowStands h2.wf true)
  exact h3.trans (Confined.cycleStands (.calBoundary (.refl h3.wf))).toLowStands

theorem State.boundary_eq (s : State) (tai : Nat) (ends : Bool) : s.boundary tai ends =
    ((((s.boundarySessions tai ends).boundaryOpens.newCycle.numberCycle tai).changeCheckpoint tai).snapshotSend.beats.partBoundary).resyncSlots := by
  unfold State.boundary
  with_reducible rfl

/-- The steps of R25 at the boundary at `tai`: the cycle that opens has its start and its number, and nothing of the cycle before. -/
theorem State.boundary_shows (h : regsWf s) (tai : Nat) (ends : Bool) :
    (s.boundary tai ends).word 0x000114 = s.word 0x000114 ∧ (s.boundary tai ends).get64 SYS_CYC_START_TAI = tai % 2 ^ 64 ∧
      (s.boundary tai ends).get SYS_CYC_NUM_CYC = tai / s.period % 2 ^ 32 ∧ (s.boundary tai ends).cyc.suspended = false ∧
      (s.boundary tai ends).cyc.sampled = false ∧ (s.boundary tai ends).cyc.computed = false ∧ (s.boundary tai ends).cyc.modulated = false := by
  have h1 : LowStands s (s.boundarySessions tai ends) := (Confined.cycleStands (.boundarySessions (.refl h) tai ends)).toLowStands
  have h2 := h1.trans (State.boundaryOpens_lowStands h1.wf)
  obtain ⟨hregs, hsusp, hsamp, hcomp, hmod⟩ := State.newCycle_shows (s.boundarySessions tai ends).boundaryOpens
  have h3 : LowStands s (s.boundarySessions tai ends).boundaryOpens.newCycle := h2.keep hregs
  obtain ⟨w4, hstat, hcyc, hstart, hnum⟩ := State.numberCycle_shows h3.wf tai
  rw [State.boundary_eq]
  generalize (s.boundarySessions tai ends).boundaryOpens.newCycle.numberCycle tai = s4 at *
  have h5 : Above s4 (s4.changeCheckpoint tai) := .changeCheckpoint (.refl w4) tai
  have h6 := h5.cycleStands.trans (State.snapshotSend_cycleStands h5.wf)
  have h7 := h6.trans (Confined.cycleStands (.beats (.refl h6.wf)))
  have h8 := h7.trans (State.partBoundary_cycleStands h7.wf)
  obtain ⟨h9, hcyc9⟩ := State.resyncSlots_stands h8.wf
  have hlow := h8.toLowStands.trans h9
  have hlast : (s4.changeCheckpoint tai).snapshotSend.beats.partBoundary.resyncSlots.cyc =
      { (s.boundarySessions tai ends).boundaryOpens.newCycle.cyc with resync := false } := by
    rw [hcyc9, h8.cyc, hcyc]
  have hper := State.period_congr (h3.word 0x000114 (by decide))
  rw [hper] at hnum
  refine ⟨?_, ?_, ?_, ?_, ?_, ?_, ?_⟩
  · exact (hlow.word _ (by decide)).trans (hstat.trans (h3.word _ (by decide)))
  · rw [← hstart, State.get64, State.get64, hlow.word _ (by decide), hlow.word _ (by decide)]
  · rw [← hnum, State.get, State.get, hlow.word _ (by decide)]
  · rw [hlast]
    exact hsusp
  · rw [hlast]
    exact hsamp
  · rw [hlast]
    exact hcomp
  · rw [hlast]
    exact hmod

end Sys2Proof.Machine
end

section
/-! CERTIFICATE. A cycle opens at its boundary (R16, R17, R25), settled. -/

namespace Sys2Proof.Machine

open Sys2Proof.Safety

/-- Settles O49: every step of R25 but the sixth leaves the registers of SYS_CYC, and every step after the new cycle leaves its record. -/
theorem aCycleOpensAtItsBoundary : Obligations.ACycleOpensAtItsBoundary := by
  unfold Obligations.ACycleOpensAtItsBoundary
  refine ⟨?opens, ?stopped⟩
  case opens =>
    intro s hwf hup hrun _
    have hends : Above s ((s.advanceTo (s.get64 SYS_CYC_START_TAI + s.period)).stretchedEnd.missedStep5) :=
      .missedStep5 (.stretchedEnd (.advanceTo (.refl hwf) _))
    have hlow := hends.cycleStands.word 0x000114 (by decide)
    obtain ⟨hstat, hstart, hnum, hflags⟩ := State.boundary_shows hends.wf (s.get64 SYS_CYC_START_TAI + s.period) true
    have hword := hstat.trans hlow
    refine ⟨_, congrArg Host.Outcome.next ((s.live_up hup _).trans ?_), (State.running_congr hword).trans hrun, hstart, ?_, hflags⟩
    · unfold opCycleBoundary
      rw [if_neg (by simp [hrun])]
    · rw [hnum, State.period_congr hlow, State.period_congr hword]
  case stopped =>
    intro s hup hrun
    refine ⟨s, congrArg Host.Outcome.next ((s.live_up hup _).trans ?_), rfl⟩
    unfold opCycleBoundary
    rw [if_pos (by simp [hrun])]

end Sys2Proof.Machine
end

section
/-! SUPPORT. What a reset of the control die leaves (R39 to R41): the registers by their kept bits, and what the loss of the heartbeat does before it. -/

namespace Sys2Proof.Machine

open Sys2Proof.Safety

variable {W : Nat → Prop} {s t u : State}

/-! Sparse maps rebuilt entry by entry. -/

section
variable {α : Type} [DecidableEq α] {dflt : Nat → α}

/-- Entries put one after another into a canonical map give a canonical map. -/
theorem sparseWf_foldl_put (g : Nat → α → α) (l : List (Nat × α)) {m : List (Nat × α)} (hm : sparseWf dflt m = true) :
    sparseWf dflt (l.foldl (fun m p => sparsePut p.1 (g p.1 p.2) (dflt p.1) m) m) = true :=
  List.foldlRecOn (motive := fun m => sparseWf dflt m = true) l _ hm fun _ hu _ _ => sparsePut_wf hu

/-- What the rebuilt map holds: a listed address its new value, every other address what the map held before. -/
theorem sparseFind_foldl_put (g : Nat → α → α) {l m : List (Nat × α)} (hl : sparseWf dflt l = true) (hm : sparseWf dflt m = true) (a : Nat) :
    (sparseFind a (l.foldl (fun m p => sparsePut p.1 (g p.1 p.2) (dflt p.1) m) m)).getD (dflt a) =
      ((sparseFind a l).map (g a)).getD ((sparseFind a m).getD (dflt a)) := by
  induction l generalizing m with
  | nil => rfl
  | cons p t ih =>
    obtain ⟨b, x⟩ := p
    obtain ⟨-, habove, ht⟩ := (sparseWf_cons b x t).1 hl
    rw [List.foldl_cons, ih ht (sparsePut_wf hm)]
    rcases Nat.lt_trichotomy a b with hlt | rfl | hgt
    · have hnone : sparseFind a t = none := sparseFind_below fun q hq => hlt.trans (habove q hq)
      simp [sparseFind, hnone, hlt, hlt.ne, sparseFind_put_other hm hlt.ne]
    · simp [sparseFind, sparseFind_below habove, sparseFind_put_same hm]
    · simp [sparseFind, hgt.ne', hgt.not_gt, sparseFind_put_other hm hgt.ne']

omit [DecidableEq α] in
/-- A map cut to the addresses from a bound on holds nothing below it. -/
theorem sparseFind_cut_below {n a : Nat} (l : List (Nat × α)) (h : a < n) : sparseFind a (l.filter fun p => decide (n ≤ p.1)) = none :=
  sparseFind_below fun _ hp => h.trans_le (of_decide_eq_true (List.mem_filter.1 hp).2)

/-- From the bound on it holds what it held. -/
theorem sparseFind_cut_above {n a : Nat} {l : List (Nat × α)} (hl : sparseWf dflt l = true) (h : n ≤ a) :
    sparseFind a (l.filter fun p => decide (n ≤ p.1)) = sparseFind a l := by
  induction l with
  | nil => rfl
  | cons p t ih =>
    obtain ⟨b, x⟩ := p
    obtain ⟨-, habove, ht⟩ := (sparseWf_cons b x t).1 hl
    by_cases hb : n ≤ b
    · simp [hb, sparseFind, ih ht]
    · simp [hb, sparseFind, ih ht, show a ≠ b by omega, show ¬ a < b by omega]

end

/-! The registers by their kept bits. -/

/-- A register's word after a reset that keeps the bits `k` of it. -/
def keptWord (k : Nat → Word) (a : Nat) (w : Word) : Word := (w &&& k a) ||| (resetWord a &&& ~~~(k a))

theorem keptWord_reset (k : Nat → Word) (a : Nat) : keptWord k a (resetWord a) = resetWord a := by
  refine BitVec.eq_of_getElem_eq fun i hi => ?_
  cases h : (k a)[i] <;> simp [keptWord, h]

theorem keptWord_none {k : Nat → Word} {a : Nat} (h : k a = 0) (w : Word) : keptWord k a w = resetWord a := by
  have hall : ~~~(0 : Word) = BitVec.allOnes 32 := rfl
  have hzero : (0 : Word) = 0#32 := rfl
  rw [keptWord, h, hall, BitVec.and_allOnes, hzero, BitVec.and_zero, BitVec.zero_or]

theorem keptWord_all {k : Nat → Word} {a : Nat} (h : k a = 0xFFFFFFFF#32) (w : Word) : keptWord k a w = w := by
  have hall : 0xFFFFFFFF#32 = BitVec.allOnes 32 := rfl
  rw [keptWord, h, hall, BitVec.not_allOnes, BitVec.and_allOnes, BitVec.and_zero, BitVec.or_zero]

theorem State.keepRegs_wf (s : State) (k : Nat → Word) (hu : u.regs = s.keepRegs k) : regsWf u := by
  unfold regsWf
  rw [hu]
  exact sparseWf_foldl_put (keptWord k) s.regs rfl

/-- Every register holds its word cut to the kept bits. -/
theorem State.word_keepRegs (h : regsWf s) (k : Nat → Word) (hu : u.regs = s.keepRegs k) (a : Nat) : u.word a = keptWord k a (s.word a) := by
  have hfind := sparseFind_foldl_put (keptWord k) h (m := []) rfl a
  unfold State.word
  rw [hu]
  refine hfind.trans ?_
  cases sparseFind a s.regs with
  | none => exact (keptWord_reset k a).symm
  | some v => rfl

/-! Operations that change registers only. -/

theorem regsOnly_trans (h : RegsOnly s t) (h' : RegsOnly t u) : RegsOnly s u :=
  Eq.trans h' (congrArg (fun x : State => { x with regs := u.regs }) h)

theorem regsOnly_ite {c : Prop} [Decidable c] (ht : RegsOnly s t) (hu : RegsOnly s u) : RegsOnly s (if c then t else u) := by
  split
  · exact ht
  · exact hu

theorem regsOnly_foldl {α : Type} {f : State → α → State} (hf : ∀ u x, RegsOnly u (f u x)) (l : List α) (s : State) : RegsOnly s (l.foldl f s) :=
  List.foldlRecOn (motive := fun u => RegsOnly s u) l f rfl fun u hu x _ => regsOnly_trans hu (hf u x)

/-- A source that is not counted is noted, and nothing more (R101). -/
theorem State.raise_uncounted (s : State) {src : Source} (h : src.counted = false) (unit : Nat) : s.raise src unit = s.noted src unit := by
  rw [State.raise_eq, h]
  rfl

theorem State.noted_regsOnly (s : State) (src : Source) (unit : Nat) : RegsOnly s (s.noted src unit) := rfl

theorem State.phasesOff_regsOnly (s : State) (n : Nat) : RegsOnly s (s.phasesOff n) := regsOnly_foldl (fun _ _ => rfl) _ s

/-- The pulse-inhibit path of an axis writes registers only: AXIS_INHIBITED is not counted, so that no block becomes severe by it. -/
theorem State.inhibitAxis_regsOnly (s : State) (n : Nat) : RegsOnly s (s.inhibitAxis n) := by
  unfold State.inhibitAxis
  extract_lets st s1
  have h1 : RegsOnly s s1 := regsOnly_ite rfl rfl
  have hto : RegsOnly s1 (s1.axisTo n AX_INHIBITED) := regsOnly_trans rfl ((s1.set AXIS_STAT_STATE AX_INHIBITED n).phasesOff_regsOnly n)
  have hraise : RegsOnly s ((s1.axisTo n AX_INHIBITED).raise SRC_AXIS_INHIBITED n) := by
    rw [State.raise_uncounted _ rfl]
    exact regsOnly_trans (regsOnly_trans h1 hto) (State.noted_regsOnly ..)
  exact regsOnly_ite (regsOnly_ite hraise (regsOnly_trans h1 (s1.phasesOff_regsOnly n))) rfl

theorem State.applyInhibit_regsOnly (s : State) : RegsOnly s s.applyInhibit := regsOnly_foldl (fun u n => u.inhibitAxis_regsOnly n) _ s

/-- An event of a source that is not counted writes STATUS and EVT_LAST. -/
theorem Confined.raise_uncounted {src : Source} {unit : Nat} (h : Confined W s t) (hsrc : src.counted = false)
    (hstat : W (ctrlAddr src.blk 0x04)) (hlast : W (ctrlAddr src.blk 0x14)) : Confined W s (t.raise src unit) := by
  rw [State.raise_uncounted t hsrc]
  exact .putWord (.set h (by simpa [Fld.addr] using hstat)) hlast

/-- The registers of the pulse-inhibit path, of which SYS_FAULT_HOLD is none. -/
theorem Confined.inhibitAxis_keepsHold {n : Nat} (h : Confined W s t) (hW : ∀ a ∈ inhibitRegs, a ≠ 0x000214 → W a) (hn : n < 4) :
    Confined W s (t.inhibitAxis n) := by
  have haxis : ∀ a ∈ Safety.axisRegs n, W a := fun a ha =>
    hW a (safetyAxisRegs_subset_inhibitRegs hn a ha) (by revert a; decide +revert)
  have hfunc : W (0x130414 + 0x100 * n) := hW _ (axisFunc_mem_inhibitRegs hn) (by omega)
  have hstat : W 0x131110 := hW _ (by decide) (by decide)
  unfold State.inhibitAxis
  extract_lets st s1
  have h1 : Confined W s s1 := .ite (.set (.set (.set h hstat) hstat) hfunc) h
  exact .ite (.ite (.raise_uncounted (.axisTo h1 haxis) rfl (hW _ (by decide) (by decide)) (hW _ (by decide) (by decide))) (.phasesOff h1 haxis)) h

theorem Confined.applyInhibit (h : Confined W s t) (hW : ∀ a ∈ inhibitRegs, a ≠ 0x000214 → W a) : Confined W s t.applyInhibit :=
  h.foldl fun _ _ hn hu => hu.inhibitAxis_keepsHold hW (List.mem_range.1 (List.mem_reverse.1 hn))

/-! The loss of the heartbeat (R31, R476). -/

/-- Nothing but registers and CTC's record differs. -/
def CoilsOnly (s t : State) : Prop := t = { s with regs := t.regs, ctc := t.ctc }

theorem CoilsOnly.trans (h : CoilsOnly s t) (h' : CoilsOnly t u) : CoilsOnly s u :=
  Eq.trans h' (congrArg (fun x : State => { x with regs := u.regs, ctc := u.ctc }) h)

/-- The outputs follow their LOSS fields. -/
theorem State.coilLoss_only (s : State) : CoilsOnly s s.coilLoss := by
  refine List.foldlRecOn (motive := CoilsOnly s) coils _ rfl fun u hu o _ => hu.trans ?_
  extract_lets field l
  split
  · split
    · rfl
    · split <;> rfl
  · rfl

theorem Confined.coilLoss (h : Confined W s t) (hW : ∀ o < 64, W (coilWord o)) : Confined W s t.coilLoss := by
  refine h.foldl fun u o ho hu => ?_
  have hword : W (coilWord o) := hW o (by have := List.mem_range.1 ho; omega)
  extract_lets field l
  exact .ite (.ite (.set hu hword) (.ite (.set (hu.keep rfl rfl rfl) hword) hu)) hu

/-- The state with the heartbeat gone. -/
def State.beatless (s : State) : State := { s with pwr := { s.pwr with heartbeat := false } }

theorem State.beatless_self (h : s.pwr.heartbeat = false) : s.beatless = s := by
  rw [State.beatless, ← h]

/-- Whatever it finds, the loss of the heartbeat leaves it gone, and touches registers and CTC's record beside it. -/
theorem State.heartbeatLoss_only (s : State) : CoilsOnly s.beatless s.heartbeatLoss := by
  unfold State.heartbeatLoss
  split
  · have hinhibit : CoilsOnly s.beatless s.beatless.applyInhibit :=
      Eq.trans s.beatless.applyInhibit_regsOnly (congrArg (fun c : CtcState => { s.beatless with regs := s.beatless.applyInhibit.regs, ctc := c })
        (congrArg State.ctc s.beatless.applyInhibit_regsOnly).symm)
    exact hinhibit.trans (State.coilLoss_only _)
  · next h => rw [State.beatless_self (Bool.not_eq_true _ ▸ h)]; rfl

theorem State.heartbeatLoss_gone (h : s.pwr.heartbeat = false) : s.heartbeatLoss = s := by
  rw [State.heartbeatLoss, if_neg (by simp [h])]

theorem State.heartbeatLoss_confined (h : regsWf s) : Confined (· ≠ 0x000214) s s.heartbeatLoss := by
  have hgone : Confined (· ≠ 0x000214) s s.beatless := (Confined.refl h).keep rfl rfl rfl
  exact .ite (.coilLoss (hgone.applyInhibit fun _ _ ha => ha) (by decide)) (.refl h)

/-! The state that a reset works on: the heartbeat gone, a renewal that was due pending (R41, R543). -/

/-- What both resets do first. -/
def State.quiesced (s : State) : State := s.heartbeatLoss.pendRenewal

/-- It keeps SYS_FAULT_HOLD, the memory, the pins and the always-on domain. -/
theorem State.quiesced_shows (h : regsWf s) :
    regsWf s.quiesced ∧ s.quiesced.word 0x000214 = s.word 0x000214 ∧ s.quiesced.mem = s.mem ∧ s.quiesced.poison = s.poison ∧
      s.quiesced.pins = s.pins ∧ s.quiesced.pwr = { s.pwr with heartbeat := false } := by
  have hconf : Confined (· ≠ 0x000214) s s.quiesced := .ite (.set (State.heartbeatLoss_confined h) (by decide)) (State.heartbeatLoss_confined h)
  have honly : CoilsOnly s.beatless s.quiesced := by
    refine s.heartbeatLoss_only.trans ?_
    unfold State.quiesced State.pendRenewal
    split <;> rfl
  have hframe : s.quiesced = { s.beatless with regs := s.quiesced.regs, ctc := s.quiesced.ctc } := honly
  exact ⟨hconf.wf, hconf.word _ (by simp), (congrArg State.mem hframe).trans rfl, (congrArg State.poison hframe).trans rfl,
    (congrArg State.pins hframe).trans rfl, (congrArg State.pwr hframe).trans rfl⟩

/-! The control die leaves reset (R39, R57, R65). -/

/-- PLL_A acquires with the boot band, without a heartbeat to lose. -/
theorem State.acquire_boot (h : s.pwr.heartbeat = false) :
    s.acquire 0 true = { (s.set CLK_PLL_STAT_LOCKED 0 0).inc CLK_PLL_STAT_ACQ_CNT 0 with pllA := ⟨true, true, none⟩ } := by
  have hgone : ((s.set CLK_PLL_STAT_LOCKED 0 0).inc CLK_PLL_STAT_ACQ_CNT 0).heartbeatLoss = (s.set CLK_PLL_STAT_LOCKED 0 0).inc CLK_PLL_STAT_ACQ_CNT 0 :=
    State.heartbeatLoss_gone h
  unfold State.acquire
  simp only [if_true, hgone]
  rfl

/-- The control die out of reset: in WAKE, with PAIR_ID as the ball shows it and TIME from the RTC. -/
def State.awake (s : State) : State :=
  { (s.set SYS_PWR_STATE_STATE WAKE).setb PART_STAT_PAIR_ID s.pins.pairId with
    pwr := { s.pwr with dormant := false, coreUp := true }, time := { s.time with tai := s.rtcTime } }

theorem State.enterWake_eq (h : s.pwr.heartbeat = false) :
    s.enterWake = { (s.awake.set CLK_PLL_STAT_LOCKED 0 0).inc CLK_PLL_STAT_ACQ_CNT 0 with pllA := ⟨true, true, none⟩ } :=
  State.acquire_boot (s := s.awake) h

theorem b2n_mod_two (b : Bool) : (b2n b % 2 ^ 1 != 0) = b := by cases b <;> rfl

/-- What WAKE shows as it is entered with the heartbeat gone. -/
theorem State.enterWake_shows (h : regsWf s) (hbeat : s.pwr.heartbeat = false) :
    s.enterWake.pstate = WAKE ∧ s.enterWake.get SYS_PWR_STATE_LAST_WAKE = s.get SYS_PWR_STATE_LAST_WAKE ∧
      s.enterWake.flag CLK_PLL_STAT_LOCKED = false ∧ s.enterWake.flag PART_STAT_PAIR_ID = s.pins.pairId ∧
      (s.enterWake = { s with regs := s.enterWake.regs, pwr := { s.pwr with dormant := false, coreUp := true },
                              time := { s.time with tai := s.rtcTime }, pllA := ⟨true, true, none⟩ }) ∧
      ∀ a, a ∉ [0x000200, 0x010104, 0x160204] → s.enterWake.word a = s.word a := by
  have h1 := regsWf_set h SYS_PWR_STATE_STATE WAKE 0 0
  have h2 : regsWf s.awake := regsWf_setb h1 PART_STAT_PAIR_ID s.pins.pairId 0 0
  have hpll : Confined (· = 0x010104) s.awake ((s.awake.set CLK_PLL_STAT_LOCKED 0 0).inc CLK_PLL_STAT_ACQ_CNT 0) :=
    .inc (.set (.refl h2) rfl) rfl
  have hregs : s.enterWake.regs = ((s.awake.set CLK_PLL_STAT_LOCKED 0 0).inc CLK_PLL_STAT_ACQ_CNT 0).regs := by
    rw [State.enterWake_eq hbeat]
  have hget : ∀ f : Fld, f.addr 0 0 ≠ 0x010104 → s.enterWake.get f = s.awake.get f := fun f hf =>
    (State.get_congr hregs f 0 0).trans (hpll.get f 0 0 hf)
  refine ⟨?_, ?_, ?_, ?_, ?_, fun a ha => ?_⟩
  · rw [State.pstate, hget _ (by decide)]
    exact (State.get_set_other h1 PART_STAT_PAIR_ID _ _ _ _ _ _ (by decide) (.inl (by decide))).trans (State.get_set_same h _ _ _ _ (by decide))
  · rw [hget _ (by decide)]
    exact (State.get_set_other h1 PART_STAT_PAIR_ID _ _ _ _ _ _ (by decide) (.inl (by decide))).trans
      (State.get_set_other h _ _ _ _ _ _ _ (by decide) (.inr (.inr (by decide))))
  · rw [State.flag_eq, State.get_congr hregs, State.inc_eq,
      State.get_set_other (regsWf_set h2 _ _ _ _) _ _ _ _ _ _ _ (by decide) (.inr (.inl (by decide))), ← State.flag_eq]
    exact State.flag_set_zero h2 _ _ _ (by decide)
  · rw [State.flag_eq, hget _ (by decide)]
    exact (congrArg (· != 0) (State.get_set_same h1 PART_STAT_PAIR_ID _ _ _ (by decide))).trans (b2n_mod_two _)
  · rw [State.enterWake_eq hbeat]
    rfl
  · simp only [List.mem_cons, List.not_mem_nil, or_false, not_or] at ha
    obtain ⟨hstate, hpllA, hpart⟩ := ha
    refine ((State.word_congr hregs a).trans (hpll.word a hpllA)).trans ?_
    exact (State.word_set_other h1 PART_STAT_PAIR_ID _ _ _ hpart).trans (State.word_set_other h _ _ _ _ hstate)

/-! Warm and cold reset (R40). -/

/-- What a reset of the control die keeps, before its power state is set. -/
def State.coreKept (s : State) : State := s.quiesced.resetAround s.quiesced.mem s.quiesced.poison (s.quiesced.keepRegs keptBits)

/-- The state that a warm reset leaves the control die in before it may leave reset. -/
def State.warmHeld (s : State) : State :=
  { s.coreReset.set SYS_PWR_STATE_LAST_WAKE 3 with
    pwr := { (s.coreReset.set SYS_PWR_STATE_LAST_WAKE 3).pwr with dormant := false, coreUp := false } }

/-- It keeps the memory, the pins and the held faults, and of every other register the kept bits. -/
theorem State.warmHeld_shows (h : regsWf s) :
    regsWf s.warmHeld ∧ s.warmHeld.get SYS_PWR_STATE_LAST_WAKE = 3 ∧ s.warmHeld.mem = s.mem ∧ s.warmHeld.poison = s.poison ∧
      s.warmHeld.pins = s.pins ∧ s.warmHeld.pwr.heartbeat = false ∧ s.warmHeld.pwr.aonUp = s.pwr.aonUp ∧
      s.warmHeld.pwr.holdCopy = s.pwr.holdCopy ∧ s.warmHeld.word 0x000214 = s.word 0x000214 ∧
      ∀ a, keptBits a = 0 → a ≠ 0x000200 → s.warmHeld.word a = resetWord a := by
  obtain ⟨hwf, hhold, hmem, hpoison, hpins, hpwr⟩ := State.quiesced_shows h
  have hkept : regsWf s.coreKept := State.keepRegs_wf s.quiesced keptBits rfl
  have hstate : Confined (· = 0x000200) s.coreKept s.coreReset := .set (f := SYS_PWR_STATE_STANDBY) (.set (f := SYS_PWR_STATE_STATE) (.refl hkept) rfl) rfl
  have hlast : Confined (· = 0x000200) s.coreKept s.warmHeld := .keep (.set (f := SYS_PWR_STATE_LAST_WAKE) (u := 0) (i := 0) (v := 3) hstate rfl) rfl rfl rfl
  have hword : ∀ a, a ≠ 0x000200 → s.warmHeld.word a = keptWord keptBits a (s.quiesced.word a) := fun a ha =>
    (hlast.word a ha).trans (State.word_keepRegs hwf keptBits rfl a)
  refine ⟨hlast.wf, State.get_set_same hstate.wf SYS_PWR_STATE_LAST_WAKE 3 0 0 (by decide), hmem, hpoison, hpins, rfl,
    (congrArg PowerState.aonUp hpwr : s.quiesced.pwr.aonUp = _), (congrArg PowerState.holdCopy hpwr : s.quiesced.pwr.holdCopy = _), ?_,
    fun a hbits ha => (hword a ha).trans (keptWord_none hbits _)⟩
  exact (hword _ (by decide)).trans ((keptWord_all rfl _).trans hhold)

/-- Where its rails stand, the control die leaves a warm reset at once. -/
theorem opWarmReset_eq (h : regsWf s) (haon : s.pwr.aonUp = true) (hready : s.coreReady = true) : opWarmReset s = s.warmHeld.enterWake := by
  obtain ⟨-, -, -, -, hpins, -, hup, -⟩ := State.warmHeld_shows h
  have hstill : s.warmHeld.coreReady = true := by
    rw [← hready, State.coreReady, State.coreReady, hpins, hup]
  unfold opWarmReset
  rw [if_neg (by simp [haon])]
  exact if_pos hstill

/-- What a cold reset leaves: of the memory MRAM alone, of the registers the bits that no reset clears. -/
theorem opColdReset_shows (h : regsWf s) :
    (opColdReset s).pwr.aonUp = false ∧ (opColdReset s).pwr.coreUp = false ∧
      (opColdReset s).pins.rails = s.pins.rails.filter (· != .vaon) ∧ (opColdReset s).pwr.holdCopy = s.pwr.holdCopy ∧
      (∀ a, coldBits a = 0 → (opColdReset s).word a = resetWord a) ∧ (opColdReset s).mem = s.mem.filter fun p => decide (MRAM ≤ p.1) := by
  obtain ⟨hwf, -, hmem, -, hpins, hpwr⟩ := State.quiesced_shows h
  refine ⟨rfl, rfl, congrArg (fun p : PinState => p.rails.filter (· != Rail.vaon)) hpins,
    (congrArg PowerState.holdCopy hpwr : s.quiesced.pwr.holdCopy = _), fun a ha => ?_,
    congrArg (List.filter fun p : Nat × Byte => decide (MRAM ≤ p.1)) hmem⟩
  exact (State.word_keepRegs hwf coldBits (u := opColdReset s) rfl a).trans (keptWord_none ha _)

/-! The always-on domain (R39, R108). -/

/-- The always-on domain leaves power-on reset with FAULT_N forced low. -/
theorem opAonPorRelease_eq (hdown : s.pwr.aonUp = false) (hrail : s.pins.rails.contains .vaon = true) :
    opAonPorRelease s =
      ({ s with pwr := { s.pwr with aonUp := true, faultForced := true } } : State).setb SYS_AON_STAT_XTAL_OK (!s.flag SYS_AON_STAT_ON_RC) := by
  unfold opAonPorRelease
  rw [if_neg (by rw [hdown, hrail]; decide)]

/-- SYS_FAULT_HOLD with the held faults restored. -/
def State.holdRestored (s : State) (held : Nat) (err : Nat) : State :=
  (s.set SYS_FAULT_HOLD_HOLD held).set SYS_FAULT_HOLD_RESTORE_ERR err

theorem State.holdRestored_shows (h : regsWf s) (held err : Nat) :
    (s.holdRestored held err).get SYS_FAULT_HOLD_HOLD = held % 2 ^ 27 ∧ (s.holdRestored held err).get SYS_FAULT_HOLD_RESTORE_ERR = err % 2 ∧
      ∀ a, a ∉ [0x000214] → (s.holdRestored held err).word a = s.word a := by
  have h1 := regsWf_set h SYS_FAULT_HOLD_HOLD held 0 0
  have hconf : Confined (· = 0x000214) s (s.holdRestored held err) := .set (.set (.refl h) rfl) rfl
  refine ⟨?_, State.get_set_same h1 _ _ _ _ (by decide), fun a ha => hconf.word a (List.ne_of_not_mem_cons ha)⟩
  exact (State.get_set_other h1 SYS_FAULT_HOLD_RESTORE_ERR _ _ _ _ _ _ (by decide) (.inr (.inl (by decide)))).trans
    (State.get_set_same h _ _ _ _ (by decide))

end Sys2Proof.Machine
end

section
/-! CERTIFICATE. The resets and the restore of the held faults (R38 to R40, R57, R108), settled. -/

namespace Sys2Proof.Machine

open Sys2Proof.Safety

/-- Settles O16: each reset is the loss of the heartbeat, which keeps the memory and the held faults, then the registers rebuilt from their kept bits, then, where the control die may leave reset, the entry of WAKE. -/
theorem resetsReturnTheDevice : Obligations.ResetsReturnTheDevice := by
  unfold Obligations.ResetsReturnTheDevice
  refine ⟨fun s hwf hdown hrail => ?aonRelease, fun s hwf hforced => ?restoreCopy, fun s hwf hforced => ?restoreAll,
    fun s hwf hdown hawake hready hbeat => ?coreRelease, fun s hwf haon hready => ?warm, fun s hwf => ?cold⟩
  case aonRelease =>
    refine ⟨_, congrArg Host.Outcome.next (opAonPorRelease_eq hdown hrail), rfl, rfl, ?_, rfl,
      fun adr hadr => State.word_set_other hwf SYS_AON_STAT_XTAL_OK _ _ _ (List.ne_of_not_mem_cons hadr)⟩
    exact (congrArg (· != 0) (State.get_set_same hwf SYS_AON_STAT_XTAL_OK _ _ _ (by decide))).trans (b2n_mod_two _)
  case restoreCopy =>
    obtain ⟨hheld, herr, hframe⟩ := State.holdRestored_shows hwf s.pwr.holdCopy 0
    refine ⟨{ s.holdRestored s.pwr.holdCopy 0 with pwr := { s.pwr with faultForced := false } }, congrArg Host.Outcome.next ?_, hheld,
      congrArg (· != 0) herr, rfl, rfl, hframe⟩
    unfold opFaultHoldRestore
    rw [if_neg (by simp [hforced])]
    rfl
  case restoreAll =>
    obtain ⟨hheld, herr, hframe⟩ := State.holdRestored_shows hwf 0x7FFFFFF 1
    refine ⟨{ (s.holdRestored 0x7FFFFFF 1).saveHold with pwr := { (s.holdRestored 0x7FFFFFF 1).saveHold.pwr with faultForced := false } },
      congrArg Host.Outcome.next ?_, hheld, congrArg (· != 0) herr, rfl, rfl, hframe⟩
    unfold opFaultHoldRestore
    rw [if_neg (by simp [hforced])]
    rfl
  case coreRelease =>
    obtain ⟨hstate, -, hlock, hpair, hframe, hwords⟩ := State.enterWake_shows hwf hbeat
    refine ⟨s.enterWake, congrArg Host.Outcome.next ?_, hstate, ?_, congrArg State.time hframe, congrArg State.pllA hframe, hlock, hpair, ?_, hwords⟩
    · unfold opCoreResetRelease
      rw [if_neg (by simp [hdown, hawake, hready])]
    · exact (congrArg State.pwr hframe).trans (congrArg (fun d : Bool => { s.pwr with dormant := d, coreUp := true }) hawake.symm)
    · rw [hframe]
  case warm =>
    obtain ⟨hheld, hlast, hmem, hpoison, hpins, hbeat, -, hcopy, hhold, hreset⟩ := State.warmHeld_shows hwf
    obtain ⟨hstate, hlast', -, -, hframe, hwords⟩ := State.enterWake_shows hheld hbeat
    refine ⟨s.warmHeld.enterWake, congrArg Host.Outcome.next (opWarmReset_eq hwf haon hready), hstate, hlast'.trans hlast,
      congrArg (fun u : State => u.pwr.coreUp) hframe, congrArg (fun u : State => u.pwr.dormant) hframe, congrArg State.pllA hframe,
      (congrArg State.mem hframe).trans hmem, (congrArg State.poison hframe).trans hpoison, (congrArg State.pins hframe).trans hpins,
      (hwords _ (by decide)).trans hhold, (congrArg (fun u : State => u.pwr.holdCopy) hframe).trans hcopy, fun a hbits ha => ?_⟩
    exact (hwords a ha).trans (hreset a hbits (List.ne_of_not_mem_cons ha))
  case cold =>
    obtain ⟨hdown, hcore, hrails, hcopy, hwords, hmem⟩ := opColdReset_shows hwf
    refine ⟨opColdReset s, rfl, hdown, hcore, hrails, hcopy, fun a ha _ => hwords a ha, fun a ha => ?_, fun hmemwf a ha => ?_⟩
    · rw [State.byte, hmem, sparseFind_cut_below _ ha]
      rfl
    · rw [State.byte, hmem, sparseFind_cut_above hmemwf ha]
      rfl

end Sys2Proof.Machine
end

section
/-! SUPPORT. What an encoder's sample, index, standstill and Hall edge do (R445 to R448): the registers of its unit, the drives' record, and SKIP through a measured edge. -/

namespace Sys2Proof.Machine

open Sys2Proof.Safety

variable {s t u : State} {l : List Nat} {n : Nat}

/-- The addresses of the listed registers in unit `n`. -/
abbrev atUnit (l : List Nat) (n : Nat) : List Nat := l.map fun x => x + 0x100 * n

theorem addr_mem_atUnit {f : Fld} (hbase : f.base ∈ l) (hus : f.us = 0x100) : f.addr n 0 ∈ atUnit l n :=
  List.mem_map.2 ⟨f.base, hbase, by rw [Fld.addr, hus]; omega⟩

theorem addr_not_mem_atUnit {f : Fld} (hbase : f.base ∉ l) (hus : f.us = 0x100) : f.addr n 0 ∉ atUnit l n := fun hmem => by
  obtain ⟨x, hx, haddr⟩ := List.mem_map.1 hmem
  rw [Fld.addr, hus] at haddr
  exact hbase ((show x = f.base by omega) ▸ hx)

/-- An encoder's record set reads back. -/
theorem State.encSt_setEncSt (hn : n < s.drive.encs.length) (e : EncSt) : (s.setEncSt n e).encSt n = e := by
  simp [State.encSt, State.setEncSt, List.getD, hn]

/-! What follows a step of A and B. -/

/-- Of the registers only the listed ones of encoder `n` change, SKIP keeps its count, and of the rest of the state only the drives and SAFE's record. -/
structure EncEffect (l : List Nat) (n : Nat) (s t : State) : Prop extends Confined (· ∈ atUnit l n) s t where
  only : t = { s with regs := t.regs, drive := t.drive, safe := t.safe }
  skip : t.get ENC_STAT_SKIP n = s.get ENC_STAT_SKIP n

theorem EncEffect.refl (h : regsWf s) : EncEffect l n s s := ⟨.refl h, rfl, rfl⟩

theorem EncEffect.trans (h : EncEffect l n s t) (h' : EncEffect l n t u) : EncEffect l n s u :=
  ⟨h.toConfined.trans h'.toConfined,
    h'.only.trans (congrArg (fun x : State => { x with regs := u.regs, drive := u.drive, safe := u.safe }) h.only), h'.skip.trans h.skip⟩

theorem EncEffect.mono {l' : List Nat} (h : EncEffect l n s t) (hl : l ⊆ l') : EncEffect l' n s t :=
  ⟨h.toConfined.mono fun _ ha => List.map_subset _ hl ha, h.only, h.skip⟩

/-- A field of the encoder's unit that shares no bit with SKIP. -/
abbrev besideSkip (f : Fld) : Prop := f.us = 0x100 ∧ f.lo + f.w ≤ 32 ∧ (f.base ≠ 0x120014 ∨ f.lo + f.w ≤ 16)

theorem EncEffect.set {f : Fld} {v : Nat} (h : EncEffect l n s t) (hbase : f.base ∈ l) (hf : besideSkip f) : EncEffect l n s (t.set f v n) := by
  obtain ⟨hus, hfit, hbeside⟩ := hf
  refine ⟨h.toConfined.set (addr_mem_atUnit hbase hus),
    congrArg (fun x : State => { x with regs := (t.set f v n).regs }) h.only, ?_⟩
  refine (State.get_set_other h.wf f ENC_STAT_SKIP v n 0 n 0 hfit ?_).trans h.skip
  rcases hbeside with hne | hlow
  · refine .inl ?_
    simp only [Fld.addr, ENC_STAT_SKIP, hus]
    omega
  · exact .inr (.inr hlow)

theorem EncEffect.setb {f : Fld} {v : Bool} (h : EncEffect l n s t) (hbase : f.base ∈ l) (hf : besideSkip f) : EncEffect l n s (t.setb f v n) :=
  h.set hbase hf
theorem EncEffect.seti {f : Fld} {v : Int} (h : EncEffect l n s t) (hbase : f.base ∈ l) (hf : besideSkip f) : EncEffect l n s (t.seti f v n) :=
  h.set hbase hf

theorem EncEffect.drive {x : DriveState} (h : EncEffect l n s t) : EncEffect l n s { t with drive := x } :=
  ⟨h.toConfined.keep rfl rfl rfl, congrArg (fun u : State => { u with drive := x }) h.only, h.skip⟩
theorem EncEffect.safe {x : SafeState} (h : EncEffect l n s t) : EncEffect l n s { t with safe := x } :=
  ⟨h.toConfined.keep rfl rfl rfl, congrArg (fun u : State => { u with safe := x }) h.only, h.skip⟩
theorem EncEffect.setEncSt {m : Nat} {e : EncSt} (h : EncEffect l n s t) : EncEffect l n s (t.setEncSt m e) := h.drive

theorem EncEffect.ite {c : Prop} [Decidable c] {a b : State} (ha : EncEffect l n s a) (hb : EncEffect l n s b) :
    EncEffect l n s (if c then a else b) := by
  split
  · exact ha
  · exact hb

/-- The cap on the speed writes the speed (R448). -/
theorem EncEffect.capSpeed {k : Nat} (h : EncEffect l n s t) (hl : [0x120010] ⊆ l) : EncEffect l n s (t.capSpeed n k) :=
  .ite (.seti h (hl (by decide)) (by decide)) h

/-- A measured edge writes the speed, the interval and three flags of STAT (R447, R448). -/
theorem EncEffect.measureEdge {k : Nat} {down : Bool} (h : EncEffect l n s t) (hl : [0x120010, 0x120014, 0x120020] ⊆ l) :
    EncEffect l n s (t.measureEdge n down k) := by
  have hspd : ENC_SPD_SPEED.base ∈ l := hl (by decide)
  have hstat : ENC_STAT_DIR.base ∈ l := hl (by decide)
  have hivl : ENC_IVL_TICKS.base ∈ l := hl (by decide)
  unfold State.measureEdge
  extract_lets e c s1 s2 s3 v s4
  have h1 : EncEffect l n s s1 := h.set hstat (by decide)
  have h3 : EncEffect l n s s3 := h1.setb hstat (by decide)
  have h4 : EncEffect l n s s4 := .seti (.set h3 hivl (by decide)) hspd (by decide)
  exact .ite (.setEncSt (.set (.setb (.seti h1 hspd (by decide)) hstat (by decide)) hstat (by decide)))
    (.ite h3.setEncSt (.setEncSt (.set h4 hstat (by decide))))

/-! The count itself (R446). -/

/-- The count goes up by one inside a turn. -/
theorem State.countPos_up (s : State) (h : s.get ENC_POS_POS n + 1 < s.get ENC_CPR_CPR n) :
    s.countPos n false = (s.set ENC_POS_POS (s.get ENC_POS_POS n + 1) n).fireCompares n false := by
  simp [State.countPos, show ¬ s.get ENC_CPR_CPR n ≤ s.get ENC_POS_POS n + 1 by omega]

/-- The last count of a turn starts the next one. -/
theorem State.countPos_turn (s : State) (h : s.get ENC_CPR_CPR n ≤ s.get ENC_POS_POS n + 1) :
    s.countPos n false = ((s.set ENC_POS_POS 0 n).seti ENC_REV_REV (s.geti ENC_REV_REV n + 1) n).fireCompares n false := by
  simp [State.countPos, h]

/-- One more than a register's signed value, stored in the register. -/
theorem unsigned_signed_succ {v : Nat} (h : v < 2 ^ 32) : unsigned 32 (signed 32 v + 1) = (v + 1) % 2 ^ 32 := by
  have hofInt : BitVec.ofInt 32 ((BitVec.ofNat 32 v).toInt + 1) = BitVec.ofNat 32 v + 1#32 := by
    rw [BitVec.ofInt_add, BitVec.ofInt_toInt]
    rfl
  rw [unsigned, signed, hofInt, BitVec.toNat_add, BitVec.toNat_ofNat, Nat.mod_eq_of_lt h]
  rfl

theorem EncEffect.fireCompares {down : Bool} (h : EncEffect l n s t) : EncEffect l n s (t.fireCompares n down) := h.drive

/-- A forward count writes POS, and REV where a turn ends. -/
theorem State.countPos_effect (h : regsWf s) : EncEffect [0x120008, 0x12000C] n s (s.countPos n false) := by
  rcases Nat.lt_or_ge (s.get ENC_POS_POS n + 1) (s.get ENC_CPR_CPR n) with hin | hturn
  · rw [s.countPos_up hin]
    exact .fireCompares (.set (.refl h) (by decide) (by decide))
  · rw [s.countPos_turn hturn]
    exact .fireCompares (.seti (.set (.refl h) (by decide) (by decide)) (by decide) (by decide))

/-- After a forward count: POS one higher and REV as it was inside a turn, POS 0 and REV one higher at its end. -/
theorem State.countPos_shows (h : regsWf s) :
    (s.get ENC_POS_POS n + 1 < s.get ENC_CPR_CPR n → (s.countPos n false).get ENC_POS_POS n = s.get ENC_POS_POS n + 1 ∧
      (s.countPos n false).get ENC_REV_REV n = s.get ENC_REV_REV n) ∧
    (s.get ENC_CPR_CPR n ≤ s.get ENC_POS_POS n + 1 → (s.countPos n false).get ENC_POS_POS n = 0 ∧
      (s.countPos n false).get ENC_REV_REV n = (s.get ENC_REV_REV n + 1) % 2 ^ 32) := by
  have hother : ENC_REV_REV.addr n 0 ≠ ENC_POS_POS.addr n 0 := by
    simp only [Fld.addr, ENC_REV_REV, ENC_POS_POS]
    omega
  refine ⟨fun hin => ?_, fun hturn => ?_⟩
  · have hcpr : s.get ENC_CPR_CPR n < 2 ^ 32 := s.get_lt ENC_CPR_CPR n 0
    rw [s.countPos_up hin]
    exact ⟨(State.get_set_same h ENC_POS_POS _ n 0 (by decide)).trans (Nat.mod_eq_of_lt (hin.trans hcpr)),
      State.get_set_other h ENC_POS_POS ENC_REV_REV _ n 0 n 0 (by decide) (.inl hother)⟩
  · have h1 := regsWf_set h ENC_POS_POS 0 n 0
    rw [s.countPos_turn hturn]
    refine ⟨?_, ?_⟩
    · exact (State.get_set_other h1 ENC_REV_REV ENC_POS_POS _ n 0 n 0 (by decide) (.inl hother.symm)).trans
        (State.get_set_same h ENC_POS_POS 0 n 0 (by decide))
    · refine (State.get_set_same h1 ENC_REV_REV _ n 0 (by decide)).trans ?_
      rw [show ENC_REV_REV.w = 32 from rfl, State.geti, show ENC_REV_REV.w = 32 from rfl, unsigned_signed_succ (s.get_lt ENC_REV_REV n 0)]
      omega

/-! A sample (R445, R447). -/

/-- The sample taken, `dt` ticks after the last one. -/
def State.sampled (s : State) (n : Nat) (a b : Bool) (dt : Nat) : State :=
  s.setEncSt n { s.encSt n with a := a, b := b, ticks := (s.encSt n).ticks + dt }

/-- A forward step counted, for the encoder and for its Hall check. -/
def State.counted (s : State) (n : Nat) : State :=
  (s.countPos n false).setEncSt n { (s.countPos n false).encSt n with hallCounts := ((s.countPos n false).encSt n).hallCounts + 1 }

section
variable {a b : Bool} {dt q : Nat} (hen : s.en .enc = true) (hch : s.flag ENC_CFG_EN_CH n = true) (hq : quadIndex (s.encSt n).a (s.encSt n).b = q)
include hen hch hq

/-- An equal sample counts nothing. -/
theorem opEncCount_equal (hj : quadIndex a b = q) : opEncCount n a b dt s = (s.sampled n a b dt).capSpeed n ((s.encSt n).ticks + dt) := by
  unfold opEncCount
  rw [if_pos (by simp [hen, hch])]
  exact if_pos (hq.trans hj.symm)

/-- A skipped step is counted in SKIP. -/
theorem opEncCount_skip (hj : quadIndex a b = (q + 2) % 4) :
    opEncCount n a b dt s = ((s.sampled n a b dt).inc ENC_STAT_SKIP n).capSpeed n ((s.encSt n).ticks + dt) := by
  have hlt : q < 4 := by
    rw [← hq]
    cases (s.encSt n).a <;> cases (s.encSt n).b <;> decide
  unfold opEncCount
  rw [if_pos (by simp [hen, hch])]
  extract_lets e t i j s1
  have hi : i = q := hq
  have hj' : j = (q + 2) % 4 := hj
  rw [if_neg (by omega), if_pos (by omega)]
  rfl

/-- A forward step is counted, and then an edge is measured or the speed capped. -/
theorem opEncCount_forward (hwf : regsWf s) (hup : (decide (quadIndex a b = (q + 1) % 4) != s.flag ENC_CFG_INV_DIR n) = true)
    (hne : quadIndex a b ≠ q) (hskip : quadIndex a b ≠ (q + 2) % 4) :
    EncEffect [0x120010, 0x120014, 0x120020] n ((s.sampled n a b dt).counted n) (opEncCount n a b dt s) := by
  have hcounted : regsWf ((s.sampled n a b dt).counted n) := (State.countPos_effect (s := s.sampled n a b dt) hwf).wf
  unfold opEncCount
  rw [if_pos (by simp [hen, hch])]
  extract_lets e t i j s1 down s2 e' s3
  have hi : i = q := hq
  have hdown : down = false := by
    show (decide ((i + 1) % 4 ≠ j) != s.flag ENC_CFG_INV_DIR n) = false
    rw [hi, decide_not, decide_eq_decide.2 (eq_comm (a := (q + 1) % 4)), Bool.not_bne, hup]
    rfl
  have h3 : s3 = (s.sampled n a b dt).counted n := by
    unfold s3 e' s2
    rw [hdown]
    rfl
  rw [if_neg (by rw [hi]; exact hne.symm), if_neg (by rw [hi]; exact hskip.symm), hdown, h3]
  exact .ite (.capSpeed (.refl hcounted) (by decide)) (.measureEdge (.refl hcounted) (List.Subset.refl _))

end

/-! The sample with the checks that follow it, while SAFE is disabled (R559). -/

theorem State.en_safe_congr (h : t.word 0x131000 = s.word 0x131000) : t.en .safe = s.en .safe :=
  congrArg (fun w : Word => fieldOf w 0 1 != 0) h

/-- With SAFE disabled a sample leaves SAFE's own record of it beside the count. -/
theorem opEncSample_unsafe {a b : Bool} {dt : Nat} (hsafe : s.en .safe = false) (hA : s.drive.encRev.contains (6 * n) = false)
    (hB : s.drive.encRev.contains (6 * n + 1) = false) (hword : (opEncCount n a b dt s).word 0x131000 = s.word 0x131000) :
    ∃ x, opEncSample n a b dt s = { opEncCount n a b dt s with safe := x } := by
  unfold opEncSample
  extract_lets skip0 s1 k old skips safe s2 s3
  have h1 : s1 = opEncCount n a b dt s := by
    unfold s1
    rw [hA, hB, Bool.not_false, Bool.and_true, Bool.and_true]
  have hoff : s2.en .safe = false := (State.en_safe_congr (t := s2) ((congrArg (State.word · 0x131000) h1).trans hword)).trans hsafe
  have h3 : s3 = s2 := by
    unfold s3 opEncPlausFail State.plausOn
    rw [hoff, Bool.false_and, if_neg Bool.false_ne_true, ite_self]
  have hilk : s2.ilkMotion n = s2 := by
    unfold State.ilkMotion State.ilkOn
    rw [hoff]
    rfl
  exact ⟨s2.safe, by rw [h3, hilk]; exact congrArg (fun u : State => { u with safe := s2.safe }) h1⟩

/-- On the running dies a field signal has its effect (R37, R38). -/
theorem State.fieldLive_up (hfield : s.fieldUp = true) (hup : s.pwr.coreUp = true) (t : State) : s.fieldLive t = t := by
  rw [State.fieldLive, if_pos hfield, State.live_up hup]

/-- The registers that a sample may write. -/
abbrev sampleRegs : List Nat := [0x120008, 0x12000C, 0x120010, 0x120014, 0x120020]

theorem safeCtrl_not_mem_atUnit (hn : n < 4) : 0x131000 ∉ atUnit sampleRegs n := by decide +revert

/-- A sample completes with its count, SAFE's record of it aside. -/
theorem exec_encCount {n : Fin 4} {a b : Bool} {dt : Nat} (hfield : s.fieldUp = true) (hup : s.pwr.coreUp = true) (hsafe : s.en .safe = false)
    (hA : s.drive.encRev.contains (6 * n.val) = false) (hB : s.drive.encRev.contains (6 * n.val + 1) = false)
    (hcount : Confined (· ∈ atUnit sampleRegs n.val) s (opEncCount n.val a b dt s)) :
    ∃ x, exec (.encCount n a b dt) s = .next { opEncCount n.val a b dt s with safe := x } := by
  obtain ⟨x, hx⟩ := opEncSample_unsafe hsafe hA hB (hcount.word _ (safeCtrl_not_mem_atUnit n.isLt))
  exact ⟨x, congrArg Host.Outcome.next ((State.fieldLive_up hfield hup _).trans hx)⟩

/-- A forward step: POS and REV are those of the count, and SKIP stands. -/
theorem opEncCount_forward_shows {a b : Bool} {dt q : Nat} (hwf : regsWf s) (hen : s.en .enc = true) (hch : s.flag ENC_CFG_EN_CH n = true)
    (hq : quadIndex (s.encSt n).a (s.encSt n).b = q) (hup : (decide (quadIndex a b = (q + 1) % 4) != s.flag ENC_CFG_INV_DIR n) = true)
    (hne : quadIndex a b ≠ q) (hskip : quadIndex a b ≠ (q + 2) % 4) :
    EncEffect sampleRegs n s (opEncCount n a b dt s) ∧
      (opEncCount n a b dt s).get ENC_POS_POS n = ((s.sampled n a b dt).countPos n false).get ENC_POS_POS n ∧
      (opEncCount n a b dt s).get ENC_REV_REV n = ((s.sampled n a b dt).countPos n false).get ENC_REV_REV n := by
  have hsampled : EncEffect sampleRegs n s (s.sampled n a b dt) := .setEncSt (.refl hwf)
  have hcount : EncEffect sampleRegs n (s.sampled n a b dt) ((s.sampled n a b dt).counted n) :=
    .setEncSt ((State.countPos_effect hsampled.wf).mono (by decide))
  have hedge := opEncCount_forward (a := a) (b := b) (dt := dt) hen hch hq hwf hup hne hskip
  exact ⟨(hsampled.trans hcount).trans (hedge.mono (by decide)), hedge.get ENC_POS_POS n 0 (addr_not_mem_atUnit (by decide) rfl),
    hedge.get ENC_REV_REV n 0 (addr_not_mem_atUnit (by decide) rfl)⟩

end Sys2Proof.Machine
end

section
/-! SUPPORT. The index, standstill, a Hall edge and the sensor supplies (R446, R448, R450, R471): what each shows. -/

namespace Sys2Proof.Machine

open Sys2Proof.Safety

variable {W : Nat → Prop} {s t u : State} {n : Nat}

/-- Registers of one unit with different bases. -/
theorem addr_ne_addr {f g : Fld} (hf : f.us = 0x100) (hg : g.us = 0x100) (h : f.base ≠ g.base) (n : Nat) : f.addr n 0 ≠ g.addr n 0 := by
  rw [Fld.addr, Fld.addr, hf, hg]
  omega

/-- A field of another register of the unit stands. -/
theorem State.get_set_unit (h : regsWf s) (f g : Fld) (v n : Nat) (hf : f.lo + f.w ≤ 32) (hus : f.us = 0x100 ∧ g.us = 0x100) (hne : g.base ≠ f.base) :
    (s.set f v n).get g n = s.get g n :=
  State.get_set_other h f g v n 0 n 0 hf (.inl (addr_ne_addr hus.2 hus.1 hne n))

/-! The index (R446). -/

/-- The index seen and POS latched. -/
def State.indexLatched (s : State) (n : Nat) : State :=
  (s.set ENC_STAT_IDX_SEEN 1 n).set ENC_IDXLAT_POS ((s.set ENC_STAT_IDX_SEEN 1 n).get ENC_POS_POS n) n

theorem State.indexLatched_shows (h : regsWf s) (n : Nat) :
    Confined (· ∈ atUnit [0x120014, 0x12001C] n) s (s.indexLatched n) ∧ (s.indexLatched n).flag ENC_STAT_IDX_SEEN n = true ∧
      (s.indexLatched n).get ENC_IDXLAT_POS n = s.get ENC_POS_POS n := by
  have h1 := regsWf_set h ENC_STAT_IDX_SEEN 1 n 0
  refine ⟨.set (.set (.refl h) (addr_mem_atUnit (by decide) rfl)) (addr_mem_atUnit (by decide) rfl), ?_, ?_⟩
  · rw [State.flag_eq, State.indexLatched, State.get_set_unit h1 _ _ _ _ (by decide) ⟨rfl, rfl⟩ (by decide), ← State.flag_eq]
    exact State.flag_set_one h _ _ _ (by decide) rfl
  · rw [State.indexLatched, State.get_set_same h1 _ _ _ _ (by decide), State.get_set_unit h _ _ _ _ (by decide) ⟨rfl, rfl⟩ (by decide)]
    exact Nat.mod_eq_of_lt (s.get_lt ENC_POS_POS n 0)

section
variable (hen : s.en .enc = true) (hch : s.flag ENC_CFG_EN_CH n = true) (hrev : s.drive.encRev.contains (6 * n + 2) = false)
include hen hch hrev

/-- With IDX_MODE 1 the index latches POS. -/
theorem opEncIndex_latches (hmode : s.get ENC_CFG_IDX_MODE n = 1) : opEncIndex n s = s.indexLatched n := by
  unfold opEncIndex
  rw [if_pos (by rw [hen, hch, hrev]; rfl)]
  simp [hmode, State.indexLatched]

/-- With IDX_MODE 3 it loads IDX_POS into POS as well. -/
theorem opEncIndex_loads (hmode : s.get ENC_CFG_IDX_MODE n = 3) :
    opEncIndex n s = (s.indexLatched n).set ENC_POS_POS ((s.indexLatched n).get ENC_IDX_IDX_POS n) n := by
  unfold opEncIndex
  rw [if_pos (by rw [hen, hch, hrev]; rfl)]
  simp [hmode, State.indexLatched]

end

/-! Standstill (R448). -/

/-- The speed taken back to 0, invalid, with STILL. -/
def State.stilled (s : State) (n : Nat) : State := ((s.set ENC_SPD_SPEED 0 n).set ENC_STAT_SPD_VALID 0 n).set ENC_STAT_STILL 1 n

theorem State.stilled_shows (h : regsWf s) (n : Nat) :
    Confined (· ∈ atUnit [0x120010, 0x120014] n) s (s.stilled n) ∧ (s.stilled n).get ENC_SPD_SPEED n = 0 ∧
      (s.stilled n).flag ENC_STAT_SPD_VALID n = false ∧ (s.stilled n).flag ENC_STAT_STILL n = true := by
  have h1 := regsWf_set h ENC_SPD_SPEED 0 n 0
  have h2 := regsWf_set h1 ENC_STAT_SPD_VALID 0 n 0
  refine ⟨.set (.set (.set (.refl h) (addr_mem_atUnit (by decide) rfl)) (addr_mem_atUnit (by decide) rfl)) (addr_mem_atUnit (by decide) rfl),
    ?_, ?_, State.flag_set_one h2 _ _ _ (by decide) rfl⟩
  · rw [State.stilled, State.get_set_unit h2 _ _ _ _ (by decide) ⟨rfl, rfl⟩ (by decide),
      State.get_set_unit h1 _ _ _ _ (by decide) ⟨rfl, rfl⟩ (by decide), State.get_set_same h _ _ _ _ (by decide)]
    rfl
  · rw [State.flag_eq, State.stilled, State.get_set_other h2 _ _ _ _ _ _ _ (by decide) (.inr (.inl (by decide))), ← State.flag_eq]
    exact State.flag_set_zero h1 _ _ _ (by decide)

theorem State.stilled_drive (s : State) (n : Nat) : (s.stilled n).drive = s.drive := by
  rw [State.stilled, State.set_drive, State.set_drive, State.set_drive]

theorem opEncStill_eq (hen : s.en .enc = true) (hch : s.flag ENC_CFG_EN_CH n = true) :
    opEncStill n s = (s.stilled n).setEncSt n { s.encSt n with edges := 0, ticks := 0 } := by
  unfold opEncStill
  rw [if_pos (by simp [hen, hch])]
  rfl

/-- Beside a change of an encoder's record. -/
theorem State.get_setEncSt (s : State) (n : Nat) (e : EncSt) (f : Fld) (u i : Nat) : (s.setEncSt n e).get f u i = s.get f u i := rfl
theorem State.flag_setEncSt (s : State) (n : Nat) (e : EncSt) (f : Fld) (u i : Nat) : (s.setEncSt n e).flag f u i = s.flag f u i := rfl
theorem Confined.setEncSt {e : EncSt} (h : Confined W s t) : Confined W s (t.setEncSt n e) := h.keep rfl rfl rfl

theorem regsOnly_setEncSt (h : RegsOnly s t) (n : Nat) (e : EncSt) :
    t.setEncSt n e = { s with regs := (t.setEncSt n e).regs, drive := (t.setEncSt n e).drive } :=
  congrArg (fun x : State => { x with drive := (t.setEncSt n e).drive }) h

/-! Hall lines (R55, R471). -/

/-- What a Hall line reads: its level, unless it is below −3 V. -/
def State.hallReads (s : State) (n k : Nat) (x : Bool) : Nat := b2n (x && !s.drive.encRev.contains (6 * n + k))

/-- The Hall lines as they read, taken with the edge. -/
def State.hallTaken (s : State) (n : Nat) (u v w : Bool) : State :=
  let s1 := s.set ENC_STAT_HALL (s.hallReads n 3 u + 2 * s.hallReads n 4 v + 4 * s.hallReads n 5 w) n
  let s2 := s1.setEncSt n { s1.encSt n with hallCounts := 0, hallSeen := true }
  { s2 with safe := { s2.safe with moved := setPresent s2.safe.moved n true } }

theorem b2n_le_one (b : Bool) : b2n b ≤ 1 := by cases b <;> decide

theorem contains_setPresent (l : List Nat) (k : Nat) : (setPresent l k true).contains k = true := by
  unfold setPresent
  rw [if_pos rfl]
  split
  · assumption
  · simp

theorem State.hallTaken_hall (h : regsWf s) (u v w : Bool) :
    (s.hallTaken n u v w).get ENC_STAT_HALL n = s.hallReads n 3 u + 2 * s.hallReads n 4 v + 4 * s.hallReads n 5 w := by
  refine (State.get_set_same h ENC_STAT_HALL _ n 0 (by decide)).trans (Nat.mod_eq_of_lt ?_)
  have hu : s.hallReads n 3 u ≤ 1 := b2n_le_one _
  have hv : s.hallReads n 4 v ≤ 1 := b2n_le_one _
  have hw : s.hallReads n 5 w ≤ 1 := b2n_le_one _
  show _ < 2 ^ 3
  omega

/-- Without the Hall check an edge is only taken. -/
theorem opHallLineChange_unchecked (h : regsWf s) (hen : s.en .enc = true) (hch : s.flag ENC_CFG_EN_CH n = true)
    (hhall : s.flag SAFE_AXCFG_HALL_EN n = false) (u v w : Bool) : opHallLineChange n u v w s = s.hallTaken n u v w := by
  have hstands : (s.hallTaken n u v w).flag SAFE_AXCFG_HALL_EN n = false := by
    rw [← hhall, State.flag_eq, State.flag_eq]
    exact congrArg (· != 0) (State.get_set_unit h ENC_STAT_HALL SAFE_AXCFG_HALL_EN _ n (by decide) ⟨rfl, rfl⟩ (by decide))
  unfold opHallLineChange
  rw [if_pos (by simp [hen, hch])]
  exact if_neg fun hc => Bool.false_ne_true (hstands.symm.trans (Bool.and_eq_true_iff.1 hc).1)

/-! Bits of a mask register (R450). -/

theorem bitOf_fieldOf (v : Word) (lo : Nat) {w k : Nat} (hk : k < w) : bitOf (fieldOf v lo w) k = v.toNat.testBit (lo + k) := by
  simp [bitOf, fieldOf, Nat.testBit_mod_two_pow, Nat.testBit_shiftRight, hk]

/-- One bit of a register. -/
abbrev bitFld (a k : Nat) : Fld := ⟨a, 0, 0, k, 1⟩

/-- A bit written: in a field of its register it reads as written, and the field's other bits stand. -/
theorem State.bitOf_get_set (h : regsWf s) (f : Fld) {j k : Nat} (hk : k < f.w) (hj : j < 32) (v : Nat) :
    bitOf ((s.set (bitFld f.base j) v).get f) k = if f.lo + k = j then v.testBit 0 else bitOf (s.get f) k := by
  have hword : (s.set (bitFld f.base j) v).word (f.addr 0 0) = withField (s.word (f.addr 0 0)) j 1 v := by
    simp [State.set, Fld.addr, State.word_putWord_same h]
  rw [State.get, State.get, hword, bitOf_fieldOf _ _ hk, bitOf_fieldOf _ _ hk, withField_testBit _ _ _ _ _ hj]
  by_cases hjk : f.lo + k = j
  · subst hjk
    simp
  · rw [if_neg (by omega), if_neg hjk]

/-! Sensor supplies (R54, R55, R450). -/

/-- A pass over a list that acts at one of its places alone is the act there. -/
theorem foldl_at {α β : Type} [DecidableEq α] {f : β → α → β} {l : List α} {x : α} (hnodup : l.Nodup) (hx : x ∈ l)
    (hid : ∀ r, ∀ y ∈ l, y ≠ x → f r y = r) (r : β) : l.foldl f r = f r x := by
  induction l generalizing r with
  | nil => exact absurd hx List.not_mem_nil
  | cons y t ih =>
    obtain ⟨hyt, ht⟩ := List.nodup_cons.1 hnodup
    rw [List.foldl_cons]
    rcases List.mem_cons.1 hx with rfl | hxt
    · exact List.foldlRecOn (motive := (· = f r x)) t f rfl fun u hu z hz =>
        (hid u z (List.mem_cons_of_mem _ hz) fun e => hyt (e ▸ hz)).trans hu
    · rw [hid r y List.mem_cons_self fun e => hyt (e ▸ hxt)]
      exact ih ht hxt (fun r z hz => hid r z (List.mem_cons_of_mem _ hz)) r

theorem bitOf_two_pow (n k : Fin 4) : bitOf (BitVec.ofNat 4 (2 ^ n.val)).toNat k.val = decide (k = n) := by
  decide +revert

/-- The latches of sensor supply `n` cleared. -/
def State.ssupCleared (s : State) (n : Nat) : State := (s.set (bitFld 0x121100 (4 + n)) 0).set (bitFld 0x121100 (8 + n)) 0

/-- A clear of one supply is judged for that supply alone. -/
theorem opSsupClear_one (n : Fin 4) :
    (opSsupClear (BitVec.ofNat 4 (2 ^ n.val)).toNat s).2 =
      if s.drive.ssupShort.contains n.val || s.drive.ssupBack.contains n.val then s.refuse .enc 0x1220 0x11 0x04 else s.ssupCleared n.val := by
  have hself : bitOf (BitVec.ofNat 4 (2 ^ n.val)).toNat n.val = true := (bitOf_two_pow n n).trans (decide_eq_true rfl)
  unfold opSsupClear
  rw [foldl_at (x := n.val) List.nodup_range (List.mem_range.2 n.isLt)]
  · rw [hself, if_neg (by decide)]
    split <;> rfl
  · intro r k hk hne
    have hoff : bitOf (BitVec.ofNat 4 (2 ^ n.val)).toNat k = false :=
      (bitOf_two_pow n ⟨k, List.mem_range.1 hk⟩).trans (decide_eq_false fun e => hne (congrArg Fin.val e))
    rw [hoff, if_pos (by decide)]

theorem State.ssupCleared_shows (h : regsWf s) (n : Fin 4) :
    Confined (· = 0x121100) s (s.ssupCleared n.val) ∧ bitOf ((s.ssupCleared n.val).get ENC_SSUP_SHORT) n.val = false ∧
      bitOf ((s.ssupCleared n.val).get ENC_SSUP_BACKFEED) n.val = false ∧ (s.ssupCleared n.val).get ENC_SSUP_SSUP_EN = s.get ENC_SSUP_SSUP_EN := by
  have h1 := regsWf_set h (bitFld 0x121100 (4 + n.val)) 0 0 0
  have hn := n.isLt
  refine ⟨.set (.set (.refl h) rfl) rfl, ?_, ?_, ?_⟩
  · refine (State.bitOf_get_set h1 ENC_SSUP_SHORT hn (by omega) 0).trans ?_
    rw [if_neg (by show 4 + _ ≠ 8 + _; omega)]
    exact (State.bitOf_get_set h ENC_SSUP_SHORT hn (by omega) 0).trans (if_pos rfl)
  · exact (State.bitOf_get_set h1 ENC_SSUP_BACKFEED hn (by omega) 0).trans (if_pos rfl)
  · refine (State.get_set_other h1 _ ENC_SSUP_SSUP_EN _ _ _ _ _ (by show 8 + _ + 1 ≤ 32; omega) (.inr (.inl (by show 0 + 4 ≤ 8 + _; omega)))).trans ?_
    exact State.get_set_other h _ ENC_SSUP_SSUP_EN _ _ _ _ _ (by show 4 + _ + 1 ≤ 32; omega) (.inr (.inl (by show 0 + 4 ≤ 4 + _; omega)))

/-- A sensor supply whose latch stands in the register delivers nothing. -/
theorem State.ssupOn_latched (h : bitOf (s.get ENC_SSUP_SHORT) n = true ∨ bitOf (s.get ENC_SSUP_BACKFEED) n = true) : s.ssupOn n = false := by
  unfold State.ssupOn
  rcases h with h | h <;> simp [h]

/-- A latch of a sensor supply set, with its event. -/
def State.ssupLatched (s : State) (k : Nat) (src : Source) : State := (s.set (bitFld 0x121100 k) 1).raise src 0x11

/-- What it shows. -/
theorem State.ssupLatched_shows (h : regsWf s) (f : Fld) (hf : f.base = 0x121100) (hfit : f.lo + f.w ≤ 32) (hn : n < f.w) (src : Source) (hs : src.s < 16)
    (hreg : 0x121100 ∉ evtRegs src.blk src.s) :
    bitOf ((s.ssupLatched (f.lo + n) src).get f) n = true ∧
      (s.ssupLatched (f.lo + n) src).flag ⟨ctrlAddr src.blk 0x04, 0, 0, src.s, 1⟩ = true ∧
      RegsHold s (s.ssupLatched (f.lo + n) src) ∧
      ∀ adr, adr ∉ 0x121100 :: evtRegs src.blk src.s → (s.ssupLatched (f.lo + n) src).word adr = s.word adr := by
  have h1 := regsWf_set h (bitFld 0x121100 (f.lo + n)) 1 0 0
  have hall : Confined (· ∈ 0x121100 :: evtRegs src.blk src.s) s (s.ssupLatched (f.lo + n) src) :=
    .raise (.set (.refl h) List.mem_cons_self) fun _ ha => List.mem_cons_of_mem _ ha
  have haddr : f.addr 0 0 = 0x121100 := by simp [Fld.addr, hf]
  refine ⟨?_, ?_, ?_, hall.word⟩
  · rw [State.ssupLatched, State.get_raise_other h1 _ _ _ _ _ (haddr ▸ hreg), ← hf, State.bitOf_get_set h f hn (by omega), if_pos rfl]
    rfl
  · rw [State.flag_eq, State.ssupLatched, State.raise_status h1 _ _ hs]
    rfl
  · exact ((s.set (bitFld 0x121100 (f.lo + n)) 1).raise_hold src 0x11).trans rfl

end Sys2Proof.Machine
end

section
/-! SUPPORT. STR of an axis (R469, R477) and a failed plausibility check (R471): what each shows. -/

namespace Sys2Proof.Machine

open Sys2Proof.Safety

variable {W : Nat → Prop} {s t u : State} {n : Nat}

/-! Gates. -/

/-- The read-back of one half-bridge's gates after they are driven. -/
theorem State.flag_gates (h : regsWf s) (j k : Nat) (gh gl : Bool) :
    (s.gates j gh gl).flag GDRV_HSTAT_GH k = (if k = j then gh else s.flag GDRV_HSTAT_GH k) ∧
      (s.gates j gh gl).flag GDRV_HSTAT_GL k = (if k = j then gl else s.flag GDRV_HSTAT_GL k) := by
  have h1 := regsWf_setb h GDRV_HSTAT_GH gh j 0
  by_cases hkj : k = j
  · subst hkj
    refine ⟨?_, ?_⟩
    · rw [if_pos rfl, State.flag_eq, State.gates, State.setb_eq _ GDRV_HSTAT_GL,
        State.get_set_other h1 _ _ _ _ _ _ _ (by decide) (.inr (.inl (by decide))), State.setb_eq, State.get_set_same h _ _ _ _ (by decide)]
      exact b2n_mod_two gh
    · rw [if_pos rfl, State.flag_eq, State.gates, State.setb_eq _ GDRV_HSTAT_GL, State.get_set_same h1 _ _ _ _ (by decide)]
      exact b2n_mod_two gl
  · have hne : ∀ f g : Fld, f.base = g.base → f.us = 0x100 → g.us = 0x100 → f.addr k 0 ≠ g.addr j 0 := fun f g hbase hf hg => by
      rw [Fld.addr, Fld.addr, hbase, hf, hg]
      omega
    have hstands : ∀ f : Fld, f.base = 0x110004 → f.us = 0x100 → (s.gates j gh gl).get f k = s.get f k := fun f hbase hus =>
      (State.get_set_other h1 GDRV_HSTAT_GL f _ _ _ _ _ (by decide) (.inl (hne f _ hbase hus rfl))).trans
        (State.get_set_other h GDRV_HSTAT_GH f _ _ _ _ _ (by decide) (.inl (hne f _ hbase hus rfl)))
    rw [if_neg hkj, if_neg hkj]
    exact ⟨congrArg (· != 0) (hstands GDRV_HSTAT_GH rfl rfl), congrArg (· != 0) (hstands GDRV_HSTAT_GL rfl rfl)⟩

/-- Every gate of an axis reads off once its phases are held off. -/
theorem State.phasesOff_gatesOff (h : regsWf s) (n : Nat) : gatesOff (s.phasesOff n) n = true := by
  have h0 : regsWf (s.gates (3 * n + 0) false false) := regsWf_setb (regsWf_setb h _ _ _ _) _ _ _ _
  have h1 : regsWf ((s.gates (3 * n + 0) false false).gates (3 * n + 1) false false) := regsWf_setb (regsWf_setb h0 _ _ _ _) _ _ _ _
  have heq : s.phasesOff n = ((s.gates (3 * n + 0) false false).gates (3 * n + 1) false false).gates (3 * n + 2) false false := rfl
  refine List.all_eq_true.2 fun p hp => ?_
  have hp : p < 3 := List.mem_range.1 hp
  rw [heq, (State.flag_gates h1 _ _ _ _).1, (State.flag_gates h1 _ _ _ _).2, (State.flag_gates h0 _ _ _ _).1, (State.flag_gates h0 _ _ _ _).2,
    (State.flag_gates h _ _ _ _).1, (State.flag_gates h _ _ _ _).2]
  interval_cases p <;> simp

theorem gatesOff_congr (h : ∀ p < 3, t.word (0x110004 + 0x100 * (3 * n + p)) = s.word (0x110004 + 0x100 * (3 * n + p))) :
    gatesOff t n = gatesOff s n := by
  unfold gatesOff
  rw [Bool.eq_iff_iff, List.all_eq_true, List.all_eq_true]
  refine forall₂_congr fun p hp => ?_
  have hflag : ∀ f : Fld, f.base = 0x110004 → f.us = 0x100 → t.flag f (3 * n + p) = s.flag f (3 * n + p) := fun f hbase hus => by
    have haddr : f.addr (3 * n + p) 0 = 0x110004 + 0x100 * (3 * n + p) := by rw [Fld.addr, hbase, hus]; rfl
    rw [State.flag_eq, State.flag_eq, State.get, State.get, haddr, h p (List.mem_range.1 hp)]
  rw [hflag GDRV_HSTAT_GH rfl rfl, hflag GDRV_HSTAT_GL rfl rfl]

/-! STR (R469). -/

/-- STR noted in SAFE's registers, an SDS of the axis ended. -/
def State.strNoted (s : State) (n : Nat) : State :=
  let s := s.set SAFE_FSTAT_STR (s.get SAFE_FSTAT_STR ||| 1 <<< n)
  (s.set SAFE_FSTAT_SDS (s.get SAFE_FSTAT_SDS &&& (15 - 1 <<< n))).set SAFE_AXSTAT_FUNC 2 n

theorem State.strStart_eq (h : s.strActive n = false) : s.strStart n = (s.strNoted n).inhibitAxis n := by
  unfold State.strStart
  rw [if_neg (by simp [h])]
  rfl

/-- The registers of `strNoted`. -/
theorem State.strNoted_confined (h : regsWf s) (n : Nat) : Confined (· ∈ [0x131110, 0x130414 + 0x100 * n]) s (s.strNoted n) :=
  .set (.set (.set (.refl h) List.mem_cons_self) List.mem_cons_self) (List.mem_cons_of_mem _ List.mem_cons_self)

theorem State.strNoted_shows (h : regsWf s) (hn : n < 4) :
    (s.strNoted n).strActive n = true ∧ (s.strNoted n).sdsActive n = false ∧ (s.strNoted n).get SAFE_AXSTAT_FUNC n = 2 ∧
      (s.strNoted n).get SAFE_AXSTAT_PLAUS_FAIL n = s.get SAFE_AXSTAT_PLAUS_FAIL n := by
  have h1 := regsWf_set h SAFE_FSTAT_STR (s.get SAFE_FSTAT_STR ||| 1 <<< n) 0 0
  have h2 := regsWf_set h1 SAFE_FSTAT_SDS ((s.set SAFE_FSTAT_STR (s.get SAFE_FSTAT_STR ||| 1 <<< n)).get SAFE_FSTAT_SDS &&& (15 - 1 <<< n)) 0 0
  have hax : ∀ f : Fld, f.base = 0x131110 → f.us = 0x100 → f.addr 0 0 ≠ SAFE_AXSTAT_FUNC.addr n 0 := fun f hbase hus => by
    rw [Fld.addr, hbase, hus, Fld.addr]
    show 0x131110 + 0x100 * 0 + _ * 0 ≠ 0x130414 + 0x100 * n + 0 * 0
    omega
  have hbit : ∀ m < 4, (15 - 1 <<< m).testBit m = false := by decide
  refine ⟨?_, ?_, State.get_set_same h2 SAFE_AXSTAT_FUNC 2 n 0 (by decide), ?_⟩
  · rw [State.strActive, State.strNoted, State.get_set_other h2 _ _ _ _ _ _ _ (by decide) (.inl (hax _ rfl rfl)),
      State.get_set_other h1 _ _ _ _ _ _ _ (by decide) (.inr (.inr (by decide))), State.get_set_same h _ _ _ _ (by decide), bitOf,
      Nat.testBit_mod_two_pow, Nat.testBit_or, Nat.testBit_shiftLeft]
    simp [show n < SAFE_FSTAT_STR.w from hn]
  · rw [State.sdsActive, State.strNoted, State.get_set_other h2 _ _ _ _ _ _ _ (by decide) (.inl (hax _ rfl rfl)),
      State.get_set_same h1 _ _ _ _ (by decide), bitOf, Nat.testBit_mod_two_pow, Nat.testBit_and, hbit n hn]
    simp
  · refine (State.get_set_other h2 SAFE_AXSTAT_FUNC SAFE_AXSTAT_PLAUS_FAIL 2 n 0 n 0 (by decide) (.inr (.inr (by decide)))).trans ?_
    have haddr : SAFE_AXSTAT_PLAUS_FAIL.addr n 0 ∉ [0x131110] := by
      show 0x130414 + 0x100 * n + 0 * 0 ∉ [0x131110]
      simp only [List.mem_singleton]
      omega
    exact Confined.get (W := (· ∈ [0x131110])) (.set (.set (.refl h) List.mem_cons_self) List.mem_cons_self) _ n 0 haddr

/-- Under STR the pulse-inhibit path acts at once: a driving axis goes to INHIBITED, any other has its phases held off. -/
theorem State.inhibitAxis_underStr (hstr : s.strActive n = true) (hsds : s.sdsActive n = false) :
    s.inhibitAxis n = if s.get AXIS_STAT_STATE n = AX_TEST ∨ s.get AXIS_STAT_STATE n = AX_CHARGE ∨ s.get AXIS_STAT_STATE n = AX_RUN
      then (s.axisTo n AX_INHIBITED).raise SRC_AXIS_INHIBITED n else s.phasesOff n := by
  unfold State.inhibitAxis
  rw [if_pos (by rw [State.inhibited, hstr, Bool.or_true]), hsds]
  rfl

/-- The gate drivers' registers are GDRV's. -/
theorem State.phasesOff_above (h : regsWf s) (n : Nat) : Confined (0x110000 ≤ ·) s (s.phasesOff n) :=
  have hgate : ∀ p, 0x110000 ≤ 0x110004 + 0x100 * (3 * n + p) + 0 := fun p => by omega
  Confined.foldl (.refl h) fun _ p _ hu => .setb (.setb hu (hgate p)) (hgate p)

theorem gate_not_mem_evtRegs_axis (hn : n < 4) {p : Nat} (hp : p < 3) :
    0x110004 + 0x100 * (3 * n + p) ∉ evtRegs SRC_AXIS_INHIBITED.blk SRC_AXIS_INHIBITED.s := by
  decide +revert

theorem axisStat_not_mem_evtRegs_axis (hn : n < 4) : AXIS_STAT_STATE.addr n 0 ∉ evtRegs SRC_AXIS_INHIBITED.blk SRC_AXIS_INHIBITED.s := by
  decide +revert

/-- The registers that the path writes then, and what they show. -/
theorem State.inhibitAxis_shows (h : regsWf s) (hn : n < 4) (hstr : s.strActive n = true) (hsds : s.sdsActive n = false) :
    Confined (· ∈ Safety.axisRegs n ++ evtRegs .axis SRC_AXIS_INHIBITED.s) s (s.inhibitAxis n) ∧ gatesOff (s.inhibitAxis n) n = true ∧
      (driving s n = true → (s.inhibitAxis n).get AXIS_STAT_STATE n = AX_INHIBITED) := by
  have hregs : ∀ a ∈ Safety.axisRegs n, a ∈ Safety.axisRegs n ++ evtRegs .axis SRC_AXIS_INHIBITED.s := fun _ ha => List.mem_append_left _ ha
  have h1 := regsWf_set h AXIS_STAT_STATE AX_INHIBITED n 0
  have hto : Confined (· ∈ Safety.axisRegs n ++ evtRegs .axis SRC_AXIS_INHIBITED.s) s (s.axisTo n AX_INHIBITED) := .axisTo (.refl h) hregs
  rw [State.inhibitAxis_underStr hstr hsds]
  split
  · refine ⟨hto.raise fun _ ha => List.mem_append_right _ ha, ?_, fun _ => ?_⟩
    · rw [gatesOff_congr fun p hp => State.word_raise_other hto.wf _ _ (gate_not_mem_evtRegs_axis hn hp)]
      exact State.phasesOff_gatesOff h1 n
    · rw [State.get_raise_other hto.wf _ _ _ _ _ (axisStat_not_mem_evtRegs_axis hn)]
      rw [State.axisTo, (State.phasesOff_above h1 n).get AXIS_STAT_STATE n 0 (by show ¬ 0x110000 ≤ 0x100024 + 0x100 * n + 0 * 0; omega),
        State.get_set_same h _ _ _ _ (by decide)]
      rfl
  · next hidle =>
    refine ⟨.phasesOff (.refl h) hregs, State.phasesOff_gatesOff h n, fun hdrv => absurd ?_ hidle⟩
    simpa [driving, or_assoc] using hdrv

end Sys2Proof.Machine
end

section
/-! SUPPORT. A failed plausibility check (R471): what it shows. -/

namespace Sys2Proof.Machine

open Sys2Proof.Safety

variable {W : Nat → Prop} {s t u : State} {n : Nat}

theorem regsHold_of_regsOnly (h : RegsOnly s t) (h' : RegsHold t u) : RegsHold s u :=
  Eq.trans h' (congrArg (fun x : State =>
    { x with regs := u.regs, pwr := { x.pwr with holdCopy := u.pwr.holdCopy }, cap := { x.cap with force := u.cap.force } }) h)

theorem regsHold_then_regsOnly (h : RegsHold s t) (h' : RegsOnly t u) : RegsHold s u := by
  have hpwr : u.pwr = t.pwr := by rw [h']
  have hcap : u.cap = t.cap := by rw [h']
  rw [RegsHold, hpwr, hcap]
  exact h'.trans (congrArg (fun x : State => { x with regs := u.regs }) h)

/-- Beside a change of SAFE's record. -/
theorem regsHold_safe {x : SafeState} (h : RegsHold { s with safe := x } t) :
    t = { s with regs := t.regs, safe := t.safe, pwr := { s.pwr with holdCopy := t.pwr.holdCopy }, cap := { s.cap with force := t.cap.force } } := by
  have hx : t.safe = x := by rw [h]
  rw [hx]
  exact h

/-- Beside a change of the drives' record. -/
theorem regsHold_drive {x : DriveState} (h : RegsHold { s with drive := x } t) : t.drive = x ∧
    t = { s with regs := t.regs, drive := t.drive, pwr := { s.pwr with holdCopy := t.pwr.holdCopy }, cap := { s.cap with force := t.cap.force } } := by
  have hx : t.drive = x := by rw [h]
  rw [hx]
  exact ⟨rfl, h⟩

/-- The axis has to move a Hall sector again before its checks pass. -/
def State.plausRestarts (s : State) (n : Nat) : State := { s with safe := { s.safe with moved := s.safe.moved.filter (· != n) } }

/-- A failed check as noted: PLAUS_FAIL, with its event at the first failure. -/
def State.plausNoted (s : State) (n : Nat) : State :=
  ((s.plausRestarts n).set SAFE_AXSTAT_PLAUS_FAIL 1 n).raiseIf (!s.flag SAFE_AXSTAT_PLAUS_FAIL n) SRC_SAFE_ENC_PLAUS (4 + n)

/-- The registers of the note. -/
abbrev plausRegs (n : Nat) : List Nat := (0x130414 + 0x100 * n) :: evtRegs .safe SRC_SAFE_ENC_PLAUS.s

theorem State.plausNoted_confined (h : regsWf s) (n : Nat) : Confined (· ∈ plausRegs n) s (s.plausNoted n) :=
  .raiseIf (.set (.keep (.refl h) rfl rfl rfl) List.mem_cons_self) fun _ ha => List.mem_cons_of_mem _ ha

theorem plausRegs_spares (hn : n < 4) : 0x131000 ∉ plausRegs n ∧ 0x131110 ∉ plausRegs n ∧ AXIS_STAT_STATE.addr n 0 ∉ plausRegs n ∧
    SAFE_AXSTAT_PLAUS_FAIL.addr n 0 ∉ evtRegs .safe SRC_SAFE_ENC_PLAUS.s := by decide +revert

theorem State.plausNoted_shows (h : regsWf s) (hn : n < 4) :
    (s.plausNoted n).flag SAFE_AXSTAT_PLAUS_FAIL n = true ∧
      (s.flag SAFE_AXSTAT_PLAUS_FAIL n = false → (s.plausNoted n).flag ⟨ctrlAddr .safe 0x04, 0, 0, SRC_SAFE_ENC_PLAUS.s, 1⟩ = true) ∧
      RegsHold (s.plausRestarts n) (s.plausNoted n) := by
  have h0 : regsWf (s.plausRestarts n) := h
  have h1 := regsWf_set h0 SAFE_AXSTAT_PLAUS_FAIL 1 n 0
  have hfail : ((s.plausRestarts n).set SAFE_AXSTAT_PLAUS_FAIL 1 n).flag SAFE_AXSTAT_PLAUS_FAIL n = true :=
    State.flag_set_one h0 _ _ _ (by decide) rfl
  obtain ⟨-, -, -, hkeeps⟩ := plausRegs_spares hn
  unfold State.plausNoted State.raiseIf
  split
  · refine ⟨?_, fun _ => ?_, regsHold_of_regsOnly rfl (State.raise_hold _ _ _)⟩
    · rw [State.flag_eq, State.get_raise_other h1 SRC_SAFE_ENC_PLAUS (4 + n) SAFE_AXSTAT_PLAUS_FAIL n 0 hkeeps]
      exact hfail
    · exact congrArg (· != 0) (State.raise_status h1 SRC_SAFE_ENC_PLAUS (4 + n) (by decide))
  · next hlatched => exact ⟨hfail, fun hclear => absurd (congrArg not hclear) hlatched,
      regsHold_then_regsOnly (t := s.plausRestarts n) rfl rfl⟩

/-- A failed check under no STR is noted and starts STR (R559). -/
theorem opEncPlausFail_eq (h : regsWf s) (hn : n < 4) (hon : s.plausOn n = true) (hstr : s.strActive n = false) :
    opEncPlausFail n s = ((s.plausNoted n).strNoted n).inhibitAxis n := by
  obtain ⟨hctrl, hfstat, -, -⟩ := plausRegs_spares hn
  have hnoted := State.plausNoted_confined h n
  have hen : (s.plausNoted n).en .safe = true := (State.en_safe_congr (hnoted.word _ hctrl)).trans (Bool.and_eq_true_iff.1 hon).1
  have hidle : (s.plausNoted n).strActive n = false :=
    (congrArg (bitOf · n) (hnoted.get SAFE_FSTAT_STR 0 0 hfstat)).trans hstr
  unfold opEncPlausFail
  rw [if_pos hon]
  refine (if_pos hen).trans (State.strStart_eq hidle)

theorem plausRegs_subset (hn : n < 4) : ∀ a ∈ plausRegs n, a ∈ evtRegs .safe SRC_SAFE_ENC_PLAUS.s ++ inhibitRegs := fun a ha => by
  rcases List.mem_cons.1 ha with rfl | ha
  · exact List.mem_append_right _ (axisFunc_mem_inhibitRegs hn)
  · exact List.mem_append_left _ ha

theorem strNotedRegs_subset (hn : n < 4) : ∀ a ∈ [0x131110, 0x130414 + 0x100 * n], a ∈ inhibitRegs := by
  decide +revert

/-- The registers of a failed check under no STR. -/
theorem Confined.plausFailed (h : regsWf s) (hn : n < 4) :
    Confined (· ∈ evtRegs .safe SRC_SAFE_ENC_PLAUS.s ++ inhibitRegs) s (((s.plausNoted n).strNoted n).inhibitAxis n) :=
  have hnoted := State.plausNoted_confined h n
  .inhibitAxis ((hnoted.mono (plausRegs_subset hn)).trans
    ((State.strNoted_confined hnoted.wf n).mono fun a ha => List.mem_append_right _ (strNotedRegs_subset hn a ha)))
    (fun _ ha => List.mem_append_right _ ha) hn

theorem strRegs_spare (hn : n < 4) :
    0x131110 ∉ Safety.axisRegs n ++ evtRegs .axis SRC_AXIS_INHIBITED.s ∧ 0x130414 + 0x100 * n ∉ Safety.axisRegs n ++ evtRegs .axis SRC_AXIS_INHIBITED.s ∧
      ctrlAddr .safe 0x04 ∉ Safety.axisRegs n ++ evtRegs .axis SRC_AXIS_INHIBITED.s ∧ ctrlAddr .safe 0x04 ∉ [0x131110, 0x130414 + 0x100 * n] ∧
      0x100024 + 0x100 * n ∉ [0x131110, 0x130414 + 0x100 * n] := by decide +revert

/-- STR as it stands after the pulse-inhibit path has acted. -/
theorem State.strNoted_inhibitAxis_shows (h : regsWf s) (hn : n < 4) :
    ((s.strNoted n).inhibitAxis n).strActive n = true ∧ ((s.strNoted n).inhibitAxis n).sdsActive n = false ∧
      ((s.strNoted n).inhibitAxis n).get SAFE_AXSTAT_FUNC n = 2 ∧
      ((s.strNoted n).inhibitAxis n).flag SAFE_AXSTAT_PLAUS_FAIL n = s.flag SAFE_AXSTAT_PLAUS_FAIL n ∧
      (driving s n = true → ((s.strNoted n).inhibitAxis n).get AXIS_STAT_STATE n = AX_INHIBITED) ∧
      gatesOff ((s.strNoted n).inhibitAxis n) n = true ∧
      (∀ k, ((s.strNoted n).inhibitAxis n).get ⟨ctrlAddr .safe 0x04, 0, 0, k, 1⟩ = s.get ⟨ctrlAddr .safe 0x04, 0, 0, k, 1⟩) ∧
      RegsOnly s ((s.strNoted n).inhibitAxis n) := by
  obtain ⟨hfstat, hax, hctrl, hctrl', hstate⟩ := strRegs_spare hn
  have hnoted := State.strNoted_confined h n
  obtain ⟨hstr, hsds, hfunc, hfail⟩ := State.strNoted_shows h hn
  obtain ⟨hconf, hgates, hdrives⟩ := State.inhibitAxis_shows hnoted.wf hn hstr hsds
  have hdrive : driving (s.strNoted n) n = driving s n := by rw [driving, hnoted.get AXIS_STAT_STATE n 0 hstate, driving]
  refine ⟨?_, ?_, (hconf.get SAFE_AXSTAT_FUNC n 0 hax).trans hfunc, ?_, fun hd => hdrives (hdrive.trans hd), hgates, fun k => ?_, ?_⟩
  · exact (congrArg (bitOf · n) (hconf.get SAFE_FSTAT_STR 0 0 hfstat)).trans hstr
  · exact (congrArg (bitOf · n) (hconf.get SAFE_FSTAT_SDS 0 0 hfstat)).trans hsds
  · exact congrArg (· != 0) ((hconf.get SAFE_AXSTAT_PLAUS_FAIL n 0 hax).trans hfail)
  · have haddr : (⟨ctrlAddr .safe 0x04, 0, 0, k, 1⟩ : Fld).addr 0 0 = ctrlAddr .safe 0x04 := by simp [Fld.addr]
    exact (hconf.get _ 0 0 (haddr ▸ hctrl)).trans (hnoted.get _ 0 0 (haddr ▸ hctrl'))
  · exact regsOnly_trans rfl (State.inhibitAxis_regsOnly _ n)

/-! Conditions of sensor supplies and reversed lines, as noted by the drives (R55). -/

def State.shortNoted (s : State) (n : Nat) : State := { s with drive := { s.drive with ssupShort := setPresent s.drive.ssupShort n true } }
def State.backfeedNoted (s : State) (n : Nat) : State := { s with drive := { s.drive with ssupBack := setPresent s.drive.ssupBack n true } }
def State.encReversed (s : State) (n line : Nat) : State :=
  { s with drive := { s.drive with encRev := setPresent s.drive.encRev (6 * n + line) true } }
def State.siReversed (s : State) (k : Nat) : State := { s with drive := { s.drive with siRev := setPresent s.drive.siRev k true } }
def State.fbReversed (s : State) (k : Nat) : State := { s with ctc := { s.ctc with fbRev := setPresent s.ctc.fbRev k true } }

/-- A present condition latches its supply. -/
theorem opSupplyShort_present (hfield : s.fieldUp = true) (hup : s.pwr.coreUp = true) (n : Nat) :
    opSupplyShort n true s = (s.shortNoted n).ssupLatched (4 + n) SRC_ENC_SUPPLY_SHORT :=
  State.fieldLive_up (s := s.shortNoted n) hfield hup _
theorem opBackfeed_present (hfield : s.fieldUp = true) (hup : s.pwr.coreUp = true) (n : Nat) :
    opBackfeed n true s = (s.backfeedNoted n).ssupLatched (8 + n) SRC_ENC_BACKFEED :=
  State.fieldLive_up (s := s.backfeedNoted n) hfield hup _

end Sys2Proof.Machine
end

section
/-! SUPPORT. What the consequences of an input's level leave as it is (R54, R55, R474): the dies' state, the noted reversals and the feedback register. One rule for each operation; this part holds the plain updates, the coils, the axes and SGR (R464, R468, R469, R473). -/

namespace Sys2Proof.Machine

open Sys2Proof.Safety

/-- Whether the control die runs, and the inputs noted as reversed. -/
def State.lines (s : State) : Bool × List Nat × List Nat × List Nat := (s.pwr.coreUp, s.drive.encRev, s.drive.siRev, s.ctc.fbRev)

/-- Outside the register of the feedback inputs. -/
abbrev OutsideFbin (a : Nat) : Prop := a ≠ 0x143100 ∧ a ≠ 0x143104

/-- The dies' state, the noted reversals and the feedback register are in `t` as in `s`. -/
structure LinesStand (s t : State) : Prop extends Confined OutsideFbin s t where
  lines : t.lines = s.lines

variable {s t u : State}

/-- A register that stands in each unit of 256 bytes is not the feedback register unless its place in the unit is. -/
theorem outsideFbin_unit {f : Fld} {n : Nat} (hus : f.us = 0x100) (hbase : f.base % 0x100 ≠ 0 ∧ f.base % 0x100 ≠ 4) : OutsideFbin (f.addr n 0) := by
  obtain ⟨h0, h4⟩ := hbase
  rw [OutsideFbin, Fld.addr, hus]
  omega

namespace LinesStand

/-! Plain updates. -/

theorem refl (h : regsWf s) : LinesStand s s := ⟨.refl h, rfl⟩

theorem keep (h : LinesStand s t) (hr : u.regs = t.regs) (hc : u.cyc = t.cyc) (hp : u.part = t.part) (hl : u.lines = t.lines) : LinesStand s u :=
  ⟨h.toConfined.keep hr hc hp, hl.trans h.lines⟩

section
variable (h : LinesStand s t)
include h

theorem safe {x : SafeState} : LinesStand s { t with safe := x } := h.keep rfl rfl rfl rfl
theorem hive {x : HiveState} : LinesStand s { t with hive := x } := h.keep rfl rfl rfl rfl
theorem out {x : OutState} : LinesStand s { t with out := x } := h.keep rfl rfl rfl rfl
theorem law {x : LawState} : LinesStand s { t with law := x } := h.keep rfl rfl rfl rfl
theorem form {x : FormState} : LinesStand s { t with form := x } := h.keep rfl rfl rfl rfl
theorem setRingSt {r : Nat} {x : RingSt} : LinesStand s (t.setRingSt r x) := h.keep rfl rfl rfl rfl
theorem setFe {i : Nat} {e : FeSt} : LinesStand s (t.setFe i e) := h.keep rfl rfl rfl rfl
theorem setAxisSt {n : Nat} {x : AxisSt} : LinesStand s (t.setAxisSt n x) := h.keep rfl rfl rfl rfl
theorem setEncSt {n : Nat} {x : EncSt} : LinesStand s (t.setEncSt n x) := h.keep rfl rfl rfl rfl
theorem setBusSt {b : Nat} {x : BusSt} : LinesStand s (t.setBusSt b x) := h.keep rfl rfl rfl rfl

theorem ctc {x : CtcState} (hx : x.fbRev = t.ctc.fbRev) : LinesStand s { t with ctc := x } :=
  h.keep rfl rfl rfl (by rw [State.lines, hx, State.lines])

theorem drive {x : DriveState} (hx : x.encRev = t.drive.encRev ∧ x.siRev = t.drive.siRev) : LinesStand s { t with drive := x } :=
  h.keep rfl rfl rfl (by rw [State.lines, hx.1, hx.2, State.lines])

end

section
variable {f : Fld} {k i : Nat} (h : LinesStand s t) (ha : OutsideFbin (f.addr k i))
include h ha

theorem set {v : Nat} : LinesStand s (t.set f v k i) := ⟨h.toConfined.set ha, h.lines⟩
theorem setb {v : Bool} : LinesStand s (t.setb f v k i) := ⟨h.toConfined.setb ha, h.lines⟩
theorem seti {v : Int} : LinesStand s (t.seti f v k i) := ⟨h.toConfined.seti ha, h.lines⟩
theorem inc : LinesStand s (t.inc f k i) := ⟨h.toConfined.inc ha, h.lines⟩
theorem addSat {v : Nat} : LinesStand s (t.addSat f v k i) := ⟨h.toConfined.addSat ha, h.lines⟩

end

theorem ite {c : Prop} [Decidable c] {a b : State} (ha : LinesStand s a) (hb : LinesStand s b) : LinesStand s (if c then a else b) := by
  split
  · exact ha
  · exact hb

theorem live (ht : LinesStand s t) (hu : LinesStand s u) : LinesStand s (t.live u) := .ite hu ht

theorem foldl {α : Type} {l : List α} {f : State → α → State} (h : LinesStand s t)
    (hf : ∀ u, ∀ x ∈ l, LinesStand s u → LinesStand s (f u x)) : LinesStand s (l.foldl f t) :=
  List.foldlRecOn (motive := LinesStand s) l f h fun u hu x hx => hf u x hx hu

section
variable {src : Source} (h : LinesStand s t) (hW : ∀ a ∈ evtRegs src.blk src.s, OutsideFbin a)
include h hW

theorem raise {unit : Nat} : LinesStand s (t.raise src unit) :=
  ⟨h.toConfined.raise hW, (congrArg State.lines (t.raise_hold src unit)).trans h.lines⟩
theorem raiseC : LinesStand s (t.raiseC src) := h.raise hW
theorem raiseIf {c : Bool} {unit : Nat} : LinesStand s (t.raiseIf c src unit) := .ite (h.raise hW) h

end

theorem refuse {b : Block} {r n o : Nat} (h : LinesStand s t) (hW : ∀ a ∈ refuseRegs b, OutsideFbin a) : LinesStand s (t.refuse b r n o) :=
  ⟨h.toConfined.refuse hW, h.lines⟩

/-! Coils (R473, R474, R480). -/

theorem ostat {f : Fld} {o : Nat} (hf : f.us = 0x100 ∧ f.base = 0x14000C) : OutsideFbin (f.addr o 0) :=
  outsideFbin_unit hf.1 (by rw [hf.2]; decide)

theorem settleFb {o : Nat} (h : LinesStand s t) : LinesStand s (t.settleFb o) := by
  have h1 : LinesStand s ((t.set CTC_OSTAT_STUCK 0 o).set CTC_OSTAT_WELDED 0 o) := .set (.set h (ostat ⟨rfl, rfl⟩)) (ostat ⟨rfl, rfl⟩)
  exact .ite (h1.ctc rfl) h

theorem applyCoil1 (h : LinesStand s t) (o : Nat) : LinesStand s (t.applyCoil1 o) := by
  unfold State.applyCoil1
  extract_lets s1 on s2 s3
  have h1 : LinesStand s s1 := h.setb (ostat ⟨rfl, rfl⟩)
  have h2 : LinesStand s s2 := h1.setb (ostat ⟨rfl, rfl⟩)
  have h3 : LinesStand s s3 := .ite (h2.inc (ostat ⟨rfl, rfl⟩)) h2
  exact .ite (.ite h1 (h1.set (ostat ⟨rfl, rfl⟩))) (.ite h1 (.ite (.settleFb (h3.ctc rfl)) h3))

theorem applyCoil (h : LinesStand s t) (o : Nat) : LinesStand s (t.applyCoil o) := (h.applyCoil1 o).foldl fun _ f _ hu => hu.applyCoil1 f
theorem applyCoils (h : LinesStand s t) : LinesStand s t.applyCoils := h.foldl fun _ o _ hu => hu.applyCoil1 o
theorem coilCmd (h : LinesStand s t) (o : Nat) (on : Bool) : LinesStand s (t.coilCmd o on) := .applyCoil (.setb h (ostat ⟨rfl, rfl⟩)) o
theorem forceSgr (h : LinesStand s t) : LinesStand s t.forceSgr := .applyCoils (h.ctc rfl)

theorem withdrawClose (h : LinesStand s t) : LinesStand s t.withdrawClose := .ite (.set (h.coilCmd _ _) (by decide)) h

theorem bkrTrip (h : LinesStand s t) : LinesStand s t.bkrTrip := .ite (.coilCmd (.coilCmd (.set h (by decide)) _ _) _ _) h

theorem preCoilsOff (h : LinesStand s t) : LinesStand s t.preCoilsOff := by
  unfold State.preCoilsOff
  extract_lets s1
  have h1 : LinesStand s s1 := .ite (h.coilCmd _ _) h
  exact .ite (h1.coilCmd _ _) h1

/-! The BLOCK (R161). -/

theorem sends {fs : List (Nat × Bool × List Byte)} (h : LinesStand s t) : LinesStand s (t.sends fs) := .ite h.hive h

theorem blockOut (h : LinesStand s t) : LinesStand s t.blockOut :=
  .ite (.foldl (.foldl h.sends fun _ _ _ hu => hu.setRingSt) fun _ _ _ hu => .ite hu.setFe hu) h

theorem block (h : LinesStand s t) (cause : Nat) : LinesStand s (t.block cause) :=
  .blockOut (.set (.set (.set h (by decide)) (by decide)) (by decide))

/-! The axes (R441, R468, R469). -/

theorem inhibitRegs_outsideFbin : ∀ a ∈ inhibitRegs, OutsideFbin a := by decide

section
variable {n : Nat} (h : LinesStand s t) (hn : n < 4)
include h hn

theorem inhibitAxis : LinesStand s (t.inhibitAxis n) :=
  ⟨h.toConfined.inhibitAxis inhibitRegs_outsideFbin hn, (congrArg State.lines (t.inhibitAxis_regsOnly n)).trans h.lines⟩

theorem strStart : LinesStand s (t.strStart n) :=
  .ite h (.inhibitAxis (.set (.set (.set h (by decide)) (by decide)) (outsideFbin_unit rfl (by decide))) hn)

theorem sdsStart : LinesStand s (t.sdsStart n) := by
  have hax : ∀ f : Fld, f.us = 0x100 → f.base = 0x130414 → OutsideFbin (f.addr n 0) := fun f hus hbase => outsideFbin_unit hus (by rw [hbase]; decide)
  refine .ite h (.ite (h.strStart hn) (.setAxisSt (.set (.set (.set (.set (.set h (by decide)) ?_) ?_) ?_) ?_)))
  · exact hax _ rfl rfl
  · exact hax _ rfl rfl
  · exact hax _ rfl rfl
  · exact outsideFbin_unit rfl (by decide)

theorem strReq : LinesStand s (t.strReq n) := .ite (h.strStart hn) h
theorem sdsReq : LinesStand s (t.sdsReq n) := .ite (h.sdsStart hn) h

end

theorem applyInhibit (h : LinesStand s t) : LinesStand s t.applyInhibit :=
  h.foldl fun _ _ hn hu => hu.inhibitAxis (List.mem_range.1 (List.mem_reverse.1 hn))

/-! SGR (R464). -/

theorem sgrNoted (h : LinesStand s t) : LinesStand s t.sgrNoted := by
  unfold State.sgrNoted
  extract_lets s1
  have h1 : LinesStand s s1 := .raiseC (.set (.set h.withdrawClose (by decide)) (by decide)) (by decide)
  exact h1.safe

theorem sgrCoils (h : LinesStand s t) : LinesStand s t.sgrCoils := .ite h.forceSgr.bkrTrip.safe h.forceSgr

theorem sgrAxes (h : LinesStand s t) : LinesStand s t.sgrAxes := h.foldl fun _ n hn hu =>
  have hn : n < 4 := List.mem_range.1 (List.mem_reverse.1 hn)
  .ite hu (.ite (hu.sdsStart hn) (.ite (hu.strStart hn) hu))

theorem sgr (h : LinesStand s t) (cause : Nat) : LinesStand s (t.sgr cause) := by
  rw [State.sgr_eq]
  exact .ite h (.sgrAxes (.sgrCoils (.block h.sgrNoted cause)))

end LinesStand

end Sys2Proof.Machine
end

section
/-! SUPPORT. What an encoder's sample, a Hall edge, a trip input and a safety input leave as it is, with the SOD that they may request (R446, R459, R461, R466, R471, R472). -/

namespace Sys2Proof.Machine

open Sys2Proof.Safety

namespace LinesStand

variable {s t u : State} {b n : Nat}

theorem unit {f : Fld} (hf : f.us = 0x100 ∧ f.base % 0x100 ≠ 0 ∧ f.base % 0x100 ≠ 4) (n : Nat) : OutsideFbin (f.addr n 0) := outsideFbin_unit hf.1 hf.2

/-! SOD of a bus (R466). -/

theorem sodstat {f : Fld} (hf : f.base = 0x130810 ∧ f.st = 4) (hb : b < 12) : OutsideFbin (f.addr 0 b) := by
  obtain ⟨hbase, hst⟩ := hf
  rw [OutsideFbin, Fld.addr, hbase, hst]
  omega

theorem busTo (h : LinesStand s t) (b st : Nat) : LinesStand s (t.busTo b st) := by
  unfold State.busTo
  extract_lets was bus s1 keep
  have h1 : LinesStand s s1 := .setBusSt (.set h (unit (by decide) b))
  exact .ite h1.safe (.ite h1.safe h1)

theorem busOpen (h : LinesStand s t) (b : Nat) : LinesStand s (t.busOpen b) :=
  have h1 : LinesStand s ((t.busCoil b false).busTo b B_OPENING) := .busTo (.coilCmd h _ _) _ _
  .ite h1 (h1.busTo b B_OFF)

theorem busRampDown (h : LinesStand s t) (b : Nat) : LinesStand s (t.busRampDown b) := by
  unfold State.busRampDown
  extract_lets law s1 s2 bus
  have h1 : LinesStand s s1 := .ite h h.law
  have h2 : LinesStand s s2 := .set (h1.busTo b B_RAMPDOWN) (unit (by decide) b)
  exact h2.setBusSt

theorem forceSod (h : LinesStand s t) (b : Nat) : LinesStand s (t.forceSod b) := .applyCoils (h.ctc rfl)

section
variable (hb : b < 12)
include hb

theorem sodStep (h : LinesStand s t) (st : Nat) : LinesStand s (t.sodStep b st) := .set h (sodstat ⟨rfl, rfl⟩ hb)

theorem sodOpen (h : LinesStand s t) : LinesStand s (t.sodOpen b) := by
  unfold State.sodOpen
  extract_lets s1 s2
  have h1 : LinesStand s s1 := .forceSod (h.sodStep hb 3) b
  have h2 : LinesStand s s2 := h1.busOpen b
  exact .ite (h1.sodStep hb 4) (.ite (.ite h1 (h1.sodStep hb 4)) (.ite (h2.sodStep hb 4) h2))

theorem sodGate (h : LinesStand s t) : LinesStand s (t.sodGate b) := by
  unfold State.sodGate
  extract_lets held bus s1 safe s2
  have h2 : LinesStand s s2 := .safe h.setBusSt
  exact .ite (h2.sodOpen hb) (h2.sodStep hb 2)

theorem sod (h : LinesStand s t) (cause : Nat) : LinesStand s (t.sod b cause) := by
  unfold State.sod
  extract_lets s1 st bus
  have h1 : LinesStand s s1 := .set (.set h (by decide)) (sodstat ⟨rfl, rfl⟩ hb)
  exact .ite h (.ite (.sodOpen hb h1.setBusSt) (.ite (.sodGate hb h1) (.sodStep hb (.ite h1 (h1.busRampDown b)) 1)))

end

/-! Safety and trip inputs (R439, R459, R461). -/

theorem siRequests (h : LinesStand s t) (i : Nat) : LinesStand s (t.siRequests i) := by
  unfold State.siRequests
  extract_lets s1 s2 s3
  have h1 : LinesStand s s1 := .ite (h.sgr _) h
  have h2 : LinesStand s s2 := .ite (h1.foldl fun _ a ha hu => .ite (hu.strReq (List.mem_range.1 (List.mem_reverse.1 ha))) hu) h1
  have h3 : LinesStand s s3 := .ite (h2.foldl fun _ a ha hu => .ite (hu.sdsReq (List.mem_range.1 (List.mem_reverse.1 ha))) hu) h2
  exact .ite (h3.foldl fun _ b hb hu => .ite (.sod (List.mem_range.1 (List.mem_reverse.1 hb)) hu _) hu) h3

theorem siEval (h : LinesStand s t) (i : Nat) : LinesStand s (t.siEval i) := by
  unfold State.siEval
  extract_lets a b safe s1 safe' s2 s3
  have h1 : LinesStand s s1 := .ite h.safe h
  have h2 : LinesStand s s2 := .ite (.set h1.safe (unit (by decide) i)) h1
  have h3 : LinesStand s s3 := .raise (.inc (.set h2 (unit (by decide) i)) (unit (by decide) i)) (by decide)
  exact .ite (.ite (.set h2 (unit (by decide) i)) (.ite h2 (.ite (h3.siRequests i) h3))) h

theorem opSiChange (h : LinesStand s t) (i : Nat) (chB high : Bool) : LinesStand s (Machine.opSiChange i chB high t) := by
  unfold Machine.opSiChange
  extract_lets level s1
  have h1 : LinesStand s s1 := .ite (.setb h (unit (by decide) i)) (.setb h (unit (by decide) i))
  exact .live h1 (h1.applyInhibit.siEval i)

theorem setBit {f : Fld} {i : Nat} {v : Bool} (h : LinesStand s t) (hf : OutsideFbin (f.addr 0 0)) : LinesStand s (t.setBit f i v) :=
  LinesStand.set (f := ⟨f.base, f.us, 0, f.lo + i, 1⟩) (k := 0) (i := 0) h hf

theorem opTripInput (h : LinesStand s t) (i : Nat) : LinesStand s (Machine.opTripInput i t) := by
  unfold Machine.opTripInput
  extract_lets s1 drive s2 s3
  have h1 : LinesStand s s1 := .setBit (.setBit h (by decide)) (by decide)
  have h2 : LinesStand s s2 := h1.drive ⟨rfl, rfl⟩
  have h3 : LinesStand s s3 := .setBit h2 (by decide)
  exact .ite (.ite h2 (.live h3 (.sgr (.raiseC h3.applyInhibit (by decide)) _))) h2

/-! Encoders (R445 to R448, R471, R472). -/

theorem capSpeed (h : LinesStand s t) (n k : Nat) : LinesStand s (t.capSpeed n k) := .ite (.seti h (unit (by decide) n)) h

theorem countPos (h : LinesStand s t) (n : Nat) (down : Bool) : LinesStand s (t.countPos n down) := by
  unfold State.countPos
  extract_lets cpr pos s1
  have h1 : LinesStand s s1 := .ite
    (.ite (.seti (.set h (unit (by decide) n)) (unit (by decide) n)) (.set h (unit (by decide) n)))
    (.ite (.seti (.set h (unit (by decide) n)) (unit (by decide) n)) (.set h (unit (by decide) n)))
  exact h1.drive ⟨rfl, rfl⟩

theorem measureEdge (h : LinesStand s t) (n : Nat) (down : Bool) (k : Nat) : LinesStand s (t.measureEdge n down k) := by
  unfold State.measureEdge
  extract_lets e c s1 s2 s3 v s4
  have h1 : LinesStand s s1 := h.set (unit (by decide) n)
  have h2 : LinesStand s s2 := .set (.setb (.seti h1 (unit (by decide) n)) (unit (by decide) n)) (unit (by decide) n)
  have h3 : LinesStand s s3 := h1.setb (unit (by decide) n)
  have h4 : LinesStand s s4 := .seti (.set h3 (unit (by decide) n)) (unit (by decide) n)
  exact .ite h2.setEncSt (.ite h3.setEncSt (.setEncSt (.set h4 (unit (by decide) n))))

theorem opEncCount (h : LinesStand s t) (n : Nat) (a b : Bool) (dt : Nat) : LinesStand s (Machine.opEncCount n a b dt t) := by
  unfold Machine.opEncCount
  extract_lets e k i j s1 down s2 e' s3
  have h1 : LinesStand s s1 := h.setEncSt
  have h3 : LinesStand s s3 := .setEncSt (h1.countPos n down)
  exact .ite (.ite (h1.capSpeed n k) (.ite (.capSpeed (.inc h1 (unit (by decide) n)) n k) (.ite (h3.capSpeed n k) (h3.measureEdge n down k)))) h

theorem opEncPlausFail (h : LinesStand s t) (hn : n < 4) : LinesStand s (Machine.opEncPlausFail n t) :=
  .ite (.strReq (.raiseIf (.set h.safe (outsideFbin_unit rfl (by decide))) (by decide)) hn) h

theorem ilkSod (h : LinesStand s t) (a : Nat) : LinesStand s (t.ilkSod a) :=
  .ite h (.foldl (.raiseC h (by decide)) fun _ _ hb hu => .sod (List.mem_range.1 (List.mem_filter.1 (List.mem_reverse.1 hb)).1) hu _)

theorem ilkMotion (h : LinesStand s t) (a : Nat) : LinesStand s (t.ilkMotion a) := .ite (h.ilkSod a) h

theorem opEncSample (h : LinesStand s t) (hn : n < 4) (a b : Bool) (dt : Nat) : LinesStand s (Machine.opEncSample n a b dt t) := by
  unfold Machine.opEncSample
  extract_lets skip0 s1 k old skips safe s2 s3
  have h2 : LinesStand s s2 := .safe (h.opEncCount n _ _ dt)
  have h3 : LinesStand s s3 := .ite (h2.opEncPlausFail hn) h2
  exact h3.ilkMotion n

theorem opHallLineChange (h : LinesStand s t) (hn : n < 4) (x y z : Bool) : LinesStand s (Machine.opHallLineChange n x y z t) := by
  unfold Machine.opHallLineChange
  extract_lets reads s1 e cps wrong s2 safe s3
  have h3 : LinesStand s s3 := .safe (.setEncSt (.set h (unit (by decide) n)))
  exact .ite (.ite (h3.opEncPlausFail hn) h3) h

theorem encLineLow (h : LinesStand s t) (hn : n < 4) (line : Nat) : LinesStand s (t.encLineLow n line) :=
  .ite (h.opEncSample hn _ _ _) (.ite (h.opEncSample hn _ _ _) (.ite (h.opHallLineChange hn _ _ _) h))

end LinesStand

end Sys2Proof.Machine
end

section
/-! SUPPORT. What a feedback input's level leaves as it is (R287, R338, R368, R474, R475), and the feedback input itself (R55). -/

namespace Sys2Proof.Machine

open Sys2Proof.Safety

variable {s t u : State} {b k : Nat}

namespace LinesStand

/-! Commands to front ends (R154, R163). -/

theorem issue (h : LinesStand s t) (tag : Nat) (x : MbxTx) : LinesStand s (t.issue tag x) := by
  unfold State.issue
  extract_lets g g' hive
  exact .set h.hive (by decide)

theorem pumpGo (n : Nat) (h : LinesStand s t) : LinesStand s (t.pumpGo n) := by
  induction n generalizing t with
  | zero => exact h
  | succ n ih =>
    unfold State.pumpGo
    split
    · exact ih (.issue h.hive _ _)
    · exact h

theorem feCommand (h : LinesStand s t) (i code notBefore : Nat) : LinesStand s (t.feCommand i code notBefore) :=
  .pumpGo 8 (.addSat (.hive h.hive) (by decide))

/-! The breaker (R338, R354, R368). -/

theorem modeTo (h : LinesStand s t) (st ph : Nat) : LinesStand s (t.modeTo st ph) := .set (.set (.set h (by decide)) (by decide)) (by decide)

theorem connect (h : LinesStand s t) : LinesStand s t.connect := .form (.set (h.modeTo _ _) (by decide))

theorem toReady (h : LinesStand s t) : LinesStand s t.toReady := .form (.set (h.modeTo _ _) (by decide))

theorem rideClear (h : LinesStand s t) : LinesStand s t.rideClear := .law (.set (.set h (by decide)) (by decide))

theorem bkrDisagree (h : LinesStand s t) : LinesStand s t.bkrDisagree := .sgr (.raiseC h (by decide)) _

theorem sendHolds (h : LinesStand s t) : LinesStand s t.sendHolds := .form (h.foldl fun _ i _ hu => hu.feCommand i 3 0)

theorem modeFail (h : LinesStand s t) (reason : Nat) : LinesStand s (t.modeFail reason) := by
  unfold State.modeFail
  extract_lets ph s1 form s2
  have h1 : LinesStand s s1 := .raiseC (.refuse h.withdrawClose (by decide)) (by decide)
  have h2 : LinesStand s s2 := h1.form
  exact .ite (.set (h2.modeTo _ _) (by decide)) (.ite (.toReady (.set h2.preCoilsOff (by decide))) (.sendHolds (.set h2 (by decide))))

theorem bkrMoved (h : LinesStand s t) : LinesStand s t.bkrMoved := by
  unfold State.bkrMoved
  extract_lets closed s1 s2 tripped cmd form s3 s4
  have h1 : LinesStand s s1 := h.setb (by decide)
  have h2 : LinesStand s s2 := .ite (h1.setb (by decide)) h1
  have h3 : LinesStand s s3 := h2.form
  have h4 : LinesStand s s4 := .rideClear (.set h3 (by decide))
  exact .ite (.ite (.ite h2.connect h2.bkrDisagree)
    (.ite (.modeFail (.raiseC h3 (by decide)) _) (.ite (.ite h3 h3.sendHolds) (.ite (.ite (.raiseC h4 (by decide)) h4) h3)))) h

/-! Outlet buses, precharge and interlocks (R287, R291, R321, R472). -/

theorem busServe (h : LinesStand s t) (b : Nat) : LinesStand s (t.busServe b) := by
  unfold State.busServe
  extract_lets stop s1 law s2
  have h1 : LinesStand s s1 := .set (h.busTo _ _) (unit (by decide) b)
  have h2 : LinesStand s s2 := h1.law
  exact .ite (h2.busRampDown b) h2

theorem busFbMoved (h : LinesStand s t) (hb : b < 12) : LinesStand s (t.busFbMoved b) := by
  unfold State.busFbMoved
  extract_lets c s1
  have h1 : LinesStand s s1 := h.busTo b B_OFF
  exact .ite (h.busServe b) (.ite (.ite (h1.sodStep hb 4) h1) (.ite (h.sodStep hb 4) h))

theorem preFbMoved (h : LinesStand s t) (k : Nat) : LinesStand s (t.preFbMoved k) :=
  .ite (.set h (by decide)) (.ite (.set h (by decide)) (.ite (.set h (by decide)) h))

theorem ilkEngage (h : LinesStand s t) (k : Nat) : LinesStand s (t.ilkEngage k) := h.foldl fun _ a _ hu => .ite (hu.ilkSod a) hu

end LinesStand

/-! The level itself. -/

/-- A feedback input reads the same where the feedback register stands. -/
theorem LinesStand.fbHigh (h : LinesStand s t) (k : Nat) : t.fbHigh k = s.fbHigh k := by
  have hlo : t.get CTC_FBIN_LO_FB = s.get CTC_FBIN_LO_FB := h.get _ 0 0 (by decide)
  have hhi : t.get CTC_FBIN_HI_FB = s.get CTC_FBIN_HI_FB := h.get _ 0 0 (by decide)
  rw [State.fbHigh, hlo, hhi, State.fbHigh]

/-- A level set is the level read. -/
theorem State.fbHigh_setFb (h : regsWf s) (hk : k < 40) (x : Bool) : (s.setFb k x).fbHigh k = x := by
  have hbit : (b2n x).testBit 0 = x := by cases x <;> rfl
  unfold State.fbHigh State.setFb
  split
  · next hlow => exact (State.bitOf_get_set h CTC_FBIN_LO_FB hlow hlow (b2n x)).trans ((if_pos (Nat.zero_add k)).trans hbit)
  · have hhigh : k - 32 < 8 := by omega
    exact (State.bitOf_get_set h CTC_FBIN_HI_FB hhigh (by omega) (b2n x)).trans ((if_pos (Nat.zero_add _)).trans hbit)

theorem State.setFb_wf (h : regsWf s) (k : Nat) (x : Bool) : regsWf (s.setFb k x) := by
  unfold State.setFb
  split
  · exact regsWf_set h ..
  · exact regsWf_set h ..

theorem State.setFb_lines (s : State) (k : Nat) (x : Bool) : (s.setFb k x).lines = s.lines := by
  unfold State.setFb
  split
  · rfl
  · rfl

/-- What follows from the level set. -/
theorem LinesStand.opFbChange (h : regsWf s) (k : Nat) (x : Bool) : LinesStand (s.setFb k (x && !s.ctc.fbRev.contains k)) (Machine.opFbChange k x s) := by
  unfold Machine.opFbChange
  extract_lets was s1 s2 s3 s4
  have h1 : LinesStand s1 s1 := .refl (State.setFb_wf h ..)
  have h2 : LinesStand s1 s2 := h1.foldl fun u o _ hu =>
    have hclosed : LinesStand s1 (u.setb CTC_OSTAT_CLOSED (u.fbClosed o) o) := hu.setb (ostat ⟨rfl, rfl⟩)
    .ite hclosed.settleFb hclosed
  have h3 : LinesStand s1 s3 := h2.foldl fun _ _ hb hu => hu.busFbMoved (List.mem_range.1 (List.mem_filter.1 (List.mem_reverse.1 hb)).1)
  have h4 : LinesStand s1 s4 := .ite h3.bkrMoved h3
  exact .ite h1 (.ilkEngage (.preFbMoved h4 k) k)

namespace LinesStand

/-! What stands, by its name. -/

section
variable (h : LinesStand s t)
include h

theorem coreUp (hup : s.pwr.coreUp = true) : t.pwr.coreUp = true := (congrArg (fun l => l.1) h.lines).trans hup
theorem encRev : t.drive.encRev = s.drive.encRev := congrArg (fun l => l.2.1) h.lines
theorem siRev : t.drive.siRev = s.drive.siRev := congrArg (fun l => l.2.2.1) h.lines
theorem fbRev : t.ctc.fbRev = s.ctc.fbRev := congrArg (fun l => l.2.2.2) h.lines

end

end LinesStand

/-- The event of a source shows once raised. -/
theorem State.raise_event (h : regsWf s) (src : Source) (unit : Nat) (hs : src.s < 16) :
    (s.raise src unit).flag ⟨ctrlAddr src.blk 0x04, 0, 0, src.s, 1⟩ = true :=
  congrArg (· != 0) (State.raise_status h src unit hs)

/-! A reversed input: it is noted, reads low with all that follows, and raises REVERSE of its block. -/

/-- What a low line of an encoder leaves, from the state with its reversal noted; likewise for the other inputs. -/
theorem encReversed_low (h : regsWf s) {n : Nat} (hn : n < 4) (line : Nat) : LinesStand (s.encReversed n line) ((s.encReversed n line).encLineLow n line) :=
  .encLineLow (.refl (s := s.encReversed n line) h) hn line
theorem tripReversed_low (h : regsWf s) (i : Nat) : LinesStand (s.siReversed (8 + i)) (opTripInput i (s.siReversed (8 + i))) :=
  .opTripInput (.refl (s := s.siReversed (8 + i)) h) i
theorem siReversed_low (h : regsWf s) (i : Nat) (c : Bool) :
    LinesStand (s.siReversed (2 * i + b2n c)) (opSiChange i c false (s.siReversed (2 * i + b2n c))) :=
  .opSiChange (.refl (s := s.siReversed (2 * i + b2n c)) h) i c false
theorem fbReversed_low (h : regsWf s) (k : Nat) : (opFbChange k false (s.fbReversed k)).lines = (s.fbReversed k).lines :=
  (LinesStand.opFbChange (s := s.fbReversed k) h k false).lines.trans ((s.fbReversed k).setFb_lines ..)

section
variable (hwf : regsWf s) (hfield : s.fieldUp = true) (hup : s.pwr.coreUp = true)
include hfield hup

theorem opInputReverse_enc (n : Fin 4) (line : Fin 6) :
    opInputReverse (.enc n line) true s = ((s.encReversed n.val line.val).encLineLow n.val line.val).raise SRC_ENC_REVERSE n.val :=
  State.fieldLive_up (s := s.encReversed n.val line.val) hfield hup _

include hwf

theorem opInputReverse_trip (i : Fin 8) :
    opInputReverse (.trip i) true s = (opTripInput i.val (s.siReversed (8 + i.val))).raiseC SRC_SAFE_REVERSE :=
  (if_pos hfield).trans (State.live_up ((tripReversed_low hwf i.val).coreUp hup) _)

theorem opInputReverse_si (i : Fin 4) (c : Bool) :
    opInputReverse (.si i c) true s = (opSiChange i.val c false (s.siReversed (2 * i.val + b2n c))).raise SRC_SAFE_REVERSE i.val :=
  (if_pos hfield).trans (State.live_up ((siReversed_low hwf i.val c).coreUp hup) _)

theorem opInputReverse_fb (k : Fin 40) :
    opInputReverse (.fb k) true s = (opFbChange k.val false (s.fbReversed k.val)).raise SRC_CTC_REVERSE (((s.fbCoils k.val).head?).getD k.val) :=
  (if_pos hfield).trans (State.live_up ((congrArg (fun l => l.1) (fbReversed_low hwf k.val)).trans hup) _)

end

end Sys2Proof.Machine
end

section
/-! CERTIFICATE. -/

namespace Sys2Proof.Machine

open Sys2Proof.Safety

/-- Settles O38: each clause is the lemma of its operation, a sample's count and Hall edge with SAFE's checks aside, a reversed input through all that its low level makes happen. -/
theorem encodersCountAndSensorsAreWatched : Obligations.EncodersCountAndSensorsAreWatched := by
  unfold Obligations.EncodersCountAndSensorsAreWatched
  refine ⟨fun s n a b dt q hwf hup hfield hen hch hq hdir hne hskip hA hB hsafe _ hin => ?step,
    fun s n a b dt q hwf hup hfield hen hch hq hdir hne hskip hA hB hsafe _ hturn => ?turn,
    fun s n a b dt q hwf hup hfield hen hch hA hB hsafe _ hq hj => ?skip, fun s n a b dt q hwf hup hfield hen hch hA hB hsafe _ hq hj => ?equal,
    fun s n hwf hup hfield hen hch hrev hmode => ?indexLatches, fun s n hwf hup hfield hen hch hrev hmode => ?indexLoads,
    fun s n hwf hup hen hch hlen => ?still, fun s n u v w hwf hup hfield hen hch hhall hlen => ?hall,
    fun s a hwf hup hon hstr => ?plausFails, fun s a hwf hup hon hhall => ?plausPasses, fun s m hup => ?pulseEnds,
    fun s n hwf hup hfield => ?shortLatches, fun s n hup hfield => ?shortGone, fun s n hwf hup hfield => ?backfeed,
    fun s n hwf hup hshort hback => ?ssupClears, fun s n hwf hup hpresent => ?ssupKept,
    fun s n line hwf hup hfield => ?encReverse, fun s n hwf hup hfield => ?indexReverse, fun s n line hup hfield => ?encReturn,
    fun s i hup hfield => ?tripReturn, fun s i hwf hup hfield => ?tripReverse, fun s i c hwf hup hfield => ?siReverse,
    fun s i c hup hfield => ?siReturn, fun s k hwf hup hfield => ?fbReverse, fun s k hup hfield => ?fbReturn⟩
  case step =>
    obtain ⟨heffect, hpos, hrev⟩ := opEncCount_forward_shows (dt := dt) hwf hen hch hq hdir hne hskip
    obtain ⟨hpos', hrev'⟩ := (State.countPos_shows (s := s.sampled n.val a b dt) hwf).1 hin
    obtain ⟨x, hexec⟩ := exec_encCount hfield hup hsafe hA hB heffect.toConfined
    exact ⟨_, hexec, hpos.trans hpos', hrev.trans hrev', heffect.skip, (heffect.safe (x := x)).only, heffect.word⟩
  case turn =>
    obtain ⟨heffect, hpos, hrev⟩ := opEncCount_forward_shows (dt := dt) hwf hen hch hq hdir hne hskip
    obtain ⟨hpos', hrev'⟩ := (State.countPos_shows (s := s.sampled n.val a b dt) hwf).2 hturn
    obtain ⟨x, hexec⟩ := exec_encCount hfield hup hsafe hA hB heffect.toConfined
    exact ⟨_, hexec, hpos.trans hpos', hrev.trans hrev', (heffect.safe (x := x)).only, heffect.word⟩
  case skip =>
    have hcounted : Confined (· ∈ atUnit [0x120014] n.val) s ((s.sampled n.val a b dt).inc ENC_STAT_SKIP n.val) :=
      .inc (.keep (.refl hwf) rfl rfl rfl) (addr_mem_atUnit (by decide) rfl)
    have hspeed : EncEffect [0x120010] n.val ((s.sampled n.val a b dt).inc ENC_STAT_SKIP n.val) (opEncCount n.val a b dt s) := by
      rw [opEncCount_skip hen hch hq hj]
      exact .capSpeed (.refl hcounted.wf) (by decide)
    have hstands : ∀ f : Fld, f.us = 0x100 → f.base ∉ [0x120010] → f.base ∉ [0x120014] →
        (opEncCount n.val a b dt s).get f n.val = s.get f n.val := fun f hus hspd hstat =>
      (hspeed.get f n.val 0 (addr_not_mem_atUnit hspd hus)).trans (hcounted.get f n.val 0 (addr_not_mem_atUnit hstat hus))
    have hall : Confined (· ∈ atUnit sampleRegs n.val) s (opEncCount n.val a b dt s) :=
      (hcounted.mono fun _ ha => List.map_subset _ (by decide) ha).trans (hspeed.mono (by decide)).toConfined
    obtain ⟨x, hexec⟩ := exec_encCount hfield hup hsafe hA hB hall
    exact ⟨_, hexec, hspeed.skip.trans (State.get_inc_satInc (s := s.sampled n.val a b dt) hwf ENC_STAT_SKIP n.val 0 (by decide)),
      hstands ENC_POS_POS rfl (by decide) (by decide), hstands ENC_REV_REV rfl (by decide) (by decide), (hspeed.safe (x := x)).only, hall.word⟩
  case equal =>
    have heffect : EncEffect [0x120010] n.val s (opEncCount n.val a b dt s) := by
      rw [opEncCount_equal hen hch hq hj]
      exact .capSpeed (.setEncSt (.refl hwf)) (by decide)
    obtain ⟨x, hexec⟩ := exec_encCount hfield hup hsafe hA hB (heffect.mono (by decide)).toConfined
    exact ⟨_, hexec, heffect.skip, heffect.get ENC_POS_POS n.val 0 (addr_not_mem_atUnit (by decide) rfl), (heffect.safe (x := x)).only, heffect.word⟩

  case indexLatches =>
    obtain ⟨hconf, hseen, hlat⟩ := State.indexLatched_shows hwf n.val
    exact ⟨_, congrArg Host.Outcome.next ((State.fieldLive_up hfield hup _).trans (opEncIndex_latches hen hch hrev hmode)), hseen, hlat,
      hconf.get ENC_POS_POS n.val 0 (addr_not_mem_atUnit (by decide) rfl), rfl, hconf.word⟩
  case indexLoads =>
    obtain ⟨hconf, hseen, hlat⟩ := State.indexLatched_shows hwf n.val
    have hidx : (s.indexLatched n.val).get ENC_IDX_IDX_POS n.val = s.get ENC_IDX_IDX_POS n.val := hconf.get _ _ _ (addr_not_mem_atUnit (by decide) rfl)
    have hstands : ∀ f : Fld, f.us = 0x100 → f.base ≠ ENC_POS_POS.base → ∀ v,
        ((s.indexLatched n.val).set ENC_POS_POS v n.val).get f n.val = (s.indexLatched n.val).get f n.val := fun f hus hne v =>
      State.get_set_unit hconf.wf ENC_POS_POS f v n.val (by decide) ⟨rfl, hus⟩ hne
    refine ⟨_, congrArg Host.Outcome.next ((State.fieldLive_up hfield hup _).trans (opEncIndex_loads hen hch hrev hmode)), ?_, ?_, ?_, rfl, ?_⟩
    · exact (congrArg (· != 0) (hstands ENC_STAT_IDX_SEEN rfl (by decide) _)).trans hseen
    · exact (hstands ENC_IDXLAT_POS rfl (by decide) _).trans hlat
    · rw [State.get_set_same hconf.wf _ _ _ _ (by decide), hidx]
      exact Nat.mod_eq_of_lt (s.get_lt ENC_IDX_IDX_POS n.val 0)
    · have hall : Confined (· ∈ atUnit [0x120014, 0x12001C, 0x120008] n.val) s
          ((s.indexLatched n.val).set ENC_POS_POS ((s.indexLatched n.val).get ENC_IDX_IDX_POS n.val) n.val) :=
        .set (hconf.mono fun _ ha => List.map_subset _ (by decide) ha) (addr_mem_atUnit (by decide) rfl)
      exact hall.word
  case still =>
    obtain ⟨hconf, hspd, hvalid, hstill⟩ := State.stilled_shows hwf n.val
    refine ⟨_, congrArg Host.Outcome.next ((State.live_up hup _).trans (opEncStill_eq hen hch)), (State.get_setEncSt ..).trans hspd,
      (State.flag_setEncSt ..).trans hvalid, (State.flag_setEncSt ..).trans hstill, ?_, regsOnly_setEncSt rfl .., hconf.setEncSt.word⟩
    exact congrArg EncSt.edges (State.encSt_setEncSt (by rw [State.stilled_drive, hlen]; exact n.isLt) _)
  case hall =>
    have hconf : Confined (· ∈ [0x120014 + 0x100 * n.val]) s (s.hallTaken n.val u v w) :=
      .keep (Confined.set (W := (· ∈ [0x120014 + 0x100 * n.val])) (f := ENC_STAT_HALL) (.refl hwf) List.mem_cons_self) rfl rfl rfl
    refine ⟨_, congrArg Host.Outcome.next ((State.fieldLive_up hfield hup _).trans (opHallLineChange_unchecked hwf hen hch hhall u v w)),
      State.hallTaken_hall hwf u v w, ?_, contains_setPresent _ _, rfl, hconf.word⟩
    exact congrArg EncSt.hallCounts (State.encSt_setEncSt (n.isLt.trans_eq hlen.symm) _)
  case plausFails =>
    have hnoted := State.plausNoted_confined hwf a.val
    obtain ⟨hfail, hevent, hold⟩ := State.plausNoted_shows hwf a.isLt
    obtain ⟨hstr', hsds, hfunc, hfail', hdrives, hgates, hstatus, honly⟩ := State.strNoted_inhibitAxis_shows hnoted.wf a.isLt
    obtain ⟨-, -, hstate, -⟩ := plausRegs_spares a.isLt
    have hdrive : driving (s.plausNoted a.val) a.val = driving s a.val := by rw [driving, hnoted.get AXIS_STAT_STATE a.val 0 hstate, driving]
    exact ⟨_, congrArg Host.Outcome.next ((State.live_up hup _).trans (opEncPlausFail_eq hwf a.isLt hon hstr)), hfail'.trans hfail, hstr', hsds, hfunc,
      fun hclear => (congrArg (· != 0) (hstatus _)).trans (hevent hclear), fun hd => hdrives (hdrive.trans hd), hgates,
      regsHold_safe (regsHold_then_regsOnly hold honly), (Confined.plausFailed hwf a.isLt).word⟩
  case plausPasses =>
    have hconf : Confined (· ∈ [0x130414 + 0x100 * a.val]) s (s.set SAFE_AXSTAT_PLAUS_FAIL 0 a.val) := .set (.refl hwf) List.mem_cons_self
    have hpass : opPlausChecksPassed a.val s = s.set SAFE_AXSTAT_PLAUS_FAIL 0 a.val := if_pos (by rw [hon, hhall]; rfl)
    exact ⟨_, congrArg Host.Outcome.next ((State.live_up hup _).trans hpass), State.flag_set_zero hwf _ _ _ (by decide), rfl, hconf.word⟩
  case pulseEnds => exact ⟨_, congrArg Host.Outcome.next (State.live_up hup _), rfl, by simp [opCmpPulseEnd]⟩
  case shortLatches =>
    obtain ⟨hbit, hevent, hold, hword⟩ := State.ssupLatched_shows (s := s.shortNoted n.val) hwf ENC_SSUP_SHORT rfl (by decide) n.isLt SRC_ENC_SUPPLY_SHORT
      (by decide) (by decide)
    obtain ⟨hdrive, hframe⟩ := regsHold_drive hold
    refine ⟨_, congrArg Host.Outcome.next (opSupplyShort_present hfield hup n.val), hbit, State.ssupOn_latched (.inl hbit), ?_, hevent, hframe, hword⟩
    exact (congrArg (fun d : DriveState => d.ssupShort.contains n.val) hdrive).trans (contains_setPresent _ _)
  case shortGone => exact ⟨_, rfl, rfl⟩
  case backfeed =>
    obtain ⟨hbit, hevent, hold, hword⟩ := State.ssupLatched_shows (s := s.backfeedNoted n.val) hwf ENC_SSUP_BACKFEED rfl (by decide) n.isLt SRC_ENC_BACKFEED
      (by decide) (by decide)
    obtain ⟨hdrive, hframe⟩ := regsHold_drive hold
    refine ⟨_, congrArg Host.Outcome.next (opBackfeed_present hfield hup n.val), hbit, State.ssupOn_latched (.inr hbit), ?_, hevent, hframe, hword⟩
    exact (congrArg (fun d : DriveState => d.ssupBack.contains n.val) hdrive).trans (contains_setPresent _ _)
  case ssupClears =>
    have hop : (opSsupClear (BitVec.ofNat 4 (2 ^ n.val)).toNat s).2 = s.ssupCleared n.val := by
      rw [opSsupClear_one, hshort, hback]
      rfl
    obtain ⟨hconf, hs, hb, hen⟩ := State.ssupCleared_shows hwf n
    exact ⟨_, congrArg Host.Outcome.next ((State.live_up hup _).trans hop), hs, hb, hen, rfl, fun adr hadr => hconf.word adr fun e => hadr (by simp [e])⟩
  case ssupKept =>
    have hop : (opSsupClear (BitVec.ofNat 4 (2 ^ n.val)).toNat s).2 = s.refuse .enc 0x1220 0x11 0x04 :=
      (opSsupClear_one n).trans (if_pos (Bool.or_eq_true_iff.2 hpresent))
    obtain ⟨hreason, hunit, hoffset, honly, hword⟩ := State.refuse_shows hwf .enc 0x1220 0x11 0x04
    exact ⟨_, congrArg Host.Outcome.next ((State.live_up hup _).trans hop), hreason, hunit, hoffset, hword 0x121100 (by decide), honly, hword⟩
  case encReverse =>
    have hlow := encReversed_low hwf n.isLt line.val
    refine ⟨_, congrArg Host.Outcome.next (opInputReverse_enc hfield hup n line), State.raise_event hlow.wf SRC_ENC_REVERSE n.val (by decide), ?_⟩
    rw [(hlow.raise (src := SRC_ENC_REVERSE) (by decide)).encRev]
    exact contains_setPresent _ _
  case indexReverse =>
    have hline : (s.encReversed n.val 2).encLineLow n.val 2 = s.encReversed n.val 2 := by simp [State.encLineLow]
    have hop : opInputReverse (.enc n 2) true s = (s.encReversed n.val 2).raise SRC_ENC_REVERSE n.val :=
      (State.fieldLive_up (s := s.encReversed n.val 2) hfield hup _).trans (congrArg (State.raise · SRC_ENC_REVERSE n.val) hline)
    obtain ⟨hdrive, hframe⟩ := regsHold_drive ((s.encReversed n.val 2).raise_hold SRC_ENC_REVERSE n.val)
    exact ⟨_, congrArg Host.Outcome.next hop, congrArg (· != 0) (State.raise_status (s := s.encReversed n.val 2) hwf SRC_ENC_REVERSE n.val (by decide)),
      hdrive, hframe, fun adr hadr => State.word_raise_other (s := s.encReversed n.val 2) hwf SRC_ENC_REVERSE n.val hadr⟩
  case encReturn => exact ⟨_, rfl, rfl⟩
  case tripReturn => exact ⟨_, rfl, rfl⟩
  case tripReverse =>
    have hlow := tripReversed_low hwf i.val
    refine ⟨_, congrArg Host.Outcome.next (opInputReverse_trip hwf hfield hup i), State.raise_event hlow.wf SRC_SAFE_REVERSE _ (by decide), ?_⟩
    rw [(hlow.raiseC (src := SRC_SAFE_REVERSE) (by decide)).siRev]
    exact contains_setPresent _ _
  case siReverse =>
    have hlow := siReversed_low hwf i.val c
    refine ⟨_, congrArg Host.Outcome.next (opInputReverse_si hwf hfield hup i c), State.raise_event hlow.wf SRC_SAFE_REVERSE i.val (by decide), ?_⟩
    rw [(hlow.raise (src := SRC_SAFE_REVERSE) (by decide)).siRev]
    exact contains_setPresent _ _
  case siReturn => exact ⟨_, rfl, rfl⟩
  case fbReverse =>
    have hfollows := LinesStand.opFbChange (s := s.fbReversed k.val) hwf k.val false
    have hraised := hfollows.raise (src := SRC_CTC_REVERSE) (unit := ((s.fbCoils k.val).head?).getD k.val) (by decide)
    have hnoted := (s.fbReversed k.val).setFb_lines k.val (false && !(s.fbReversed k.val).ctc.fbRev.contains k.val)
    have hrev : _ = (s.fbReversed k.val).ctc.fbRev := congrArg (fun l => l.2.2.2) (hraised.lines.trans hnoted)
    refine ⟨_, congrArg Host.Outcome.next (opInputReverse_fb hwf hfield hup k), State.raise_event hfollows.wf SRC_CTC_REVERSE _ (by decide), ?_, ?_⟩
    · exact (congrArg (List.contains · k.val) hrev).trans (contains_setPresent _ _)
    · rw [hraised.fbHigh, State.fbHigh_setFb (s := s.fbReversed k.val) hwf k.isLt, Bool.false_and]
  case fbReturn => exact ⟨_, rfl, rfl⟩

end Sys2Proof.Machine
end

section
/-! SUPPORT. Flash access through the host (R537): a checked read writes MEM's registers alone (R495, R501), and what an operation in progress leaves. -/

namespace Sys2Proof.Machine

open Sys2Proof.Safety

variable {W : Nat → Prop} {s t : State}

/-- The registers that a checked read may write: MEM's, the held faults, and the N of an open window. -/
abbrev readRegs (a : Nat) : Prop := a = 0x000214 ∨ (0x150000 ≤ a ∧ a < 0x160000) ∨ 0x1000000 ≤ a

theorem bankAt_lt {a b : Nat} (h : bankAt a = some b) : b < 5 := (List.findIdx?_eq_some_iff_findIdx_eq.1 h).1

theorem Confined.checkedRead (h : Confined W s t) (hW : ∀ a, readRegs a → W a) (m a n : Nat) : Confined W s (t.load m a n).2.2 := by
  unfold State.load
  refine h.foldl fun u x _ hu => ?_
  split
  · exact hu
  · next b hb =>
    have hbank := bankAt_lt hb
    have hpois : W (0x150004 + 0x100 * b + 0 * 0) := hW _ (.inr (.inl (by omega)))
    have hlast : W (0x150008 + 0x100 * b + 0 * 0) := hW _ (.inr (.inl (by omega)))
    have hevt : ∀ src : Source, (∀ a ∈ evtRegs src.blk src.s, readRegs a) → ∀ a ∈ evtRegs src.blk src.s, W a := fun _ hsrc a ha => hW a (hsrc a ha)
    exact .raiseIf (.raise (.set (.set (.inc hu hpois) hpois) hlast) (hevt _ (by decide))) (hevt _ (by decide))

/-- BUSY, the register that every flash operation shows its progress in. -/
theorem State.flashBusy_shows (h : regsWf s) :
    s.flashBusy.flag HOST_FL_STAT_BUSY = true ∧ Confined (· ∈ [HOST_FL_STAT_BUSY.base]) s s.flashBusy :=
  ⟨State.flag_set_one h HOST_FL_STAT_BUSY 0 0 (by decide) rfl, .set (.refl h) (by decide)⟩

theorem opFlashRead_bytes {f : FlashImage} (h : regsWf s) (hno : s.flashRefused 1 = none) (hflash : s.flash = some f) :
    (opFlashRead s).2 = s.flashBusy.store (BANK_HOST + s.get HOST_FL_BUF_BASE)
      ((List.range (s.get HOST_FL_BUF_LEN)).map fun k => flashByte f (s.get HOST_FL_ADDR_ADDR + k)) := by
  have hget : ∀ g : Fld, g.addr 0 0 ∉ [HOST_FL_STAT_BUSY.base] → s.flashBusy.get g = s.get g := fun g hg =>
    (State.flashBusy_shows h).2.get g 0 0 hg
  have hbusy : s.flashBusy.flash = some f := hflash
  unfold opFlashRead
  simp only [hno, hbusy]
  rw [hget HOST_FL_BUF_BASE (by decide), hget HOST_FL_BUF_LEN (by decide), hget HOST_FL_ADDR_ADDR (by decide)]

theorem opFlashRead_noFlash (hno : s.flashRefused 1 = none) (hflash : s.flash = none) : (opFlashRead s).2 = s.flashBusy := by
  have hbusy : s.flashBusy.flash = none := hflash
  unfold opFlashRead
  simp only [hno, hbusy]

theorem opFlashProgram_accepted (hno : s.flashRefused 2 = none) :
    (opFlashProgram s).2 = { (s.flashBusy.load 0 (BANK_HOST + s.get HOST_FL_BUF_BASE) (s.get HOST_FL_BUF_LEN)).2.2 with
      flash := s.flash.map fun f => flashWrite f (s.get HOST_FL_ADDR_ADDR) (s.flashBusy.load 0 (BANK_HOST + s.get HOST_FL_BUF_BASE) (s.get HOST_FL_BUF_LEN)).1 } := by
  unfold opFlashProgram
  simp only [hno]

/-- An erase whose entry is written. -/
theorem opFlashErase_logged {w : Bool × State} (hno : s.flashRefused 3 = none)
    (hlog : s.logAppend 11 0 0 0 0 (leBytes 4 (s.get HOST_FL_ADDR_ADDR) ++ leBytes 4 (s.get HOST_FL_STAT_ERASE_KIB * 1024)) = w) (hw : w.1 = true) :
    (opFlashErase s).2 = { w.2.flashBusy with
      flash := w.2.flash.map fun f => flashWrite f (s.get HOST_FL_ADDR_ADDR) (List.replicate (s.get HOST_FL_STAT_ERASE_KIB * 1024) 0xFF#8) } := by
  unfold opFlashErase State.logged
  simp only [hno, hlog]
  rw [if_pos hw]

theorem opFlashRead_refused {r : Nat} (hno : s.flashRefused 1 = some r) : (opFlashRead s).2 = s.refuse .host r 0x02 0x00 := by
  unfold opFlashRead
  simp only [hno]
  rfl

theorem opFlashProgram_refused {r : Nat} (hno : s.flashRefused 2 = some r) : (opFlashProgram s).2 = s.refuse .host r 0x02 0x00 := by
  unfold opFlashProgram
  simp only [hno]
  rfl

theorem opFlashErase_refused {r : Nat} (hno : s.flashRefused 3 = some r) : (opFlashErase s).2 = s.refuse .host r 0x02 0x00 := by
  unfold opFlashErase
  simp only [hno]
  rfl

/-- A refused flash operation is one refusal in HOST_CHK, at the command register (log entry 60). -/
theorem State.flashRefusal_shows {i : Instr} {r : Nat} (h : regsWf s) (hup : s.pwr.coreUp = true) (hr : r < 0x10000)
    {op : State} (hexec : exec i s = .next (s.live op)) (hop : op = s.refuse .host r 0x02 0x00) :
    ∃ t, exec i s = .next t ∧ t.get (CHK_REASON .host) = r ∧ t.get (CHK_UNIT .host) = 2 ∧ t.get (CHK_OFFSET .host) = 0 ∧ RegsOnly s t ∧
      ∀ adr, adr ∉ refuseRegs .host → t.word adr = s.word adr := by
  obtain ⟨hreason, hunit, hoffset, honly, hword⟩ := State.refuse_shows h .host r 0x02 0x00
  exact ⟨_, hexec.trans (congrArg Host.Outcome.next ((State.live_up hup _).trans hop)), hreason.trans (Nat.mod_eq_of_lt hr), hunit, hoffset, honly, hword⟩

/-! Completion. -/

/-- BUSY is over, and `f` tells how. -/
def State.flashEnded (s : State) (f : Fld) : State := (s.set HOST_FL_STAT_BUSY 0).set f 1

theorem State.flashEnded_shows (h : regsWf s) {f : Fld} (hf : f = HOST_FL_STAT_DONE ∨ f = HOST_FL_STAT_FAIL) :
    (s.flashEnded f).flag HOST_FL_STAT_BUSY = false ∧ (s.flashEnded f).flag f = true ∧
      Confined (· ∈ [HOST_FL_STAT_BUSY.base]) s (s.flashEnded f) := by
  have hfit : f.lo + f.w ≤ 32 ∧ f.w = 1 ∧ 1 ≤ f.lo ∧ f.addr 0 0 ∈ [HOST_FL_STAT_BUSY.base] := by
    rcases hf with rfl | rfl <;> decide
  obtain ⟨hlo, hwidth, hbit, haddr⟩ := hfit
  have h1 := regsWf_set h HOST_FL_STAT_BUSY 0 0 0
  refine ⟨?_, State.flag_set_one h1 f 0 0 hlo hwidth, .set (.set (.refl h) (by decide)) haddr⟩
  rw [State.flashEnded, State.flag_eq, State.get_set_other h1 f HOST_FL_STAT_BUSY 1 0 0 0 0 hlo (.inr (.inl hbit)), ← State.flag_eq]
  exact State.flag_set_zero h _ _ _ (by decide)

theorem opFlashOpDone_done (hbusy : s.flag HOST_FL_STAT_BUSY = true) : opFlashOpDone true s = s.flashEnded HOST_FL_STAT_DONE := by
  unfold opFlashOpDone
  rw [if_neg (by simp [hbusy])]
  rfl

theorem opFlashOpDone_failed (hbusy : s.flag HOST_FL_STAT_BUSY = true) :
    opFlashOpDone false s = ((s.flashEnded HOST_FL_STAT_FAIL).refuse .host 0x1721 0x02 0x00).raise SRC_HOST_FLASH_FAIL 0x02 := by
  unfold opFlashOpDone
  rw [if_neg (by simp [hbusy])]
  rfl

end Sys2Proof.Machine
end

section
/-! CERTIFICATE. Flash operations of the host (R71, R537, R547), settled. -/

namespace Sys2Proof.Machine

open Sys2Proof.Safety

/-- Settles O60: an accepted operation is BUSY with its own transfer of bytes, a refused one a refusal in HOST_CHK (its place is log entry 60). The conditions are those of `State.flashRefused` (R537); erase and program act at the command (log entry 22). -/
theorem theFlashIsReadProgrammedAndErased : Obligations.TheFlashIsReadProgrammedAndErased := by
  unfold Obligations.TheFlashIsReadProgrammedAndErased
  refine ⟨fun s f hwf hup hno hflash hmem => ?read, fun s hwf hup hno hflash => ?readNothing,
    fun s r hwf hup hno hr => State.flashRefusal_shows hwf hup hr rfl (opFlashRead_refused hno), fun s hwf hup hno => ?program,
    fun s r hwf hup hno hr => State.flashRefusal_shows hwf hup hr rfl (opFlashProgram_refused hno), fun s hwf hup hno hlog => ?erase,
    fun s r hwf hup hno hr => State.flashRefusal_shows hwf hup hr rfl (opFlashErase_refused hno), fun s ok hwf hup hbusy hok => ?done,
    fun s ok hwf hup hbusy hok => ?failed, fun s ok hup hbusy => ?idle⟩
  case read =>
    obtain ⟨hshown, hconf⟩ := State.flashBusy_shows hwf
    have hbusymem : memWf s.flashBusy := hmem
    refine ⟨_, congrArg Host.Outcome.next ((State.live_up hup _).trans (opFlashRead_bytes hwf hno hflash)), ?_, fun k hk => ⟨?_, fun adr hadr => ?_, ?_, fun adr hadr => ?_⟩⟩
    · exact (congrArg (· != 0) (State.get_congr (State.regs_store ..) _ 0 0)).trans hshown
    · rw [State.byte_store hbusymem (by simpa using List.mem_range.1 hk)]
      simp
    · exact State.byte_store_other hbusymem (by simpa using hadr)
    · rw [State.store_only]
      rfl
    · exact (State.word_congr (State.regs_store ..) adr).trans (hconf.word adr hadr)
  case readNothing =>
    obtain ⟨hshown, hconf⟩ := State.flashBusy_shows hwf
    exact ⟨_, congrArg Host.Outcome.next ((State.live_up hup _).trans (opFlashRead_noFlash hno hflash)), hshown, rfl, hconf.word⟩
  case program =>
    obtain ⟨hshown, hconf⟩ := State.flashBusy_shows hwf
    refine ⟨_, congrArg Host.Outcome.next ((State.live_up hup _).trans (opFlashProgram_accepted hno)), ?_, rfl⟩
    exact ((Confined.refl hconf.wf).checkedRead (fun _ ha => ha) ..).flag HOST_FL_STAT_BUSY 0 0 (by decide) |>.trans hshown
  case erase =>
    obtain ⟨hconf, hseq, hrest⟩ := State.logAppend_shows hwf hlog
    have herase := opFlashErase_logged hno rfl hlog
    generalize s.logAppend 11 0 0 0 0 (leBytes 4 (s.get HOST_FL_ADDR_ADDR) ++ leBytes 4 (s.get HOST_FL_STAT_ERASE_KIB * 1024)) = w at *
    obtain ⟨hshown, hbusy⟩ := State.flashBusy_shows hconf.wf
    have hflash : w.2.logErased.flash = s.logErased.flash := congrArg State.flash hrest
    exact ⟨_, congrArg Host.Outcome.next ((State.live_up hup _).trans herase), hshown, congrArg (Option.map _) hflash,
      (hbusy.get SEAL_LOG_NEXT_SEQ 0 0 (by decide)).trans hseq⟩
  case done =>
    subst hok
    obtain ⟨hidle, hdone, hconf⟩ := State.flashEnded_shows hwf (.inl rfl)
    exact ⟨_, congrArg Host.Outcome.next ((State.live_up hup _).trans (opFlashOpDone_done hbusy)), hidle, hdone, rfl, hconf.word⟩
  case failed =>
    subst hok
    obtain ⟨hidle, hfail, hconf⟩ := State.flashEnded_shows hwf (.inr rfl)
    obtain ⟨hreason, hunit, hoffset, honly, hword⟩ := State.refuse_shows hconf.wf .host 0x1721 0x02 0x00
    have hrefused := regsWf_refuse hconf.wf .host 0x1721 0x02 0x00
    have hevt : Confined (· ∈ evtRegs SRC_HOST_FLASH_FAIL.blk SRC_HOST_FLASH_FAIL.s) _ _ := (Confined.refl hrefused).raise (src := SRC_HOST_FLASH_FAIL) (unit := 0x02) fun _ ha => ha
    have hstat : ∀ f : Fld, f.addr 0 0 = HOST_FL_STAT_BUSY.base → ((((s.flashEnded HOST_FL_STAT_FAIL).refuse .host 0x1721 0x02 0x00).raise SRC_HOST_FLASH_FAIL 0x02).flag f) = (s.flashEnded HOST_FL_STAT_FAIL).flag f := fun f hf => by
      rw [hevt.flag f 0 0 (by rw [hf]; decide), State.flag_eq, State.get, hword _ (by rw [hf]; decide)]
      rfl
    refine ⟨_, congrArg Host.Outcome.next ((State.live_up hup _).trans (opFlashOpDone_failed hbusy)), (hstat _ rfl).trans hidle, (hstat _ rfl).trans hfail,
      State.raise_event hrefused _ _ (by decide), (hevt.get (CHK_REASON .host) 0 0 (by decide)).trans hreason,
      (hevt.get (CHK_UNIT .host) 0 0 (by decide)).trans hunit, (hevt.get (CHK_OFFSET .host) 0 0 (by decide)).trans hoffset,
      regsHold_of_regsOnly rfl (State.raise_hold _ _ _), fun adr hadr => ?_⟩
    simp only [List.mem_append, List.mem_cons, not_or] at hadr
    obtain ⟨⟨hbase, hchk⟩, hregs⟩ := hadr
    rw [hevt.word adr hregs, hword adr hchk, hconf.word adr (by simpa using hbase)]
  case idle =>
    refine ⟨s, congrArg Host.Outcome.next ((State.live_up hup _).trans ?_), rfl⟩
    rw [opFlashOpDone, if_pos (by simp [hbusy])]

end Sys2Proof.Machine
end

section
/-! SUPPORT. The coil outputs brought to what they should do touch registers and CTC's record, and nothing else (R473 to R475). -/

namespace Sys2Proof.Machine

open Sys2Proof.Safety

variable {s t : State}

theorem CoilsOnly.ite {c : Prop} [Decidable c] {a b : State} (ha : CoilsOnly s a) (hb : CoilsOnly s b) : CoilsOnly s (if c then a else b) := by
  split
  · exact ha
  · exact hb

theorem CoilsOnly.foldl {α : Type} {f : State → α → State} (hf : ∀ u x, CoilsOnly u (f u x)) (l : List α) (s : State) : CoilsOnly s (l.foldl f s) :=
  List.foldlRecOn (motive := CoilsOnly s) l f rfl fun u hu x _ => hu.trans (hf u x)

theorem CoilsOnly.setb (h : CoilsOnly s t) (f : Fld) (v : Bool) (o : Nat) : CoilsOnly s (t.setb f v o) := h.trans rfl

theorem State.settleFb_coilsOnly (s : State) (o : Nat) : CoilsOnly s (s.settleFb o) := .ite rfl rfl

theorem State.applyCoil1_coilsOnly (s : State) (o : Nat) : CoilsOnly s (s.applyCoil1 o) := by
  unfold State.applyCoil1
  extract_lets s1 on s2 s3
  have h1 : CoilsOnly s s1 := rfl
  have h2 : CoilsOnly s s2 := h1.setb ..
  have h3 : CoilsOnly s s3 := .ite (h2.trans rfl) h2
  have h4 : CoilsOnly s { s3 with ctc := { s3.ctc with transit := setPresent s3.ctc.transit o true } } := h3.trans rfl
  exact .ite (.ite h1 (h1.trans rfl)) (.ite h1 (.ite (h4.trans (State.settleFb_coilsOnly _ o)) h3))

theorem State.applyCoils_coilsOnly (s : State) : CoilsOnly s s.applyCoils := CoilsOnly.foldl State.applyCoil1_coilsOnly _ s

theorem State.coilCmd_coilsOnly (s : State) (o : Nat) (on : Bool) : CoilsOnly s (s.coilCmd o on) := by
  have hcmd : CoilsOnly s (s.setb CTC_OSTAT_CMD_ON on o) := rfl
  exact (hcmd.trans (State.applyCoil1_coilsOnly _ o)).trans (CoilsOnly.foldl State.applyCoil1_coilsOnly _ _)

end Sys2Proof.Machine
end

section
/-! SUPPORT. The PLLs (R62 to R70): their settings, the tables of bands, and an acquisition. -/

namespace Sys2Proof.Machine

open Sys2Proof.Safety

variable {W : Nat → Prop} {s t : State} {p v : Nat}

/-- The settings and the status of a PLL. -/
abbrev pllCtrlWord (p : Nat) : Nat := 0x010100 + 0x100 * p
abbrev pllStatWord (p : Nat) : Nat := 0x010104 + 0x100 * p

/-! Settings. -/

/-- A field written with its own value. -/
theorem Confined.setSame {f : Fld} {u i : Nat} (h : Confined W s t) (hf : f.lo + f.w ≤ 32) (hv : v = t.get f u i) : Confined W s (t.set f v u i) := by
  have hsame : t.set f v u i = t.putWord (f.addr u i) (t.word (f.addr u i)) := by
    rw [State.set_eq, hv, State.get, withField_fieldOf _ hf]
  rw [hsame]
  exact ⟨regsWf_putWord h.wf .., fun a ha => (State.word_putWord_self h.wf ..).trans (h.word a ha), h.cyc, h.part⟩

theorem bitsOf_mod (v lo w : Nat) : bitsOf v lo w % 2 ^ w = bitsOf v lo w := Nat.mod_eq_of_lt (Nat.mod_lt _ (Nat.two_pow_pos w))

theorem State.storePll_shows (h : regsWf s) (p v : Nat) :
    (s.storePll p v).get CLK_PLL_CTRL_FBDIV p = bitsOf v 0 8 ∧ (s.storePll p v).get CLK_PLL_CTRL_POSTDIV p = bitsOf v 8 4 ∧
      (s.storePll p v).get CLK_PLL_CTRL_PWR p = bitsOf v 13 1 ∧ Confined (· = pllCtrlWord p) s (s.storePll p v) := by
  have h1 := regsWf_set h CLK_PLL_CTRL_FBDIV (bitsOf v 0 8) p 0
  have h2 := regsWf_set h1 CLK_PLL_CTRL_POSTDIV (bitsOf v 8 4) p 0
  unfold State.storePll
  refine ⟨?_, ?_, ?_, .set (.set (.set (.refl h) rfl) rfl) rfl⟩
  · rw [State.get_set_other h2 _ _ _ _ _ _ _ (by decide) (.inr (by decide)), State.get_set_other h1 _ _ _ _ _ _ _ (by decide) (.inr (by decide)),
      State.get_set_same h _ _ _ _ (by decide)]
    exact bitsOf_mod v 0 8
  · rw [State.get_set_other h2 _ _ _ _ _ _ _ (by decide) (.inr (by decide)), State.get_set_same h1 _ _ _ _ (by decide)]
    exact bitsOf_mod v 8 4
  · rw [State.get_set_same h2 _ _ _ _ (by decide)]
    exact bitsOf_mod v 13 1

/-- Settings stored as they are held change no register. -/
theorem State.storePll_held (h : regsWf s) (hfb : bitsOf v 0 8 = s.get CLK_PLL_CTRL_FBDIV p) (hpost : bitsOf v 8 4 = s.get CLK_PLL_CTRL_POSTDIV p)
    (hpwr : bitsOf v 13 1 = s.get CLK_PLL_CTRL_PWR p) : Confined (fun _ => False) s (s.storePll p v) := by
  have h1 : Confined (fun _ => False) s (s.set CLK_PLL_CTRL_FBDIV (bitsOf v 0 8) p) := .setSame (.refl h) (by decide) hfb
  have h2 := h1.setSame (by decide) (hpost.trans (h1.get CLK_PLL_CTRL_POSTDIV p 0 id).symm)
  exact h2.setSame (by decide) (hpwr.trans (h2.get CLK_PLL_CTRL_PWR p 0 id).symm)

/-- REACQ added to a word leaves every field that does not hold it. -/
theorem bitsOf_or_reacq (w : Word) {lo n : Nat} (h : lo + n ≤ 12 ∨ 13 ≤ lo) : bitsOf (w.toNat ||| 0x1000) lo n = fieldOf w lo n := by
  refine Nat.eq_of_testBit_eq fun i => ?_
  have hbit : ∀ j, j ≠ 12 → (0x1000 : Nat).testBit j = false := fun j hj => by
    rw [show (0x1000 : Nat) = 2 ^ 12 by decide, Nat.testBit_two_pow_of_ne (Ne.symm hj)]
  simp only [bitsOf, fieldOf, Nat.testBit_mod_two_pow, Nat.testBit_shiftRight, Nat.testBit_or]
  by_cases hi : i < n
  · rw [hbit (lo + i) (by omega), Bool.or_false]
  · simp [hi]

/-- What a PLL has to try depends on its settings and its table alone. -/
theorem State.bands_congr (h : Confined W s t) (hctrl : ¬ W (pllCtrlWord p)) (hband : ∀ b < 16, ¬ W (0x010140 + 0x100 * p + 4 * b)) :
    t.bands p = s.bands p := by
  have hvco : t.vco p = s.vco p := congrArg (50 * ·) (h.get CLK_PLL_CTRL_FBDIV p 0 hctrl)
  refine List.filter_congr fun b hb => ?_
  have hw := hband b (List.mem_range.1 hb)
  rw [hvco, h.flag CLK_PLL_BAND_VALID p b hw, h.get CLK_PLL_BAND_FMIN p b hw, h.get CLK_PLL_BAND_FMAX p b hw]

/-! Acquisition. -/

/-- LOCKED falls and the attempt is counted. -/
def State.attempted (s : State) (p : Nat) : State := (s.set CLK_PLL_STAT_LOCKED 0 p).inc CLK_PLL_STAT_ACQ_CNT p

theorem State.attempted_shows (h : regsWf s) (p : Nat) :
    (s.attempted p).flag CLK_PLL_STAT_LOCKED p = false ∧ (s.attempted p).get CLK_PLL_STAT_ACQ_CNT p = satInc 0xFF (s.get CLK_PLL_STAT_ACQ_CNT p) ∧
      Confined (· = pllStatWord p) s (s.attempted p) := by
  have h1 := regsWf_set h CLK_PLL_STAT_LOCKED 0 p 0
  refine ⟨?_, ?_, .inc (.set (.refl h) rfl) rfl⟩
  · rw [State.attempted, State.inc_eq, State.flag_eq, State.get_set_other h1 _ _ _ _ _ _ _ (by decide) (.inr (by decide)), ← State.flag_eq]
    exact State.flag_set_zero h _ _ _ (by decide)
  · rw [State.attempted, State.get_inc_satInc h1 _ _ _ (by decide), State.get_set_other h _ _ _ _ _ _ _ (by decide) (.inr (by decide))]
    rfl

theorem State.setPll_regs (s : State) (p : Nat) (x : PllState) : (s.setPll p x).regs = s.regs := by
  unfold State.setPll
  split <;> rfl

theorem State.setPll_frame (s : State) (p : Nat) (x : PllState) : s.setPll p x = { s with pllA := (s.setPll p x).pllA, pllB := (s.setPll p x).pllB } := by
  unfold State.setPll
  split <;> rfl

theorem State.setPll_pll (s : State) (p : Nat) (x : PllState) : (s.setPll p x).pll p = x := by
  unfold State.setPll State.pll
  split <;> rfl

/-- A PLL set beside a change of registers. -/
theorem regsOnly_setPll (h : RegsOnly s t) (p : Nat) (x : PllState) :
    t.setPll p x = { s with regs := (t.setPll p x).regs, pllA := (t.setPll p x).pllA, pllB := (t.setPll p x).pllB } :=
  (t.setPll_frame p x).trans ((congrArg (fun u : State => { u with pllA := (t.setPll p x).pllA, pllB := (t.setPll p x).pllB }) h).trans
    (by rw [State.setPll_regs]))

theorem Confined.setPll {x : PllState} (h : Confined W s t) : Confined W s (t.setPll p x) := by
  have hframe := t.setPll_frame p x
  exact h.keep (t.setPll_regs p x) ((congrArg State.cyc hframe).trans rfl) ((congrArg State.part hframe).trans rfl)

/-- An acquisition from the table, with no heartbeat to lose, tries the first matching band (R64). -/
theorem State.acquire_table {b : Nat} (h : regsWf s) (hbeat : s.pwr.heartbeat = false) (hfirst : (s.bands p).head? = some b) :
    s.acquire p false = (s.attempted p).setPll p ⟨true, false, some b⟩ := by
  have hbands : (s.attempted p).bands p = s.bands p :=
    State.bands_congr (s.attempted_shows h p).2.2 (by unfold pllCtrlWord pllStatWord; omega) fun b _ => by unfold pllStatWord; omega
  unfold State.acquire
  extract_lets s1 s2 first
  have hs2 : s2 = s.attempted p := (congrArg (fun u => if p = 0 then u else s1) (State.heartbeatLoss_gone (s := s1) hbeat)).trans (ite_self _)
  have hhead : first = some b := by rw [← hfirst, ← hbands, ← hs2]
  rw [if_neg Bool.false_ne_true, hhead, hs2]

/-! What a PLL command does that nothing refuses. -/

theorem opPllCtrl_accepted (hclient : s.clientOn p = false) (hgood : pllBad p (bitsOf v 0 8) (bitsOf v 8 4) = none) :
    (opPllCtrl p v s).2 = (s.storePll p v).restart p := by
  unfold opPllCtrl
  rw [if_neg (by simp [hclient]), hgood]

theorem opPllCtrl_locked (hclient : s.clientOn p = true) : (opPllCtrl p v s).2 = s.refuseC .clk LOCKED (p + 1) 0x00 := by
  unfold opPllCtrl
  rw [if_pos hclient]

theorem opPllBand_accepted {b : Nat} (hclient : s.clientOn p = false) (hgood : bandBad v = none) : (opPllBand p b v s).2 = (s.storeBand p b v).restart p := by
  unfold opPllBand
  rw [if_neg (by simp [hclient]), hgood]

/-- Settings stored and tried. -/
theorem opPllCtrl_tries {b : Nat} (h : regsWf s) (hclient : s.clientOn p = false) (hgood : pllBad p (bitsOf v 0 8) (bitsOf v 8 4) = none)
    (hpwr : bitsOf v 13 1 = 1) (hfirst : ((s.storePll p v).bands p).head? = some b) (hbeat : s.pwr.heartbeat = false) :
    (opPllCtrl p v s).2 = ((s.storePll p v).attempted p).setPll p ⟨true, false, some b⟩ := by
  obtain ⟨-, -, hstored, hconf⟩ := s.storePll_shows h p v
  rw [opPllCtrl_accepted hclient hgood, State.restart, if_pos (by rw [State.flag_eq, hstored, hpwr]; rfl)]
  exact State.acquire_table hconf.wf hbeat hfirst

/-- A PLL without power stays unlocked and tries nothing (log entry 78). -/
theorem State.restart_unpowered (hpwr : s.flag CLK_PLL_CTRL_PWR p = false) :
    s.restart p = (s.set CLK_PLL_STAT_LOCKED 0 p).setPll p ⟨false, false, none⟩ := by
  rw [State.restart, if_neg (by simp [hpwr])]

/-- What an attempt shows, beside what the PLL then holds. -/
theorem State.attempt_shows (h : regsWf s) (p : Nat) (x : PllState) :
    ((s.attempted p).setPll p x).flag CLK_PLL_STAT_LOCKED p = false ∧
      ((s.attempted p).setPll p x).get CLK_PLL_STAT_ACQ_CNT p = satInc 0xFF (s.get CLK_PLL_STAT_ACQ_CNT p) ∧
      Confined (· = pllStatWord p) s ((s.attempted p).setPll p x) := by
  obtain ⟨hunlocked, hcount, hconf⟩ := s.attempted_shows h p
  have hget : ∀ f : Fld, ((s.attempted p).setPll p x).get f p = (s.attempted p).get f p := fun f => State.get_congr (State.setPll_regs ..) f _ _
  exact ⟨(congrArg (· != 0) (hget _)).trans hunlocked, (hget _).trans hcount, hconf.setPll⟩

/-! LOL and locks (R64, R65, R69). -/

theorem opLolClear_locked (hlock : s.flag CLK_PLL_STAT_LOCKED p = true) : (opLolClear p s).2 = s.set CLK_PLL_STAT_LOL 0 p := by
  rw [opLolClear, if_pos hlock]

/-- A lock as it is shown: LOCKED, the band that was tried, and nothing tried any more. -/
def State.lockShown (s : State) (p : Nat) : State :=
  State.setPll (match (s.pll p).trying with | some b => (s.set CLK_PLL_STAT_LOCKED 1 p).set CLK_PLL_STAT_BAND b p | none => s.set CLK_PLL_STAT_LOCKED 1 p) p
    { s.pll p with acquiring := false, trying := none }

theorem State.lockShown_band {b : Nat} (htry : (s.pll p).trying = some b) :
    s.lockShown p = ((s.set CLK_PLL_STAT_LOCKED 1 p).set CLK_PLL_STAT_BAND b p).setPll p { s.pll p with acquiring := false, trying := none } := by
  unfold State.lockShown
  simp only [htry]

theorem State.lockShown_noBand (htry : (s.pll p).trying = none) :
    s.lockShown p = (s.set CLK_PLL_STAT_LOCKED 1 p).setPll p { s.pll p with acquiring := false, trying := none } := by
  unfold State.lockShown
  simp only [htry]

theorem State.lockShown_shows (h : regsWf s) (p : Nat) :
    (s.lockShown p).flag CLK_PLL_STAT_LOCKED p = true ∧
      (∀ b, (s.pll p).trying = some b → (s.lockShown p).get CLK_PLL_STAT_BAND p = b % 16) ∧ Confined (· = pllStatWord p) s (s.lockShown p) ∧
      s.lockShown p = { s with regs := (s.lockShown p).regs, pllA := (s.lockShown p).pllA, pllB := (s.lockShown p).pllB } := by
  have h1 := regsWf_set h CLK_PLL_STAT_LOCKED 1 p 0
  have hlock : (s.set CLK_PLL_STAT_LOCKED 1 p).flag CLK_PLL_STAT_LOCKED p = true := State.flag_set_one h _ _ _ (by decide) rfl
  have hconf : Confined (· = pllStatWord p) s (s.set CLK_PLL_STAT_LOCKED 1 p) := .set (.refl h) rfl
  cases htry : (s.pll p).trying with
  | none =>
    rw [State.lockShown_noBand htry]
    exact ⟨(congrArg (· != 0) (State.get_congr (State.setPll_regs ..) ..)).trans hlock, nofun, hconf.setPll, regsOnly_setPll rfl ..⟩
  | some b =>
    rw [State.lockShown_band htry]
    refine ⟨?_, fun b' hb => ?_, .setPll (.set hconf rfl), regsOnly_setPll rfl ..⟩
    · rw [State.flag_eq, State.get_congr (State.setPll_regs ..), State.get_set_other h1 _ _ _ _ _ _ _ (by decide) (.inr (by decide)), ← State.flag_eq]
      exact hlock
    · rw [State.get_congr (State.setPll_regs ..), State.get_set_same h1 _ _ _ _ (by decide), Option.some.inj hb]
      rfl

/-- The heartbeat is back: the outputs follow their commands again, and the rest stands. -/
theorem State.heartbeatBack_shows (h : regsWf s) :
    Confined (fun a => ∃ o < 64, a = coilWord o) s s.heartbeatBack ∧ s.heartbeatBack.pwr = { s.pwr with heartbeat := true } ∧
      s.heartbeatBack.mem = s.mem := by
  have honly := State.applyCoils_coilsOnly { s with pwr := { s.pwr with heartbeat := true }, ctc := { s.ctc with lossPulse := [] } }
  exact ⟨Confined.applyCoils ((Confined.refl h).keep rfl rfl rfl) fun o ho => ⟨o, ho, rfl⟩, (congrArg State.pwr honly).trans rfl,
    (congrArg State.mem honly).trans rfl⟩

/-- What WAKE leaves with (R57, R76). -/
theorem State.wakeDone_shows (h : regsWf s) :
    s.wakeDone.pstate = LOAD ∧ s.wakeDone.en .clk = true ∧ s.wakeDone.en .host = true ∧ s.wakeDone.en .seal = true ∧
      s.wakeDone.get BOOT_STAT_PHASE = 0 ∧ Confined (· ∈ [0x010000, 0x170000, 0x190000, 0x000200, 0x020100]) s s.wakeDone := by
  have h1 := regsWf_set h (CTRL_EN .clk) 1 0 0
  have h2 := regsWf_set h1 (CTRL_EN .host) 1 0 0
  have h3 := regsWf_set h2 (CTRL_EN .seal) 1 0 0
  have h4 := regsWf_set h3 SYS_PWR_STATE_STATE LOAD 0 0
  have hphase : Confined (· = 0x020100) _ s.wakeDone := .set (f := BOOT_STAT_PHASE) (v := 0) (.refl h4) rfl
  have hstate : Confined (· ∈ [0x020100, 0x000200]) _ s.wakeDone := .set (f := BOOT_STAT_PHASE) (v := 0) (.set (f := SYS_PWR_STATE_STATE) (v := LOAD) (.refl h3) (by decide)) (by decide)
  have hseal : Confined (· ∈ [0x020100, 0x000200, 0x190000]) _ s.wakeDone := .set (f := BOOT_STAT_PHASE) (v := 0)
    (.set (f := SYS_PWR_STATE_STATE) (v := LOAD) (.set (f := CTRL_EN .seal) (v := 1) (.refl h2) (by decide)) (by decide)) (by decide)
  have hhost : Confined (· ∈ [0x020100, 0x000200, 0x190000, 0x170000]) _ s.wakeDone := .set (f := BOOT_STAT_PHASE) (v := 0)
    (.set (f := SYS_PWR_STATE_STATE) (v := LOAD) (.set (f := CTRL_EN .seal) (v := 1) (.set (f := CTRL_EN .host) (v := 1) (.refl h1) (by decide)) (by decide)) (by decide)) (by decide)
  refine ⟨(hphase.get SYS_PWR_STATE_STATE 0 0 (by decide)).trans (State.get_set_same h3 _ _ _ _ (by decide)),
    (hhost.flag (CTRL_EN .clk) 0 0 (by decide)).trans (State.flag_set_one h _ _ _ (by decide) rfl),
    (hseal.flag (CTRL_EN .host) 0 0 (by decide)).trans (State.flag_set_one h1 _ _ _ (by decide) rfl),
    (hstate.flag (CTRL_EN .seal) 0 0 (by decide)).trans (State.flag_set_one h2 _ _ _ (by decide) rfl),
    State.get_set_same h4 BOOT_STAT_PHASE 0 0 0 (by decide),
    .set (.set (.foldl (.refl h) fun u b hb hu => hu.set ?_) (by decide)) (by decide)⟩
  revert b
  decide

section
variable (hup : s.pwr.coreUp = true) (hawake : s.pwr.dormant = false)
include hup hawake

theorem opPllLock_second (hpwr : s.flag CLK_PLL_CTRL_PWR 1 = true) (hlock : s.flag CLK_PLL_STAT_LOCKED 1 = false) : opPllLock 1 s = s.lockShown 1 := by
  unfold opPllLock
  rw [if_neg (by simp [hup, hawake, hpwr, hlock])]
  rfl

theorem opPllLock_wake (h : regsWf s) (hpwr : s.flag CLK_PLL_CTRL_PWR 0 = true) (hlock : s.flag CLK_PLL_STAT_LOCKED 0 = false) (hstate : s.pstate = WAKE) :
    opPllLock 0 s = (s.lockShown 0).heartbeatBack.wakeDone := by
  obtain ⟨-, -, hshown, -⟩ := State.lockShown_shows h 0
  have hback := (State.heartbeatBack_shows hshown.wf).1
  have hwake : (s.lockShown 0).heartbeatBack.pstate = WAKE := by
    rw [State.pstate, hback.get SYS_PWR_STATE_STATE 0 0 (fun ⟨o, _, ho⟩ => by revert ho; show ¬ 512 = 0x14000C + 0x100 * o; omega),
      hshown.get SYS_PWR_STATE_STATE 0 0 (by decide)]
    exact hstate
  unfold opPllLock
  rw [if_neg (by simp [hup, hawake, hpwr, hlock])]
  exact if_pos hwake

end

end Sys2Proof.Machine
end

section
/-! CERTIFICATE. PLL settings, bands and locks (R57, R62 to R70, R76), settled. -/

namespace Sys2Proof.Machine

open Sys2Proof.Safety

/-- Settles O19: a write that is admitted stores its fields and makes an attempt with the first band of the table, a lock is shown in the PLL's status word, and PLL_A's in WAKE enables the three blocks and begins LOAD. That a lock is taken with no band under trial, and what PWR = 0 does, are the model's choices (log entry 78). -/
theorem pllsAreSetAndTried : Obligations.PllsAreSetAndTried := by
  unfold Obligations.PllsAreSetAndTried
  have hctrl : ∀ p, ¬ pllCtrlWord p = pllStatWord p := fun p => by unfold pllCtrlWord pllStatWord; omega
  refine ⟨fun s p v b hwf hup hclient hgood hpwr hfirst hbeat => ?write, fun s p v hwf hup hclient => ?locked,
    fun s p b hwf hup hclient hgood hpwr hfirst hbeat => ?reacq, fun s p b v hwf hup hclient hgood hpwr => ?band,
    fun s p hwf hup hlock => ?lolClear, fun s b hwf hup hawake hpwr hlock htry => ?lockB, fun s hwf hup hawake hpwr hlock hstate => ?lockA,
    fun s p b c hup htry hacq hnext => ?timeout⟩
  case write =>
    obtain ⟨hfb, hpost, hon, hconf⟩ := s.storePll_shows hwf p.val v.toNat
    obtain ⟨hunlocked, hcount, hattempt⟩ := State.attempt_shows hconf.wf p.val ⟨true, false, some b⟩
    have hhead : ((s.storePll p.val v.toNat).bands p.val).head? = some b := by rw [hfirst]; rfl
    refine ⟨_, congrArg Host.Outcome.next ((State.live_up hup _).trans (opPllCtrl_tries hwf hclient hgood hpwr hhead hbeat)),
      (hattempt.get CLK_PLL_CTRL_FBDIV p.val 0 (hctrl _)).trans hfb, (hattempt.get CLK_PLL_CTRL_POSTDIV p.val 0 (hctrl _)).trans hpost, ?_, hunlocked,
      State.setPll_pll .., hcount.trans (congrArg (satInc 0xFF) (hconf.get CLK_PLL_STAT_ACQ_CNT p.val 0 (Ne.symm (hctrl _)))),
      regsOnly_setPll rfl .., fun adr hadr => ?_⟩
    · exact congrArg (· != 0) (((hattempt.get CLK_PLL_CTRL_PWR p.val 0 (hctrl _)).trans hon).trans hpwr)
    · simp only [List.mem_cons, List.not_mem_nil, or_false, not_or] at hadr
      exact (hattempt.word adr hadr.2).trans (hconf.word adr hadr.1)
  case locked =>
    obtain ⟨hreason, hunit, hoffset, honly, hword⟩ := State.refuse_shows hwf .clk 0x0104 (p.val + 1) 0x00
    exact ⟨_, congrArg Host.Outcome.next ((State.live_up hup _).trans (opPllCtrl_locked hclient)), hreason,
      hunit.trans (Nat.mod_eq_of_lt (by omega)), hoffset, honly, hword⟩
  case reacq =>
    have hfield : ∀ f : Fld, f.addr p.val 0 = pllCtrlWord p.val → (f.lo + f.w ≤ 12 ∨ 13 ≤ f.lo) →
        bitsOf ((s.word (pllCtrlWord p.val)).toNat ||| 0x1000) f.lo f.w = s.get f p.val := fun f hf hlo => by
      rw [bitsOf_or_reacq _ hlo, State.get, hf]
    have hfb := hfield CLK_PLL_CTRL_FBDIV rfl (by decide)
    have hpost := hfield CLK_PLL_CTRL_POSTDIV rfl (by decide)
    have hon := hfield CLK_PLL_CTRL_PWR rfl (by decide)
    have hheld := State.storePll_held hwf hfb hpost hon
    have hhead : ((s.storePll p.val ((s.word (pllCtrlWord p.val)).toNat ||| 0x1000)).bands p.val).head? = some b := by
      rw [State.bands_congr hheld id fun _ _ => id, hfirst]
      rfl
    have hone : s.get CLK_PLL_CTRL_PWR p.val = 1 := by
      have hlt := s.get_lt CLK_PLL_CTRL_PWR p.val 0
      have hne : s.get CLK_PLL_CTRL_PWR p.val ≠ 0 := by simpa [State.flag_eq] using hpwr
      exact Nat.le_antisymm (Nat.lt_succ_iff.1 hlt) (Nat.one_le_iff_ne_zero.2 hne)
    have hgood' : pllBad p.val (bitsOf ((s.word (pllCtrlWord p.val)).toNat ||| 0x1000) 0 8) (bitsOf ((s.word (pllCtrlWord p.val)).toNat ||| 0x1000) 8 4) = none := by
      rw [← hgood, ← hfb, ← hpost]
      rfl
    obtain ⟨hunlocked, -, hattempt⟩ := State.attempt_shows hheld.wf p.val ⟨true, false, some b⟩
    exact ⟨_, congrArg Host.Outcome.next ((State.live_up hup _).trans (opPllCtrl_tries hwf hclient hgood' (hon.trans hone) hhead hbeat)),
      (hattempt.word _ (hctrl _)).trans (hheld.word _ id), hunlocked, State.setPll_pll .., regsOnly_setPll rfl ..,
      fun adr hadr => (hattempt.word adr (by simpa using hadr)).trans (hheld.word adr id)⟩
  case band =>
    have hstored : Confined (· = 0x010140 + 0x100 * p.val + 4 * b.val) s (s.storeBand p.val b.val v.toNat) := .putWord (.refl hwf) rfl
    have hlocked : Confined (· = pllStatWord p.val) (s.storeBand p.val b.val v.toNat) ((s.storeBand p.val b.val v.toNat).set CLK_PLL_STAT_LOCKED 0 p.val) :=
      .set (.refl hstored.wf) rfl
    have hoff : (s.storeBand p.val b.val v.toNat).flag CLK_PLL_CTRL_PWR p.val = false :=
      (hstored.flag CLK_PLL_CTRL_PWR p.val 0 (show ¬ pllCtrlWord p.val = _ by unfold pllCtrlWord; omega)).trans hpwr
    have hset := hlocked.setPll (p := p.val) (x := ⟨false, false, none⟩)
    refine ⟨_, congrArg Host.Outcome.next ((State.live_up hup _).trans ((opPllBand_accepted hclient hgood).trans (State.restart_unpowered hoff))), ?_, ?_,
      State.setPll_pll .., regsOnly_setPll rfl .., fun adr hadr => ?_⟩
    · rw [hset.word _ (by unfold pllStatWord; omega)]
      refine (State.word_putWord_same hwf (CLK_PLL_BAND_FMIN.addr p.val b.val) _).trans ?_
      rw [BitVec.ofNat_toNat, BitVec.setWidth_eq]
    · exact (congrArg (· != 0) (State.get_congr (State.setPll_regs ..) ..)).trans (State.flag_set_zero hstored.wf CLK_PLL_STAT_LOCKED p.val 0 (by decide))
    · simp only [List.mem_cons, List.not_mem_nil, or_false, not_or] at hadr
      exact (hset.word adr hadr.2).trans (hstored.word adr hadr.1)
  case lolClear =>
    refine ⟨_, congrArg Host.Outcome.next ((State.live_up hup _).trans (opLolClear_locked hlock)), State.flag_set_zero hwf _ _ _ (by decide), ?_,
      State.get_set_other hwf _ _ _ _ _ _ _ (by decide) (.inr (by decide)), rfl, fun adr hadr => State.word_set_other hwf _ _ _ _ (List.ne_of_not_mem_cons hadr)⟩
    exact (congrArg (· != 0) (State.get_set_other hwf CLK_PLL_STAT_LOL CLK_PLL_STAT_LOCKED 0 p.val 0 p.val 0 (by decide) (.inr (by decide)))).trans hlock
  case lockB =>
    obtain ⟨hlocked, hband, hconf, hframe⟩ := State.lockShown_shows hwf 1
    have hA : (s.lockShown 1).pllA = s.pllA := (congrArg (fun u : State => u.pllA) (State.lockShown_band (p := 1) htry)).trans rfl
    refine ⟨_, congrArg Host.Outcome.next ((State.live_up hup _).trans (opPllLock_second hup hawake hpwr hlock)), hlocked, hband b htry,
      State.setPll_pll _ 1 _, hframe.trans (by rw [hA]), fun adr hadr => hconf.word adr (by simpa using hadr)⟩
  case lockA =>
    obtain ⟨hlocked, -, hshown, hframe⟩ := State.lockShown_shows hwf 0
    obtain ⟨hback, hpwr', hmem⟩ := State.heartbeatBack_shows hshown.wf
    obtain ⟨hload, hclk, hhost, hseal, hphase, hdone⟩ := State.wakeDone_shows hback.wf
    refine ⟨_, congrArg Host.Outcome.next ((State.live_up hup _).trans (opPllLock_wake hup hawake hwf hpwr hlock hstate)), ?_, hload, hclk, hhost, hseal, hphase,
      congrArg PowerState.heartbeat hpwr', hmem.trans ((congrArg State.mem hframe).trans rfl)⟩
    have hcoil : ¬ ∃ o < 64, CLK_PLL_STAT_LOCKED.addr 0 0 = coilWord o := fun ⟨o, _, ho⟩ => by
      revert ho
      show ¬ 0x010104 = 0x14000C + 0x100 * o
      omega
    exact ((hdone.flag CLK_PLL_STAT_LOCKED 0 0 (by decide)).trans (hback.flag CLK_PLL_STAT_LOCKED 0 0 hcoil)).trans hlocked
  case timeout =>
    refine ⟨_, congrArg Host.Outcome.next ((State.live_up hup _).trans ?_), rfl, State.setPll_pll ..⟩
    unfold opPllBandTimeout
    simp only [htry, hacq, hnext]
    rfl

end Sys2Proof.Machine
end

section
/-! SUPPORT. The entry to SAFE (R57, R233, R300, R325): where it writes, what it shows, and what of the state stands. -/

namespace Sys2Proof.Machine

open Sys2Proof.Safety

variable {W : Nat → Prop} {s t u : State}

/-! Registers. -/

theorem Confined.busTo {b st : Nat} (h : Confined W s t) (hb : W (0x0A001C + 0x100 * b)) : Confined W s (t.busTo b st) := by
  unfold State.busTo
  extract_lets was bus s1 keep
  have h1 : Confined W s s1 := .keep (h.set (f := OUT_BSTAT_STATE) (u := b) (i := 0) hb) rfl rfl rfl
  exact .ite (h1.keep rfl rfl rfl) (.ite (h1.keep rfl rfl rfl) h1)

theorem Confined.axisDrop {n : Nat} (h : Confined W s t) (hW : ∀ a ∈ Safety.axisRegs n, W a) : Confined W s (t.axisDrop n) := .ite (h.axisTo hW) h

theorem Confined.preCoils (h : Confined W s t) (hW : ∀ o < 64, W (coilWord o)) : Confined W s t.preCoilsOff := by
  unfold State.preCoilsOff
  extract_lets s1
  have h1 : Confined W s s1 := .ite (h.coilCmd hW (State.get_lt LAW_PRE_FEED_CTC 0 0)) h
  exact .ite (h1.coilCmd hW (State.get_lt LAW_PRE_STORE_CTC 0 0)) h1

/-- The registers of FORM, LAW, OUT, AXIS and GDRV, and of the coils: what stops at the entry to SAFE. -/
abbrev stopRegs (a : Nat) : Prop := (0x080000 ≤ a ∧ a < 0x120000) ∨ (0x140000 ≤ a ∧ a < 0x150000)

theorem coilWord_stops : ∀ o < 64, stopRegs (coilWord o) := fun o ho => .inr (by unfold coilWord; omega)

theorem axisRegs_stop {n : Nat} (hn : n < 4) : ∀ a ∈ Safety.axisRegs n, stopRegs a := by decide +revert

/-- SAFE with its cause, the close pulse withdrawn: the rest of the entry stops FORM, LAW, OUT and the drives. -/
def State.safeNamed (s : State) (cause : Nat) : State := (s.withdrawClose.set SYS_PWR_STATE_STATE SAFE).set SYS_PWR_STATE_SAFE_CAUSE cause

/-- FORM, LAW and their drives rest. -/
def State.formStopped (s : State) : State :=
  ((((((((s.set FORM_MODE_STAT_PHASE 0).set FORM_MODE_STAT_CLOSE_OK 0).set FORM_MODE_STAT_LIMITING 0).set FORM_MODE_STAT_MODE SAFE).set FORM_MODE_STAT_ISLANDED 0).set
    FORM_DRV_DRV 0).set FORM_DXV_DXV 0).set LAW_DZ_DZ 0).set LAW_PRE_STAT_STEP 0

/-- No competition of LAW is in force, and RIDE ends. -/
def State.lawStopped (s : State) : State := ((s.set LAW_WIN_COMP 0).set LAW_WIN_WINNER 0).clearWins.rideClear

/-- A bus loses its DAB permission and closes no more. -/
def State.busStopped (s : State) (b : Nat) : State :=
  if s.busEn b then
    (s.setBusSt b { s.busSt b with noDab := true }).busTo b (if (s.setBusSt b { s.busSt b with noDab := true }).busClosed b then B_UNAVAILABLE else B_OFF)
  else s

/-- Every bus stops, then every drive. -/
def State.outStopped (s : State) : State := (List.range 4).reverse.foldl State.axisDrop (buses.reverse.foldl State.busStopped s)

/-- What DIE_CTL streams and FORM holds ends. -/
def State.streamsEnded (s : State) : State := { s with hive := { s.hive with frames := [] }, form := { s.form with holds := [] } }

/-- The entry to SAFE as its stages, in their order (R57, R300). -/
theorem State.enterSafe_stages (s : State) (cause : Nat) :
    s.enterSafe cause = (s.safeNamed cause).formStopped.lawStopped.preCoilsOff.outStopped.streamsEnded := by
  unfold State.enterSafe
  extract_lets s1 s2 s3 s4 s5 s6 s7 s8
  have h1 : s1 = s.safeNamed cause := rfl
  have h4 : s4 = s1.formStopped := rfl
  have h5 : s5 = s4.lawStopped := rfl
  have h8 : s8 = s6.outStopped := rfl
  change s8.streamsEnded = _
  clear_value s8 s7 s5 s4 s3 s2 s1
  rw [h8]
  show s5.preCoilsOff.outStopped.streamsEnded = _
  rw [h5, h4, h1]

theorem Confined.formStopped (h : Confined stopRegs s t) : Confined stopRegs s t.formStopped := by
  have hphase := (((h.set (f := FORM_MODE_STAT_PHASE) (v := 0) (u := 0) (i := 0) (by decide)).set (f := FORM_MODE_STAT_CLOSE_OK) (v := 0) (u := 0) (i := 0) (by decide)).set
    (f := FORM_MODE_STAT_LIMITING) (v := 0) (u := 0) (i := 0) (by decide))
  exact .set (.set (.set (.set (.set (.set hphase (by decide)) (by decide)) (by decide)) (by decide)) (by decide)) (by decide)

theorem Confined.clearWins (h : Confined W s t) (hW : ∀ k < 7, W (0x090018 + 0x100 * k)) : Confined W s t.clearWins := by
  unfold State.clearWins
  exact h.foldl fun u k hk hu => hu.set (hW k (List.mem_range.1 hk))

theorem Confined.rideEnded (h : Confined W s t) (hW : W (LAW_RT_STAT_RIDE.addr 0 0)) : Confined W s t.rideClear := by
  unfold State.rideClear
  extract_lets s1
  have h1 : Confined W s s1 := .set (.set h hW) hW
  exact h1.keep rfl rfl rfl

theorem Confined.lawStopped (h : Confined stopRegs s t) : Confined stopRegs s t.lawStopped :=
  .rideEnded (.clearWins (.set (.set h (by decide)) (by decide)) fun k hk => .inl (by omega)) (by decide)

theorem Confined.busStopped {b : Nat} (h : Confined stopRegs s t) (hb : b < 12) : Confined stopRegs s (t.busStopped b) := by
  have hbus : stopRegs (0x0A001C + 0x100 * b) := .inl (by omega)
  have hno : Confined stopRegs s (t.setBusSt b { t.busSt b with noDab := true }) := h.keep rfl rfl rfl
  exact .ite (hno.busTo hbus) h

theorem Confined.outStopped (h : Confined stopRegs s t) : Confined stopRegs s t.outStopped :=
  (h.foldl fun _ _ hb hu => hu.busStopped (List.mem_range.1 (List.mem_reverse.1 hb))).foldl fun _ _ hn hu =>
    hu.axisDrop (axisRegs_stop (List.mem_range.1 (List.mem_reverse.1 hn)))

theorem Confined.streamsEnded (h : Confined W s t) : Confined W s t.streamsEnded := h.keep rfl rfl rfl

theorem State.enterSafe_stops (h : regsWf s) (cause : Nat) : Confined stopRegs (s.safeNamed cause) (s.enterSafe cause) := by
  have hnamed : regsWf (s.safeNamed cause) :=
    regsWf_set (regsWf_set (Confined.withdrawClose (W := fun _ => True) (.refl h) (fun _ _ => trivial) trivial).wf _ _ _ _) _ _ _ _
  rw [State.enterSafe_stages]
  exact ((Confined.formStopped (.refl hnamed)).lawStopped.preCoils coilWord_stops).outStopped.streamsEnded

/-- The device in SAFE with its cause, and the registers that the entry writes. -/
theorem State.enterSafe_shows (h : regsWf s) (cause : Nat) :
    (s.enterSafe cause).pstate = SAFE ∧ (s.enterSafe cause).get SYS_PWR_STATE_SAFE_CAUSE = cause % 16 ∧
      Confined (fun a => a = 0x000200 ∨ stopRegs a) s (s.enterSafe cause) := by
  have h0 : Confined stopRegs s s.withdrawClose := .withdrawClose (.refl h) coilWord_stops (by decide)
  have h1 := regsWf_set h0.wf SYS_PWR_STATE_STATE SAFE 0 0
  have hstops := s.enterSafe_stops h cause
  have hnamed : Confined (fun a => a = 0x000200 ∨ stopRegs a) s (s.safeNamed cause) :=
    .set (.set (h0.mono fun _ ha => .inr ha) (.inl rfl)) (.inl rfl)
  refine ⟨(hstops.get SYS_PWR_STATE_STATE 0 0 (by decide)).trans ?_,
    (hstops.get SYS_PWR_STATE_SAFE_CAUSE 0 0 (by decide)).trans (State.get_set_same h1 _ _ _ _ (by decide)), hnamed.trans (hstops.mono fun _ ha => .inr ha)⟩
  exact (State.get_set_other h1 SYS_PWR_STATE_SAFE_CAUSE SYS_PWR_STATE_STATE cause 0 0 0 0 (by decide) (.inr (by decide))).trans
    (State.get_set_same h0.wf _ _ _ _ (by decide))

/-! The other parts of the state. -/

/-- The state without what the entry to SAFE may change. -/
def State.safeErased (s : State) : State :=
  { s with regs := [], ctc := State.reset.ctc, law := State.reset.law, out := State.reset.out, hive := State.reset.hive, form := State.reset.form,
           safe := { s.safe with ilkPos := [] } }

theorem CoilsOnly.safeErased (h : CoilsOnly s t) : t.safeErased = s.safeErased := (congrArg State.safeErased h).trans rfl

theorem State.ite_safeErased {c : Prop} [Decidable c] {a b : State} (ha : a.safeErased = s.safeErased) (hb : b.safeErased = s.safeErased) :
    (if c then a else b).safeErased = s.safeErased := by
  split
  · exact ha
  · exact hb

theorem State.foldl_safeErased {α : Type} {f : State → α → State} (hf : ∀ u x, (f u x).safeErased = u.safeErased) (l : List α) (s : State) :
    (l.foldl f s).safeErased = s.safeErased :=
  List.foldlRecOn (motive := fun u : State => u.safeErased = s.safeErased) l f rfl fun u hu x _ => (hf u x).trans hu

theorem State.withdrawClose_safeErased (s : State) : s.withdrawClose.safeErased = s.safeErased :=
  State.ite_safeErased (s.coilCmd_coilsOnly ..).safeErased rfl

theorem State.busTo_safeErased (s : State) (b st : Nat) : (s.busTo b st).safeErased = s.safeErased := State.ite_safeErased rfl (State.ite_safeErased rfl rfl)

theorem State.set_safeErased (s : State) (f : Fld) (v u i : Nat) : (s.set f v u i).safeErased = s.safeErased := (rfl)

theorem State.axisDrop_safeErased (s : State) (n : Nat) : (s.axisDrop n).safeErased = s.safeErased :=
  State.ite_safeErased ((congrArg State.safeErased (State.phasesOff_regsOnly (s.set AXIS_STAT_STATE AX_IDLE n) n)).trans rfl) rfl

theorem State.preCoilsOff_safeErased (s : State) : s.preCoilsOff.safeErased = s.safeErased := by
  unfold State.preCoilsOff
  extract_lets s1
  have h1 : s1.safeErased = s.safeErased := State.ite_safeErased (s.coilCmd_coilsOnly ..).safeErased rfl
  exact State.ite_safeErased ((s1.coilCmd_coilsOnly ..).safeErased.trans h1) h1

theorem State.safeNamed_safeErased (s : State) (cause : Nat) : (s.safeNamed cause).safeErased = s.safeErased := s.withdrawClose_safeErased

theorem State.formStopped_safeErased (s : State) : s.formStopped.safeErased = s.safeErased := by
  unfold State.formStopped
  simp only [State.set_safeErased]

theorem State.clearWins_safeErased (s : State) : s.clearWins.safeErased = s.safeErased := by
  unfold State.clearWins
  exact State.foldl_safeErased (fun u k => u.set_safeErased LAW_SSTAT_WIN 0 k 0) _ s

theorem State.rideClear_safeErased (s : State) : s.rideClear.safeErased = s.safeErased := by
  unfold State.rideClear
  rfl

theorem State.lawStopped_safeErased (s : State) : s.lawStopped.safeErased = s.safeErased := by
  unfold State.lawStopped
  rw [State.rideClear_safeErased, State.clearWins_safeErased, State.set_safeErased, State.set_safeErased]

theorem State.busStopped_safeErased (s : State) (b : Nat) : (s.busStopped b).safeErased = s.safeErased :=
  State.ite_safeErased (State.busTo_safeErased ..) rfl

theorem State.outStopped_safeErased (s : State) : s.outStopped.safeErased = s.safeErased :=
  (State.foldl_safeErased State.axisDrop_safeErased _ _).trans (State.foldl_safeErased State.busStopped_safeErased _ s)

theorem State.streamsEnded_safeErased (s : State) : s.streamsEnded.safeErased = s.safeErased := (rfl)

theorem State.enterSafe_safeErased (s : State) (cause : Nat) : (s.enterSafe cause).safeErased = s.safeErased := by
  rw [State.enterSafe_stages]
  rw [State.streamsEnded_safeErased, State.outStopped_safeErased, State.preCoilsOff_safeErased, State.lawStopped_safeErased, State.formStopped_safeErased,
    State.safeNamed_safeErased]

/-- The entry to SAFE leaves memory, the always-on domain's record and what SGR waits for. -/
theorem State.enterSafe_leaves (s : State) (cause : Nat) :
    (s.enterSafe cause).mem = s.mem ∧ (s.enterSafe cause).pwr = s.pwr ∧ (s.enterSafe cause).safe.sgrSlots = s.safe.sgrSlots := by
  have h := s.enterSafe_safeErased cause
  generalize s.enterSafe cause = t at h ⊢
  injection h with _ hmem _ _ _ _ hpwr _ _ _ _ _ _ _ _ _ hsafe
  injection hsafe with hslots
  exact ⟨hmem, hpwr, by assumption⟩

end Sys2Proof.Machine
end

section
/-! SUPPORT. The ends of SGR, SOD and SDS (R465 to R468): what each leaves, and the coil of a bus that SOD forces off. -/

namespace Sys2Proof.Machine

open Sys2Proof.Safety

variable {W : Nat → Prop} {s t u : State} {n o : Nat}

/-! SGR (R465). -/

/-- SGR_DONE, with nothing waited for any more. -/
def State.sgrEnded (s : State) : State :=
  { s.set SAFE_FSTAT_SGR_DONE 1 with safe := { s.safe with sgrSlots := [] }, pwr := { s.pwr with enterSafe := false } }

theorem State.sgrEnded_confined (h : regsWf s) : Confined (· = 0x131110) s s.sgrEnded := .keep (.set (.refl h) rfl) rfl rfl rfl

theorem State.sgrEnded_pstate (h : regsWf s) : s.sgrEnded.pstate = s.pstate := (State.sgrEnded_confined h).get SYS_PWR_STATE_STATE 0 0 (by decide)

theorem State.sgrEnded_shows (h : regsWf s) : s.sgrEnded.flag SAFE_FSTAT_SGR_DONE = true ∧ s.sgrEnded.sgrActive = s.sgrActive :=
  ⟨State.flag_set_one h _ _ _ (by decide) rfl,
    congrArg (· != 0) (State.get_set_other h SAFE_FSTAT_SGR_DONE SAFE_FSTAT_SGR_ACTIVE 1 0 0 0 0 (by decide) (.inr (by decide)))⟩

theorem State.sgrFinish_eq (s : State) : s.sgrFinish =
    if s.sgrEnded.pstate = SAFE then s.sgrEnded
    else if s.sgrEnded.pstate < READY then { s.sgrEnded with pwr := { s.sgrEnded.pwr with safeDue := true } }
    else s.sgrEnded.enterSafe (if s.pwr.enterSafe then 5 else 3) := (rfl)

/-- From READY on the device enters SAFE (R57). -/
theorem State.sgrFinish_running (h : regsWf s) (hready : READY ≤ s.pstate) (hsafe : s.pstate ≠ SAFE) :
    s.sgrFinish.flag SAFE_FSTAT_SGR_DONE = true ∧ s.sgrFinish.safe.sgrSlots = [] ∧ s.sgrFinish.pwr.enterSafe = false ∧ s.sgrFinish.pstate = SAFE ∧
      s.sgrFinish.get SYS_PWR_STATE_SAFE_CAUSE = (if s.pwr.enterSafe then 5 else 3) ∧ s.sgrFinish.sgrActive = s.sgrActive ∧
      Confined (fun a => a = 0x131110 ∨ a = 0x000200 ∨ stopRegs a) s s.sgrFinish := by
  have hended := State.sgrEnded_confined h
  obtain ⟨hdone, hactive⟩ := State.sgrEnded_shows h
  rw [State.sgrFinish_eq, State.sgrEnded_pstate h, if_neg hsafe, if_neg (Nat.not_lt.2 hready)]
  obtain ⟨hpstate, hcause, hconf⟩ := State.enterSafe_shows hended.wf (if s.pwr.enterSafe then 5 else 3)
  obtain ⟨-, hpwr, hslots⟩ := s.sgrEnded.enterSafe_leaves (if s.pwr.enterSafe then 5 else 3)
  refine ⟨(hconf.flag SAFE_FSTAT_SGR_DONE 0 0 (by decide)).trans hdone, hslots, congrArg PowerState.enterSafe hpwr, hpstate, hcause.trans ?_,
    (hconf.flag SAFE_FSTAT_SGR_ACTIVE 0 0 (by decide)).trans hactive, (hended.mono fun _ ha => .inl ha).trans (hconf.mono fun _ ha => .inr ha)⟩
  split <;> rfl

/-- Before READY SAFE waits for READY (log entry 23). -/
theorem State.sgrFinish_early (h : regsWf s) (hready : s.pstate < READY) :
    s.sgrFinish = { s.sgrEnded with pwr := { s.sgrEnded.pwr with safeDue := true } } := by
  have hsafe : s.pstate ≠ SAFE := fun e => by
    rw [e] at hready
    exact absurd hready (by decide)
  rw [State.sgrFinish_eq, State.sgrEnded_pstate h, if_neg hsafe, if_pos hready]

/-- The state with the confirmed slots taken off the list. -/
def State.sgrPolled (s : State) : State := { s with safe := { s.safe with sgrSlots := s.safe.sgrSlots.filter (fun i => !s.sgrConfirmed i) } }

theorem opSgrComplete_eq (hactive : s.sgrActive = true) :
    opSgrComplete s = if !s.flag SAFE_FSTAT_SGR_DONE && s.sgrPolled.safe.sgrSlots.isEmpty then s.sgrPolled.sgrFinish else s.sgrPolled := by
  have hpoll : s.sgrPoll = s.sgrPolled := if_pos hactive
  have hstill : s.sgrPolled.sgrActive = true := hactive
  unfold opSgrComplete
  rw [hpoll]
  dsimp only
  rw [hstill, Bool.true_and]
  rfl

theorem State.sgrPolled_empty : s.sgrPolled.safe.sgrSlots.isEmpty = s.safe.sgrSlots.all (fun i => s.sgrConfirmed i) := by
  show (s.safe.sgrSlots.filter (fun i => !s.sgrConfirmed i)).isEmpty = _
  induction s.safe.sgrSlots with
  | nil => rfl
  | cons i is ih => cases hi : s.sgrConfirmed i <;> simp [hi, ih]

/-! SOD (R466, R467). -/

theorem State.busSt_setBusSt {b : Nat} (hb : b < s.out.buses.length) (x : BusSt) : (s.setBusSt b x).busSt b = x := by
  simp [State.busSt, State.setBusSt, hb]

/-- The forcings of the outputs. -/
def State.forcings (s : State) : List Nat × List (Nat × Nat) := (s.ctc.sgrForced, s.ctc.sodForced)

theorem State.forcedOff_congr (h : t.forcings = s.forcings) (o : Nat) : t.forcedOff o = s.forcedOff o := by
  obtain ⟨hsgr, hsod⟩ := Prod.mk.inj h
  simp only [State.forcedOff, hsgr, hsod]

theorem State.settleFb_forcings (s : State) (o : Nat) : (s.settleFb o).forcings = s.forcings := by
  unfold State.settleFb
  split <;> rfl

theorem State.applyCoil1_forcings (s : State) (o : Nat) : (s.applyCoil1 o).forcings = s.forcings := by
  have hsettle := State.settleFb_forcings
  unfold State.applyCoil1
  extract_lets s1 on s2 s3
  have h2 : s2.forcings = s.forcings := rfl
  have h3 : s3.forcings = s.forcings := by
    unfold s3
    split
    · rfl
    · exact h2
  split
  · split <;> rfl
  · split
    · rfl
    · split
      · exact (hsettle ..).trans h3
      · exact h3

/-- An output forced off is not wanted on. -/
theorem State.coilWants_forced (h : s.forcedOff o = true) : s.coilWants o = false := by simp [State.coilWants, h]

theorem State.settleFb_energised (h : regsWf s) (o : Nat) : (s.settleFb o).flag CTC_OSTAT_ENERGISED o = s.flag CTC_OSTAT_ENERGISED o := by
  unfold State.settleFb
  split
  · refine congrArg (· != 0) ((State.get_congr rfl ..).trans ?_)
    exact (State.get_set_other (regsWf_set h _ _ _ _) CTC_OSTAT_WELDED CTC_OSTAT_ENERGISED 0 o 0 o 0 (by decide) (.inr (.inl (by decide)))).trans
      (State.get_set_other h CTC_OSTAT_STUCK CTC_OSTAT_ENERGISED 0 o 0 o 0 (by decide) (.inr (.inl (by decide))))
  · rfl

/-- An output forced off goes off (R473). -/
theorem State.applyCoil1_forced (h : regsWf s) (hbeat : s.pwr.heartbeat = true) (hoff : s.forcedOff o = true) :
    (s.applyCoil1 o).flag CTC_OSTAT_ENERGISED o = false := by
  unfold State.applyCoil1
  extract_lets s1 on s2 s3
  have hon : on = false := State.coilWants_forced hoff
  have hwf1 : regsWf s1 := regsWf_set h _ _ _ _
  rw [if_neg (by rw [show s1.pwr.heartbeat = true from hbeat]; decide), hon]
  have h3 : s3 = s1.setb CTC_OSTAT_ENERGISED false o := by
    unfold s3 s2
    rw [hon]
    rfl
  have hoff3 : s3.flag CTC_OSTAT_ENERGISED o = false := h3 ▸ State.flag_set_zero hwf1 _ _ _ (by decide)
  have hwf3 : regsWf s3 := h3 ▸ regsWf_set hwf1 _ _ _ _
  split
  · next hsame => exact (beq_iff_eq.1 hsame).symm
  · split
    · exact (State.settleFb_energised (s := { s3 with ctc := { s3.ctc with transit := setPresent s3.ctc.transit o true } }) hwf3 o).trans hoff3
    · exact hoff3

theorem coilWord_inj {m k : Nat} (h : coilWord m = coilWord k) : m = k := by
  unfold coilWord at h
  omega

/-- An output forced off is off once the outputs have been brought to what they should do. -/
theorem State.applied_forced (l : List Nat) (h : regsWf s) (hbeat : s.pwr.heartbeat = true) (hoff : s.forcedOff o = true)
    (ho : o ∈ l ∨ s.flag CTC_OSTAT_ENERGISED o = false) : (l.foldl State.applyCoil1 s).flag CTC_OSTAT_ENERGISED o = false := by
  induction l generalizing s with
  | nil => exact ho.resolve_left List.not_mem_nil
  | cons x xs ih =>
    have hone : Confined (· = coilWord x) s (s.applyCoil1 x) := .applyCoil1 (.refl h) rfl
    refine ih hone.wf ((congrArg (fun u : State => u.pwr.heartbeat) (s.applyCoil1_coilsOnly x)).trans hbeat)
      ((State.forcedOff_congr (s.applyCoil1_forcings x) o).trans hoff) ?_
    by_cases hx : o = x
    · exact .inr (hx ▸ State.applyCoil1_forced h hbeat (hx ▸ hoff))
    · rcases ho with hmem | hidle
      · exact .inl ((List.mem_cons.1 hmem).resolve_left hx)
      · exact .inr ((hone.flag CTC_OSTAT_ENERGISED o 0 fun e => hx (coilWord_inj e)).trans hidle)

theorem State.applyCoils_forced (h : regsWf s) (hbeat : s.pwr.heartbeat = true) (hoff : s.forcedOff o = true) (ho : o < 40) :
    s.applyCoils.flag CTC_OSTAT_ENERGISED o = false := by
  refine State.applied_forced _ h hbeat hoff (.inl ?_)
  have hmem : o ∈ coils := List.mem_range.2 ho
  cases hfollow : s.flag CTC_OCFG_FOLLOW_EN o <;> simp [hmem, hfollow]

end Sys2Proof.Machine
end

section
/-! SUPPORT. SDS ends in STR (R468): what the axis and SAFE show then. -/

namespace Sys2Proof.Machine

open Sys2Proof.Safety

variable {s t : State} {n : Nat}

/-- STR as it has started on an axis: SDS over, the gates off, and what a violation shows as it was. -/
structure StrStarted (n : Nat) (s t : State) : Prop where
  str : t.strActive n = true
  sds : t.sdsActive n = false
  func : t.get SAFE_AXSTAT_FUNC n = 2
  viol : t.flag SAFE_AXSTAT_VIOL n = s.flag SAFE_AXSTAT_VIOL n
  inhibited : driving s n = true → t.get AXIS_STAT_STATE n = AX_INHIBITED
  gates : gatesOff t n = true
  status : ∀ k, t.get ⟨ctrlAddr .safe 0x04, 0, 0, k, 1⟩ = s.get ⟨ctrlAddr .safe 0x04, 0, 0, k, 1⟩
  only : RegsOnly s t
  confined : Confined (· ∈ inhibitRegs) s t

theorem State.strStart_started (h : regsWf s) (hn : n < 4) (hstr : s.strActive n = false) : StrStarted n s (s.strStart n) := by
  obtain ⟨-, hax, -, -, -⟩ := strRegs_spare hn
  have hnoted := State.strNoted_confined h n
  obtain ⟨hnstr, hnsds, -, -⟩ := State.strNoted_shows h hn
  have hinhibit := (State.inhibitAxis_shows hnoted.wf hn hnstr hnsds).1
  obtain ⟨hs, hd, hf, -, hdrives, hgates, hstatus, honly⟩ := State.strNoted_inhibitAxis_shows h hn
  have hviol : (s.strNoted n).flag SAFE_AXSTAT_VIOL n = s.flag SAFE_AXSTAT_VIOL n := by
    have hfstat : SAFE_AXSTAT_VIOL.addr n 0 ∉ [0x131110] := by
      show 0x130414 + 0x100 * n + 0 * 0 ∉ [0x131110]
      simp only [List.mem_singleton]
      omega
    have hbits : Confined (· ∈ [0x131110]) s ((s.set SAFE_FSTAT_STR (s.get SAFE_FSTAT_STR ||| 1 <<< n)).set SAFE_FSTAT_SDS
        ((s.set SAFE_FSTAT_STR (s.get SAFE_FSTAT_STR ||| 1 <<< n)).get SAFE_FSTAT_SDS &&& (15 - 1 <<< n))) :=
      .set (.set (.refl h) List.mem_cons_self) List.mem_cons_self
    exact (congrArg (· != 0) (State.get_set_other hbits.wf SAFE_AXSTAT_FUNC SAFE_AXSTAT_VIOL 2 n 0 n 0 (by decide) (.inr (.inr (by decide))))).trans
      (hbits.flag _ _ _ hfstat)
  rw [State.strStart_eq hstr]
  exact ⟨hs, hd, hf, (hinhibit.flag SAFE_AXSTAT_VIOL n 0 hax).trans hviol, hdrives, hgates, hstatus, honly,
    .inhibitAxis (hnoted.mono fun a ha => strNotedRegs_subset hn a ha) (fun _ ha => ha) hn⟩

/-- A violation of SDS: VIOL and its event. -/
def State.sdsViolated (s : State) (n : Nat) : State := (s.set SAFE_AXSTAT_VIOL 1 n).raise SRC_SAFE_SDS_VIOL (4 + n)

theorem violRegs_spare (hn : n < 4) : 0x131110 ∉ (0x130414 + 0x100 * n) :: evtRegs .safe SRC_SAFE_SDS_VIOL.s ∧
    AXIS_STAT_STATE.addr n 0 ∉ (0x130414 + 0x100 * n) :: evtRegs .safe SRC_SAFE_SDS_VIOL.s ∧
      SAFE_AXSTAT_VIOL.addr n 0 ∉ evtRegs SRC_SAFE_SDS_VIOL.blk SRC_SAFE_SDS_VIOL.s := by
  decide +revert

theorem State.sdsViolated_shows (h : regsWf s) (hn : n < 4) :
    (s.sdsViolated n).flag SAFE_AXSTAT_VIOL n = true ∧
      (s.sdsViolated n).flag ⟨ctrlAddr .safe 0x04, 0, 0, SRC_SAFE_SDS_VIOL.s, 1⟩ = true ∧
      RegsHold s (s.sdsViolated n) ∧
      Confined (· ∈ (0x130414 + 0x100 * n) :: evtRegs .safe SRC_SAFE_SDS_VIOL.s) s (s.sdsViolated n) := by
  have h1 := regsWf_set h SAFE_AXSTAT_VIOL 1 n 0
  obtain ⟨-, -, hviol⟩ := violRegs_spare hn
  refine ⟨(congrArg (· != 0) (State.get_raise_other h1 _ _ SAFE_AXSTAT_VIOL n 0 hviol)).trans (State.flag_set_one h _ _ _ (by decide) rfl),
    State.raise_event h1 _ _ (by decide), regsHold_of_regsOnly rfl (State.raise_hold _ _ _),
    .raise (.set (.refl h) List.mem_cons_self) fun _ ha => List.mem_cons_of_mem _ ha⟩

/-- A violation passes to STR. -/
theorem State.sdsViolated_strStart (h : regsWf s) (hn : n < 4) (hstr : s.strActive n = false) :
    ((s.sdsViolated n).strStart n).flag SAFE_AXSTAT_VIOL n = true ∧
      ((s.sdsViolated n).strStart n).flag ⟨ctrlAddr .safe 0x04, 0, 0, SRC_SAFE_SDS_VIOL.s, 1⟩ = true ∧
      ((s.sdsViolated n).strStart n).strActive n = true ∧ ((s.sdsViolated n).strStart n).sdsActive n = false ∧
      ((s.sdsViolated n).strStart n).get SAFE_AXSTAT_FUNC n = 2 ∧
      (driving s n = true → ((s.sdsViolated n).strStart n).get AXIS_STAT_STATE n = AX_INHIBITED) ∧
      gatesOff ((s.sdsViolated n).strStart n) n = true ∧ RegsHold s ((s.sdsViolated n).strStart n) ∧
      Confined (· ∈ evtRegs .safe SRC_SAFE_SDS_VIOL.s ++ inhibitRegs) s ((s.sdsViolated n).strStart n) := by
  obtain ⟨hfstat, hstate, -⟩ := violRegs_spare hn
  obtain ⟨hviol, hevent, hold, hconf⟩ := State.sdsViolated_shows h hn
  have hdrive : driving (s.sdsViolated n) n = driving s n := by rw [driving, hconf.get AXIS_STAT_STATE n 0 hstate, driving]
  have hstarted := State.strStart_started hconf.wf hn ((congrArg (bitOf · n) (hconf.get SAFE_FSTAT_STR 0 0 hfstat)).trans hstr)
  refine ⟨hstarted.viol.trans hviol, (congrArg (· != 0) (hstarted.status _)).trans hevent, hstarted.str, hstarted.sds, hstarted.func,
    fun hd => hstarted.inhibited (hdrive.trans hd), hstarted.gates, regsHold_then_regsOnly hold hstarted.only,
    (hconf.mono fun a ha => ?_).trans (hstarted.confined.mono fun a ha => List.mem_append_right _ ha)⟩
  rcases List.mem_cons.1 ha with rfl | ha
  · exact List.mem_append_right _ (axisFunc_mem_inhibitRegs hn)
  · exact List.mem_append_left _ ha

/-- The axis with its SDS one check of 100 µs older. -/
def State.sdsAged (s : State) (n : Nat) : State := s.setAxisSt n { s.axisSt n with sdsTicks := (s.axisSt n).sdsTicks + 1 }

/-- The time as SAFE shows it, in ms. -/
def State.sdsTimed (s : State) (n : Nat) : State := (s.sdsAged n).set SAFE_AXSTAT_T_SDS (min 0xFFFF (((s.axisSt n).sdsTicks + 1) / 10)) n

theorem State.sdsTimed_confined (h : regsWf s) (n : Nat) : Confined (· = 0x130414 + 0x100 * n) s (s.sdsTimed n) := .set (.keep (.refl h) rfl rfl rfl) rfl

/-- A field of another register of the unit is as it was. -/
theorem State.sdsTimed_get (h : regsWf s) (f : Fld) (hf : f.us = 0x100 ∧ f.base ≠ 0x130414) (n : Nat) : (s.sdsTimed n).get f n = s.get f n :=
  State.get_set_unit (s := s.sdsAged n) h SAFE_AXSTAT_T_SDS f _ n (by decide) ⟨rfl, hf.1⟩ hf.2

theorem State.sdsTimed_func (h : regsWf s) (n : Nat) :
    (s.sdsTimed n).strActive n = s.strActive n ∧ (s.sdsTimed n).sdsActive n = s.sdsActive n := by
  have hne : (0x131110 : Nat) ≠ 0x130414 + 0x100 * n := by omega
  exact ⟨congrArg (bitOf · n) ((State.sdsTimed_confined h n).get SAFE_FSTAT_STR 0 0 hne),
    congrArg (bitOf · n) ((State.sdsTimed_confined h n).get SAFE_FSTAT_SDS 0 0 hne)⟩

theorem State.sdsTimed_viol (h : regsWf s) (n : Nat) : (s.sdsTimed n).flag SAFE_AXSTAT_VIOL n = s.flag SAFE_AXSTAT_VIOL n :=
  congrArg (· != 0) (State.get_set_other (s := s.sdsAged n) h SAFE_AXSTAT_T_SDS SAFE_AXSTAT_VIOL _ n 0 n 0 (by decide) (.inr (.inl (by decide))))

/-- The limit of a check in tenths of a count per s: the speed to be kept below by now, with its tolerance. -/
abbrev State.sdsLimit (s : State) (n : Nat) : Nat :=
  (10 * s.get SAFE_AXV0_V0 n - s.get SAFE_AXDEC_DEC n * ((s.axisSt n).sdsTicks + 1)) + 10 * s.get SAFE_AXTOL_TOL n

theorem opSdsCheck_eq (h : regsWf s) (hactive : s.sdsActive n = true) : opSdsCheck n s =
    if s.sdsLimit n < 10 * (s.geti ENC_SPD_SPEED n).natAbs then ((s.sdsTimed n).sdsViolated n).strStart n
    else if (s.geti ENC_SPD_SPEED n).natAbs ≤ s.get SAFE_AXSTILL_STILL_SPD n ∨ s.flag ENC_STAT_STILL n = true then (s.sdsTimed n).strStart n
    else s.sdsTimed n := by
  have hget := fun f hf => State.sdsTimed_get h f hf n
  have hspeed : (s.sdsTimed n).geti ENC_SPD_SPEED n = s.geti ENC_SPD_SPEED n := congrArg (signed 32) (hget ENC_SPD_SPEED (by decide))
  rw [State.sdsLimit, ← hspeed, ← hget SAFE_AXV0_V0 (by decide), ← hget SAFE_AXDEC_DEC (by decide), ← hget SAFE_AXTOL_TOL (by decide),
    ← hget SAFE_AXSTILL_STILL_SPD (by decide), State.flag_eq, ← hget ENC_STAT_STILL (by decide), ← State.flag_eq]
  exact if_pos hactive

end Sys2Proof.Machine
end

section
/-! SUPPORT. A SOD that fails (R467): STEP, its event, the permission and the coil forced off; and what an escalation leaves of it. -/

namespace Sys2Proof.Machine

open Sys2Proof.Safety

variable {s t : State} {b : Nat}

/-- STEP 5 with SOD_FAIL, and no DAB permission. -/
def State.sodFailed (s : State) (b : Nat) : State :=
  ((s.sodStep b 5).raise SRC_SAFE_SOD_FAIL 0x08).setBusSt b { ((s.sodStep b 5).raise SRC_SAFE_SOD_FAIL 0x08).busSt b with noDab := true }

theorem State.sodFail_eq (s : State) (b : Nat) : s.sodFail b =
    if ((s.sodFailed b).forceSod b).flag SAFE_SODCFG2_SOD_ESC then ((s.sodFailed b).forceSod b).sgr C_SGR else (s.sodFailed b).forceSod b := (rfl)

/-- The registers of the failure itself. -/
abbrev sodFailRegs (b : Nat) : List Nat := (0x130810 + 4 * b) :: evtRegs .safe SRC_SAFE_SOD_FAIL.s

theorem sodStep_addr (b : Nat) : SAFE_SODSTAT_STEP.addr 0 b = 0x130810 + 4 * b := by
  show 0x130810 + 256 * 0 + 4 * b = 0x130810 + 4 * b
  omega

theorem sodStep_spared (hb : b < 12) : SAFE_SODSTAT_STEP.addr 0 b ∉ evtRegs SRC_SAFE_SOD_FAIL.blk SRC_SAFE_SOD_FAIL.s := by decide +revert

theorem State.sodStep_confined (h : regsWf s) (b st : Nat) : Confined (· = 0x130810 + 4 * b) s (s.sodStep b st) := .set (.refl h) (sodStep_addr b)

theorem Confined.busRecord {W : Nat → Prop} {x : BusSt} (h : Confined W s t) : Confined W s (t.setBusSt b x) := h.keep rfl rfl rfl

theorem State.sodFailed_shows (h : regsWf s) (hb : b < 12) :
    (s.sodFailed b).get SAFE_SODSTAT_STEP 0 b = 5 ∧ (s.sodFailed b).flag ⟨ctrlAddr .safe 0x04, 0, 0, SRC_SAFE_SOD_FAIL.s, 1⟩ = true ∧
      Confined (· ∈ sodFailRegs b) s (s.sodFailed b) := by
  have hregs : (s.sodFailed b).regs = ((s.sodStep b 5).raise SRC_SAFE_SOD_FAIL 0x08).regs := (rfl)
  have hstep := State.sodStep_confined h b 5
  have hraised : Confined (· ∈ sodFailRegs b) s ((s.sodStep b 5).raise SRC_SAFE_SOD_FAIL 0x08) :=
    .raise (hstep.mono fun _ ha => ha ▸ List.mem_cons_self) fun _ ha => List.mem_cons_of_mem _ ha
  exact ⟨(State.get_congr hregs ..).trans ((State.get_raise_other hstep.wf _ _ _ _ _ (sodStep_spared hb)).trans (State.get_set_same h _ _ _ _ (by decide))),
    (congrArg (· != 0) (State.get_congr hregs ..)).trans (State.raise_event hstep.wf SRC_SAFE_SOD_FAIL 0x08 (by decide)), hraised.busRecord⟩

/-- What the failure changes beside registers. -/
theorem State.sodFailed_only (s : State) (b : Nat) :
    s.sodFailed b = { s with regs := (s.sodFailed b).regs, out := (s.sodFailed b).out,
                             pwr := { s.pwr with holdCopy := (s.sodFailed b).pwr.holdCopy }, cap := { s.cap with force := (s.sodFailed b).cap.force } } := by
  have hold : RegsHold (s.sodStep b 5) ((s.sodStep b 5).raise SRC_SAFE_SOD_FAIL 0x08) := State.raise_hold ..
  unfold State.sodFailed
  generalize (s.sodStep b 5).raise SRC_SAFE_SOD_FAIL 0x08 = u at hold
  rw [hold]
  rfl

theorem State.sodFailed_noDab (hb : b < s.out.buses.length) : ((s.sodFailed b).busSt b).noDab = true := by
  have hout : ((s.sodStep b 5).raise SRC_SAFE_SOD_FAIL 0x08).out = s.out :=
    (congrArg State.out (show (s.sodStep b 5).raise SRC_SAFE_SOD_FAIL 0x08 = _ from State.raise_hold ..)).trans rfl
  exact congrArg BusSt.noDab (State.busSt_setBusSt (hout ▸ hb) _)

/-- The coil of the bus and its followers as SOD forces them off. -/
def State.sodForced (s : State) (b : Nat) : State :=
  { s with ctc := { s.ctc with sodForced := s.ctc.sodForced ++
    (s.get OUT_BCFG_CTC b :: coils.filter (fun f => s.flag CTC_OCFG_FOLLOW_EN f && s.get CTC_OCFG_FOLLOW f == s.get OUT_BCFG_CTC b)).map (fun x => (x, b)) } }

theorem State.forceSod_eq (s : State) (b : Nat) : s.forceSod b = (s.sodForced b).applyCoils := (rfl)

theorem State.sodForced_off (s : State) (b : Nat) : (s.sodForced b).forcedOff (s.get OUT_BCFG_CTC b) = true := by
  simp [State.forcedOff, State.sodForced]

theorem State.forceSod_coilsOnly (s : State) (b : Nat) : CoilsOnly s (s.forceSod b) :=
  CoilsOnly.trans (t := s.sodForced b) rfl (State.applyCoils_coilsOnly _)

/-- The words of the outputs. -/
abbrev coilRegs : List Nat := (List.range 40).map fun o => 0x14000C + 0x100 * o

theorem Confined.appliedCoils {W : Nat → Prop} (h : Confined W s t) (hW : ∀ a ∈ coilRegs, W a) : Confined W s t.applyCoils := by
  refine h.foldl fun u o ho hu => hu.applyCoil1 (hW _ (List.mem_map.2 ⟨o, ?_, rfl⟩))
  exact (List.mem_append.1 ho).elim (fun h => (List.mem_filter.1 h).1) fun h => (List.mem_filter.1 h).1

theorem State.forceSod_confined (h : regsWf s) (b : Nat) : Confined (· ∈ coilRegs) s (s.forceSod b) :=
  .appliedCoils (.keep (.refl h) rfl rfl rfl) fun _ ha => ha

theorem coilRegs_range {a : Nat} (ha : a ∈ coilRegs) : 0x14000C ≤ a := by
  obtain ⟨o, -, rfl⟩ := List.mem_map.1 ha
  omega

theorem not_mem_coilRegs {a : Nat} (ha : a < 0x14000C) : a ∉ coilRegs := fun h => absurd (coilRegs_range h) (by omega)

/-- The coil is off once SOD forces it off (R466). -/
theorem State.forceSod_off (h : regsWf s) (hbeat : s.pwr.heartbeat = true) (ho : s.get OUT_BCFG_CTC b < 40) :
    (s.forceSod b).flag CTC_OSTAT_ENERGISED (s.get OUT_BCFG_CTC b) = false :=
  State.applyCoils_forced (s := s.sodForced b) h hbeat (s.sodForced_off b) ho

/-! The failure as a whole. -/

/-- The registers of the failure with the coils. -/
theorem State.sodFailed_forced (h : regsWf s) (hb : b < 12) :
    ((s.sodFailed b).forceSod b).get SAFE_SODSTAT_STEP 0 b = 5 ∧
      ((s.sodFailed b).forceSod b).flag ⟨ctrlAddr .safe 0x04, 0, 0, SRC_SAFE_SOD_FAIL.s, 1⟩ = true ∧
      Confined (· ∈ sodFailRegs b ++ coilRegs) s ((s.sodFailed b).forceSod b) := by
  obtain ⟨hstep, hevent, hconf⟩ := State.sodFailed_shows h hb
  have hcoils := State.forceSod_confined hconf.wf b
  have hbelow : SAFE_SODSTAT_STEP.addr 0 b < 0x14000C := by rw [sodStep_addr]; omega
  exact ⟨(hcoils.get SAFE_SODSTAT_STEP 0 b (not_mem_coilRegs hbelow)).trans hstep,
    (hcoils.flag ⟨ctrlAddr .safe 0x04, 0, 0, SRC_SAFE_SOD_FAIL.s, 1⟩ 0 0 (not_mem_coilRegs (by decide))).trans hevent,
    (hconf.mono fun a ha => List.mem_append_left _ ha).trans (hcoils.mono fun a ha => List.mem_append_right _ ha)⟩

theorem sodFailRegs_spare (hb : b < 12) : 0x131110 ∉ sodFailRegs b ∧ 0x130804 ∉ sodFailRegs b ∧ ∀ n < 12, 0x0A0000 + 0x100 * n ∉ sodFailRegs b := by
  decide +revert

/-- The failure leaves SAFE's functions, the escalation and the bus's coil as they are set. -/
theorem State.sodFailed_leaves (h : regsWf s) (hb : b < 12) :
    (s.sodFailed b).get OUT_BCFG_CTC b = s.get OUT_BCFG_CTC b ∧
      ((s.sodFailed b).forceSod b).flag SAFE_SODCFG2_SOD_ESC = s.flag SAFE_SODCFG2_SOD_ESC ∧
      (∀ f : Fld, f.addr 0 0 = 0x131110 → ((s.sodFailed b).forceSod b).get f = s.get f) := by
  obtain ⟨-, -, hconf⟩ := State.sodFailed_shows h hb
  obtain ⟨-, -, hall⟩ := State.sodFailed_forced h hb
  obtain ⟨hfstat, hesc, hctc⟩ := sodFailRegs_spare hb
  have hno : ∀ {a}, a ∉ sodFailRegs b → a < 0x14000C → a ∉ sodFailRegs b ++ coilRegs := fun h1 h2 h =>
    (List.mem_append.1 h).elim h1 (not_mem_coilRegs h2)
  exact ⟨hconf.get OUT_BCFG_CTC b 0 (hctc b hb), hall.flag SAFE_SODCFG2_SOD_ESC 0 0 (hno hesc (by decide)),
    fun f hf => hall.get f 0 0 (hf ▸ hno hfstat (by decide))⟩

/-- Without escalation nothing changes but registers, the coils' record, the bus and what an event may. -/
theorem State.sodFailed_forced_only (s : State) (b : Nat) :
    (s.sodFailed b).forceSod b =
      { s with regs := ((s.sodFailed b).forceSod b).regs, out := ((s.sodFailed b).forceSod b).out, ctc := ((s.sodFailed b).forceSod b).ctc,
               pwr := { s.pwr with holdCopy := ((s.sodFailed b).forceSod b).pwr.holdCopy },
               cap := { s.cap with force := ((s.sodFailed b).forceSod b).cap.force } } := by
  have hcoils : (s.sodFailed b).forceSod b = _ := (s.sodFailed b).forceSod_coilsOnly b
  have hfailed := s.sodFailed_only b
  generalize (s.sodFailed b).forceSod b = v at hcoils
  generalize s.sodFailed b = u at hcoils hfailed
  rw [hcoils, hfailed]

theorem C_SGR_spares (hb : b < 12) : SAFE_SODSTAT_STEP.addr 0 b ∉ sgrRegs := by decide +revert

/-- An SGR that starts leaves the other STATUS bits of SAFE. -/
theorem State.sgr_status_other (h : regsWf s) (hoff : s.sgrActive = false) (cause : Nat) {k : Nat} (hk : k ≠ SRC_SAFE_SGR.s) :
    (s.sgr cause).get ⟨ctrlAddr .safe 0x04, 0, 0, k, 1⟩ = s.get ⟨ctrlAddr .safe 0x04, 0, 0, k, 1⟩ := by
  have haddr : (⟨ctrlAddr .safe 0x04, 0, 0, k, 1⟩ : Fld).addr 0 0 = 0x131004 := rfl
  have hnamed : Confined (· ≠ 0x131004) s ((s.withdrawClose.set SAFE_FSTAT_SGR_ACTIVE 1).set SAFE_FSTAT_SGR_DONE 0) :=
    .set (.set (.withdrawClose (.refl h) (fun o _ => by unfold coilWord; omega) (by decide)) (by decide)) (by decide)
  have hnoted : s.sgrNoted.get ⟨ctrlAddr .safe 0x04, 0, 0, k, 1⟩ = s.get ⟨ctrlAddr .safe 0x04, 0, 0, k, 1⟩ := by
    have hregs : s.sgrNoted.regs = (((s.withdrawClose.set SAFE_FSTAT_SGR_ACTIVE 1).set SAFE_FSTAT_SGR_DONE 0).raiseC SRC_SAFE_SGR).regs := by
      unfold State.sgrNoted
      rfl
    rw [State.get_congr hregs, State.raiseC]
    exact (State.raise_status_other hnamed.wf SRC_SAFE_SGR _ (by decide) hk).trans (hnamed.get _ 0 0 (not_not.2 haddr))
  have hnoted' := Confined.sgrNoted (W := fun _ => True) (.refl h) (fun _ _ => trivial) trivial trivial fun _ _ => trivial
  have hblock : Confined (· = 0x051108) s.sgrNoted (s.sgrNoted.block cause) := .block (.refl hnoted'.wf) rfl
  have hcoils : Confined (fun a => a ≠ 0x131110 ∧ a ≠ 0x131004 ∧ a ≠ 0x051108) (s.sgrNoted.block cause) (s.sgrNoted.block cause).sgrCoils :=
    .sgrCoils (.refl hblock.wf) (fun o ho => by unfold coilWord; omega) (by decide)
  have haxes : Confined (fun a => a ≠ 0x131004 ∧ a ≠ 0x051108) (s.sgrNoted.block cause).sgrCoils (s.sgrNoted.block cause).sgrCoils.sgrAxes :=
    .sgrAxes (.refl hcoils.wf) (by decide) fun n hn => by omega
  rw [State.sgr_eq, if_neg (by simp [hoff]), haxes.get _ 0 0 (by simp [haddr]), hcoils.get _ 0 0 (by simp [haddr]), hblock.get _ 0 0 (by simp [haddr]), hnoted]

/-- An SGR leaves SOD's step and its failure, and is active after it. -/
theorem State.sgr_after (h : regsWf s) (hb : b < 12) (cause : Nat) :
    (s.sgr cause).sgrActive = true ∧ (s.sgr cause).get SAFE_SODSTAT_STEP 0 b = s.get SAFE_SODSTAT_STEP 0 b ∧
      (s.sgr cause).get ⟨ctrlAddr .safe 0x04, 0, 0, SRC_SAFE_SOD_FAIL.s, 1⟩ = s.get ⟨ctrlAddr .safe 0x04, 0, 0, SRC_SAFE_SOD_FAIL.s, 1⟩ := by
  have hstep := (Confined.sgr (cause := cause) (.refl h) fun _ ha => ha).get SAFE_SODSTAT_STEP 0 b (C_SGR_spares hb)
  cases hactive : s.sgrActive with
  | true => rw [State.sgr_eq, if_pos hactive]; exact ⟨hactive, rfl, rfl⟩
  | false => exact ⟨(State.sgr_shows h hactive cause).1, hstep, State.sgr_status_other h hactive cause (by decide)⟩

end Sys2Proof.Machine
end

section
/-! CERTIFICATE. How SGR, SOD and SDS complete or fail, settled. -/

namespace Sys2Proof.Machine

open Sys2Proof.Safety

variable {s t : State} {b : Nat}

theorem State.axisSt_setAxisSt_same {n : Nat} (hn : n < s.drive.axes.length) (x : AxisSt) : (s.setAxisSt n x).axisSt n = x := by
  simp [State.axisSt, State.setAxisSt, hn]

/-- The gating of a bus as withdrawn, with the slots that held it watched (R466). -/
def State.sodGated (s : State) (b : Nat) : State :=
  { s.setBusSt b { s.busSt b with noDab := true } with
    safe := { s.safe with sodSlots := s.safe.sodSlots.filter (fun (p : Nat × Nat) => p.1 != b) ++ (s.holders b).map (fun i => (b, i)) } }

theorem opSodRampEnd_eq (hactive : s.sodActive b = true) (hstep : s.get SAFE_SODSTAT_STEP 0 b = 1) (hheld : s.holders b ≠ []) :
    opSodRampEnd b s = (s.sodGated b).sodStep b 2 := by
  have hgate : s.sodGate b = if (s.holders b).isEmpty then (s.sodGated b).sodOpen b else (s.sodGated b).sodStep b 2 := (rfl)
  have hsome : (s.holders b).isEmpty = false := by simpa using hheld
  rw [opSodRampEnd, if_pos ⟨hactive, hstep⟩, hgate, hsome]
  rfl

theorem opSgrConfTimeout_eq {i : Nat} (hactive : s.sgrActive = true) (hdone : s.flag SAFE_FSTAT_SGR_DONE = false) (hmin : s.safe.sgrSlots.min? = some i) :
    opSgrConfTimeout s = (s.raise SRC_SAFE_SGR_UNCONF i).sgrFinish := by
  rw [opSgrConfTimeout, if_pos (by rw [hactive, hdone]; rfl), hmin]

theorem opSdsTimeout_eq {n : Nat} (hactive : s.sdsActive n = true) : opSdsTimeout n s = (s.sdsViolated n).strStart n := if_pos hactive

theorem opSodConfTimeout_eq (hactive : s.sodActive b = true) (hstep : s.get SAFE_SODSTAT_STEP 0 b = 2) : opSodConfTimeout b s = s.sodFail b :=
  if_pos ⟨hactive, hstep⟩

/-- Settles O40: SGR's end before READY is held as log entry 23 chooses. -/
theorem safetyFunctionsRunToTheirEnd : Obligations.SafetyFunctionsRunToTheirEnd := by
  unfold Obligations.SafetyFunctionsRunToTheirEnd
  refine ⟨fun s hwf hup hactive hdone hall hready hsafe => ?complete, fun s hwf hup hactive hdone hall hready => ?completeEarly,
    fun s hup hactive hsome => ?stillWaiting, fun s i hwf hup hactive hdone hmin hi hready hsafe => ?unconfirmed, fun s hup hover => ?noSgr,
    fun s hwf hup hbkr hclosed => ?breakerStays, fun s hup hbkr hopen => ?breakerOpens, fun s b hwf hup hactive hstep hheld hlen => ?rampEnds,
    fun s b hup hother => ?noRamp, fun s b hwf hup hactive hstep hesc hlen hbeat hctc => ?sodFails, fun s b hwf hup hactive hstep hesc => ?sodEscalates,
    fun s a hwf hup hactive hlen hover hstr => ?tooFast, fun s a hwf hup hactive hlen hunder hmoves hstill => ?onTime,
    fun s a hwf hup hactive hlen hunder hstill hstr => ?standstill, fun s a hwf hup hactive hstr => ?timeUp, fun s a hup hidle => ?noSds⟩
  case complete =>
    have hop : opSgrComplete s = s.sgrPolled.sgrFinish :=
      (opSgrComplete_eq hactive).trans (if_pos (by rw [hdone, State.sgrPolled_empty, hall]; rfl))
    obtain ⟨h1, h2, h3, h4, h5, h6, -⟩ := State.sgrFinish_running (s := s.sgrPolled) hwf hready hsafe
    exact ⟨_, congrArg Host.Outcome.next ((State.live_up hup _).trans hop), h1, h2, h3, h4, h5, h6.trans hactive⟩
  case completeEarly =>
    have hop : opSgrComplete s = { s.sgrPolled.sgrEnded with pwr := { s.sgrPolled.sgrEnded.pwr with safeDue := true } } :=
      (opSgrComplete_eq hactive).trans ((if_pos (by rw [hdone, State.sgrPolled_empty, hall]; rfl)).trans
        (State.sgrFinish_early (s := s.sgrPolled) hwf hready))
    have hconf := State.sgrEnded_confined (s := s.sgrPolled) hwf
    exact ⟨_, congrArg Host.Outcome.next ((State.live_up hup _).trans hop), (State.sgrEnded_shows (s := s.sgrPolled) hwf).1, rfl, rfl, rfl, rfl,
      fun adr hadr => hconf.word adr fun e => hadr (by simp [e])⟩
  case stillWaiting =>
    have hop : opSgrComplete s = s.sgrPolled := (opSgrComplete_eq hactive).trans (if_neg (by rw [State.sgrPolled_empty, hsome, Bool.and_false]; decide))
    exact ⟨_, congrArg Host.Outcome.next ((State.live_up hup _).trans hop), rfl⟩
  case unconfirmed =>
    have hwf1 := regsWf_raise hwf SRC_SAFE_SGR_UNCONF i
    have hpstate : (s.raise SRC_SAFE_SGR_UNCONF i).pstate = s.pstate := State.get_raise_other hwf _ _ SYS_PWR_STATE_STATE 0 0 (by decide)
    have hinvoked : (s.raise SRC_SAFE_SGR_UNCONF i).pwr.enterSafe = s.pwr.enterSafe :=
      (congrArg (fun u : State => u.pwr.enterSafe) (show s.raise SRC_SAFE_SGR_UNCONF i = _ from State.raise_hold ..)).trans rfl
    obtain ⟨h1, h2, h3, h4, h5, -, hconf⟩ := State.sgrFinish_running hwf1 (hpstate ▸ hready) (hpstate ▸ hsafe)
    exact ⟨_, congrArg Host.Outcome.next ((State.live_up hup _).trans (opSgrConfTimeout_eq hactive hdone hmin)), h1, h2, h3, h4,
      h5.trans (by rw [hinvoked]), (hconf.flag ⟨ctrlAddr .safe 0x04, 0, 0, SRC_SAFE_SGR_UNCONF.s, 1⟩ 0 0 (by decide)).trans
        (State.raise_event hwf SRC_SAFE_SGR_UNCONF i (by decide))⟩
  case noSgr =>
    refine ⟨_, congrArg Host.Outcome.next ((State.live_up hup _).trans (if_neg ?_)), rfl⟩
    rcases hover with hoff | hdone
    · simp [hoff]
    · simp [hdone]
  case breakerStays =>
    have hop : opBkrOpenTimeout s = ({ s with safe := { s.safe with sgrBkr := false } } : State).raise SRC_SAFE_BKR_OPEN_FAIL 0x10 :=
      (if_pos hbkr).trans (if_pos hclosed)
    have hold := State.raise_hold { s with safe := { s.safe with sgrBkr := false } } SRC_SAFE_BKR_OPEN_FAIL 0x10
    have hwf1 : regsWf { s with safe := { s.safe with sgrBkr := false } } := hwf
    exact ⟨_, congrArg Host.Outcome.next ((State.live_up hup _).trans hop), State.raise_event hwf1 SRC_SAFE_BKR_OPEN_FAIL 0x10 (by decide),
      congrArg State.safe hold, regsHold_safe hold, fun adr hadr => State.word_raise_other hwf1 SRC_SAFE_BKR_OPEN_FAIL 0x10 hadr⟩
  case breakerOpens =>
    have hop : opBkrOpenTimeout s = { s with safe := { s.safe with sgrBkr := false } } :=
      (if_pos hbkr).trans (if_neg (by rw [hopen]; decide))
    exact ⟨_, congrArg Host.Outcome.next ((State.live_up hup _).trans hop), rfl⟩
  case rampEnds =>
    have hconf := State.sodStep_confined (s := s.sodGated b.val) hwf b.val 2
    have hnew : ∀ i ∈ s.holders b.val, (b.val, i) ∈ (s.sodGated b.val).safe.sodSlots := fun i hi =>
      List.mem_append_right _ (List.mem_map.2 ⟨i, hi, rfl⟩)
    have hfstat : (0x131110 : Nat) ≠ 0x130810 + 4 * b.val := by omega
    refine ⟨_, congrArg Host.Outcome.next ((State.live_up hup _).trans (opSodRampEnd_eq hactive hstep hheld)),
      State.get_set_same (s := s.sodGated b.val) hwf _ _ _ _ (by decide), ?_, fun i hi => ⟨hnew i hi, ?_, rfl, ?_⟩⟩
    · exact congrArg BusSt.noDab (State.busSt_setBusSt (b.isLt.trans_eq hlen.symm) _)
    · exact (congrArg (bitOf · b.val) (hconf.get SAFE_FSTAT_SOD 0 0 hfstat)).trans hactive
    · exact fun adr hadr => hconf.word adr fun e => hadr (by simp [e])
  case noRamp =>
    refine ⟨_, congrArg Host.Outcome.next ((State.live_up hup _).trans (if_neg fun h => ?_)), rfl⟩
    rcases hother with hoff | hstep
    · exact Bool.false_ne_true (hoff.symm.trans h.1)
    · exact hstep h.2
  case sodFails =>
    obtain ⟨hctc', hesc', hfstat⟩ := State.sodFailed_leaves hwf b.isLt
    obtain ⟨hstep', hevent, hconf⟩ := State.sodFailed_forced hwf b.isLt
    obtain ⟨-, -, hfailed⟩ := State.sodFailed_shows hwf b.isLt
    have hop : opSodConfTimeout b.val s = (s.sodFailed b.val).forceSod b.val :=
      (opSodConfTimeout_eq hactive hstep).trans ((s.sodFail_eq b.val).trans (if_neg (by rw [hesc', hesc]; decide)))
    have hbeat' : (s.sodFailed b.val).pwr.heartbeat = true :=
      (congrArg (fun u : State => u.pwr.heartbeat) (s.sodFailed_only b.val)).trans hbeat
    have hbus : ((s.sodFailed b.val).forceSod b.val).busSt b.val = (s.sodFailed b.val).busSt b.val :=
      (congrArg (fun u : State => u.busSt b.val) (show (s.sodFailed b.val).forceSod b.val = _ from State.forceSod_coilsOnly ..)).trans rfl
    have hoff := State.forceSod_off (b := b.val) hfailed.wf hbeat' (hctc'.trans_lt hctc)
    refine ⟨_, congrArg Host.Outcome.next ((State.live_up hup _).trans hop), hstep', hevent, ?_, hctc' ▸ hoff,
      (congrArg (bitOf · b.val) (hfstat SAFE_FSTAT_SOD rfl)).trans hactive, congrArg (· != 0) (hfstat SAFE_FSTAT_SGR_ACTIVE rfl),
      s.sodFailed_forced_only b.val, fun adr hadr => hconf.word adr fun hm => hadr ?_⟩
    · exact (congrArg BusSt.noDab hbus).trans (State.sodFailed_noDab (b.isLt.trans_eq hlen.symm))
    · simp only [sodFailRegs, coilRegs, List.cons_append, List.mem_cons, List.mem_append] at hm ⊢
      exact hm.imp id Or.symm
  case sodEscalates =>
    obtain ⟨-, hesc', -⟩ := State.sodFailed_leaves hwf b.isLt
    obtain ⟨hstep', hevent, hconf⟩ := State.sodFailed_forced hwf b.isLt
    have hop : opSodConfTimeout b.val s = ((s.sodFailed b.val).forceSod b.val).sgr C_SGR :=
      (opSodConfTimeout_eq hactive hstep).trans ((s.sodFail_eq b.val).trans (if_pos (hesc'.trans hesc)))
    obtain ⟨hsgr, hkeeps, hstatus⟩ := State.sgr_after hconf.wf b.isLt C_SGR
    exact ⟨_, congrArg Host.Outcome.next ((State.live_up hup _).trans hop), hkeeps.trans hstep', (congrArg (· != 0) hstatus).trans hevent, hsgr⟩
  case tooFast =>
    have hop := (opSdsCheck_eq hwf hactive).trans (if_pos hover)
    have htimed := State.sdsTimed_confined hwf a.val
    obtain ⟨hviol, hevent, hs, hd, hf, hdrives, hgates, hold, hconf⟩ :=
      State.sdsViolated_strStart htimed.wf a.isLt ((State.sdsTimed_func hwf a.val).1.trans hstr)
    have hdrive : driving (s.sdsTimed a.val) a.val = driving s a.val := by
      rw [driving, State.sdsTimed_get hwf AXIS_STAT_STATE (by decide), driving]
    have hregs : RegsHold (s.sdsAged a.val) (((s.sdsTimed a.val).sdsViolated a.val).strStart a.val) := regsHold_of_regsOnly rfl hold
    refine ⟨_, congrArg Host.Outcome.next ((State.live_up hup _).trans hop), hviol, hevent, hs, hd, hf, fun h => hdrives (hdrive.trans h), hgates,
      (regsHold_drive hregs).2, ((htimed.mono ?_).trans hconf).word⟩
    rintro _ rfl
    exact List.mem_append_right _ (axisFunc_mem_inhibitRegs a.isLt)
  case onTime =>
    have hop : opSdsCheck a.val s = s.sdsTimed a.val :=
      (opSdsCheck_eq hwf hactive).trans ((if_neg (Nat.not_lt.2 hunder)).trans (if_neg (by simp [hstill, Nat.not_le.2 hmoves])))
    have hconf := State.sdsTimed_confined hwf a.val
    refine ⟨_, congrArg Host.Outcome.next ((State.live_up hup _).trans hop), ?_, State.sdsTimed_viol hwf a.val,
      (State.sdsTimed_func hwf a.val).2.trans hactive, ?_, rfl, fun adr hadr => hconf.word adr fun e => hadr (by simp [e])⟩
    · exact (State.get_set_same (s := s.sdsAged a.val) hwf SAFE_AXSTAT_T_SDS _ a.val 0 (by decide)).trans (Nat.mod_eq_of_lt (by
        show min 0xFFFF _ < 2 ^ 16
        omega))
    · exact congrArg AxisSt.sdsTicks (State.axisSt_setAxisSt_same (a.isLt.trans_eq hlen.symm) _)
  case standstill =>
    have hop := (opSdsCheck_eq hwf hactive).trans ((if_neg (Nat.not_lt.2 hunder)).trans (if_pos hstill))
    have htimed := State.sdsTimed_confined hwf a.val
    have hstarted := State.strStart_started htimed.wf a.isLt ((State.sdsTimed_func hwf a.val).1.trans hstr)
    have hdrive : driving (s.sdsTimed a.val) a.val = driving s a.val := by
      rw [driving, State.sdsTimed_get hwf AXIS_STAT_STATE (by decide), driving]
    have hregs : RegsHold (s.sdsAged a.val) ((s.sdsTimed a.val).strStart a.val) :=
      regsHold_then_regsOnly (t := s.sdsTimed a.val) rfl hstarted.only
    refine ⟨_, congrArg Host.Outcome.next ((State.live_up hup _).trans hop), hstarted.viol.trans (State.sdsTimed_viol hwf a.val), hstarted.str,
      hstarted.sds, hstarted.func, fun h => hstarted.inhibited (hdrive.trans h), hstarted.gates, (regsHold_drive hregs).2,
      ((htimed.mono ?_).trans hstarted.confined).word⟩
    rintro _ rfl
    exact axisFunc_mem_inhibitRegs a.isLt
  case timeUp =>
    obtain ⟨hviol, hevent, hs, hd, hf, hdrives, hgates, hold, hconf⟩ := State.sdsViolated_strStart hwf a.isLt hstr
    exact ⟨_, congrArg Host.Outcome.next ((State.live_up hup _).trans (opSdsTimeout_eq hactive)), hviol, hevent, hs, hd, hf, hdrives, hgates, hold,
      hconf.word⟩
  case noSds => exact ⟨_, congrArg Host.Outcome.next ((State.live_up hup _).trans (if_neg (by rw [hidle]; decide))), rfl⟩

end Sys2Proof.Machine
end

section
/-! SUPPORT. A block's disable (R15): it writes no other block's EN, so a set of disables leaves every block of the set disabled. -/

namespace Sys2Proof.Machine

open Sys2Proof.Safety

variable {W : Nat → Prop} {s t : State}

/-! The mailbox, wherever its count of transactions in flight and done may stand (R152 to R175). -/

/-- The registers of the mailbox's state. -/
abbrev mbxStat : List Nat := [HIVE_MBX_STAT_INFLIGHT.addr 0 0, HIVE_MBX_CQ_PTR_TAIL.addr 0 0]

section
variable (hW : ∀ a ∈ mbxStat, W a)
include hW

theorem Confined.txCounted (h : Confined W s t) : Confined W s t.countTx := h.set (hW _ List.mem_cons_self)

theorem Confined.txIssued (h : Confined W s t) (tag : Nat) (x : MbxTx) : Confined W s (t.issue tag x) := by
  unfold State.issue
  extract_lets g g' hive
  exact .txCounted hW (h.keep rfl rfl rfl)

theorem Confined.txPumpGo (n : Nat) (h : Confined W s t) : Confined W s (t.pumpGo n) := by
  induction n generalizing t with
  | zero => exact h
  | succ n ih =>
    unfold State.pumpGo
    split
    · refine ih (.txIssued hW ?_ _ _)
      exact h.keep rfl rfl rfl
    · exact h

theorem Confined.txPump (h : Confined W s t) : Confined W s t.pump := by
  unfold State.pump
  extract_lets lost hive
  exact .txPumpGo hW 8 (.addSat (h.keep rfl rfl rfl) (hW _ List.mem_cons_self))

theorem Confined.txComplete (h : Confined W s t) (x : MbxTx) (status : Nat) (data : List Byte) : Confined W s (t.complete x status data) := by
  unfold State.complete
  extract_lets hive s1 s2
  have h1 : Confined W s s1 := h.keep rfl rfl rfl
  have h2 : Confined W s s2 := .ite (h1.store.set (hW _ (by decide))) h1
  exact .txPump hW (.txCounted hW (h2.inc (hW _ List.mem_cons_self)))

end

/-! What a disable does in each block. -/

/-- The addresses of the EN fields. -/
def enRegs : List Nat := allBlocks.map fun b => ctrlAddr b 0x00

theorem coilWord_spares : ∀ o < 64, coilWord o ∉ enRegs := by decide
theorem axisRegs_spare : ∀ n < 4, ∀ a ∈ Safety.axisRegs n, a ∉ enRegs := by decide
theorem busWords_spare : ∀ b < 12, OUT_BSTAT_STATE.addr b 0 ∉ enRegs ∧ METR_MSTAT_INVALID.addr b 0 ∉ enRegs := by decide
theorem ringWords_spare : ∀ r < 12, HIVE_RSTAT_MODE.addr r 0 ∉ enRegs ∧ HIVE_RSTAT_MULTI.addr r 0 ∉ enRegs := by decide
theorem channelWords_spare : ∀ n < 36, ADC_RSTAT_VALID.addr n 0 ∉ enRegs ∧ FIL_DSTAT_OVR.addr n 0 ∉ enRegs := by decide
theorem coilStats_spare : ∀ o < 40, CTC_OSTAT_CMD_ON.addr o 0 ∉ enRegs := by decide

section
variable (h : Confined (· ∉ enRegs) s t)
include h

theorem Confined.leaveHive : Confined (· ∉ enRegs) s (leaveHive t) := by
  unfold Machine.leaveHive
  extract_lets hive s1 s2 s3
  have h1 : Confined (· ∉ enRegs) s s1 := h.keep rfl rfl rfl
  have h2 : Confined (· ∉ enRegs) s s2 := h1.foldl fun u x _ hu => .txComplete (by decide) hu x _ _
  have h3 : Confined (· ∉ enRegs) s s3 := h2.foldl fun u r hr hu => by
    obtain ⟨hmode, hmulti⟩ := ringWords_spare r (List.mem_range.1 hr)
    exact .setRingSt (.set (.set hu hmode) hmulti)
  clear_value s3
  exact h3.keep rfl rfl rfl

theorem Confined.leaveOut : Confined (· ∉ enRegs) s (leaveOut t) :=
  h.foldl fun u b hb hu => by
    have hb : b < 12 := List.mem_range.1 (List.mem_filter.1 hb).1
    exact .busTo (.coilCmd hu coilWord_spares (u.get_lt OUT_BCFG_CTC b 0)) (busWords_spare b hb).1

theorem Confined.leaveMetr : Confined (· ∉ enRegs) s (leaveMetr t) :=
  h.foldl fun _ b hb hu => .set (hu.keep rfl rfl rfl) (busWords_spare b (List.mem_range.1 hb)).2

theorem Confined.leaveAdc : Confined (· ∉ enRegs) s (leaveAdc t) :=
  h.foldl fun u n hn hu => hu.set (channelWords_spare n (Nat.lt_trans (List.mem_range.1 hn) (by decide))).1

theorem Confined.leaveFil : Confined (· ∉ enRegs) s (leaveFil t) :=
  h.foldl fun u n hn hu => by
    have hstat := (channelWords_spare n (List.mem_range.1 hn)).2
    exact .set (.set (.set hu hstat) hstat) hstat

theorem Confined.capEnd (cause : Nat) : Confined (· ∉ enRegs) s (t.capEnd cause) := by
  unfold State.capEnd
  extract_lets s1 cap s2
  have h1 : Confined (· ∉ enRegs) s s1 := .set (.set h (by decide)) (by decide)
  have h2 : Confined (· ∉ enRegs) s s2 := h1.keep rfl rfl rfl
  exact .raise (.ite h2 h2.store) (by decide)

theorem Confined.leaveCap : Confined (· ∉ enRegs) s (leaveCap t) := by
  unfold Machine.leaveCap
  extract_lets s1
  have h1 : Confined (· ∉ enRegs) s s1 := .ite (h.capEnd 3) h
  exact h1.keep rfl rfl rfl

theorem Confined.leaveAxis : Confined (· ∉ enRegs) s (leaveAxis t) :=
  h.foldl fun _ n hn hu => hu.axisTo (axisRegs_spare n (List.mem_range.1 hn))

theorem Confined.leaveCtc : Confined (· ∉ enRegs) s (leaveCtc t) := by
  unfold Machine.leaveCtc
  extract_lets s1
  have h1 : Confined (· ∉ enRegs) s s1 := h.foldl fun _ o ho hu => hu.set (coilStats_spare o (List.mem_range.1 ho))
  exact .keep (h1.applyCoils coilWord_spares) rfl rfl rfl

theorem Confined.leavePart : Confined (· ∉ enRegs) s (leavePart t) := .applyCoils (.set h (by decide)) coilWord_spares

theorem Confined.leaveEth : Confined (· ∉ enRegs) s (leaveEth t) := by
  unfold Machine.leaveEth
  extract_lets s1
  have h1 : Confined (· ∉ enRegs) s s1 := h.foldl fun u p hp hu => by
    have hstat : ETH_MSTAT_LINK.addr p 0 ∉ enRegs := by revert p; decide
    exact .set (.set hu hstat) hstat
  exact h1.keep rfl rfl rfl

/-- What a disable does in a block writes no EN. -/
theorem Confined.leaveBlock (b : Block) : Confined (· ∉ enRegs) s (leaveBlock b t) := by
  cases b
  case sys => exact h.set (by decide)
  case hive => exact h.leaveHive
  case form => exact .set (.set (h.keep rfl rfl rfl) (by decide)) (by decide)
  case law => exact h.set (by decide)
  case out => exact h.leaveOut
  case metr => exact h.leaveMetr
  case comb => exact .set (h.keep rfl rfl rfl) (by decide)
  case cal => exact h.keep rfl rfl rfl
  case adc => exact h.leaveAdc
  case fil => exact h.leaveFil
  case cap => exact h.leaveCap
  case axis => exact h.leaveAxis
  case ctc => exact h.leaveCtc
  case part => exact h.leavePart
  case eth => exact h.leaveEth
  all_goals exact h

end

/-! The disable. -/

/-- The registers are well-formed and no block is enabled that was not. -/
structure Disables (s t : State) : Prop where
  wf : regsWf t
  en : ∀ b, t.en b = true → s.en b = true

theorem Disables.trans {u : State} (h : Disables s t) (h' : Disables t u) : Disables s u := ⟨h'.wf, fun b hb => h.en b (h'.en b hb)⟩

theorem mem_allBlocks (b : Block) : b ∈ allBlocks := by cases b <;> decide

theorem ctrlAddr_zero_inj {b c : Block} (h : ctrlAddr b 0x00 = ctrlAddr c 0x00) : b = c :=
  have hall : ∀ b ∈ allBlocks, ∀ c ∈ allBlocks, ctrlAddr b 0x00 = ctrlAddr c 0x00 → b = c := by decide
  hall b (mem_allBlocks b) c (mem_allBlocks c) h

theorem mem_enRegs (b : Block) : ctrlAddr b 0x00 ∈ enRegs := List.mem_map.2 ⟨b, mem_allBlocks b, rfl⟩

theorem CTRL_EN_addr (b : Block) : (CTRL_EN b).addr 0 0 = ctrlAddr b 0x00 := by simp [CTRL_EN, Fld.addr]

theorem State.disable_disables (h : regsWf s) (b : Block) : Disables s (s.disable b) ∧ (s.disable b).en b = false := by
  unfold State.disable
  split
  · have hbit : (CTRL_EN b).lo + (CTRL_EN b).w ≤ 32 := show 0 + 1 ≤ 32 by decide
    have hleave : Confined (· ∉ enRegs) s (leaveBlock b s) := Confined.leaveBlock (.refl h) b
    have hoff : ((leaveBlock b s).set (CTRL_EN b) 0).en b = false := State.flag_set_zero hleave.wf (CTRL_EN b) 0 0 hbit
    refine ⟨⟨regsWf_set hleave.wf _ _ _ _, fun c hc => ?_⟩, hoff⟩
    by_cases hcb : c = b
    · subst hcb
      exact absurd (hoff.symm.trans hc) Bool.false_ne_true
    · have hne : (CTRL_EN c).addr 0 0 ≠ (CTRL_EN b).addr 0 0 := by
        rw [CTRL_EN_addr, CTRL_EN_addr]
        exact fun e => hcb (ctrlAddr_zero_inj e)
      have hword : ((leaveBlock b s).set (CTRL_EN b) 0).get (CTRL_EN c) = (leaveBlock b s).get (CTRL_EN c) :=
        State.get_set_other hleave.wf (CTRL_EN b) (CTRL_EN c) 0 0 0 0 0 hbit (.inl hne)
      have hmem : (CTRL_EN c).addr 0 0 ∈ enRegs := by rw [CTRL_EN_addr]; exact mem_enRegs c
      have hkept := hleave.get (CTRL_EN c) 0 0 fun hno => hno hmem
      rw [State.en, State.flag_eq, hword, hkept] at hc
      exact hc
  · next hoff => exact ⟨⟨h, fun _ hc => hc⟩, Bool.not_eq_true _ ▸ hoff⟩

theorem State.disables (l : List Block) (h : regsWf s) :
    Disables s (l.foldl State.disable s) ∧ ∀ b ∈ l, (l.foldl State.disable s).en b = false := by
  induction l generalizing s with
  | nil => exact ⟨⟨h, fun _ hb => hb⟩, fun _ hb => absurd hb List.not_mem_nil⟩
  | cons c cs ih =>
    obtain ⟨hone, hoff⟩ := State.disable_disables h c
    obtain ⟨hall, hrest⟩ := ih hone.wf
    refine ⟨hone.trans hall, fun b hb => ?_⟩
    rcases List.mem_cons.1 hb with rfl | hb
    · exact Bool.eq_false_iff.2 fun hon => Bool.false_ne_true (hoff.symm.trans (hall.en _ hon))
    · exact hrest b hb

/-- Every block is disabled but CLK, HOST and SEAL, and no check is in progress (R76). -/
theorem State.disableAll_shows (h : regsWf s) :
    regsWf s.disableAll ∧ (∀ b ∈ allBlocks, b ∉ [Block.clk, .host, .seal] → s.disableAll.en b = false) ∧ s.disableAll.cyc.checking = [] := by
  have hlists : ∀ b ∈ allBlocks, b ∉ [Block.clk, .host, .seal] → b ∈ tableOrder.reverse.filter (· != .clk) ∨ b ∈ [Block.mem, .chk, .boot] := by decide
  unfold State.disableAll
  extract_lets s1 s2
  obtain ⟨htable, hoff⟩ : Disables s s1 ∧ ∀ b ∈ tableOrder.reverse.filter (· != .clk), s1.en b = false := State.disables _ h
  obtain ⟨hrest, hoff'⟩ : Disables s1 s2 ∧ ∀ b ∈ [Block.mem, .chk, .boot], s2.en b = false := State.disables _ htable.wf
  clear_value s2
  refine ⟨hrest.wf, fun b hmem hb => ?_, rfl⟩
  rcases hlists b hmem hb with htab | hrem
  · exact Bool.eq_false_iff.2 fun hon => Bool.false_ne_true ((hoff b htab).symm.trans (hrest.en b hon))
  · exact hoff' b hrem

end Sys2Proof.Machine
end

section
/-! SUPPORT. DORMANT (R57): what the stopped control die keeps, and every output off. -/

namespace Sys2Proof.Machine

open Sys2Proof.Safety

variable {s t : State} {o : Nat}

/-- What a reset of the control die keeps: memory, the always-on domain's alarm and clock, and of every register the kept bits. -/
theorem State.coreReset_shows (h : regsWf s) :
    regsWf s.coreReset ∧ s.coreReset.mem = s.mem ∧ s.coreReset.pwr.rtc = s.pwr.rtc ∧ s.coreReset.pwr.heartbeat = false ∧
      s.coreReset.word 0x00020C = s.word 0x00020C ∧ ∀ a, keptBits a = 0 → a ≠ 0x000200 → s.coreReset.word a = resetWord a := by
  obtain ⟨hwf, -, hmem, -, -, hpwr⟩ := State.quiesced_shows h
  have hkept : regsWf s.coreKept := State.keepRegs_wf s.quiesced keptBits rfl
  have hstate : Confined (· = 0x000200) s.coreKept s.coreReset := .set (f := SYS_PWR_STATE_STANDBY) (.set (f := SYS_PWR_STATE_STATE) (.refl hkept) rfl) rfl
  have hword : ∀ a, a ≠ 0x000200 → s.coreReset.word a = keptWord keptBits a (s.quiesced.word a) := fun a ha =>
    (hstate.word a ha).trans (State.word_keepRegs hwf keptBits rfl a)
  have halarm : Confined (· ≠ 0x00020C) s s.quiesced := by
    have hgone : Confined (· ≠ 0x00020C) s s.beatless := (Confined.refl h).keep rfl rfl rfl
    have hloss : Confined (· ≠ 0x00020C) s s.heartbeatLoss := .ite (.coilLoss (hgone.applyInhibit (by decide)) (by decide)) (.refl h)
    exact .ite (.set hloss (by decide)) hloss
  refine ⟨hstate.wf, hmem, (congrArg PowerState.rtc hpwr : s.quiesced.pwr.rtc = _), rfl, ?_, fun a hbits ha => (hword a ha).trans (keptWord_none hbits _)⟩
  exact (hword _ (by decide)).trans ((keptWord_all rfl _).trans (halarm.word _ (by simp)))

/-- The outputs de-energised one after another. -/
def State.coilsOff (s : State) (l : List Nat) : State := l.foldl (fun s o => s.set CTC_OSTAT_ENERGISED 0 o) s

theorem State.coilsOff_confined (h : regsWf s) {l : List Nat} (hl : ∀ o ∈ l, o < 40) : Confined (· ∈ coilRegs) s (s.coilsOff l) :=
  Confined.foldl (.refl h) fun _ o ho hu => hu.set (List.mem_map.2 ⟨o, List.mem_range.2 (hl o ho), rfl⟩)

theorem State.coilsOff_energised (l : List Nat) (h : regsWf s) (ho : o ∈ l ∨ s.flag CTC_OSTAT_ENERGISED o = false) :
    (s.coilsOff l).flag CTC_OSTAT_ENERGISED o = false := by
  induction l generalizing s with
  | nil => exact ho.resolve_left List.not_mem_nil
  | cons x xs ih =>
    refine ih (regsWf_set h CTC_OSTAT_ENERGISED 0 x 0) ?_
    by_cases hx : o = x
    · subst hx
      exact .inr (State.flag_set_zero h _ _ _ (by decide))
    · have hone : Confined (· = coilWord x) s (s.set CTC_OSTAT_ENERGISED 0 x) := .set (.refl h) rfl
      rcases ho with hmem | hidle
      · exact .inl ((List.mem_cons.1 hmem).resolve_left hx)
      · exact .inr ((hone.flag CTC_OSTAT_ENERGISED o 0 fun e => hx (coilWord_inj e)).trans hidle)

theorem State.coilsOff_regsOnly (s : State) (l : List Nat) : RegsOnly s (s.coilsOff l) :=
  List.foldlRecOn (motive := fun u => RegsOnly s u) l _ rfl fun _ hu _ _ => regsOnly_trans hu rfl

/-- DORMANT begins, and no output follows its LOSS field any longer. -/
def State.sleeping (s : State) : State := { s with pwr := { s.pwr with dormant := true, coreUp := false }, ctc := { s.ctc with lossPulse := [] } }

/-- The control die stopped with every output off. -/
def State.asleep (s : State) : State := (s.coreReset.coilsOff coils).sleeping

/-- No output's word is one that a reset clears. -/
theorem coilRegs_kept : ∀ a ∈ coilRegs, keptBits a ≠ 0 := by decide

/-- The alarm is due by its register and the always-on clock alone (R92). -/
theorem State.alarmDue_congr (hreg : t.word 0x00020C = s.word 0x00020C) (hrtc : t.pwr.rtc = s.pwr.rtc) : t.alarmDue = s.alarmDue := by
  have hseconds : t.get SYS_AON_ALARM_SECONDS = s.get SYS_AON_ALARM_SECONDS := congrArg (fieldOf · _ _) hreg
  rw [State.alarmDue, State.alarmDue, hseconds, State.rtcSecond, State.rtcSecond, hrtc]

/-- Every output is off, and the rest is as the stopped control die keeps it. -/
theorem State.allCoilsOff_shows (h : regsWf s) :
    (s.coilsOff coils).pwr = s.pwr ∧ (s.coilsOff coils).mem = s.mem ∧ (∀ o < 40, (s.coilsOff coils).flag CTC_OSTAT_ENERGISED o = false) ∧
      ∀ a, a ∉ coilRegs → (s.coilsOff coils).word a = s.word a := by
  have honly := s.coilsOff_regsOnly coils
  have hcoils := State.coilsOff_confined (l := coils) h fun o ho => List.mem_range.1 ho
  have hoff : ∀ o < 40, (s.coilsOff coils).flag CTC_OSTAT_ENERGISED o = false := fun o ho =>
    State.coilsOff_energised coils h (.inl (List.mem_range.2 ho))
  generalize s.coilsOff coils = u at honly hcoils hoff
  exact ⟨(congrArg State.pwr honly).trans rfl, (congrArg State.mem honly).trans rfl, hoff, hcoils.word⟩

theorem State.sleeping_shows {v : State} (hv : v.word 0x00020C = s.word 0x00020C ∧ v.pwr.rtc = s.pwr.rtc) :
    v.sleeping.pwr.heartbeat = v.pwr.heartbeat ∧ v.sleeping.mem = v.mem ∧ v.sleeping.alarmDue = s.alarmDue ∧
      (∀ o, v.sleeping.flag CTC_OSTAT_ENERGISED o = v.flag CTC_OSTAT_ENERGISED o) ∧ ∀ a, v.sleeping.word a = v.word a := by
  have hword : ∀ a, v.sleeping.word a = v.word a := fun a => State.word_congr rfl a
  exact ⟨rfl, rfl, State.alarmDue_congr ((hword _).trans hv.1) hv.2, fun o => congrArg (· != 0) (State.get_congr rfl ..), hword⟩

theorem State.asleep_shows (h : regsWf s) :
    s.asleep.pwr.heartbeat = false ∧ s.asleep.mem = s.mem ∧ s.asleep.alarmDue = s.alarmDue ∧
      (∀ o < 40, s.asleep.flag CTC_OSTAT_ENERGISED o = false) ∧ ∀ a, keptBits a = 0 → a ≠ 0x000200 → s.asleep.word a = resetWord a := by
  obtain ⟨hwf, hmem, hrtc, hbeat, halarm, hreset⟩ := State.coreReset_shows h
  obtain ⟨hpwr, hmem', hoff, hword⟩ := State.allCoilsOff_shows hwf
  have hreg : 0x00020C ∉ coilRegs := not_mem_coilRegs (by decide)
  obtain ⟨hbeat', hmem'', hdue, hoff', hword'⟩ := State.sleeping_shows ⟨(hword _ hreg).trans halarm, (congrArg PowerState.rtc hpwr).trans hrtc⟩
  have hbits : ∀ a, keptBits a = 0 → a ∉ coilRegs := fun a ha hin => coilRegs_kept a hin ha
  refine ⟨?_, hmem''.trans (hmem'.trans hmem), hdue, fun o ho => (hoff' o).trans (hoff o ho), fun a ha hne => ?_⟩
  · rw [State.asleep, hbeat', hpwr, hbeat]
  · rw [State.asleep, hword', hword a (hbits a ha), hreset a ha hne]

theorem opDormant_eq (hready : s.pstate = READY) (hidle : s.flag HOST_FL_STAT_BUSY = false) (halarm : s.asleep.alarmDue = false) :
    (opDormant s).2 = s.asleep := by
  have hsleeps : (opDormant s).2 = opRtcAlarm s.asleep := by
    unfold opDormant
    rw [if_neg (by rw [hready, hidle]; decide)]
    extract_lets s1 s2 pwr ctc s3
    have h2 : s2 = s1.coilsOff coils := by unfold State.coilsOff; rfl
    have h3 : s3 = s2.sleeping := rfl
    clear_value s3 s2
    have hs1 : s1 = s.coreReset := rfl
    clear_value s1
    rw [h3, h2, hs1, State.asleep]
  rw [hsleeps, opRtcAlarm, if_neg (by rw [halarm]; simp)]

end Sys2Proof.Machine
end

section
/-! CERTIFICATE. The power states that commands and wake events enter (R57, R59, R60, R91, R92), settled. -/

namespace Sys2Proof.Machine

open Sys2Proof.Safety

variable {s t : State}

/-- READY with no SAFE due (R57). -/
def State.readyShown (s : State) : State :=
  if (s.set SYS_PWR_STATE_STATE READY).en .form then (s.set SYS_PWR_STATE_STATE READY).set FORM_MODE_STAT_MODE READY else s.set SYS_PWR_STATE_STATE READY

theorem State.enterReady_eq (hdue : s.pwr.safeDue = false) : s.enterReady = s.readyShown := by
  have hstill : s.readyShown.pwr.safeDue = false := by
    unfold State.readyShown
    split <;> exact hdue
  have heq : s.enterReady = if s.readyShown.pwr.safeDue then ({ s.readyShown with pwr := { s.readyShown.pwr with safeDue := false } } : State).enterSafe 3
      else s.readyShown := (rfl)
  rw [heq, hstill]
  rfl

theorem State.readyShown_shows (h : regsWf s) :
    s.readyShown.pstate = READY ∧ (s.en .form = true → s.readyShown.get FORM_MODE_STAT_MODE = READY) ∧ RegsOnly s s.readyShown ∧
      Confined (· ∈ [0x000200, 0x080304]) s s.readyShown := by
  have hstate : Confined (· ∈ [0x000200]) s (s.set SYS_PWR_STATE_STATE READY) := .set (.refl h) List.mem_cons_self
  have hshows : (s.set SYS_PWR_STATE_STATE READY).pstate = READY := State.get_set_same h _ _ _ _ (by decide)
  have hen : (s.set SYS_PWR_STATE_STATE READY).en .form = s.en .form := hstate.flag (CTRL_EN .form) 0 0 (by decide)
  have hboth := hstate.mono (W' := (· ∈ [0x000200, 0x080304])) fun a ha => List.mem_cons.2 ((List.mem_cons.1 ha).imp_right fun h => absurd h List.not_mem_nil)
  unfold State.readyShown
  rw [hen]
  cases s.en .form with
  | true =>
    have hmode : Confined (· ∈ [0x080304]) (s.set SYS_PWR_STATE_STATE READY) ((s.set SYS_PWR_STATE_STATE READY).set FORM_MODE_STAT_MODE READY) :=
      .set (.refl hstate.wf) List.mem_cons_self
    exact ⟨(hmode.get SYS_PWR_STATE_STATE 0 0 (by decide)).trans hshows, fun _ => State.get_set_same hstate.wf _ _ _ _ (by decide), rfl,
      hboth.trans (hmode.mono fun a ha => List.mem_cons_of_mem _ ha)⟩
  | false => exact ⟨hshows, fun h => absurd h Bool.false_ne_true, rfl, hboth⟩

/-- LOAD begins, the flash port being the device's again (R60). -/
def State.loadBegun (s : State) : State :=
  ({ s.set SYS_PWR_STATE_STATE LOAD with pwr := { s.pwr with flashReleased := false, loadWait := none } } : State).set BOOT_STAT_PHASE 0

theorem State.loadBegun_shows (h : regsWf s) : s.loadBegun.pstate = LOAD ∧ s.loadBegun.get BOOT_STAT_PHASE = 0 ∧ ∀ b, s.loadBegun.en b = s.en b := by
  have hstate := regsWf_set h SYS_PWR_STATE_STATE LOAD 0 0
  have hconf : Confined (· ∈ [0x000200, BOOT_STAT_PHASE.addr 0 0]) s s.loadBegun :=
    .set (.keep (.set (f := SYS_PWR_STATE_STATE) (u := 0) (i := 0) (v := LOAD) (.refl h) List.mem_cons_self) rfl rfl rfl) (by decide)
  have hphase : regsWf { s.set SYS_PWR_STATE_STATE LOAD with pwr := { s.pwr with flashReleased := false, loadWait := none } } := hstate
  refine ⟨?_, State.get_set_same hphase BOOT_STAT_PHASE 0 0 0 (by decide), fun b => hconf.flag (CTRL_EN b) 0 0 fun hmem => ?_⟩
  · exact (State.get_set_other hphase BOOT_STAT_PHASE SYS_PWR_STATE_STATE 0 0 0 0 0 (by decide) (.inl (by decide))).trans
      (State.get_set_same h _ _ _ _ (by decide))
  · have hspared : ∀ a ∈ [0x000200, BOOT_STAT_PHASE.addr 0 0], a ∉ enRegs := by decide
    rw [CTRL_EN_addr] at hmem
    exact hspared _ hmem (mem_enRegs b)

/-- Settles O18: memory stands through DORMANT (log entry 24), and so does what the always-on domain and the analog die hold, as over a warm reset (log entry 64). -/
theorem powerStatesAreEntered : Obligations.PowerStatesAreEntered := by
  unfold Obligations.PowerStatesAreEntered
  refine ⟨fun s hwf hsleeps hready hbeat => ?wakeBall, fun s hwf hsleeps hdue hready hbeat => ?rtcAlarm,
    fun s hwf hup hsafe hcause hsev herr hidle hdue => ?resume, fun s hwf hup hwhy => ?resumeRefused, fun s hwf hup hsafe hidle => ?reload,
    fun s hwf hup hready hidle halarm => ?dormant⟩
  case wakeBall =>
    have hlast : Confined (· ∈ [0x000200]) s (s.set SYS_PWR_STATE_LAST_WAKE 1) := .set (.refl hwf) List.mem_cons_self
    have hop : opWakeBall s = (s.set SYS_PWR_STATE_LAST_WAKE 1).enterWake := if_pos (by rw [hsleeps, hready]; rfl)
    obtain ⟨hstate, hwoke, -, -, hframe, hwords⟩ := State.enterWake_shows hlast.wf hbeat
    refine ⟨_, congrArg Host.Outcome.next hop, hstate, hwoke.trans (State.get_set_same hwf _ _ _ _ (by decide)), congrArg State.pwr hframe,
      congrArg State.time hframe, congrArg State.pllA hframe, ?_, fun adr hadr => ?_⟩
    · rw [hframe]
      rfl
    · exact (hwords adr hadr).trans (hlast.word adr fun hmem => hadr (by simp [List.mem_singleton.1 hmem]))
  case rtcAlarm =>
    have hlast := regsWf_set hwf SYS_PWR_STATE_LAST_WAKE 2 0 0
    have hregs : Confined (· ∈ [0x000200, 0x00020C]) s ((s.set SYS_PWR_STATE_LAST_WAKE 2).set SYS_AON_ALARM_SECONDS 0) :=
      .set (.set (.refl hwf) List.mem_cons_self) (by decide)
    have hop : opRtcAlarm s = ((s.set SYS_PWR_STATE_LAST_WAKE 2).set SYS_AON_ALARM_SECONDS 0).enterWake :=
      if_pos (by rw [hsleeps, hdue, hready]; rfl)
    obtain ⟨hstate, hwoke, -, -, hframe, hwords⟩ := State.enterWake_shows hregs.wf hbeat
    refine ⟨_, congrArg Host.Outcome.next hop, hstate, ?_, ?_, congrArg State.pwr hframe, ?_, fun adr hadr => ?_⟩
    · exact hwoke.trans ((State.get_set_other hlast SYS_AON_ALARM_SECONDS SYS_PWR_STATE_LAST_WAKE 0 0 0 0 0 (by decide) (.inl (by decide))).trans
        (State.get_set_same hwf _ _ _ _ (by decide)))
    · exact (congrArg (fieldOf · _ _) (hwords _ (by decide))).trans (State.get_set_same hlast SYS_AON_ALARM_SECONDS 0 0 0 (by decide))
    · rw [hframe]
      rfl
    · simp only [List.mem_cons, List.not_mem_nil, or_false, not_or] at hadr
      obtain ⟨hpower, hseconds, hpllA, hpart⟩ := hadr
      exact (hwords adr (by simp [hpower, hpllA, hpart])).trans (hregs.word adr (by simp [hpower, hseconds]))
  case resume =>
    have hop : (opResume s).2 = s.readyShown := by
      unfold opResume
      dsimp only
      rw [if_neg (by simp [hsafe, hcause, hsev, herr, hidle]), if_neg (by rw [hcause]; decide), State.enterReady_eq hdue]
    obtain ⟨hstate, hmode, honly, hconf⟩ := State.readyShown_shows hwf
    exact ⟨_, congrArg Host.Outcome.next ((State.live_up hup _).trans hop), hstate, hmode, honly, hconf.word⟩
  case resumeRefused =>
    have hop : (opResume s).2 = s.refuse .sys STATE 0x02 0x04 := by
      unfold opResume
      exact congrArg Prod.snd (if_pos hwhy)
    exact ⟨_, congrArg Host.Outcome.next ((State.live_up hup _).trans hop), State.refuse_shows hwf ..⟩
  case reload =>
    obtain ⟨hdisabled, hoff, hchecks⟩ := State.disableAll_shows hwf
    obtain ⟨hstate, hphase, hen⟩ := State.loadBegun_shows hdisabled
    have hop : (opReload s).2 = s.disableAll.loadBegun := by
      unfold opReload
      rw [if_neg (by simp [hsafe, hidle])]
      generalize s.disableAll = u
      rfl
    exact ⟨_, congrArg Host.Outcome.next ((State.live_up hup _).trans hop), hstate, hphase,
      fun b hb hnot => ⟨(hen b).trans (hoff b hb hnot), rfl, rfl, hchecks⟩⟩
  case dormant =>
    obtain ⟨hbeat, hmem, hdue, hcoils, hreset⟩ := State.asleep_shows hwf
    exact ⟨_, congrArg Host.Outcome.next ((State.live_up hup _).trans (opDormant_eq hready hidle (hdue.trans halarm))), rfl, rfl, hbeat, hmem,
      fun o ho => ⟨hcoils o (List.mem_range.1 ho), fun a hbits ha => hreset a hbits (List.ne_of_not_mem_cons ha)⟩⟩

end Sys2Proof.Machine
end

section
/-! SUPPORT. What the loader and the seal write (R75 to R79, R543, R547): registers within a set, and never the image in the flash. -/

namespace Sys2Proof.Machine

open Sys2Proof.Safety

variable {W : Nat → Prop} {s t u : State}

theorem State.raise_flash (s : State) (src : Source) (unit : Nat) : (s.raise src unit).flash = s.flash :=
  (congrArg State.flash (show s.raise src unit = _ from s.raise_hold src unit)).trans rfl

theorem State.raiseIf_flash (s : State) (c : Bool) (src : Source) (unit : Nat) : (s.raiseIf c src unit).flash = s.flash := by
  unfold State.raiseIf
  split
  · exact s.raise_flash src unit
  · rfl

theorem State.load_flash (s : State) (m a n : Nat) : (s.load m a n).2.2.flash = s.flash := by
  unfold State.load
  refine List.foldlRecOn (motive := fun u : State => u.flash = s.flash) _ _ rfl fun u hu x _ => ?_
  split
  · exact hu
  · exact (State.raiseIf_flash ..).trans ((State.raise_flash ..).trans hu)

/-- Registers outside `W` stand, and so does the flash. -/
structure Loads (W : Nat → Prop) (s t : State) : Prop extends Confined W s t where
  flash : t.flash = s.flash

namespace Loads

theorem refl (h : regsWf s) : Loads W s s := ⟨.refl h, rfl⟩

theorem mono {W' : Nat → Prop} (h : Loads W s t) (hW : ∀ a, W a → W' a) : Loads W' s t := ⟨h.toConfined.mono hW, h.flash⟩

theorem trans (h : Loads W s t) (h' : Loads W t u) : Loads W s u := ⟨h.toConfined.trans h'.toConfined, h'.flash.trans h.flash⟩

/-- An update of other parts of the state. -/
theorem keep (h : Loads W s t) (hr : u.regs = t.regs) (hc : u.cyc = t.cyc) (hp : u.part = t.part) (hf : u.flash = t.flash) : Loads W s u :=
  ⟨h.toConfined.keep hr hc hp, hf.trans h.flash⟩

section
variable {f : Fld} {k i : Nat}

theorem putWord {a : Nat} {v : Word} (h : Loads W s t) (ha : W a) : Loads W s (t.putWord a v) := ⟨h.toConfined.putWord ha, h.flash⟩
theorem set {v : Nat} (h : Loads W s t) (ha : W (f.addr k i)) : Loads W s (t.set f v k i) := h.putWord ha
theorem setb {v : Bool} (h : Loads W s t) (ha : W (f.addr k i)) : Loads W s (t.setb f v k i) := h.putWord ha
theorem inc (h : Loads W s t) (ha : W (f.addr k i)) : Loads W s (t.inc f k i) := h.putWord ha

end

theorem ite {c : Prop} [Decidable c] {a b : State} (ha : Loads W s a) (hb : Loads W s b) : Loads W s (if c then a else b) := by
  split
  · exact ha
  · exact hb

theorem foldl {α : Type} {l : List α} {f : State → α → State} (h : Loads W s t) (hf : ∀ u, ∀ x ∈ l, Loads W s u → Loads W s (f u x)) :
    Loads W s (l.foldl f t) := List.foldlRecOn (motive := Loads W s) l f h fun u hu x hx => hf u x hx hu

theorem raise {src : Source} {unit : Nat} (h : Loads W s t) (hW : ∀ a ∈ evtRegs src.blk src.s, W a) : Loads W s (t.raise src unit) :=
  ⟨h.toConfined.raise hW, (t.raise_flash src unit).trans h.flash⟩

theorem raiseIf {src : Source} {c : Bool} {unit : Nat} (h : Loads W s t) (hW : ∀ a ∈ evtRegs src.blk src.s, W a) : Loads W s (t.raiseIf c src unit) :=
  .ite (h.raise hW) h

theorem refuse {b : Block} {r unit off : Nat} (h : Loads W s t) (hW : ∀ a ∈ refuseRegs b, W a) : Loads W s (t.refuse b r unit off) :=
  ⟨h.toConfined.refuse hW, h.flash⟩

theorem store {a : Nat} {bs : List Byte} (h : Loads W s t) : Loads W s (t.store a bs) :=
  ⟨h.toConfined.store, ((congrArg State.flash (t.store_only a bs)).trans rfl).trans h.flash⟩

end Loads

/-! The registers that a log entry, the seal and MEM may write. -/

/-- The held faults, the counting windows, MEM's and SEAL's registers. -/
abbrev bookRegs (a : Nat) : Prop := a = 0x000214 ∨ (0x150000 ≤ a ∧ a < 0x160000) ∨ (0x190000 ≤ a ∧ a < 0x1A0000) ∨ 0x1000000 ≤ a

namespace Loads

section
variable (hW : ∀ a, bookRegs a → W a) (h : Loads W s t)
include hW h

theorem event (src : Source) (unit : Nat) (hsrc : ∀ a ∈ evtRegs src.blk src.s, bookRegs a) : Loads W s (t.raise src unit) :=
  h.raise fun a ha => hW a (hsrc a ha)

theorem mramWrite (a : Nat) (bs : List Byte) : Loads W s (t.mramWrite a bs).2 := by
  unfold State.mramWrite
  extract_lets bad s1
  have h1 : Loads W s s1 := h.store
  split
  · exact h1.event hW SRC_MEM_MRAM_FAIL 4 (by decide)
  · exact h1

theorem checkedRead (m a n : Nat) : Loads W s (t.load m a n).2.2 :=
  ⟨h.toConfined.checkedRead (fun x hx => hW x (hx.imp_right fun hx => hx.imp_right .inr)) m a n, (t.load_flash m a n).trans h.flash⟩

theorem hashWords (v : Nat → Nat) (f : Fld) (hf : f.base = 0x190310 ∨ f.base = 0x190110) (hst : f.us = 256 ∧ f.st = 4) (n : Nat) (hn : n ≤ 8) :
    Loads W s ((List.range n).foldl (fun s k => s.set f (v k) 0 k) t) :=
  h.foldl fun u k hk hu => hu.set (hW _ (.inr (.inr (.inl (by
    have hk : k < n := List.mem_range.1 hk
    rw [Fld.addr, hst.1, hst.2]
    omega)))))

theorem logAppend (kind source addr old new : Nat) (detail : List Byte) : Loads W s (t.logAppend kind source addr old new detail).2 := by
  unfold State.logAppend
  extract_lets seq time body prev hash w s1 s2
  have hw : Loads W s w.2 := h.mramWrite hW _ _
  clear_value w hash
  have h1 : Loads W s s1 := hw.raiseIf fun a ha => hW a (by revert a; decide)
  have h2 : Loads W s s2 := h1.set (hW _ (by decide))
  split
  · exact h2.hashWords hW (fun k => leAt hash (4 * k) 4) SEAL_LOG_HASH_HASH (by decide) (by decide) 4 (by decide)
  · exact hw.event hW SRC_SEAL_LOG_FAIL 0x03 (by decide)

theorem setDiverged (v : Bool) : Loads W s (t.setDiverged v) :=
  .raiseIf (h.setb (hW _ (by decide))) fun a ha => hW a (by revert a; decide)

theorem putDigest (data : List Byte) : Loads W s (t.putDigest data) := by
  unfold State.putDigest
  extract_lets hash
  clear_value hash
  exact (h.hashWords hW (fun k => leAt hash (4 * k) 4) SEAL_DIGEST_DIGEST (by decide) (by decide) 8 (by decide)).set (hW _ (by decide))

theorem renew : Loads W s t.renew := by
  unfold State.renew
  extract_lets m s1
  exact (h.putDigest hW _).setDiverged hW _

end

/-! The loader's write of a word, a record, a section (R75 to R79). -/

section
variable (h : Loads (fun _ => True) s t)
include h

theorem holdBit (b : Block) (v : Bool) : Loads (fun _ => True) s (t.holdBit b v) :=
  Loads.keep (h.set (f := ⟨0x000214, 0, 0, b.no, 1⟩) (k := 0) (i := 0) (v := b2n v) trivial) rfl rfl rfl rfl

theorem sevClearOne (b : Block) (n : Nat) : Loads (fun _ => True) s (t.sevClearOne b n).2 := by
  unfold State.sevClearOne
  split
  · exact h
  · split_ifs
    · exact h
    · exact h.refuse fun _ _ => trivial
    · exact .set (.set h trivial) trivial

theorem opSevClear (b : Block) (mask : Nat) : Loads (fun _ => True) s (opSevClear b mask t).2 := by
  unfold Machine.opSevClear
  extract_lets was r
  have hr : Loads (fun _ => True) s r.2 :=
    List.foldlRecOn (motive := fun r : Bool × State => Loads (fun _ => True) s r.2) _ _ h fun r hr n _ => by
      split
      · exact hr.sevClearOne b n
      · exact hr
  exact .ite (hr.holdBit b false) hr

theorem opFaultHoldClear (v : Nat) : Loads (fun _ => True) s (opFaultHoldClear v t).2 := by
  unfold Machine.opFaultHoldClear
  extract_lets r
  have hr : Loads (fun _ => True) s r.2 :=
    List.foldlRecOn (motive := fun r : Bool × State => Loads (fun _ => True) s r.2) _ _ h fun r hr b _ => by
      split_ifs
      · exact hr.refuse fun _ _ => trivial
      · exact hr.set trivial
      · exact hr
  have hclear : Loads (fun _ => True) s (if bitOf v 31 then r.2.set SYS_FAULT_HOLD_RESTORE_ERR 0 else r.2) := .ite (hr.set trivial) hr
  exact hclear.keep rfl rfl rfl rfl

theorem loaderWrite (a v : Nat) : Loads (fun _ => True) s (t.loaderWrite a v) := by
  unfold State.loaderWrite
  split
  · exact h
  · exact h.opSevClear _ _
  · split
    · exact h.opFaultHoldClear v
    · refine h.foldl fun u f _ hu => ?_
      dsimp only
      split
      · exact hu
      · split
        any_goals exact hu.set trivial
        all_goals exact hu

theorem applyWords (a : Nat) (vs : List Nat) : Loads (fun _ => True) s (t.applyWords a vs).2 := by
  induction vs generalizing t a with
  | nil => exact h
  | cons v vs ih =>
    unfold State.applyWords
    split
    · exact h
    · exact ih (h.loaderWrite a v) _

theorem applyRecords (id profile : Nat) (rs : List Rec) : Loads (fun _ => True) s (t.applyRecords id profile rs).2 := by
  induction rs generalizing t with
  | nil => exact h
  | cons r rs ih =>
    have hwords := h.applyWords r.addr r.words
    unfold State.applyRecords
    split
    · exact h
    · split
      · next heq => rw [heq] at hwords; exact hwords
      · next heq => rw [heq] at hwords; exact ih hwords

theorem applySections (img : List Byte) (xs : List ImgSection) : Loads (fun _ => True) s (t.applySections img xs).2 := by
  induction xs generalizing t with
  | nil => exact h
  | cons x xs ih =>
    have hread := h.checkedRead (fun _ _ => trivial) 6 (BANK_CAP + x.off) x.len
    have hrecords := hread.applyRecords x.id (imgProfile img) (records (sectionData img x))
    unfold State.applySections
    extract_lets l
    split
    · exact hread
    · split
      · next heq => rw [heq] at hrecords; exact hrecords
      · next heq => rw [heq] at hrecords; exact ih hrecords

theorem sealStep (img : List Byte) : Loads (fun _ => True) s (t.sealStep img).2 := by
  unfold State.sealStep
  extract_lets m
  split_ifs
  · exact (h.putDigest (fun _ _ => trivial) _).setDiverged (fun _ _ => trivial) _
  · exact h
  · exact h

end

/-- A slot whose records are all applied. -/
theorem loadSlot {f : FlashImage} {slot : Nat} (h : regsWf s) (hslot : s.loadSlot f slot = (true, t)) : Loads (fun _ => True) s t := by
  unfold State.loadSlot at hslot
  extract_lets img s1 d s2 s3 at hslot
  have h1 : Loads (fun _ => True) s s1 := (Loads.refl h).store
  split at hslot
  · exact absurd (congrArg Prod.fst hslot) Bool.false_ne_true
  · have hd : Loads (fun _ => True) s d.2 := h1.sealStep img
    split at hslot
    · exact absurd (congrArg Prod.fst hslot) Bool.false_ne_true
    · split at hslot
      · exact absurd (congrArg Prod.fst hslot) Bool.false_ne_true
      · have h3 : Loads (fun _ => True) s s3 := hd.set trivial
        have hall := h3.applySections img (imgOrdered img)
        split at hslot
        · exact absurd (congrArg Prod.fst hslot) Bool.false_ne_true
        · next heq =>
          rw [heq] at hall
          obtain ⟨-, rfl⟩ := Prod.mk.inj hslot
          exact hall

end Loads

end Sys2Proof.Machine
end

section
/-! SUPPORT. The image in force (R66, R76, R78): what LOAD shows of it, and PRIME. -/

namespace Sys2Proof.Machine

open Sys2Proof.Safety

variable {W : Nat → Prop} {s t : State}

/-! PRIME (R57, R66). -/

/-- The registers of an acquisition of PLL_B: its status, NO_BAND's reason and its event. -/
abbrev acquireRegs : List Nat := 0x010204 :: refuseRegs .clk ++ evtRegs .clk SRC_CLK_NO_BAND.s

theorem Loads.setPll {p : Nat} {x : PllState} (h : Loads W s t) : Loads W s (t.setPll p x) :=
  ⟨h.toConfined.setPll, ((congrArg State.flash (t.setPll_frame p x)).trans rfl).trans h.flash⟩

theorem Loads.noBand (h : Loads (· ∈ acquireRegs) s t) : Loads (· ∈ acquireRegs) s (t.noBand 1) :=
  .raise (.refuse (.set h.setPll (by decide)) (by decide)) (by decide)

theorem Loads.acquireB (h : Loads (· ∈ acquireRegs) s t) : Loads (· ∈ acquireRegs) s (t.acquire 1 false) := by
  unfold State.acquire
  extract_lets s1 s2 first
  have h1 : Loads (· ∈ acquireRegs) s s1 := .inc (.set h (by decide)) (by decide)
  have h2 : Loads (· ∈ acquireRegs) s s2 := h1
  clear_value s2 first
  rw [if_neg Bool.false_ne_true]
  split
  · exact h2.setPll
  · exact h2.setPll.noBand

/-- The registers of the entry to PRIME. -/
abbrev primeRegs (a : Nat) : Prop := bookRegs a ∨ a = 0x000200 ∨ (0x010000 ≤ a ∧ a < 0x020000) ∨ (0x030000 ≤ a ∧ a < 0x040000) ∨ (0x0C0000 ≤ a ∧ a < 0x0D0000)

theorem acquireRegs_prime : ∀ a ∈ acquireRegs, primeRegs a := by decide

theorem State.enterPrime_shows (h : regsWf s) :
    s.enterPrime.pstate = PRIME ∧ s.enterPrime.flag CLK_PLL_CTRL_PWR 1 = true ∧ Loads primeRegs s s.enterPrime := by
  have h1 := regsWf_set h SYS_PWR_STATE_STATE PRIME 0 0
  have hset : Loads primeRegs s ((s.set SYS_PWR_STATE_STATE PRIME).set CLK_PLL_CTRL_PWR 1 1) := .set (.set (.refl h) (by decide)) (by decide)
  have hpower : ((s.set SYS_PWR_STATE_STATE PRIME).set CLK_PLL_CTRL_PWR 1 1).flag CLK_PLL_CTRL_PWR 1 = true := State.flag_set_one h1 _ _ _ (by decide) rfl
  have hstate : ((s.set SYS_PWR_STATE_STATE PRIME).set CLK_PLL_CTRL_PWR 1 1).pstate = PRIME :=
    (State.get_set_other h1 CLK_PLL_CTRL_PWR SYS_PWR_STATE_STATE 1 1 0 0 0 (by decide) (.inl (by decide))).trans (State.get_set_same h _ _ _ _ (by decide))
  unfold State.enterPrime
  extract_lets s1
  split
  · exact ⟨hstate, hpower, hset⟩
  · have hacq : Loads (· ∈ acquireRegs) s1 (s1.acquire 1 false) := .acquireB (.refl hset.wf)
    exact ⟨(hacq.get SYS_PWR_STATE_STATE 0 0 (by decide)).trans hstate, (hacq.flag CLK_PLL_CTRL_PWR 1 0 (by decide)).trans hpower,
      hset.trans (hacq.mono acquireRegs_prime)⟩

/-! The image shown. -/

/-- BOOT's registers and START_MODE as the image gives them. -/
def State.imageShown (s : State) (img : List Byte) (slot : Nat) : State :=
  ((((s.set BOOT_GEN_GENERATION (imgGen img)).set BOOT_HDR_CRC_CRC (imgCrc img)).set BOOT_STAT_SLOT slot).set BOOT_STAT_PHASE 6).set
    FORM_MODE_STAT_START_MODE (imgStart img)

/-- What the image shows. -/
structure ImageShown (img : List Byte) (slot : Nat) (t : State) : Prop where
  gen : t.get BOOT_GEN_GENERATION = imgGen img
  crc : t.get BOOT_HDR_CRC_CRC = imgCrc img
  slot : t.get BOOT_STAT_SLOT = slot % 2
  phase : t.get BOOT_STAT_PHASE = 6
  start : t.get FORM_MODE_STAT_START_MODE = imgStart img % 4

theorem leNat_lt (bs : List Byte) : leNat bs < 256 ^ bs.length := by
  induction bs with
  | nil => exact Nat.one_pos
  | cons b bs ih =>
    have hbyte := b.isLt
    rw [leNat, List.length_cons, Nat.pow_succ]
    omega

theorem slice_length (bs : List Byte) (o n : Nat) : (slice bs o n).length = n := by
  simp only [slice, List.length_append, List.length_take, List.length_replicate]
  omega

theorem imgWord_lt (img : List Byte) (o : Nat) : leAt img o 4 < 2 ^ 32 := (leNat_lt (slice img o 4)).trans_eq (by rw [slice_length]; rfl)

theorem State.imageShown_shows (h : regsWf s) (img : List Byte) (slot : Nat) : ImageShown img slot (s.imageShown img slot) ∧ Loads (fun _ => True) s (s.imageShown img slot) := by
  have h1 := regsWf_set h BOOT_GEN_GENERATION (imgGen img) 0 0
  have h2 := regsWf_set h1 BOOT_HDR_CRC_CRC (imgCrc img) 0 0
  have h3 := regsWf_set h2 BOOT_STAT_SLOT slot 0 0
  have h4 := regsWf_set h3 BOOT_STAT_PHASE 6 0 0
  have hstart : Confined (· = 0x080304) ((((s.set BOOT_GEN_GENERATION (imgGen img)).set BOOT_HDR_CRC_CRC (imgCrc img)).set BOOT_STAT_SLOT slot).set BOOT_STAT_PHASE 6)
      (s.imageShown img slot) := .set (.refl h4) rfl
  have hstat : Confined (· = 0x020100) ((s.set BOOT_GEN_GENERATION (imgGen img)).set BOOT_HDR_CRC_CRC (imgCrc img))
      ((((s.set BOOT_GEN_GENERATION (imgGen img)).set BOOT_HDR_CRC_CRC (imgCrc img)).set BOOT_STAT_SLOT slot).set BOOT_STAT_PHASE 6) := .set (.set (.refl h2) rfl) rfl
  refine ⟨⟨?_, ?_, ?_, ?_, State.get_set_same h4 _ _ _ _ (by decide)⟩, .set (.set (.set (.set (.set (.refl h) trivial) trivial) trivial) trivial) trivial⟩
  · rw [hstart.get BOOT_GEN_GENERATION 0 0 (by decide), hstat.get BOOT_GEN_GENERATION 0 0 (by decide),
      State.get_set_other h1 _ _ _ _ _ _ _ (by decide) (.inl (by decide)), State.get_set_same h _ _ _ _ (by decide)]
    exact Nat.mod_eq_of_lt (imgWord_lt img 12)
  · rw [hstart.get BOOT_HDR_CRC_CRC 0 0 (by decide), hstat.get BOOT_HDR_CRC_CRC 0 0 (by decide), State.get_set_same h1 _ _ _ _ (by decide)]
    exact Nat.mod_eq_of_lt (imgWord_lt img 60)
  · rw [hstart.get BOOT_STAT_SLOT 0 0 (by decide), State.get_set_other h3 _ _ _ _ _ _ _ (by decide) (.inr (by decide)),
      State.get_set_same h2 _ _ _ _ (by decide)]
    rfl
  · rw [hstart.get BOOT_STAT_PHASE 0 0 (by decide), State.get_set_same h3 _ _ _ _ (by decide)]
    rfl

/-- It stands where neither BOOT's registers nor FORM's are written. -/
theorem ImageShown.stands {img : List Byte} {slot : Nat} (h : ImageShown img slot s) (hl : Confined primeRegs s t) : ImageShown img slot t :=
  ⟨(hl.get _ 0 0 (by decide)).trans h.gen, (hl.get _ 0 0 (by decide)).trans h.crc, (hl.get _ 0 0 (by decide)).trans h.slot,
    (hl.get _ 0 0 (by decide)).trans h.phase, (hl.get _ 0 0 (by decide)).trans h.start⟩

theorem State.putWords_flash {α : Type} (dst : α → Nat) (v : State → α → Word) (l : List α) (s : State) :
    (l.foldl (fun s x => s.putWord (dst x) (v s x)) s).flash = s.flash :=
  List.foldlRecOn (motive := fun u : State => u.flash = s.flash) l _ rfl fun _ hu _ _ => hu

theorem Loads.putInForce (h : Loads primeRegs s t) : Loads primeRegs s t.putInForce := by
  have hforce := (State.putInForce_shows h.wf).1
  refine h.trans ⟨hforce.mono ?_, ?_⟩
  · rintro _ ⟨u, hu, k, hk, rfl⟩
    simp only [primeRegs, forceWord, Fld.addr, CAL_UCFG_F_UNIT]
    omega
  · exact List.foldlRecOn (motive := fun u : State => u.flash = t.flash) calUnits _ rfl fun u hu _ _ => (State.putWords_flash _ _ _ u).trans hu

/-- The log's entry and the seal's marks of an image in force (R76, R543). -/
def State.imageBooked (s : State) (slot : Nat) (img : List Byte) : State :=
  let s := (s.putInForce.logAppend 3 1 0 0 0 (leBytes 1 slot ++ leBytes 4 (imgCrc img))).2.setDiverged false
  if s.flag SEAL_SW_RENEW_PEND then s.renew else s

theorem Loads.imageBooked (h : Loads primeRegs s t) (slot : Nat) (img : List Byte) : Loads primeRegs s (t.imageBooked slot img) := by
  have hbook : ∀ a, bookRegs a → primeRegs a := fun _ ha => .inl ha
  unfold State.imageBooked
  extract_lets s1
  have h1 : Loads primeRegs s s1 := (h.putInForce.logAppend hbook ..).setDiverged hbook false
  clear_value s1
  exact .ite (h1.renew hbook) h1

theorem State.loadDone_eq {f : FlashImage} (hflash : s.flash = some f) (slot : Nat) :
    s.loadDone slot =
      ({ (s.imageShown (flashSlot f slot) slot).imageBooked slot (flashSlot f slot) with
        pwr := { ((s.imageShown (flashSlot f slot) slot).imageBooked slot (flashSlot f slot)).pwr with loadWait := none },
        pairs := { ((s.imageShown (flashSlot f slot) slot).imageBooked slot (flashSlot f slot)).pairs with
          lowWritten := ((s.imageShown (flashSlot f slot) slot).imageBooked slot (flashSlot f slot)).pairs.lowWritten.filter
            fun (p : Nat × Word) => p.1 != 0x0F021C && p.1 != 0x1A001C } } : State).enterPrime := by
  unfold State.loadDone
  rw [hflash]
  rfl

theorem State.loadDone_shows {f : FlashImage} (h : regsWf s) (hflash : s.flash = some f) (slot : Nat) :
    (s.loadDone slot).pstate = PRIME ∧ ImageShown (flashSlot f slot) slot (s.loadDone slot) ∧ (s.loadDone slot).flag CLK_PLL_CTRL_PWR 1 = true ∧
      (s.loadDone slot).flash = some f := by
  obtain ⟨hshown, hload⟩ := State.imageShown_shows h (flashSlot f slot) slot
  have hbooked := (Loads.refl (W := primeRegs) hload.wf).imageBooked slot (flashSlot f slot)
  rw [State.loadDone_eq hflash]
  generalize (s.imageShown (flashSlot f slot) slot).imageBooked slot (flashSlot f slot) = v at hbooked
  have hwait : Loads primeRegs (s.imageShown (flashSlot f slot) slot)
      { v with pwr := { v.pwr with loadWait := none },
               pairs := { v.pairs with lowWritten := v.pairs.lowWritten.filter fun (p : Nat × Word) => p.1 != 0x0F021C && p.1 != 0x1A001C } } :=
    hbooked.keep rfl rfl rfl rfl
  obtain ⟨hstate, hpower, hprime⟩ := State.enterPrime_shows hwait.wf
  exact ⟨hstate, hshown.stands (hwait.trans hprime).toConfined, hpower, (hwait.trans hprime).flash.trans (hload.flash.trans hflash)⟩

end Sys2Proof.Machine
end

section
/-! SUPPORT. LOAD's failures, a lost lock, and the end of Primer (R57, R67, R79, R81, R83): what each leaves. -/

namespace Sys2Proof.Machine

open Sys2Proof.Safety

variable {s t : State}

/-- The registers of the entry to SAFE. -/
abbrev safeEntryRegs (a : Nat) : Prop := a = 0x000200 ∨ stopRegs a

/-! A load that fails for good (R79). -/

theorem State.loadFails_shows (h : regsWf s) :
    s.loadFails.pstate = SAFE ∧ s.loadFails.get SYS_PWR_STATE_SAFE_CAUSE = 1 ∧ s.loadFails.get BOOT_STAT_PHASE = 7 ∧ s.loadFails.pwr.flashReleased = true ∧
      s.loadFails.mem = s.mem ∧ Confined (fun a => a = 0x020100 ∨ safeEntryRegs a) s s.loadFails := by
  have hphase : Confined (· = 0x020100) s (s.set BOOT_STAT_PHASE 7) := .set (.refl h) rfl
  obtain ⟨hstate, hcause, hconf⟩ := State.enterSafe_shows hphase.wf 1
  obtain ⟨hmem, -, -⟩ := (s.set BOOT_STAT_PHASE 7).enterSafe_leaves 1
  have hshown := (hconf.get BOOT_STAT_PHASE 0 0 (by decide)).trans (State.get_set_same h BOOT_STAT_PHASE 7 0 0 (by decide))
  have hall : Confined (fun a => a = 0x020100 ∨ safeEntryRegs a) s ((s.set BOOT_STAT_PHASE 7).enterSafe 1) :=
    (hphase.mono fun _ ha => .inl ha).trans (hconf.mono fun _ ha => .inr ha)
  unfold State.loadFails
  generalize (s.set BOOT_STAT_PHASE 7).enterSafe 1 = v at hstate hcause hmem hshown hall
  exact ⟨hstate, hcause, hshown, rfl, hmem, hall.keep rfl rfl rfl⟩

/-! A lost lock of PLL_B (R67). -/

/-- The registers of the mark of a lost lock. -/
abbrev lolRegs : List Nat := 0x010204 :: refuseRegs .clk ++ evtRegs .clk SRC_CLK_LOSS_OF_LOCK.s

theorem State.lolMark_shows (h : regsWf s) :
    (s.lolMark 1).flag CLK_PLL_STAT_LOCKED 1 = false ∧ (s.lolMark 1).flag CLK_PLL_STAT_LOL 1 = true ∧
      (s.lolMark 1).get (CHK_REASON .clk) = 0x0121 ∧ (s.lolMark 1).get (CHK_UNIT .clk) = 2 ∧
      (s.lolMark 1).get ⟨ctrlAddr SRC_CLK_LOSS_OF_LOCK.blk 0x04, 0, 0, SRC_CLK_LOSS_OF_LOCK.s, 1⟩ = 1 ∧ (s.lolMark 1).mem = s.mem ∧
      Confined (· ∈ lolRegs) s (s.lolMark 1) := by
  have h1 := regsWf_set h CLK_PLL_STAT_LOCKED 0 1 0
  have h2 := regsWf_set h1 CLK_PLL_STAT_LOL 1 1 0
  obtain ⟨hreason, hunit, -, -, -⟩ := State.refuse_shows h2 .clk 0x0121 2 0x00
  have h3 := regsWf_refuse h2 .clk 0x0121 2 0x00
  have hrefuse : Confined (· ∈ refuseRegs .clk) ((s.set CLK_PLL_STAT_LOCKED 0 1).set CLK_PLL_STAT_LOL 1 1)
      (((s.set CLK_PLL_STAT_LOCKED 0 1).set CLK_PLL_STAT_LOL 1 1).refuse .clk 0x0121 2 0x00) := .refuse (.refl h2) fun _ ha => ha
  have hraise : Confined (· ∈ evtRegs .clk SRC_CLK_LOSS_OF_LOCK.s) (((s.set CLK_PLL_STAT_LOCKED 0 1).set CLK_PLL_STAT_LOL 1 1).refuse .clk 0x0121 2 0x00)
      (s.lolMark 1) := .raise (.refl h3) fun _ ha => ha
  refine ⟨?_, ?_, (hraise.get _ 0 0 (by decide)).trans hreason, (hraise.get _ 0 0 (by decide)).trans hunit, State.raise_status h3 SRC_CLK_LOSS_OF_LOCK 2 (by decide),
    (congrArg State.mem (show s.lolMark 1 = _ from State.raise_hold ..)).trans rfl,
    .raise (.refuse (.set (.set (.refl h) (by decide)) (by decide)) (by decide)) (by decide)⟩
  · refine (hraise.flag _ 1 0 (by decide)).trans ((hrefuse.flag _ 1 0 (by decide)).trans ?_)
    exact (congrArg (· != 0) (State.get_set_other h1 CLK_PLL_STAT_LOL CLK_PLL_STAT_LOCKED 1 1 0 1 0 (by decide) (.inr (by decide)))).trans
      (State.flag_set_zero h _ _ _ (by decide))
  · exact (hraise.flag _ 1 0 (by decide)).trans ((hrefuse.flag _ 1 0 (by decide)).trans (State.flag_set_one h1 _ _ _ (by decide) rfl))

/-- In READY it takes the device to SAFE. -/
theorem opLossOfLock_ready (h : regsWf s) (hlocked : s.flag CLK_PLL_STAT_LOCKED 1 = true) (hready : s.pstate = READY) :
    opLossOfLock 1 s = (s.lolMark 1).applyInhibit.enterSafe 4 := by
  have hmark := (State.lolMark_shows h).2.2.2.2.2.2
  have hinhibit : Confined (· ≠ 0x000200) (s.lolMark 1) (s.lolMark 1).applyInhibit := .applyInhibit (.refl hmark.wf) (by decide)
  have hstate : (s.lolMark 1).applyInhibit.pstate = READY :=
    (hinhibit.get SYS_PWR_STATE_STATE 0 0 (by decide)).trans ((hmark.get SYS_PWR_STATE_STATE 0 0 (by decide)).trans hready)
  unfold opLossOfLock
  rw [if_neg (by rw [hlocked]; decide)]
  extract_lets s1 s2 s3 st
  have h3 : s3 = (s.lolMark 1).applyInhibit := by
    rw [show s3 = s2.applyInhibit from if_neg (by decide), show s2 = s1.lolMark 1 from rfl, show s1 = s from if_neg (by rw [hready]; decide)]
  have hst : st = READY := (congrArg State.pstate h3).trans hstate
  rw [hst, if_neg (by decide), if_neg (by decide), if_neg (by decide), h3]

/-! The end of Primer (R81, R83). -/

/-- The buses whose contactor failed step 6, marked unavailable. -/
def State.busesDead (s : State) (dead : List Nat) : State := dead.reverse.foldl (fun s b => if s.busEn b then s.busTo b B_UNAVAILABLE else s) s

theorem State.busesDead_shows (h : regsWf s) (dead : List Nat) : Confined (0x0A001C ≤ ·) s (s.busesDead dead) ∧ (s.busesDead dead).pwr = s.pwr := by
  refine ⟨Confined.foldl (.refl h) fun u b _ hu => .ite (hu.busTo (by omega)) hu, ?_⟩
  have herased : (s.busesDead dead).safeErased = s.safeErased :=
    State.foldl_safeErased (fun u b => State.ite_safeErased (State.busTo_safeErased ..) rfl) _ s
  generalize s.busesDead dead = u at herased
  exact (congrArg State.pwr herased : u.safeErased.pwr = s.safeErased.pwr)

/-- The state with the last step passed. -/
def State.primerPassed (s : State) (dead : List Nat) : State := (s.busesDead dead).primerPass 6

theorem State.primerPassed_shows (h : regsWf s) (dead : List Nat) :
    (s.primerPassed dead).flag ⟨SYS_PRIMER_STAT_PASS.base, 0, 0, 5, 1⟩ = true ∧ (s.primerPassed dead).pwr = s.pwr ∧
      Confined (fun a => a = 0x000300 ∨ 0x0A001C ≤ a) s (s.primerPassed dead) := by
  obtain ⟨hdead, hpwr⟩ := State.busesDead_shows h dead
  exact ⟨State.flag_set_one hdead.wf _ _ _ (by decide) rfl, hpwr, .set (hdead.mono fun _ ha => .inr ha) (.inl rfl)⟩

/-- The entry to READY leaves START_MODE. -/
theorem State.readyShown_start (h : regsWf s) : s.readyShown.get FORM_MODE_STAT_START_MODE = s.get FORM_MODE_STAT_START_MODE := by
  have hstate : Confined (· = 0x000200) s (s.set SYS_PWR_STATE_STATE READY) := .set (.refl h) rfl
  have hkept := hstate.get FORM_MODE_STAT_START_MODE 0 0 (by decide)
  unfold State.readyShown
  split
  · exact (State.get_set_other hstate.wf FORM_MODE_STAT_MODE FORM_MODE_STAT_START_MODE READY 0 0 0 0 (by decide) (.inr (.inr (by decide)))).trans hkept
  · exact hkept

/-- READY without a start mode: nothing is requested (R83). -/
theorem State.primerDone_shows (h : regsWf s) (dead : List Nat) (hdue : s.pwr.safeDue = false) (hmode : s.get FORM_MODE_STAT_START_MODE = 0) :
    (s.primerDone dead).pstate = READY ∧ (s.primerDone dead).flag ⟨SYS_PRIMER_STAT_PASS.base, 0, 0, 5, 1⟩ = true ∧ (s.primerDone dead).cyc = s.cyc := by
  obtain ⟨hpass, hpwr, hconf⟩ := State.primerPassed_shows h dead
  obtain ⟨hstate, -, -, hready⟩ := State.readyShown_shows hconf.wf
  have hstart : (s.primerPassed dead).readyShown.get FORM_MODE_STAT_START_MODE = 0 :=
    ((State.readyShown_start hconf.wf).trans (hconf.get FORM_MODE_STAT_START_MODE 0 0 (by decide))).trans hmode
  have heq : s.primerDone dead = (s.primerPassed dead).readyShown := by
    have hdue' : (s.primerPassed dead).pwr.safeDue = false := (congrArg PowerState.safeDue hpwr).trans hdue
    unfold State.primerDone
    extract_lets s1 s2
    have h2 : s2 = (s.primerPassed dead).readyShown := State.enterReady_eq hdue'
    rw [h2, if_pos (.inr hstart)]
  rw [heq]
  exact ⟨hstate, (hready.flag _ 0 0 (by decide)).trans hpass, hready.cyc.trans hconf.cyc⟩

end Sys2Proof.Machine
end

section
/-! CERTIFICATE. LOAD, Primer and a lost lock (R57, R64, R66, R67, R76, R78, R79, R81), settled. -/

namespace Sys2Proof.Machine

open Sys2Proof.Safety

variable {s : State}

/-- The state that LOAD starts from once it reads the flash: FAIL_SECTION and FALLBACK speak of this LOAD (log entry 78). -/
def State.loadStarts (s : State) (flash : Option FlashImage) : State :=
  (((({ s with flash := flash } : State).set BOOT_STAT_FALLBACK 0).set BOOT_STAT_FAIL_SECTION 0).set BOOT_FLASH_SCK_MHZ 26).set BOOT_FLASH_WIDTH 0

/-- The flash's table read: its clock, its width and its erase unit. -/
def State.flashKnown (s : State) (f : FlashImage) : State :=
  (((s.loadStarts (some f)).set BOOT_FLASH_SCK_MHZ (min 104 f.sckMhz)).set BOOT_FLASH_WIDTH f.width).set HOST_FL_STAT_ERASE_KIB f.eraseKib

theorem State.loadStarts_wf (h : regsWf s) (flash : Option FlashImage) : regsWf (s.loadStarts flash) :=
  have hflash : regsWf { s with flash := flash } := h
  regsWf_set (regsWf_set (regsWf_set (regsWf_set hflash _ _ _ _) _ _ _ _) _ _ _ _) _ _ _ _

theorem State.flashKnown_wf (h : regsWf s) (f : FlashImage) : regsWf (s.flashKnown f) :=
  regsWf_set (regsWf_set (regsWf_set (State.loadStarts_wf h _) _ _ _ _) _ _ _ _) _ _ _ _

section
variable (hstate : s.pstate = LOAD) (hup : s.pwr.coreUp = true) (hawake : s.pwr.dormant = false) (hwait : s.pwr.loadWait = none)
include hstate hup hawake hwait

theorem opLoadSequence_none : opLoadSequence none s = ((s.loadStarts none).refuse .boot 0x0220 0x01 0x00).loadFails :=
  if_neg (by simp [hstate, hup, hawake, hwait])

theorem opLoadSequence_first {f : FlashImage} {slot : Nat} (hslot : chooseSlot f = some slot) : opLoadSequence (some f) s = (s.flashKnown f).loadFirst f slot := by
  unfold opLoadSequence
  rw [if_neg (by simp [hstate, hup, hawake, hwait])]
  simp only [hslot]
  rfl

end

/-- A slot that is loaded and finds PLL_A as the image asks is in force at once. -/
theorem State.loadFirst_satisfied {t : State} {f : FlashImage} {slot b : Nat} (hslot : s.loadSlot f slot = (true, t)) (hpll : t.pllSatisfied = some b) :
    s.loadFirst f slot = (t.set CLK_PLL_STAT_BAND b 0).loadDone slot := by
  unfold State.loadFirst
  rw [hslot]
  dsimp only
  rw [State.afterApply, hpll]

section
variable {o : PrimerObs} {p1 s1 s2 s3 s4 s5 s6 : State} {dead : List Nat}

theorem State.primerEnd_passes (h5 : s3.primer5 o = (true, s4)) (h6 : (s4.primerPass 5).primer6 o = (true, dead, s5))
    (hlate : s5.enableAll (s5.bootBlocks true) = (true, s6)) : s3.primerEnd o = s6.primerDone dead := by
  rw [State.primerEnd, h5]
  dsimp only
  rw [h6]
  dsimp only
  rw [hlate]

theorem State.primerMid_passes (h3 : s1.primer3 o = (true, s2)) (h4 : (s2.primerPass 3).primer4 o = (true, s3)) :
    s1.primerMid o = (s3.primerPass 4).primerEnd o := by
  rw [State.primerMid, h3]
  dsimp only
  rw [h4]

theorem opPrimerRun_passes (hstate : s.pstate = PRIME) (hup : s.pwr.coreUp = true)
    (h1 : ((s.putWord (SYS_PRIMER_STAT_PASS.addr 0 0) 0#32).set SYS_PRIMER_STAT_DURATION (min 0xFFFF o.duration)).primer1 o = (true, p1))
    (hearly : (p1.primerPass 1).enableAll (p1.bootBlocks false) = (true, s1)) : opPrimerRun o s = ((s1.primer2 o).primerPass 2).primerMid o := by
  rw [opPrimerRun, if_neg (by simp [hstate, hup])]
  dsimp only
  rw [h1]
  dsimp only
  rw [hearly]

end

/-- Settles O20: FAIL_SECTION and FALLBACK start at 0 in a LOAD (log entry 78). -/
theorem loadPrimerAndLossOfLock : Obligations.LoadPrimerAndLossOfLock := by
  unfold Obligations.LoadPrimerAndLossOfLock
  refine ⟨fun s f slot s1 b hwf hstate hup hawake hwait hchosen hslot hpll hdue => ?loads, fun s hwf hstate hup hawake hwait => ?noFlash,
    fun s o p1 s1 s2 s3 s4 s5 s6 dead hwf hstate hup h1 hearly h3 h4 h5 h6 hlate hdue hmode hwf6 => ?primes, fun s hwf hup hlocked hready => ?loses⟩
  case loads =>
    have hslot : (s.flashKnown f).loadSlot f slot = (true, s1) := hslot
    have hload := Loads.loadSlot (State.flashKnown_wf hwf f) hslot
    have hband : Loads (fun _ => True) s1 (s1.set CLK_PLL_STAT_BAND b 0) := .set (.refl hload.wf) trivial
    have hflash : s1.flash = some f := hload.flash.trans rfl
    have hop : opLoadSequence (some f) s = (s1.set CLK_PLL_STAT_BAND b 0).loadDone slot :=
      (opLoadSequence_first hstate hup hawake hwait hchosen).trans (State.loadFirst_satisfied hslot hpll)
    obtain ⟨hprime, hshown, hpower, hstays⟩ := State.loadDone_shows hband.wf (hband.flash.trans hflash) slot
    exact ⟨_, congrArg Host.Outcome.next ((State.live_up hup _).trans hop), hprime, hshown.gen, hshown.crc, hshown.slot, hshown.phase, hshown.start,
      hpower, hstays⟩
  case noFlash =>
    have hstart := State.loadStarts_wf hwf none
    obtain ⟨hreason, -, -, honly, -⟩ := State.refuse_shows hstart .boot 0x0220 0x01 0x00
    obtain ⟨hsafe, hcause, hphase, hreleased, hmem, hconf⟩ := State.loadFails_shows (regsWf_refuse hstart .boot 0x0220 0x01 0x00)
    exact ⟨_, congrArg Host.Outcome.next ((State.live_up hup _).trans (opLoadSequence_none hstate hup hawake hwait)), hsafe, hcause, hphase, hreleased,
      hmem.trans rfl, (hconf.get (CHK_REASON .boot) 0 0 (by decide)).trans hreason⟩
  case primes =>
    have hop : opPrimerRun o s = s6.primerDone dead :=
      (opPrimerRun_passes hstate hup h1 hearly).trans ((State.primerMid_passes h3 h4).trans (State.primerEnd_passes h5 h6 hlate))
    obtain ⟨hin, hpass, hcyc⟩ := State.primerDone_shows hwf6 dead hdue hmode
    exact ⟨_, congrArg Host.Outcome.next ((State.live_up hup _).trans hop), hin, hpass, congrArg CycleState.startReq hcyc⟩
  case loses =>
    obtain ⟨hlock, hlol, hreason, hunit, hevent, hmem, hmark⟩ := State.lolMark_shows hwf
    have hinhibit : Confined (· ∈ inhibitRegs) (s.lolMark 1) (s.lolMark 1).applyInhibit := .applyInhibit (.refl hmark.wf) fun _ ha _ => ha
    obtain ⟨hsafe, hcause, hentry⟩ := State.enterSafe_shows hinhibit.wf 4
    have hrest : Confined (fun a => a ∈ inhibitRegs ∨ safeEntryRegs a) (s.lolMark 1) ((s.lolMark 1).applyInhibit.enterSafe 4) :=
      (hinhibit.mono fun _ ha => .inl ha).trans (hentry.mono fun _ ha => .inr ha)
    have hmem' : ((s.lolMark 1).applyInhibit.enterSafe 4).mem = s.mem :=
      ((s.lolMark 1).applyInhibit.enterSafe_leaves 4).1.trans (((congrArg State.mem (s.lolMark 1).applyInhibit_regsOnly).trans rfl).trans hmem)
    exact ⟨_, congrArg Host.Outcome.next ((State.live_up hup _).trans (opLossOfLock_ready hwf hlocked hready)),
      (hrest.flag CLK_PLL_STAT_LOCKED 1 0 (by decide)).trans hlock, (hrest.flag CLK_PLL_STAT_LOL 1 0 (by decide)).trans hlol, hsafe, hcause,
      (hrest.get (CHK_REASON .clk) 0 0 (by decide)).trans hreason, (hrest.get (CHK_UNIT .clk) 0 0 (by decide)).trans hunit,
      (hrest.get ⟨ctrlAddr SRC_CLK_LOSS_OF_LOCK.blk 0x04, 0, 0, SRC_CLK_LOSS_OF_LOCK.s, 1⟩ 0 0 (by decide)).trans hevent, hmem'⟩

end Sys2Proof.Machine
end

section
/-! SUPPORT. One event of a source, register by register (R97 to R101): what its note, its count and its window leave, and what a rise of severity shows (R108). -/

namespace Sys2Proof.Machine

open Sys2Proof.Safety

variable {s : State} {x : Source} {b : Block} {m n : Nat}

/-! The addresses of a block's fault registers. -/

/-- The register of a source's counters, FLT_N[s]. -/
abbrev fltWord (x : Source) : Nat := ctrlAddr x.blk 0x40 + 8 * x.s

/-- Where the N of a source's open window is kept. -/
abbrev windowWord (x : Source) : Nat := 0x1000000 + ctrlAddr x.blk 0x40 + 8 * x.s

theorem Fld.addr_register (a lo w : Nat) : Fld.addr ⟨a, 0, 0, lo, w⟩ 0 0 = a := rfl
theorem Fld.addr_source (a lo w i : Nat) : Fld.addr ⟨a, 0, 8, lo, w⟩ 0 i = a + 8 * i := congrArg (· + 8 * i) (Nat.add_zero a)

theorem source_lt_16 : ∀ y ∈ allSources, y.s < 16 := by decide +kernel

theorem ctrlAddr_ne_hold (hm : m < 0x100) : ctrlAddr b m ≠ 0x000214 := by
  cases b <;> simp only [ctrlAddr, Block.no, Block.ctrlUnit] <;> omega

theorem fltWord_ne_hold (hs : x.s < 16) : fltWord x ≠ 0x000214 := by
  rw [fltWord, ctrlAddr, Nat.add_assoc]
  exact ctrlAddr_ne_hold (by omega)

theorem fltWord_ne_ctrlAddr (hm : m < 0x40) : fltWord x ≠ ctrlAddr x.blk m := by
  unfold fltWord ctrlAddr
  omega

theorem ctrlAddr_ne_windowWord (hm : m < 0x100) : ctrlAddr b m ≠ windowWord x := by
  have hlt : ctrlAddr b m < 0x1000000 := by cases b <;> simp only [ctrlAddr, Block.no, Block.ctrlUnit] <;> omega
  unfold windowWord
  omega

theorem fltWord_ne_windowWord : fltWord x ≠ windowWord x := by
  unfold fltWord windowWord
  omega

/-! The SEV bits of a block and its severity. -/

theorem State.bitOf_sev (hn : n < 16) : bitOf (s.get (FLT_SEV b)) n = s.flag (bitFld (ctrlAddr b 0x10) n) := by
  refine (bitOf_fieldOf _ 0 hn).trans ?_
  rw [State.flag_eq, State.get, fieldOf, Nat.zero_add, Nat.testBit, Nat.and_comm, Nat.and_one_is_mod]
  rfl

/-- A block that is not severe has no SEV bit. -/
theorem State.sev_of_not_severe (h : s.severe b = false) (hn : n < 16) : s.flag (bitFld (ctrlAddr b 0x10) n) = false := by
  rw [← State.bitOf_sev hn, bne_eq_false_iff_eq.1 h]
  exact Nat.zero_testBit n

theorem State.severe_of_sev (h : s.flag (bitFld (ctrlAddr b 0x10) n) = true) (hn : n < 16) : s.severe b = true :=
  Bool.of_not_eq_false fun hnot => Bool.false_ne_true ((State.sev_of_not_severe hnot hn).symm.trans h)

/-! The hold bit (R108). -/

theorem block_no_lt (b : Block) : b.no < 27 := by cases b <;> decide

/-- A hold bit written shows so, and the always-on domain's copy follows. -/
theorem State.holdBit_shows (h : regsWf s) (b : Block) (v : Bool) :
    (s.holdBit b v).flag (bitFld 0x000214 b.no) = v ∧ (s.holdBit b v).pwr.holdCopy = ((s.holdBit b v).word 0x000214).toNat := by
  have hno : b.no + 1 ≤ 32 := le_trans (block_no_lt b) (by decide)
  exact ⟨(congrArg (· != 0) (State.get_set_same h (bitFld 0x000214 b.no) (b2n v) 0 0 hno)).trans (b2n_mod_two v), rfl⟩

theorem State.severeTrigger_pwr (s : State) : s.severeTrigger.pwr = s.pwr := by
  unfold State.severeTrigger
  split <;> rfl

/-! A source made severe or cleared (R101, R105, R108). -/

/-- The source's SEV bit written and its window closed. -/
def State.sevWritten (s : State) (x : Source) (v : Nat) : State := (s.set (bitFld (ctrlAddr x.blk 0x10) x.s) v).set (FLT_N_WCNT x.blk) 0 0 x.s

theorem State.makeSevere_rises (h : s.severe x.blk = false) : s.makeSevere x.blk x.s = ((s.sevWritten x 1).holdBit x.blk true).severeTrigger := by
  unfold State.makeSevere
  rw [h]
  rfl

section
variable (h : regsWf s)
include h

theorem State.sevWritten_confined (x : Source) (v : Nat) : Confined (fun a => a = ctrlAddr x.blk 0x10 ∨ a = fltWord x) s (s.sevWritten x v) :=
  .set (.set (.refl h) (.inl (Fld.addr_register ..))) (.inr (Fld.addr_source ..))

variable (hs : x.s < 16)
include hs

/-- The SEV bit reads as written, the block's other SEV bits stand, and the window's count is 0. -/
theorem State.sevWritten_shows (v : Nat) :
    (∀ k < 16, bitOf ((s.sevWritten x v).get (FLT_SEV x.blk)) k = if k = x.s then v.testBit 0 else bitOf (s.get (FLT_SEV x.blk)) k) ∧
      (s.sevWritten x v).get (FLT_N_WCNT x.blk) 0 x.s = 0 ∧ (s.sevWritten x v).get (FLT_N_TOTAL x.blk) 0 x.s = s.get (FLT_N_TOTAL x.blk) 0 x.s := by
  have hfit : x.s < 32 := by omega
  have hsev := regsWf_set h (bitFld (ctrlAddr x.blk 0x10) x.s) v 0 0
  have hcount : ∀ lo w k n, Fld.addr ⟨ctrlAddr x.blk 0x40, 0, 8, lo, w⟩ 0 x.s ≠ Fld.addr ⟨ctrlAddr x.blk 0x10, 0, 0, k, n⟩ 0 0 := fun lo w k n => by
    rw [Fld.addr_source, Fld.addr_register]
    exact fltWord_ne_ctrlAddr (by decide)
  refine ⟨fun k hk => ?sevs, State.get_set_same hsev _ _ _ _ (by decide : 8 + 8 ≤ 32), ?total⟩
  case sevs =>
    refine (congrArg (bitOf · k) (State.get_set_other hsev (FLT_N_WCNT x.blk) (FLT_SEV x.blk) 0 0 x.s 0 0
      (by decide : 8 + 8 ≤ 32) (.inl (hcount _ _ _ _).symm))).trans ((State.bitOf_get_set h (FLT_SEV x.blk) hk hfit v).trans ?_)
    rw [show (FLT_SEV x.blk).lo = 0 from rfl, Nat.zero_add]
  case total =>
    refine (State.get_set_other hsev (FLT_N_WCNT x.blk) (FLT_N_TOTAL x.blk) 0 0 x.s 0 x.s (by decide : 8 + 8 ≤ 32) (.inr (.inr (Nat.le_refl 16)))).trans ?_
    exact State.get_set_other h (bitFld (ctrlAddr x.blk 0x10) x.s) (FLT_N_TOTAL x.blk) v 0 0 0 x.s hfit (.inl (hcount _ _ _ _))

/-- A source of a block that was not severe, made severe: its own register, and the hold bit with its copy. -/
theorem State.makeSevere_shows (hsev : s.severe x.blk = false) :
    (s.makeSevere x.blk x.s).flag (bitFld (ctrlAddr x.blk 0x10) x.s) = true ∧ (s.makeSevere x.blk x.s).get (FLT_N_WCNT x.blk) 0 x.s = 0 ∧
      (s.makeSevere x.blk x.s).get (FLT_N_TOTAL x.blk) 0 x.s = s.get (FLT_N_TOTAL x.blk) 0 x.s ∧
      (s.makeSevere x.blk x.s).flag (bitFld 0x000214 x.blk.no) = true ∧
      (s.makeSevere x.blk x.s).pwr.holdCopy = ((s.makeSevere x.blk x.s).word 0x000214).toNat := by
  have hwf := (State.sevWritten_confined h x 1).wf
  obtain ⟨hsevs, hcount, htotal⟩ := State.sevWritten_shows h hs 1
  have hbit : (s.sevWritten x 1).flag (bitFld (ctrlAddr x.blk 0x10) x.s) = true := by
    rw [← State.bitOf_sev hs, hsevs _ hs, if_pos rfl]
    rfl
  obtain ⟨hhold, hcopy⟩ := State.holdBit_shows hwf x.blk true
  rw [State.makeSevere_rises hsev]
  have hget : ∀ f u i, f.addr u i ≠ 0x000214 →
      ((s.sevWritten x 1).holdBit x.blk true).severeTrigger.get f u i = (s.sevWritten x 1).get f u i := fun f u i hne =>
    (State.get_severeTrigger ..).trans (State.get_holdBit_other hwf _ _ f hne)
  have hflt : ∀ lo w, Fld.addr ⟨ctrlAddr x.blk 0x40, 0, 8, lo, w⟩ 0 x.s ≠ 0x000214 := fun lo w =>
    (Fld.addr_source ..).trans_ne (fltWord_ne_hold hs)
  refine ⟨(congrArg (· != 0) (hget _ 0 0 ((Fld.addr_register ..).trans_ne (ctrlAddr_ne_hold (by decide))))).trans hbit,
    (hget (FLT_N_WCNT x.blk) _ _ (hflt _ _)).trans hcount, (hget (FLT_N_TOTAL x.blk) _ _ (hflt _ _)).trans htotal,
    (congrArg (· != 0) (State.get_severeTrigger ..)).trans hhold, ?_⟩
  rw [State.word_severeTrigger, State.severeTrigger_pwr]
  exact hcopy

end

/-! The note of an event (R97, R98). -/

section
variable (h : regsWf s) (x : Source) (u : Nat)
include h

theorem State.noted_confined : Confined (fun a => a = ctrlAddr x.blk 0x04 ∨ a = ctrlAddr x.blk 0x14) s (s.noted x u) :=
  .putWord (.set (.refl h) (.inl (Fld.addr_register ..))) (.inr rfl)

/-- EVT_LAST shows the source and the unit. -/
theorem State.noted_last (hs : x.s < 16) :
    (s.noted x u).get (EVT_LAST_SOURCE x.blk) = x.s ∧ (s.noted x u).get (EVT_LAST_UNIT x.blk) = u % 256 := by
  have hword := State.word_putWord_same (regsWf_set h (bitFld (ctrlAddr x.blk 0x04) x.s) 1 0 0) (ctrlAddr x.blk 0x14)
  constructor
  · simp only [State.get, EVT_LAST_SOURCE, Fld.addr_register, State.noted, hword, fieldOf, BitVec.toNat_ofNat, Nat.shiftRight_zero]
    omega
  · simp only [State.get, EVT_LAST_UNIT, Fld.addr_register, State.noted, hword, fieldOf, BitVec.toNat_ofNat, Nat.shiftRight_eq_div_pow]
    omega

/-- Once noted, an event leaves EVT_LAST. -/
theorem State.raise_last_confined : Confined (· ≠ ctrlAddr x.blk 0x14) (s.noted x u) (s.raise x u) := by
  have hcount : ∀ lo w, Fld.addr ⟨ctrlAddr x.blk 0x40, 0, 8, lo, w⟩ 0 x.s ≠ ctrlAddr x.blk 0x14 := fun lo w =>
    (Fld.addr_source ..).trans_ne (fltWord_ne_ctrlAddr (by decide))
  have hnoted : Confined (· ≠ ctrlAddr x.blk 0x14) (s.noted x u) (s.noted x u) := .refl (regsWf_noted h x u)
  have htallied : Confined (· ≠ ctrlAddr x.blk 0x14) (s.noted x u) (s.tallied x u) := hnoted.inc (hcount _ _)
  have hlatched : Confined (· ≠ ctrlAddr x.blk 0x14) (s.noted x u) (s.latched x u) :=
    .ite (htallied.set ((Fld.addr_source ..).trans_ne (ctrlAddr_ne_windowWord (by decide)).symm)) htallied
  rcases s.raise_cases x u with ⟨-, e⟩ | ⟨-, e | e | ⟨k, e⟩⟩ <;> rw [e]
  · exact hnoted
  · exact htallied
  · exact hlatched.makeSevere ((Fld.addr_register ..).trans_ne fun e => absurd (ctrlAddr_inj e) (by decide)) (hcount _ _)
      (ctrlAddr_ne_hold (by decide)).symm
  · exact hlatched.set (hcount _ _)

/-- Every event shows in STATUS and in EVT_LAST. -/
theorem State.raise_notes (hs : x.s < 16) :
    (s.raise x u).flag (bitFld (ctrlAddr x.blk 0x04) x.s) = true ∧ (s.raise x u).get (EVT_LAST_SOURCE x.blk) = x.s ∧
      (s.raise x u).get (EVT_LAST_UNIT x.blk) = u % 256 := by
  have hrest := State.raise_last_confined h x u
  obtain ⟨hsource, hunit⟩ := State.noted_last h x u hs
  exact ⟨State.raise_event h x u hs, (hrest.get (EVT_LAST_SOURCE x.blk) 0 0 (not_not.2 (Fld.addr_register ..))).trans hsource,
    (hrest.get (EVT_LAST_UNIT x.blk) 0 0 (not_not.2 (Fld.addr_register ..))).trans hunit⟩

/-! The count of an event (R101). -/

theorem State.tallied_confined : Confined (fun a => a = ctrlAddr x.blk 0x04 ∨ a = ctrlAddr x.blk 0x14 ∨ a = fltWord x) s (s.tallied x u) :=
  .inc ((State.noted_confined h x u).mono fun _ ha => ha.imp_right .inl) (.inr (.inr (Fld.addr_source ..)))

/-- The count moves TOTAL and leaves the rest of the source's register. -/
theorem State.tallied_shows :
    (s.tallied x u).get (FLT_N_TOTAL x.blk) 0 x.s = satInc 0xFFFF (s.get (FLT_N_TOTAL x.blk) 0 x.s) ∧
      (s.tallied x u).get (FLT_N_WCNT x.blk) 0 x.s = s.get (FLT_N_WCNT x.blk) 0 x.s ∧
      (s.tallied x u).get (FLT_N_N x.blk) 0 x.s = s.get (FLT_N_N x.blk) 0 x.s := by
  have hwf := regsWf_noted h x u
  have hnoted : ∀ lo w, (s.noted x u).get ⟨ctrlAddr x.blk 0x40, 0, 8, lo, w⟩ 0 x.s = s.get ⟨ctrlAddr x.blk 0x40, 0, 8, lo, w⟩ 0 x.s := fun lo w =>
    (State.noted_confined h x u).get _ 0 x.s (by
      rw [Fld.addr_source]
      exact not_or.2 ⟨fltWord_ne_ctrlAddr (by decide), fltWord_ne_ctrlAddr (by decide)⟩)
  have hother : ∀ lo w, lo + w ≤ 16 →
      (s.tallied x u).get ⟨ctrlAddr x.blk 0x40, 0, 8, lo, w⟩ 0 x.s = s.get ⟨ctrlAddr x.blk 0x40, 0, 8, lo, w⟩ 0 x.s := fun lo w hw =>
    (State.get_set_other hwf (FLT_N_TOTAL x.blk) _ _ 0 x.s 0 x.s (Nat.le_refl 32) (.inr (.inl hw))).trans (hnoted lo w)
  refine ⟨?_, hother 8 8 (Nat.le_refl 16), hother 0 8 (by decide)⟩
  exact (State.get_inc_satInc hwf (FLT_N_TOTAL x.blk) 0 x.s (Nat.le_refl 32)).trans (congrArg (satInc 0xFFFF) (hnoted 16 16))

end

/-! The window of an event (R99, R101). -/

/-- The N that the next event of a source counts to: the register's N where that event opens the window. -/
def State.windowN (s : State) (x : Source) : Nat :=
  if s.get (FLT_N_WCNT x.blk) 0 x.s = 0 then s.get (FLT_N_N x.blk) 0 x.s else s.get (FLT_WINDOW_N x.blk) 0 x.s

theorem State.windowN_lt (s : State) (x : Source) : s.windowN x < 2 ^ 8 := by
  unfold State.windowN
  split
  · exact State.get_lt (FLT_N_N x.blk) ..
  · exact State.get_lt (FLT_WINDOW_N x.blk) ..

section
variable (h : regsWf s) (x : Source) (u : Nat)
include h

theorem State.latched_confined : Confined (· = windowWord x) (s.tallied x u) (s.latched x u) :=
  have hwf := regsWf_tallied h x u
  .ite (.set (.refl hwf) (Fld.addr_source ..)) (.refl hwf)

/-- The latch leaves the source's register. -/
theorem State.get_latched (lo w : Nat) :
    (s.latched x u).get ⟨ctrlAddr x.blk 0x40, 0, 8, lo, w⟩ 0 x.s = (s.tallied x u).get ⟨ctrlAddr x.blk 0x40, 0, 8, lo, w⟩ 0 x.s :=
  (State.latched_confined h x u).get _ 0 x.s ((Fld.addr_source ..).trans_ne fltWord_ne_windowWord)

/-- The event that opens a window latches the register's N for it. -/
theorem State.latched_window : (s.latched x u).get (FLT_WINDOW_N x.blk) 0 x.s = s.windowN x := by
  obtain ⟨-, hcount, hn⟩ := State.tallied_shows h x u
  unfold State.latched State.windowN
  rw [hcount, hn]
  split
  · exact (State.get_set_same (regsWf_tallied h x u) (FLT_WINDOW_N x.blk) _ _ _ (by decide : 8 ≤ 32)).trans
      (Nat.mod_eq_of_lt (s.get_lt (FLT_N_N x.blk) 0 x.s))
  · refine (State.tallied_confined h x u).get (FLT_WINDOW_N x.blk) 0 x.s fun hin => ?_
    rw [FLT_WINDOW_N, Fld.addr_source] at hin
    rcases hin with e | e | e
    · exact ctrlAddr_ne_windowWord (by decide) e.symm
    · exact ctrlAddr_ne_windowWord (by decide) e.symm
    · exact fltWord_ne_windowWord e.symm

/-- Neither the note, the count nor the latch touches the SEV bits. -/
theorem State.tallied_sevs : (s.tallied x u).word (ctrlAddr x.blk 0x10) = s.word (ctrlAddr x.blk 0x10) :=
  (State.tallied_confined h x u).word _ (by
    rintro (e | e | e)
    · exact absurd (ctrlAddr_inj e) (by decide)
    · exact absurd (ctrlAddr_inj e) (by decide)
    · exact fltWord_ne_ctrlAddr (by decide) e.symm)

theorem State.latched_sevs : (s.latched x u).word (ctrlAddr x.blk 0x10) = s.word (ctrlAddr x.blk 0x10) :=
  ((State.latched_confined h x u).word _ (ctrlAddr_ne_windowWord (by decide))).trans (State.tallied_sevs h x u)

/-! The three ends of a counted event (R101). -/

theorem State.sev_tallied (n : Nat) : (s.tallied x u).flag (bitFld (ctrlAddr x.blk 0x10) n) = s.flag (bitFld (ctrlAddr x.blk 0x10) n) := by
  simp only [State.flag_eq, State.get, Fld.addr_register, State.tallied_sevs h]

variable (hc : x.counted = true)
include hc

theorem State.raise_of_sev (hsev : s.flag (bitFld (ctrlAddr x.blk 0x10) x.s) = true) : s.raise x u = s.tallied x u := by
  rw [State.raise_eq, if_neg (by simp [hc]), if_pos ((State.sev_tallied h x u _).trans hsev)]

theorem State.raise_of_below (hsev : s.flag (bitFld (ctrlAddr x.blk 0x10) x.s) = false) (hlt : s.get (FLT_N_WCNT x.blk) 0 x.s + 1 < s.windowN x) :
    s.raise x u = (s.latched x u).set (FLT_N_WCNT x.blk) (min 0xFF (s.get (FLT_N_WCNT x.blk) 0 x.s + 1)) 0 x.s := by
  obtain ⟨-, hcount, -⟩ := State.tallied_shows h x u
  rw [State.raise_eq, if_neg (by simp [hc]), if_neg (by rw [State.sev_tallied h, hsev]; decide), hcount, State.latched_window h,
    if_neg (Nat.not_le_of_lt hlt)]

theorem State.raise_of_reached (hsev : s.flag (bitFld (ctrlAddr x.blk 0x10) x.s) = false) (hle : s.windowN x ≤ s.get (FLT_N_WCNT x.blk) 0 x.s + 1) :
    s.raise x u = (s.latched x u).makeSevere x.blk x.s := by
  obtain ⟨-, hcount, -⟩ := State.tallied_shows h x u
  rw [State.raise_eq, if_neg (by simp [hc]), if_neg (by rw [State.sev_tallied h, hsev]; decide), hcount, State.latched_window h, if_pos hle]

/-- Below its N the window moves on by one, and nothing becomes severe. -/
theorem State.raise_below_shows (hsev : s.flag (bitFld (ctrlAddr x.blk 0x10) x.s) = false) (hlt : s.get (FLT_N_WCNT x.blk) 0 x.s + 1 < s.windowN x) :
    (s.raise x u).get (FLT_N_TOTAL x.blk) 0 x.s = satInc 0xFFFF (s.get (FLT_N_TOTAL x.blk) 0 x.s) ∧
      (s.raise x u).get (FLT_N_WCNT x.blk) 0 x.s = s.get (FLT_N_WCNT x.blk) 0 x.s + 1 ∧
      (s.raise x u).word (ctrlAddr x.blk 0x10) = s.word (ctrlAddr x.blk 0x10) ∧
      (s.raise x u).get (FLT_WINDOW_N x.blk) 0 x.s = s.windowN x ∧ RegsOnly s (s.raise x u) := by
  have hlatch := regsWf_latched h x u
  have hN : s.windowN x < 2 ^ 8 := s.windowN_lt x
  obtain ⟨htotal, -, -⟩ := State.tallied_shows h x u
  rw [State.raise_of_below h x u hc hsev hlt]
  refine ⟨?total, ?count, ?sevs, ?window, regsOnly_trans (s.latched_regs x u) rfl⟩
  case total =>
    exact (State.get_set_other hlatch (FLT_N_WCNT x.blk) (FLT_N_TOTAL x.blk) _ 0 x.s 0 x.s (by decide : 8 + 8 ≤ 32)
      (.inr (.inr (Nat.le_refl 16)))).trans ((State.get_latched h x u 16 16).trans htotal)
  case count =>
    refine (State.get_set_same hlatch (FLT_N_WCNT x.blk) _ 0 x.s (by decide : 8 + 8 ≤ 32)).trans ?_
    show min 0xFF _ % 2 ^ 8 = _
    omega
  case sevs =>
    exact (State.word_set_other hlatch _ _ _ _ ((Fld.addr_source ..).trans_ne (fltWord_ne_ctrlAddr (by decide))).symm).trans
      (State.latched_sevs h x u)
  case window =>
    refine (State.get_set_other hlatch (FLT_N_WCNT x.blk) (FLT_WINDOW_N x.blk) _ 0 x.s 0 x.s (by decide : 8 + 8 ≤ 32) (.inl ?_)).trans
      (State.latched_window h x u)
    rw [FLT_WINDOW_N, FLT_N_WCNT, Fld.addr_source, Fld.addr_source]
    exact fltWord_ne_windowWord.symm

/-- Reaching its N the window closes and the source is severe, with the hold bit of a block that was not. -/
theorem State.raise_reached_shows (hs : x.s < 16) (hsev : s.severe x.blk = false) (hle : s.windowN x ≤ s.get (FLT_N_WCNT x.blk) 0 x.s + 1) :
    (s.raise x u).get (FLT_N_TOTAL x.blk) 0 x.s = satInc 0xFFFF (s.get (FLT_N_TOTAL x.blk) 0 x.s) ∧
      (s.raise x u).get (FLT_N_WCNT x.blk) 0 x.s = 0 ∧ (s.raise x u).flag (bitFld (ctrlAddr x.blk 0x10) x.s) = true ∧
      (s.raise x u).flag (bitFld 0x000214 x.blk.no) = true ∧ (s.raise x u).pwr.holdCopy = ((s.raise x u).word 0x000214).toNat := by
  have hsev' : (s.latched x u).severe x.blk = false := by
    rw [← hsev, State.severe, State.severe, State.get, State.get, FLT_SEV, Fld.addr_register, State.latched_sevs h]
  obtain ⟨htotal, -, -⟩ := State.tallied_shows h x u
  obtain ⟨hbit, hcount, hstands, hhold, hcopy⟩ := State.makeSevere_shows (regsWf_latched h x u) hs hsev'
  rw [State.raise_of_reached h x u hc (State.sev_of_not_severe hsev hs) hle]
  exact ⟨hstands.trans ((State.get_latched h x u 16 16).trans htotal), hcount, hbit, hhold, hcopy⟩

end

end Sys2Proof.Machine
end

section
/-! CERTIFICATE. One event of a source, counted or not (R97 to R101, R108), settled. -/

namespace Sys2Proof.Machine

open Sys2Proof.Safety

/-- Settles O23: an event is noted, a counted one is tallied and its window latched; then it stands, moves on in its window, or makes its source severe. -/
theorem faultEventsAreCounted : Obligations.FaultEventsAreCounted := by
  unfold Obligations.FaultEventsAreCounted
  refine ⟨fun s t x u hwf hx hc ht => ?uncounted, fun s t x u hwf hx hc hsev hlt ht => ?below,
    fun s t x u hwf hx hc hsev hle ht => ?reached, fun s t x u hwf hx hc hsev ht => ?severe⟩
  all_goals
    subst ht
    have hs := source_lt_16 x hx
    obtain ⟨hstatus, hsource, hunit⟩ := State.raise_notes hwf x u hs
    refine ⟨hstatus, hsource, hunit, ?_⟩
  case uncounted =>
    rw [State.raise_uncounted s hc]
    exact ⟨State.noted_regsOnly .., fun adr hadr => (State.noted_confined hwf x u).word adr fun hin => hadr (by simpa using hin)⟩
  case below =>
    obtain ⟨htotal, hcount, hsevs, hwindow, honly⟩ := State.raise_below_shows hwf x u hc hsev hlt
    exact ⟨htotal, hcount, hsevs, hwindow, honly, fun adr hadr => State.word_raise_other hwf x u hadr⟩
  case reached =>
    obtain ⟨htotal, hcount, hbit, hhold, hcopy⟩ := State.raise_reached_shows hwf x u hc hs hsev hle
    exact ⟨htotal, hcount, hbit, hhold, hcopy, s.raise_hold x u, fun adr hadr => State.word_raise_other hwf x u hadr⟩
  case severe =>
    obtain ⟨htotal, hcount, -⟩ := State.tallied_shows hwf x u
    have hother : ∀ adr, adr ∉ evtRegs x.blk x.s → (s.raise x u).word adr = s.word adr := fun adr hadr => State.word_raise_other hwf x u hadr
    rw [State.raise_of_sev hwf x u hc hsev] at hother ⊢
    refine ⟨htotal, hcount, (State.tallied_confined hwf x u).word _ ?_, rfl, hother⟩
    rintro (e | e | e)
    · exact ctrlAddr_ne_hold (by decide) e.symm
    · exact ctrlAddr_ne_hold (by decide) e.symm
    · exact fltWord_ne_hold hs e.symm

end Sys2Proof.Machine
end

section
/-! SUPPORT. The clear of a SEV bit (R105), the end of a counting window (R101) and the clear of a hold bit (R109), each for one source or one block. -/

namespace Sys2Proof.Machine

open Sys2Proof.Safety

variable {s : State} {x : Source} {b : Block} {n : Nat}

/-! One bit of a written mask. -/

theorem toNat_ofNat_two_pow {w : Nat} (hn : n < w) : (BitVec.ofNat w (2 ^ n)).toNat = 2 ^ n :=
  Nat.mod_eq_of_lt (Nat.pow_lt_pow_right Nat.one_lt_two hn)

theorem bitOf_ofNat_two_pow {w : Nat} (hn : n < w) (k : Nat) : bitOf (BitVec.ofNat w (2 ^ n)).toNat k = decide (n = k) := by
  rw [toNat_ofNat_two_pow hn, bitOf, Nat.testBit_two_pow]

/-! The table of sources. -/

/-- A block and a number name one source. -/
theorem find_source : ∀ y ∈ allSources, allSources.find? (fun z => z.blk == y.blk && z.s == y.s) = some y := by decide +kernel

theorem persist_lt : ∀ y ∈ allSources, y.persist < 0x10000 := by decide +kernel

theorem ctrlUnit_lt (b : Block) : b.ctrlUnit < 0x100 := by cases b <;> decide

/-! SEV_CLEAR of one source (R105). -/

theorem State.sevClearOne_eq (hx : x ∈ allSources) (hc : x.counted = true) :
    s.sevClearOne x.blk x.s = if s.flag (bitFld (ctrlAddr x.blk 0x10) x.s) && x.level && s.condPresent x.blk x.s
      then (false, s.refuse x.blk x.persist x.blk.ctrlUnit 0x10) else (true, s.sevWritten x 0) := by
  unfold State.sevClearOne
  rw [find_source x hx]
  dsimp only
  rw [hc]
  rfl

/-- A clear of one SEV bit is judged for that source alone. -/
theorem opSevClear_one (b : Block) (hn : n < 16) :
    (opSevClear b (BitVec.ofNat 16 (2 ^ n)).toNat s).2 =
      if s.severe b && !(s.sevClearOne b n).2.severe b then (s.sevClearOne b n).2.holdBit b false else (s.sevClearOne b n).2 := by
  unfold opSevClear
  rw [foldl_at (x := n) List.nodup_range (List.mem_range.2 hn)]
  · rw [bitOf_ofNat_two_pow hn, if_pos (decide_eq_true rfl)]
  · intro r k hk hne
    rw [bitOf_ofNat_two_pow hn, if_neg (by simpa using Ne.symm hne)]

/-- The block's last SEV bit cleared: the block is no longer severe. -/
theorem State.sevWritten_last (h : regsWf s) (hs : x.s < 16) (hlast : s.get (FLT_SEV x.blk) = 2 ^ x.s) : (s.sevWritten x 0).severe x.blk = false := by
  obtain ⟨hsevs, -, -⟩ := State.sevWritten_shows h hs 0
  refine bne_eq_false_iff_eq.2 (Nat.eq_of_testBit_eq fun k => ?_)
  rw [Nat.zero_testBit]
  by_cases hk : k < 16
  · refine (hsevs k hk).trans ?_
    split
    · rfl
    · next hne => rw [hlast, bitOf, Nat.testBit_two_pow_of_ne (Ne.symm hne)]
  · exact Nat.testBit_lt_two_pow (lt_of_lt_of_le (State.get_lt (FLT_SEV x.blk) 0 0) (Nat.pow_le_pow_right (by decide) (by show 16 ≤ k; omega)))

/-- What the clear of a block's last SEV bit shows. -/
theorem State.lastSevCleared_shows (h : regsWf s) (hs : x.s < 16) (hlast : s.get (FLT_SEV x.blk) = 2 ^ x.s) :
    ((s.sevWritten x 0).holdBit x.blk false).severe x.blk = false ∧ ((s.sevWritten x 0).holdBit x.blk false).get (FLT_N_WCNT x.blk) 0 x.s = 0 ∧
      ∀ adr, adr ∉ [ctrlAddr x.blk 0x10, fltWord x, 0x000214] → ((s.sevWritten x 0).holdBit x.blk false).word adr = s.word adr := by
  have hconf := State.sevWritten_confined h x 0
  obtain ⟨-, hcount, -⟩ := State.sevWritten_shows h hs 0
  refine ⟨?_, ?_, fun adr hadr => ?_⟩
  · refine Eq.trans ?_ (State.sevWritten_last h hs hlast)
    exact congrArg (· != 0) (State.get_holdBit_other hconf.wf _ _ (FLT_SEV x.blk) ((Fld.addr_register ..).trans_ne (ctrlAddr_ne_hold (by decide))))
  · exact (State.get_holdBit_other hconf.wf _ _ (FLT_N_WCNT x.blk) ((Fld.addr_source ..).trans_ne (fltWord_ne_hold hs))).trans hcount
  · simp only [List.mem_cons, List.not_mem_nil, or_false, not_or] at hadr
    obtain ⟨hsev, hflt, hhold⟩ := hadr
    rw [State.word_holdBit_other hconf.wf _ _ hhold, hconf.word adr (not_or.2 ⟨hsev, hflt⟩)]

/-- The clear of a block's last SEV bit, admitted. -/
theorem opSevClear_last (h : regsWf s) (hx : x ∈ allSources) (hc : x.counted = true) (hlast : s.get (FLT_SEV x.blk) = 2 ^ x.s)
    (habsent : (x.level && s.condPresent x.blk x.s) = false) :
    (opSevClear x.blk (BitVec.ofNat 16 (2 ^ x.s)).toNat s).2 = (s.sevWritten x 0).holdBit x.blk false := by
  have hs := source_lt_16 x hx
  have hwas : s.severe x.blk = true := bne_iff_ne.2 (hlast.trans_ne (Nat.two_pow_pos _).ne')
  rw [opSevClear_one x.blk hs, State.sevClearOne_eq hx hc, Bool.and_assoc, habsent, Bool.and_false, if_neg Bool.false_ne_true]
  exact if_pos (by rw [hwas, State.sevWritten_last h hs hlast]; rfl)

theorem sevWord_not_mem_refuseRegs (b : Block) : ctrlAddr b 0x10 ∉ refuseRegs b := by cases b <;> decide

/-- With the condition present the clear is refused with the source's reason. -/
theorem opSevClear_present (h : regsWf s) (hx : x ∈ allSources) (hc : x.counted = true) (hsev : s.flag (bitFld (ctrlAddr x.blk 0x10) x.s) = true)
    (hlevel : x.level = true) (hcond : s.condPresent x.blk x.s = true) :
    (opSevClear x.blk (BitVec.ofNat 16 (2 ^ x.s)).toNat s).2 = s.refuse x.blk x.persist x.blk.ctrlUnit 0x10 := by
  have hs := source_lt_16 x hx
  have hstays : (s.refuse x.blk x.persist x.blk.ctrlUnit 0x10).severe x.blk = true := by
    rw [← State.severe_of_sev hsev hs, State.severe, State.severe, State.get, State.get, FLT_SEV, Fld.addr_register,
      State.word_refuse_other h _ _ _ _ (sevWord_not_mem_refuseRegs x.blk)]
  rw [opSevClear_one x.blk hs, State.sevClearOne_eq hx hc, hsev, hlevel, hcond, Bool.and_self, Bool.and_self, if_pos (rfl : true = true)]
  exact if_neg (by rw [hstays, Bool.not_true, Bool.and_false]; decide)

/-! The end of a window (R101). -/

theorem opFltWindowClose_source (hx : x ∈ allSources) (hc : x.counted = true) : opFltWindowClose x.blk x.s s = s.set (FLT_N_WCNT x.blk) 0 0 x.s :=
  if_pos (List.any_eq_true.2 ⟨x, hx, by simp [hc]⟩)

/-! A clear of one hold bit (R109). -/

theorem nodup_allBlocks : allBlocks.Nodup := by decide

theorem block_no_inj {c : Block} (h : b.no = c.no) : b = c :=
  List.inj_on_of_nodup_map (by decide : (allBlocks.map Block.no).Nodup) (mem_allBlocks b) (mem_allBlocks c) h

/-- A clear of one hold bit is judged for that block alone. -/
theorem opFaultHoldClear_one (b : Block) : (opFaultHoldClear (BitVec.ofNat 32 (2 ^ b.no)).toNat s).2 =
    if s.severe b then (s.refuseC .sys STATE 0x02 0x14).saveHold else s.holdBit b false := by
  have hno := block_no_lt b
  have hbit : ∀ k, bitOf (BitVec.ofNat 32 (2 ^ b.no)).toNat k = decide (b.no = k) := bitOf_ofNat_two_pow (by omega)
  have hself : bitOf (BitVec.ofNat 32 (2 ^ b.no)).toNat b.no = true := (hbit _).trans (decide_eq_true rfl)
  have htop : bitOf (BitVec.ofNat 32 (2 ^ b.no)).toNat 31 = false := (hbit _).trans (decide_eq_false (by omega))
  unfold opFaultHoldClear
  rw [htop, foldl_at (x := b) nodup_allBlocks (mem_allBlocks b), hself]
  · cases s.severe b <;> rfl
  · intro r c hc hne
    rw [hbit, if_neg (by simpa using fun e => hne (block_no_inj e).symm)]

end Sys2Proof.Machine
end

section
/-! CERTIFICATE. The clears of EVT, SEV and SYS_FAULT_HOLD and the end of a window (R101, R103, R105, R108, R109), settled. -/

namespace Sys2Proof.Machine

open Sys2Proof.Safety

/-- Settles O22: each clear names one source or one block, so that its pass over the mask acts there alone. The control unit and offset 0x10 that a refused SEV clear records beside the source's own reason are the model's choice (log entry 60). -/
theorem faultNoticesAreCleared : Obligations.FaultNoticesAreCleared := by
  unfold Obligations.FaultNoticesAreCleared
  refine ⟨fun s b m hwf hup => ?evt, fun s x hwf hup hx hc hlast habsent => ?sev, fun s x hwf hup hx hc hsev hlevel hcond => ?sevRefused,
    fun s x hwf hup hx hc => ?window, fun s b hwf hup hsev => ?hold, fun s b hwf hup hsev => ?holdRefused⟩
  case evt =>
    refine ⟨_, congrArg Host.Outcome.next (State.live_up hup _), ?_, rfl, fun adr hadr => ?_⟩
    · rw [opEvtClear, State.get_set_same hwf _ _ _ _ (by decide : 0 + 16 ≤ 32), Nat.mod_eq_of_lt m.isLt]
      exact Nat.mod_eq_of_lt (lt_of_le_of_lt Nat.and_le_left (s.get_lt (STATUS_EVT b) 0 0))
    · exact State.word_set_other hwf _ _ _ _ ((List.ne_of_not_mem_cons hadr).trans_eq (Fld.addr_register ..).symm)
  case sev =>
    obtain ⟨hsev, hcount, hframe⟩ := State.lastSevCleared_shows hwf (source_lt_16 x hx) hlast
    obtain ⟨hhold, hcopy⟩ := State.holdBit_shows (State.sevWritten_confined hwf x 0).wf x.blk false
    exact ⟨_, congrArg Host.Outcome.next ((State.live_up hup _).trans (opSevClear_last hwf hx hc hlast habsent)), hsev, hcount, hhold, hcopy, rfl, hframe⟩
  case sevRefused =>
    obtain ⟨hreason, hunit, hoffset, honly, hframe⟩ := State.refuse_shows hwf x.blk x.persist x.blk.ctrlUnit 0x10
    exact ⟨_, congrArg Host.Outcome.next ((State.live_up hup _).trans (opSevClear_present hwf hx hc hsev hlevel hcond)),
      hframe _ (sevWord_not_mem_refuseRegs x.blk), hreason.trans (Nat.mod_eq_of_lt (persist_lt x hx)),
      hunit.trans (Nat.mod_eq_of_lt (ctrlUnit_lt x.blk)), hoffset, honly, hframe⟩
  case window =>
    have hnum : (Fin.ofNat 16 x.s).val = x.s := Nat.mod_eq_of_lt (source_lt_16 x hx)
    have hop : opFltWindowClose x.blk (Fin.ofNat 16 x.s).val s = s.set (FLT_N_WCNT x.blk) 0 0 x.s := by rw [hnum, opFltWindowClose_source hx hc]
    refine ⟨_, congrArg Host.Outcome.next ((State.live_up hup _).trans hop), State.get_set_same hwf _ _ _ _ (by decide : 8 + 8 ≤ 32), ?_, ?_, rfl,
      fun adr hadr => State.word_set_other hwf _ _ _ _ ((List.ne_of_not_mem_cons hadr).trans_eq (Fld.addr_source ..).symm)⟩
    · exact State.get_set_other hwf (FLT_N_WCNT x.blk) (FLT_N_N x.blk) 0 0 x.s 0 x.s (by decide : 8 + 8 ≤ 32) (.inr (.inl (Nat.le_refl 8)))
    · exact State.get_set_other hwf (FLT_N_WCNT x.blk) (FLT_N_TOTAL x.blk) 0 0 x.s 0 x.s (by decide : 8 + 8 ≤ 32) (.inr (.inr (Nat.le_refl 16)))
  case hold =>
    obtain ⟨hhold, hcopy⟩ := State.holdBit_shows hwf b false
    have hno := block_no_lt b
    refine ⟨_, congrArg Host.Outcome.next ((State.live_up hup _).trans ((opFaultHoldClear_one b).trans (if_neg (Bool.eq_false_iff.1 hsev)))), hhold, hcopy,
      ?_, rfl, fun adr hadr => State.word_holdBit_other hwf b false (List.ne_of_not_mem_cons hadr)⟩
    refine congrArg (· != 0) (State.get_set_other hwf (bitFld 0x000214 b.no) SYS_FAULT_HOLD_RESTORE_ERR 0 0 0 0 0 ?_ (.inr (.inr ?_)))
    · show b.no + 1 ≤ 32
      omega
    · show b.no + 1 ≤ 31
      omega
  case holdRefused =>
    obtain ⟨hreason, hunit, hoffset, -, hframe⟩ := State.refuse_shows hwf .sys (Block.sys.no * 0x100 + STATE) 0x02 0x14
    exact ⟨_, congrArg Host.Outcome.next ((State.live_up hup _).trans ((opFaultHoldClear_one b).trans (if_pos hsev))), hframe _ (by decide), hreason, hunit,
      hoffset, rfl, hframe⟩

end Sys2Proof.Machine
end

section
/-! CERTIFICATE. The host's corrections of network time (R115 to R120), refuted: the entry that logs a step keeps the other bytes of the memory only where these are held in canonical form. -/

namespace Sys2Proof.Machine

open Sys2Proof.Safety

/-- A running die whose host memory space lists address 5 behind an address of the change log, out of order. -/
def listedOutOfOrder : State :=
  { State.reset with pwr := { State.reset.pwr with coreUp := true }, mem := [(MRAM + 0x68002, 1#8), (5, 1#8)] }

/-- Byte 5 is not found behind the larger address. -/
theorem byte_listedOutOfOrder : listedOutOfOrder.byte 5 = 0#8 := by decide

/-- The entry of the step has 0 in its third byte, which removes the larger address and uncovers byte 5. -/
theorem byte_opTimeStep_listedOutOfOrder : (opTimeStep 0 0 listedOutOfOrder).2.byte 5 = 1#8 := by decide +kernel

/-- Refutes O13 by its first clause: it holds the registers, but not the memory, to their canonical form, and where the memory lists addresses out of order the log's entry (R547) changes what an address below the log reads as. The premise `memWf s` would exclude such a state. -/
theorem not_hostCorrectionsOfNetworkTime : ¬ Obligations.HostCorrectionsOfNetworkTime := by
  unfold Obligations.HostCorrectionsOfNetworkTime
  rintro ⟨hstep, _⟩
  obtain ⟨t, hexec, _, _, _, _, _, _, hbyte, _⟩ :=
    hstep listedOutOfOrder 0#32 rfl rfl (by decide +kernel) (by decide +kernel) (by decide +kernel) (by decide +kernel) rfl (by decide +kernel)
  have ht : (opTimeStep 0 0 listedOutOfOrder).2 = t := Host.Outcome.next.inj hexec
  have hsame := hbyte 5 (by decide)
  rw [← ht, byte_opTimeStep_listedOutOfOrder, byte_listedOutOfOrder] at hsame
  exact absurd hsame (by decide)

end Sys2Proof.Machine
end

section
/-! SUPPORT. The correction of network time by an offset (R116, R121, R125): a sample within the threshold, shown in TIME_OFS_LAST, and the mean path delay (R122). -/

namespace Sys2Proof.Machine

open Sys2Proof.Safety

variable {W : Nat → Prop} {s t : State}

/-- A number that fits 32 bits is read as it was stored. -/
theorem signed_unsigned {v : Int} (hlo : -(2 ^ 31) ≤ v) (hhi : v < 2 ^ 31) : signed 32 (unsigned 32 v) = v := by
  rw [signed, unsigned, BitVec.ofNat_toNat, BitVec.setWidth_eq, BitVec.toInt_ofInt]
  exact Int.bmod_eq_of_le (by omega) (by omega)

/-- A signed field of 32 bits reads as written. -/
theorem State.geti_seti_same (h : regsWf s) (f : Fld) (hlo : f.lo = 0) (hw : f.w = 32) (u i : Nat) {v : Int} (hmin : -(2 ^ 31) ≤ v) (hmax : v < 2 ^ 31) :
    (s.seti f v u i).geti f u i = v := by
  have hbits : unsigned 32 v < 2 ^ 32 := (BitVec.ofInt 32 v).isLt
  rw [State.geti, State.seti_eq, State.get_set_same h f _ u i (by omega), hw, Nat.mod_eq_of_lt hbits, signed_unsigned hmin hmax]

/-- A one-bit field reads as written. -/
theorem State.flag_setb_same (h : regsWf s) (f : Fld) (hlo : f.lo + 1 ≤ 32) (hw : f.w = 1) (u i : Nat) (v : Bool) : (s.setb f v u i).flag f u i = v := by
  rw [State.flag_eq, State.setb_eq, State.get_set_same h f _ u i (by omega), hw, b2n_mod_two]

theorem Confined.geti (h : Confined W s t) (f : Fld) (u i : Nat) (ha : ¬ W (f.addr u i)) : t.geti f u i = s.geti f u i := by
  simp only [State.geti, h.get f u i ha]

/-! The phase correction (R116). -/

/-- SLEWING follows a phase correction that is not zero. -/
theorem State.flag_setPhase_slewing (h : regsWf s) (p : Int) : (s.setPhase p).flag TIME_SYNC_STAT_SLEWING = (p != 0) :=
  State.flag_setb_same h TIME_SYNC_STAT_SLEWING (by decide) rfl 0 0 _

theorem Confined.setPhase {p : Int} (h : Confined W s t) (hstat : W 0x040128) : Confined W s (t.setPhase p) :=
  (h.setb (f := TIME_SYNC_STAT_SLEWING) (u := 0) (i := 0) (v := p != 0) hstat).keep rfl rfl rfl

/-- The correction that takes back an offset is zero exactly where the offset is. -/
theorem correction_ne_zero (o : Int) : (-o * 2 ^ 32 != 0) = decide (o ≠ 0) := by
  rw [bne, beq_eq_decide, ← decide_not, decide_eq_decide]
  omega

/-! A sample within the threshold (R117, R121, R125). -/

/-- The phase and the frequency corrected by an offset. -/
def State.corrected (s : State) (o : Int) : State := (s.setPhase (-o * 2 ^ 32)).addFreq (s.freqStep o)

/-- The registers of a sample within the threshold: the corrections, and the synchronisation state that follows. -/
theorem State.goodSample_regs (s : State) (o : Int) : ∃ st, (s.goodSample o).regs = ((s.corrected o).set TIME_SYNC_STAT_STATE st).regs := ⟨_, rfl⟩

theorem State.corrected_confined (h : regsWf s) (o : Int) : Confined (· ∈ [0x040114, 0x040128]) s (s.corrected o) :=
  .seti (.setPhase (.refl h) (by decide)) (by decide)

/-- The frequency adjustment leaves SLEWING as the phase correction set it. -/
theorem State.flag_corrected_slewing (h : regsWf s) (o : Int) : (s.corrected o).flag TIME_SYNC_STAT_SLEWING = decide (o ≠ 0) := by
  have hphase : Confined (· ∈ [0x040128]) s (s.setPhase (-o * 2 ^ 32)) := .setPhase (.refl h) (by decide)
  have hfreq : Confined (· ∈ [0x040114]) (s.setPhase (-o * 2 ^ 32)) (s.corrected o) := .seti (.refl hphase.wf) (by decide)
  rw [hfreq.flag _ 0 0 (by decide), State.flag_setPhase_slewing h, correction_ne_zero]

/-- What a sample within the threshold writes: the frequency adjustment and TIME_SYNC_STAT, whose SLEWING follows the offset. -/
theorem State.goodSample_shows (h : regsWf s) (o : Int) :
    Confined (· ∈ [0x040114, 0x040128]) s (s.goodSample o) ∧ (s.goodSample o).flag TIME_SYNC_STAT_SLEWING = decide (o ≠ 0) := by
  obtain ⟨st, hregs⟩ := s.goodSample_regs o
  have hcyc : (s.goodSample o).cyc = s.cyc := rfl
  have hpart : (s.goodSample o).part = s.part := rfl
  have hcorr := s.corrected_confined h o
  refine ⟨(hcorr.set (f := TIME_SYNC_STAT_STATE) (u := 0) (i := 0) (v := st) (by decide)).keep hregs hcyc hpart, ?_⟩
  rw [State.flag_eq, State.get_congr hregs, State.get_set_other hcorr.wf _ _ _ _ _ _ _ (by decide) (.inr (.inr (by decide)))]
  exact s.flag_corrected_slewing h o

/-- An offset within the threshold is shown, and corrects the clock. -/
theorem State.offsetSample_within (h : regsWf s) {o : Int} (ho : o.natAbs ≤ s.get TIME_SLEW_CFG_JUMP_THR) :
    s.offsetSample o = (s.seti TIME_OFS_LAST_OFS o).goodSample o := by
  have hthr : s.get TIME_SLEW_CFG_JUMP_THR < 2 ^ 20 := s.get_lt TIME_SLEW_CFG_JUMP_THR 0 0
  have hclamp : clampInt (-(2 ^ 31)) (2 ^ 31 - 1) o = o := by
    rw [clampInt]
    omega
  have hsame : (s.seti TIME_OFS_LAST_OFS o).get TIME_SLEW_CFG_JUMP_THR = s.get TIME_SLEW_CFG_JUMP_THR :=
    State.get_set_other h _ _ _ _ _ _ _ (by decide) (.inl (by decide))
  rw [State.offsetSample, hclamp]
  exact if_pos (by rw [hsame]; exact ho)

/-- A sample of which t2 - t1 is known, with no Sync waiting (R122). -/
def State.syncTaken (s : State) (t21 : Int) : State := { s with time := { s.time with lastT21 := some t21, sync := none } }

/-- What a complete Sync sample within the threshold shows (R116, R125). -/
theorem State.syncSample_shows (h : regsWf s) {t21 o : Int} (ho : o = t21 - (s.get TIME_MPD_MPD : Nat)) (hthr : o.natAbs ≤ s.get TIME_SLEW_CFG_JUMP_THR) :
    (s.syncSample t21).time.pending = -o * 2 ^ 32 ∧ (s.syncSample t21).geti TIME_OFS_LAST_OFS = o ∧
      (s.syncSample t21).flag TIME_SYNC_STAT_SLEWING = decide (o ≠ 0) ∧ (s.syncSample t21).time.sync = none ∧
      (s.syncSample t21).time.tai = s.time.tai ∧ s.syncSample t21 = { s with regs := (s.syncSample t21).regs, time := (s.syncSample t21).time } ∧
      ∀ adr, adr ∉ ([0x040114, 0x040128, 0x04012C] : List Nat) → (s.syncSample t21).word adr = s.word adr := by
  have h0 : regsWf (s.syncTaken t21) := h
  have hlimit : s.get TIME_SLEW_CFG_JUMP_THR < 2 ^ 20 := s.get_lt TIME_SLEW_CFG_JUMP_THR 0 0
  have hsample : s.syncSample t21 = ((s.syncTaken t21).seti TIME_OFS_LAST_OFS o).goodSample o := by
    rw [ho]
    exact State.offsetSample_within h0 (by rw [← ho]; exact hthr)
  have hofs : Confined (· ∈ [0x040114, 0x040128, 0x04012C]) s ((s.syncTaken t21).seti TIME_OFS_LAST_OFS o) :=
    .seti ((Confined.refl h).keep rfl rfl rfl) (by decide)
  obtain ⟨hgood, hslew⟩ := State.goodSample_shows hofs.wf o
  rw [hsample]
  refine ⟨rfl, ?_, hslew, rfl, rfl, rfl, (hofs.trans (hgood.mono (by simp +contextual))).word⟩
  rw [hgood.geti TIME_OFS_LAST_OFS 0 0 (by decide)]
  exact State.geti_seti_same h0 TIME_OFS_LAST_OFS rfl rfl 0 0 (by omega) (by omega)

/-! The mean path delay (R122). -/

/-- What the end of a delay measurement shows: half the round trip, and no request outstanding. -/
theorem State.setMpd_shows (h : regsWf s) (twice : Int) :
    (s.setMpd twice).get TIME_MPD_MPD = (rdiv twice 2).toNat % 2 ^ 32 ∧ (s.setMpd twice).time = { s.time with req := none } ∧
      s.setMpd twice = { s with regs := (s.setMpd twice).regs, time := (s.setMpd twice).time } ∧
      ∀ adr, adr ∉ ([0x040130] : List Nat) → (s.setMpd twice).word adr = s.word adr :=
  ⟨State.get_set_same h TIME_MPD_MPD _ 0 0 (by decide), rfl, rfl, fun _ hadr => State.word_set_other h TIME_MPD_MPD _ 0 0 (List.ne_of_not_mem_cons hadr)⟩

end Sys2Proof.Machine
end

section
/-! SUPPORT. The messages of the PTP clock (R121 to R125): what each does where it is taken. -/

namespace Sys2Proof.Machine

open Sys2Proof.Safety

variable {s : State}

/-! Received. -/

/-- A one-step Sync of the selected master is a sample at once. -/
theorem opPtpSyncRx_oneStep {m : PtpSync} (hslave : s.slave = true) (hmine : s.ptpMine m.port m.domain m.udp m.plain = true)
    (hsrc : s.time.master.map (·.src) = some m.src) (hone : m.twoStep = false) :
    opPtpSyncRx m s = s.syncSample (s.rxStamp m.port - m.origin.toNat - m.corr) := by
  rw [opPtpSyncRx, if_pos (by simp only [hslave, hmine, hsrc, decide_true, Bool.and_self]), hone]
  rfl

/-- A two-step Sync waits with its receive time. -/
theorem opPtpSyncRx_twoStep {m : PtpSync} (hslave : s.slave = true) (hmine : s.ptpMine m.port m.domain m.udp m.plain = true)
    (hsrc : s.time.master.map (·.src) = some m.src) (htwo : m.twoStep = true) :
    opPtpSyncRx m s = { s with time := { s.time with sync := some (m.src.toNat, m.seq.toNat, s.rxStamp m.port, m.corr) } } := by
  rw [opPtpSyncRx, if_pos (by simp only [hslave, hmine, hsrc, decide_true, Bool.and_self]), htwo]
  rfl

/-- The Follow_Up of the waiting Sync completes its sample. -/
theorem opPtpFollowUpRx_matched {m : PtpFollowUp} {t2 c : Int} (hslave : s.slave = true) (hmine : s.ptpMine m.port m.domain m.udp m.plain = true)
    (hsync : s.time.sync = some (m.src.toNat, m.seq.toNat, t2, c)) :
    opPtpFollowUpRx m s = s.syncSample (t2 - m.origin.toNat - c - m.corr) := by
  simp only [opPtpFollowUpRx, hsync, hslave, hmine, decide_true, Bool.and_self, if_true]

/-- The Delay_Resp to the outstanding request ends the measurement under E2E. -/
theorem opPtpDelayRespRx_matched {m : PtpDelayResp} {t3 d : Int} (hslave : s.slave = true) (hmine : s.ptpMine m.port m.domain m.udp m.plain = true)
    (hus : m.toUs = true) (hsrc : s.time.master.map (·.src) = some m.src) (hlast : s.time.lastT21 = some d) (he2e : s.flag TIME_PTP_CFG_DELAY = false)
    (hreq : s.time.req = some (m.seq.toNat, t3)) :
    opPtpDelayRespRx m s = s.setMpd (d + ((m.receive.toNat : Int) - t3 - m.corr)) := by
  simp only [opPtpDelayRespRx, hreq, hlast, hslave, hmine, hus, hsrc, he2e, decide_true, Bool.not_false, Bool.and_self, if_true]

/-- The Pdelay_Resp to the outstanding request ends it under P2P. -/
theorem opPtpPdelayRespRx_matched {m : PtpPdelayResp} {t1 : Int} (hmine : s.ptpMine m.port m.domain m.udp m.plain = true)
    (hus : m.toUs = true) (hp2p : s.flag TIME_PTP_CFG_DELAY = true) (hreq : s.time.req = some (m.seq.toNat, t1)) :
    opPtpPdelayRespRx m s = s.setMpd ((s.rxStamp m.port - t1) - ((m.transmit.toNat : Int) - m.receive.toNat) - m.corr) := by
  simp only [opPtpPdelayRespRx, hreq, hmine, hus, hp2p, decide_true, Bool.and_self, if_true]

/-! Sent. -/

/-- As slave under E2E, a Delay_Req leaves and its transmit time is kept (R122). -/
theorem opPtpDelayReqSend_e2e (hslave : s.slave = true) (hsends : s.macSends (s.flag TIME_SYNC_STAT_PORT_ACT) = true) (he2e : s.flag TIME_PTP_CFG_DELAY = false) :
    opPtpDelayReqSend s = { s with time := { s.time with
      sent := [⟨1, s.flag TIME_SYNC_STAT_PORT_ACT, s.time.reqSeq, (s.txStamp (s.flag TIME_SYNC_STAT_PORT_ACT)).toNat, 0, []⟩],
      req := some (s.time.reqSeq, s.txStamp (s.flag TIME_SYNC_STAT_PORT_ACT)), reqSeq := (s.time.reqSeq + 1) % 65536 } } := by
  rw [opPtpDelayReqSend, he2e, if_pos (by simp only [hslave, hsends, Bool.true_or, Bool.and_self])]
  rfl

end Sys2Proof.Machine
end

section
/-! CERTIFICATE. A slave corrects its clock and measures the path delay (R116, R117, R122, R125), settled. -/

namespace Sys2Proof.Machine

open Sys2Proof.Safety

/-- Settles O14: a Sync or its Follow_Up that is taken is one sample, a response that is taken one end of a delay measurement. -/
theorem ptpSlaveCorrectsItsClock : Obligations.PtpSlaveCorrectsItsClock := by
  unfold Obligations.PtpSlaveCorrectsItsClock
  refine ⟨?oneStep, ?twoStep, ?followUp, ?delayResp, ?pdelayResp⟩
  case oneStep =>
    intro s m o hwf hup hslave hmine hsrc hone ho hthr
    obtain ⟨hpend, hofs, hslew, -, htai, honly, hframe⟩ := State.syncSample_shows hwf ho hthr
    exact ⟨_, congrArg Host.Outcome.next ((s.live_up hup _).trans (opPtpSyncRx_oneStep hslave hmine hsrc hone)), hpend, hofs, hslew, htai, honly, hframe⟩
  case twoStep =>
    intro s m hup hslave hmine hsrc htwo
    exact ⟨_, congrArg Host.Outcome.next ((s.live_up hup _).trans (opPtpSyncRx_twoStep hslave hmine hsrc htwo)), rfl⟩
  case followUp =>
    intro s m t2 c o hwf hup hslave hmine hsync ho hthr
    obtain ⟨hpend, hofs, -, hnone, htai, honly, hframe⟩ := State.syncSample_shows hwf ho hthr
    exact ⟨_, congrArg Host.Outcome.next ((s.live_up hup _).trans (opPtpFollowUpRx_matched hslave hmine hsync)), hpend, hofs, hnone, htai, honly, hframe⟩
  case delayResp =>
    intro s m t3 d hwf hup hslave hmine hus hsrc hlast he2e hreq
    exact ⟨_, congrArg Host.Outcome.next ((s.live_up hup _).trans (opPtpDelayRespRx_matched hslave hmine hus hsrc hlast he2e hreq)), State.setMpd_shows hwf _⟩
  case pdelayResp =>
    intro s m t1 hwf hup hmine hus hp2p hreq
    exact ⟨_, congrArg Host.Outcome.next ((s.live_up hup _).trans (opPtpPdelayRespRx_matched hmine hus hp2p hreq)), State.setMpd_shows hwf _⟩

end Sys2Proof.Machine
end

section
/-! SUPPORT. A PTP master is selected, or lost (R121, R123, R124): what TIME_SYNC_STAT, the grandmaster's identity and the event show. -/

namespace Sys2Proof.Machine

open Sys2Proof.Safety

variable {W : Nat → Prop} {s t u : State}

/-! Operations that change registers and network time only. -/

/-- Nothing but registers and network time differs. -/
abbrev TimeOnly (s t : State) : Prop := t = { s with regs := t.regs, time := t.time }

theorem timeOnly_trans (h : TimeOnly s t) (h' : TimeOnly t u) : TimeOnly s u :=
  Eq.trans h' (congrArg (fun x : State => { x with regs := u.regs, time := u.time }) h)

theorem timeOnly_of_regsOnly (h : RegsOnly s t) : TimeOnly s t :=
  h.trans (congrArg (fun x : TimeState => { s with regs := t.regs, time := x }) (congrArg State.time h).symm)

/-- The power state stands, as the rest does. -/
theorem TimeOnly.withPwr (h : TimeOnly s t) : t = { s with regs := t.regs, time := t.time, pwr := t.pwr } :=
  h.trans (congrArg (fun x : PowerState => { s with regs := t.regs, time := t.time, pwr := x }) (congrArg State.pwr h).symm)

/-! Registers of 64 bits (R3). -/

/-- A pair reads as written. -/
theorem State.get64_set64_same (h : regsWf s) (f : Fld) (v u i : Nat) : (s.set64 f v u i).get64 f u i = v % 2 ^ 64 := by
  have hlow : (s.set64 f v u i).word (f.addr u i) = BitVec.ofNat 32 v :=
    (State.word_putWord_other (regsWf_putWord h _ _) _ (by omega)).trans (State.word_putWord_same h _ _)
  have hhigh : (s.set64 f v u i).word (f.addr u i + 4) = BitVec.ofNat 32 (v / 2 ^ 32) := State.word_putWord_same (regsWf_putWord h _ _) _ _
  rw [State.get64, hlow, hhigh, BitVec.toNat_ofNat, BitVec.toNat_ofNat]
  omega

/-- A pair both of whose registers lie outside `W` stands. -/
theorem Confined.get64 (h : Confined W s t) (f : Fld) (u i : Nat) (ha : ¬ W (f.addr u i)) (ha4 : ¬ W (f.addr u i + 4)) : t.get64 f u i = s.get64 f u i := by
  simp only [State.get64, h.word _ ha, h.word _ ha4]

/-! The first master (R123, R124). -/

/-- A master's UTC offset and its grandmaster in the registers. -/
def State.masterNamed (s : State) (a : PtpAnnounce) : State :=
  ((s.set TIME_SYNC_STAT_UTC_OFS a.utcOffset.toNat).setb TIME_SYNC_STAT_UTC_VALID a.utcValid).set64 TIME_PTP_GM_ID a.gm.toNat

/-- The master selected. -/
def State.masterHeld (s : State) (a : PtpAnnounce) : State := { s.masterNamed a with time := { s.time with master := some a } }

/-- ACQUIRING from a new master. -/
def State.masterTaken (s : State) (a : PtpAnnounce) : State := (s.masterHeld a).set TIME_SYNC_STAT_STATE ACQUIRING

/-- The servo's counts start afresh. -/
def State.servoFresh (s : State) : State := { s with time := { s.time with jumpRun := 0, inRun := 0, outRun := 0, sync := none, lastOfs := none } }

/-- With no master selected, an announced one is new: MASTER_CHANGE is noted. -/
theorem State.selectMaster_first (a : PtpAnnounce) (h : s.time.master = none) :
    s.selectMaster a = ((s.masterTaken a).noted SRC_TIME_MASTER_CHANGE 0x00).servoFresh := by
  have hnew : decide (s.time.master.map (·.gm) ≠ some a.gm) = true := by simp [h]
  rw [State.selectMaster, if_pos hnew, ← State.raise_uncounted _ rfl]
  rfl

theorem State.masterNamed_confined (h : regsWf s) (a : PtpAnnounce) : Confined (· ∈ [0x040128, 0x040214, 0x040218]) s (s.masterNamed a) :=
  .set64 (.setb (.set (.refl h) (by decide)) (by decide)) (by decide) (by decide)

/-- What the registers show of a master. -/
theorem State.masterNamed_shows (h : regsWf s) (a : PtpAnnounce) :
    (s.masterNamed a).get64 TIME_PTP_GM_ID = a.gm.toNat ∧ (s.masterNamed a).get TIME_SYNC_STAT_UTC_OFS = a.utcOffset.toNat ∧
      (s.masterNamed a).flag TIME_SYNC_STAT_UTC_VALID = a.utcValid := by
  have h1 := regsWf_set h TIME_SYNC_STAT_UTC_OFS a.utcOffset.toNat 0 0
  have h2 := regsWf_setb h1 TIME_SYNC_STAT_UTC_VALID a.utcValid 0 0
  have hgm : Confined (· ∈ [0x040214, 0x040218]) ((s.set TIME_SYNC_STAT_UTC_OFS a.utcOffset.toNat).setb TIME_SYNC_STAT_UTC_VALID a.utcValid) (s.masterNamed a) :=
    .set64 (.refl h2) (by decide) (by decide)
  refine ⟨?gm, ?utcOffset, ?utcValid⟩
  case gm => exact (State.get64_set64_same h2 ..).trans (Nat.mod_eq_of_lt a.gm.isLt)
  case utcOffset =>
    rw [hgm.get _ _ _ (by decide), State.setb_eq, State.get_set_other h1 _ _ _ _ _ _ _ (by decide) (.inr (.inr (by decide))),
      State.get_set_same h _ _ _ _ (by decide)]
    exact Nat.mod_eq_of_lt a.utcOffset.isLt
  case utcValid =>
    rw [hgm.flag _ _ _ (by decide)]
    exact State.flag_setb_same h1 _ (by decide) rfl _ _ _

/-- The selection itself leaves the registers. -/
theorem State.masterHeld_confined (h : regsWf s) (a : PtpAnnounce) : Confined (fun _ => False) (s.masterNamed a) (s.masterHeld a) :=
  (Confined.refl (s.masterNamed_confined h a).wf).keep rfl rfl rfl

theorem State.masterTaken_confined (h : regsWf s) (a : PtpAnnounce) : Confined (· ∈ [0x040128, 0x040214, 0x040218]) s (s.masterTaken a) :=
  .set ((s.masterNamed_confined h a).trans ((s.masterHeld_confined h a).mono fun _ => False.elim)) (by decide)

/-- ACQUIRING stands beside what the registers show of the master. -/
theorem State.masterTaken_shows (h : regsWf s) (a : PtpAnnounce) :
    (s.masterTaken a).get TIME_SYNC_STAT_STATE = ACQUIRING ∧ (s.masterTaken a).get64 TIME_PTP_GM_ID = a.gm.toNat ∧
      (s.masterTaken a).get TIME_SYNC_STAT_UTC_OFS = a.utcOffset.toNat ∧ (s.masterTaken a).flag TIME_SYNC_STAT_UTC_VALID = a.utcValid := by
  have hheld := s.masterHeld_confined h a
  have hstate : Confined (· ∈ [0x040128]) (s.masterHeld a) (s.masterTaken a) := .set (.refl hheld.wf) (by decide)
  obtain ⟨hgm, hofs, hvalid⟩ := s.masterNamed_shows h a
  refine ⟨State.get_set_same hheld.wf _ _ _ _ (by decide), ?gm, ?utcOffset, ?utcValid⟩
  case gm => rw [hstate.get64 _ _ _ (by decide) (by decide), hheld.get64 _ _ _ id id, hgm]
  case utcOffset =>
    rw [State.masterTaken, State.get_set_other hheld.wf _ _ _ _ _ _ _ (by decide) (.inr (.inr (by decide))), hheld.get _ _ _ id, hofs]
  case utcValid =>
    rw [State.flag_eq, State.masterTaken, State.get_set_other hheld.wf _ _ _ _ _ _ _ (by decide) (.inr (.inr (by decide))), ← State.flag_eq,
      hheld.flag _ _ _ id, hvalid]

/-! Events that are only noted (R97). -/

theorem Confined.noted {src : Source} {unit : Nat} (h : Confined W s t) (hW : ∀ a ∈ evtRegs src.blk src.s, W a) : Confined W s (t.noted src unit) :=
  .putWord (.set h (hW _ (by simp [evtRegs, Fld.addr]))) (hW _ (by simp [evtRegs]))

theorem State.noted_time (s : State) (src : Source) (unit : Nat) : (s.noted src unit).time = s.time := rfl

/-- A source that is not counted sets its STATUS bit. -/
theorem State.noted_status (h : regsWf s) {src : Source} {b : Block} (hb : src.blk = b) (hsrc : src.counted = false) (unit : Nat) (hs : src.s < 16) :
    (s.noted src unit).get ⟨ctrlAddr b 0x04, 0, 0, src.s, 1⟩ = 1 := by
  subst hb
  rw [← State.raise_uncounted s hsrc, State.raise_status h src unit hs]

/-! What the selection leaves (R123). -/

theorem State.masterTaken_timeOnly (s : State) (a : PtpAnnounce) : TimeOnly s (s.masterTaken a) := rfl

theorem State.masterTaken_time (s : State) (a : PtpAnnounce) : (s.masterTaken a).time = { s.time with master := some a } := rfl

theorem Confined.servoFresh (h : Confined W s t) : Confined W s t.servoFresh := h.keep rfl rfl rfl

theorem State.servoFresh_time (s : State) :
    s.servoFresh.time = { s.time with jumpRun := 0, inRun := 0, outRun := 0, sync := none, lastOfs := none } := rfl

theorem State.servoFresh_timeOnly (s : State) : TimeOnly s s.servoFresh := rfl

theorem State.get_servoFresh (s : State) (f : Fld) (u i : Nat) : s.servoFresh.get f u i = s.get f u i := State.get_congr rfl f u i

theorem State.selectMaster_time (a : PtpAnnounce) (h : s.time.master = none) : (s.selectMaster a).time =
    { s.time with master := some a, jumpRun := 0, inRun := 0, outRun := 0, sync := none, lastOfs := none } := by
  rw [State.selectMaster_first a h, State.servoFresh_time, State.noted_time, State.masterTaken_time]

/-- What the selection of the first master shows. -/
theorem State.selectMaster_shows (h : regsWf s) (a : PtpAnnounce) (hnone : s.time.master = none) :
    (s.selectMaster a).get TIME_SYNC_STAT_STATE = ACQUIRING ∧ (s.selectMaster a).get64 TIME_PTP_GM_ID = a.gm.toNat ∧
      (s.selectMaster a).get TIME_SYNC_STAT_UTC_OFS = a.utcOffset.toNat ∧ (s.selectMaster a).flag TIME_SYNC_STAT_UTC_VALID = a.utcValid ∧
      (s.selectMaster a).time.master = some a ∧ (s.selectMaster a).get ⟨ctrlAddr .time 0x04, 0, 0, SRC_TIME_MASTER_CHANGE.s, 1⟩ = 1 ∧
      (s.selectMaster a).time.tai = s.time.tai ∧
      s.selectMaster a = { s with regs := (s.selectMaster a).regs, time := (s.selectMaster a).time, pwr := (s.selectMaster a).pwr } ∧
      ∀ adr, adr ∉ ([0x040128, 0x040214, 0x040218] ++ evtRegs .time SRC_TIME_MASTER_CHANGE.s : List Nat) → (s.selectMaster a).word adr = s.word adr := by
  have htaken := s.masterTaken_confined h a
  have hnoted := State.noted_status htaken.wf (show SRC_TIME_MASTER_CHANGE.blk = .time from rfl) rfl 0x00 (by decide)
  have hevt : Confined (· ∈ evtRegs .time SRC_TIME_MASTER_CHANGE.s) (s.masterTaken a) (s.selectMaster a) := by
    rw [State.selectMaster_first a hnone]
    exact .servoFresh (.noted (.refl htaken.wf) fun _ ha => ha)
  have honly : TimeOnly s (s.selectMaster a) := by
    rw [State.selectMaster_first a hnone]
    exact timeOnly_trans (timeOnly_trans (s.masterTaken_timeOnly a) (timeOnly_of_regsOnly (State.noted_regsOnly ..))) (State.servoFresh_timeOnly _)
  obtain ⟨hstate, hgm, hofs, hvalid⟩ := s.masterTaken_shows h a
  refine ⟨(hevt.get TIME_SYNC_STAT_STATE 0 0 (by decide)).trans hstate, (hevt.get64 TIME_PTP_GM_ID 0 0 (by decide) (by decide)).trans hgm,
    (hevt.get TIME_SYNC_STAT_UTC_OFS 0 0 (by decide)).trans hofs, (hevt.flag TIME_SYNC_STAT_UTC_VALID 0 0 (by decide)).trans hvalid,
    by rw [State.selectMaster_time a hnone], ?status, by rw [State.selectMaster_time a hnone], honly.withPwr,
    ((htaken.mono fun _ => List.mem_append_left _).trans (hevt.mono fun _ => List.mem_append_right _)).word⟩
  case status => rw [State.selectMaster_first a hnone, State.get_servoFresh, hnoted]

/-- An Announce of the PTP time scale on the active port, under ROLE = 1 with no master selected, selects its sender. -/
theorem opPtpAnnounceRx_first {a : PtpAnnounce} (htaken : s.ptpTaken a.domain a.udp a.plain = true) (hsrc : s.get TIME_SLEW_CFG_SRC = 1)
    (hrole : s.get TIME_PTP_CFG_ROLE = 1) (hscale : a.ptpScale = true) (hport : a.port = s.flag TIME_SYNC_STAT_PORT_ACT) (hnone : s.time.master = none) :
    opPtpAnnounceRx a s = s.selectMaster a := by
  have hloses : s.ownWins a = false := by simp [State.ownWins, hrole]
  simp [opPtpAnnounceRx, htaken, hsrc, hrole, hscale, hport, hloses, hnone]

/-! No master (R121). -/

/-- The servo without a master. -/
def State.masterless (s : State) : State := { s with time := { s.time with master := none, sync := none, jumpRun := 0, lastOfs := none, backup := none } }

theorem State.masterless_timeOnly (s : State) : TimeOnly s s.masterless := rfl

/-- The receipt timeout of an only-slave without BACKUP, not yet in HOLDOVER, notes MASTER_LOST and enters it. -/
theorem opAnnounceTimeout_alone (hen : s.en .time = true) (hsrc : s.get TIME_SLEW_CFG_SRC = 1) (hrole : s.get TIME_PTP_CFG_ROLE = 1)
    (hmaster : s.get TIME_SYNC_STAT_STATE ≠ MASTER) (halone : s.flag TIME_PTP_CFG_BACKUP = false) (hhold : s.get TIME_SYNC_STAT_STATE ≠ HOLDOVER) :
    opAnnounceTimeout s = (s.masterless.noted SRC_TIME_MASTER_LOST 0x00).set TIME_SYNC_STAT_STATE HOLDOVER := by
  have hother : s.otherMaster = none := by simp [State.otherMaster, halone]
  have hnot : (s.masterless.get TIME_SYNC_STAT_STATE != HOLDOVER) = true := bne_iff_ne.2 hhold
  have hskip : ¬ ((!s.en .time || s.get TIME_SLEW_CFG_SRC != 1 || (s.get TIME_PTP_CFG_ROLE != 1 && s.get TIME_PTP_CFG_ROLE != 2) ||
      s.get TIME_SYNC_STAT_STATE == MASTER) = true) := by
    simp [hen, hsrc, hrole, hmaster]
  rw [opAnnounceTimeout, if_neg hskip, hother]
  show s.masterless.enterHoldover = _
  rw [State.enterHoldover, hnot, State.raiseIf_true, State.raise_uncounted _ rfl]

end Sys2Proof.Machine
end

section
/-! CERTIFICATE. The PTP clock answers, sends, selects a master and loses it (R121 to R124), settled. -/

namespace Sys2Proof.Machine

open Sys2Proof.Safety

/-- Settles O15: each message that is due is sent at once and leaves the registers; the first Announce selects its sender, and its loss without another is HOLDOVER. -/
theorem ptpMessagesAreAnsweredAndSent : Obligations.PtpMessagesAreAnsweredAndSent := by
  unfold Obligations.PtpMessagesAreAnsweredAndSent
  refine ⟨?delayReq, ?pdelayReq, ?syncSend, ?announceSend, ?delayReqSend, ?announce, ?timeout⟩
  case delayReq =>
    intro s m hup hmaster hmine hsends he2e
    refine ⟨_, congrArg Host.Outcome.next ((s.live_up hup _).trans (if_pos ?_)), rfl⟩
    simp only [hmaster, hmine, hsends, he2e, Bool.not_false, Bool.and_self]
  case pdelayReq =>
    intro s m hup hmine hsends hp2p hrole
    refine ⟨_, congrArg Host.Outcome.next ((s.live_up hup _).trans (if_pos ?_)), rfl⟩
    simp only [hmine, hsends, hp2p, hrole, ne_eq, not_false_eq_true, decide_true, Bool.and_self]
  case syncSend =>
    intro s hup hmaster hsends
    refine ⟨_, congrArg Host.Outcome.next ((s.live_up hup _).trans (if_pos ?_)), rfl⟩
    simp only [hmaster, hsends, Bool.and_self]
  case announceSend =>
    intro s hup hmaster hsends
    refine ⟨_, congrArg Host.Outcome.next ((s.live_up hup _).trans (if_pos ?_)), rfl⟩
    simp only [hmaster, hsends, Bool.and_self]
  case delayReqSend =>
    intro s hup hslave hsends he2e
    exact ⟨_, congrArg Host.Outcome.next ((s.live_up hup _).trans (opPtpDelayReqSend_e2e hslave hsends he2e)), rfl⟩
  case announce =>
    intro s a hwf hup htaken hsrc hrole hscale hport hnone
    exact ⟨_, congrArg Host.Outcome.next ((s.live_up hup _).trans (opPtpAnnounceRx_first htaken hsrc hrole hscale hport hnone)), State.selectMaster_shows hwf a hnone⟩
  case timeout =>
    intro s hwf hup hen hsrc hrole hmaster halone hhold
    have hlost : Confined (· ∈ [0x040128] ++ evtRegs .time SRC_TIME_MASTER_LOST.s) s (s.masterless.noted SRC_TIME_MASTER_LOST 0x00) :=
      .noted ((Confined.refl hwf).keep rfl rfl rfl) fun _ => List.mem_append_right _
    have htime : ((s.masterless.noted SRC_TIME_MASTER_LOST 0x00).set TIME_SYNC_STAT_STATE HOLDOVER).time = s.masterless.time := by
      rw [State.set_time, State.noted_time]
    have honly : TimeOnly s ((s.masterless.noted SRC_TIME_MASTER_LOST 0x00).set TIME_SYNC_STAT_STATE HOLDOVER) :=
      timeOnly_trans s.masterless_timeOnly (timeOnly_of_regsOnly (regsOnly_trans (State.noted_regsOnly ..) rfl))
    have hnoted := State.noted_status (s := s.masterless) hwf (show SRC_TIME_MASTER_LOST.blk = .time from rfl) rfl 0x00 (by decide)
    exact ⟨_, congrArg Host.Outcome.next ((s.live_up hup _).trans (opAnnounceTimeout_alone hen hsrc hrole hmaster halone hhold)),
      State.get_set_same hlost.wf _ _ _ _ (by decide), congrArg TimeState.master htime,
      (State.get_set_other hlost.wf _ _ _ _ _ _ _ (by decide) (.inl (by decide))).trans hnoted, (congrArg TimeState.tai htime).trans rfl, honly.withPwr,
      (hlost.set (by decide)).word⟩

end Sys2Proof.Machine
end

section
/-! CERTIFICATE. The mailbox's completion entries and a stored report (R151 to R160), refuted: three statements say of any host memory space what a store leaves in it. One that is not in canonical form lists an address behind a larger one, or twice, and a 0 that is stored uncovers it. -/

namespace Sys2Proof.Machine

open Sys2Proof.Safety

/-- A running die with these registers whose host memory space lists address 5 behind the larger address `a`. -/
def lowListedBehind (a : Nat) (regs : List (Nat × Word)) : State :=
  { State.reset with regs := regs, pwr := { State.reset.pwr with coreUp := true }, mem := [(a, 1#8), (5, 1#8)] }

/-- Byte 5 is not found behind the larger address. -/
theorem byte_lowListedBehind {a : Nat} (ha : 5 < a) (regs : List (Nat × Word)) : (lowListedBehind a regs).byte 5 = 0#8 := by
  simp [lowListedBehind, State.byte, sparseFind, ha, Nat.ne_of_lt ha, unwritten]

/-- On the running die a command's next state is its effect. -/
theorem State.next_of_up {s t u : State} (hup : s.pwr.coreUp = true) (h : (.next (s.live t) : Host.Outcome State Fault Refusal) = .next u) : t = u := by
  rw [State.live_up hup] at h
  exact Host.Outcome.next.inj h

/-! The completion of a submission entry. -/

/-- HIVE enabled, and one submission entry of 64 zero bytes, which is invalid: its completion entry begins at the larger address listed. -/
def invalidEntryWaits : State := lowListedBehind (BANK_HOST + 0x4000) [(0x051000, 0x1#32), (0x051208, 0x1000007#32)]

/-- The completion entry has 0 in its first byte. -/
theorem byte_opSqEntryTake_invalidEntryWaits : (opSqEntryTake invalidEntryWaits).byte 5 = 1#8 := by decide +kernel

/-- Refutes O24 by its last clause: it holds the registers, but not the memory, to their canonical form, and where the memory lists addresses out of order the completion entry changes what an address below it reads as. The premise `memWf s` would exclude such a state. -/
theorem not_mailboxQueuesMove : ¬ Obligations.MailboxQueuesMove := by
  unfold Obligations.MailboxQueuesMove
  rintro ⟨-, -, -, -, -, -, htake⟩
  obtain ⟨t, hexec, -, -, -, -, -, hbyte, -⟩ :=
    htake invalidEntryWaits 0 (sqEntry (List.replicate 64 0#8)) MBX_INVALID (by decide +kernel) rfl (by decide +kernel) (by decide +kernel)
      (by decide +kernel) rfl rfl (by decide +kernel) (by decide +kernel) (by decide +kernel) rfl rfl
  have ht : opSqEntryTake invalidEntryWaits = t := State.next_of_up rfl hexec
  have hsame := hbyte 5 (.inl (by decide +kernel))
  rw [← ht, byte_opSqEntryTake_invalidEntryWaits, invalidEntryWaits, byte_lowListedBehind (by decide)] at hsame
  exact absurd hsame (by decide)

/-! The completion of a request without a response. -/

/-- A host's request to position 1 of ring 0, sent once in cycle 0. -/
def unanswered : MbxTx := ⟨3, 1, 0, 1, 1, 0x200, 8, [], [], 0, 1, false, 0, 0, 0⟩

/-- HIVE enabled in cycle 9 with no retry allowed, and that request in flight: its completion entry begins at the larger address listed. -/
def requestUnanswered : State :=
  { lowListedBehind (BANK_HOST + 0x4000) [(0x000108, 0x9#32), (0x051000, 0x1#32), (0x051200, 0x102#32)] with
    hive := { State.reset.hive with tx := [unanswered] } }

/-- The completion entry has ring 0 in its first byte. -/
theorem byte_opMbxRspTimeout_requestUnanswered : (opMbxRspTimeout 3 requestUnanswered).byte 5 = 1#8 := by decide +kernel

/-- Refutes O25 by its last clause: where the memory lists addresses out of order, the completion entry of a request that has timed out changes what an address below it reads as. The premise `memWf s` would exclude such a state. -/
theorem not_mailboxFramesAreSentAndAnswered : ¬ Obligations.MailboxFramesAreSentAndAnswered := by
  unfold Obligations.MailboxFramesAreSentAndAnswered
  rintro ⟨-, -, -, -, -, -, -, -, htimeout⟩
  obtain ⟨t, hexec, -, -, -, -, hbyte, -, -⟩ :=
    htimeout requestUnanswered 3 unanswered (by decide +kernel) rfl (by decide +kernel) rfl rfl rfl (by decide) (by decide +kernel) (by decide +kernel)
      (by decide +kernel) rfl (by decide +kernel) rfl
  have ht : opMbxRspTimeout 3 requestUnanswered = t := State.next_of_up rfl hexec
  have hsame := hbyte 5 (.inl (by decide +kernel))
  have hbefore : requestUnanswered.byte 5 = 0#8 := by decide
  rw [← ht, byte_opMbxRspTimeout_requestUnanswered, hbefore] at hsame
  exact absurd hsame (by decide)

/-! The report of a slot. -/

/-- A report of position 1 in cycle 77. -/
def reportOfCycle77 : List Byte :=
  withCrc ([0x5C#8, 1#8] ++ leBytes 4 77 ++ List.replicate 18 0x12#8 ++ [0x24#8, 3#8, 0#8, 0#8, 0#8, 0#8, 0#8, 0#8, 0#8, 0#8])

/-- A running die in cycle 77, with slot 5 at position 1 of ring 2, whose host memory space lists the fourth byte of the slot's report twice. -/
def reportByteListedTwice : State :=
  { State.reset with
    regs := [(0x000108, 0x4D#32), (0x050200, 0x49#32), (0x051000, 0x1#32), (0x060500, 0x25#32)]
    pwr := { State.reset.pwr with coreUp := true }
    mem := [(reportAddr 5 + 3, 1#8), (reportAddr 5 + 3, 1#8)] }

/-- The report has 0 in its fourth byte, which removes the first of the two and leaves the other. -/
theorem bytes_opReportRx_reportByteListedTwice : (opReportRx 2 reportOfCycle77 reportByteListedTwice).bytes (reportAddr 5) 36 ≠ reportOfCycle77 := by
  decide +kernel

/-- Refutes O26 by its first clause: where the memory lists an address twice, a 0 of a report stored there does not read back. The premise `memWf s` would exclude such a state. -/
theorem not_reportsAreTakenAndMissed : ¬ Obligations.ReportsAreTakenAndMissed := by
  unfold Obligations.ReportsAreTakenAndMissed
  rintro ⟨hreport, -⟩
  obtain ⟨t, hexec, hbytes, -⟩ :=
    hreport reportByteListedTwice 2 reportOfCycle77 5 rfl (by decide +kernel) (by decide +kernel) (by decide +kernel) (by decide +kernel) rfl
      (by decide +kernel) (.inl rfl) rfl rfl (by decide +kernel)
  have ht : opReportRx 2 reportOfCycle77 reportByteListedTwice = t := State.next_of_up rfl hexec
  exact bytes_opReportRx_reportByteListedTwice (ht ▸ hbytes)

end Sys2Proof.Machine
end

section
/-! SUPPORT. What the statements of the hive link share: a ring's record and a front end's record after an update, what a reading of registers takes no notice of, and a fold that reaches each of its elements. -/

namespace Sys2Proof.Machine

open Sys2Proof.Safety

variable {s t u : State} {r p i : Nat}

/-- On the running die a command answers its effect. -/
theorem State.next_up (hup : s.pwr.coreUp = true) (h : t = u) : (.next (s.live t) : Host.Outcome State Fault Refusal) = .next u :=
  congrArg Host.Outcome.next ((s.live_up hup t).trans h)

/-! Records. -/

theorem State.ringSt_setRingSt (hr : r < s.hive.rings.length) (x : RingSt) : (s.setRingSt r x).ringSt r = x := by
  simp [State.ringSt, State.setRingSt, List.getD_eq_getElem?_getD, hr]

theorem State.ringSt_setRingSt_other {q : Nat} (h : q ≠ r) (x : RingSt) : (s.setRingSt r x).ringSt q = s.ringSt q := by
  simp [State.ringSt, State.setRingSt, List.getD_eq_getElem?_getD, List.getElem?_set_ne h.symm]

theorem State.fe_setFe (hi : i < s.fes.length) (x : FeSt) : (s.setFe i x).fe i = x := by
  simp [State.fe, State.setFe, List.getD_eq_getElem?_getD, hi]

theorem State.fe_setFe_other {j : Nat} (h : j ≠ i) (x : FeSt) : (s.setFe i x).fe j = s.fe j := by
  simp [State.fe, State.setFe, List.getD_eq_getElem?_getD, List.getElem?_set_ne h.symm]

theorem State.fes_setFe_length (s : State) (i : Nat) (x : FeSt) : (s.setFe i x).fes.length = s.fes.length := List.length_set

/-! Readings of registers alone. -/

theorem State.flag_congr (h : t.regs = s.regs) (f : Fld) (k j : Nat) : t.flag f k j = s.flag f k j := by
  simp only [State.flag, State.get_congr h]

theorem State.enRings_congr (h : t.regs = s.regs) : t.enRings = s.enRings := by
  simp only [State.enRings, State.flag_congr h]

theorem State.enSlots_congr (h : t.regs = s.regs) : t.enSlots = s.enSlots := by
  simp only [State.enSlots, State.flag_congr h]

theorem State.slotAt_congr (h : t.regs = s.regs) (r p : Nat) : t.slotAt r p = s.slotAt r p := by
  simp only [State.slotAt, State.flag_congr h, State.get_congr h]

theorem State.pathDelay_congr (h : t.regs = s.regs) (r p : Nat) (e : Bool) : t.pathDelay r p e = s.pathDelay r p e := by
  simp only [State.pathDelay, State.get_congr h]

theorem State.tight_congr (h : t.regs = s.regs) : t.tight = s.tight := State.flag_congr h ..

theorem State.ncell_congr (h : t.regs = s.regs) (r : Nat) : t.ncell r = s.ncell r := State.get_congr h ..

/-- A ring in use is one of the twelve. -/
theorem State.lt_of_mem_enRings (h : r ∈ s.enRings) : r < 12 := List.mem_range.1 (List.mem_of_mem_filter h)

/-- The slot at a position is enabled, and its registers name the ring and the position. -/
theorem State.slotAt_some (h : s.slotAt r p = some i) : i < 192 ∧ s.get CELL_SCFG_RING i = r ∧ s.get CELL_SCFG_POS i = p := by
  have hat := List.find?_some h
  simp only [Bool.and_eq_true, decide_eq_true_eq] at hat
  obtain ⟨⟨-, hring⟩, hpos⟩ := hat
  exact ⟨List.mem_range.1 (List.mem_of_find?_eq_some h), hring, hpos⟩

/-! Folds. -/

/-- A fold keeps `P`; what holds once the fold has taken `x`, and every later step keeps, holds at its end. -/
theorem foldl_reaches {α β : Type} {P Q : β → Prop} {f : β → α → β} {x : α} :
    ∀ {l : List α} {b : β}, P b → (∀ b, ∀ y ∈ l, P b → P (f b y)) → (∀ b, ∀ y ∈ l, P b → Q b → Q (f b y)) → (∀ b, P b → Q (f b x)) →
      P (l.foldl f b) ∧ (Q b ∨ x ∈ l → Q (l.foldl f b))
  | [], _, hb, _, _, _ => ⟨hb, fun h => h.resolve_right List.not_mem_nil⟩
  | y :: l, b, hb, hP, hQ, hx => by
    obtain ⟨hend, hreach⟩ := foldl_reaches (P := P) (Q := Q) (f := f) (x := x) (l := l) (hP b y List.mem_cons_self hb)
      (fun b z hz => hP b z (List.mem_cons_of_mem y hz)) (fun b z hz => hQ b z (List.mem_cons_of_mem y hz)) hx
    refine ⟨hend, fun h => hreach ?_⟩
    rcases h with hq | hmem
    · exact .inl (hQ b y List.mem_cons_self hb hq)
    · rcases List.mem_cons.1 hmem with rfl | hl
      · exact .inl (hx b hb)
      · exact .inr hl

/-! What of the state an operation of HIVE touches. -/

/-- Nothing but HIVE's record and the front ends differs. -/
abbrev HiveFes (s t : State) : Prop := t = { s with hive := t.hive, fes := t.fes }

theorem HiveFes.refl (s : State) : HiveFes s s := rfl

theorem HiveFes.trans (h : HiveFes s t) (h' : HiveFes t u) : HiveFes s u :=
  Eq.trans h' (congrArg (fun x : State => { x with hive := u.hive, fes := u.fes }) h)

theorem HiveFes.setRingSt (h : HiveFes s t) (r : Nat) (x : RingSt) : HiveFes s (t.setRingSt r x) := h.trans rfl

theorem HiveFes.setFe (h : HiveFes s t) (i : Nat) (x : FeSt) : HiveFes s (t.setFe i x) := h.trans rfl

theorem HiveFes.regs (h : HiveFes s t) : t.regs = s.regs := (congrArg State.regs (h : _ = _)).trans rfl

theorem State.raise_hive (s : State) (src : Source) (unit : Nat) : (s.raise src unit).hive = s.hive :=
  (congrArg State.hive (s.raise_hold src unit : _ = _)).trans rfl

theorem State.ringSt_raise (s : State) (src : Source) (unit r : Nat) : (s.raise src unit).ringSt r = s.ringSt r :=
  congrArg (fun x : HiveState => x.rings.getD r RingSt.idle) (s.raise_hive src unit)

/-- Nothing but registers, HIVE's record, and what a severe source changes besides (R108, R409) differs. -/
abbrev HiveHold (s t : State) : Prop :=
  t = { s with regs := t.regs, hive := t.hive, pwr := { s.pwr with holdCopy := t.pwr.holdCopy }, cap := { s.cap with force := t.cap.force } }

theorem HiveHold.trans (h : HiveHold s t) (h' : HiveHold t u) : HiveHold s u :=
  Eq.trans h' (congrArg (fun x : State => { x with
    regs := u.regs, hive := u.hive, pwr := { x.pwr with holdCopy := u.pwr.holdCopy }, cap := { x.cap with force := u.cap.force } }) h)

theorem HiveHold.raise (h : HiveHold s t) (src : Source) (unit : Nat) : HiveHold s (t.raise src unit) := by
  refine h.trans ?_
  have hhold := t.raise_hold src unit
  have hhive : (t.raise src unit).hive = t.hive := t.raise_hive src unit
  rw [HiveHold, hhive]
  exact hhold

end Sys2Proof.Machine
end

section
/-! SUPPORT. The BLOCK repeated (R161, R184): the frames it puts on the lines, and every front end that it reaches. -/

namespace Sys2Proof.Machine

open Sys2Proof.Safety

variable {s u : State} {r i : Nat}

/-- The BLOCK frames of the current SEQ and CAUSE, one from each end of every ring in use. -/
def State.blockFrames (s : State) : List (Nat × Bool × List Byte) :=
  s.enRings.flatMap fun r => [(r, false, blockFrame false (s.get HIVE_BLOCK_CAUSE) (s.get HIVE_BLOCK_SEQ)),
    (r, true, blockFrame true (s.get HIVE_BLOCK_CAUSE) (s.get HIVE_BLOCK_SEQ))]

/-- A ring's ends await each other's BLOCK, unless it is broken. -/
def State.awaitEcho (s : State) (r : Nat) : State :=
  s.setRingSt r { s.ringSt r with echo := if (s.ringSt r).breaks.isEmpty then [false, true] else [] }

/-- A BLOCK on the lines reaches the front end of a slot on a ring in use with a path to it. -/
def State.feReached (s : State) (i : Nat) : State :=
  if s.flag HIVE_RCTL_RING_EN (s.get CELL_SCFG_RING i) && !s.cutOff (s.get CELL_SCFG_RING i) (s.get CELL_SCFG_POS i) then s.feBlock i else s

theorem State.blockOut_eq (h : s.hiveDrives = true) :
    s.blockOut = (s.enRings.foldl State.awaitEcho { s with hive := { s.hive with sent := s.blockFrames } }).enSlots.foldl State.feReached
      (s.enRings.foldl State.awaitEcho { s with hive := { s.hive with sent := s.blockFrames } }) := by
  have hsends : s.sends s.blockFrames = { s with hive := { s.hive with sent := s.blockFrames } } := if_pos h
  rw [State.blockOut, if_pos h]
  show (let u := s.sends s.blockFrames; (u.enRings.foldl State.awaitEcho u).enSlots.foldl State.feReached (u.enRings.foldl State.awaitEcho u)) = _
  rw [hsends]
  rfl

/-- What the BLOCK leaves as it goes out: the frames, and the breaks of every ring. -/
structure BlockGoes (s u : State) : Prop where
  frame : HiveFes s u
  sent : u.hive.sent = s.blockFrames
  breaks : ∀ r, (u.ringSt r).breaks = (s.ringSt r).breaks
  size : u.fes.length = s.fes.length

theorem BlockGoes.awaitEcho (h : BlockGoes s u) (r : Nat) : BlockGoes s (u.awaitEcho r) := by
  refine ⟨h.frame.setRingSt r _, h.sent, fun q => ?_, h.size⟩
  rw [← h.breaks q]
  by_cases hq : q = r
  · subst hq
    by_cases hlen : q < u.hive.rings.length
    · rw [State.awaitEcho, State.ringSt_setRingSt hlen]
    · simp [State.awaitEcho, State.ringSt, State.setRingSt, List.getD_eq_getElem?_getD, hlen]
  · rw [State.awaitEcho, State.ringSt_setRingSt_other hq]

theorem BlockGoes.cutOff (h : BlockGoes s u) (r p : Nat) : u.cutOff r p = s.cutOff r p := by
  simp only [State.cutOff, h.breaks r]

theorem BlockGoes.feReached (h : BlockGoes s u) (i : Nat) : BlockGoes s (u.feReached i) := by
  unfold State.feReached
  split
  · exact ⟨h.frame.setFe i _, h.sent, h.breaks, (u.fes_setFe_length i _).trans h.size⟩
  · exact h

/-- A front end that a BLOCK has reached: both bridges blocked, and neither ACTIVE nor in COAST. -/
def FeSt.Blocked (e : FeSt) : Prop := e.blocked = true ∧ e.dabBlocked = true ∧ e.st ≠ 4 ∧ e.st ≠ 5

theorem State.fe_feBlock (hi : i < s.fes.length) : ((s.feBlock i).fe i).Blocked := by
  rw [State.feBlock, State.fe_setFe hi]
  refine ⟨rfl, rfl, ?_⟩
  dsimp only
  split <;> omega

/-- A front end stays blocked as the BLOCK reaches others, or itself again. -/
theorem State.feReached_blocked (hi : i < s.fes.length) (h : (s.fe i).Blocked) (j : Nat) : ((s.feReached j).fe i).Blocked := by
  unfold State.feReached
  split
  · by_cases hj : i = j
    · exact hj ▸ State.fe_feBlock hi
    · rw [State.feBlock, State.fe_setFe_other hj]
      exact h
  · exact h

/-- What the BLOCK does (R161, R184): its frames are on the lines, and every front end with a path is blocked. -/
theorem State.blockOut_shows (hdrives : s.hiveDrives = true) (hfes : s.fes.length = 192) :
    BlockGoes s s.blockOut ∧ ∀ i ∈ s.enSlots, s.flag HIVE_RCTL_RING_EN (s.get CELL_SCFG_RING i) = true →
      s.cutOff (s.get CELL_SCFG_RING i) (s.get CELL_SCFG_POS i) = false → (s.blockOut.fe i).Blocked := by
  have hsent : BlockGoes s { s with hive := { s.hive with sent := s.blockFrames } } := ⟨rfl, rfl, fun _ => rfl, rfl⟩
  have hecho : BlockGoes s (s.enRings.foldl State.awaitEcho { s with hive := { s.hive with sent := s.blockFrames } }) :=
    List.foldlRecOn (motive := BlockGoes s) _ _ hsent fun _ hu r _ => hu.awaitEcho r
  rw [State.blockOut_eq hdrives, State.enSlots_congr hecho.frame.regs]
  refine ⟨List.foldlRecOn (motive := BlockGoes s) _ _ hecho fun _ hu i _ => hu.feReached i, fun i hmem hen hpath => ?_⟩
  have hi : i < 192 := List.mem_range.1 (List.mem_of_mem_filter hmem)
  have hin : ∀ {u}, BlockGoes s u → i < u.fes.length := fun hu => by rw [hu.size, hfes]; exact hi
  refine (foldl_reaches (P := BlockGoes s) (Q := fun u => (u.fe i).Blocked) (x := i) hecho (fun _ j _ hu => hu.feReached j)
    (fun _ j _ hu hb => State.feReached_blocked (hin hu) hb j) fun u hu => ?_).2 (.inr hmem)
  have hregs := hu.frame.regs
  rw [State.feReached, State.get_congr hregs, State.get_congr hregs, State.flag_congr hregs, hu.cutOff, hen, hpath]
  exact State.fe_feBlock (hin hu)

end Sys2Proof.Machine
end

section
/-! CERTIFICATE. The BLOCK and its echo (R137, R142, R161, R184), settled. -/

namespace Sys2Proof.Machine

open Sys2Proof.Safety

variable {s : State} {r : Nat} {e : Bool}

theorem opBlockEchoRx_matched {f : List Byte} (hon : s.ringOn r = true) (hframe : validFrame 0xDC 8 f = true) (hseq : leAt f 4 2 = s.get HIVE_BLOCK_SEQ)
    (hend : frameEnd f ≠ e) : opBlockEchoRx r e f s = s.setRingSt r { s.ringSt r with echo := (s.ringSt r).echo.filter (· != e) } := by
  rw [opBlockEchoRx, if_pos hon, hframe, if_neg (by decide), if_pos ⟨hseq, hend⟩]

theorem opBlockEchoTimeout_waiting (hon : s.ringOn r = true) (hwait : (s.ringSt r).echo.contains e = true) :
    opBlockEchoTimeout r e s =
      (s.setRingSt r { s.ringSt r with echo := (s.ringSt r).echo.filter (· != e) }).raiseIf (s.ringSt r).breaks.isEmpty SRC_HIVE_BLOCK_ECHO r := by
  rw [opBlockEchoTimeout]
  exact if_pos (by rw [hon, hwait]; rfl)

/-- An end no longer waits once it is taken from those that do. -/
theorem contains_filter_ne {α : Type} [BEq α] [LawfulBEq α] (l : List α) (x : α) : (l.filter (· != x)).contains x = false := by
  simp

/-- Settles O28: the BLOCK goes out as frames, then reaches each front end in turn; an end's echo or its timeout is an update of its ring's record. -/
theorem blockFramesAndTheirEcho : Obligations.BlockFramesAndTheirEcho := by
  unfold Obligations.BlockFramesAndTheirEcho
  refine ⟨?repeats, ?idle, ?echo, ?late, ?broken⟩
  case repeats =>
    intro s hup hactive hdrives hfes
    obtain ⟨hgoes, hreached⟩ := State.blockOut_shows hdrives hfes
    refine ⟨_, State.next_up hup (if_pos hactive), hgoes.sent, fun i hi hen hpath => ?_⟩
    obtain ⟨hblocked, hdab, hactive, hcoast⟩ := hreached i hi hen hpath
    exact ⟨hblocked, hdab, hactive, hcoast, hgoes.frame⟩
  case idle =>
    intro s hup hidle
    exact ⟨_, State.next_up hup (if_neg (by rw [hidle]; decide)), rfl⟩
  case echo =>
    intro s r e f hup hon hframe hseq hend hrings
    refine ⟨_, State.next_up hup (opBlockEchoRx_matched hon hframe hseq hend), rfl, ?_⟩
    rw [State.ringSt_setRingSt (by rw [hrings]; exact r.isLt)]
    exact contains_filter_ne _ e
  case late =>
    intro s r e hwf hup hon hwait hwhole hrings
    have hraised := opBlockEchoTimeout_waiting hon hwait
    rw [hwhole, List.isEmpty_nil, State.raiseIf_true] at hraised
    refine ⟨_, State.next_up hup hraised, State.raise_event (show regsWf (s.setRingSt r.val _) from hwf) _ _ (by decide), ?_, HiveHold.raise rfl _ _, ?_⟩
    · rw [State.ringSt_raise, State.ringSt_setRingSt (by rw [hrings]; exact r.isLt)]
      exact contains_filter_ne _ e
    · exact (Confined.raise (Confined.setRingSt (.refl hwf)) fun _ => id).word
  case broken =>
    intro s r e hup hon hwait hbroken hrings
    have hquiet := opBlockEchoTimeout_waiting hon hwait
    rw [List.isEmpty_eq_false_iff.2 hbroken] at hquiet
    exact ⟨_, State.next_up hup hquiet, rfl⟩

end Sys2Proof.Machine
end

section
/-! SUPPORT. One waggle frame sent (R138, R139, R145): what it puts on the lines and into its front end, and the train of an end as a run of them. -/

namespace Sys2Proof.Machine

open Sys2Proof.Safety

variable {s u v : State} {i p r : Nat} {e : Bool}

/-- The waggle frame of a slot as an end sends it, from the store. -/
def State.slotWaggle (s : State) (i : Nat) (e rpt : Bool) : List Byte := waggleFrame (s.bytes (waggleAddr i) 20) (s.get CELL_SCFG_POS i) e rpt

/-- One waggle frame launched `t` ns after the sampling instant: noted as sent, and with its front end unless that holds a frame. -/
def State.waggled (s : State) (i : Nat) (e rpt : Bool) (t : Nat) : State :=
  { s with
    hive := { s.hive with sent := s.hive.sent ++ [(s.get CELL_SCFG_RING i, e, s.slotWaggle i e rpt)] }
    fes := s.fes.set i { s.fe i with frame := match (s.fe i).frame with
      | some g => some g
      | none => some (s.slotWaggle i e rpt, 16 * (t + 400) + s.pathDelay (s.get CELL_SCFG_RING i) (s.get CELL_SCFG_POS i) e) } }

/-- Where no tile is poisoned, the store gives every frame. -/
theorem State.sendWaggle_eq (h : s.poison = []) (i : Nat) (e rpt : Bool) (t : Nat) : s.sendWaggle i e rpt t = (true, s.waggled i e rpt t) := by
  have hclean : s.poisoned (waggleAddr i) 20 = false := by simp [State.poisoned, h]
  rw [State.sendWaggle, State.load_clean hclean]
  rfl

/-- A front end that holds no frame receives the one sent. -/
theorem State.waggled_frame (hi : i < s.fes.length) (hnone : (s.fe i).frame = none) (e rpt : Bool) (t : Nat) :
    ((s.waggled i e rpt t).fe i).frame = some (s.slotWaggle i e rpt, 16 * (t + 400) + s.pathDelay (s.get CELL_SCFG_RING i) (s.get CELL_SCFG_POS i) e) := by
  have hset : (s.waggled i e rpt t).fe i = _ := State.fe_setFe (s := s) hi _
  rw [hset, hnone]

/-! The train. -/

/-- What a train leaves as it goes out: HIVE's record but for the frames sent, and the count of front ends. -/
structure TrainGoes (s u : State) : Prop where
  frame : HiveFes s u
  hive : u.hive = { s.hive with sent := u.hive.sent }
  size : u.fes.length = s.fes.length

theorem TrainGoes.refl (s : State) : TrainGoes s s := ⟨rfl, rfl, rfl⟩

theorem TrainGoes.trans (h : TrainGoes s u) (h' : TrainGoes u v) : TrainGoes s v :=
  ⟨h.frame.trans h'.frame, h'.hive.trans (by rw [h.hive]), h'.size.trans h.size⟩

theorem State.waggled_goes (s : State) (i : Nat) (e rpt : Bool) (t : Nat) : TrainGoes s (s.waggled i e rpt t) := ⟨rfl, rfl, List.length_set⟩

theorem TrainGoes.poison (h : TrainGoes s u) : u.poison = s.poison := (congrArg State.poison (h.frame : _ = _)).trans rfl

theorem TrainGoes.mem (h : TrainGoes s u) : u.mem = s.mem := (congrArg State.mem (h.frame : _ = _)).trans rfl

theorem TrainGoes.frames (h : TrainGoes s u) : u.hive.frames = s.hive.frames := by rw [h.hive]

theorem TrainGoes.serveEnd (h : TrainGoes s u) (r p : Nat) : u.serveEnd r p = s.serveEnd r p := by
  have hring : u.ringSt r = s.ringSt r := by rw [State.ringSt, h.hive, ← State.ringSt]
  simp only [State.serveEnd, hring, State.tight_congr h.frame.regs, State.ncell_congr h.frame.regs]

theorem State.bytes_congr (h : u.mem = s.mem) (n : Nat) : ∀ a, u.bytes a n = s.bytes a n := by
  induction n with
  | zero => exact fun _ => rfl
  | succ n ih => exact fun a => by rw [State.bytes, State.bytes, ih, State.byte_congr h]

theorem TrainGoes.slotWaggle (h : TrainGoes s u) (i : Nat) (e rpt : Bool) : u.slotWaggle i e rpt = s.slotWaggle i e rpt := by
  rw [State.slotWaggle, State.bytes_congr h.mem, State.get_congr h.frame.regs, ← State.slotWaggle]

/-- The slot's frame has been sent from end `e`, and its front end has it, no earlier than the train's start allows. -/
def State.Fed (s u : State) (i : Nat) (e : Bool) : Prop :=
  (s.get CELL_SCFG_RING i, e, s.slotWaggle i e false) ∈ u.hive.sent ∧
    ∃ a, (u.fe i).frame = some (s.slotWaggle i e false, a) ∧ 16 * (s.tTrain + 400) + s.pathDelay (s.get CELL_SCFG_RING i) (s.get CELL_SCFG_POS i) e ≤ a

/-- The train goes out, and the front end of the slot holds no frame or the one it is to receive. -/
structure Feeding (s u : State) (i : Nat) (e : Bool) : Prop extends TrainGoes s u where
  empty_or_fed : (u.fe i).frame = none ∨ s.Fed u i e

/-- What the slot has received stays, whatever is sent after. -/
theorem State.Fed.waggled (h : s.Fed u i e) (hi : i < u.fes.length) (j : Nat) (e' rpt : Bool) (t : Nat) : s.Fed (u.waggled j e' rpt t) i e := by
  obtain ⟨hsent, a, hframe, ha⟩ := h
  refine ⟨List.mem_append_left _ hsent, a, ?_, ha⟩
  by_cases hj : i = j
  · subst hj
    have hset : (u.waggled i e' rpt t).fe i = _ := State.fe_setFe (s := u) hi _
    rw [hset, hframe]
  · have hset : (u.waggled j e' rpt t).fe i = u.fe i := State.fe_setFe_other (s := u) hj _
    rw [hset, hframe]

/-- Sending the slot's own frame feeds it. -/
theorem Feeding.waggled_own (h : Feeding s u i e) (hi : i < u.fes.length) {t : Nat} (ht : s.tTrain ≤ t) : s.Fed (u.waggled i e false t) i e := by
  rcases h.empty_or_fed with hnone | hfed
  · have hframe := State.waggled_frame hi hnone e false t
    rw [h.slotWaggle, State.get_congr h.frame.regs, State.get_congr h.frame.regs, State.pathDelay_congr h.frame.regs] at hframe
    refine ⟨List.mem_append_right _ ?_, _, hframe, by omega⟩
    rw [h.slotWaggle, State.get_congr h.frame.regs]
    exact List.mem_singleton_self _
  · exact hfed.waggled hi i e false t

/-- Sending another slot's frame, or the slot's own, leaves it empty or fed. -/
theorem Feeding.waggled (h : Feeding s u i e) (hi : i < u.fes.length) {j t : Nat} {e' : Bool} (hown : j = i → e' = e) (ht : s.tTrain ≤ t) :
    Feeding s (u.waggled j e' false t) i e := by
  refine ⟨h.toTrainGoes.trans (u.waggled_goes j e' false t), ?_⟩
  by_cases hj : j = i
  · rw [hj, hown hj]
    exact .inr (h.waggled_own hi ht)
  · have hset : (u.waggled j e' false t).fe i = u.fe i := State.fe_setFe_other (s := u) (Ne.symm hj) _
    rw [hset]
    exact h.empty_or_fed.imp_right fun hfed => hfed.waggled hi j e' false t

/-- A train of an end that serves the slot, if the slot is among those it sends to, leaves the slot empty or fed; and fed where it was so before, or where its frame stands in the store and the train comes to it. -/
theorem Feeding.train (hclean : s.poison = []) (hi : i < s.fes.length) {r' : Nat} {e' : Bool} :
    ∀ {ps : List Nat} {u : State} {t : Nat}, Feeding s u i e → (∀ p ∈ ps, s.slotAt r' p = some i → e' = e) → s.tTrain ≤ t →
      Feeding s (u.train r' e' ps t) i e ∧
        (s.Fed u i e ∨ (s.hive.frames.contains i = true ∧ ∃ p ∈ ps, s.slotAt r' p = some i) → s.Fed (u.train r' e' ps t) i e)
  | [], u, t, h, _, _ => ⟨h, fun hfed => hfed.resolve_right fun ⟨_, p, hp, _⟩ => absurd hp List.not_mem_nil⟩
  | p :: ps, u, t, h, hserved, ht => by
    have hrest : ∀ q ∈ ps, s.slotAt r' q = some i → e' = e := fun q hq => hserved q (List.mem_cons_of_mem p hq)
    have hi' : i < u.fes.length := h.size ▸ hi
    rw [State.train]
    cases hslot : u.slotAt r' p with
    | none =>
      obtain ⟨hgoes, hfed⟩ := Feeding.train hclean hi h hrest ht
      refine ⟨hgoes, fun hor => hfed (hor.imp_right fun ⟨hstore, q, hq, hqi⟩ => ⟨hstore, q, ?_, hqi⟩)⟩
      refine (List.mem_cons.1 hq).resolve_left fun hqp => ?_
      rw [State.slotAt_congr h.frame.regs, ← hqp, hqi] at hslot
      cases hslot
    | some j =>
      rw [State.slotAt_congr h.frame.regs] at hslot
      dsimp only
      by_cases hstored : u.hive.frames.contains j = true
      · rw [if_pos hstored, State.sendWaggle_eq (h.poison.trans hclean)]
        have hown : j = i → e' = e := fun hj => hserved p List.mem_cons_self (hj ▸ hslot)
        obtain ⟨hgoes, hfed⟩ := Feeding.train hclean hi (h.waggled hi' hown ht) hrest (Nat.le_add_right_of_le (k := 400) ht)
        refine ⟨hgoes, fun hor => hfed ?_⟩
        rcases hor with hbefore | ⟨hstore, q, hq, hqi⟩
        · exact .inl (hbefore.waggled hi' j e' false t)
        · rcases List.mem_cons.1 hq with rfl | hin
          · obtain rfl : j = i := Option.some.inj (hslot.symm.trans hqi)
            rw [hown rfl]
            exact .inl (h.waggled_own hi' ht)
          · exact .inr ⟨hstore, q, hin, hqi⟩
      · rw [if_neg hstored]
        obtain ⟨hgoes, hfed⟩ := Feeding.train hclean hi h hrest ht
        refine ⟨hgoes, fun hor => hfed (hor.imp_right fun ⟨hstore, q, hq, hqi⟩ => ⟨hstore, q, ?_, hqi⟩)⟩
        refine (List.mem_cons.1 hq).resolve_left fun hqp => hstored ?_
        obtain rfl : j = i := Option.some.inj (hslot.symm.trans (hqp ▸ hqi))
        rw [h.frames, hstore]

/-- The train of one end of a ring. -/
def State.endTrain (s : State) (r : Nat) (e : Bool) : State :=
  s.train r e (if s.get HIVE_RSTAT_MODE r = 3 then (s.served r e).reverse else s.served r e) s.tTrain

/-- The positions of a train are those that its end serves, in either order. -/
theorem State.mem_endTrain {q : Nat} :
    q ∈ (if s.get HIVE_RSTAT_MODE r = 3 then (s.served r e).reverse else s.served r e) ↔ q < s.ncell r ∧ s.serveEnd r q = some e := by
  have hserved : q ∈ s.served r e ↔ q < s.ncell r ∧ s.serveEnd r q = some e := by
    cases e <;> simp [State.served]
  split
  · rw [List.mem_reverse, hserved]
  · exact hserved

theorem State.tTrain_congr (h : u.regs = s.regs) : u.tTrain = s.tTrain := by
  rw [State.tTrain, State.tTrain, State.tight_congr h]

/-- The train of any end leaves the slot empty or fed, and the train of its own end feeds it. -/
theorem Feeding.endTrain (hclean : s.poison = []) (hi : i < s.fes.length) (hserve : s.serveEnd r p = some e) (hslot : s.slotAt r p = some i)
    (h : Feeding s u i e) (r' : Nat) (e' : Bool) :
    Feeding s (u.endTrain r' e') i e ∧
      (s.Fed u i e ∨ (s.hive.frames.contains i = true ∧ p < s.ncell r ∧ r' = r ∧ e' = e) → s.Fed (u.endTrain r' e') i e) := by
  obtain ⟨-, hring, hpos⟩ := State.slotAt_some hslot
  have hown : ∀ q ∈ (if u.get HIVE_RSTAT_MODE r' = 3 then (u.served r' e').reverse else u.served r' e'), s.slotAt r' q = some i → e' = e := by
    intro q hq hqi
    obtain ⟨-, hqserve⟩ := State.mem_endTrain.1 hq
    obtain ⟨-, hring', hpos'⟩ := State.slotAt_some hqi
    rw [h.serveEnd, ← hring', ← hpos', hring, hpos, hserve] at hqserve
    exact (Option.some.inj hqserve).symm
  obtain ⟨hgoes, hfed⟩ := Feeding.train hclean hi h hown (State.tTrain_congr h.frame.regs).ge
  refine ⟨hgoes, fun hor => hfed (hor.imp_right fun ⟨hstore, hp, hr, he⟩ => ⟨hstore, p, State.mem_endTrain.2 ?_, hr ▸ hslot⟩)⟩
  rw [State.ncell_congr h.frame.regs, h.serveEnd, hr, he]
  exact ⟨hp, hserve⟩

/-- Each end's train in turn, of every ring in use. -/
def State.allTrains (s : State) : State := s.enRings.foldl (fun u r => [false, true].foldl (fun u e => u.endTrain r e) u) s

/-- The trains of both ends of every ring in use feed a slot whose frame stands in the store and which an end serves. -/
theorem State.trains_feed (hclean : s.poison = []) (hi : i < s.fes.length) (hring : r ∈ s.enRings) (hp : p < s.ncell r)
    (hserve : s.serveEnd r p = some e) (hslot : s.slotAt r p = some i) (hstore : s.hive.frames.contains i = true) (hnone : (s.fe i).frame = none) :
    TrainGoes s s.allTrains ∧ s.Fed s.allTrains i e := by
  have hboth : ∀ u, Feeding s u i e → ∀ r', Feeding s ([false, true].foldl (fun u e => u.endTrain r' e) u) i e ∧
      (s.Fed u i e ∨ r' = r → s.Fed ([false, true].foldl (fun u e => u.endTrain r' e) u) i e) := by
    intro u hu r'
    obtain ⟨ha, hfedA⟩ := hu.endTrain hclean hi hserve hslot r' false
    obtain ⟨hb, hfedB⟩ := ha.endTrain hclean hi hserve hslot r' true
    refine ⟨hb, fun hor => hfedB ?_⟩
    rcases hor with hbefore | hr
    · exact .inl (hfedA (.inl hbefore))
    · cases e with
      | false => exact .inl (hfedA (.inr ⟨hstore, hp, hr, rfl⟩))
      | true => exact .inr ⟨hstore, hp, hr, rfl⟩
  obtain ⟨hgoes, hfed⟩ := foldl_reaches (P := fun u => Feeding s u i e) (Q := fun u => s.Fed u i e) (x := r) (l := s.enRings) (b := s)
    ⟨.refl s, .inl hnone⟩ (fun u r' _ hu => (hboth u hu r').1) (fun u r' _ hu hq => (hboth u hu r').2 (.inl hq)) fun u hu => (hboth u hu r).2 (.inr rfl)
  exact ⟨hgoes.toTrainGoes, hfed (.inr hring)⟩

end Sys2Proof.Machine
end

section
/-! SUPPORT. One resend of a slot's waggle frame (R149, R150). -/

namespace Sys2Proof.Machine

open Sys2Proof.Safety

variable {s : State} {i p r : Nat} {e : Bool}

/-- The resends that an end of a ring has made, and the instant from which its line is free. -/
def RingSt.res (x : RingSt) (e : Bool) : Nat × Nat := if e then x.resB else x.resA

def RingSt.withRes (x : RingSt) (e : Bool) (n : Nat × Nat) : RingSt := if e then { x with resB := n } else { x with resA := n }

theorem RingSt.res_withRes (x : RingSt) (e : Bool) (n : Nat × Nat) : (x.withRes e n).res e = n := by cases e <;> rfl

theorem RingSt.naks_withRes (x : RingSt) (e : Bool) (n : Nat × Nat) : (x.withRes e n).naks = x.naks := by cases e <;> rfl

/-- What admits a resend at the start of the resend window (R149, R150): a frame in the store, resends left, a free line, time before the apply point, and normal service. -/
structure MayResend (s : State) (r p i : Nat) (e : Bool) : Prop where
  slot : s.slotAt r p = some i
  stored : s.hive.frames.contains i = true
  left : ((s.ringSt r).res e).1 < s.get HIVE_CFG_WAG_RETRY
  free : ((s.ringSt r).res e).2 ≤ s.tResend
  early : s.now ≤ s.samp + s.tResend
  fits : 16 * (s.tResend + 500) + s.pathDelay r p e ≤ 16 * s.applyAt
  service : s.get HIVE_RSTAT_MODE r ≠ 3
  clean : s.poison = []

/-- The state after a resend at the start of the window: the frame sent with RPT = 1, counted for its end and in RETRY. -/
def State.resent (s : State) (r i : Nat) (e : Bool) : State :=
  ((s.waggled i e true s.tResend).setRingSt r ((s.ringSt r).withRes e (((s.ringSt r).res e).1 + 1, s.tResend + 400))).inc HIVE_RCNT_RETRY r

theorem State.tResend_le_end (s : State) : s.tResend ≤ s.tResendEnd := by
  unfold State.tResend State.tResendEnd
  split <;> decide

theorem MayResend.resendOne (h : MayResend s r p i e) : s.resendOne r e p = s.resent r i e := by
  have hinstant : max (max s.tResend ((s.ringSt r).res e).2) (s.now - s.samp) = s.tResend := by
    rw [Nat.max_eq_left h.free, Nat.max_eq_left (by have := h.early; omega)]
  have hfits : 16 * (s.tResend + 400 + 100) + s.pathDelay r p e ≤ 16 * s.applyAt := h.fits
  have hres : (if e = true then (s.ringSt r).resB else (s.ringSt r).resA) = (s.ringSt r).res e := rfl
  simp only [State.resendOne, h.slot, hres, hinstant, h.stored, h.left, hfits, s.tResend_le_end, bne_iff_ne.2 h.service, decide_true, Bool.and_self,
    if_true, State.sendWaggle_eq h.clean]
  cases e <;> rfl

/-- What a resend shows, where the front end holds no frame and nothing was noted as sent. -/
theorem State.resent_shows (hwf : regsWf s) (hslot : s.slotAt r p = some i) (hi : i < s.fes.length) (hr : r < s.hive.rings.length)
    (hsent : s.hive.sent = []) (hnone : (s.fe i).frame = none) :
    (s.resent r i e).hive.sent = [(r, e, waggleFrame (s.bytes (waggleAddr i) 20) p e true)] ∧
      ((s.resent r i e).fe i).frame = some (waggleFrame (s.bytes (waggleAddr i) 20) p e true, 16 * (s.tResend + 400) + s.pathDelay r p e) ∧
      (s.resent r i e).ringSt r = (s.ringSt r).withRes e (((s.ringSt r).res e).1 + 1, s.tResend + 400) ∧
      (s.resent r i e).hive.resends = s.hive.resends ∧
      (s.resent r i e).get HIVE_RCNT_RETRY r = satInc 0xFFFF (s.get HIVE_RCNT_RETRY r) ∧
      s.resent r i e = { s with regs := (s.resent r i e).regs, hive := (s.resent r i e).hive, fes := (s.resent r i e).fes } ∧
      ∀ adr, adr ∉ ([0x050008 + 0x100 * r] : List Nat) → (s.resent r i e).word adr = s.word adr := by
  obtain ⟨-, hring, hpos⟩ := State.slotAt_some hslot
  have hframe := State.waggled_frame hi hnone e true s.tResend
  rw [State.slotWaggle, hring, hpos] at hframe
  have hnoted : (s.resent r i e).hive.sent = s.hive.sent ++ [(s.get CELL_SCFG_RING i, e, s.slotWaggle i e true)] := rfl
  rw [hsent, State.slotWaggle, hring, hpos] at hnoted
  have haddr : HIVE_RCNT_RETRY.addr r 0 = 0x050008 + 0x100 * r := rfl
  refine ⟨hnoted, hframe, State.ringSt_setRingSt (s := s.waggled i e true s.tResend) hr _, rfl, ?_, rfl, fun adr hadr => ?_⟩
  · exact State.get_inc_satInc (s := (s.waggled i e true s.tResend).setRingSt r _) hwf HIVE_RCNT_RETRY r 0 (by decide)
  · exact State.word_set_other (s := (s.waggled i e true s.tResend).setRingSt r _) hwf HIVE_RCNT_RETRY _ r 0
      (haddr ▸ List.ne_of_not_mem_cons hadr)

/-! A NAK (R149, R168). -/

/-- The front end whose NAK arrives holds no frame. -/
def State.feEmptied (s : State) (i : Nat) : State := s.setFe i { s.fe i with frame := none }

theorem State.feEmptied_frame (hi : i < s.fes.length) : ((s.feEmptied i).fe i).frame = none := by rw [State.feEmptied, State.fe_setFe hi]

/-- No frame is noted as sent. -/
def State.unsent (s : State) : State := { s with hive := { s.hive with sent := [] } }

/-- A valid NAK of a slot on the ring: counted in stretched service, answered within the resend window, and else queued. -/
theorem opNakRx_eq {f : List Byte} (hon : s.ringOn r = true) (hframe : validFrame 0x9C 4 f = true) (hp : framePos f < s.ncell r)
    (hslot : s.slotAt r (framePos f) = some i) :
    opNakRx r e f s =
      if s.get HIVE_RSTAT_MODE r = 3 then (s.feEmptied i).setRingSt r { s.ringSt r with nakCnt := (s.ringSt r).nakCnt + 1 }
      else if s.hive.resends && s.hiveDrives && s.running && !s.cyc.suspended then
        (s.feEmptied i).unsent.resendOne r e (framePos f)
      else (s.feEmptied i).setRingSt r { s.ringSt r with naks := (s.ringSt r).naks ++ [(framePos f, e)] } := by
  rw [opNakRx, if_pos hon, hframe, if_neg (by decide)]
  dsimp only
  rw [if_pos hp, hslot]
  rfl

end Sys2Proof.Machine
end

section
/-! CERTIFICATE. Waggle trains, NAKs and resends (R138, R139, R145, R149, R150, R168), settled. -/

namespace Sys2Proof.Machine

open Sys2Proof.Safety

variable {s : State} {i p r : Nat} {e : Bool}

/-- Time reaches an instant in the counter and the RTC alone. -/
theorem State.advanceTo_moves (s : State) (n : Nat) :
    ∃ time pwr, s.advanceTo n = { s with time := time, pwr := pwr } ∧ time.tai / 2 ^ 32 = max s.now n := by
  unfold State.advanceTo
  split
  · next h => exact ⟨_, _, rfl, (Nat.mul_div_cancel n (Nat.two_pow_pos 32)).trans (Nat.max_eq_right (Nat.le_of_lt h)).symm⟩
  · next h => exact ⟨s.time, s.pwr, rfl, (Nat.max_eq_left (Nat.le_of_not_lt h)).symm⟩

/-- What goes out at a later instant moves the counter and the RTC besides. -/
theorem HiveFes.moved {t : State} {hive : HiveState} {time : TimeState} {pwr : PowerState} (h : HiveFes { s with hive := hive, time := time, pwr := pwr } t) :
    t = { s with hive := t.hive, fes := t.fes, time := t.time, pwr := t.pwr } := by
  have htime : t.time = time := (congrArg State.time (h : _ = _)).trans rfl
  have hpwr : t.pwr = pwr := (congrArg State.pwr (h : _ = _)).trans rfl
  rw [htime, hpwr]
  exact h

/-- The step 6 window: nothing is noted as sent, and time reaches it. -/
def State.trainOpens (s : State) : State := s.unsent.advanceTo (s.samp + s.tTrain)

theorem opWaggleTrainStart_eq (hdrives : s.hiveDrives = true) (hrun : s.running = true) (hsusp : s.cyc.suspended = false) :
    opWaggleTrainStart s = s.trainOpens.allTrains := by
  rw [opWaggleTrainStart, if_pos (by rw [hdrives, hrun, hsusp]; rfl)]
  rfl

/-- The resend window: nothing is noted as sent, NAKs are answered at once from now on, and time reaches it. -/
def State.resendsOpen (s : State) : State := ({ s with hive := { s.hive with sent := [], resends := true } } : State).advanceTo (s.samp + s.tResend)

/-- That window with its instant as the counter and the RTC then stand. -/
def State.resendsOpenAt (s : State) (time : TimeState) (pwr : PowerState) : State :=
  { s with hive := { s.hive with sent := [], resends := true }, time := time, pwr := pwr }

/-- The NAKs of a ring are taken from its queue. -/
def State.naksTaken (s : State) (r : Nat) : State := s.setRingSt r { s.ringSt r with naks := [] }

/-- The NAKs of a ring are answered in order of arrival. -/
def State.answerNaks (s : State) (r : Nat) : State := (s.ringSt r).naks.foldl (fun u q => u.resendOne r q.2 q.1) (s.naksTaken r)

theorem opWaggleResendWindow_one (hdrives : s.hiveDrives = true) (hrun : s.running = true) (hsusp : s.cyc.suspended = false)
    (hone : s.resendsOpen.enRings = [r]) (hnaks : (s.resendsOpen.ringSt r).naks = [(p, e)]) :
    opWaggleResendWindow s = (s.resendsOpen.naksTaken r).resendOne r e p := by
  rw [opWaggleResendWindow, if_pos (by rw [hdrives, hrun, hsusp]; rfl)]
  show s.resendsOpen.enRings.foldl State.answerNaks s.resendsOpen = _
  rw [hone, List.foldl_cons, List.foldl_nil, State.answerNaks, hnaks]
  rfl

/-- Settles O27: a train keeps every slot empty or fed and its own end feeds the slot; a NAK empties its front end, and the resend that it queues or gets at once is one frame. -/
theorem waggleTrainsAndResends : Obligations.WaggleTrainsAndResends := by
  unfold Obligations.WaggleTrainsAndResends
  refine ⟨?train, ?queued, ?stretched, ?answered, ?window⟩
  case train =>
    intro s r p i e hup hdrives hrun hsusp hclean hring hp hserve hslot hstore hnone hfes
    obtain ⟨hi, hslotRing, hslotPos⟩ := State.slotAt_some hslot
    obtain ⟨time, pwr, hopens, -⟩ := s.unsent.advanceTo_moves (s.samp + s.tTrain)
    have hop := opWaggleTrainStart_eq hdrives hrun hsusp
    rw [State.trainOpens, hopens] at hop
    obtain ⟨hgoes, hsent, a, hframe, ha⟩ := State.trains_feed (s := { s.unsent with time := time, pwr := pwr }) (i := i) hclean (hi.trans_eq hfes.symm)
      hring hp hserve hslot hstore hnone
    have hwaggle : ({ s.unsent with time := time, pwr := pwr } : State).slotWaggle i e false = waggleFrame (s.bytes (waggleAddr i) 20) p e false := by
      rw [← hslotPos]
      exact congrArg (waggleFrame · _ e false) (State.bytes_congr (s := s) (u := { s.unsent with time := time, pwr := pwr }) rfl 20 _)
    rw [hwaggle] at hsent hframe
    refine ⟨_, State.next_up hup hop, ?_, hgoes.hive, ⟨a, hframe, ?_⟩, ?_⟩
    · rw [← hslotRing]
      exact hsent
    · rw [← hslotRing, ← hslotPos]
      exact ha
    · exact hgoes.frame.moved
  case queued =>
    intro s r e f i hup hon hframe hp hslot hmode hres hrings hfes
    have hi : i < s.fes.length := (State.slotAt_some hslot).1.trans_eq hfes.symm
    have hr : r.val < s.hive.rings.length := r.isLt.trans_eq hrings.symm
    have hnak := opNakRx_eq (e := e) hon hframe hp hslot
    rw [if_neg hmode, hres, if_neg (by simp)] at hnak
    exact ⟨_, State.next_up hup hnak, State.feEmptied_frame hi, congrArg RingSt.naks (State.ringSt_setRingSt (s := s.feEmptied i) hr _), rfl⟩
  case stretched =>
    intro s r e f i hup hon hframe hp hslot hmode hrings hfes
    have hi : i < s.fes.length := (State.slotAt_some hslot).1.trans_eq hfes.symm
    have hr : r.val < s.hive.rings.length := r.isLt.trans_eq hrings.symm
    have hnak := opNakRx_eq (e := e) hon hframe hp hslot
    rw [if_pos hmode] at hnak
    have hring := State.ringSt_setRingSt (s := s.feEmptied i) hr { s.ringSt r with nakCnt := (s.ringSt r).nakCnt + 1 }
    exact ⟨_, State.next_up hup hnak, State.feEmptied_frame hi, congrArg RingSt.nakCnt hring, by rw [hring], rfl, rfl⟩
  case answered =>
    intro s r e f i hwf hup hon hframe hp hslot hres hdrives hrun hsusp hclean hstore hleft hfree hearly hfits hmode hrings hfes
    have hi : i < s.fes.length := (State.slotAt_some hslot).1.trans_eq hfes.symm
    have hr : r.val < s.hive.rings.length := r.isLt.trans_eq hrings.symm
    have hmay : MayResend (s.feEmptied i).unsent r (framePos f) i e := ⟨hslot, hstore, hleft, hfree, hearly, hfits, hmode, hclean⟩
    have hnak := opNakRx_eq (e := e) hon hframe hp hslot
    rw [if_neg hmode, hres, hdrives, hrun, hsusp, if_pos (by decide), hmay.resendOne] at hnak
    obtain ⟨hsent, hfe, hring, -, hretry, honly, hword⟩ := State.resent_shows (s := (s.feEmptied i).unsent) (e := e) hwf hslot
      ((s.fes_setFe_length i _).symm ▸ hi) hr rfl (State.feEmptied_frame hi)
    refine ⟨_, State.next_up hup hnak, hsent, hfe, ?_, hretry, honly, hword⟩
    exact (congrArg (RingSt.res · e) hring).trans (RingSt.res_withRes ..)
  case window =>
    intro s r p i e hwf hup hdrives hrun hsusp hclean hone hnaks hslot hstore hleft hfree hearly hfits hmode hnone hfes hrings
    have hi : i < s.fes.length := (State.slotAt_some hslot).1.trans_eq hfes.symm
    have hr : r < s.hive.rings.length := (State.lt_of_mem_enRings (hone ▸ List.mem_singleton_self r)).trans_eq hrings.symm
    obtain ⟨time, pwr, hopens, hnow⟩ := State.advanceTo_moves { s with hive := { s.hive with sent := [], resends := true } } (s.samp + s.tResend)
    have hopens : s.resendsOpen = s.resendsOpenAt time pwr := hopens
    have hop := opWaggleResendWindow_one (p := p) (e := e) (r := r) hdrives hrun hsusp (by rw [hopens]; exact hone) (by rw [hopens]; exact hnaks)
    rw [hopens] at hop
    have hring : ((s.resendsOpenAt time pwr).naksTaken r).ringSt r = { s.ringSt r with naks := [] } := State.ringSt_setRingSt (s := s.resendsOpenAt time pwr) hr _
    have hmade : (((s.resendsOpenAt time pwr).naksTaken r).ringSt r).res e = (s.ringSt r).res e := by
      rw [hring]
      rfl
    have hmay : MayResend ((s.resendsOpenAt time pwr).naksTaken r) r p i e :=
      ⟨hslot, hstore, by rw [hmade]; exact hleft, by rw [hmade]; exact hfree, (hnow.trans (Nat.max_eq_right hearly)).le, hfits, hmode, hclean⟩
    rw [hmay.resendOne] at hop
    obtain ⟨hsent, hfe, hres, hresends, hretry, -, hword⟩ := State.resent_shows (s := (s.resendsOpenAt time pwr).naksTaken r) (e := e) hwf hslot hi
      ((List.length_set ..).symm ▸ hr) rfl hnone
    refine ⟨_, State.next_up hup hop, hsent, ?_, hresends, hfe, ?_, hretry, rfl, hword⟩
    · rw [hres, RingSt.naks_withRes, hring]
    · refine (congrArg (RingSt.res · e) hres).trans ((RingSt.res_withRes ..).trans ?_)
      rw [hmade]
      rfl

end Sys2Proof.Machine
end

section
/-! SUPPORT. A ring's status and its breaks (R166 to R170, R172): what the declaration of a break shows, and what a healed hop leaves. -/

namespace Sys2Proof.Machine

open Sys2Proof.Safety

variable {s t u : State} {r hop : Nat} {f : List Byte}

/-! HIVE's registers. -/

/-- The status word of a ring. -/
abbrev rstatWord (r : Nat) : Nat := 0x050000 + 0x100 * r + 4

/-- A field of the ring's status word. -/
def RstatField (g : Fld) : Prop := g.base = 0x050004 ∧ g.us = 0x100 ∧ g.st = 0

theorem RstatField.addr {g : Fld} (h : RstatField g) (r i : Nat) : g.addr r i = rstatWord r := by
  obtain ⟨hbase, hus, hst⟩ := h
  rw [Fld.addr, hbase, hus, hst, rstatWord]
  omega

theorem RstatField.confined {g : Fld} (hg : RstatField g) (h : regsWf s) (v r : Nat) : Confined (· = rstatWord r) s (s.set g v r) :=
  .set (.refl h) (hg.addr r 0)

/-- The status word of a ring is no event's register. -/
theorem rstatWord_not_mem_evtRegs (hr : r < 12) {src : Source} (hsrc : src.blk = .hive) : rstatWord r ∉ evtRegs src.blk src.s := by
  simp only [rstatWord, evtRegs, hsrc, ctrlAddr, Block.no, Block.ctrlUnit, List.mem_cons, List.not_mem_nil, or_false, not_or]
  omega

theorem profile_ne_rstatWord (r : Nat) : SYS_CYC_STAT_PROFILE_ACT.addr 0 0 ≠ rstatWord r := by
  have haddr : SYS_CYC_STAT_PROFILE_ACT.addr 0 0 = 0x000114 := rfl
  rw [haddr, rstatWord]
  omega

/-- A counter to which nothing is added reads as before. -/
theorem State.addSat_zero_confined (h : regsWf s) (g : Fld) (hg : g.lo + g.w ≤ 32) (k i : Nat) : Confined (fun _ => False) s (s.addSat g 0 k i) := by
  refine Confined.setSame (.refl h) hg ?_
  have hlt := s.get_lt g k i
  rw [satAdd]
  omega

/-! Nothing in flight and nothing waiting. -/

theorem State.pumpGo_idle (h : s.hive.waiting = []) (n : Nat) : s.pumpGo n = s := by
  cases n with
  | zero => rfl
  | succ n =>
    rw [State.pumpGo, h]
    cases s.freeTag false <;> rfl

/-- With nothing waiting, the pump counts nothing. -/
theorem State.pump_idle (h : s.hive.waiting = []) : s.pump = s.addSat HIVE_MBX_STAT_DONE 0 := by
  have hself : ({ s with hive := { s.hive with waiting := [] } } : State) = s := by rw [← h]
  rw [State.pump]
  simp only [h, List.filter_nil, List.length_nil, hself]
  exact State.pumpGo_idle (s := s.addSat HIVE_MBX_STAT_DONE 0) h 8

theorem State.dropUnreachable_idle (htx : s.hive.tx = []) (h : s.hive.waiting = []) (r : Nat) : s.dropUnreachable r = s.addSat HIVE_MBX_STAT_DONE 0 := by
  rw [State.dropUnreachable, htx]
  exact State.pump_idle h

/-! A break (R166, R168, R169). -/

/-- The ring's record with a further hop broken. -/
def RingSt.withBreak (x : RingSt) (hop now : Nat) : RingSt :=
  { x with breaks := x.breaks ++ [hop], healed := x.healed.filter (· != hop), lastBreak := now, rekey := 0, restore := false, echo := [] }

/-- A hop noted as broken, and named in the ring's status: the first in BREAK_HOP, a further one in MULTI. -/
def State.breakNamed (s : State) (r hop : Nat) : State :=
  (s.setRingSt r ((s.ringSt r).withBreak hop s.now)).set (if (s.ringSt r).breaks.isEmpty then HIVE_RSTAT_BREAK_HOP else HIVE_RSTAT_MULTI)
    (if (s.ringSt r).breaks.isEmpty then hop else 1) r

/-- A break declared in the Standard profile: fragment service in MODE, and the event. -/
def State.breakShown (s : State) (r hop : Nat) : State := ((s.breakNamed r hop).set HIVE_RSTAT_MODE 2 r).raise SRC_HIVE_BREAK r

theorem State.breakNamed_confined (h : regsWf s) (r hop : Nat) : Confined (· = rstatWord r) s (s.breakNamed r hop) := by
  refine .set (Confined.setRingSt (.refl h)) (RstatField.addr ?_ r 0)
  cases (s.ringSt r).breaks.isEmpty <;> exact ⟨rfl, rfl, rfl⟩

/-- A hop that is not known to be broken, in the Standard profile with nothing in flight. -/
theorem State.declareBreak_new (h : regsWf s) (hnew : (s.ringSt r).breaks.contains hop = false) (htight : s.tight = false) (htx : s.hive.tx = [])
    (hwait : s.hive.waiting = []) : s.declareBreak r hop = (s.breakShown r hop).addSat HIVE_MBX_STAT_DONE 0 := by
  have hsplit : s.declareBreak r hop = (((s.breakNamed r hop).set HIVE_RSTAT_MODE
      (if (s.breakNamed r hop).stretched r ((s.ringSt r).breaks ++ [hop]) then 3 else 2) r).raise SRC_HIVE_BREAK r).dropUnreachable r := by
    rw [State.declareBreak, hnew, State.breakNamed]
    dsimp only
    cases (s.ringSt r).breaks.isEmpty <;> rfl
  have hsame : (s.breakNamed r hop).tight = false := by
    rw [← htight]
    exact (s.breakNamed_confined h r hop).flag SYS_CYC_STAT_PROFILE_ACT 0 0 (profile_ne_rstatWord r)
  have hnormal : (s.breakNamed r hop).stretched r ((s.ringSt r).breaks ++ [hop]) = false := by
    rw [State.stretched, hsame]
    rfl
  rw [hsplit, hnormal]
  have hhive := State.raise_hive ((s.breakNamed r hop).set HIVE_RSTAT_MODE 2 r) SRC_HIVE_BREAK r
  exact State.dropUnreachable_idle ((congrArg HiveState.tx hhive).trans htx) ((congrArg HiveState.waiting hhive).trans hwait) r

/-- What the declaration of a break shows. -/
structure BreakDeclared (s t : State) (r hop : Nat) : Prop where
  ring : t.ringSt r = (s.ringSt r).withBreak hop s.now
  mode : t.get HIVE_RSTAT_MODE r = 2
  first : (s.ringSt r).breaks = [] → t.get HIVE_RSTAT_BREAK_HOP r = hop ∧ t.get HIVE_RSTAT_MULTI r = s.get HIVE_RSTAT_MULTI r
  further : (s.ringSt r).breaks ≠ [] → t.get HIVE_RSTAT_BREAK_HOP r = s.get HIVE_RSTAT_BREAK_HOP r ∧ t.get HIVE_RSTAT_MULTI r = 1
  upper : ∀ g, RstatField g → 8 ≤ g.lo → t.get g r = s.get g r
  event : t.flag ⟨ctrlAddr SRC_HIVE_BREAK.blk 0x04, 0, 0, SRC_HIVE_BREAK.s, 1⟩ = true
  frame : HiveHold s t
  word : ∀ a, a ∉ rstatWord r :: evtRegs SRC_HIVE_BREAK.blk SRC_HIVE_BREAK.s → t.word a = s.word a

theorem State.declareBreak_declared (h : regsWf s) (hr : r < 12) (hrings : s.hive.rings.length = 12) (hhop : hop < 32)
    (hnew : (s.ringSt r).breaks.contains hop = false) (htight : s.tight = false) (htx : s.hive.tx = []) (hwait : s.hive.waiting = []) :
    BreakDeclared s (s.declareBreak r hop) r hop := by
  have hring : regsWf (s.setRingSt r ((s.ringSt r).withBreak hop s.now)) := h
  have hnamed := s.breakNamed_confined h r hop
  have hraise : Confined (· ∈ evtRegs SRC_HIVE_BREAK.blk SRC_HIVE_BREAK.s) ((s.breakNamed r hop).set HIVE_RSTAT_MODE 2 r) (s.breakShown r hop) :=
    Confined.raise (.refl (regsWf_set hnamed.wf ..)) fun _ => id
  have hidle := State.addSat_zero_confined hraise.wf HIVE_MBX_STAT_DONE (by decide) 0 0
  have hfield : ∀ g, RstatField g → ((s.breakShown r hop).addSat HIVE_MBX_STAT_DONE 0).get g r = ((s.breakNamed r hop).set HIVE_RSTAT_MODE 2 r).get g r :=
    fun g hg => (hidle.get g r 0 id).trans (hraise.get g r 0 (by rw [hg.addr]; exact rstatWord_not_mem_evtRegs hr rfl))
  have hother : ∀ g, RstatField g → 2 ≤ g.lo → ((s.breakShown r hop).addSat HIVE_MBX_STAT_DONE 0).get g r = (s.breakNamed r hop).get g r :=
    fun g hg hlo => (hfield g hg).trans (State.get_set_other hnamed.wf _ _ _ _ _ _ _ (by decide) (.inr (.inr hlo)))
  rw [State.declareBreak_new h hnew htight htx hwait]
  refine ⟨?ring, ?mode, ?first, ?further, ?upper, ?event, ?frame, ?word⟩
  case ring =>
    exact (State.ringSt_raise ((s.breakNamed r hop).set HIVE_RSTAT_MODE 2 r) SRC_HIVE_BREAK r r).trans (State.ringSt_setRingSt (hr.trans_eq hrings.symm) _)
  case mode => exact (hfield _ ⟨rfl, rfl, rfl⟩).trans (State.get_set_same hnamed.wf _ _ _ _ (by decide))
  case first =>
    intro hwhole
    rw [hother HIVE_RSTAT_BREAK_HOP ⟨rfl, rfl, rfl⟩ (by decide), hother HIVE_RSTAT_MULTI ⟨rfl, rfl, rfl⟩ (by decide), State.breakNamed, hwhole]
    exact ⟨(State.get_set_same hring _ _ _ _ (by decide)).trans (Nat.mod_eq_of_lt hhop), State.get_set_other hring _ _ _ _ _ _ _ (by decide) (.inr (.inl (by decide)))⟩
  case further =>
    intro hbroken
    rw [hother HIVE_RSTAT_BREAK_HOP ⟨rfl, rfl, rfl⟩ (by decide), hother HIVE_RSTAT_MULTI ⟨rfl, rfl, rfl⟩ (by decide), State.breakNamed,
      List.isEmpty_eq_false_iff.2 hbroken]
    exact ⟨State.get_set_other hring _ _ _ _ _ _ _ (by decide) (.inr (.inr (by decide))), State.get_set_same hring _ _ _ _ (by decide)⟩
  case upper =>
    intro g hg hlo
    rw [hother g hg (by omega), State.breakNamed]
    cases (s.ringSt r).breaks.isEmpty
    · exact State.get_set_other hring _ _ _ _ _ _ _ (by decide) (.inr (.inr (by show 3 ≤ g.lo; omega)))
    · exact State.get_set_other hring _ _ _ _ _ _ _ (by decide) (.inr (.inr hlo))
  case event => exact (hidle.flag _ 0 0 id).trans (State.raise_event (regsWf_set hnamed.wf ..) _ _ (by decide))
  case frame =>
    have hset : HiveHold s ((s.breakNamed r hop).set HIVE_RSTAT_MODE 2 r) := rfl
    exact (hset.raise _ _).trans rfl
  case word =>
    intro a ha
    obtain ⟨hstat, hevt⟩ := not_or.1 (mt List.mem_cons.2 ha)
    have hmode : RstatField HIVE_RSTAT_MODE := ⟨rfl, rfl, rfl⟩
    rw [hidle.word a id, hraise.word a hevt, (hnamed.set (f := HIVE_RSTAT_MODE) (hmode.addr r 0)).word a hstat]

/-- The ring's record with a healed hop broken again. -/
def RingSt.brokenAgain (x : RingSt) (hop now : Nat) : RingSt :=
  { x with healed := x.healed.filter (· != hop), lastBreak := now, rekey := 0, restore := false, echo := [] }

/-- A hop that breaks again after it was reported healed (R170). -/
theorem State.declareBreak_again (hknown : (s.ringSt r).breaks.contains hop = true) (hhealed : (s.ringSt r).healed.contains hop = true) :
    s.declareBreak r hop = (s.setRingSt r ((s.ringSt r).brokenAgain hop s.now)).raise SRC_HIVE_BREAK r := by
  rw [State.declareBreak, hknown, hhealed]
  rfl

theorem State.declareBreak_again_shows (h : regsWf s) (hr : r < s.hive.rings.length) (hknown : (s.ringSt r).breaks.contains hop = true)
    (hhealed : (s.ringSt r).healed.contains hop = true) :
    (s.declareBreak r hop).ringSt r = (s.ringSt r).brokenAgain hop s.now ∧
    (s.declareBreak r hop).flag ⟨ctrlAddr SRC_HIVE_BREAK.blk 0x04, 0, 0, SRC_HIVE_BREAK.s, 1⟩ = true ∧ HiveHold s (s.declareBreak r hop) ∧
    ∀ a, a ∉ evtRegs SRC_HIVE_BREAK.blk SRC_HIVE_BREAK.s → (s.declareBreak r hop).word a = s.word a := by
  have hagain := State.declareBreak_again hknown hhealed
  have hset : Confined (· ∈ evtRegs SRC_HIVE_BREAK.blk SRC_HIVE_BREAK.s) s (s.setRingSt r ((s.ringSt r).brokenAgain hop s.now)) := .setRingSt (.refl h)
  have hhold : HiveHold s (s.setRingSt r ((s.ringSt r).brokenAgain hop s.now)) := rfl
  have hring := State.ringSt_setRingSt hr ((s.ringSt r).brokenAgain hop s.now)
  generalize s.setRingSt r ((s.ringSt r).brokenAgain hop s.now) = u at hagain hset hhold hring
  rw [hagain]
  exact ⟨(State.ringSt_raise u SRC_HIVE_BREAK r r).trans hring, State.raise_event hset.wf SRC_HIVE_BREAK r (by decide), hhold.raise SRC_HIVE_BREAK r,
    (hset.raise fun _ => id).word⟩

/-- The ring's record once a hop of it is reported healed: it asks for re-keying. -/
def RingSt.asksRekey (x : RingSt) (healed : List Nat) : RingSt := { x with healed := healed, rekey := 1 }

/-- A hop reported healed. -/
theorem State.healHop_known (hknown : (s.ringSt r).breaks.contains hop = true) :
    ∃ healed, healed.contains hop = true ∧ s.healHop r hop = s.setRingSt r ((s.ringSt r).asksRekey healed) := by
  refine ⟨if (s.ringSt r).healed.contains hop then (s.ringSt r).healed else (s.ringSt r).healed ++ [hop], ?_, if_pos hknown⟩
  split
  · assumption
  · simp

/-- A BREAK that arrives names a hop at the sender's A side or B side (R142). -/
abbrev breakHop (f : List Byte) : Nat := byteAt f 2 % 16 + b2n (bitOf (byteAt f 2) 4)

theorem breakHop_lt (f : List Byte) : breakHop f < 32 := by
  have hbit : b2n (bitOf (byteAt f 2) 4) ≤ 1 := by
    unfold b2n
    split <;> decide
  rw [breakHop]
  omega

theorem opBreakRx_eq (hon : s.ringOn r = true) (hframe : validFrame 0xFC 8 f = true) :
    opBreakRx r f s = if bitOf (byteAt f 2) 5 then s.healHop r (breakHop f) else s.declareBreak r (breakHop f) := by
  rw [opBreakRx, if_pos hon, hframe]
  rfl

end Sys2Proof.Machine
end

section
/-! CERTIFICATE. Breaks declared, served, healed and forgotten (R166 to R170, R172), settled. That a regained lock heals the hop beside its end, and that FROM and PORT of a BREAK count its hop, is log entry 30: the model's choice. -/

namespace Sys2Proof.Machine

open Sys2Proof.Safety

variable {s : State} {r : Nat} {e : Bool}

/-- The UP bit of a device end. -/
abbrev endUp (e : Bool) : Fld := if e then HIVE_RSTAT_B_UP else HIVE_RSTAT_A_UP

theorem rstatField_endUp (e : Bool) : RstatField (endUp e) := by cases e <;> exact ⟨rfl, rfl, rfl⟩

theorem endUp_bits (e : Bool) : 8 ≤ (endUp e).lo ∧ (endUp e).lo + (endUp e).w ≤ 32 ∧ (endUp e).w = 1 := by cases e <;> decide

theorem State.flag_endUp (s : State) (r : Nat) (e : Bool) : (if e then s.flag HIVE_RSTAT_B_UP r else s.flag HIVE_RSTAT_A_UP r) = s.flag (endUp e) r := by
  cases e <;> rfl

theorem ncell_ne_rstatWord (r : Nat) : HIVE_RCTL_NCELL.addr r 0 ≠ rstatWord r := by
  have haddr : HIVE_RCTL_NCELL.addr r 0 = 0x050000 + 0x100 * r := rfl
  rw [haddr, rstatWord]
  omega

theorem State.ncell_set_endUp (h : regsWf s) (r : Nat) (e : Bool) (v : Nat) : (s.set (endUp e) v r).ncell r = s.ncell r :=
  ((rstatField_endUp e).confined h v r).get HIVE_RCTL_NCELL r 0 (ncell_ne_rstatWord r)

theorem State.tight_set_endUp (h : regsWf s) (r : Nat) (e : Bool) (v : Nat) : (s.set (endUp e) v r).tight = s.tight :=
  ((rstatField_endUp e).confined h v r).flag SYS_CYC_STAT_PROFILE_ACT 0 0 (profile_ne_rstatWord r)

theorem opEndLockLoss_eq (h : regsWf s) (hon : s.ringOn r = true) :
    opEndLockLoss r e s = (s.set (endUp e) 0 r).declareBreak r (if e then s.ncell r else 0) := by
  rw [opEndLockLoss, if_pos hon]
  cases e
  · rfl
  · exact congrArg ((s.set HIVE_RSTAT_B_UP 0 r).declareBreak r) (s.ncell_set_endUp h r true 0)

theorem opEndLockRegain_eq (h : regsWf s) (hon : s.ringOn r = true) :
    opEndLockRegain r e s = (s.set (endUp e) 1 r).healHop r (if e then s.ncell r else 0) := by
  rw [opEndLockRegain, if_pos hon]
  cases e
  · rfl
  · exact congrArg ((s.set HIVE_RSTAT_B_UP 1 r).healHop r) (s.ncell_set_endUp h r true 1)

/-- The hop beside a device end. -/
abbrev endHop (s : State) (r : Nat) (e : Bool) : Nat := if e then s.ncell r else 0

theorem endHop_lt (s : State) (r : Nat) (e : Bool) : endHop s r e < 32 := by
  have hlt : s.ncell r < 2 ^ 5 := s.get_lt HIVE_RCTL_NCELL r 0
  unfold endHop
  split <;> omega

/-- A lost lock declares the break of the hop beside its end. -/
theorem opEndLockLoss_declared (h : regsWf s) (hr : r < 12) (hrings : s.hive.rings.length = 12) (hon : s.ringOn r = true) (hwhole : (s.ringSt r).breaks = [])
    (htight : s.tight = false) (htx : s.hive.tx = []) (hwait : s.hive.waiting = []) :
    BreakDeclared (s.set (endUp e) 0 r) (opEndLockLoss r e s) r (endHop s r e) := by
  have hdown := (rstatField_endUp e).confined h 0 r
  have hnew : ((s.set (endUp e) 0 r).ringSt r).breaks.contains (endHop s r e) = false := congrArg (List.contains · _) hwhole
  rw [opEndLockLoss_eq h hon]
  exact State.declareBreak_declared hdown.wf hr hrings (endHop_lt s r e) hnew ((s.tight_set_endUp h r e 0).trans htight) htx hwait

/-- Settles O29: a break is one declaration, whether a BREAK or a lost lock tells of it; a healed hop and a return are updates of the ring's record. -/
theorem breaksAreDeclaredServedAndHealed : Obligations.BreaksAreDeclaredServedAndHealed := by
  unfold Obligations.BreaksAreDeclaredServedAndHealed
  refine ⟨?first, ?further, ?heal, ?again, ?lost, ?regained, ?fragment, ?restore, ?refused, ?returns, ?stays⟩
  case first =>
    intro s r f hwf hup hon hframe hnew hwhole htight htx hwait hrings
    have hop := opBreakRx_eq hon hframe
    rw [hnew, if_neg (by decide)] at hop
    have hbreak := State.declareBreak_declared hwf r.isLt hrings (breakHop_lt f) (by rw [hwhole]; rfl) htight htx hwait
    obtain ⟨hnamed, hmulti⟩ := hbreak.first hwhole
    refine ⟨_, State.next_up hup hop, ?_, ?_, hnamed, hbreak.mode, hmulti, hbreak.event, hbreak.frame, hbreak.word⟩
    · rw [hbreak.ring, RingSt.withBreak, hwhole]
      rfl
    · rw [hbreak.ring]
      rfl
  case further =>
    intro s r f hwf hup hon hframe hnew hbroken hunknown htight htx hwait hrings
    have hop := opBreakRx_eq hon hframe
    rw [hnew, if_neg (by decide)] at hop
    have hbreak := State.declareBreak_declared hwf r.isLt hrings (breakHop_lt f) hunknown htight htx hwait
    obtain ⟨hnamed, hmulti⟩ := hbreak.further hbroken
    refine ⟨_, State.next_up hup hop, ?_, hnamed, hbreak.mode, hmulti, hbreak.event, hbreak.frame, hbreak.word⟩
    rw [hbreak.ring]
    rfl
  case heal =>
    intro s r f hup hon hframe hheal hknown hrings
    have hop := opBreakRx_eq hon hframe
    obtain ⟨healed, hmem, hhealed⟩ := State.healHop_known hknown
    rw [hheal, if_pos rfl, hhealed] at hop
    have hring := State.ringSt_setRingSt (r.isLt.trans_eq hrings.symm) ((s.ringSt r).asksRekey healed)
    exact ⟨_, State.next_up hup hop, (congrArg (fun x : RingSt => x.healed.contains (breakHop f)) hring).trans hmem, congrArg RingSt.rekey hring, (congrArg (s.setRingSt r) hring).symm⟩
  case again =>
    intro s r f hwf hup hon hframe hnew hknown hhealed hrings
    have hop := opBreakRx_eq hon hframe
    rw [hnew, if_neg (by decide)] at hop
    obtain ⟨hring, hevent, hframe, hword⟩ := State.declareBreak_again_shows hwf (r.isLt.trans_eq hrings.symm) hknown hhealed
    refine ⟨_, State.next_up hup hop, ?_, (congrArg RingSt.breaks hring :), congrArg RingSt.lastBreak hring, congrArg RingSt.rekey hring, hevent, hframe, hword⟩
    exact (congrArg (fun x : RingSt => x.healed.contains (breakHop f)) hring).trans (contains_filter_ne _ _)
  case lost =>
    intro s r e hwf hup hon hwhole htight htx hwait hrings
    have hbreak := opEndLockLoss_declared (e := e) hwf r.isLt hrings hon hwhole htight htx hwait
    obtain ⟨hlo, hwidth, -⟩ := endUp_bits e
    refine ⟨_, State.next_up hup rfl, ?_, ?_, (hbreak.first hwhole).1, hbreak.mode, hbreak.event, HiveHold.trans rfl hbreak.frame, ?_⟩
    · rw [State.flag_endUp, State.flag_eq, hbreak.upper (endUp e) (rstatField_endUp e) hlo]
      exact State.flag_set_zero hwf (endUp e) r 0 hwidth
    · rw [hbreak.ring]
      exact congrArg (· ++ [endHop s r e]) hwhole
    · intro a ha
      exact (hbreak.word a ha).trans (((rstatField_endUp e).confined hwf 0 r).word a (List.ne_of_not_mem_cons ha))
  case regained =>
    intro s r e hwf hup hon hknown hrings
    obtain ⟨healed, hmem, hhealed⟩ := State.healHop_known (s := s.set (endUp e) 1 r) hknown
    have hop := (opEndLockRegain_eq hwf hon).trans hhealed
    have hring := State.ringSt_setRingSt (s := s.set (endUp e) 1 r) (r.isLt.trans_eq hrings.symm) (((s.set (endUp e) 1 r).ringSt r).asksRekey healed)
    obtain ⟨-, hwidth, hone⟩ := endUp_bits e
    refine ⟨_, State.next_up hup hop, ?_, (congrArg (fun x : RingSt => x.healed.contains _) hring).trans hmem, congrArg RingSt.rekey hring,
      (congrArg RingSt.breaks hring :), rfl, fun a ha => ((rstatField_endUp e).confined hwf 1 r).word a (List.ne_of_not_mem_cons ha)⟩
    rw [State.flag_endUp]
    exact State.flag_set_one hwf (endUp e) r 0 hwidth hone
  case fragment =>
    intro s r hup hrings
    exact ⟨_, State.next_up hup rfl, rfl, congrArg RingSt.served (State.ringSt_setRingSt (r.isLt.trans_eq hrings.symm) _)⟩
  case restore =>
    intro s r hup hheal hrings
    exact ⟨_, State.next_up hup (congrArg Prod.snd (if_pos hheal)), rfl, congrArg RingSt.restore (State.ringSt_setRingSt (r.isLt.trans_eq hrings.symm) _)⟩
  case refused =>
    intro s r hwf hup hheal
    obtain ⟨hreason, hunit, hoffset, honly, hword⟩ := State.refuse_shows hwf .hive 0x0525 r.val 0
    have hlt : r.val % 0x100 = r.val := Nat.mod_eq_of_lt (r.isLt.trans (by decide))
    exact ⟨_, State.next_up hup (congrArg Prod.snd (if_neg (by rw [hheal]; decide))), hreason, hunit.trans hlt, hoffset, honly, hword⟩
  case returns =>
    intro s r hwf hup hheal hask hrings
    have hmode : RstatField HIVE_RSTAT_MODE := ⟨rfl, rfl, rfl⟩
    have hmulti : RstatField HIVE_RSTAT_MULTI := ⟨rfl, rfl, rfl⟩
    have hset := hmode.confined hwf 1 r
    have hgo : (s.healable r && (s.flag HIVE_RCTL_AUTO_HEAL r || (s.ringSt r).restore)) = true := by
      rw [hheal, Bool.true_and, Bool.or_eq_true]
      exact hask
    refine ⟨_, State.next_up hup (if_pos hgo), ?_, State.flag_set_zero hset.wf _ _ _ (by decide), State.ringSt_setRingSt (r.isLt.trans_eq hrings.symm) _, rfl,
      fun a ha => (hset.set (hmulti.addr r 0)).word a (List.ne_of_not_mem_cons ha)⟩
    exact (State.get_set_other hset.wf _ _ _ _ _ _ _ (by decide) (.inr (.inl (by decide)))).trans (State.get_set_same hwf _ _ _ _ (by decide))
  case stays =>
    intro s r hup hheal
    exact ⟨_, State.next_up hup (if_neg (by rw [hheal]; exact Bool.false_ne_true)), rfl⟩

end Sys2Proof.Machine
end

section
/-! SUPPORT. A keying pass (R162, R163, R165) and a re-keying pass (R170): what the noted counts, the stored delays and a failure show. -/

namespace Sys2Proof.Machine

open Sys2Proof.Safety

variable {s t u : State} {r : Nat} {m : List Int × List Int}

/-- Nothing but registers and HIVE's record differs. -/
abbrev HiveRegs (s t : State) : Prop := t = { s with regs := t.regs, hive := t.hive }

theorem HiveRegs.of_regsOnly (h : RegsOnly s t) : HiveRegs s t := by
  have hhive : t.hive = s.hive := (congrArg State.hive (h : _ = _)).trans rfl
  rw [HiveRegs, hhive]
  exact h

theorem HiveRegs.trans (h : HiveRegs s t) (h' : HiveRegs t u) : HiveRegs s u :=
  Eq.trans h' (congrArg (fun x : State => { x with regs := u.regs, hive := u.hive }) h)

theorem HiveRegs.set (h : HiveRegs s t) (f : Fld) (v k j : Nat) : HiveRegs s (t.set f v k j) := h.trans rfl

theorem HiveRegs.setRingSt (h : HiveRegs s t) (r : Nat) (x : RingSt) : HiveRegs s (t.setRingSt r x) := h.trans rfl

theorem HiveRegs.ite {c : Prop} [Decidable c] (ht : HiveRegs s t) (hu : HiveRegs s u) : HiveRegs s (if c then t else u) := by
  split
  · exact ht
  · exact hu

theorem HiveRegs.sends (h : HiveRegs s t) (fs : List (Nat × Bool × List Byte)) : HiveRegs s (t.sends fs) := .ite (h.trans rfl) h

theorem HiveRegs.foldl {α : Type} {l : List α} {f : State → α → State} (h : HiveRegs s t) (hf : ∀ u x, HiveRegs s u → HiveRegs s (f u x)) :
    HiveRegs s (l.foldl f t) :=
  List.foldlRecOn (motive := HiveRegs s) l f h fun u hu x _ => hf u x hu

theorem HiveRegs.hold (h : HiveRegs s t) : HiveHold s t :=
  have hpwr : t.pwr.holdCopy = s.pwr.holdCopy := (congrArg (fun x : State => x.pwr.holdCopy) (h : _ = _)).trans rfl
  have hforce : t.cap.force = s.cap.force := (congrArg (fun x : State => x.cap.force) (h : _ = _)).trans rfl
  by rw [HiveHold, hpwr, hforce]; exact h

/-! A failed pass (R163, R170). -/

/-- The refusal and the event of a failed pass. -/
def State.keyFailed (s : State) (r why : Nat) : State := (s.refuse .hive why r 0x40).raise SRC_HIVE_KEY_FAIL r

theorem State.keyFailed_confined (h : regsWf s) (r why : Nat) :
    Confined (· ∈ refuseRegs .hive ++ evtRegs SRC_HIVE_KEY_FAIL.blk SRC_HIVE_KEY_FAIL.s) s (s.keyFailed r why) :=
  .raise (.refuse (.refl h) fun _ => List.mem_append_left _) fun _ => List.mem_append_right _

theorem State.keyFailed_hold (h : regsWf s) (r why : Nat) : HiveHold s (s.keyFailed r why) := by
  obtain ⟨-, -, -, honly, -⟩ := State.refuse_shows h .hive why r 0x40
  exact (HiveRegs.of_regsOnly honly).hold.raise SRC_HIVE_KEY_FAIL r

theorem State.ringSt_keyFailed (s : State) (r why : Nat) : (s.keyFailed r why).ringSt r = s.ringSt r :=
  State.ringSt_raise (s.refuse .hive why r 0x40) SRC_HIVE_KEY_FAIL r r

theorem State.keyFailed_shows (h : regsWf s) (hr : r < 12) (why : Nat) :
    (s.keyFailed r why).get (CHK_REASON .hive) = why % 0x10000 ∧ (s.keyFailed r why).get (CHK_UNIT .hive) = r ∧ (s.keyFailed r why).get (CHK_OFFSET .hive) = 0x40 ∧
    (s.keyFailed r why).flag ⟨ctrlAddr SRC_HIVE_KEY_FAIL.blk 0x04, 0, 0, SRC_HIVE_KEY_FAIL.s, 1⟩ = true := by
  obtain ⟨hreason, hunit, hoffset, -, -⟩ := State.refuse_shows h .hive why r 0x40
  have hwf := regsWf_refuse h .hive why r 0x40
  have hraise : Confined (· ∈ evtRegs SRC_HIVE_KEY_FAIL.blk SRC_HIVE_KEY_FAIL.s) (s.refuse .hive why r 0x40) (s.keyFailed r why) := .raise (.refl hwf) fun _ => id
  refine ⟨(hraise.get _ _ _ (by decide)).trans hreason, ((hraise.get _ _ _ (by decide)).trans hunit).trans (Nat.mod_eq_of_lt (by omega)),
    (hraise.get _ _ _ (by decide)).trans hoffset, State.raise_event hwf _ _ (by decide)⟩

/-- The status word of a ring is none of those a failed pass writes. -/
theorem rstatWord_not_mem_failed (hr : r < 12) : rstatWord r ∉ refuseRegs .hive ++ evtRegs SRC_HIVE_KEY_FAIL.blk SRC_HIVE_KEY_FAIL.s := by
  have hchk : rstatWord r ∉ refuseRegs .hive := by
    simp only [rstatWord, refuseRegs, ctrlAddr, Block.no, Block.ctrlUnit, List.mem_cons, List.not_mem_nil, or_false, not_or]
    omega
  exact fun hmem => (List.mem_append.1 hmem).elim hchk (rstatWord_not_mem_evtRegs hr rfl)

/-! A keying pass (R163, R165). -/

/-- The frames of a pass and what it counted: FOUND, and the ends that are in lock. -/
def State.keysFound (s : State) (r : Nat) (m : List Int × List Int) : State :=
  let t := (s.sendsMore (s.keySends r false m.1.length ++ s.keySends r true m.2.length)).set HIVE_RSTAT_FOUND m.1.length r
  let t := if m.1.isEmpty then t else t.set HIVE_RSTAT_A_UP 1 r
  if m.2.isEmpty then t else t.set HIVE_RSTAT_B_UP 1 r

theorem State.keysFound_confined (h : regsWf s) (r : Nat) (m : List Int × List Int) : Confined (· = rstatWord r) s (s.keysFound r m) := by
  have haddr : ∀ {g : Fld}, RstatField g → g.addr r 0 = rstatWord r := fun hg => hg.addr r 0
  have hfound : Confined (· = rstatWord r) s ((s.sendsMore (s.keySends r false m.1.length ++ s.keySends r true m.2.length)).set HIVE_RSTAT_FOUND m.1.length r) :=
    .set (.sends (.refl h)) (haddr ⟨rfl, rfl, rfl⟩)
  have hupA := Confined.ite (c := m.1.isEmpty = true) hfound (hfound.set (f := HIVE_RSTAT_A_UP) (v := 1) (haddr ⟨rfl, rfl, rfl⟩))
  exact .ite hupA (hupA.set (haddr ⟨rfl, rfl, rfl⟩))

theorem State.keysFound_hiveRegs (s : State) (r : Nat) (m : List Int × List Int) : HiveRegs s (s.keysFound r m) := by
  have hfound : HiveRegs s ((s.sendsMore (s.keySends r false m.1.length ++ s.keySends r true m.2.length)).set HIVE_RSTAT_FOUND m.1.length r) :=
    .set (.sends rfl _) ..
  have hupA := HiveRegs.ite (c := m.1.isEmpty = true) hfound (hfound.set HIVE_RSTAT_A_UP 1 r 0)
  exact .ite hupA (hupA.set ..)

theorem State.keysFound_hive (s : State) (r : Nat) (m : List Int × List Int) :
    (s.keysFound r m).hive = (s.sendsMore (s.keySends r false m.1.length ++ s.keySends r true m.2.length)).hive := by
  unfold State.keysFound
  cases m.1.isEmpty <;> cases m.2.isEmpty <;> rfl

theorem State.ringSt_keysFound (s : State) (r : Nat) (m : List Int × List Int) : (s.keysFound r m).ringSt r = s.ringSt r := by
  rw [State.ringSt, State.keysFound_hive, State.sendsMore, State.sends]
  cases s.hiveDrives <;> rfl

theorem State.keysFound_sent (hdrives : s.hiveDrives = true) (hnone : s.hive.sent = []) (r : Nat) (m : List Int × List Int) :
    (s.keysFound r m).hive.sent = s.keySends r false m.1.length ++ s.keySends r true m.2.length := by
  rw [State.keysFound_hive, State.sendsMore, hnone, State.sends, if_pos hdrives]
  rfl

/-- A pass with echoes at both ends shows its count and both ends in lock. -/
theorem State.keysFound_shows (h : regsWf s) (hA : m.1.isEmpty = false) (hB : m.2.isEmpty = false) (hlt : m.1.length < 32) (r : Nat) :
    (s.keysFound r m).get HIVE_RSTAT_FOUND r = m.1.length ∧ (s.keysFound r m).flag HIVE_RSTAT_A_UP r = true ∧ (s.keysFound r m).flag HIVE_RSTAT_B_UP r = true := by
  have hsends : Confined (fun _ => False) s (s.sendsMore (s.keySends r false m.1.length ++ s.keySends r true m.2.length)) := .sends (.refl h)
  rw [State.keysFound, hA, hB]
  generalize s.sendsMore (s.keySends r false m.1.length ++ s.keySends r true m.2.length) = t at hsends
  have hfound := regsWf_set hsends.wf HIVE_RSTAT_FOUND m.1.length r 0
  have hupA := regsWf_set hfound HIVE_RSTAT_A_UP 1 r 0
  refine ⟨?found, ?upA, State.flag_set_one hupA HIVE_RSTAT_B_UP r 0 (by decide) rfl⟩
  case found =>
    calc _ = _ := State.get_set_other hupA _ _ _ _ _ _ _ (by decide) (.inr (.inl (by decide)))
      _ = _ := State.get_set_other hfound _ _ _ _ _ _ _ (by decide) (.inr (.inl (by decide)))
      _ = m.1.length % 2 ^ 5 := State.get_set_same hsends.wf _ _ _ _ (by decide)
      _ = m.1.length := Nat.mod_eq_of_lt hlt
  case upA =>
    rw [State.flag_eq]
    exact (congrArg (· != 0) (State.get_set_other hupA _ _ _ _ _ _ _ (by decide) (.inr (.inl (by decide))))).trans
      (State.flag_set_one hfound HIVE_RSTAT_A_UP r 0 (by decide) rfl)

/-- The path delays of a position stored. -/
def State.setDelays (s : State) (r p a b : Nat) : State := (s.set HIVE_RDLY_DLY_A a r p).set HIVE_RDLY_DLY_B b r p

/-- The delay word of a position. -/
abbrev rdlyWord (r p : Nat) : Nat := 0x050000 + 0x100 * r + 0x40 + 4 * p

theorem rdlyWord_eq (r p : Nat) : HIVE_RDLY_DLY_A.addr r p = rdlyWord r p ∧ HIVE_RDLY_DLY_B.addr r p = rdlyWord r p := by
  have haddr : HIVE_RDLY_DLY_A.addr r p = 0x050040 + 0x100 * r + 4 * p := rfl
  have hsame : HIVE_RDLY_DLY_B.addr r p = HIVE_RDLY_DLY_A.addr r p := rfl
  rw [hsame, haddr, rdlyWord]
  omega

theorem State.setDelays_confined (h : regsWf s) (r p a b : Nat) : Confined (· = rdlyWord r p) s (s.setDelays r p a b) :=
  .set (.set (.refl h) (rdlyWord_eq r p).1) (rdlyWord_eq r p).2

theorem State.setDelays_shows (h : regsWf s) (r p a b : Nat) :
    (s.setDelays r p a b).get HIVE_RDLY_DLY_A r p = a % 0x10000 ∧ (s.setDelays r p a b).get HIVE_RDLY_DLY_B r p = b % 0x10000 := by
  have hA := regsWf_set h HIVE_RDLY_DLY_A a r p
  exact ⟨(State.get_set_other hA _ _ _ _ _ _ _ (by decide) (.inr (.inl (by decide)))).trans (State.get_set_same h _ _ _ _ (by decide)),
    State.get_set_same hA _ _ _ _ (by decide)⟩

/-- The path delays of the first `n` positions stored. -/
def State.delaysStored (s : State) (r n : Nat) (a b : Nat → Nat) : State := (List.range n).foldl (fun s p => s.setDelays r p (a p) (b p)) s

theorem State.delaysStored_succ (s : State) (r n : Nat) (a b : Nat → Nat) :
    s.delaysStored r (n + 1) a b = (s.delaysStored r n a b).setDelays r n (a n) (b n) := by
  rw [State.delaysStored, List.range_succ, List.foldl_append]
  rfl

theorem State.delaysStored_confined (h : regsWf s) (r n : Nat) (a b : Nat → Nat) :
    Confined (· ∈ (List.range n).map (rdlyWord r)) s (s.delaysStored r n a b) :=
  .foldl (.refl h) fun _ p hp hu => hu.trans ((State.setDelays_confined hu.wf r p _ _).mono fun _ e => e ▸ List.mem_map_of_mem hp)

theorem State.delaysStored_hiveRegs (s : State) (r n : Nat) (a b : Nat → Nat) : HiveRegs s (s.delaysStored r n a b) :=
  .foldl rfl fun _ _ hu => hu.trans rfl

theorem State.delaysStored_hive (s : State) (r n : Nat) (a b : Nat → Nat) : (s.delaysStored r n a b).hive = s.hive :=
  List.foldlRecOn (motive := fun t : State => t.hive = s.hive) (List.range n) _ rfl fun _ hu _ _ => hu

theorem State.delaysStored_shows (h : regsWf s) (r : Nat) (a b : Nat → Nat) : ∀ n, ∀ p < n,
    (s.delaysStored r n a b).get HIVE_RDLY_DLY_A r p = a p % 0x10000 ∧ (s.delaysStored r n a b).get HIVE_RDLY_DLY_B r p = b p % 0x10000
  | n + 1, p, hp => by
    have hwf := (State.delaysStored_confined h r n a b).wf
    rw [State.delaysStored_succ]
    rcases Nat.lt_succ_iff_lt_or_eq.1 hp with hlt | rfl
    · obtain ⟨hA, hB⟩ := State.delaysStored_shows h r a b n p hlt
      have hstep := State.setDelays_confined hwf r n (a n) (b n)
      have hword : rdlyWord r p ≠ rdlyWord r n := by
        rw [rdlyWord, rdlyWord]
        omega
      exact ⟨(hstep.get _ r p (by rw [(rdlyWord_eq r p).1]; exact hword)).trans hA, (hstep.get _ r p (by rw [(rdlyWord_eq r p).2]; exact hword)).trans hB⟩
    · exact State.setDelays_shows hwf r p (a p) (b p)

/-- The status of a ring in normal service. -/
def State.ringKeyed (s : State) (r : Nat) : State := ((s.set HIVE_RSTAT_KEYED 1 r).set HIVE_RSTAT_MODE 1 r).set HIVE_RSTAT_MULTI 0 r

theorem State.ringKeyed_confined (h : regsWf s) (r : Nat) : Confined (· = rstatWord r) s (s.ringKeyed r) :=
  have haddr : ∀ {g : Fld}, RstatField g → g.addr r 0 = rstatWord r := fun hg => hg.addr r 0
  .set (.set (.set (.refl h) (haddr ⟨rfl, rfl, rfl⟩)) (haddr ⟨rfl, rfl, rfl⟩)) (haddr ⟨rfl, rfl, rfl⟩)

theorem State.ringKeyed_shows (h : regsWf s) (r : Nat) :
    (s.ringKeyed r).flag HIVE_RSTAT_KEYED r = true ∧ (s.ringKeyed r).get HIVE_RSTAT_MODE r = 1 ∧ (s.ringKeyed r).get HIVE_RSTAT_MULTI r = 0 := by
  have hkeyed := regsWf_set h HIVE_RSTAT_KEYED 1 r 0
  have hmode := regsWf_set hkeyed HIVE_RSTAT_MODE 1 r 0
  refine ⟨?_, (State.get_set_other hmode _ _ _ _ _ _ _ (by decide) (.inr (.inl (by decide)))).trans (State.get_set_same hkeyed _ _ _ _ (by decide)),
    State.get_set_same hmode _ _ _ _ (by decide)⟩
  have hone : (s.ringKeyed r).get HIVE_RSTAT_KEYED r = 1 :=
    calc _ = _ := State.get_set_other hmode _ _ _ _ _ _ _ (by decide) (.inr (.inr (by decide)))
      _ = _ := State.get_set_other hkeyed _ _ _ _ _ _ _ (by decide) (.inr (.inr (by decide)))
      _ = 1 := State.get_set_same h _ _ _ _ (by decide)
  rw [State.flag_eq, hone]
  rfl

/-- The other fields of the status word stand: FOUND and the ends' UP bits. -/
theorem State.ringKeyed_other (h : regsWf s) (r : Nat) {g : Fld} (hlo : 3 ≤ g.lo) (hd : g.lo + g.w ≤ 13 ∨ 14 ≤ g.lo) : (s.ringKeyed r).get g r = s.get g r := by
  have hkeyed := regsWf_set h HIVE_RSTAT_KEYED 1 r 0
  have hmode := regsWf_set hkeyed HIVE_RSTAT_MODE 1 r 0
  calc _ = _ := State.get_set_other hmode HIVE_RSTAT_MULTI g _ _ _ _ _ (by decide) (.inr (.inr hlo))
    _ = _ := State.get_set_other hkeyed HIVE_RSTAT_MODE g _ _ _ _ _ (by decide) (.inr (.inr (show 2 ≤ g.lo by omega)))
    _ = s.get g r := State.get_set_other h _ _ _ _ _ _ _ (by decide) (.inr hd)

theorem keyTol_ne_rstatWord (hr : r < 12) : HIVE_KEY_CFG_KEY_TOL.addr 0 0 ≠ rstatWord r := by
  have haddr : HIVE_KEY_CFG_KEY_TOL.addr 0 0 = 0x051104 := rfl
  rw [haddr, rstatWord]
  omega

/-- The ring's record without the samples of a pass. -/
def RingSt.noSamples (x : RingSt) : RingSt := { x with keyA := [], keyB := [], keyEnd := [] }

/-- What a pass counted, and the ring without KEYED. -/
def State.unkeyed (s : State) (r : Nat) (m : List Int × List Int) : State :=
  ((s.keysFound r m).set HIVE_RSTAT_KEYED 0 r).setRingSt r (s.ringSt r).noSamples

section
variable (hwhole : (s.ringSt r).breaks = []) (hlen : m.1.length = s.ncell r)
include hwhole hlen

/-- A hop that is too slow ends the pass of a whole ring. -/
theorem State.takeKeys_slow (hslow : (hopDelays m.1 ++ hopDelays m.2).any (fun h => decide (640 < h)) = true) :
    s.takeKeys r m = (s.unkeyed r m).keyFailed r 0x0520 := by
  have hring : s.ringWhole r = true := by
    rw [State.ringWhole, hwhole]
    rfl
  have hall : (m.1.length != s.ncell r) = false := by rw [hlen, bne_self_eq_false]
  rw [State.unkeyed, ← s.ringSt_keysFound r m]
  simp only [State.takeKeys, hring, hslow, hall, if_true, State.raiseIf_false]
  rfl

/-- The pass of a whole ring whose hops agree. -/
theorem State.takeKeys_agreed (h : regsWf s) (hr : r < 12) (hpos : 0 < s.ncell r) (hlenB : m.2.length = s.ncell r)
    (hquick : (hopDelays m.1 ++ hopDelays m.2).any (fun h => decide (640 < h)) = false) (hagree : hopsAgree (s.get HIVE_KEY_CFG_KEY_TOL) m.1 m.2 = true) :
    s.takeKeys r m = (((s.keysFound r m).delaysStored r (s.ncell r) (fun p => (m.1.getD p 0).toNat) fun p => (m.2.getD (s.ncell r - 1 - p) 0).toNat).setRingSt r
      ((s.ringSt r).rekeyed true)).ringKeyed r := by
  have hring : s.ringWhole r = true := by
    rw [State.ringWhole, hwhole]
    rfl
  have hall : (m.1.length != s.ncell r) = false := by rw [hlen, bne_self_eq_false]
  have hsome : (m.1.length != 0) = true := bne_iff_ne.2 (by omega)
  rw [← (s.keysFound_confined h r m).get HIVE_KEY_CFG_KEY_TOL 0 0 (keyTol_ne_rstatWord hr), State.keysFound] at hagree
  simp only [State.takeKeys, hring, hquick, hall, if_true, State.raiseIf_false, hagree, hsome]
  refine congrArg (fun t : State => (t.setRingSt r ((s.ringSt r).rekeyed true)).ringKeyed r) (List.foldl_ext _ _ _ fun t p hp => ?_)
  have hlt : p < s.ncell r := List.mem_range.1 hp
  have hA : m.1[p]? = some (m.1.getD p 0) := by simp [List.getD_eq_getElem?_getD, hlen, hlt]
  have hB : m.2[s.ncell r - 1 - p]? = some (m.2.getD (s.ncell r - 1 - p) 0) := by
    have hback : s.ncell r - 1 - p < m.2.length := by omega
    simp [List.getD_eq_getElem?_getD, hback]
  rw [hA, hB]
  rfl
end

/-- A delay word is not the ring's status word. -/
theorem rstatWord_not_mem_rdlyWords (r n : Nat) : rstatWord r ∉ (List.range n).map (rdlyWord r) := by
  simp only [List.mem_map, not_exists, not_and, rstatWord, rdlyWord]
  omega

/-- What the pass of a whole ring shows, its hops agreeing. -/
structure KeysAgreed (s t : State) (r : Nat) (m : List Int × List Int) : Prop where
  found : t.get HIVE_RSTAT_FOUND r = s.ncell r
  keyed : t.flag HIVE_RSTAT_KEYED r = true
  mode : t.get HIVE_RSTAT_MODE r = 1
  upA : t.flag HIVE_RSTAT_A_UP r = true
  upB : t.flag HIVE_RSTAT_B_UP r = true
  multi : t.get HIVE_RSTAT_MULTI r = 0
  delays : ∀ p < s.ncell r, t.get HIVE_RDLY_DLY_A r p = (m.1.getD p 0).toNat % 0x10000 ∧
    t.get HIVE_RDLY_DLY_B r p = (m.2.getD (s.ncell r - 1 - p) 0).toNat % 0x10000
  ring : t.ringSt r = (s.ringSt r).rekeyed true
  sent : s.hiveDrives = true → s.hive.sent = [] → t.hive.sent = s.keySends r false m.1.length ++ s.keySends r true m.2.length
  frame : HiveRegs s t
  word : ∀ a, a ∉ rstatWord r :: (List.range (s.ncell r)).map (rdlyWord r) → t.word a = s.word a

theorem State.takeKeys_keysAgreed (h : regsWf s) (hr : r < 12) (hrings : r < s.hive.rings.length) (hwhole : (s.ringSt r).breaks = [])
    (hlen : m.1.length = s.ncell r) (hlenB : m.2.length = s.ncell r) (hpos : 0 < s.ncell r) (hmax : s.ncell r ≤ 16)
    (hquick : (hopDelays m.1 ++ hopDelays m.2).any (fun h => decide (640 < h)) = false) (hagree : hopsAgree (s.get HIVE_KEY_CFG_KEY_TOL) m.1 m.2 = true) :
    KeysAgreed s (s.takeKeys r m) r m := by
  have hfound := s.keysFound_confined h r m
  have hshown : (s.keysFound r m).get HIVE_RSTAT_FOUND r = m.1.length ∧ (s.keysFound r m).flag HIVE_RSTAT_A_UP r = true ∧
      (s.keysFound r m).flag HIVE_RSTAT_B_UP r = true :=
    State.keysFound_shows h (List.isEmpty_eq_false_iff.2 (List.ne_nil_of_length_pos (by omega))) (List.isEmpty_eq_false_iff.2 (List.ne_nil_of_length_pos (by omega)))
      (by omega) r
  obtain ⟨hcount, hupA, hupB⟩ := hshown
  have hhive := s.keysFound_hiveRegs r m
  have hlength : r < (s.keysFound r m).hive.rings.length := by
    have hrec := s.keysFound_hive r m
    rw [hrec, State.sendsMore, State.sends]
    cases s.hiveDrives <;> exact hrings
  have hsent := fun hdrives hnone => State.keysFound_sent (s := s) hdrives hnone r m
  rw [State.takeKeys_agreed hwhole hlen h hr hpos hlenB hquick hagree]
  generalize s.keysFound r m = f at hfound hcount hupA hupB hhive hlength hsent
  have hstored := f.delaysStored_confined hfound.wf r (s.ncell r) (fun p => (m.1.getD p 0).toNat) fun p => (m.2.getD (s.ncell r - 1 - p) 0).toNat
  have hdelays := State.delaysStored_shows hfound.wf r (fun p => (m.1.getD p 0).toNat) (fun p => (m.2.getD (s.ncell r - 1 - p) 0).toNat) (s.ncell r)
  have hkept := f.delaysStored_hiveRegs r (s.ncell r) (fun p => (m.1.getD p 0).toNat) fun p => (m.2.getD (s.ncell r - 1 - p) 0).toNat
  have hsame := f.delaysStored_hive r (s.ncell r) (fun p => (m.1.getD p 0).toNat) fun p => (m.2.getD (s.ncell r - 1 - p) 0).toNat
  generalize f.delaysStored r (s.ncell r) (fun p => (m.1.getD p 0).toNat) (fun p => (m.2.getD (s.ncell r - 1 - p) 0).toNat) = d at hstored hdelays hkept hsame
  have hring : regsWf (d.setRingSt r ((s.ringSt r).rekeyed true)) := hstored.wf
  have hshow := State.ringKeyed_confined hring r
  obtain ⟨hkeyed, hmode, hmulti⟩ := State.ringKeyed_shows hring r
  have hother : ∀ g, RstatField g → 3 ≤ g.lo → (g.lo + g.w ≤ 13 ∨ 14 ≤ g.lo) → ((d.setRingSt r ((s.ringSt r).rekeyed true)).ringKeyed r).get g r = f.get g r :=
    fun g hg hlo hd => (State.ringKeyed_other hring r hlo hd).trans (hstored.get g r 0 (by rw [hg.addr]; exact rstatWord_not_mem_rdlyWords r _))
  refine ⟨?found, hkeyed, hmode, ?upA, ?upB, hmulti, ?delays, ?ring, ?sent, ?frame, ?word⟩
  case found => exact (hother HIVE_RSTAT_FOUND ⟨rfl, rfl, rfl⟩ (by decide) (.inl (by decide))).trans (hcount.trans hlen)
  case upA => rwa [State.flag_eq, hother HIVE_RSTAT_A_UP ⟨rfl, rfl, rfl⟩ (by decide) (.inr (by decide))]
  case upB => rwa [State.flag_eq, hother HIVE_RSTAT_B_UP ⟨rfl, rfl, rfl⟩ (by decide) (.inr (by decide))]
  case delays =>
    intro p hp
    obtain ⟨hA, hB⟩ := hdelays p hp
    have hword : ¬ rdlyWord r p = rstatWord r := fun e => rstatWord_not_mem_rdlyWords r (s.ncell r) (e ▸ List.mem_map_of_mem (List.mem_range.2 hp))
    exact ⟨(hshow.get _ r p (by rw [(rdlyWord_eq r p).1]; exact hword)).trans hA, (hshow.get _ r p (by rw [(rdlyWord_eq r p).2]; exact hword)).trans hB⟩
  case ring => exact State.ringSt_setRingSt (by rw [hsame]; exact hlength) _
  case sent => exact fun hdrives hnone => (congrArg HiveState.sent hsame).trans (hsent hdrives hnone)
  case frame => exact ((hhive.trans hkept).setRingSt r ((s.ringSt r).rekeyed true)).trans rfl
  case word =>
    intro a ha
    obtain ⟨hstat, hdelay⟩ := not_or.1 (mt List.mem_cons.2 ha)
    exact ((hshow.word a hstat).trans (hstored.word a hdelay)).trans (hfound.word a hstat)

theorem State.unkeyed_confined (h : regsWf s) (r : Nat) (m : List Int × List Int) : Confined (· = rstatWord r) s (s.unkeyed r m) :=
  have hkeyed : RstatField HIVE_RSTAT_KEYED := ⟨rfl, rfl, rfl⟩
  .setRingSt ((s.keysFound_confined h r m).set (hkeyed.addr r 0))

theorem State.unkeyed_flag (h : regsWf s) (r : Nat) (m : List Int × List Int) : (s.unkeyed r m).flag HIVE_RSTAT_KEYED r = false :=
  State.flag_set_zero (s.keysFound_confined h r m).wf HIVE_RSTAT_KEYED r 0 (by decide)

theorem State.unkeyed_hiveRegs (s : State) (r : Nat) (m : List Int × List Int) : HiveRegs s (s.unkeyed r m) :=
  .setRingSt ((s.keysFound_hiveRegs r m).set ..) ..

/-- A pass that fails leaves the ring without KEYED. -/
theorem State.unkeyed_failed (h : regsWf s) (hr : r < 12) (m : List Int × List Int) (why : Nat) :
    ((s.unkeyed r m).keyFailed r why).flag HIVE_RSTAT_KEYED r = false ∧
    ∀ a, a ∉ rstatWord r :: refuseRegs .hive ++ evtRegs SRC_HIVE_KEY_FAIL.blk SRC_HIVE_KEY_FAIL.s → ((s.unkeyed r m).keyFailed r why).word a = s.word a := by
  have hunkeyed := s.unkeyed_confined h r m
  have hfail := (s.unkeyed r m).keyFailed_confined hunkeyed.wf r why
  have hkeyed : RstatField HIVE_RSTAT_KEYED := ⟨rfl, rfl, rfl⟩
  refine ⟨(hfail.flag _ r 0 ?_).trans (State.unkeyed_flag h r m), fun a ha => ?_⟩
  · rw [hkeyed.addr]
    exact rstatWord_not_mem_failed hr
  · obtain ⟨hstat, hother⟩ := not_or.1 (mt List.mem_cons.2 ha)
    exact (hfail.word a hother).trans (hunkeyed.word a hstat)

theorem opKeyingPass_on (hon : s.ringOn r = true) (hkeyed : s.keyed r = m) : opKeyingPass r s = s.unsent.takeKeys r m := by
  rw [opKeyingPass, if_pos hon, hkeyed, State.unsent]

/-! A re-keying pass (R170). -/

/-- The frames of a re-keying pass, and its verdict in the ring's record. -/
def State.rekeyEnded (s : State) (r : Nat) (m : List Int × List Int) (verdict : Nat) : State :=
  (s.sends (s.keySends r false m.1.length ++ s.keySends r true m.2.length)).setRingSt r { (s.ringSt r).noSamples with rekey := verdict }

theorem State.rekeyEnded_confined (h : regsWf s) (r : Nat) (m : List Int × List Int) (v : Nat) : Confined (fun _ => False) s (s.rekeyEnded r m v) :=
  .setRingSt (.sends (.refl h))

theorem State.rekeyEnded_frame (s : State) (r : Nat) (m : List Int × List Int) (v : Nat) : s.rekeyEnded r m v = { s with hive := (s.rekeyEnded r m v).hive } := by
  rw [State.rekeyEnded, State.sends]
  cases s.hiveDrives <;> rfl

theorem State.ringSt_rekeyEnded (hr : r < s.hive.rings.length) (m : List Int × List Int) (v : Nat) :
    (s.rekeyEnded r m v).ringSt r = { (s.ringSt r).noSamples with rekey := v } := by
  refine State.ringSt_setRingSt ?_ _
  rw [State.sends]
  cases s.hiveDrives <;> exact hr

section
variable (hon : s.ringOn r = true) (hask : (s.ringSt r).rekey = 1) (hhealed : (s.ringSt r).breaks.all (fun h => (s.ringSt r).healed.contains h) = true)
  (hkeyed : s.keyed r = m)
include hon hask hhealed hkeyed

/-- A re-keying pass that was asked for, every break reported healed. -/
theorem opRekeyPass_asked {okA okB : Bool}
    (hA : ((hopDelays m.1).zip (hopDelays ((List.range (s.ncell r)).map (fun p => (s.get HIVE_RDLY_DLY_A r p : Int))))).all
      (fun q => decide ((q.1 - q.2).natAbs ≤ s.get HIVE_KEY_CFG_KEY_TOL)) = okA)
    (hB : ((hopDelays m.2).zip (hopDelays ((List.range (s.ncell r)).map (fun p => (s.get HIVE_RDLY_DLY_B r (s.ncell r - 1 - p) : Int))))).all
      (fun q => decide ((q.1 - q.2).natAbs ≤ s.get HIVE_KEY_CFG_KEY_TOL)) = okB) :
    opRekeyPass r s = if (decide (m.1.length = s.ncell r) && decide (m.2.length = s.ncell r) && okA && okB) = true then s.rekeyEnded r m 2
      else (s.rekeyEnded r m 3).keyFailed r 0x0522 := by
  have hgo : (s.ringOn r && (s.ringSt r).rekey == 1 && (s.ringSt r).breaks.all (fun h => (s.ringSt r).healed.contains h)) = true := by
    rw [hon, hask, hhealed]
    rfl
  simp only [opRekeyPass, hgo, if_true, hkeyed, hA, hB]
  cases decide (m.1.length = s.ncell r) && decide (m.2.length = s.ncell r) && okA && okB <;> rfl

theorem opRekeyPass_agrees (hlenA : m.1.length = s.ncell r) (hlenB : m.2.length = s.ncell r)
    (hA : ((hopDelays m.1).zip (hopDelays ((List.range (s.ncell r)).map (fun p => (s.get HIVE_RDLY_DLY_A r p : Int))))).all
      (fun q => decide ((q.1 - q.2).natAbs ≤ s.get HIVE_KEY_CFG_KEY_TOL)) = true)
    (hB : ((hopDelays m.2).zip (hopDelays ((List.range (s.ncell r)).map (fun p => (s.get HIVE_RDLY_DLY_B r (s.ncell r - 1 - p) : Int))))).all
      (fun q => decide ((q.1 - q.2).natAbs ≤ s.get HIVE_KEY_CFG_KEY_TOL)) = true) :
    opRekeyPass r s = s.rekeyEnded r m 2 := by
  rw [opRekeyPass_asked hon hask hhealed hkeyed hA hB, decide_eq_true hlenA, decide_eq_true hlenB]
  rfl

/-- End A's hops disagree with HIVE_RDLY. -/
theorem opRekeyPass_disagrees
    (hA : ((hopDelays m.1).zip (hopDelays ((List.range (s.ncell r)).map (fun p => (s.get HIVE_RDLY_DLY_A r p : Int))))).all
      (fun q => decide ((q.1 - q.2).natAbs ≤ s.get HIVE_KEY_CFG_KEY_TOL)) = false) :
    opRekeyPass r s = (s.rekeyEnded r m 3).keyFailed r 0x0522 := by
  rw [opRekeyPass_asked hon hask hhealed hkeyed hA rfl, Bool.and_false, Bool.false_and]
  rfl

end

theorem State.rekeyEnded_sent (hdrives : s.hiveDrives = true) (m : List Int × List Int) (v : Nat) :
    (s.rekeyEnded r m v).hive.sent = s.keySends r false m.1.length ++ s.keySends r true m.2.length := by
  rw [State.rekeyEnded, State.sends, if_pos hdrives]
  rfl

/-! KEY frames that arrive (R162). -/

theorem opKeyEchoRx_echo {e : Bool} {f : List Byte} {trip : Nat} (hon : s.ringOn r = true) (hframe : validFrame 0xFD 8 f = true)
    (hecho : bitOf (byteAt f 3) 0 = true) (hopen : (s.ringSt r).keyEnd.contains e = false) :
    opKeyEchoRx r e f trip s = s.setRingSt r { s.ringSt r with
      keyA := (s.ringSt r).keyA ++ if e then [] else [(s.keyTarget r e f, (trip : Int) - leAt f 4 2)],
      keyB := (s.ringSt r).keyB ++ if e then [(s.keyTarget r e f, (trip : Int) - leAt f 4 2)] else [] } := by
  rw [opKeyEchoRx, if_pos hon, hframe, hecho]
  cases e <;> simp only [hopen, Bool.not_true, Bool.false_eq_true, if_true, if_false, List.append_nil]

/-- A KEY that came through the ring ends the pass of the other end. -/
theorem opKeyEchoRx_through {e : Bool} {f : List Byte} {trip : Nat} (hon : s.ringOn r = true) (hframe : validFrame 0xFD 8 f = true)
    (hecho : bitOf (byteAt f 3) 0 = false) : ∃ passed, passed.contains (!e) = true ∧ opKeyEchoRx r e f trip s = s.setRingSt r { s.ringSt r with keyEnd := passed } := by
  refine ⟨if (s.ringSt r).keyEnd.contains (!e) then (s.ringSt r).keyEnd else (s.ringSt r).keyEnd ++ [!e], ?_, ?_⟩
  · split
    · assumption
    · simp
  · rw [opKeyEchoRx, if_pos hon, hframe, hecho]
    rfl

end Sys2Proof.Machine
end

section
/-! SUPPORT. Enumeration (R164, R180): the slot handed over, and the request for the identity words issued. -/

namespace Sys2Proof.Machine

open Sys2Proof.Safety

variable {s t u : State} {r p i tag : Nat}

/-- The registers a handed-over slot's state, its selector's position and its trims stand in. -/
abbrev handOverRegs (i : Nat) : List Nat :=
  (0x060008 + 0x100 * i) :: OUT_ALLOC_POS_POS.addr 0 (i / 8) :: (List.range 4).map (fun k => CAL_T_IAC_G.addr i 0 + 4 * k)

/-- Nothing but registers, the front ends and the records of CAL and CELL differs. -/
abbrev SlotFrame (s t : State) : Prop := t = { s with regs := t.regs, fes := t.fes, cal := t.cal, cell := t.cell }

theorem SlotFrame.trans (h : SlotFrame s t) (h' : SlotFrame t u) : SlotFrame s u :=
  Eq.trans h' (congrArg (fun x : State => { x with regs := u.regs, fes := u.fes, cal := u.cal, cell := u.cell }) h)

theorem SlotFrame.of_regsOnly (h : RegsOnly s t) : SlotFrame s t :=
  h.trans (congrArg (fun x : State => { s with regs := t.regs, fes := x.fes, cal := x.cal, cell := x.cell }) h).symm

theorem SlotFrame.withCal (s : State) (c : CalState) : SlotFrame s { s with cal := c } := rfl

/-- A fold that clears words clears each of them. -/
theorem State.wordsCleared (h : regsWf s) (a : Nat) : ∀ n, ∀ k < n, ((List.range n).foldl (fun s k => s.putWord (a + 4 * k) 0#32) s).word (a + 4 * k) = 0
  | n + 1, k, hk => by
    have hwf : regsWf ((List.range n).foldl (fun s k => s.putWord (a + 4 * k) 0#32) s) :=
      (Confined.foldl (W := fun _ => True) (.refl h) fun _ _ _ hu => hu.putWord trivial).wf
    rw [List.range_succ, List.foldl_append]
    rcases Nat.lt_succ_iff_lt_or_eq.1 hk with hlt | rfl
    · exact (State.word_putWord_other hwf 0#32 (by omega)).trans (State.wordsCleared h a n k hlt)
    · exact State.word_putWord_same hwf _ 0#32

theorem State.word_withCal (s : State) (c : CalState) (a : Nat) : ({ s with cal := c } : State).word a = s.word a := rfl

/-- A slot's trims cleared. -/
def State.trimsCleared (s : State) (i : Nat) : State := (List.range 4).foldl (fun s k => s.putWord (CAL_T_IAC_G.addr i 0 + 4 * k) 0#32) s

/-- A slot's estimators started again, and its updates that are pending discarded. -/
def CalState.forgetSlot (c : CalState) (i : Nat) : CalState :=
  { c with snaps := c.snaps.map (fun (x : CalSnap) => x.without i), slots := c.slots.set i ⟨[(0, 0), (0, 0), (0, 0)], [(0, 0), (0, 0), (0, 0)], none, none, []⟩ }

theorem State.calForget_eq (s : State) (i : Nat) : s.calForget i = { s.trimsCleared i with cal := (s.trimsCleared i).cal.forgetSlot i } := by
  rw [State.calForget, State.trimsCleared, CalState.forgetSlot]

theorem State.calForget_shows (h : regsWf s) (i : Nat) :
    Confined (· ∈ (List.range 4).map (fun k => CAL_T_IAC_G.addr i 0 + 4 * k)) s (s.calForget i) ∧
    (∀ k < 4, (s.calForget i).word (CAL_T_IAC_G.addr i 0 + 4 * k) = 0) ∧ SlotFrame s (s.calForget i) := by
  have hfold : Confined (· ∈ (List.range 4).map (fun k => CAL_T_IAC_G.addr i 0 + 4 * k)) s (s.trimsCleared i) :=
    .foldl (.refl h) fun _ k hk hu => hu.putWord (List.mem_map_of_mem hk)
  have hcleared : ∀ k < 4, (s.trimsCleared i).word (CAL_T_IAC_G.addr i 0 + 4 * k) = 0 := State.wordsCleared h _ 4
  have honly : RegsOnly s (s.trimsCleared i) := regsOnly_foldl (fun _ _ => rfl) _ s
  rw [s.calForget_eq i]
  exact ⟨hfold.keep rfl rfl rfl, fun k hk => (State.word_withCal ..).trans (hcleared k hk), (SlotFrame.of_regsOnly honly).trans (.withCal _ _)⟩

/-- What the handing over of a slot shows. -/
structure HandedOver (s t : State) (i : Nat) : Prop where
  state : t.get CELL_SSTAT_STATE i = 1
  pos : t.getPk OUT_ALLOC_POS_POS 8 4 i = 0xF
  trims : ∀ k < 4, t.word (CAL_T_IAC_G.addr i 0 + 4 * k) = 0
  fe : (t.fe i).st = 1 ∧ (t.fe i).byp = true ∧ (t.fe i).cyc = none
  frame : SlotFrame s t
  confined : Confined (· ∈ handOverRegs i) s t

/-- The registers of a slot that is handed over. -/
theorem handOverAddr (i : Nat) :
    CELL_SSTAT_STATE.addr i 0 = 0x060008 + 0x100 * i ∧ OUT_ALLOC_POS_POS.addr 0 (i / 8) = 0x0A1300 + 4 * (i / 8) ∧ CAL_T_IAC_G.addr i 0 = 0x0C6000 + 0x10 * i := by
  simp only [Fld.addr, CELL_SSTAT_STATE, OUT_ALLOC_POS_POS, CAL_T_IAC_G, Nat.mul_zero, Nat.add_zero, and_self]

/-- A handed-over slot in ENUM, its selector's position unknown. -/
def State.enumSlot (s : State) (i : Nat) : State := (s.set CELL_SSTAT_STATE 1 i).setPk OUT_ALLOC_POS_POS 8 4 i 0xF

theorem State.enumSlot_shows (h : regsWf s) (hi : i < 192) :
    Confined (· ∈ handOverRegs i) s (s.enumSlot i) ∧ (s.enumSlot i).get CELL_SSTAT_STATE i = 1 ∧ (s.enumSlot i).getPk OUT_ALLOC_POS_POS 8 4 i = 0xF := by
  obtain ⟨hstat, hpos, -⟩ := handOverAddr i
  have hwf := regsWf_set h CELL_SSTAT_STATE 1 i 0
  refine ⟨.setPk (.set (.refl h) (by rw [hstat]; exact List.mem_cons_self)) (List.mem_cons_of_mem _ List.mem_cons_self), ?_,
    State.getPk_setPk_same hwf (by decide) (by decide) (by decide) _ _⟩
  have hother : CELL_SSTAT_STATE.addr i 0 ≠ OUT_ALLOC_POS_POS.addr 0 (i / 8) := by
    rw [hstat, hpos]
    omega
  exact (State.get_putWord_other hwf _ _ _ _ _ hother).trans (State.get_set_same h _ _ _ _ (by decide))

/-- The front end of a slot that enters ENUM: bypassed, nothing received, no cycle and no SYNC. -/
def State.slotEntered (s : State) (i : Nat) : State :=
  let t := s.setFe i { s.fe i with st := 1, byp := true, frame := none, pend := 0, sync := none, cyc := none }
  { t with cell := { t.cell with synced := t.cell.synced.filter (· != i) } }

theorem State.slotEntered_regs (s : State) (i : Nat) : (s.slotEntered i).regs = s.regs := rfl

theorem State.slotEntered_frame (s : State) (i : Nat) : SlotFrame s (s.slotEntered i) := rfl

theorem State.slotEntered_confined {W : Nat → Prop} (h : Confined W s t) (i : Nat) : Confined W s (t.slotEntered i) := h.keep rfl rfl rfl

theorem State.slotEntered_fe (hi : i < s.fes.length) : ((s.slotEntered i).fe i).st = 1 ∧ ((s.slotEntered i).fe i).byp = true ∧ ((s.slotEntered i).fe i).cyc = none := by
  have hfe := State.fe_setFe hi { s.fe i with st := 1, byp := true, frame := none, pend := 0, sync := none, cyc := none }
  exact ⟨congrArg FeSt.st hfe, congrArg FeSt.byp hfe, congrArg FeSt.cyc hfe⟩

theorem State.handOver_eq (s : State) (i : Nat) : s.handOver i = ((s.enumSlot i).calForget i).slotEntered i := by
  rw [State.handOver, State.slotEntered, State.enumSlot]

theorem State.handOver_handedOver (h : regsWf s) (hi : i < 192) (hfes : s.fes.length = 192) : HandedOver s (s.handOver i) i := by
  obtain ⟨hstat, hpos, htrim⟩ := handOverAddr i
  obtain ⟨hslot, henum, hsel⟩ := State.enumSlot_shows h hi
  obtain ⟨hforget, hcleared, hframe⟩ := State.calForget_shows hslot.wf i
  have hfes' : ((s.enumSlot i).calForget i).fes.length = 192 := hfes
  have hout : ∀ a, a < 0x0C6000 → a ∉ (List.range 4).map (fun k => CAL_T_IAC_G.addr i 0 + 4 * k) := fun a ha hmem => by
    obtain ⟨k, -, rfl⟩ := List.mem_map.1 hmem
    omega
  have hall := hslot.trans (hforget.mono fun _ ha => List.mem_cons_of_mem _ (List.mem_cons_of_mem _ ha))
  have hstate := (hforget.get CELL_SSTAT_STATE i 0 (hout _ (by omega))).trans henum
  have hsel' : ((s.enumSlot i).calForget i).getPk OUT_ALLOC_POS_POS 8 4 i = 0xF := (congrArg (fieldOf · _ _) (hforget.word _ (hout _ (by omega)))).trans hsel
  have hkept := (SlotFrame.of_regsOnly (show RegsOnly s (s.enumSlot i) from rfl)).trans hframe
  rw [s.handOver_eq i]
  generalize (s.enumSlot i).calForget i = t at hcleared hfes' hall hstate hsel' hkept
  have hword := State.word_congr (t.slotEntered_regs i)
  refine ⟨(State.get_congr (t.slotEntered_regs i) ..).trans hstate, ?pos, fun k hk => (hword _).trans (hcleared k hk), State.slotEntered_fe (hi.trans_eq hfes'.symm),
    hkept.trans (t.slotEntered_frame i), State.slotEntered_confined hall i⟩
  case pos => exact (congrArg (fieldOf · _ _) (hword _)).trans hsel'

/-! The request issued (R155, R157). -/

/-- The registers that the issue of a request to a ring reads: the profile, the ring's length, PER_CELL and PART's EN. -/
abbrev issueRegs (r : Nat) : List Nat := [0x000114, 0x050000 + 0x100 * r, 0x051200, 0x160000]

/-- A request to a position can be issued, under `tag`. -/
structure CanIssue (s : State) (r p tag : Nat) : Prop where
  path : s.cutOff r p = false
  free : s.freeTag false = some tag
  room : s.perCellOk r p = true
  place : s.endPlace r p = true
  alone : s.en .part = false

theorem CanIssue.of_same (h : CanIssue s r p tag) (htx : t.hive.tx = s.hive.tx) (hrings : t.hive.rings = s.hive.rings)
    (hword : ∀ a ∈ issueRegs r, t.word a = s.word a) : CanIssue t r p tag := by
  have hget : ∀ g : Fld, ∀ k, g.addr k 0 ∈ issueRegs r → t.get g k = s.get g k := fun g k hg => by simp only [State.get, hword _ hg]
  have hring : t.ringSt r = s.ringSt r := by rw [State.ringSt, State.ringSt, hrings]
  have hcut : ∀ q, t.cutOff r q = s.cutOff r q := fun q => by rw [State.cutOff, State.cutOff, hring]
  have htight : t.tight = s.tight := congrArg (· != 0) (hget SYS_CYC_STAT_PROFILE_ACT 0 List.mem_cons_self)
  have hncell : t.ncell r = s.ncell r := hget HIVE_RCTL_NCELL r (List.mem_cons_of_mem _ List.mem_cons_self)
  have hend : ∀ q, t.mbxEnd r q = s.mbxEnd r q := fun q => by simp only [State.mbxEnd, hring, hcut, htight, hncell]
  have hqueued : ∀ e, t.queuedAt r e = s.queuedAt r e := fun e => by simp only [State.queuedAt, htx, hend]
  refine ⟨(hcut p).trans h.path, ?free, ?room, ?place, ?alone⟩
  case free => simpa only [State.freeTag, htx] using h.free
  case room => simpa only [State.perCellOk, htx, hget HIVE_MBX_CFG_PER_CELL 0 (List.mem_cons_of_mem _ (List.mem_cons_of_mem _ List.mem_cons_self))] using h.room
  case place => simpa only [State.endPlace, hend, hqueued] using h.place
  case alone => exact (congrArg (· != 0) (hget (CTRL_EN .part) 0 (by simp [issueRegs, Fld.addr, CTRL_EN, ctrlAddr, Block.no, Block.ctrlUnit]))).trans h.alone

/-- The request for the identity words of a position, waiting (R164). -/
def identityRequest (r p : Nat) : MbxTx := ⟨0, 0, r, p, 1, 0, 8, [], [], 1, 0, false, 0, 0, 0⟩

/-- A request as it is issued, queued at its ring end. -/
def MbxTx.issuedAs (x : MbxTx) (tag gen : Nat) : MbxTx := { x with tag := tag, gen := gen, tries := 0, queued := true }

/-- The GEN that a tag's next request takes (R155). -/
abbrev State.nextGen (s : State) (tag : Nat) : Nat := (s.hive.gens.getD tag 0 + 1) % 4

/-- The state with the one waiting request issued under a tag. -/
def State.issued (s : State) (tag : Nat) (x : MbxTx) : State :=
  { s with hive := { s.hive with waiting := [], gens := s.hive.gens.set tag (s.nextGen tag), tx := s.hive.tx ++ [x.issuedAs tag (s.nextGen tag)] } }.countTx

theorem State.issue_alone (h : s.en .part = false) (tag : Nat) (x : MbxTx) :
    ({ s with hive := { s.hive with waiting := [] } } : State).issue tag x = s.issued tag x := by
  have halone : ({ s with hive := { s.hive with waiting := [] } } : State).en .part = false := h
  rw [State.issue]
  simp only [halone, Bool.false_eq_true, if_false]
  rfl

/-- With one request waiting that can be issued, the pump issues it. -/
theorem State.pumpGo_one {x : MbxTx} (hcan : CanIssue s x.ring x.pos tag) (hwait : s.hive.waiting = [x]) (n : Nat) : s.pumpGo (n + 1) = s.issued tag x := by
  have hripe : s.ripe s.hive.waiting [] = some x := by
    rw [hwait, State.ripe, hcan.room, hcan.place]
    rfl
  rw [State.pumpGo, hcan.free, hripe, hwait]
  simp only [List.erase_cons_head]
  rw [State.issue_alone hcan.alone]
  exact State.pumpGo_idle (s := s.issued tag x) rfl n

/-- The pump issues the one request that waits. -/
theorem State.pump_issues {x : MbxTx} (h : regsWf s) (hcan : CanIssue s x.ring x.pos tag) (hwait : s.hive.waiting = [x]) :
    s.pump = (s.addSat HIVE_MBX_STAT_DONE 0).issued tag x := by
  have hidle := State.addSat_zero_confined h HIVE_MBX_STAT_DONE (by decide) 0 0
  have hself : ({ s with hive := { s.hive with waiting := [x] } } : State) = s := by rw [← hwait]
  have hissue : CanIssue (s.addSat HIVE_MBX_STAT_DONE 0) x.ring x.pos tag := hcan.of_same rfl rfl fun a _ => hidle.word a id
  rw [← State.pumpGo_one hissue hwait 7, State.pump]
  simp only [hwait, List.filter_cons, List.filter_nil, hcan.path, Bool.not_false, Bool.false_eq_true, if_true, if_false, hself, List.length_nil]

/-- The state with the request for the identity words issued. -/
def State.asked (s : State) (r p tag : Nat) : State :=
  (({ s with hive := { s.hive with waiting := [identityRequest r p] } } : State).addSat HIVE_MBX_STAT_DONE 0).issued tag (identityRequest r p)

theorem State.request_issued (h : regsWf s) (hcan : CanIssue s r p tag) (hwait : s.hive.waiting = []) : s.request 1 r p 1 0 [] 8 0 = s.asked r p tag := by
  have hwaits : ({ s with hive := { s.hive with waiting := [identityRequest r p] } } : State).hive.waiting = [identityRequest r p] := rfl
  rw [State.request, hwait]
  exact State.pump_issues (x := identityRequest r p) h (hcan.of_same rfl rfl fun _ _ => rfl) hwaits

theorem State.asked_confined (h : regsWf s) (r p tag : Nat) : Confined (· = 0x051214) s (s.asked r p tag) := by
  have hwaits : Confined (· = 0x051214) s { s with hive := { s.hive with waiting := [identityRequest r p] } } := (Confined.refl h).keep rfl rfl rfl
  have hdone := hwaits.addSat (f := HIVE_MBX_STAT_DONE) (u := 0) (i := 0) (k := 0) rfl
  exact .set (hdone.keep rfl rfl rfl) rfl

theorem State.asked_hive (s : State) (r p tag : Nat) : (s.asked r p tag).hive.sent = s.hive.sent ∧
    (s.asked r p tag).hive.tx = s.hive.tx ++ [(identityRequest r p).issuedAs tag (s.nextGen tag)] := ⟨rfl, rfl⟩

theorem State.asked_frame (s : State) (r p tag : Nat) : HiveRegs s (s.asked r p tag) := rfl

/-! Enumeration (R164). -/

/-- The states an enumeration goes through: the ASSIGN sent, the slot handed over, the identity words asked for. -/
theorem opEnumeration_absent (hon : s.ringOn r = true) (hkeyed : s.flag HIVE_RSTAT_KEYED r = true) (hp : p < s.ncell r) (hcell : s.en .cell = true)
    (hslot : s.slotAt r p = some i) (habsent : s.get CELL_SSTAT_STATE i = 0) (hpath : s.cutOff r p = false)
    (hbefore : (List.range p).all (fun q => s.handedOver r q) = true) :
    opEnumeration r p s = ((s.sends [s.assign r p]).handOver i).request 1 r p 1 0 [] 8 0 := by
  simp only [opEnumeration, hon, hkeyed, hp, hcell, hslot, habsent, hpath, hbefore, decide_true, Bool.and_self, Bool.not_false, if_true]

/-- The ASSIGN of a whole ring leaves from end A. -/
theorem State.assign_whole (h : (s.ringSt r).breaks = []) : s.assign r p = (r, false, assignFrame s r p false) := by
  rw [State.assign, h]
  rfl

/-- The ASSIGN of a position on the line of end A. -/
def State.assignSent (s : State) (r p : Nat) : State := { s with hive := { s.hive with sent := [(r, false, assignFrame s r p false)] } }

/-- None of the registers that the issue of a request reads is written as a slot is handed over. -/
theorem issueRegs_not_mem_handOverRegs (hr : r < 12) (hi : i < 192) : ∀ a ∈ issueRegs r, a ∉ handOverRegs i := by
  obtain ⟨-, hpos, htrim⟩ := handOverAddr i
  intro a ha hmem
  simp only [issueRegs, List.mem_cons, List.not_mem_nil, or_false] at ha
  simp only [handOverRegs, hpos, htrim, List.mem_cons, List.mem_map, List.mem_range] at hmem
  rcases hmem with rfl | rfl | ⟨k, hk, rfl⟩ <;> omega

/-- The enumeration of an absent cell: its slot handed over after the ASSIGN, and the identity words asked for. -/
theorem opEnumeration_asked (h : regsWf s) (hr : r < 12) (hi : i < 192) (hfes : s.fes.length = 192) (hdrives : s.hiveDrives = true)
    (hwhole : (s.ringSt r).breaks = []) (hwait : s.hive.waiting = []) (hcan : CanIssue s r p tag)
    (hgo : opEnumeration r p s = ((s.sends [s.assign r p]).handOver i).request 1 r p 1 0 [] 8 0) :
    opEnumeration r p s = ((s.assignSent r p).handOver i).asked r p tag := by
  have hsends : s.sends [s.assign r p] = s.assignSent r p := by
    rw [State.sends, if_pos hdrives, State.assign_whole hwhole, State.assignSent]
  have hand : HandedOver (s.assignSent r p) ((s.assignSent r p).handOver i) i := State.handOver_handedOver h hi hfes
  have hhive : ((s.assignSent r p).handOver i).hive = (s.assignSent r p).hive := (congrArg State.hive (hand.frame : _ = _)).trans rfl
  rw [hgo, hsends]
  exact State.request_issued hand.confined.wf (hcan.of_same ((congrArg HiveState.tx hhive).trans rfl) ((congrArg HiveState.rings hhive).trans rfl)
    fun a ha => hand.confined.word a (issueRegs_not_mem_handOverRegs hr hi a ha)) ((congrArg HiveState.waiting hhive).trans hwait)

/-- Nothing but registers, HIVE's record, the front ends and the records of CAL and CELL differs. -/
abbrev EnumFrame (s t : State) : Prop := t = { s with regs := t.regs, hive := t.hive, fes := t.fes, cal := t.cal, cell := t.cell }

theorem EnumFrame.trans (h : EnumFrame s t) (h' : EnumFrame t u) : EnumFrame s u :=
  Eq.trans h' (congrArg (fun x : State => { x with regs := u.regs, hive := u.hive, fes := u.fes, cal := u.cal, cell := u.cell }) h)

theorem HiveRegs.enumFrame (h : HiveRegs s t) : EnumFrame s t :=
  Eq.trans h (congrArg (fun x : State => { s with regs := t.regs, hive := t.hive, fes := x.fes, cal := x.cal, cell := x.cell }) h).symm

theorem SlotFrame.enumFrame (h : SlotFrame s t) : EnumFrame s t :=
  Eq.trans h (congrArg (fun x : State => { s with regs := t.regs, hive := x.hive, fes := t.fes, cal := t.cal, cell := t.cell }) h).symm

/-- What the enumeration of an absent cell shows. -/
structure Enumerated (s t : State) (r p i tag : Nat) : Prop where
  state : t.get CELL_SSTAT_STATE i = 1
  sent : t.hive.sent = [(r, false, assignFrame s r p false)]
  tx : t.hive.tx = s.hive.tx ++ [(identityRequest r p).issuedAs tag (s.nextGen tag)]
  fe : (t.fe i).st = 1 ∧ (t.fe i).byp = true ∧ (t.fe i).cyc = none
  pos : t.getPk OUT_ALLOC_POS_POS 8 4 i = 0xF
  trims : ∀ k < 4, t.word (CAL_T_IAC_G.addr i 0 + 4 * k) = 0
  frame : EnumFrame s t
  word : ∀ a, a ≠ 0x051214 → a ∉ handOverRegs i → t.word a = s.word a

theorem State.asked_enumerated (h : regsWf s) (hi : i < 192) (hfes : s.fes.length = 192) :
    Enumerated s (((s.assignSent r p).handOver i).asked r p tag) r p i tag := by
  have hsent : HiveRegs s (s.assignSent r p) := rfl
  have hnext : (s.assignSent r p).hive.tx = s.hive.tx ∧ (s.assignSent r p).nextGen tag = s.nextGen tag := ⟨rfl, rfl⟩
  have hand : HandedOver (s.assignSent r p) ((s.assignSent r p).handOver i) i := State.handOver_handedOver h hi hfes
  have hline : (s.assignSent r p).hive.sent = [(r, false, assignFrame s r p false)] := rfl
  have hword : ∀ a, (s.assignSent r p).word a = s.word a := State.word_congr rfl
  generalize (s.assignSent r p).handOver i = v at hand
  generalize s.assignSent r p = x at hsent hnext hand hline hword
  have hhive : v.hive = x.hive := (congrArg State.hive (hand.frame : _ = _)).trans rfl
  have hask := State.asked_confined hand.confined.wf r p tag
  have hfes' : (v.asked r p tag).fes = v.fes := rfl
  obtain ⟨hstat, hpos, htrim⟩ := handOverAddr i
  obtain ⟨htx, hgen⟩ := hnext
  obtain ⟨hsend, hissue⟩ := v.asked_hive r p tag
  refine ⟨(hask.get _ i 0 ?_).trans hand.state, ?sent, ?tx, ?fe, (congrArg (fieldOf · _ _) (hask.word _ ?_)).trans hand.pos,
    fun k hk => (hask.word _ ?_).trans (hand.trims k hk), (hsent.enumFrame.trans hand.frame.enumFrame).trans (v.asked_frame r p tag).enumFrame, ?word⟩
  case sent => rw [hsend, hhive, hline]
  case tx => rw [hissue, State.nextGen, hhive, htx, ← hgen]
  case fe => exact hand.fe
  case word => exact fun a hask' hmem => ((hask.word a hask').trans (hand.confined.word a hmem)).trans (hword a)
  all_goals omega

end Sys2Proof.Machine
end

section
/-! CERTIFICATE. KEY echoes, the keying and re-keying passes, and enumeration (R162 to R165, R170, R180, R187), settled. That POS of a KEY echo names its target and that KEYING_PASS sends the frames of its pass is log entry 84, and that the identity words are asked for first is log entry 32: the model's choices. -/

namespace Sys2Proof.Machine

open Sys2Proof.Safety

/-- Settles O30: a pass is its frames and its verdict, and the words follow from what the verdict stores. -/
theorem keyingAndEnumeration : Obligations.KeyingAndEnumeration := by
  unfold Obligations.KeyingAndEnumeration
  refine ⟨?echo, ?through, ?keyed, ?slow, ?agrees, ?disagrees, ?enumerated⟩
  case echo =>
    intro s r e f trip hup hon hframe hecho hopen hrings
    have hring := State.ringSt_setRingSt (r.isLt.trans_eq hrings.symm) { s.ringSt r with
      keyA := (s.ringSt r).keyA ++ if e then [] else [(s.keyTarget r e f, (trip : Int) - leAt f 4 2)],
      keyB := (s.ringSt r).keyB ++ if e then [(s.keyTarget r e f, (trip : Int) - leAt f 4 2)] else [] }
    exact ⟨_, State.next_up hup (opKeyEchoRx_echo hon hframe hecho hopen), congrArg RingSt.keyA hring, congrArg RingSt.keyB hring, (congrArg (s.setRingSt r) hring).symm⟩
  case through =>
    intro s r e f trip hup hon hframe hecho hrings
    obtain ⟨passed, hpassed, hop⟩ := opKeyEchoRx_through (e := e) (trip := trip) hon hframe hecho
    have hring := State.ringSt_setRingSt (r.isLt.trans_eq hrings.symm) { s.ringSt r with keyEnd := passed }
    exact ⟨_, State.next_up hup hop, (congrArg (fun x : RingSt => x.keyEnd.contains (!e)) hring).trans hpassed, (congrArg RingSt.keyA hring :),
      (congrArg RingSt.keyB hring :), (congrArg (s.setRingSt r) hring).symm⟩
  case keyed =>
    intro s r m hwf hup hon hkeyed hlen hpos hmax hwhole hquick hagree hlenB hrings
    have hkeys := State.takeKeys_keysAgreed (s := s.unsent) hwf r.isLt (r.isLt.trans_eq hrings.symm) hwhole hlen hlenB hpos hmax hquick hagree
    refine ⟨_, State.next_up hup (opKeyingPass_on hon hkeyed), hkeys.found, hkeys.keyed, hkeys.mode, hkeys.upA, hkeys.upB, fun p hp => ?_⟩
    obtain ⟨hdelayA, hdelayB⟩ := hkeys.delays p (List.mem_range.1 hp)
    exact ⟨hdelayA, hdelayB, hkeys.multi, hkeys.ring, fun hdrives => hkeys.sent hdrives rfl, HiveRegs.trans (t := s.unsent) rfl hkeys.frame, hkeys.word⟩
  case slow =>
    intro s r m hwf hup hon hkeyed hlen hpos hmax hslow hwhole
    have hop := (opKeyingPass_on hon hkeyed).trans (State.takeKeys_slow (s := s.unsent) hwhole hlen hslow)
    have hwf' : regsWf (s.unsent.unkeyed r m) := (State.unkeyed_confined (s := s.unsent) hwf r m).wf
    have hframe : HiveRegs s (s.unsent.unkeyed r m) := HiveRegs.trans (t := s.unsent) rfl (s.unsent.unkeyed_hiveRegs r m)
    obtain ⟨hflag, hword⟩ := State.unkeyed_failed (s := s.unsent) hwf r.isLt m 0x0520
    obtain ⟨hreason, hunit, hoffset, hevent⟩ := State.keyFailed_shows hwf' r.isLt 0x0520
    exact ⟨_, State.next_up hup hop, hflag, hreason, hunit, hoffset, hevent, hframe.hold.trans (State.keyFailed_hold hwf' r 0x0520), hword⟩
  case agrees =>
    intro s r m hup hon hask hhealed hkeyed hrings hlenA hlenB hA hB
    refine ⟨_, State.next_up hup (opRekeyPass_agrees hon hask hhealed hkeyed hlenA hlenB hA hB), State.ringSt_rekeyEnded (r.isLt.trans_eq hrings.symm) m 2,
      fun hdrives => ?_, s.rekeyEnded_frame r m 2⟩
    rw [State.rekeyEnded_sent hdrives, hlenA, hlenB]
  case disagrees =>
    intro s r m hwf hup hon hask hhealed hkeyed hrings hA
    have hended := State.rekeyEnded_confined hwf r m 3
    have hring := ((s.rekeyEnded r m 3).ringSt_keyFailed r 0x0522).trans (State.ringSt_rekeyEnded (r.isLt.trans_eq hrings.symm) m 3)
    have hframe : HiveRegs s (s.rekeyEnded r m 3) := .setRingSt (.sends rfl _) ..
    obtain ⟨hreason, hunit, hoffset, hevent⟩ := State.keyFailed_shows hended.wf r.isLt 0x0522
    exact ⟨_, State.next_up hup (opRekeyPass_disagrees hon hask hhealed hkeyed hA), congrArg RingSt.rekey hring, hreason, hunit, hoffset, hevent,
      hframe.hold.trans (State.keyFailed_hold hended.wf r 0x0522), fun a ha => ((State.keyFailed_confined hended.wf r 0x0522).word a ha).trans (hended.word a id)⟩
  case enumerated =>
    intro s r p i tag hwf hup hon hkeyed hp hcell hslot hpath hplace hbefore habsent hdrives hwhole hwait hfree hroom halone hfes
    have hi := (State.slotAt_some hslot).1
    have hgo := opEnumeration_absent hon hkeyed hp hcell hslot habsent hpath hbefore
    have hop := opEnumeration_asked hwf r.isLt hi hfes hdrives hwhole hwait ⟨hpath, hfree, hroom, hplace, halone⟩ hgo
    have henum := State.asked_enumerated (r := r) (p := p) (tag := tag) hwf hi hfes
    obtain ⟨hst, hbyp, hcyc⟩ := henum.fe
    refine ⟨_, State.next_up hup hop, henum.state, henum.sent, henum.tx, hst, hbyp, hcyc, henum.pos, fun k hk => ⟨henum.trims k (List.mem_range.1 hk), henum.frame, ?_⟩⟩
    intro a ha
    obtain ⟨hstat, hother⟩ := not_or.1 (mt List.mem_cons.2 ha)
    obtain ⟨hmbx, hregs⟩ := not_or.1 (mt List.mem_cons.2 hother)
    exact henum.word a hmbx (List.not_mem_cons_of_ne_of_not_mem hstat hregs)

end Sys2Proof.Machine
end
